-- ==== Sys2Proof/Word.lean ====
section
/-! DEFINITION. Words and bytes of the block: the byte type, byte strings, and the little-endian and
big-endian readings of them (R9: registers and records in memory are little-endian, frames on the wire
follow their standard and are big-endian). -/

namespace Sys2Proof

/-- One byte. -/
abbrev Byte := BitVec 8

/-- A byte string, first byte first. -/
abbrev Bytes := List Byte

/-- The bits of an IEEE 754 binary32 value (R10). -/
abbrev F32 := BitVec 32

/-- An instant or an interval of internal time, in units of 2^-16 ns counted from the PTP epoch (R13). -/
abbrev Tai := Nat

/-- 1 ns in units of `Tai`. -/
def nsUnit : Nat := 65536

/-- 1 µs in units of `Tai`. -/
def usUnit : Nat := 1000 * nsUnit

/-- 1 ms in units of `Tai`. -/
def msUnit : Nat := 1000000 * nsUnit

/-- 1 s in units of `Tai`. -/
def secUnit : Nat := 1000000000 * nsUnit

/-- The number a little-endian byte string holds. -/
def leVal : Bytes → Nat
  | [] => 0
  | b :: bs => b.toNat + 256 * leVal bs

/-- The number a big-endian byte string holds. -/
def beVal (bs : Bytes) : Nat := leVal bs.reverse

/-- `n` little-endian bytes of a number. -/
def leBytes : Nat → Nat → Bytes
  | 0, _ => []
  | n + 1, v => BitVec.ofNat 8 v :: leBytes n (v / 256)

/-- `n` big-endian bytes of a number. -/
def beBytes (n v : Nat) : Bytes := (leBytes n v).reverse

/-- `n` bytes of a string from an offset; bytes past its end are left out. -/
def slice (bs : Bytes) (off n : Nat) : Bytes := (bs.drop off).take n

/-- The little-endian field of `n` bytes at an offset. -/
def leAt (bs : Bytes) (off n : Nat) : Nat := leVal (slice bs off n)

/-- The big-endian field of `n` bytes at an offset. -/
def beAt (bs : Bytes) (off n : Nat) : Nat := beVal (slice bs off n)

/-- Bits `lsb` to `lsb + width - 1` of a number. -/
def bitsOf (v lsb width : Nat) : Nat := v / 2 ^ lsb % 2 ^ width

/-- Whether bit `k` of a number is 1. -/
def bitAt (v k : Nat) : Bool := bitsOf v k 1 == 1

/-- A number with bit `k` set or cleared. -/
def setBit (v k : Nat) (b : Bool) : Nat :=
  if bitAt v k then (if b then v else v - 2 ^ k) else (if b then v + 2 ^ k else v)

/-- A Boolean as a bit. -/
def b2n (b : Bool) : Nat := if b then 1 else 0

/-- The two's-complement reading of a `w`-bit number. -/
def signedOf (w v : Nat) : Int := if v % 2 ^ w < 2 ^ (w - 1) then (v % 2 ^ w : Nat) else (v % 2 ^ w : Nat) - (2 ^ w : Nat)

/-- The `w`-bit two's-complement code of an integer. -/
def codeOf (w : Nat) (i : Int) : Nat := (i % (2 ^ w : Nat)).toNat

/-- An integer held to the range of a signed `w`-bit field (a saturating field). -/
def saturate (w : Nat) (i : Int) : Int :=
  if i < -(2 ^ (w - 1) : Nat) then -(2 ^ (w - 1) : Nat)
  else if (2 ^ (w - 1) : Nat) ≤ i then (2 ^ (w - 1) : Nat) - 1 else i

/-- A number held between two bounds. -/
def clampN (lo hi v : Nat) : Nat := if v < lo then lo else if hi < v then hi else v

/-- The number a signed quantity divides to, rounded to the nearest integer, halves up. -/
def roundDiv (a : Int) (b : Nat) : Int := (2 * a + b) / (2 * b : Nat)

/-- The smallest quotient that covers a number. -/
def ceilDiv (a b : Nat) : Nat := (a + b - 1) / b

/-- The first element's position for which a test holds. -/
def findPos {α : Type} (p : α → Bool) : List α → Option Nat
  | [] => none
  | a :: as => if p a then some 0 else (findPos p as).map (· + 1)

/-- A list with the element at a position changed. -/
def modAt {α : Type} (f : α → α) : Nat → List α → List α
  | _, [] => []
  | 0, a :: as => f a :: as
  | n + 1, a :: as => a :: modAt f n as

/-- A list with the element at a position replaced. -/
def setAt {α : Type} (a : α) (n : Nat) (l : List α) : List α := modAt (fun _ => a) n l

/-- The value an association list holds at a key. -/
def alookup {κ α : Type} [DecidableEq κ] (k : κ) : List (κ × α) → Option α
  | [] => none
  | (k', a) :: r => if k = k' then some a else alookup k r

/-- An association list with the entries of one key removed. -/
def aerase {κ α : Type} [DecidableEq κ] (k : κ) (l : List (κ × α)) : List (κ × α) :=
  l.filter fun e => decide (e.1 ≠ k)

/-- An association list with one key bound to a value; the newest binding stands first. -/
def aset {κ α : Type} [DecidableEq κ] (k : κ) (a : α) (l : List (κ × α)) : List (κ × α) :=
  (k, a) :: aerase k l

end Sys2Proof
end

