-- ==== Sys2Proof/Config.lean ====
section
/-! DEFINITION. What one part fixes and what the spec leaves open: the free values (no body, so nothing can be proved of
their values), and the standard functions that the spec names by their standard and does not restate (SHA-512, Ed25519,
HMAC, HKDF, correctly rounded elementary functions), which stand here as uninterpreted functions. Log entries 1 to 4. -/

namespace Sys2Proof.Config

/-- A free value: entry `n` of an unknown sequence. A meaning that needs a value the spec leaves open takes the
entry that `State.freeCount` names, reduced to the value's width, and advances the counter (log entry 1). -/
opaque freeNat : Nat → Nat

/-- A bit the spec leaves open, entry `n` of an unknown sequence (log entry 1). -/
opaque freeBool : Nat → Bool

/-- SHA-512 of a byte string, 64 bytes (R67, R123, R124, R497; FIPS 180-4 by name; log entry 2). -/
opaque sha512 : Bytes → Bytes

/-- Ed25519 signature (RFC 8032) of a message under a 32-byte seed (log entry 2). -/
opaque ed25519Sign : Bytes → Bytes → Bytes

/-- Ed25519 verification: public key, message, signature (log entry 2). -/
opaque ed25519Verify : Bytes → Bytes → Bytes → Bool

/-- Ed25519 public key of a 32-byte seed (log entry 2). -/
opaque ed25519Public : Bytes → Bytes

/-- HKDF (RFC 5869) with SHA-512: salt, input key, info, length in bytes (R463; log entry 2). -/
opaque hkdf : Bytes → Bytes → Bytes → Nat → Bytes

/-- HMAC with SHA-256 or SHA-512 as its caller's rule names it: key, message (log entry 2). -/
opaque hmac : Bytes → Bytes → Bytes

/-- AES-GMAC (R235; log entry 2): key, message. -/
opaque gmac : Bytes → Bytes → Bytes

/-- The correctly rounded binary32 sine of a binary32 value (log entry 3). -/
opaque sinF : F32 → F32

/-- The correctly rounded binary32 cosine (log entry 3). -/
opaque cosF : F32 → F32

/-- The correctly rounded binary32 arc tangent of y, x (log entry 3). -/
opaque atan2F : F32 → F32 → F32

/-- The correctly rounded binary32 natural logarithm (log entry 3). -/
opaque logF : F32 → F32

/-- The correctly rounded binary32 exponential (log entry 3). -/
opaque expF : F32 → F32

/-- The correctly rounded binary32 arc cosine (log entry 3). -/
opaque acosF : F32 → F32

/-- A TDC channel's fixed latency to the ball in 2^-16 ns, by channel and mode of its port (R201, R204, R205; log entry 115). -/
opaque tdcLatency : Nat → Nat → Nat

/-- How far a converted value lies from the exactly rounded one, in units in the last place; only its residue modulo 5 is used,
which the meaning holds within the 2 units R232 allows (log entry 5). -/
opaque ulpError : Rat → Int

/-- Mantissa bits beyond 40 of the filter chain's accumulator (R247; log entry 6). -/
opaque extraBits : Nat

/-- The cosine of 2π·k/N to the precision of the wide format (R340; log entry 3). -/
opaque cosTurn : Nat → Nat → Rat

/-- The sine of 2π·k/N to the precision of the wide format (R340; log entry 3). -/
opaque sinTurn : Nat → Nat → Rat

end Sys2Proof.Config
end

