-- ==== Sys2Proof/Syntax.lean ====
section
/-! DEFINITION. The commands the block takes, one constructor per row of spec/opcode_table.json, and the types of their
operands. An operand is what the outside supplies with the command: the requester, the value written, the frame received,
the instant of an edge, what a read of a source gave. -/

namespace Sys2Proof.Machine

/-- Who issues a register access or a command (R89, R98, R440): the two PCIe functions, a physical application core,
the security core. -/
inductive Requester where
  | pf0
  | pf1
  | core (k : Nat)
  | sec
  deriving DecidableEq, Repr

/-- A roast image as a source delivers it (R119): the bytes before SECTIONS_BASE, and the tiles in order. -/
structure Image where
  head : Bytes := []
  tiles : List Bytes := []
  deriving DecidableEq, Repr

/-- What reading an image's source gave: a flash read that could not be completed, a host buffer that could not be read
or fell short, or the image (R134). -/
structure LoadReport where
  flashErr : Bool := false
  dmaErr : Bool := false
  image : Image := {}
  deriving DecidableEq, Repr

/-- A firmware image as read from its slot (R461): the 256 header bytes and the body. -/
structure FwImage where
  header : Bytes := []
  body : Bytes := []
  deriving DecidableEq, Repr

/-- What the work of a ledger step found outside the block's own registers (R71, R544). -/
structure StepReport where
  /-- the step's own check passed (fuse copies agree, self-test, pattern, calibration, ports ready, ...) -/
  ok : Bool := true
  /-- the flash could not be read -/
  flashErr : Bool := false
  /-- the firmware image a firmware step read -/
  fw : FwImage := {}
  /-- the roast data a roast step read -/
  load : LoadReport := {}
  /-- step 5: Carafe rows made permanent by post-package repair (R535) -/
  repaired : Nat := 0
  /-- step 13: the lanes EAST and WEST run on -/
  lanesE : Nat := 0
  lanesW : Nat := 0
  deriving DecidableEq, Repr

/-- What a flash command found in the flash (R537). -/
structure FlashReport where
  flashErr : Bool := false
  /-- the images of a firmware slot -/
  stage1 : FwImage := {}
  main : FwImage := {}
  /-- the image of a roast slot -/
  load : LoadReport := {}
  deriving DecidableEq, Repr

/-- The stamp of an edge as its event carries it (R201): the time-base cycle that followed it, and the TDC channel's fine code. -/
structure TdcStamp where
  cycle : Tai := 0
  code : Nat := 0
  deriving DecidableEq, Repr

/-- An edge at a glitch filter (R50): how long the level it leads to is held, in ns, and the edge's stamp. -/
structure HeldEdge where
  heldNs : Nat := 0
  cycle : Tai := 0
  code : Nat := 0
  deriving DecidableEq, Repr

/-- What the supplies did before a power-on reset and stand at (R47, R55, R59). -/
structure Rails where
  /-- false where the power-down before it broke R55 -/
  orderly : Bool := true
  /-- VDDIO18 and VDDIO33 are present -/
  io18 : Bool := true
  io33 : Bool := true
  /-- VDD_SD in mV -/
  sdMv : Nat := 0
  deriving DecidableEq, Repr

/-- A write of BOOT_SOFTRST (R545): its value, and whether it came within 1 µs of the reset in force (R87). -/
structure SoftReset where
  key : Nat
  co : Bool := false
  deriving DecidableEq, Repr

/-- What a Dregs command names and meets (R171, R172): its SEQ, and the words stored of a packet that still arrives. -/
structure DregsMark where
  seq : Nat := 0
  arriving : Option Nat := none
  deriving DecidableEq, Repr

/-- A decoded IRIG-B frame (R193): the time-base cycle that followed the rising edge of the Pr reference marker and its fine code (R201), what was decoded, and the IEEE 1344 fields. -/
structure IrigFrame where
  stamp : Tai := 0
  code : Nat := 0
  parityOk : Bool := true
  /-- the IEEE 1344 extension is present: year, time quality, leap bits -/
  ext : Bool := false
  tq : Nat := 0
  year : Nat := 1970
  /-- day of the year from 1, and second of the day -/
  day : Nat := 1
  sod : Nat := 0
  leapPending : Bool := false
  leapDel : Bool := false
  deriving DecidableEq, Repr

/-- A ring of descriptors (R158, R180, R207, R224). -/
inductive Ring where
  /-- receive ring r of port p -/
  | rx (p r : Nat)
  /-- transmit ring r of port p -/
  | tx (p r : Nat)
  /-- PTP transmit ring of port p -/
  | ptp (p : Nat)
  /-- injection ring -/
  | inj
  deriving DecidableEq, Repr

/-- A block with EN, BUSY and PEND (R106). -/
inductive Block where
  | port (p : Nat)
  | ring (r : Ring)
  | ingQueue (n : Nat)
  | parser
  | filter
  | filterGroup (g : Nat)
  | aligner
  | hostRing
  | alarm
  | capture
  | energy
  | cascade
  deriving DecidableEq, Repr

/-- What kind of mPacket a port received (R177): an ordinary or reassembled frame, a verify or a respond mPacket. -/
inductive MPacket where
  | data
  | verify
  | respond
  deriving DecidableEq, Repr

/-- A frame as it arrives at a port (R153 to R168). -/
structure RxFrame where
  /-- destination address to the last byte before the FCS -/
  bytes : Bytes := []
  kind : MPacket := .data
  sfdOk : Bool := true
  fcsOk : Bool := true
  /-- continuation fragments, and whether they could be reassembled -/
  fragments : Nat := 0
  assembled : Bool := true
  /-- the time-base cycle that followed the start-of-frame delimiter, and the fine code of the port's TDC channel (R201) -/
  stamp : Tai := 0
  code : Nat := 0
  /-- the store-and-forward FIFO had room throughout (R157) -/
  fifoFits : Bool := true
  /-- BUF_ADDR of the descriptors from the ring's HEAD on, as the device reads them -/
  bufs : List Nat := []
  /-- the parser had started on the packet under cut-through (R168) -/
  started : Bool := false
  /-- RS-FEC codewords corrected and uncorrectable since the frame before (FEC_CORRECTED, FEC_UNCORRECTABLE of R186) -/
  fecCorrected : Nat := 0
  fecFailed : Nat := 0
  deriving DecidableEq, Repr

/-- The state of a link as the PCS reports it (R176, R186). -/
structure LinkReport where
  up : Bool := false
  pcsLock : Bool := false
  fecLock : Bool := false
  anDone : Bool := false
  speed : Nat := 0
  deriving DecidableEq, Repr

/-- What a stage of the per-slice schedule reports (R26, R130, R140): when it ended, the handshakes it counted, the tile copies its
checks found bad (0 or 1, or 2 for the SRAM copy; tile), the device that failed the check of R359. -/
structure StageReport where
  stop : Tai := 0
  handshakes : Nat := 0
  bad : List (Nat × Nat) := []
  errDev : Option Nat := none
  /-- copies found bad in the LSE's second solve slot (R317) -/
  bad2 : List (Nat × Nat) := []
  /-- the oscillation engine's state store (R344): errors corrected, and items with an uncorrectable error: 0 band, 1 monitor,
  2 sub-synchronous watch, 3 corridor; index -/
  corrected : Nat := 0
  uncorrected : List (Nat × Nat) := []
  /-- the LSE stage: physical sweep units whose test pattern failed after it (R532) -/
  unitFail : List Nat := []
  deriving DecidableEq, Repr

/-- The item windows of the ISL registers (R373). -/
inductive IslItem where
  | dev | node | area | pair | island
  deriving DecidableEq, Repr

/-- The result windows of the OSC registers (R350). -/
inductive OscItem where
  | band | flow | subsync
  deriving DecidableEq, Repr

/-- What is offered to a transmit queue (R388): the frame at the head of a ring with word 0x08 of its descriptor, or output stream k's
waiting frames. -/
inductive TxOffer where
  | ring (r : Ring) (bytes : Bytes) (word : Nat)
  | output (k : Nat)
  deriving DecidableEq, Repr

/-- What a ring message carries (R509). -/
inductive RingBody where
  /-- health, SLICE_RATE, roast tag, lanes of both ports, TAKEN mask -/
  | presence (ok : Bool) (rate tag lanesE lanesW taken : Nat)
  /-- share number; for each slot its 8-byte value as two words, and its quality word -/
  | share (number : Nat) (slots : List (F32 × F32 × Nat))
  /-- arm mask, disarm mask -/
  | arm (arm disarm : Nat)
  | takeover (peer : Nat)
  deriving DecidableEq, Repr

/-- A ring message (R509): the sender's ID, tag and sequence number, the slice index, the contents. -/
structure RingMsg where
  id : Nat
  tag : Nat
  seq : Nat
  n : Nat
  body : RingBody
  deriving DecidableEq, Repr

/-- What a finished copy of a capture record reports (R398, R402): its slot, when it ended, the lane samples and slices overwritten before
their copy (lane and position in the lane's block; slice index). -/
structure CapReport where
  t : Tai := 0
  slot : Nat := 0
  lostWave : List (Nat × Nat) := []
  lostSlices : List Nat := []
  deriving DecidableEq, Repr

/-- What a Carafe read with an error was reading (R536): a tile copy; a 64-byte unit of a history record, its values first; a capture
record with the lane samples and slices the unit holds; firmware heap; anything else. -/
inductive CarafePlace where
  | tile (region copy tile : Nat)
  | history (n unit : Nat)
  | capture (slot : Nat) (wave : List (Nat × Nat)) (slices : List Nat)
  | heap
  | other
  deriving DecidableEq, Repr

/-- The frame at the head of the injection ring (R224): its bytes, word 0x08 of its descriptor, the four words of the receive stamp at 0x10. -/
structure InjFrame where
  bytes : Bytes := []
  word : Nat := 0
  stamp : Bytes := []
  deriving DecidableEq, Repr

end Sys2Proof.Machine

namespace Sys2Proof

open Machine

/-- The commands (spec/opcode_table.json, in its order, but that the rows without operands stand last; each docstring names the row and its
rule). -/
inductive Instr where
  /-- POWER_ON_RESET, R56: A monitored rail falls below its threshold for 2 µs or more, or is below it at power-up, and the internal power-on reset holds the device in reset. -/
  | powerOnReset (dipNs : Nat) (powerUp : Bool) (rails : Rails) (co : Bool)
  /-- RESET_N_ASSERT, R50: A low level on RESET_N accepted by the glitch filter starts a reset that clears registers, cores, fabric and ports. -/
  | resetNAssert (lowNs : Nat) (co : Bool)
  /-- RESET_END, R56: Reset ends (rails and RESET_N settled, or the 50 µs soft or watchdog hold expired), straps are sampled and the boot ROM starts the ledger at step 1. -/
  | resetEnd (casId : Nat) (testEn : Bool)
  /-- LEDGER_STEP_COMPLETE, R71: A ledger step finishes its work, its outcome is written to backup domain and NVS, and the next step is entered. -/
  | ledgerStepComplete (r : StepReport)
  /-- BOOT_ROAST_GO, R70: Host write starts DMA delivery of the roast sections while ROAST_REQ is 1. -/
  | bootRoastGo (who : Requester)
  /-- CLEAR_ATTEMPTS, R81: BOOT_CTL.CLEAR_ATTEMPTS sets every ledger ATTEMPTS to 0. -/
  | clearAttempts (who : Requester)
  /-- FULL_TRAIN, R73: BOOT_CTL.FULL_TRAIN requests full Carafe training at the next start and drops stored step 5 parameters. -/
  | fullTrain (who : Requester)
  /-- FULL_CAL, R73: BOOT_CTL.FULL_CAL requests full SerDes calibration at the next start and drops stored step 6 parameters. -/
  | fullCal (who : Requester)
  /-- STAY_SAFE, R82: BOOT_CTL.STAY_SAFE makes the next start enter safe mode after step 4. -/
  | staySafe (who : Requester)
  /-- SLOT_PREFERENCE_WRITE, R73: A BOOT_CTL write setting none of the command bits writes FW_PREF and ROAST_PREF to the NVS and drops the remembered slots. -/
  | slotPreferenceWrite (who : Requester) (fw : Bool) (roast : Bool)
  /-- HOST_SOFT_RESET, R545: Writing the BOOT_SOFTRST key starts a host soft reset held for 50 µs. -/
  | hostSoftReset (who : Requester) (w : SoftReset)
  /-- HEARTBEAT_KICK, R84: Firmware kick of BOOT_HEARTBEAT restarts the watchdog period. -/
  | heartbeatKick (who : Requester)
  /-- WATCHDOG_EXPIRY, R84: No kick for the whole watchdog period causes a watchdog reset with KIND 3. -/
  | watchdogExpiry (co : Bool)
  /-- REGISTER_WRITE, R105: A write to a register field without a row of its own takes effect within 1 µs, subject to guarding, locking, width and observer rules. -/
  | registerWrite (who : Requester) (addr : Nat) (wide : Bool) (value : Nat) (byteEn : Nat)
  /-- BAR0_LONG_WRITE, R96: A BAR0 write longer than two doublewords is discarded whole and sets LONG_WR. -/
  | bar0LongWrite (who : Requester) (addr : Nat) (words : Nat)
  /-- BAR2_WRITE, R94: A write to BAR2 is discarded and sets BAR2_WR. -/
  | bar2Write (who : Requester)
  /-- HIF_SNAP, R103: A snapshot request copies every counter into the requester's holding set at one time-base cycle. -/
  | hifSnap (who : Requester)
  /-- SNAPSHOT_COPY_DONE, R103: The snapshot copy completes within 2 µs and held reads of the holding copies complete. -/
  | snapshotCopyDone (who : Requester)
  /-- OWNER_CLAIM, R100: PF0 writes HIF_OWNER.CLAIM to enter owner state, at once or by signature verification. -/
  | ownerClaim (who : Requester)
  /-- OWNER_RELEASE, R101: HIF_OWNER.RELEASE ends owner state and rolls back an open PF0 transaction. -/
  | ownerRelease (who : Requester)
  /-- TXN_BEGIN, R107: CFG_TXN_BEGIN opens the device-wide configuration transaction or is refused with BEGIN_REFUSED. -/
  | txnBegin (who : Requester)
  /-- RWT_WRITE, R108: A write to an RWT field is staged in the open transaction or discarded with NO_TXN or TXN_FULL. -/
  | rwtWrite (who : Requester) (addr : Nat) (wide : Bool) (value : Nat)
  /-- TXN_COMMIT, R111: CFG_TXN_COMMIT is accepted, refused or applied at once depending on overflow, swap and aligner state. -/
  | txnCommit (who : Requester) (t : Tai)
  /-- TXN_ROLLBACK, R110: CFG_TXN_ROLLBACK from the owner discards staging and returns to IDLE with ROLLED_BACK_HOST. -/
  | txnRollback (who : Requester)
  /-- CRC_SUSPEND, R117: A write to CFG_CRC_CTL.SUSPEND stops or resumes comparison and resets the differing-scan count. -/
  | crcSuspend (who : Requester) (on : Bool)
  /-- CRC_ADOPT, R116: CFG_CRC_CTL.ADOPT copies the next complete scan into the reference and sets REF_VALID. -/
  | crcAdopt (who : Requester)
  /-- ROAST_LOAD, R143: CFG_ROAST_CTL.LOAD starts loading a shadow roast from a flash slot or host buffer. -/
  | roastLoad (who : Requester) (src : Nat)
  /-- SHADOW_LOAD_DONE, R143: The shadow load finishes its checks and loading and ends in READY or FAILED, raising vector 1. -/
  | shadowLoadDone (d : LoadReport)
  /-- ROAST_DISCARD, R144: CFG_ROAST_CTL.DISCARD empties a READY or FAILED shadow or aborts a LOADING one. -/
  | roastDiscard (who : Requester)
  /-- RAISE_FLOOR, R136: CFG_ROAST_CTL.RAISE_FLOOR raises the roast SVN floor in the NVS to the active roast's SVN. -/
  | raiseFloor (who : Requester)
  /-- SWAP_REQUEST, R145: CFG_SWAP_CTL.REQUEST asks to replace the active roast at slice D and is accepted, held or refused. -/
  | swapRequest (who : Requester) (d : Nat) (auto : Bool)
  /-- SWAP_CANCEL, R150: CFG_SWAP_CTL.CANCEL ends a pending or held swap with CANCELLED when permitted. -/
  | swapCancel (who : Requester)
  /-- RETIRING_END, R149: When slices below D have completed and D−1's revision window ends, the old region is freed and SHADOW becomes EMPTY. -/
  | retiringEnd (t : Tai)
  /-- SCRUB_TILE_READ, R142: The scrubber reads and checks a tile copy and rewrites a bad copy from its good twin. -/
  | scrubTileRead (region : Nat) (copy : Nat) (tile : Nat) (good : Bool)
  /-- FLASH_SECTION_REREAD, R142: The scrubber rereads a section from flash to repair tiles with no good copy, repeated every 10 s until it succeeds. -/
  | flashSectionReread (d : LoadReport)
  /-- REPAIR_GO, R142: CFG_REPAIR_GO starts the read of a host-delivered section for tile repair. -/
  | repairGo (who : Requester)
  /-- REPAIR_DELIVERY_DONE, R142: A host repair delivery completes, its digest is checked and the bad tiles are rewritten or left bad. -/
  | repairDeliveryDone (d : LoadReport)
  /-- FRAME_RECEIVE, R153: A frame received on an Ethernet port is checked, filtered, classified and delivered to a ring or an ingress queue. -/
  | frameReceive (p : Nat) (f : RxFrame)
  /-- RING_EVENT_HOLDOFF_EXPIRY, R164: After the ring holdoff a pending ring event sets the host IRQ bit or signals the Barista wait object.
  No ring stands for the aligner's host ring (R294). -/
  | ringEventHoldoffExpiry (r : Option Ring) (t : Tai)
  /-- DREGS, R171: ING_Qn_CMD.DREGS discards the rest of the head packet of an ingress queue, optionally only on sequence match. -/
  | dregs (who : Requester) (n : Nat) (seqMatch : Bool) (mark : DregsMark)
  /-- TX_FRAME_OFFER, R388: A frame from a transmit ring, PTP ring or output stream is offered to a transmit queue once there is space and checked by the Saucer. -/
  | txFrameOffer (t : Tai) (o : TxOffer)
  /-- TX_FRAME_COMPLETE, R179: A transmitted frame ends, is counted, its descriptor completes and the MAC starts the head frame of the highest non-empty queue. -/
  | txFrameComplete (p : Nat) (stamp : TdcStamp)
  /-- LINK_STATE_CHANGE, R176: A port link goes down or up, discarding frames while down and restarting preemption verification on up. -/
  | linkStateChange (p : Nat) (l : LinkReport)
  /-- PREEMPT_VERIFY_TIMEOUT, R177: A verify mPacket interval elapses without response and another is sent or verification fails. -/
  | preemptVerifyTimeout (p : Nat)
  /-- MDIO_WRITE, R186: MACM0_MDIO GO with OP 0 starts a Clause 22 write. -/
  | mdioWrite (who : Requester) (phy : Nat) (reg : Nat) (data : Nat)
  /-- MDIO_READ, R186: MACM0_MDIO GO with OP 1 starts a Clause 22 read. -/
  | mdioRead (who : Requester) (phy : Nat) (reg : Nat) (data : Nat)
  /-- MDIO_C45_ADDRESS, R186: MACM0_MDIO GO with OP 2 starts a Clause 45 address cycle. -/
  | mdioC45Address (who : Requester) (phy : Nat) (reg : Nat) (data : Nat)
  /-- MDIO_C45_READ, R186: MACM0_MDIO GO with OP 3 starts a Clause 45 read. -/
  | mdioC45Read (who : Requester) (phy : Nat) (reg : Nat) (data : Nat)
  /-- MDIO_DONE, R186: An MDIO operation completes, DATA is updated and GO clears. -/
  | mdioDone (data : Nat)
  /-- PORT_ENABLE, R106: A write to MACp_CTL.EN starts or shuts down a port under the enable rules. -/
  | portEnable (who : Requester) (p : Nat) (en : Bool)
  /-- RING_ENABLE, R106: A write to a receive or transmit ring EN starts or shuts down the ring. -/
  | ringEnable (who : Requester) (r : Ring) (en : Bool)
  /-- INGRESS_QUEUE_ENABLE, R173: A write to ING_Qn_CTL.EN starts a queue or shuts it down and drains it. -/
  | ingressQueueEnable (who : Requester) (n : Nat) (en : Bool)
  /-- PARSER_ENABLE, R241: A write to ING_CTL.EN starts or shuts down the stream parser. -/
  | parserEnable (who : Requester) (en : Bool)
  /-- BLOCK_SHUTDOWN_COMPLETE, R106: A block shutdown quiesces, BUSY clears, and a pending re-enable starts the block again. -/
  | blockShutdownComplete (b : Block) (bufs : List Nat)
  /-- TIME_BASE_TICK, R195: At each 1 ms tick qualification and reference selection are updated, steps applied, time state and error estimate recomputed. -/
  | timeBaseTick (t : Tai)
  /-- STEP_GO, R190: TSU_CTL.STEP_GO requests application of TSU_STEP at the next tick. -/
  | stepGo (who : Requester)
  /-- TSU_SAMPLE_GO, R197: Firmware submits a PTP offset sample for a record, used for qualification and the disciplining loop. -/
  | tsuSampleGo (who : Requester) (k : Nat) (ofs : Nat)
  /-- PPS_IN_EDGE, R193: A PPS_IN rising edge is stamped by the TDC and gives a phase offset sample. -/
  | ppsInEdge (stamp : TdcStamp)
  /-- IRIG_B_FRAME, R193: An IRIG-B frame is decoded and, if valid, gives a phase and time-of-day sample and leap information. -/
  | irigBFrame (f : IrigFrame)
  /-- REF10M_SECOND, R193: REF10M_IN edges counted over a second give a frequency sample. -/
  | ref10mSecond (t : Tai) (y : Int)
  /-- TDC_CALIBRATION, R202: A TDC channel completes a code-density calibration and replaces or keeps its table. -/
  | tdcCalibration (ch : Nat) (bins : List Nat)
  /-- TSU_TIME_LATCH, R191: A read of TSU_TIME_0 latches all four time words for the requester. -/
  | tsuTimeLatch (who : Requester) (t : Tai)
  /-- LEAP_SECOND, R217: At the end of the UTC day with a pending leap, OFFSET changes by one second and PENDING clears. -/
  | leapSecond (t : Tai)
  /-- PPS_OUT_PULSE, R219: PPS_OUT rises at each whole TAI second when enabled. -/
  | ppsOutPulse (t : Tai)
  /-- PARSE_PACKET, R222: The stream parser takes a whole packet from a queue or the injection ring, checks, matches and decodes it and commits channel writes. -/
  | parsePacket (t : Tai) (j : InjFrame) (bufs : List Nat)
  /-- GOOSE_STALE, R236: A subscription with no frame for twice timeAllowedToLive delivers STALE for all its points. -/
  | gooseStale (t : Tai)
  /-- STAGE_TPL, R238: ING_TPL_CMD STAGE_TPL stages ING_TPL_BUF as the new template of the selected stream. -/
  | stageTpl (who : Requester)
  /-- STAGE_REC, R238: ING_TPL_CMD STAGE_REC stages new match keys for a group's first record. -/
  | stageRec (who : Requester)
  /-- RESUME, R238: ING_TPL_CMD RESUME applies all staged items of a group at resume slice n_now+2 or refuses whole. -/
  | resume (who : Requester)
  /-- SUSPEND, R237: ING_TPL_CMD SUSPEND suspends the group of the selected stream. -/
  | suspend (who : Requester)
  /-- TPL_DISCARD, R238: ING_TPL_CMD DISCARD drops everything staged for the selected group. -/
  | tplDiscard (who : Requester)
  /-- ING_KEY_LOAD_NEXT, R241: ING_KEY_CMD OP 1 loads the NEXT key of a 90-5 stream. -/
  | ingKeyLoadNext (who : Requester)
  /-- ING_KEY_ERASE, R241: ING_KEY_CMD OP 2 erases both keys of a 90-5 stream. -/
  | ingKeyErase (who : Requester)
  /-- UNCLAIMED_CLR, R240: ING_UNCLAIMED_CLR empties every held unclaimed ID. -/
  | unclaimedClr (who : Requester)
  /-- CIC_OUTPUT, R245: A CIC decimator output is formed for an SDM lane, checked for overrange and passed down the chain. -/
  | cicOutput (l : Nat) (bits : List Bool) (edge : Tai)
  /-- SV_WAIT_EXPIRY, R246: A sample not arrived by its instant plus SV_WAIT is treated as missing and a gap is handled. -/
  | svWaitExpiry (l : Nat) (t : Tai)
  /-- RESAMPLER_OUTPUT, R249: The resampler forms an output at its next output instant once its inputs are available. -/
  | resamplerOutput (l : Nat)
  /-- PHASOR_ESTIMATE, R251: At a reporting instant the estimator forms phasors, frequency and ROCOF of a group and writes them to the aligner. -/
  | phasorEstimate (g : Nat) (n : Nat) (t : Tai)
  /-- FLT_SYNC, R256: FLT_G_g_CTL.SYNC requests a full synchronising reset of a running group. -/
  | fltSync (who : Requester) (g : Nat)
  /-- FLT_CHAIN_ENABLE, R263: A write to FLT_CTL.EN starts or shuts down the filter chain. -/
  | fltChainEnable (who : Requester) (en : Bool)
  /-- FLT_GROUP_ENABLE, R256: A write to FLT_G_g_CTL.EN starts a group with a full reset or shuts it down. -/
  | fltGroupEnable (who : Requester) (g : Nat) (en : Bool)
  /-- FIR_BANK_SWAP_REQUEST, R258: A request in FLT_G_g_FIR_BANK starts, queues or ignores a FIR bank cross-fade. -/
  | firBankSwapRequest (who : Requester) (g : Nat) (target : Nat)
  /-- KERNEL_BANK_SWAP_REQUEST, R258: A request in FLT_KBANK starts, queues or ignores a kernel bank cross-fade. -/
  | kernelBankSwapRequest (who : Requester) (target : Nat)
  /-- FADE_END, R258: A cross-fade ends, ACTIVE changes, SWAP_DONE is set and a queued request is evaluated. -/
  | fadeEnd (g : Option Nat)
  /-- FLT_COEF_WRITE, R257: A write to FLT_COEF_DATA stores a coefficient unless the bank is active, fading or a queued target. -/
  | fltCoefWrite (who : Requester) (v : Nat)
  /-- SLICE_OPEN, R264: The time base reaches t_n − T_s/8 and slice n becomes COLLECTING with an open-slice buffer. -/
  | sliceOpen (t : Tai)
  /-- SLICE_DEADLINE, R271: The time base reaches slice n's deadline d_n. -/
  | sliceDeadline (t : Tai)
  /-- SUBSTITUTION, R280: The substitution stage forms substitutes for every record and writes them to absent due slots. -/
  | substitution (r : StageReport)
  /-- OUTPUT_HOLD_EXPIRY, R298: A released UDP output frame enters its port queue once C_n + HOLD_US has passed. -/
  | outputHoldExpiry (t : Tai)
  /-- ALARM_PASS_1, R380: Alarm pass 1 evaluates every pass-1 term and rule of the slice. -/
  | alarmPass1 (r : StageReport)
  /-- ALARM_PASS_2, R380: Alarm pass 2 evaluates every pass-2 term and rule after island, oscillation and LSE. -/
  | alarmPass2 (r : StageReport)
  /-- TOPOLOGY_ENGINE, R357: The topology engine resolves switch states, computes connectivity labels, energised components and the class word. -/
  | topologyEngine (r : StageReport)
  /-- ISLAND_ENGINE, R368: The island engine builds the island list, area quantities and pair states. -/
  | islandEngine (r : StageReport)
  /-- OSCILLATION_ENGINE, R326: The oscillation engine forms signals, filters bands, runs update slots, monitors, sub-synchronous watches and persistence. -/
  | oscillationEngine (r : StageReport)
  /-- LSE_STAGE, R315: The LSE looks up a variant, runs both solve slots and writes output, prior and summary. -/
  | lseStage (r : StageReport)
  /-- HISTORY_WRITE, R292: The slice record is written to its history position with the WSEQ protocol. -/
  | historyWrite (r : StageReport)
  /-- CAPTURE_SLICE_ENTRIES, R402: The capture engine writes slice entries of filling records. -/
  | captureSliceEntries (r : StageReport)
  /-- SCHEDULE_DONE_NOTICE, R26: The schedule-done notice is raised toward host and firmware after the history write. -/
  | scheduleDoneNotice (r : StageReport) (buf : Nat)
  /-- REVISION_PASS, R284: The aligner applies up to 4,096 journal entry positions to slices in REVISING. -/
  | revisionPass (r : StageReport)
  /-- SLICE_RETIRE, R286: C_n + W_n passes with no journal entry left and the slice becomes RETIRED, redelivered if requested. -/
  | sliceRetire (t : Tai) (bufs : List Nat)
  /-- FABRIC_WATCHDOG, R527: A stage not complete by C + 3,000 µs is ended with invalid outputs and logged. -/
  | fabricWatchdog (t : Tai)
  /-- ALIGNER_ENABLE, R276: A write to ALN_CTL.EN starts the aligner or shuts it down closing collecting slices. -/
  | alignerEnable (who : Requester) (en : Bool)
  /-- HOST_RING_ENABLE, R293: A write to ALN_HOST_RING_CFG.EN starts or shuts down slice delivery. -/
  | hostRingEnable (who : Requester) (en : Bool)
  /-- LSE_SUMMARY_LATCH, R323: A read of LSE_SUM_0 latches the twelve summary words of the selected slice. -/
  | lseSummaryLatch (who : Requester)
  /-- OSC_CMD, R345: OSC_CMD GO requests a reset of one band, monitor, watch or all bands of a watch at the next stage. -/
  | oscCmd (who : Requester) (kind : Nat) (index : Nat)
  /-- OSC_RESULT_LATCH, R350: A read of word 0 of an OSC result window latches all words of the selected item. -/
  | oscResultLatch (who : Requester) (item : OscItem)
  /-- ISL_ITEM_LATCH, R373: A read of word 0 of an ISL item window latches the selected item's words. -/
  | islItemLatch (who : Requester) (item : IslItem)
  /-- ALARM_ENGINE_ENABLE, R386: A write to ALM_CTL.EN starts the alarm engine deasserted or shuts it down releasing pins. -/
  | alarmEngineEnable (who : Requester) (en : Bool)
  /-- PUB_RETRANSMIT, R384: A publication's retransmission interval expires and the same state is sent with sqNum incremented. -/
  | pubRetransmit (k : Nat) (t : Tai)
  /-- ALM_PIN_MASK_WRITE, R382: A write to ALM_PIN_MASK releases or re-drives alarm pins within 1 µs. -/
  | almPinMaskWrite (who : Requester) (v : Nat)
  /-- ALM_FRAME_MASK_WRITE, R384: A write to ALM_FRAME_MASK changes publication bits and sends change frames. -/
  | almFrameMaskWrite (who : Requester) (j : Nat) (v : Nat) (t : Tai)
  /-- ALM_RULE_ACK, R379: A write to ALM_RULE_ACK requests release of latched rules at their next evaluation. -/
  | almRuleAck (who : Requester) (j : Nat) (v : Nat)
  /-- ALM_TEST, R382: A write to ALM_TEST drives alarm pins low when TEST_PERMIT is 1, otherwise it is refused and counted. -/
  | almTest (who : Requester) (v : Nat)
  /-- ALM_TERM_LATCH, R395: A read of ALM_TERM_0 latches every word of the selected term. -/
  | almTermLatch (who : Requester)
  /-- ALM_KEY_LOAD, R395: ALM_KEY_CMD OP 1 loads a publication key, current at the next frame. -/
  | almKeyLoad (who : Requester)
  /-- ALM_KEY_ERASE, R395: ALM_KEY_CMD OP 2 erases a publication key. -/
  | almKeyErase (who : Requester)
  /-- TRIG_IN_EDGE, R399: A TRIG_IN edge accepted by the glitch filter is stamped and delivered as a capture trigger. -/
  | trigInEdge (k : Nat) (falling : Bool) (edge : HeldEdge)
  /-- XTRIG_EDGE, R405: A falling edge on an armed XTRIG line is stamped, deskewed and accepted as a trigger, disarming the line. -/
  | xtrigEdge (k : Nat) (edge : HeldEdge)
  /-- CAP_HOST_TRIG, R399: CAP_HOST_TRIG.GO issues a capture trigger from source 72. -/
  | capHostTrig (who : Requester) (t : Tai)
  /-- XTRIG_RELEASE, R406: The device releases XTRIGk after holding it low for 2.000 µs. -/
  | xtrigRelease (k : Nat) (t : Tai)
  /-- XTRIG_STUCK, R407: A line held low for more than 10 ms is marked STUCK, its edges ignored and an event logged. -/
  | xtrigStuck (k : Nat) (t : Tai)
  /-- XTRIG_UNSTUCK, R407: A stuck line high for 10 ms has its edges accepted again. -/
  | xtrigUnstuck (k : Nat) (t : Tai)
  /-- CAPTURE_RECORD_DONE, R402: A record finishes copying, becomes DONE with its header CRC and may re-arm its line. -/
  | captureRecordDone (r : CapReport)
  /-- CAP_ARM, R405: CAP_ARM.ARM on the arm master arms XTRIG lines locally and by ring ARM message. -/
  | capArm (who : Requester) (mask : Nat)
  /-- CAP_DISARM, R405: CAP_ARM.DISARM on the arm master disarms XTRIG lines locally and by ring ARM message. -/
  | capDisarm (who : Requester) (mask : Nat)
  /-- CAP_SLOT_HOLD, R401: CAP_SLOT_k.HOLD holds a DONE or ABORTED slot against reuse. -/
  | capSlotHold (who : Requester) (k : Nat)
  /-- CAP_SLOT_RELEASE, R401: CAP_SLOT_k.RELEASE makes a DONE or ABORTED slot FREE. -/
  | capSlotRelease (who : Requester) (k : Nat)
  /-- CAPTURE_ENABLE, R409: A write to CAP_CTL.EN starts the capture engine or shuts it down after filling records complete. -/
  | captureEnable (who : Requester) (en : Bool)
  /-- METERING_CYCLE, R412: A metering cycle of M resampler outputs completes and its energy is corrected, bridged and accumulated. -/
  | meteringCycle (e : Nat)
  /-- PULSE_START, R422: A pulse starts on PLSk when the backlog, rate limit and gap permit. -/
  | pulseStart (k : Nat) (t : Tai)
  /-- PULSE_END, R422: A pulse on PLSk ends after its width and is counted as emitted. -/
  | pulseEnd (k : Nat) (t : Tai)
  /-- DEMAND_SUBINTERVAL_END, R419: At the end of a demand sub-interval demand and maximum demand are recomputed. -/
  | demandSubintervalEnd (t : Tai)
  /-- BILLING_BOUNDARY, R424: A UTC interval boundary closes the billing interval in progress. -/
  | billingBoundary (t : Tai)
  /-- TOTALS_SAVE, R429: At each SAVE_S instant a snapshot of totals is written as three NVS copies. -/
  | totalsSave (t : Tai)
  /-- TOTALS_SAVE_COMPLETE, R429: A save finishes writing and reading back its copies. -/
  | totalsSaveComplete (bad : List Nat)
  /-- NRG_SAVE_NOW, R431: NRG_SAVE.NOW starts a save at once. -/
  | nrgSaveNow (who : Requester)
  /-- POWER_FAIL_WARNING, R433: PF_DET_N accepted low triggers a residual push into the push area. -/
  | powerFailWarning (lowNs : Nat)
  /-- ENERGY_ENABLE, R430: A write to NRG_CTL.EN starts the engine with restore and residual, or shuts it down with a push. -/
  | energyEnable (who : Requester) (en : Bool)
  /-- INTERVAL_RESTART_DECISION, R435: Once time is valid after a restart the open interval is closed with RESTART or continued. -/
  | intervalRestartDecision (t : Tai)
  /-- CUSTODY_RECORD_LATCH, R428: A read of NRG_REC_0 latches the 128 words of the selected custody record. -/
  | custodyRecordLatch (who : Requester)
  /-- GETWORK, R443: A core reads SCH_GETWORK to receive a thread or stall until one is eligible. -/
  | getwork (p : Nat)
  /-- GETWORK_IDLE_TIMEOUT, R443: A stalled SCH_GETWORK returns VALID 0 with reason IDLE after IDLE_US. -/
  | getworkIdleTimeout (p : Nat) (t : Tai)
  /-- SCH_WAIT, R446: A core waits on an object, consuming a pending signal or making its thread WAITING. -/
  | schWait (who : Requester) (o : Nat)
  /-- WAIT_TIMEOUT, R446: A waiting thread's timeout expires and it becomes READY with reason TIMEOUT. -/
  | waitTimeout (thread : Nat) (t : Tai)
  /-- SCH_SIGNAL, R447: A core signals a wait object, waking its highest-priority waiter or setting pending or count. -/
  | schSignal (who : Requester) (o : Nat)
  /-- SCH_YIELD, R444: The running thread yields and rejoins the tail of its READY queue. -/
  | schYield (who : Requester)
  /-- SCH_EXIT, R444: The running thread exits and its block becomes FREE. -/
  | schExit (who : Requester)
  /-- SCH_PARK, R451: A draining core parks, is held in reset and its logical index passes to the target core. -/
  | schPark (who : Requester)
  /-- PREEMPT_LATE, R445: A preempt request outstanding more than 50 µs counts in PREEMPT_LATE. -/
  | preemptLate (p : Nat) (t : Tai)
  /-- CREATE, R441: TCB command CREATE makes a FREE thread block READY with reason NEW. -/
  | tcbCreate (who : Requester)
  /-- TCB_SUSPEND, R444: TCB command SUSPEND makes a thread SUSPENDED when it next yields, waits or exits. -/
  | tcbSuspend (who : Requester)
  /-- TCB_RESUME, R444: TCB command RESUME returns a SUSPENDED thread to READY. -/
  | tcbResume (who : Requester)
  /-- SET_PRIO, R442: TCB command SET_PRIO changes a thread's priority and requeues it. -/
  | setPrio (who : Requester)
  /-- TCB_FREE, R452: TCB command FREE frees a FAULTED or SUSPENDED thread block. -/
  | tcbFree (who : Requester)
  /-- SCH_OBJ_CFG_WRITE, R446: A write to SCH_OBJ_CFG sets an object's kind and empties it unless threads wait. -/
  | schObjCfgWrite (who : Requester) (kind : Bool)
  /-- FLOW_POST, R449: A read of SCH_FLOW_f_POST posts an item with the next sequence number or is refused. -/
  | flowPost (who : Requester) (f : Nat)
  /-- FLOW_DONE, R449: A write to SCH_FLOW_f_DONE completes an item and releases items in order. -/
  | flowDone (who : Requester) (f : Nat) (q : Nat)
  /-- FLOW_TAKE, R449: A read of SCH_FLOW_f_TAKE takes the next released item. -/
  | flowTake (who : Requester) (f : Nat)
  /-- FLOW_STALL_EXPIRY, R450: A head item held longer than STALL_US is released as ABANDONED. -/
  | flowStallExpiry (f : Nat) (t : Tai)
  /-- SCH_MIGRATE, R451: SCH_MIGRATE starts draining an ACTIVE core toward a SPARE core. -/
  | schMigrate (who : Requester) (a : Nat) (b : Nat) (retain : Bool)
  /-- DERIVE, R463: KEY_CMD DERIVE fills a slot by HKDF from a parent slot. -/
  | keyDerive (who : Requester) (slot : Nat) (parent : Nat) (gen : Nat)
  /-- SIGN, R467: KEY_CMD SIGN signs a message with a signing slot. -/
  | keySign (who : Requester) (slot : Nat)
  /-- VERIFY, R467: KEY_CMD VERIFY checks a signature under a given public key. -/
  | keyVerify (who : Requester)
  /-- PUBKEY, R467: KEY_CMD PUBKEY returns the public key of a slot. -/
  | pubkey (who : Requester) (slot : Nat)
  /-- ATTEST, R468: KEY_CMD ATTEST produces a signed 512-byte attestation report. -/
  | keyAttest (who : Requester)
  /-- ERASE, R467: KEY_CMD ERASE empties a firmware slot. -/
  | erase (who : Requester) (slot : Nat)
  /-- INVALIDATE, R464: KEY_CMD INVALIDATE raises a generation and empties the dependent slots. -/
  | invalidate (who : Requester) (slot : Nat) (gen : Nat)
  /-- PROVISION, R467: KEY_CMD PROVISION writes a roast-authority hash or owner key into the journal. -/
  | provision (who : Requester) (slot : Nat)
  /-- DEBUG_REQ, R459: KEY_CMD DEBUG_REQ verifies a vendor token and sets DEBUG_NEXT. -/
  | debugReq (who : Requester)
  /-- TAMPER_CFG, R467: KEY_CMD TAMPER_CFG updates the tamper configuration in journal and backup domain. -/
  | tamperCfg (who : Requester)
  /-- KEY_COMMAND_DONE, R466: A key-store command completes, sets RESULT and KEY_DONE, and its output becomes readable to the issuer. -/
  | keyCommandDone (readback : Bool)
  /-- FUSE_BLOW_GM, R458: SEC_FUSE_CMD code 0xF05E_0001 blows the grandmaster fuse. -/
  | fuseBlowGm (who : Requester)
  /-- FUSE_BLOW_TAMPER_KILL, R458: SEC_FUSE_CMD code 0xF05E_0002 blows TAMPER_KILL. -/
  | fuseBlowTamperKill (who : Requester)
  /-- FUSE_BLOW_DEBUG_ALLOWED, R458: SEC_FUSE_CMD code 0xF05E_0003 blows DEBUG_ALLOWED. -/
  | fuseBlowDebugAllowed (who : Requester)
  /-- FUSE_BLOW_LC_DEV, R458: SEC_FUSE_CMD code 0xF05E_0004 blows LC_DEV. -/
  | fuseBlowLcDev (who : Requester)
  /-- FUSE_BLOW_LC_PROD, R458: SEC_FUSE_CMD code 0xF05E_0005 blows LC_PROD. -/
  | fuseBlowLcProd (who : Requester)
  /-- FUSE_BLOW_LC_RMA, R458: SEC_FUSE_CMD code 0xF05E_0006 blows LC_RMA. -/
  | fuseBlowLcRma (who : Requester)
  /-- SEC_RAISE_FLOOR, R462: SEC_FW_CTL.RAISE_FLOOR raises the journal firmware floor to the running stage-1 SVN. -/
  | secRaiseFloor (who : Requester) (readback : Bool)
  /-- BURN_FLOOR, R462: SEC_FW_CTL.BURN_FLOOR blows FW_SVN fuse bits up to the running SVN. -/
  | burnFloor (who : Requester)
  /-- TAMPER_DETECT, R472: A tamper source is sensed, the latch is set and the phase-dependent response runs. -/
  | tamperDetect (source : Nat)
  /-- SEC_TAMPER_CLR, R474: The owner clears the tamper latch unless a source is active or KILLED is blown. -/
  | secTamperClr (who : Requester) (key : Nat) (active : Bool)
  /-- TEMP_COMP_PERIOD, R484: Every 32 s the backup domain measures temperature and adds or removes calendar ticks. -/
  | tempCompPeriod (temp : Int)
  /-- CALENDAR_RANGE_END, R486: The calendar reaches 2399-12-31 23:59:59 and stops with RANGE_END and OSF. -/
  | calendarRangeEnd (ticks : Nat)
  /-- RTC_SEC_LATCH, R487: A read of RTC_SEC latches the calendar for the requester. -/
  | rtcSecLatch (who : Requester) (ticks : Nat)
  /-- RTC_HOLD, R488: RTC_CTL.HOLD set stops the calendar and restarts RTC_HOLD_ELAPSED. -/
  | rtcHold (who : Requester) (ticks : Nat)
  /-- RTC_HOLD_CLEAR, R488: RTC_CTL.HOLD cleared checks the staged date and transfers it or sets DATE_INVALID. -/
  | rtcHoldClear (who : Requester) (ticks : Nat)
  /-- OSF_CLEAR, R489: Writing 1 to OSF clears it only after a transfer or sync since it was set. -/
  | osfClear (who : Requester)
  /-- RTC_AUTO_SYNC, R490: At a SYNC_MIN boundary while LOCKED the calendar is set from the time base. -/
  | rtcAutoSync (t : Tai) (ticks : Nat)
  /-- RTC_ALARM, R491: The calendar reaches the alarm time and sets ALARM, waking PWR_ON if enabled. -/
  | rtcAlarm (ticks : Nat)
  /-- BKP_PWR_OFF_REQUEST, R492: Writing the BKP_PWR key requests power-off and starts a save. -/
  | bkpPwrOffRequest (who : Requester) (key : Nat)
  /-- PWR_ON_LOW, R492: After the save completes or 100 ms pass, PWR_ON is driven low. -/
  | pwrOnLow (t : Tai)
  /-- BKP_CHG_WRITE, R481: A write to BKP_CHG turns the charger off or, as the second of a matching pair, on or refused. -/
  | bkpChgWrite (who : Requester) (value : Nat)
  /-- TCOMP_SAVE, R485: BKP_TCOMP_CTL.SAVE writes the temperature curve to the NVS. -/
  | tcompSave (who : Requester)
  /-- VBAT_MEASURE, R502: Every 32 s with main power VBAT is measured and VBAT_LOW set when below 2.0 V. -/
  | vbatMeasure (mv : Nat)
  /-- EVR_FREEZE, R498: EVR_FREEZE set holds records in the hold queue; clear writes the queue out in order. -/
  | evrFreeze (who : Requester) (on : Bool)
  /-- EVR_CLEAR, R500: Writing the EVR_CLEAR key starts clearing the log or is refused. -/
  | evrClear (who : Requester) (key : Nat)
  /-- EVR_WINDOW_LATCH, R501: A read of EVR_WINDOW_0 latches an entry and a read of word 15 advances the cursor with AUTOINC. -/
  | evrWindowLatch (who : Requester) (through : Bool)
  /-- EVR_CKPT_LATCH, R501: A read of EVR_CKPT word 0 latches the selected checkpoint. -/
  | evrCkptLatch (who : Requester)
  /-- TOKEN_RECEIVE, R508: A device receives a ring token and sends presence, ARM, TAKEOVER and shares before passing it on. -/
  | tokenReceive (ring : Nat) (gen : Nat) (t : Tai)
  /-- TOKEN_HOLD_EXPIRY, R508: TOKEN_HOLD_US elapses and the device passes the token on, fragmenting an unfinished message. -/
  | tokenHoldExpiry (ring : Nat) (t : Tai)
  /-- RING_MESSAGE_RECEIVE, R509: A ring message is checked, deduplicated, applied and forwarded or removed. -/
  | ringMessageReceive (ring : Nat) (m : RingMsg) (crcOk : Bool) (linkNs : Option Nat) (t : Tai)
  /-- NEIGHBOUR_ABSENT, R510: A neighbour quiet for 10 µs makes the port wrap its ring. -/
  | neighbourAbsent (east : Bool) (locked : Bool)
  /-- RING_UNWRAP, R511: A wrapped port unwraps after trained lanes and 1 ms of valid idles. -/
  | ringUnwrap (east : Bool)
  /-- LANE_LOSS, R507: A lane in use loses block lock, the port wraps and retrains. -/
  | laneLoss (east : Bool)
  /-- LANE_RETRAIN_DONE, R507: Retraining completes with a new lane count and the port carries traffic again. -/
  | laneRetrainDone (east : Bool) (lanes : Nat)
  /-- TOKEN_REGENERATE, R512: With no token for 2 × R_t + 10 µs the lowest-ID device regenerates it with a higher generation. -/
  | tokenRegenerate (ring : Nat) (t : Tai)
  /-- CAS_TAKE, R517: CAS_TKO_CTL.TAKE sends TAKEOVER for a peer unless another device holds it. -/
  | casTake (who : Requester) (mask : Nat)
  /-- CAS_RELEASE, R518: CAS_TKO_CTL.RELEASE clears a peer's TAKEN bit. -/
  | casRelease (who : Requester) (mask : Nat)
  /-- CASCADE_ENABLE, R522: A write to CAS_CTL.EN starts or shuts down ring origination. -/
  | cascadeEnable (who : Requester) (en : Bool)
  /-- CAS_PPS_DRIVE, R519: The PPS master drives CAS_PPS low at each whole TAI second. -/
  | casPpsDrive (t : Tai)
  /-- CAS_PPS_EDGE, R519: A CAS_PPS falling edge is stamped, deskewed and its offset reported. -/
  | casPpsEdge (stamp : TdcStamp)
  /-- CAS_PPS_MISS, R519: No CAS_PPS edge for 1.5 s counts PPS_MISS once. -/
  | casPpsMiss (t : Tai)
  /-- REPLICA_WINDOW, R523: Each 10 µs window the replica loop counts give the region rates and validity. -/
  | replicaWindow (t : Tai) (loops : List Nat)
  /-- AVS_TIMEOUT, R528: A VCORE_F request unanswered for 1 ms sets AVS_FAIL. -/
  | avsTimeout (t : Tai)
  /-- AVS_RETRY, R528: PACE_CTL.AVS_RETRY re-enables AVS requests after a failure. -/
  | avsRetry (who : Requester)
  /-- SWEEP_RETIRE, R533: PACE_SWEEP_CMD.RETIRE retires a sweep unit, remapping its logical index to a spare at the next slice close. -/
  | sweepRetire (who : Requester) (u : Nat)
  /-- SWEEP_RESTORE, R533: PACE_SWEEP_CMD.RESTORE makes a retired unit SPARE after it passes 1,000 tests. -/
  | sweepRestore (who : Requester) (u : Nat)
  /-- CORE_CACHE_ERROR, R534: A core cache error moves the core off to a spare or sets CORE_FAULT. -/
  | coreCacheError (p : Nat) (uncorrectable : Bool)
  /-- CARAFE_ECC_ERROR, R535: A Carafe read finds a correctable or uncorrectable error and may remap the row. -/
  | carafeEccError (place : CarafePlace) (row : Nat) (uncorrectable : Bool)
  /-- FLASH_WRITE, R537: BOOT_FLASH_CMD OP 1 erases, writes and reads back a flash slot region. -/
  | flashWrite (who : Requester)
  /-- FLASH_CHECK_FIRMWARE, R537: BOOT_FLASH_CMD OP 2 verifies a firmware slot without running it. -/
  | flashCheckFirmware (who : Requester) (slot : Bool)
  /-- FLASH_CHECK_ROAST, R537: BOOT_FLASH_CMD OP 3 verifies a roast slot without running it. -/
  | flashCheckRoast (who : Requester) (slot : Bool)
  /-- FLASH_CMD_DONE, R537: A flash command completes and sets RESULT. -/
  | flashCmdDone (r : FlashReport)
  /-- FW_LIVE_STAGE, R538: BOOT_FW_LIVE.STAGE loads and checks the new main image. -/
  | fwLiveStage (who : Requester) (im : FwImage) (flashErr : Bool)
  /-- FW_LIVE_SWITCH, R538: BOOT_FW_LIVE.SWITCH makes cores released from reset start at the staged image. -/
  | fwLiveSwitch (who : Requester)
  /-- FW_LIVE_COMMIT, R538: BOOT_FW_LIVE.COMMIT adopts the new API and main image digest. -/
  | fwLiveCommit (who : Requester)
  /-- FW_LIVE_ABORT, R538: BOOT_FW_LIVE.ABORT before commit clears SWITCH. -/
  | fwLiveAbort (who : Requester)
  /-- JUNCTION_TEMPERATURE_CHANGE, R83: The junction temperature crosses 110 °C, which changes bit 7 of BOOT_HEALTH, the HOT term and certification, and DEV_OK follows within 1 µs unless the bit is masked. -/
  | junctionTemperatureChange (temp : Int)
  /-- VBAT_ABSENT, R476: VBAT goes absent or below 1.65 V while main power is present, or returns, and BKP_STATUS.VBAT_OK changes. -/
  | vbatAbsent (absent : Bool)
  /-- ROW_REMAP_COPY_DONE, R535: The copy of a failing Carafe row to its spare row ends within 1 ms, and the stalled accesses are served from the spare. -/
  | rowRemapCopyDone (row : Nat)
  /-- DUPLICATE_ENTRY_EXPIRY, R184: A PRP or HSR duplicate-discard entry expires ENTRY_FORGET ms after its first copy arrived. -/
  | duplicateEntryExpiry (t : Tai)
  /-- LPI_RX_CHANGE, R185: The M0 link partner enters or leaves low-power idle on RGMII receive, which changes LPI_RX and counts EEE_RX_LPI. -/
  | lpiRxChange (on : Bool)
  /-- PERST_N_ASSERT, R85: PCIe fundamental reset clears the PCIe link and configuration space and ends owner state while measurement continues. -/
  | perstNAssert
  /-- PCIE_LINK_LOSS, R101: Loss of the PCIe link ends owner state and rolls back an open transaction owned by PF0. -/
  | pcieLinkLoss
  /-- PF0_FUNCTION_LEVEL_RESET, R101: A function-level reset of PF0 ends owner state. -/
  | pf0FunctionLevelReset
  /-- LEDGER_STEP_TIMEOUT, R71: A ledger step exceeds its limit and fails with outcome TIMEOUT. -/
  | ledgerStepTimeout
  /-- HEARTBEAT_HALF_EXPIRY, R84: No kick for half the watchdog period clears bit 5 of BOOT_HEALTH. -/
  | heartbeatHalfExpiry
  /-- OWNER_VERIFY_DONE, R100: The security core finishes verifying the claim signature and sets STATE to OWNER or DENIED and draws a new nonce. -/
  | ownerVerifyDone
  /-- TXN_TIMEOUT, R110: A transaction with no accepted commit 1,000 ms after BEGIN is rolled back with ROLLED_BACK_TIMEOUT. -/
  | txnTimeout
  /-- CRC_SCAN_START, R114: At each 1 ms tick the device starts a CRC-32C scan of all configuration registers. -/
  | crcScanStart
  /-- CRC_SCAN_COMPLETE, R115: A complete scan updates CFG_CRC_LIVE, compares with the reference and declares or clears a mismatch. -/
  | crcScanComplete
  /-- CRC_SUSPEND_TIMEOUT, R117: SUSPEND clears by itself 1,000 ms after it was set and an event is logged. -/
  | crcSuspendTimeout
  /-- REPAIR_REQ_REMINDER, R142: While REPAIR_REQ stays 1, vector 1 is raised again every 10 s. -/
  | repairReqReminder
  /-- LPI_IDLE_EXPIRY, R185: M0 transmit queues stay empty for LPI_IDLE µs and the MAC asserts low-power idle. -/
  | lpiIdleExpiry
  /-- SLEW_COMPLETE, R200: A slew consumes its phase amount and SLEW clears. -/
  | slewComplete
  /-- PPS_OUT_WIDTH_END, R219: PPS_OUT falls after WIDTH ms. -/
  | ppsOutWidthEnd
  /-- RESIDUAL_BANK_WRITE, R432: Every 100 ms the engine writes the residual into the periodic bank not written last time. -/
  | residualBankWrite
  /-- RESIDUAL_PUSH_REPEAT, R433: While PF_DET_N stays low the push is repeated every 100 µs. -/
  | residualPushRepeat
  /-- POWER_FAIL_CLEARED, R433: PF_DET_N high for 1 ms starts a save. -/
  | powerFailCleared
  /-- MIGRATION_FORCE, R452: A core not parked within 10 ms is forced into reset and retired, faulting its running thread. -/
  | migrationForce
  /-- KEY_SHARE_REFRESH, R465: Secret slot shares are re-randomised at least once every 1 ms. -/
  | keyShareRefresh
  /-- FIRST_BACKUP_POWER, R478: Power reaches a backup domain that had none and every backup field takes its initial value. -/
  | firstBackupPower
  /-- VBAT_BROWN_OUT, R478: VBAT below 1.65 V for 100 µs while running from VBAT sets OSF. -/
  | vbatBrownOut
  /-- OSCILLATOR_STOP, R482: No crystal edge for 4 ms sets OSF and stops the calendar. -/
  | oscillatorStop
  /-- LOG_ENTRY_WRITE, R496: An accepted record is written to the NVS log, extending the hash chain. -/
  | logEntryWrite
  /-- FREEZE_TIMEOUT, R498: FREEZE clears by itself 10 s after it was set with a FREEZE_TIMEOUT entry. -/
  | freezeTimeout
  /-- LOG_CLEAR_COMPLETE, R500: The clear writes the CLEAR record and checkpoint, clears FULL and releases the hold queue. -/
  | logClearComplete
  /-- CAS_PPS_DRIVE_END, R519: The PPS master releases CAS_PPS after 1.000 ms. -/
  | casPpsDriveEnd
  /-- AVS_REQUEST_DONE, R528: The regulator reports completion of a VCORE_F request. -/
  | avsRequestDone
  /-- CRYSTAL_EDGES_RESUME, R482: Crystal edges return on XTAL32_IN after the oscillator had stopped, and the calendar counts again. -/
  | crystalEdgesResume
  /-- PERST_N_RELEASE, R85: PERST_N goes high, ending the PCIe fundamental reset, and the lanes proceed per PCIe Base 4.0. -/
  | perstNRelease
  /-- TCOMP_SAVE_DONE, R485: The write of the temperature curve to the NVS completes within 10 ms, and BKP_TCOMP_CTL.SAVE clears. -/
  | tcompSaveDone
  /-- TEMPLATE_COMMAND_DONE, R241: An ING_TPL_CMD command finishes within 20 µs, so BUSY clears, RESULT is set and ING_IRQ.TPL_DONE is raised. -/
  | templateCommandDone
  /-- TW_SYS_EXPIRY, R185: TW_SYS µs after M0 deasserts low-power idle for a waiting frame, the frame's first bit may be sent. -/
  | twSysExpiry
  deriving DecidableEq, Repr

end Sys2Proof
end

