-- ==== Sys2Proof/WellFormed.lean ====
section
/-! DEFINITION. Which commands can occur: the ranges that the spec's units, register fields and records give the operands
(ports 0 to 6 and rings 0 to 3, R151 to R180; ingress queues 0 to 5, R168; filter lanes and groups, R242 to R263; cores 0 to 8,
R439; BAR0 of 32 MiB in words, R89 to R96; the field widths of the register tables). -/

namespace Sys2Proof.Machine

/-- A physical core is one of 0 to 8 (R439). -/
def Requester.wellFormed : Requester → Bool
  | .pf0 => true
  | .pf1 => true
  | .core k => decide (k < 9)
  | .sec => true

/-- A ring of port 0 to 6 numbered 0 to 3; PTP rings belong to ports 0 to 5. -/
def Ring.wellFormed : Ring → Bool
  | .rx p r => decide (p < 7) && decide (r < 4)
  | .tx p r => decide (p < 7) && decide (r < 4)
  | .ptp p => decide (p < 6)
  | .inj => true

/-- A block that exists (R106). -/
def Block.wellFormed : Block → Bool
  | .port p => decide (p < 7)
  | .ring r => r.wellFormed
  | .ingQueue n => decide (n < 6)
  | .parser => true
  | .filter => true
  | .filterGroup g => decide (g < 32)
  | .aligner => true
  | .hostRing => true
  | .alarm => true
  | .capture => true
  | .energy => true
  | .cascade => true

/-- What is offered to a transmit queue: a frame of a transmit, PTP or injection ring's kind, or one of 16 output streams. -/
def TxOffer.wellFormed : TxOffer → Bool
  | .ring r _ word => r.wellFormed && decide (word < 2 ^ 32)
  | .output k => decide (k < 16)

/-- A place in the Carafe. -/
def CarafePlace.wellFormed : CarafePlace → Bool
  | .tile region copy k => decide (region < 2) && decide (copy < 2) && decide (k < 456966)
  | .history _ _ => true
  | .capture slot _ _ => decide (slot < 64)
  | .heap => true
  | .other => true

/-- A ring message's sender is one of the up to 8 devices of a board (R503, R509). -/
def RingMsg.wellFormed (m : RingMsg) : Bool := decide (m.id < 8)

end Sys2Proof.Machine

namespace Sys2Proof

open Machine

/-- Whether every operand of a command lies in the range the spec gives it. -/
def Instr.wellFormed : Instr → Bool
  | .powerOnReset _ _ _ _ => true
  | .resetNAssert _ _ => true
  | .perstNAssert => true
  | .pcieLinkLoss => true
  | .pf0FunctionLevelReset => true
  | .resetEnd casId _ => decide (casId < 8)
  | .ledgerStepComplete _ => true
  | .ledgerStepTimeout => true
  | .bootRoastGo who => who.wellFormed
  | .clearAttempts who => who.wellFormed
  | .fullTrain who => who.wellFormed
  | .fullCal who => who.wellFormed
  | .staySafe who => who.wellFormed
  | .slotPreferenceWrite who _ _ => who.wellFormed
  | .hostSoftReset who w => who.wellFormed && decide (w.key < 2 ^ 32)
  | .heartbeatKick who => who.wellFormed
  | .heartbeatHalfExpiry => true
  | .watchdogExpiry _ => true
  | .registerWrite who addr _ value byteEn => who.wellFormed && decide (addr < 2 ^ 25 + 2 ^ 14 ∧ addr % 4 = 0) && decide (value < 2 ^ 64) && decide (byteEn < 256)
  | .bar0LongWrite who addr _ => who.wellFormed && decide (addr < 2 ^ 25)
  | .bar2Write who => who.wellFormed
  | .hifSnap who => who.wellFormed
  | .snapshotCopyDone who => who.wellFormed
  | .ownerClaim who => who.wellFormed
  | .ownerVerifyDone => true
  | .ownerRelease who => who.wellFormed
  | .txnBegin who => who.wellFormed
  | .rwtWrite who addr _ value => who.wellFormed && decide (addr < 2 ^ 25 ∧ addr % 4 = 0) && decide (value < 2 ^ 64)
  | .txnCommit who _ => who.wellFormed
  | .txnRollback who => who.wellFormed
  | .txnTimeout => true
  | .crcScanStart => true
  | .crcScanComplete => true
  | .crcSuspend who _ => who.wellFormed
  | .crcSuspendTimeout => true
  | .crcAdopt who => who.wellFormed
  | .roastLoad who src => who.wellFormed && decide (src < 4)
  | .shadowLoadDone _ => true
  | .roastDiscard who => who.wellFormed
  | .raiseFloor who => who.wellFormed
  | .swapRequest who d _ => who.wellFormed && decide (d < 2 ^ 64)
  | .swapCancel who => who.wellFormed
  | .retiringEnd _ => true
  | .scrubTileRead region copy tile _ => decide (region < 2) && decide (copy < 2) && decide (tile < 456966)
  | .flashSectionReread _ => true
  | .repairReqReminder => true
  | .repairGo who => who.wellFormed
  | .repairDeliveryDone _ => true
  | .frameReceive p _ => decide (p < 7)
  | .ringEventHoldoffExpiry r _ => (r.map Ring.wellFormed).getD true
  | .dregs who n _ m => who.wellFormed && decide (n < 6) && decide (m.seq < 65536)
  | .txFrameOffer _ o => o.wellFormed
  | .txFrameComplete p _ => decide (p < 7)
  | .linkStateChange p _ => decide (p < 7)
  | .preemptVerifyTimeout p => decide (p < 7)
  | .lpiIdleExpiry => true
  | .mdioWrite who phy reg data => who.wellFormed && decide (phy < 32) && decide (reg < 32) && decide (data < 65536)
  | .mdioRead who phy reg data => who.wellFormed && decide (phy < 32) && decide (reg < 32) && decide (data < 65536)
  | .mdioC45Address who phy reg data => who.wellFormed && decide (phy < 32) && decide (reg < 32) && decide (data < 65536)
  | .mdioC45Read who phy reg data => who.wellFormed && decide (phy < 32) && decide (reg < 32) && decide (data < 65536)
  | .mdioDone data => decide (data < 65536)
  | .portEnable who p _ => who.wellFormed && decide (p < 7)
  | .ringEnable who r _ => who.wellFormed && r.wellFormed
  | .ingressQueueEnable who n _ => who.wellFormed && decide (n < 6)
  | .parserEnable who _ => who.wellFormed
  | .blockShutdownComplete b _ => b.wellFormed
  | .timeBaseTick _ => true
  | .stepGo who => who.wellFormed
  | .tsuSampleGo who k ofs => who.wellFormed && decide (k < 16) && decide (ofs < 2 ^ 64)
  | .ppsInEdge _ => true
  | .irigBFrame _ => true
  | .ref10mSecond _ _ => true
  | .slewComplete => true
  | .tdcCalibration ch bins => decide (ch < 32) && decide (bins.length = 64)
  | .tsuTimeLatch who _ => who.wellFormed
  | .leapSecond _ => true
  | .ppsOutPulse _ => true
  | .ppsOutWidthEnd => true
  | .parsePacket _ j _ => decide (j.stamp.length ≤ 16)
  | .gooseStale _ => true
  | .stageTpl who => who.wellFormed
  | .stageRec who => who.wellFormed
  | .resume who => who.wellFormed
  | .suspend who => who.wellFormed
  | .tplDiscard who => who.wellFormed
  | .ingKeyLoadNext who => who.wellFormed
  | .ingKeyErase who => who.wellFormed
  | .unclaimedClr who => who.wellFormed
  | .cicOutput l _ _ => decide (l < 256)
  | .svWaitExpiry l _ => decide (l < 256)
  | .resamplerOutput l => decide (l < 256)
  | .phasorEstimate g _ _ => decide (g < 32)
  | .fltSync who g => who.wellFormed && decide (g < 32)
  | .fltChainEnable who _ => who.wellFormed
  | .fltGroupEnable who g _ => who.wellFormed && decide (g < 32)
  | .firBankSwapRequest who g target => who.wellFormed && decide (g < 32) && decide (target < 2)
  | .kernelBankSwapRequest who target => who.wellFormed && decide (target < 2)
  | .fadeEnd g => (match g with | none => true | some k => decide (k < 32))
  | .fltCoefWrite who v => who.wellFormed && decide (v < 2 ^ 32)
  | .sliceOpen _ => true
  | .sliceDeadline _ => true
  | .substitution _ => true
  | .outputHoldExpiry _ => true
  | .alarmPass1 _ => true
  | .alarmPass2 _ => true
  | .topologyEngine _ => true
  | .islandEngine _ => true
  | .oscillationEngine _ => true
  | .lseStage _ => true
  | .historyWrite _ => true
  | .captureSliceEntries _ => true
  | .scheduleDoneNotice _ _ => true
  | .revisionPass _ => true
  | .sliceRetire _ _ => true
  | .fabricWatchdog _ => true
  | .alignerEnable who _ => who.wellFormed
  | .hostRingEnable who _ => who.wellFormed
  | .lseSummaryLatch who => who.wellFormed
  | .oscCmd who kind index => who.wellFormed && decide (kind < 4) && decide (index < 4096)
  | .oscResultLatch who _ => who.wellFormed
  | .islItemLatch who _ => who.wellFormed
  | .alarmEngineEnable who _ => who.wellFormed
  | .pubRetransmit k _ => decide (k < 16)
  | .almPinMaskWrite who v => who.wellFormed && decide (v < 65536)
  | .almFrameMaskWrite who j v _ => who.wellFormed && decide (j < 16) && decide (v < 2 ^ 32)
  | .almRuleAck who j v => who.wellFormed && decide (j < 16) && decide (v < 2 ^ 32)
  | .almTest who v => who.wellFormed && decide (v < 65536)
  | .almTermLatch who => who.wellFormed
  | .almKeyLoad who => who.wellFormed
  | .almKeyErase who => who.wellFormed
  | .trigInEdge k _ _ => decide (k < 4)
  | .xtrigEdge k _ => decide (k < 4)
  | .capHostTrig who _ => who.wellFormed
  | .xtrigRelease k _ => decide (k < 4)
  | .xtrigStuck k _ => decide (k < 4)
  | .xtrigUnstuck k _ => decide (k < 4)
  | .captureRecordDone _ => true
  | .capArm who mask => who.wellFormed && decide (mask < 16)
  | .capDisarm who mask => who.wellFormed && decide (mask < 16)
  | .capSlotHold who k => who.wellFormed && decide (k < 64)
  | .capSlotRelease who k => who.wellFormed && decide (k < 64)
  | .captureEnable who _ => who.wellFormed
  | .meteringCycle e => decide (e < 4)
  | .pulseStart k _ => decide (k < 8)
  | .pulseEnd k _ => decide (k < 8)
  | .demandSubintervalEnd _ => true
  | .billingBoundary _ => true
  | .totalsSave _ => true
  | .totalsSaveComplete _ => true
  | .nrgSaveNow who => who.wellFormed
  | .residualBankWrite => true
  | .powerFailWarning _ => true
  | .residualPushRepeat => true
  | .powerFailCleared => true
  | .energyEnable who _ => who.wellFormed
  | .intervalRestartDecision _ => true
  | .custodyRecordLatch who => who.wellFormed
  | .getwork p => decide (p < 9)
  | .getworkIdleTimeout p _ => decide (p < 9)
  | .schWait who o => who.wellFormed && decide (o < 1024)
  | .waitTimeout thread _ => decide (thread < 256)
  | .schSignal who o => who.wellFormed && decide (o < 1024)
  | .schYield who => who.wellFormed
  | .schExit who => who.wellFormed
  | .schPark who => who.wellFormed
  | .preemptLate p _ => decide (p < 9)
  | .tcbCreate who => who.wellFormed
  | .tcbSuspend who => who.wellFormed
  | .tcbResume who => who.wellFormed
  | .setPrio who => who.wellFormed
  | .tcbFree who => who.wellFormed
  | .schObjCfgWrite who _ => who.wellFormed
  | .flowPost who f => who.wellFormed && decide (f < 64)
  | .flowDone who f q => who.wellFormed && decide (f < 64) && decide (q < 65536)
  | .flowTake who f => who.wellFormed && decide (f < 64)
  | .flowStallExpiry f _ => decide (f < 64)
  | .schMigrate who a b _ => who.wellFormed && decide (a < 16) && decide (b < 16)
  | .migrationForce => true
  | .keyDerive who slot parent gen => who.wellFormed && decide (slot < 256) && decide (parent < 256) && decide (gen < 32)
  | .keySign who slot => who.wellFormed && decide (slot < 256)
  | .keyVerify who => who.wellFormed
  | .pubkey who slot => who.wellFormed && decide (slot < 256)
  | .keyAttest who => who.wellFormed
  | .erase who slot => who.wellFormed && decide (slot < 256)
  | .invalidate who slot gen => who.wellFormed && decide (slot < 256) && decide (gen < 32)
  | .provision who slot => who.wellFormed && decide (slot < 256)
  | .debugReq who => who.wellFormed
  | .tamperCfg who => who.wellFormed
  | .keyCommandDone _ => true
  | .keyShareRefresh => true
  | .fuseBlowGm who => who.wellFormed
  | .fuseBlowTamperKill who => who.wellFormed
  | .fuseBlowDebugAllowed who => who.wellFormed
  | .fuseBlowLcDev who => who.wellFormed
  | .fuseBlowLcProd who => who.wellFormed
  | .fuseBlowLcRma who => who.wellFormed
  | .secRaiseFloor who _ => who.wellFormed
  | .burnFloor who => who.wellFormed
  | .tamperDetect source => decide (source < 5)
  | .secTamperClr who key _ => who.wellFormed && decide (key < 2 ^ 32)
  | .firstBackupPower => true
  | .vbatBrownOut => true
  | .oscillatorStop => true
  | .tempCompPeriod _ => true
  | .calendarRangeEnd _ => true
  | .rtcSecLatch who _ => who.wellFormed
  | .rtcHold who _ => who.wellFormed
  | .rtcHoldClear who _ => who.wellFormed
  | .osfClear who => who.wellFormed
  | .rtcAutoSync _ _ => true
  | .rtcAlarm _ => true
  | .bkpPwrOffRequest who key => who.wellFormed && decide (key < 2 ^ 32)
  | .pwrOnLow _ => true
  | .bkpChgWrite who value => who.wellFormed && decide (value < 2 ^ 32)
  | .tcompSave who => who.wellFormed
  | .vbatMeasure _ => true
  | .logEntryWrite => true
  | .evrFreeze who _ => who.wellFormed
  | .freezeTimeout => true
  | .evrClear who key => who.wellFormed && decide (key < 2 ^ 32)
  | .logClearComplete => true
  | .evrWindowLatch who _ => who.wellFormed
  | .evrCkptLatch who => who.wellFormed
  | .tokenReceive ring _ _ => decide (ring < 2)
  | .tokenHoldExpiry ring _ => decide (ring < 2)
  | .ringMessageReceive ring m _ _ _ => decide (ring < 2) && m.wellFormed
  | .neighbourAbsent _ _ => true
  | .ringUnwrap _ => true
  | .laneLoss _ => true
  | .laneRetrainDone _ lanes => decide (lanes < 5)
  | .tokenRegenerate ring _ => decide (ring < 2)
  | .casTake who mask => who.wellFormed && decide (mask < 256)
  | .casRelease who mask => who.wellFormed && decide (mask < 256)
  | .cascadeEnable who _ => who.wellFormed
  | .casPpsDrive _ => true
  | .casPpsDriveEnd => true
  | .casPpsEdge _ => true
  | .casPpsMiss _ => true
  | .replicaWindow _ _ => true
  | .avsRequestDone => true
  | .avsTimeout _ => true
  | .avsRetry who => who.wellFormed
  | .sweepRetire who u => who.wellFormed && decide (u < 32)
  | .sweepRestore who u => who.wellFormed && decide (u < 32)
  | .coreCacheError p _ => decide (p < 9)
  | .carafeEccError place _ _ => place.wellFormed
  | .flashWrite who => who.wellFormed
  | .flashCheckFirmware who _ => who.wellFormed
  | .flashCheckRoast who _ => who.wellFormed
  | .flashCmdDone _ => true
  | .fwLiveStage who _ _ => who.wellFormed
  | .fwLiveSwitch who => who.wellFormed
  | .fwLiveCommit who => who.wellFormed
  | .fwLiveAbort who => who.wellFormed
  | .junctionTemperatureChange _ => true
  | .vbatAbsent _ => true
  | .crystalEdgesResume => true
  | .perstNRelease => true
  | .rowRemapCopyDone _ => true
  | .tcompSaveDone => true
  | .templateCommandDone => true
  | .duplicateEntryExpiry _ => true
  | .lpiRxChange _ => true
  | .twSysExpiry => true

end Sys2Proof
end

