-- ==== Sys2Proof/Machine/RegField.lean ====
section
/-! DEFINITION. What a register field is (R8, R11, R12): its place in BAR0, its width, its access code, its reset value
and the domain that keeps it; and the register file that holds the fields' values, sparse and in one canonical form. -/

namespace Sys2Proof.Machine

/-- The access codes of R11, without the suffix G. -/
inductive Acc where
  | rw | ro | rc | w1c | w1s | wo | rwt | rwl
  deriving DecidableEq, Repr

/-- What keeps a field's value (R12, R85): the main registers, which every reset kind that clears registers returns to
their reset values; the backup domain, which no reset kind clears; the fuses. -/
inductive Dom where
  | main | bkp | fuse
  deriving DecidableEq, Repr

/-- One field of a register or of an array of registers. -/
structure Fld where
  /-- BAR0 offset of the register (of the first one of an array) -/
  base : Nat
  /-- lowest bit of the field -/
  lsb : Nat
  /-- bits in the field; a field of 64 bits and more spans consecutive registers -/
  width : Nat
  /-- access code -/
  acc : Acc
  /-- marked G in the Access column -/
  guarded : Bool := false
  /-- value after reset -/
  rst : Nat := 0
  /-- domain that keeps the value -/
  dom : Dom := .main
  /-- reset column says roast -/
  roast : Bool := false
  /-- a counter under R102 -/
  counter : Bool := false
  /-- part of the configuration CRC where its access makes it so (R114) -/
  crc : Bool := true
  /-- kept once per requester -/
  perReq : Bool := false
  /-- array dimensions, outermost first: number of registers and stride in bytes -/
  dims : List (Nat × Nat) := []
  /-- bank: 0 for the shared copy, 1 and up for a requester's own copy -/
  bank : Nat := 0
  /-- lowest and highest index of an array's first dimension at which the field exists, where it is not all of them -/
  only : Option (Nat × Nat) := none
  deriving DecidableEq, Repr

/-- The field of element `i` of an array. -/
def Fld.ix (f : Fld) (i : Nat) : Fld :=
  match f.dims with
  | [] => f
  | (_, st) :: ds => { f with base := f.base + i * st, dims := ds }

/-- The field of element `i`, `j` of a two-dimensional array. -/
def Fld.ix2 (f : Fld) (i j : Nat) : Fld := (f.ix i).ix j

/-- The field of element `i`, `j`, `k` of a three-dimensional array. -/
def Fld.ix3 (f : Fld) (i j k : Nat) : Fld := ((f.ix i).ix j).ix k

/-- The copy of a field that stands in a bank. -/
def Fld.inBank (f : Fld) (b : Nat) : Fld := { f with bank := b }

/-- Bits of a bank's key space. -/
def bankSpan : Nat := 2 ^ 32

/-- The key under which the register file holds a field: its BAR0 bit address, moved by its bank. -/
def Fld.key (f : Fld) : Nat := f.bank * bankSpan + 8 * f.base + f.lsb

/-- The register file: values by key, keys strictly rising, no entry at its field's reset value. -/
abbrev RegFile := List (Nat × Nat)

/-- The value at a key, or the reset value. -/
def RegFile.get (d k : Nat) : RegFile → Nat
  | [] => d
  | (k', v) :: r => if k = k' then v else RegFile.get d k r

/-- The file without the key. -/
def RegFile.erase (k : Nat) : RegFile → RegFile
  | [] => []
  | (k', v) :: r => if k = k' then r else if k < k' then (k', v) :: r else (k', v) :: RegFile.erase k r

/-- The file with a value at the key. -/
def RegFile.insert (k v : Nat) : RegFile → RegFile
  | [] => [(k, v)]
  | (k', v') :: r =>
    if k = k' then (k, v) :: r else if k < k' then (k, v) :: (k', v') :: r else (k', v') :: RegFile.insert k v r

/-- Writing a key keeps the canonical form: the reset value is not listed. -/
def RegFile.set (d k v : Nat) (r : RegFile) : RegFile := if v = d then RegFile.erase k r else RegFile.insert k v r

/-- Keys strictly rising. -/
def RegFile.rising : RegFile → Bool
  | [] => true
  | [_] => true
  | (k, _) :: (k', v') :: r => decide (k < k') && RegFile.rising ((k', v') :: r)

/-- Whether a 32-bit register at offset `a` belongs to a field, and if so which element of its array (as the element's own
base) and which word of the element. -/
def locate : Nat → List (Nat × Nat) → Nat → Nat → Option (Nat × Nat)
  | base, [], words, a =>
    if base ≤ a ∧ a < base + 4 * words ∧ (a - base) % 4 = 0 then some (base, (a - base) / 4) else none
  | base, (n, st) :: ds, words, a =>
    if base ≤ a ∧ 0 < st ∧ (a - base) / st < n then locate (base + (a - base) / st * st) ds words a
    else none

/-- Words a field spans. -/
def Fld.words (f : Fld) : Nat := ceilDiv (f.lsb + f.width) 32

/-- Whether an element of a field does not exist: it reads 0 and ignores what is written to it. -/
def Fld.lacks (f0 f : Fld) : Bool := match f0.only, f0.dims with
  | some (lo, hi), (_, st) :: _ => let i := (f.base - f0.base) / st; decide (i < lo) || decide (hi < i)
  | _, _ => false

/-- The element of a field that holds the register at offset `a`, with the word's number in it. -/
def Fld.at? (f : Fld) (a : Nat) : Option (Fld × Nat) :=
  (locate f.base f.dims f.words a).map fun p => ({ f with base := p.1, dims := [] }, p.2)

end Sys2Proof.Machine
end

