-- ==== Sys2Proof/Machine/RegMapHost.lean ====
section
/-! DEFINITION. The register fields of the blocks HIF, CFG, BOOT, PACE, SCH, SEC, SAU, from the register tables of spec/ (each docstring names its file and gives the start of the table's Meaning). A field is written BLOCK_REGISTER.FIELD as R8 writes it; index letters of arrays are left out. The counters of a block stand under the block's own name. -/

namespace Sys2Proof.Machine.Reg

/-- Silicon stepping under R1 (04_host_interface_and_registers.md) -/
def HIF_ID.STEPPING : Fld := { base := 0x0, lsb := 0, width := 8, acc := .ro, rst := 0x21 }
/-- Part number (04_host_interface_and_registers.md) -/
def HIF_ID.PART : Fld := { base := 0x0, lsb := 16, width := 16, acc := .ro, rst := 0x7416 }
/-- Write discarded for partial byte enables (R95) (04_host_interface_and_registers.md) -/
def HIF_ERR.NARROW_WR : Fld := { base := 0x4, lsb := 0, width := 1, acc := .w1c, perReq := true }
/-- Guarded access refused (R99) (04_host_interface_and_registers.md) -/
def HIF_ERR.GUARD : Fld := { base := 0x4, lsb := 1, width := 1, acc := .w1c, perReq := true }
/-- Write to a field locked by the roast (R11) (04_host_interface_and_registers.md) -/
def HIF_ERR.LOCKED : Fld := { base := 0x4, lsb := 2, width := 1, acc := .w1c, perReq := true }
/-- RWT write or commit without a transaction it may use (R108, R111) (04_host_interface_and_registers.md) -/
def HIF_ERR.NO_TXN : Fld := { base := 0x4, lsb := 3, width := 1, acc := .w1c, perReq := true }
/-- Staging full (R108) (04_host_interface_and_registers.md) -/
def HIF_ERR.TXN_FULL : Fld := { base := 0x4, lsb := 4, width := 1, acc := .w1c, perReq := true }
/-- PF1 write ignored (R90) (04_host_interface_and_registers.md) -/
def HIF_ERR.OBSERVER : Fld := { base := 0x4, lsb := 5, width := 1, acc := .w1c, perReq := true }
/-- Write longer than two doublewords (R96) (04_host_interface_and_registers.md) -/
def HIF_ERR.LONG_WR : Fld := { base := 0x4, lsb := 6, width := 1, acc := .w1c, perReq := true }
/-- Write to BAR2 (R94) (04_host_interface_and_registers.md) -/
def HIF_ERR.BAR2_WR : Fld := { base := 0x4, lsb := 7, width := 1, acc := .w1c, perReq := true }
/-- Snapshot request during a copy (R104) (04_host_interface_and_registers.md) -/
def HIF_ERR.SNAP_BUSY : Fld := { base := 0x4, lsb := 8, width := 1, acc := .w1c, perReq := true }
/-- HIF_ERR_ADDR: BAR0 offset of the first access that set a bit since HIF_ERR was last all ze (04_host_interface_and_registers.md) -/
def HIF_ERR_ADDR.OFFSET : Fld := { base := 0x8, lsb := 0, width := 25, acc := .ro, perReq := true }
/-- 1 takes a snapshot into the requester's holding set (R103) (04_host_interface_and_registers.md) -/
def HIF_SNAP.GO : Fld := { base := 0xc, lsb := 0, width := 1, acc := .wo }
/-- HIF_SNAP_TIME_k: word k of the snapshot time under R14 (04_host_interface_and_registers.md) -/
def HIF_SNAP_TIME.TIME : Fld := { base := 0x20, lsb := 0, width := 32, acc := .ro, perReq := true, dims := [(4, 0x4)] }
/-- 1 requests owner state (R100); PF0 only; ignored in a write that also sets RELEASE, and wh (04_host_interface_and_registers.md) -/
def HIF_OWNER.CLAIM : Fld := { base := 0x40, lsb := 0, width := 1, acc := .wo }
/-- 1 ends owner state (R101); PF0 only (04_host_interface_and_registers.md) -/
def HIF_OWNER.RELEASE : Fld := { base := 0x40, lsb := 1, width := 1, acc := .wo }
/-- 0 NONE, 1 VERIFYING, 2 OWNER, 3 DENIED (04_host_interface_and_registers.md) -/
def HIF_OWNER.STATE : Fld := { base := 0x40, lsb := 2, width := 2, acc := .ro }
/-- 1 when an owner key is provisioned; valid from ledger step 4 (04_host_interface_and_registers.md) -/
def HIF_OWNER.AUTH_REQ : Fld := { base := 0x40, lsb := 4, width := 1, acc := .ro }
/-- Nonce word k; drawn at reset and after each claim attempt (04_host_interface_and_registers.md) -/
def HIF_OWNER_NONCE.NONCE : Fld := { base := 0x50, lsb := 0, width := 32, acc := .ro, dims := [(4, 0x4)] }
/-- Signature bytes 4k to 4k + 3 (04_host_interface_and_registers.md) -/
def HIF_OWNER_SIG.SIG : Fld := { base := 0x80, lsb := 0, width := 32, acc := .wo, dims := [(16, 0x4)] }
/-- 0 slice history, 1 capture; not in CRC (04_host_interface_and_registers.md) -/
def HIF_BAR2_AP.REGION : Fld := { base := 0xc0, lsb := 0, width := 1, acc := .rw, crc := false, perReq := true, dims := [(4, 0x4)] }
/-- Start offset in the region, in 64 MiB units: 0–143 for history, 0–31 for capture; larger v (04_host_interface_and_registers.md) -/
def HIF_BAR2_AP.START : Fld := { base := 0xc0, lsb := 8, width := 8, acc := .rw, crc := false, perReq := true, dims := [(4, 0x4)] }

/-- Every field of the HIF window. -/
def tableHIF : List Fld :=
  [HIF_ID.STEPPING, HIF_ID.PART, HIF_ERR.NARROW_WR, HIF_ERR.GUARD, HIF_ERR.LOCKED, HIF_ERR.NO_TXN, HIF_ERR.TXN_FULL, HIF_ERR.OBSERVER, HIF_ERR.LONG_WR, HIF_ERR.BAR2_WR, HIF_ERR.SNAP_BUSY, HIF_ERR_ADDR.OFFSET, HIF_SNAP.GO, HIF_SNAP_TIME.TIME, HIF_OWNER.CLAIM, HIF_OWNER.RELEASE, HIF_OWNER.STATE, HIF_OWNER.AUTH_REQ, HIF_OWNER_NONCE.NONCE, HIF_OWNER_SIG.SIG, HIF_BAR2_AP.REGION, HIF_BAR2_AP.START]

/-- 1 begins (R107), commits (R111) or rolls back (R110) (04_host_interface_and_registers.md) -/
def CFG_TXN_BEGIN.GO : Fld := { base := 0x10000, lsb := 0, width := 1, acc := .wo, guarded := true }
/-- 1 begins (R107), commits (R111) or rolls back (R110) (04_host_interface_and_registers.md) -/
def CFG_TXN_COMMIT.GO : Fld := { base := 0x10004, lsb := 0, width := 1, acc := .wo, guarded := true }
/-- 1 begins (R107), commits (R111) or rolls back (R110) (04_host_interface_and_registers.md) -/
def CFG_TXN_ROLLBACK.GO : Fld := { base := 0x10008, lsb := 0, width := 1, acc := .wo, guarded := true }
/-- 0 IDLE, 1 OPEN, 2 COMMITTING (04_host_interface_and_registers.md) -/
def CFG_TXN_STATUS.STATE : Fld := { base := 0x1000c, lsb := 0, width := 2, acc := .ro }
/-- 0 PF0, 1 security core; valid while not IDLE (04_host_interface_and_registers.md) -/
def CFG_TXN_STATUS.OWNER : Fld := { base := 0x1000c, lsb := 2, width := 1, acc := .ro }
/-- Set when a transaction ends (R113) (04_host_interface_and_registers.md) -/
def CFG_TXN_STATUS.DONE : Fld := { base := 0x1000c, lsb := 3, width := 1, acc := .w1c }
/-- 0 none, 1 APPLIED, 2 ROLLED_BACK_HOST, 3 ROLLED_BACK_TIMEOUT, 4 ROLLED_BACK_OWNER, 5 BEGIN (04_host_interface_and_registers.md) -/
def CFG_TXN_STATUS.RESULT : Fld := { base := 0x1000c, lsb := 4, width := 4, acc := .ro }
/-- Registers staged, 0–1,024 (04_host_interface_and_registers.md) -/
def CFG_TXN_STATUS.STAGED : Fld := { base := 0x1000c, lsb := 8, width := 11, acc := .ro }
/-- Transaction marked OVERFLOW (04_host_interface_and_registers.md) -/
def CFG_TXN_STATUS.OVERFLOW : Fld := { base := 0x1000c, lsb := 19, width := 1, acc := .ro }
/-- Milliseconds since BEGIN, 0–1,000; frozen at commit (04_host_interface_and_registers.md) -/
def CFG_TXN_STATUS.ELAPSED : Fld := { base := 0x1000c, lsb := 22, width := 10, acc := .ro }
/-- Slice m as R112 reports it, or all ones under R111 or when the aligner stops before m clos (04_host_interface_and_registers.md) -/
def CFG_TXN_APPLY_SLICE.SLICE : Fld := { base := 0x10010, lsb := 0, width := 64, acc := .ro }
/-- 1 stops comparison (R117) (04_host_interface_and_registers.md) -/
def CFG_CRC_CTL.SUSPEND : Fld := { base := 0x10020, lsb := 0, width := 1, acc := .rw, guarded := true }
/-- 1 adopts the next complete scan (R116); clears when done (04_host_interface_and_registers.md) -/
def CFG_CRC_CTL.ADOPT : Fld := { base := 0x10020, lsb := 1, width := 1, acc := .w1s, guarded := true }
/-- Result of the last complete scan (04_host_interface_and_registers.md) -/
def CFG_CRC_LIVE.LIVE : Fld := { base := 0x10024, lsb := 0, width := 32, acc := .ro }
/-- Committed reference (R116) (04_host_interface_and_registers.md) -/
def CFG_CRC_COMMIT.REF : Fld := { base := 0x10028, lsb := 0, width := 32, acc := .rwt, guarded := true }
/-- Mismatch declared (R115) (04_host_interface_and_registers.md) -/
def CFG_CRC_STATUS.MISMATCH : Fld := { base := 0x1002c, lsb := 0, width := 1, acc := .ro }
/-- A reference has been committed or adopted (04_host_interface_and_registers.md) -/
def CFG_CRC_STATUS.REF_VALID : Fld := { base := 0x1002c, lsb := 1, width := 1, acc := .ro }
/-- Mismatch declarations since reset; saturates at 65,535 (04_host_interface_and_registers.md) -/
def CFG_CRC_STATUS.EPISODES : Fld := { base := 0x1002c, lsb := 16, width := 16, acc := .ro }
/-- Header SERIAL; read with one 64-bit access at base + 0x0 (05_roast_images.md) -/
def CFG_ROAST_ACTIVE.SERIAL : Fld := { base := 0x10040, lsb := 0, width := 64, acc := .ro }
/-- Header SERIAL; read with one 64-bit access at base + 0x0 (05_roast_images.md) -/
def CFG_ROAST_SHADOW.SERIAL : Fld := { base := 0x10050, lsb := 0, width := 64, acc := .ro }
/-- Header SVN, at base + 0x8 (05_roast_images.md) -/
def CFG_ROAST_ACTIVE.SVN : Fld := { base := 0x10048, lsb := 0, width := 32, acc := .ro }
/-- Header SVN, at base + 0x8 (05_roast_images.md) -/
def CFG_ROAST_SHADOW.SVN : Fld := { base := 0x10058, lsb := 0, width := 32, acc := .ro }
/-- Roast tag (R123), at base + 0xC; shadow values are valid only while SHADOW is READY (05_roast_images.md) -/
def CFG_ROAST_ACTIVE.TAG : Fld := { base := 0x1004c, lsb := 0, width := 32, acc := .ro }
/-- Roast tag (R123), at base + 0xC; shadow values are valid only while SHADOW is READY (05_roast_images.md) -/
def CFG_ROAST_SHADOW.TAG : Fld := { base := 0x1005c, lsb := 0, width := 32, acc := .ro }
/-- SVN floor (R136); loaded from the NVS at ledger step 3 (05_roast_images.md) -/
def CFG_ROAST_FLOOR.SVN : Fld := { base := 0x10060, lsb := 0, width := 32, acc := .ro }
/-- API number of the running main firmware, set at ledger step 10 (05_roast_images.md) -/
def CFG_FW_API.API : Fld := { base := 0x10064, lsb := 0, width := 16, acc := .ro }
/-- 1 starts a shadow load (R143) (05_roast_images.md) -/
def CFG_ROAST_CTL.LOAD : Fld := { base := 0x10068, lsb := 0, width := 1, acc := .wo, guarded := true }
/-- 0 flash slot A, 1 flash slot B, 2 host buffer, 3 reserved (load refused); not in CRC (05_roast_images.md) -/
def CFG_ROAST_CTL.SRC : Fld := { base := 0x10068, lsb := 1, width := 2, acc := .rw, guarded := true, crc := false }
/-- 1 discards the shadow (R144) (05_roast_images.md) -/
def CFG_ROAST_CTL.DISCARD : Fld := { base := 0x10068, lsb := 3, width := 1, acc := .wo, guarded := true }
/-- 1 raises the SVN floor (R136) (05_roast_images.md) -/
def CFG_ROAST_CTL.RAISE_FLOOR : Fld := { base := 0x10068, lsb := 4, width := 1, acc := .wo, guarded := true }
/-- 0 EMPTY, 1 LOADING, 2 READY, 3 FAILED, 4 RETIRING (05_roast_images.md) -/
def CFG_ROAST_STATUS.SHADOW : Fld := { base := 0x1006c, lsb := 0, width := 3, acc := .ro }
/-- Region of the active roast (R139) (05_roast_images.md) -/
def CFG_ROAST_STATUS.ACTIVE_REGION : Fld := { base := 0x1006c, lsb := 3, width := 1, acc := .ro }
/-- 0 flash, 1 host; source for repair (R142) (05_roast_images.md) -/
def CFG_ROAST_STATUS.ACTIVE_SRC : Fld := { base := 0x1006c, lsb := 4, width := 1, acc := .ro }
/-- 1 while a host-sourced section awaits repair (05_roast_images.md) -/
def CFG_ROAST_STATUS.REPAIR_REQ : Fld := { base := 0x1006c, lsb := 5, width := 1, acc := .ro }
/-- A LOAD, a DISCARD or a write with more than one command was ignored (R144) (05_roast_images.md) -/
def CFG_ROAST_STATUS.CTL_REFUSED : Fld := { base := 0x1006c, lsb := 6, width := 1, acc := .w1c }
/-- Detail code of the last failed shadow load (R134) (05_roast_images.md) -/
def CFG_ROAST_STATUS.ERROR : Fld := { base := 0x1006c, lsb := 8, width := 8, acc := .ro }
/-- Host bus address of the image, 4 KiB aligned; 64-bit access writes both halves; not in CRC (05_roast_images.md) -/
def CFG_ROAST_HOST_ADDR.ADDR : Fld := { base := 0x10070, lsb := 0, width := 64, acc := .rw, guarded := true, crc := false }
/-- Image length in bytes; not in CRC (05_roast_images.md) -/
def CFG_ROAST_HOST_LEN.LEN : Fld := { base := 0x10078, lsb := 0, width := 32, acc := .rw, guarded := true, crc := false }
/-- Slice D; written by the device when AUTO is used; not in CRC (05_roast_images.md) -/
def CFG_SWAP_SLICE.SLICE : Fld := { base := 0x10080, lsb := 0, width := 64, acc := .rw, guarded := true, crc := false }
/-- 1 requests a swap (R145) (05_roast_images.md) -/
def CFG_SWAP_CTL.REQUEST : Fld := { base := 0x10088, lsb := 0, width := 1, acc := .wo, guarded := true }
/-- 1 lets the device choose D; not in CRC (05_roast_images.md) -/
def CFG_SWAP_CTL.AUTO : Fld := { base := 0x10088, lsb := 1, width := 1, acc := .rw, guarded := true, crc := false }
/-- 1 cancels a pending swap (R150) (05_roast_images.md) -/
def CFG_SWAP_CTL.CANCEL : Fld := { base := 0x10088, lsb := 2, width := 1, acc := .wo, guarded := true }
/-- 0 IDLE, 1 HELD behind a commit, 2 PENDING (05_roast_images.md) -/
def CFG_SWAP_RESULT.STATE : Fld := { base := 0x1008c, lsb := 0, width := 2, acc := .ro }
/-- 0 none, 1 SWAPPED, 2 TOO_LATE, 3 NOT_READY, 4 INCOMPATIBLE, 5 MARGIN, 6 BUSY, 7 CANCELLED, (05_roast_images.md) -/
def CFG_SWAP_RESULT.RESULT : Fld := { base := 0x1008c, lsb := 4, width := 4, acc := .ro }
/-- Set when a request ends in any result (05_roast_images.md) -/
def CFG_SWAP_RESULT.DONE : Fld := { base := 0x1008c, lsb := 8, width := 1, acc := .w1c }
/-- D of the last completed swap (05_roast_images.md) -/
def CFG_SWAP_DONE_SLICE.SLICE : Fld := { base := 0x10090, lsb := 0, width := 64, acc := .ro }
/-- Directory index awaiting host repair (05_roast_images.md) -/
def CFG_REPAIR_SECTION.SECTION : Fld := { base := 0x100a0, lsb := 0, width := 8, acc := .ro }
/-- Region holding the section (05_roast_images.md) -/
def CFG_REPAIR_SECTION.REGION : Fld := { base := 0x100a0, lsb := 8, width := 1, acc := .ro }
/-- Host address of the section's tiles, 4 KiB aligned; not in CRC (05_roast_images.md) -/
def CFG_REPAIR_ADDR.ADDR : Fld := { base := 0x100a8, lsb := 0, width := 64, acc := .rw, guarded := true, crc := false }
/-- Length in bytes, equal to TILE_COUNT × 4,112; not in CRC (05_roast_images.md) -/
def CFG_REPAIR_LEN.LEN : Fld := { base := 0x100b0, lsb := 0, width := 32, acc := .rw, guarded := true, crc := false }
/-- 1 starts the repair read while REPAIR_REQ is 1; ignored otherwise (05_roast_images.md) -/
def CFG_REPAIR_GO.GO : Fld := { base := 0x100b4, lsb := 0, width := 1, acc := .wo, guarded := true }
/-- Counter at +0x0: uses served by the duplicate (R140); saturates (05_roast_images.md) -/
def CFG_TILE_FAULT.SINGLE : Fld := { base := 0x100c0, lsb := 0, width := 32, acc := .ro, counter := true }
/-- Counter at +0x4: tiles delivered BAD; saturates (05_roast_images.md) -/
def CFG_TILE_FAULT.DOUBLE : Fld := { base := 0x100c4, lsb := 0, width := 32, acc := .ro, counter := true }
/-- Counter at +0x8: copies rewritten by the scrubber; saturates (05_roast_images.md) -/
def CFG_TILE_FAULT.REPAIRED : Fld := { base := 0x100c8, lsb := 0, width := 32, acc := .ro, counter := true }
/-- Counter at +0xC: complete scrubber passes over both regions; saturates (05_roast_images.md) -/
def CFG_TILE_FAULT.PASSES : Fld := { base := 0x100cc, lsb := 0, width := 32, acc := .ro, counter := true }

/-- Every field of the CFG window. -/
def tableCFG : List Fld :=
  [CFG_TXN_BEGIN.GO, CFG_TXN_COMMIT.GO, CFG_TXN_ROLLBACK.GO, CFG_TXN_STATUS.STATE, CFG_TXN_STATUS.OWNER, CFG_TXN_STATUS.DONE, CFG_TXN_STATUS.RESULT, CFG_TXN_STATUS.STAGED, CFG_TXN_STATUS.OVERFLOW, CFG_TXN_STATUS.ELAPSED, CFG_TXN_APPLY_SLICE.SLICE, CFG_CRC_CTL.SUSPEND, CFG_CRC_CTL.ADOPT, CFG_CRC_LIVE.LIVE, CFG_CRC_COMMIT.REF, CFG_CRC_STATUS.MISMATCH, CFG_CRC_STATUS.REF_VALID, CFG_CRC_STATUS.EPISODES, CFG_ROAST_ACTIVE.SERIAL, CFG_ROAST_SHADOW.SERIAL, CFG_ROAST_ACTIVE.SVN, CFG_ROAST_SHADOW.SVN, CFG_ROAST_ACTIVE.TAG, CFG_ROAST_SHADOW.TAG, CFG_ROAST_FLOOR.SVN, CFG_FW_API.API, CFG_ROAST_CTL.LOAD, CFG_ROAST_CTL.SRC, CFG_ROAST_CTL.DISCARD, CFG_ROAST_CTL.RAISE_FLOOR, CFG_ROAST_STATUS.SHADOW, CFG_ROAST_STATUS.ACTIVE_REGION, CFG_ROAST_STATUS.ACTIVE_SRC, CFG_ROAST_STATUS.REPAIR_REQ, CFG_ROAST_STATUS.CTL_REFUSED, CFG_ROAST_STATUS.ERROR, CFG_ROAST_HOST_ADDR.ADDR, CFG_ROAST_HOST_LEN.LEN, CFG_SWAP_SLICE.SLICE, CFG_SWAP_CTL.REQUEST] ++
  [CFG_SWAP_CTL.AUTO, CFG_SWAP_CTL.CANCEL, CFG_SWAP_RESULT.STATE, CFG_SWAP_RESULT.RESULT, CFG_SWAP_RESULT.DONE, CFG_SWAP_DONE_SLICE.SLICE, CFG_REPAIR_SECTION.SECTION, CFG_REPAIR_SECTION.REGION, CFG_REPAIR_ADDR.ADDR, CFG_REPAIR_LEN.LEN, CFG_REPAIR_GO.GO, CFG_TILE_FAULT.SINGLE, CFG_TILE_FAULT.DOUBLE, CFG_TILE_FAULT.REPAIRED, CFG_TILE_FAULT.PASSES]

/-- 0 boot, 1 operating, 2 safe mode, 3 quarantine (03_startup_and_boot_ledger.md) -/
def BOOT_STATUS.STATE : Fld := { base := 0x20000, lsb := 0, width := 3, acc := .ro }
/-- Ledger step in progress, 1–16; 0 before step 1 (03_startup_and_boot_ledger.md) -/
def BOOT_STATUS.STEP : Fld := { base := 0x20000, lsb := 3, width := 5, acc := .ro }
/-- Firmware slot in use: 0 A, 1 B (03_startup_and_boot_ledger.md) -/
def BOOT_STATUS.FW_SLOT : Fld := { base := 0x20000, lsb := 8, width := 1, acc := .ro }
/-- Roast slot in use: 0 A, 1 B (03_startup_and_boot_ledger.md) -/
def BOOT_STATUS.ROAST_SLOT : Fld := { base := 0x20000, lsb := 9, width := 1, acc := .ro }
/-- 0 flash, 1 host delivery (R70) (03_startup_and_boot_ledger.md) -/
def BOOT_STATUS.ROAST_SRC : Fld := { base := 0x20000, lsb := 10, width := 1, acc := .ro }
/-- 1 while step 8 waits for BOOT_ROAST_GO (03_startup_and_boot_ledger.md) -/
def BOOT_STATUS.ROAST_REQ : Fld := { base := 0x20000, lsb := 11, width := 1, acc := .ro }
/-- 1 while step 12 is WAITING (R78) (03_startup_and_boot_ledger.md) -/
def BOOT_STATUS.TIME_WAIT : Fld := { base := 0x20000, lsb := 12, width := 1, acc := .ro }
/-- Step whose failure caused safe mode; 0 if none (03_startup_and_boot_ledger.md) -/
def BOOT_STATUS.SAFE_STEP : Fld := { base := 0x20000, lsb := 13, width := 5, acc := .ro }
/-- Last restart: 0 power-on, 1 RESET_N, 2 host soft reset, 3 watchdog (heartbeat), 4 watchdog (03_startup_and_boot_ledger.md) -/
def BOOT_CAUSE.KIND : Fld := { base := 0x20004, lsb := 0, width := 3, acc := .ro, dom := .bkp }
/-- Failed step when KIND = 4 (03_startup_and_boot_ledger.md) -/
def BOOT_CAUSE.STEP : Fld := { base := 0x20004, lsb := 3, width := 5, acc := .ro, dom := .bkp }
/-- Bit 8 + k set when kind k coincided (R87) (03_startup_and_boot_ledger.md) -/
def BOOT_CAUSE.ALSO : Fld := { base := 0x20004, lsb := 8, width := 5, acc := .ro, dom := .bkp }
/-- 1 when a power-on reset came from a rail dip during operation (03_startup_and_boot_ledger.md) -/
def BOOT_CAUSE.BROWNOUT : Fld := { base := 0x20004, lsb := 13, width := 1, acc := .ro, dom := .bkp }
/-- 1 sets every ledger ATTEMPTS to 0 (R81) (03_startup_and_boot_ledger.md) -/
def BOOT_CTL.CLEAR_ATTEMPTS : Fld := { base := 0x20008, lsb := 0, width := 1, acc := .wo, guarded := true }
/-- Preferred firmware slot; loaded from NVS metadata at step 3; a write updates the NVS. A wr (03_startup_and_boot_ledger.md) -/
def BOOT_CTL.FW_PREF : Fld := { base := 0x20008, lsb := 1, width := 1, acc := .rw, guarded := true }
/-- Preferred roast slot; as FW_PREF (03_startup_and_boot_ledger.md) -/
def BOOT_CTL.ROAST_PREF : Fld := { base := 0x20008, lsb := 2, width := 1, acc := .rw, guarded := true }
/-- Next start runs full Carafe training; cleared when it passes (03_startup_and_boot_ledger.md) -/
def BOOT_CTL.FULL_TRAIN : Fld := { base := 0x20008, lsb := 3, width := 1, acc := .w1s, guarded := true, dom := .bkp }
/-- Next start runs full SerDes calibration; cleared when it passes (03_startup_and_boot_ledger.md) -/
def BOOT_CTL.FULL_CAL : Fld := { base := 0x20008, lsb := 4, width := 1, acc := .w1s, guarded := true, dom := .bkp }
/-- Next start enters safe mode after step 4 (R82) (03_startup_and_boot_ledger.md) -/
def BOOT_CTL.STAY_SAFE : Fld := { base := 0x20008, lsb := 5, width := 1, acc := .w1s, guarded := true, dom := .bkp }
/-- Writing 0x5AFE_0001 starts a host soft reset; any other value is ignored (03_startup_and_boot_ledger.md) -/
def BOOT_SOFTRST.KEY : Fld := { base := 0x2000c, lsb := 0, width := 32, acc := .wo, guarded := true }
/-- Host bus address of the section buffer, 4 KiB aligned; a 64-bit access to 0x0002_0010 writ (03_startup_and_boot_ledger.md) -/
def BOOT_ROAST_ADDR.ADDR : Fld := { base := 0x20010, lsb := 0, width := 64, acc := .rw, guarded := true }
/-- Buffer length in bytes, a multiple of 4,096 (03_startup_and_boot_ledger.md) -/
def BOOT_ROAST_LEN.LEN : Fld := { base := 0x20018, lsb := 0, width := 32, acc := .rw, guarded := true }
/-- 1 starts delivery while ROAST_REQ = 1; ignored otherwise (03_startup_and_boot_ledger.md) -/
def BOOT_ROAST_GO.GO : Fld := { base := 0x2001c, lsb := 0, width := 1, acc := .wo, guarded := true }
/-- BOOT_HEALTH: condition bits of R83 (03_startup_and_boot_ledger.md) -/
def BOOT_HEALTH.COND : Fld := { base := 0x20020, lsb := 0, width := 9, acc := .ro }
/-- BOOT_HEALTH_MASK: 1 masks a condition; only bits 3, 6 and 7 accept 1. Bits 0–2, 4, 5 and 8 (03_startup_and_boot_ledger.md) -/
def BOOT_HEALTH_MASK.MASK : Fld := { base := 0x20024, lsb := 0, width := 9, acc := .rwl, roast := true }
/-- Watchdog period in ms, 10 to 10,000; values outside are clamped (03_startup_and_boot_ledger.md) -/
def BOOT_WDT_CFG.PERIOD : Fld := { base := 0x20028, lsb := 0, width := 14, acc := .rwl, roast := true }
/-- Heartbeat; host writes are ignored (03_startup_and_boot_ledger.md) -/
def BOOT_HEARTBEAT.KICK : Fld := { base := 0x2002c, lsb := 0, width := 1, acc := .wo }
/-- Milliseconds since reset ended; saturates (03_startup_and_boot_ledger.md) -/
def BOOT_ELAPSED.ELAPSED : Fld := { base := 0x20030, lsb := 0, width := 32, acc := .ro }
/-- 0 NOT_REACHED, 1 IN_PROGRESS, 2 PASS, 3 PASS_STORED, 4 PASS_ALT, 5 DEGRADED, 6 FAIL, 7 TIM (03_startup_and_boot_ledger.md) -/
def BOOT_LEDGER.OUTCOME : Fld := { base := 0x20040, lsb := 0, width := 4, acc := .ro, dom := .bkp, dims := [(16, 0x4)] }
/-- 0–3 under R72 to R75 (03_startup_and_boot_ledger.md) -/
def BOOT_LEDGER.ATTEMPTS : Fld := { base := 0x20040, lsb := 4, width := 2, acc := .ro, dom := .bkp, dims := [(16, 0x4)] }
/-- Other slot or full procedure in use or remembered (03_startup_and_boot_ledger.md) -/
def BOOT_LEDGER.ALT : Fld := { base := 0x20040, lsb := 6, width := 1, acc := .ro, dom := .bkp, dims := [(16, 0x4)] }
/-- Stored parameters used (03_startup_and_boot_ledger.md) -/
def BOOT_LEDGER.STORED : Fld := { base := 0x20040, lsb := 7, width := 1, acc := .ro, dom := .bkp, dims := [(16, 0x4)] }
/-- Step time in ms; saturates at 65,535 (03_startup_and_boot_ledger.md) -/
def BOOT_LEDGER.DURATION : Fld := { base := 0x20040, lsb := 8, width := 16, acc := .ro, dom := .bkp, dims := [(16, 0x4)] }
/-- Failure code under R544; 0 on pass (03_startup_and_boot_ledger.md) -/
def BOOT_LEDGER.DETAIL : Fld := { base := 0x20040, lsb := 24, width := 8, acc := .ro, dom := .bkp, dims := [(16, 0x4)] }
/-- Host buffer, 4 KiB aligned; not in CRC (21_pace_spares_and_service.md) -/
def BOOT_FLASH_ADDR.ADDR : Fld := { base := 0x20100, lsb := 0, width := 64, acc := .rw, guarded := true, crc := false }
/-- Bytes, multiple of 65,536; not in CRC (21_pace_spares_and_service.md) -/
def BOOT_FLASH_LEN.LEN : Fld := { base := 0x20108, lsb := 0, width := 32, acc := .rw, guarded := true, crc := false }
/-- Flash offset, 64 KiB aligned; not in CRC (21_pace_spares_and_service.md) -/
def BOOT_FLASH_OFS.OFS : Fld := { base := 0x2010c, lsb := 0, width := 32, acc := .rw, guarded := true, crc := false }
/-- BOOT_FLASH_CMD: 1 write, 2 check firmware slot, 3 check roast slot (21_pace_spares_and_service.md) -/
def BOOT_FLASH_CMD.OP : Fld := { base := 0x20110, lsb := 0, width := 2, acc := .wo, guarded := true }
/-- Slot for OP 2 and 3: 0 A, 1 B (21_pace_spares_and_service.md) -/
def BOOT_FLASH_CMD.SLOT : Fld := { base := 0x20110, lsb := 2, width := 1, acc := .wo, guarded := true }
/-- Command running (21_pace_spares_and_service.md) -/
def BOOT_FLASH_CMD.BUSY : Fld := { base := 0x20110, lsb := 8, width := 1, acc := .ro }
/-- 0 none, 1 DONE, 2 IN_USE, 3 VERIFY_FAIL, 4 FLASH_ERR (21_pace_spares_and_service.md) -/
def BOOT_FLASH_CMD.RESULT : Fld := { base := 0x20110, lsb := 9, width := 3, acc := .ro }
/-- BOOT_FW_LIVE: R538 (21_pace_spares_and_service.md) -/
def BOOT_FW_LIVE.STAGE : Fld := { base := 0x20118, lsb := 0, width := 1, acc := .wo, guarded := true }
/-- R538 (21_pace_spares_and_service.md) -/
def BOOT_FW_LIVE.SWITCH : Fld := { base := 0x20118, lsb := 1, width := 1, acc := .wo, guarded := true }
/-- R538 (21_pace_spares_and_service.md) -/
def BOOT_FW_LIVE.COMMIT : Fld := { base := 0x20118, lsb := 2, width := 1, acc := .wo, guarded := true }
/-- R538 (21_pace_spares_and_service.md) -/
def BOOT_FW_LIVE.ABORT : Fld := { base := 0x20118, lsb := 3, width := 1, acc := .wo, guarded := true }
/-- 0 IDLE, 1 STAGED, 2 SWITCHING, 3 FAILED (21_pace_spares_and_service.md) -/
def BOOT_FW_LIVE.STATE : Fld := { base := 0x20118, lsb := 8, width := 3, acc := .ro }

/-- Every field of the BOOT window. -/
def tableBOOT : List Fld :=
  [BOOT_STATUS.STATE, BOOT_STATUS.STEP, BOOT_STATUS.FW_SLOT, BOOT_STATUS.ROAST_SLOT, BOOT_STATUS.ROAST_SRC, BOOT_STATUS.ROAST_REQ, BOOT_STATUS.TIME_WAIT, BOOT_STATUS.SAFE_STEP, BOOT_CAUSE.KIND, BOOT_CAUSE.STEP, BOOT_CAUSE.ALSO, BOOT_CAUSE.BROWNOUT, BOOT_CTL.CLEAR_ATTEMPTS, BOOT_CTL.FW_PREF, BOOT_CTL.ROAST_PREF, BOOT_CTL.FULL_TRAIN, BOOT_CTL.FULL_CAL, BOOT_CTL.STAY_SAFE, BOOT_SOFTRST.KEY, BOOT_ROAST_ADDR.ADDR, BOOT_ROAST_LEN.LEN, BOOT_ROAST_GO.GO, BOOT_HEALTH.COND, BOOT_HEALTH_MASK.MASK, BOOT_WDT_CFG.PERIOD, BOOT_HEARTBEAT.KICK, BOOT_ELAPSED.ELAPSED, BOOT_LEDGER.OUTCOME, BOOT_LEDGER.ATTEMPTS, BOOT_LEDGER.ALT, BOOT_LEDGER.STORED, BOOT_LEDGER.DURATION, BOOT_LEDGER.DETAIL, BOOT_FLASH_ADDR.ADDR, BOOT_FLASH_LEN.LEN, BOOT_FLASH_OFS.OFS, BOOT_FLASH_CMD.OP, BOOT_FLASH_CMD.SLOT, BOOT_FLASH_CMD.BUSY, BOOT_FLASH_CMD.RESULT] ++
  [BOOT_FW_LIVE.STAGE, BOOT_FW_LIVE.SWITCH, BOOT_FW_LIVE.COMMIT, BOOT_FW_LIVE.ABORT, BOOT_FW_LIVE.STATE]

/-- R530 (21_pace_spares_and_service.md) -/
def PACE_THR.SHED_US : Fld := { base := 0x30000, lsb := 0, width := 10, acc := .rwl, roast := true }
/-- R528 (21_pace_spares_and_service.md) -/
def PACE_THR.LOW_US : Fld := { base := 0x30000, lsb := 10, width := 10, acc := .rwl, roast := true }
/-- R528 (21_pace_spares_and_service.md) -/
def PACE_THR.HIGH_US : Fld := { base := 0x30000, lsb := 20, width := 10, acc := .rwl, roast := true }
/-- PACE_VLIM: 600–900 mV; values outside are clamped (21_pace_spares_and_service.md) -/
def PACE_VLIM.VMIN_MV : Fld := { base := 0x30004, lsb := 0, width := 10, acc := .rwl, roast := true }
/-- 600–900 mV, at least VMIN_MV (21_pace_spares_and_service.md) -/
def PACE_VLIM.VMAX_MV : Fld := { base := 0x30004, lsb := 16, width := 10, acc := .rwl, roast := true }
/-- PACE_CTL: R533 (21_pace_spares_and_service.md) -/
def PACE_CTL.AUTO_SWEEP : Fld := { base := 0x30008, lsb := 0, width := 1, acc := .rwl, roast := true }
/-- R534 (21_pace_spares_and_service.md) -/
def PACE_CTL.AUTO_CORE : Fld := { base := 0x30008, lsb := 1, width := 1, acc := .rwl, roast := true }
/-- R528 (21_pace_spares_and_service.md) -/
def PACE_CTL.AVS_RETRY : Fld := { base := 0x30008, lsb := 8, width := 1, acc := .wo, guarded := true }
/-- Last confirmed VCORE_F (21_pace_spares_and_service.md) -/
def PACE_STATUS.VCORE_MV : Fld := { base := 0x3000c, lsb := 0, width := 10, acc := .ro, rst := 0x320 }
/-- Ranks in force (R530) (21_pace_spares_and_service.md) -/
def PACE_STATUS.SHED : Fld := { base := 0x3000c, lsb := 10, width := 3, acc := .ro }
/-- Latest slice certified (21_pace_spares_and_service.md) -/
def PACE_STATUS.CERTIFIED : Fld := { base := 0x3000c, lsb := 13, width := 1, acc := .ro }
/-- R528 (21_pace_spares_and_service.md) -/
def PACE_STATUS.AVS_FAIL : Fld := { base := 0x3000c, lsb := 14, width := 1, acc := .ro }
/-- Request outstanding (21_pace_spares_and_service.md) -/
def PACE_STATUS.AVS_BUSY : Fld := { base := 0x3000c, lsb := 15, width := 1, acc := .ro }
/-- R533 (21_pace_spares_and_service.md) -/
def PACE_STATUS.NO_SPARE : Fld := { base := 0x3000c, lsb := 16, width := 1, acc := .ro }
/-- PACE_MARGIN: signed ns (21_pace_spares_and_service.md) -/
def PACE_MARGIN.NS : Fld := { base := 0x30010, lsb := 0, width := 32, acc := .ro }
/-- PACE_REV_HS: R529 (21_pace_spares_and_service.md) -/
def PACE_REV_HS.HS : Fld := { base := 0x30018, lsb := 0, width := 64, acc := .rwl, roast := true }
/-- Region rate in M handshakes/s (21_pace_spares_and_service.md) -/
def PACE_RATE.MHS : Fld := { base := 0x30040, lsb := 0, width := 16, acc := .ro, dims := [(8, 0x4)] }
/-- Region valid (R523) (21_pace_spares_and_service.md) -/
def PACE_RATE.VALID : Fld := { base := 0x30040, lsb := 16, width := 1, acc := .ro, dims := [(8, 0x4)] }
/-- Bits [2p+1:2p] for unit p: 0 ACTIVE, 1 SPARE, 3 RETIRED (21_pace_spares_and_service.md) -/
def PACE_SWEEP_STATE.STATE : Fld := { base := 0x30060, lsb := 0, width := 64, acc := .ro, rst := 0x500000000 }
/-- Bits [8k+4:8k]: physical unit of logical k (21_pace_spares_and_service.md) -/
def PACE_SWEEP_MAP.MAP : Fld := { base := 0x30070, lsb := 0, width := 128, acc := .ro, rst := 0xf0e0d0c0b0a09080706050403020100 }
/-- PACE_SWEEP_CMD: physical unit (21_pace_spares_and_service.md) -/
def PACE_SWEEP_CMD.UNIT : Fld := { base := 0x30080, lsb := 0, width := 5, acc := .wo, guarded := true }
/-- R533 (21_pace_spares_and_service.md) -/
def PACE_SWEEP_CMD.RETIRE : Fld := { base := 0x30080, lsb := 8, width := 1, acc := .wo, guarded := true }
/-- R533 (21_pace_spares_and_service.md) -/
def PACE_SWEEP_CMD.RESTORE : Fld := { base := 0x30080, lsb := 9, width := 1, acc := .wo, guarded := true }
/-- A slice was uncertified (21_pace_spares_and_service.md) -/
def PACE_IRQ.UNCERT : Fld := { base := 0x30090, lsb := 0, width := 1, acc := .w1c }
/-- R530 (21_pace_spares_and_service.md) -/
def PACE_IRQ.SHED_CHG : Fld := { base := 0x30090, lsb := 1, width := 1, acc := .w1c }
/-- R528 (21_pace_spares_and_service.md) -/
def PACE_IRQ.AVS_FAIL : Fld := { base := 0x30090, lsb := 2, width := 1, acc := .w1c }
/-- R532 (21_pace_spares_and_service.md) -/
def PACE_IRQ.UNIT_FAULT : Fld := { base := 0x30090, lsb := 3, width := 1, acc := .w1c }
/-- R534 (21_pace_spares_and_service.md) -/
def PACE_IRQ.CORE_FAULT : Fld := { base := 0x30090, lsb := 4, width := 1, acc := .w1c }
/-- R527 (21_pace_spares_and_service.md) -/
def PACE_IRQ.WDT : Fld := { base := 0x30090, lsb := 5, width := 1, acc := .w1c }
/-- PACE_IRQ_MASK: 1 lets the matching bit raise vector 2 (21_pace_spares_and_service.md) -/
def PACE_IRQ_MASK.MASK : Fld := { base := 0x30094, lsb := 0, width := 6, acc := .rw }
/-- Counter: (21_pace_spares_and_service.md) -/
def PACE.UNCERT_SLICES : Fld := { base := 0x31000, lsb := 0, width := 64, acc := .ro, counter := true }
/-- Counter: (21_pace_spares_and_service.md) -/
def PACE.WDT_ABORTS : Fld := { base := 0x31020, lsb := 0, width := 64, acc := .ro, counter := true }
/-- Counter: (21_pace_spares_and_service.md) -/
def PACE.AVS_UP : Fld := { base := 0x31008, lsb := 0, width := 64, acc := .ro, counter := true }
/-- Counter: (21_pace_spares_and_service.md) -/
def PACE.UNIT_TEST_FAIL : Fld := { base := 0x31028, lsb := 0, width := 64, acc := .ro, counter := true }
/-- Counter: (21_pace_spares_and_service.md) -/
def PACE.AVS_DOWN : Fld := { base := 0x31010, lsb := 0, width := 64, acc := .ro, counter := true }
/-- Counter: (21_pace_spares_and_service.md) -/
def PACE.SHED_SLICES : Fld := { base := 0x31018, lsb := 0, width := 64, acc := .ro, counter := true }

/-- Every field of the PACE window. -/
def tablePACE : List Fld :=
  [PACE_THR.SHED_US, PACE_THR.LOW_US, PACE_THR.HIGH_US, PACE_VLIM.VMIN_MV, PACE_VLIM.VMAX_MV, PACE_CTL.AUTO_SWEEP, PACE_CTL.AUTO_CORE, PACE_CTL.AVS_RETRY, PACE_STATUS.VCORE_MV, PACE_STATUS.SHED, PACE_STATUS.CERTIFIED, PACE_STATUS.AVS_FAIL, PACE_STATUS.AVS_BUSY, PACE_STATUS.NO_SPARE, PACE_MARGIN.NS, PACE_REV_HS.HS, PACE_RATE.MHS, PACE_RATE.VALID, PACE_SWEEP_STATE.STATE, PACE_SWEEP_MAP.MAP, PACE_SWEEP_CMD.UNIT, PACE_SWEEP_CMD.RETIRE, PACE_SWEEP_CMD.RESTORE, PACE_IRQ.UNCERT, PACE_IRQ.SHED_CHG, PACE_IRQ.AVS_FAIL, PACE_IRQ.UNIT_FAULT, PACE_IRQ.CORE_FAULT, PACE_IRQ.WDT, PACE_IRQ_MASK.MASK, PACE.UNCERT_SLICES, PACE.WDT_ABORTS, PACE.AVS_UP, PACE.UNIT_TEST_FAIL, PACE.AVS_DOWN, PACE.SHED_SLICES]

/-- Thread handed out (R443) (17_barista_scheduler_and_cores.md) -/
def SCH_GETWORK.THREAD : Fld := { base := 0x40000, lsb := 0, width := 8, acc := .ro, perReq := true }
/-- THREAD valid (17_barista_scheduler_and_cores.md) -/
def SCH_GETWORK.VALID : Fld := { base := 0x40000, lsb := 8, width := 1, acc := .ro, perReq := true }
/-- 0 IDLE, 1 NEW, 2 SIGNALLED, 3 TIMEOUT, 4 YIELDED, 5 DRAIN, 6 RESUMED (17_barista_scheduler_and_cores.md) -/
def SCH_GETWORK.REASON : Fld := { base := 0x40000, lsb := 9, width := 3, acc := .ro, perReq := true }
/-- Object that woke the thread (17_barista_scheduler_and_cores.md) -/
def SCH_GETWORK.OBJ : Fld := { base := 0x40000, lsb := 16, width := 10, acc := .ro, perReq := true }
/-- SCH_SELF: thread running on this core (17_barista_scheduler_and_cores.md) -/
def SCH_SELF.THREAD : Fld := { base := 0x40004, lsb := 0, width := 8, acc := .ro, perReq := true }
/-- Logical index (17_barista_scheduler_and_cores.md) -/
def SCH_SELF.LOGICAL : Fld := { base := 0x40004, lsb := 8, width := 4, acc := .ro, perReq := true }
/-- Physical core (17_barista_scheduler_and_cores.md) -/
def SCH_SELF.PHYSICAL : Fld := { base := 0x40004, lsb := 12, width := 4, acc := .ro, perReq := true }
/-- Last wait: 0 none, 1 SIGNALLED, 2 TIMEOUT (R446) (17_barista_scheduler_and_cores.md) -/
def SCH_SELF.LAST : Fld := { base := 0x40004, lsb := 16, width := 2, acc := .ro, perReq := true }
/-- Preempt request outstanding (R445) (17_barista_scheduler_and_cores.md) -/
def SCH_SELF.PREEMPT : Fld := { base := 0x40004, lsb := 18, width := 1, acc := .ro, perReq := true }
/-- Timeout for this core's next wait; not in CRC (17_barista_scheduler_and_cores.md) -/
def SCH_WAIT_TIMEOUT.US : Fld := { base := 0x40008, lsb := 0, width := 32, acc := .rw, rst := 0xffffffff, crc := false, perReq := true }
/-- SCH_WAIT: wait on OBJ (R446) (17_barista_scheduler_and_cores.md) -/
def SCH_WAIT.OBJ : Fld := { base := 0x4000c, lsb := 0, width := 10, acc := .wo }
/-- SCH_SIGNAL: signal OBJ (R447) (17_barista_scheduler_and_cores.md) -/
def SCH_SIGNAL.OBJ : Fld := { base := 0x40010, lsb := 0, width := 10, acc := .wo }
/-- SCH_YIELD, SCH_EXIT, SCH_PARK: R444, R451 (17_barista_scheduler_and_cores.md) -/
def SCH_YIELD.GO : Fld := { base := 0x40014, lsb := 0, width := 1, acc := .wo }
/-- SCH_YIELD, SCH_EXIT, SCH_PARK: R444, R451 (17_barista_scheduler_and_cores.md) -/
def SCH_EXIT.GO : Fld := { base := 0x40018, lsb := 0, width := 1, acc := .wo }
/-- SCH_YIELD, SCH_EXIT, SCH_PARK: R444, R451 (17_barista_scheduler_and_cores.md) -/
def SCH_PARK.GO : Fld := { base := 0x4001c, lsb := 0, width := 1, acc := .wo }
/-- Block selected; per requester; not in CRC (17_barista_scheduler_and_cores.md) -/
def SCH_TCB_SEL.THREAD : Fld := { base := 0x40020, lsb := 0, width := 8, acc := .rw, crc := false, perReq := true }
/-- SCH_TCB_CMD: 1 CREATE, 2 SUSPEND, 3 RESUME, 4 SET_PRIO, 5 FREE (FAULTED or SUSPENDED only) (17_barista_scheduler_and_cores.md) -/
def SCH_TCB_CMD.OP : Fld := { base := 0x40024, lsb := 0, width := 3, acc := .wo }
/-- 0 none, 1 DONE, 2 REFUSED (17_barista_scheduler_and_cores.md) -/
def SCH_TCB_CMD.RESULT : Fld := { base := 0x40024, lsb := 4, width := 2, acc := .ro }
/-- k = 0–1: CONTEXT [31:0], [63:32]; k = 2: [4:0] PRIO, [15:8] AFFINITY, [18:16] STATE (0 FRE (17_barista_scheduler_and_cores.md) -/
def SCH_TCB.WORD : Fld := { base := 0x40030, lsb := 0, width := 32, acc := .rw, crc := false, dims := [(4, 0x4)] }
/-- Object selected; per requester; not in CRC (17_barista_scheduler_and_cores.md) -/
def SCH_OBJ_SEL.OBJ : Fld := { base := 0x40040, lsb := 0, width := 10, acc := .rw, crc := false, perReq := true }
/-- SCH_OBJ_CFG: 0 EVENT, 1 SEMAPHORE; a write empties the object; ignored while threads wait; (17_barista_scheduler_and_cores.md) -/
def SCH_OBJ_CFG.KIND : Fld := { base := 0x40044, lsb := 0, width := 1, acc := .rw, crc := false }
/-- SCH_OBJ_STATUS: count, or pending bit in [0] (17_barista_scheduler_and_cores.md) -/
def SCH_OBJ_STATUS.COUNT : Fld := { base := 0x40048, lsb := 0, width := 16, acc := .ro }
/-- Threads waiting, 0–256 (17_barista_scheduler_and_cores.md) -/
def SCH_OBJ_STATUS.WAITERS : Fld := { base := 0x40048, lsb := 16, width := 9, acc := .ro }
/-- SCH_FLOW_f_CFG: object signalled per release (17_barista_scheduler_and_cores.md) -/
def SCH_FLOW_CFG.RELEASE_OBJ : Fld := { base := 0x40800, lsb := 0, width := 10, acc := .rw, dims := [(64, 0x10)] }
/-- R450; 0 disables; not in CRC (17_barista_scheduler_and_cores.md) -/
def SCH_FLOW_CFG.STALL_US : Fld := { base := 0x40800, lsb := 12, width := 20, acc := .rw, rst := 0x186a0, crc := false, dims := [(64, 0x10)] }
/-- SCH_FLOW_f_POST: read posts an item; SEQ assigned (17_barista_scheduler_and_cores.md) -/
def SCH_FLOW_POST.SEQ : Fld := { base := 0x40804, lsb := 0, width := 16, acc := .ro, perReq := true, dims := [(64, 0x10)] }
/-- 0 when refused (R449, R450) (17_barista_scheduler_and_cores.md) -/
def SCH_FLOW_POST.OK : Fld := { base := 0x40804, lsb := 31, width := 1, acc := .ro, perReq := true, dims := [(64, 0x10)] }
/-- SCH_FLOW_f_DONE: completes item SEQ (17_barista_scheduler_and_cores.md) -/
def SCH_FLOW_DONE.SEQ : Fld := { base := 0x40808, lsb := 0, width := 16, acc := .wo, dims := [(64, 0x10)] }
/-- SCH_FLOW_f_TAKE: read takes the next released item (17_barista_scheduler_and_cores.md) -/
def SCH_FLOW_TAKE.SEQ : Fld := { base := 0x4080c, lsb := 0, width := 16, acc := .ro, perReq := true, dims := [(64, 0x10)] }
/-- 0 none, 1 DONE, 2 ABANDONED (17_barista_scheduler_and_cores.md) -/
def SCH_FLOW_TAKE.STATUS : Fld := { base := 0x4080c, lsb := 16, width := 2, acc := .ro, perReq := true, dims := [(64, 0x10)] }
/-- Physical core to vacate (R451) (17_barista_scheduler_and_cores.md) -/
def SCH_MIGRATE.FROM : Fld := { base := 0x40200, lsb := 0, width := 4, acc := .wo, guarded := true }
/-- Spare physical core (17_barista_scheduler_and_cores.md) -/
def SCH_MIGRATE.TO : Fld := { base := 0x40200, lsb := 4, width := 4, acc := .wo, guarded := true }
/-- FROM becomes SPARE rather than RETIRED (17_barista_scheduler_and_cores.md) -/
def SCH_MIGRATE.RETAIN : Fld := { base := 0x40200, lsb := 8, width := 1, acc := .wo, guarded := true }
/-- Start (17_barista_scheduler_and_cores.md) -/
def SCH_MIGRATE.GO : Fld := { base := 0x40200, lsb := 31, width := 1, acc := .wo, guarded := true }
/-- SCH_CORE_STATUS: bits [2p+1:2p] for core p: 0 ACTIVE, 1 SPARE, 2 DRAINING, 3 RETIRED (17_barista_scheduler_and_cores.md) -/
def SCH_CORE_STATUS.STATE : Fld := { base := 0x40204, lsb := 0, width := 18, acc := .ro, rst := 0x10000 }
/-- 0 none, 1 DONE, 2 REFUSED, 3 FORCED (17_barista_scheduler_and_cores.md) -/
def SCH_CORE_STATUS.RESULT : Fld := { base := 0x40204, lsb := 20, width := 2, acc := .ro }
/-- SCH_CORE_MAP: bits [4k+3:4k] give the physical core of logical k (17_barista_scheduler_and_cores.md) -/
def SCH_CORE_MAP.MAP : Fld := { base := 0x40208, lsb := 0, width := 32, acc := .ro, rst := 0x76543210 }
/-- SCH_CFG: R443; 0 stalls without limit (17_barista_scheduler_and_cores.md) -/
def SCH_CFG.IDLE_US : Fld := { base := 0x40210, lsb := 0, width := 16, acc := .rw }
/-- Object signalled under R452 (17_barista_scheduler_and_cores.md) -/
def SCH_CFG.FAULT_OBJ : Fld := { base := 0x40210, lsb := 16, width := 10, acc := .rw }
/-- R451 (17_barista_scheduler_and_cores.md) -/
def SCH_IRQ.MIGRATED : Fld := { base := 0x40220, lsb := 0, width := 1, acc := .w1c }
/-- R452 (17_barista_scheduler_and_cores.md) -/
def SCH_IRQ.FAULTED : Fld := { base := 0x40220, lsb := 1, width := 1, acc := .w1c }
/-- R450 (17_barista_scheduler_and_cores.md) -/
def SCH_IRQ.ABANDONED : Fld := { base := 0x40220, lsb := 2, width := 1, acc := .w1c }
/-- SCH_IRQ_MASK: 1 lets the matching bit raise vector 96 (17_barista_scheduler_and_cores.md) -/
def SCH_IRQ_MASK.MASK : Fld := { base := 0x40224, lsb := 0, width := 3, acc := .rw }
/-- Counter: (17_barista_scheduler_and_cores.md) -/
def SCH.HANDOUTS : Fld := { base := 0x41000, lsb := 0, width := 64, acc := .ro, counter := true }
/-- Counter: (17_barista_scheduler_and_cores.md) -/
def SCH.LATE_DONE : Fld := { base := 0x41020, lsb := 0, width := 64, acc := .ro, counter := true }
/-- Counter: (17_barista_scheduler_and_cores.md) -/
def SCH.PREEMPT_LATE : Fld := { base := 0x41008, lsb := 0, width := 64, acc := .ro, counter := true }
/-- Counter: (17_barista_scheduler_and_cores.md) -/
def SCH.POST_FULL : Fld := { base := 0x41028, lsb := 0, width := 64, acc := .ro, counter := true }
/-- Counter: (17_barista_scheduler_and_cores.md) -/
def SCH.SIG_ABSORBED : Fld := { base := 0x41010, lsb := 0, width := 64, acc := .ro, counter := true }
/-- Counter: (17_barista_scheduler_and_cores.md) -/
def SCH.FORCED : Fld := { base := 0x41030, lsb := 0, width := 64, acc := .ro, counter := true }
/-- Counter: (17_barista_scheduler_and_cores.md) -/
def SCH.ABANDONED : Fld := { base := 0x41018, lsb := 0, width := 64, acc := .ro, counter := true }

/-- Every field of the SCH window. -/
def tableSCH : List Fld :=
  [SCH_GETWORK.THREAD, SCH_GETWORK.VALID, SCH_GETWORK.REASON, SCH_GETWORK.OBJ, SCH_SELF.THREAD, SCH_SELF.LOGICAL, SCH_SELF.PHYSICAL, SCH_SELF.LAST, SCH_SELF.PREEMPT, SCH_WAIT_TIMEOUT.US, SCH_WAIT.OBJ, SCH_SIGNAL.OBJ, SCH_YIELD.GO, SCH_EXIT.GO, SCH_PARK.GO, SCH_TCB_SEL.THREAD, SCH_TCB_CMD.OP, SCH_TCB_CMD.RESULT, SCH_TCB.WORD, SCH_OBJ_SEL.OBJ, SCH_OBJ_CFG.KIND, SCH_OBJ_STATUS.COUNT, SCH_OBJ_STATUS.WAITERS, SCH_FLOW_CFG.RELEASE_OBJ, SCH_FLOW_CFG.STALL_US, SCH_FLOW_POST.SEQ, SCH_FLOW_POST.OK, SCH_FLOW_DONE.SEQ, SCH_FLOW_TAKE.SEQ, SCH_FLOW_TAKE.STATUS, SCH_MIGRATE.FROM, SCH_MIGRATE.TO, SCH_MIGRATE.RETAIN, SCH_MIGRATE.GO, SCH_CORE_STATUS.STATE, SCH_CORE_STATUS.RESULT, SCH_CORE_MAP.MAP, SCH_CFG.IDLE_US, SCH_CFG.FAULT_OBJ, SCH_IRQ.MIGRATED] ++
  [SCH_IRQ.FAULTED, SCH_IRQ.ABANDONED, SCH_IRQ_MASK.MASK, SCH.HANDOUTS, SCH.LATE_DONE, SCH.PREEMPT_LATE, SCH.POST_FULL, SCH.SIG_ABSORBED, SCH.FORCED, SCH.ABANDONED]

/-- 0 BLANK, 1 TEST, 2 DEV, 3 PRODUCTION, 4 RMA (18_keys_and_security.md) -/
def SEC_STATUS.LIFECYCLE : Fld := { base := 0x50000, lsb := 0, width := 3, acc := .ro, dom := .fuse }
/-- — (18_keys_and_security.md) -/
def SEC_STATUS.DEBUG_ALLOWED : Fld := { base := 0x50000, lsb := 3, width := 1, acc := .ro, dom := .fuse }
/-- Debug open this start (R459) (18_keys_and_security.md) -/
def SEC_STATUS.DEBUG_OPEN : Fld := { base := 0x50000, lsb := 4, width := 1, acc := .ro }
/-- Debug opens at the next start (18_keys_and_security.md) -/
def SEC_STATUS.DEBUG_NEXT : Fld := { base := 0x50000, lsb := 5, width := 1, acc := .ro, dom := .bkp }
/-- — (18_keys_and_security.md) -/
def SEC_STATUS.TAMPER_KILL : Fld := { base := 0x50000, lsb := 6, width := 1, acc := .ro, dom := .fuse }
/-- R474 (18_keys_and_security.md) -/
def SEC_STATUS.KILLED : Fld := { base := 0x50000, lsb := 7, width := 1, acc := .ro, dom := .fuse }
/-- In quarantine (18_keys_and_security.md) -/
def SEC_STATUS.QUARANTINE : Fld := { base := 0x50000, lsb := 8, width := 1, acc := .ro }
/-- Substitute root in use (R460) (18_keys_and_security.md) -/
def SEC_STATUS.ROOT_SUBST : Fld := { base := 0x50000, lsb := 9, width := 1, acc := .ro }
/-- Entropy source passing its health tests (18_keys_and_security.md) -/
def SEC_STATUS.ENTROPY_OK : Fld := { base := 0x50000, lsb := 10, width := 1, acc := .ro }
/-- FW_SVN fuse count, 0–64 (18_keys_and_security.md) -/
def SEC_STATUS.FW_SVN_FUSE : Fld := { base := 0x50000, lsb := 16, width := 7, acc := .ro, dom := .fuse }
/-- SEC_FW_FLOOR: R462 (18_keys_and_security.md) -/
def SEC_FW_FLOOR.SVN : Fld := { base := 0x50004, lsb := 0, width := 32, acc := .ro }
/-- SEC_FW_CTL: R462 (18_keys_and_security.md) -/
def SEC_FW_CTL.RAISE_FLOOR : Fld := { base := 0x50008, lsb := 0, width := 1, acc := .wo, guarded := true }
/-- R462 (18_keys_and_security.md) -/
def SEC_FW_CTL.BURN_FLOOR : Fld := { base := 0x50008, lsb := 1, width := 1, acc := .wo, guarded := true }
/-- SEC_FUSE_CMD: 0xF05E_0001 GM, 0xF05E_0002 TAMPER_KILL, 0xF05E_0003 DEBUG_ALLOWED, 0xF05E_0 (18_keys_and_security.md) -/
def SEC_FUSE_CMD.CODE : Fld := { base := 0x5000c, lsb := 0, width := 32, acc := .wo, guarded := true }
/-- Debug nonce word k (R459) (18_keys_and_security.md) -/
def SEC_DBG_NONCE.NONCE : Fld := { base := 0x50010, lsb := 0, width := 32, acc := .ro, dims := [(4, 0x4)] }
/-- Identity certificate bytes 4k to 4k + 3 (R468) (18_keys_and_security.md) -/
def SEC_CERT.CERT : Fld := { base := 0x50200, lsb := 0, width := 32, acc := .ro, dims := [(128, 0x4)] }
/-- Bit k: TAMPERk enabled; set by TAMPER_CFG (R467) (18_keys_and_security.md) -/
def SEC_TAMPER_CFG.EN : Fld := { base := 0x50040, lsb := 0, width := 4, acc := .ro, dom := .bkp }
/-- Bit 4 + k: TAMPERk active high (18_keys_and_security.md) -/
def SEC_TAMPER_CFG.LEVEL : Fld := { base := 0x50040, lsb := 4, width := 4, acc := .ro, dom := .bkp }
/-- Mesh checked (18_keys_and_security.md) -/
def SEC_TAMPER_CFG.MESH_EN : Fld := { base := 0x50040, lsb := 8, width := 1, acc := .ro, dom := .bkp }
/-- VBAT loss is a tamper (R471) (18_keys_and_security.md) -/
def SEC_TAMPER_CFG.VBAT_LOSS : Fld := { base := 0x50040, lsb := 9, width := 1, acc := .ro, dom := .bkp }
/-- SEC_TAMPER_LATCH: bit k TAMPERk, bit 4 mesh, bit 5 VBAT loss (18_keys_and_security.md) -/
def SEC_TAMPER_LATCH.SOURCE : Fld := { base := 0x50044, lsb := 0, width := 6, acc := .ro, dom := .bkp }
/-- 0 running, 1 start-up, 2 sleep, 3 key operation (18_keys_and_security.md) -/
def SEC_TAMPER_LATCH.PHASE : Fld := { base := 0x50044, lsb := 8, width := 2, acc := .ro, dom := .bkp }
/-- Tamper latched (18_keys_and_security.md) -/
def SEC_TAMPER_LATCH.VALID : Fld := { base := 0x50044, lsb := 31, width := 1, acc := .ro, dom := .bkp }
/-- SEC_TAMPER_TIME_0: calendar seconds since 2000-01-01 00:00:00 (18_keys_and_security.md) -/
def SEC_TAMPER_TIME_0.SEC : Fld := { base := 0x50048, lsb := 0, width := 32, acc := .ro, dom := .bkp }
/-- SEC_TAMPER_TIME_1: units of 1/32,768 s (18_keys_and_security.md) -/
def SEC_TAMPER_TIME_1.SUB : Fld := { base := 0x5004c, lsb := 0, width := 15, acc := .ro, dom := .bkp }
/-- SEC_TAMPER_CLR: R474 (18_keys_and_security.md) -/
def SEC_TAMPER_CLR.KEY : Fld := { base := 0x50050, lsb := 0, width := 32, acc := .wo, guarded := true }
/-- R472 (18_keys_and_security.md) -/
def SEC_IRQ.TAMPER : Fld := { base := 0x50060, lsb := 0, width := 1, acc := .w1c }
/-- A register command completed (18_keys_and_security.md) -/
def SEC_IRQ.KEY_DONE : Fld := { base := 0x50060, lsb := 1, width := 1, acc := .w1c }
/-- A journal update failed (R469) (18_keys_and_security.md) -/
def SEC_IRQ.JOURNAL : Fld := { base := 0x50060, lsb := 2, width := 1, acc := .w1c }
/-- SEC_IRQ_MASK: 1 lets the matching bit raise vector 104 (18_keys_and_security.md) -/
def SEC_IRQ_MASK.MASK : Fld := { base := 0x50064, lsb := 0, width := 3, acc := .rw }
/-- Command of R467; the write starts it (18_keys_and_security.md) -/
def KEY_CMD.OP : Fld := { base := 0x54000, lsb := 0, width := 4, acc := .wo }
/-- Target slot (18_keys_and_security.md) -/
def KEY_CMD.SLOT : Fld := { base := 0x54000, lsb := 8, width := 8, acc := .wo }
/-- Parent slot for DERIVE (18_keys_and_security.md) -/
def KEY_CMD.PARENT : Fld := { base := 0x54000, lsb := 16, width := 8, acc := .wo }
/-- Generation index c (18_keys_and_security.md) -/
def KEY_CMD.GEN : Fld := { base := 0x54000, lsb := 24, width := 5, acc := .wo }
/-- KEY_ARG: message bytes, 0–1,024; not in CRC (18_keys_and_security.md) -/
def KEY_ARG.MSG_LEN : Fld := { base := 0x54004, lsb := 0, width := 11, acc := .rw, crc := false }
/-- Label bytes, 0–32; not in CRC (18_keys_and_security.md) -/
def KEY_ARG.LABEL_LEN : Fld := { base := 0x54004, lsb := 16, width := 6, acc := .rw, crc := false }
/-- New slot may sign; not in CRC (18_keys_and_security.md) -/
def KEY_ARG.U_SIGN : Fld := { base := 0x54004, lsb := 24, width := 1, acc := .rw, crc := false }
/-- New slot may be a parent; not in CRC (18_keys_and_security.md) -/
def KEY_ARG.U_DERIVE : Fld := { base := 0x54004, lsb := 25, width := 1, acc := .rw, crc := false }
/-- KEY_STATUS: command running (18_keys_and_security.md) -/
def KEY_STATUS.BUSY : Fld := { base := 0x54008, lsb := 0, width := 1, acc := .ro }
/-- 0 none, 1 DONE, 2 BUSY, 3 DENIED, 4 BAD_SLOT, 5 BAD_ARG, 6 VERIFY_FAIL, 7 WITHHELD, 8 JOUR (18_keys_and_security.md) -/
def KEY_STATUS.RESULT : Fld := { base := 0x54008, lsb := 4, width := 4, acc := .ro }
/-- Bytes in KEY_OUT (18_keys_and_security.md) -/
def KEY_STATUS.OUT_LEN : Fld := { base := 0x54008, lsb := 8, width := 10, acc := .ro }
/-- 0 PF0, 1 application core, 2 security core (18_keys_and_security.md) -/
def KEY_STATUS.REQUESTER : Fld := { base := 0x54008, lsb := 24, width := 3, acc := .ro }
/-- Slot selected; per requester; not in CRC (18_keys_and_security.md) -/
def KEY_SLOT_SEL.SLOT : Fld := { base := 0x5400c, lsb := 0, width := 8, acc := .rw, crc := false, perReq := true }
/-- KEY_SLOT_INFO: 0 EMPTY, 1 VALID (18_keys_and_security.md) -/
def KEY_SLOT_INFO.STATE : Fld := { base := 0x54010, lsb := 0, width := 2, acc := .ro }
/-- 0 hash, 1 public key, 2 derived (18_keys_and_security.md) -/
def KEY_SLOT_INFO.KIND : Fld := { base := 0x54010, lsb := 2, width := 2, acc := .ro }
/-- Usage (18_keys_and_security.md) -/
def KEY_SLOT_INFO.SIGN : Fld := { base := 0x54010, lsb := 4, width := 1, acc := .ro }
/-- Usage (18_keys_and_security.md) -/
def KEY_SLOT_INFO.DERIVE : Fld := { base := 0x54010, lsb := 5, width := 1, acc := .ro }
/-- Parent slot (18_keys_and_security.md) -/
def KEY_SLOT_INFO.PARENT : Fld := { base := 0x54010, lsb := 8, width := 8, acc := .ro }
/-- Generation index c (18_keys_and_security.md) -/
def KEY_SLOT_INFO.GEN : Fld := { base := 0x54010, lsb := 16, width := 5, acc := .ro }
/-- Levels below slot 11, 0–8 (18_keys_and_security.md) -/
def KEY_SLOT_INFO.DEPTH : Fld := { base := 0x54010, lsb := 24, width := 4, acc := .ro }
/-- Label or public key bytes 4k to 4k + 3 (18_keys_and_security.md) -/
def KEY_LABEL.LABEL : Fld := { base := 0x54040, lsb := 0, width := 32, acc := .wo, dims := [(8, 0x4)] }
/-- Message bytes 4k to 4k + 3 (18_keys_and_security.md) -/
def KEY_MSG.MSG : Fld := { base := 0x54400, lsb := 0, width := 32, acc := .wo, dims := [(256, 0x4)] }
/-- Result bytes 4k to 4k + 3, to the issuer only (R466) (18_keys_and_security.md) -/
def KEY_OUT.OUT : Fld := { base := 0x54800, lsb := 0, width := 32, acc := .ro, perReq := true, dims := [(128, 0x4)] }
/-- Counter: (18_keys_and_security.md) -/
def SEC.TAMPER_EVENTS : Fld := { base := 0x51000, lsb := 0, width := 64, acc := .ro, counter := true }
/-- Counter: (18_keys_and_security.md) -/
def SEC.KEY_REFUSED : Fld := { base := 0x51010, lsb := 0, width := 64, acc := .ro, counter := true }
/-- Counter: (18_keys_and_security.md) -/
def SEC.KEY_OPS : Fld := { base := 0x51008, lsb := 0, width := 64, acc := .ro, counter := true }
/-- Counter: (18_keys_and_security.md) -/
def SEC.JOURNAL_WRITES : Fld := { base := 0x51018, lsb := 0, width := 64, acc := .ro, counter := true }

/-- Every field of the SEC window. -/
def tableSEC : List Fld :=
  [SEC_STATUS.LIFECYCLE, SEC_STATUS.DEBUG_ALLOWED, SEC_STATUS.DEBUG_OPEN, SEC_STATUS.DEBUG_NEXT, SEC_STATUS.TAMPER_KILL, SEC_STATUS.KILLED, SEC_STATUS.QUARANTINE, SEC_STATUS.ROOT_SUBST, SEC_STATUS.ENTROPY_OK, SEC_STATUS.FW_SVN_FUSE, SEC_FW_FLOOR.SVN, SEC_FW_CTL.RAISE_FLOOR, SEC_FW_CTL.BURN_FLOOR, SEC_FUSE_CMD.CODE, SEC_DBG_NONCE.NONCE, SEC_CERT.CERT, SEC_TAMPER_CFG.EN, SEC_TAMPER_CFG.LEVEL, SEC_TAMPER_CFG.MESH_EN, SEC_TAMPER_CFG.VBAT_LOSS, SEC_TAMPER_LATCH.SOURCE, SEC_TAMPER_LATCH.PHASE, SEC_TAMPER_LATCH.VALID, SEC_TAMPER_TIME_0.SEC, SEC_TAMPER_TIME_1.SUB, SEC_TAMPER_CLR.KEY, SEC_IRQ.TAMPER, SEC_IRQ.KEY_DONE, SEC_IRQ.JOURNAL, SEC_IRQ_MASK.MASK, KEY_CMD.OP, KEY_CMD.SLOT, KEY_CMD.PARENT, KEY_CMD.GEN, KEY_ARG.MSG_LEN, KEY_ARG.LABEL_LEN, KEY_ARG.U_SIGN, KEY_ARG.U_DERIVE, KEY_STATUS.BUSY, KEY_STATUS.RESULT] ++
  [KEY_STATUS.OUT_LEN, KEY_STATUS.REQUESTER, KEY_SLOT_SEL.SLOT, KEY_SLOT_INFO.STATE, KEY_SLOT_INFO.KIND, KEY_SLOT_INFO.SIGN, KEY_SLOT_INFO.DERIVE, KEY_SLOT_INFO.PARENT, KEY_SLOT_INFO.GEN, KEY_SLOT_INFO.DEPTH, KEY_LABEL.LABEL, KEY_MSG.MSG, KEY_OUT.OUT, SEC.TAMPER_EVENTS, SEC.KEY_REFUSED, SEC.KEY_OPS, SEC.JOURNAL_WRITES]

/-- Grandmaster fuse blown (14_alarms_and_saucer.md) -/
def SAU_STATUS.GM_FUSE : Fld := { base := 0x60000, lsb := 0, width := 1, acc := .ro, dom := .fuse }
/-- GM_ALLOWED in the active roast (14_alarms_and_saucer.md) -/
def SAU_STATUS.GM_ROAST : Fld := { base := 0x60000, lsb := 1, width := 1, acc := .ro }
/-- Both (R392) (14_alarms_and_saucer.md) -/
def SAU_STATUS.GM_PERMIT : Fld := { base := 0x60000, lsb := 2, width := 1, acc := .ro }
/-- TEST_EN sampled at 1 (14_alarms_and_saucer.md) -/
def SAU_STATUS.TEST_STRAP : Fld := { base := 0x60000, lsb := 3, width := 1, acc := .ro }
/-- R382 (14_alarms_and_saucer.md) -/
def SAU_STATUS.TEST_PERMIT : Fld := { base := 0x60000, lsb := 4, width := 1, acc := .ro }
/-- SAU_IRQ: R389 (14_alarms_and_saucer.md) -/
def SAU_IRQ.REFUSED : Fld := { base := 0x60010, lsb := 0, width := 1, acc := .w1c }
/-- R393 (14_alarms_and_saucer.md) -/
def SAU_IRQ.PLS_DEFER : Fld := { base := 0x60010, lsb := 1, width := 1, acc := .w1c }
/-- SAU_IRQ_MASK: 1 lets the matching bit raise vector 73 (14_alarms_and_saucer.md) -/
def SAU_IRQ_MASK.MASK : Fld := { base := 0x60014, lsb := 0, width := 2, acc := .rw }
/-- 0–3 F0–F3, 4–5 S0–S1, 6 M0 (14_alarms_and_saucer.md) -/
def SAU_LAST.PORT : Fld := { base := 0x60020, lsb := 0, width := 3, acc := .ro }
/-- R389 (14_alarms_and_saucer.md) -/
def SAU_LAST.REASON : Fld := { base := 0x60020, lsb := 4, width := 3, acc := .ro }
/-- 0–3 transmit ring r, 4 PTP ring, 5 output stream (14_alarms_and_saucer.md) -/
def SAU_LAST.SOURCE : Fld := { base := 0x60020, lsb := 8, width := 3, acc := .ro }
/-- Output stream k when SOURCE is 5 (14_alarms_and_saucer.md) -/
def SAU_LAST.INDEX : Fld := { base := 0x60020, lsb := 11, width := 4, acc := .ro }
/-- Entry held; writing 1 empties it for the next refusal (14_alarms_and_saucer.md) -/
def SAU_LAST.VALID : Fld := { base := 0x60020, lsb := 31, width := 1, acc := .w1c }
/-- Counter: (14_alarms_and_saucer.md) -/
def SAU.REFUSE : Fld := { base := 0x61000, lsb := 0, width := 64, acc := .ro, counter := true, dims := [(7, 0x40), (5, 0x8)] }
/-- Counter: (14_alarms_and_saucer.md) -/
def SAU.PLS_DEFER_CNT : Fld := { base := 0x61200, lsb := 0, width := 64, acc := .ro, counter := true, dims := [(8, 0x8)] }
/-- Counter: (14_alarms_and_saucer.md) -/
def SAU.TEST_REFUSED : Fld := { base := 0x61240, lsb := 0, width := 64, acc := .ro, counter := true }

/-- Every field of the SAU window. -/
def tableSAU : List Fld :=
  [SAU_STATUS.GM_FUSE, SAU_STATUS.GM_ROAST, SAU_STATUS.GM_PERMIT, SAU_STATUS.TEST_STRAP, SAU_STATUS.TEST_PERMIT, SAU_IRQ.REFUSED, SAU_IRQ.PLS_DEFER, SAU_IRQ_MASK.MASK, SAU_LAST.PORT, SAU_LAST.REASON, SAU_LAST.SOURCE, SAU_LAST.INDEX, SAU_LAST.VALID, SAU.REFUSE, SAU.PLS_DEFER_CNT, SAU.TEST_REFUSED]

end Sys2Proof.Machine.Reg
end

