-- ==== Sys2Proof/Machine/RegMapPorts.lean ====
section
/-! DEFINITION. The register fields of the blocks MAC, PTP, ING, FLT, from the register tables of spec/ (each docstring names its file and gives the start of the table's Meaning). A field is written BLOCK_REGISTER.FIELD as R8 writes it; index letters of arrays are left out. The counters of a block stand under the block's own name. -/

namespace Sys2Proof.Machine.Reg

/-- Port enable under R106. Shutdown completes the frame being received and the frame being se (06_ethernet_ports.md) -/
def MAC_CTL.EN : Fld := { base := 0x80000, lsb := 0, width := 1, acc := .rw, dims := [(7, 0x10000)] }
/-- Port running or shutting down (06_ethernet_ports.md) -/
def MAC_CTL.BUSY : Fld := { base := 0x80000, lsb := 1, width := 1, acc := .ro, dims := [(7, 0x10000)] }
/-- Re-enable pending (06_ethernet_ports.md) -/
def MAC_CTL.PEND : Fld := { base := 0x80000, lsb := 2, width := 1, acc := .ro, dims := [(7, 0x10000)] }
/-- F ports: 0 25GBASE-R, 1 10GBASE-R, 2 1000BASE-X. S ports: 2 1000BASE-X, 3 SGMII. M0: 0 RGM (06_ethernet_ports.md) -/
def MAC_CTL.MODE : Fld := { base := 0x80000, lsb := 4, width := 2, acc := .rwl, roast := true, dims := [(7, 0x10000)] }
/-- RS-FEC, F ports in 25GBASE-R only (06_ethernet_ports.md) -/
def MAC_CTL.FEC_EN : Fld := { base := 0x80000, lsb := 6, width := 1, acc := .rwl, roast := true, dims := [(7, 0x10000)], only := some (0, 3) }
/-- Clause 37 or SGMII auto-negotiation (06_ethernet_ports.md) -/
def MAC_CTL.AN_EN : Fld := { base := 0x80000, lsb := 7, width := 1, acc := .rw, rst := 0x1, dims := [(7, 0x10000)] }
/-- MACp_STATUS: link up (06_ethernet_ports.md) -/
def MAC_STATUS.LINK : Fld := { base := 0x80004, lsb := 0, width := 1, acc := .ro, dims := [(7, 0x10000)] }
/-- Block or code-group lock (06_ethernet_ports.md) -/
def MAC_STATUS.PCS_LOCK : Fld := { base := 0x80004, lsb := 1, width := 1, acc := .ro, dims := [(7, 0x10000)] }
/-- RS-FEC alignment lock (06_ethernet_ports.md) -/
def MAC_STATUS.FEC_LOCK : Fld := { base := 0x80004, lsb := 2, width := 1, acc := .ro, dims := [(7, 0x10000)] }
/-- Auto-negotiation complete (06_ethernet_ports.md) -/
def MAC_STATUS.AN_DONE : Fld := { base := 0x80004, lsb := 3, width := 1, acc := .ro, dims := [(7, 0x10000)] }
/-- 0 10 Mb/s, 1 100 Mb/s, 2 1 Gb/s, 3 10 Gb/s, 4 25 Gb/s (06_ethernet_ports.md) -/
def MAC_STATUS.SPEED : Fld := { base := 0x80004, lsb := 4, width := 3, acc := .ro, dims := [(7, 0x10000)] }
/-- 0 disabled, 1 verifying, 2 active, 3 FAILED (R177) (06_ethernet_ports.md) -/
def MAC_STATUS.VERIFY : Fld := { base := 0x80004, lsb := 7, width := 2, acc := .ro, dims := [(7, 0x10000)] }
/-- M0 transmitting low-power idle (06_ethernet_ports.md) -/
def MAC_STATUS.LPI_TX : Fld := { base := 0x80004, lsb := 9, width := 1, acc := .ro, dims := [(7, 0x10000)] }
/-- M0 receiving low-power idle (06_ethernet_ports.md) -/
def MAC_STATUS.LPI_RX : Fld := { base := 0x80004, lsb := 10, width := 1, acc := .ro, dims := [(7, 0x10000)] }
/-- MACp_MAXLEN: maximum frame length, 1,518 B to 9,600 B; values outside are clamped (06_ethernet_ports.md) -/
def MAC_MAXLEN.LEN : Fld := { base := 0x80008, lsb := 0, width := 14, acc := .rwl, roast := true, dims := [(7, 0x10000)] }
/-- Accept broadcast (06_ethernet_ports.md) -/
def MAC_FILT_CFG.BCAST : Fld := { base := 0x80010, lsb := 0, width := 1, acc := .rw, rst := 0x1, dims := [(7, 0x10000)] }
/-- Accept every destination (06_ethernet_ports.md) -/
def MAC_FILT_CFG.PROMISC : Fld := { base := 0x80010, lsb := 1, width := 1, acc := .rw, dims := [(7, 0x10000)] }
/-- Accept every group destination (06_ethernet_ports.md) -/
def MAC_FILT_CFG.ALLGROUP : Fld := { base := 0x80010, lsb := 2, width := 1, acc := .rw, dims := [(7, 0x10000)] }
/-- Source address for hardware-sent frames, bytes 2–5, byte 5 in [7:0] (06_ethernet_ports.md) -/
def MAC_SA_LO.ADDR_LO : Fld := { base := 0x80018, lsb := 0, width := 32, acc := .rwl, roast := true, dims := [(7, 0x10000)] }
/-- Bytes 0–1, byte 1 in [7:0]; [31:16] reserved (06_ethernet_ports.md) -/
def MAC_SA_HI.ADDR_HI : Fld := { base := 0x8001c, lsb := 0, width := 16, acc := .rwl, roast := true, dims := [(7, 0x10000)] }
/-- Address bytes 2–5, byte 5 in [7:0] (06_ethernet_ports.md) -/
def MAC_UCAST_LO.ADDR_LO : Fld := { base := 0x80020, lsb := 0, width := 32, acc := .rw, dims := [(7, 0x10000), (16, 0x8)] }
/-- Address bytes 0–1, byte 1 in [7:0] (06_ethernet_ports.md) -/
def MAC_UCAST_HI.ADDR_HI : Fld := { base := 0x80024, lsb := 0, width := 16, acc := .rw, dims := [(7, 0x10000), (16, 0x8)] }
/-- Entry enabled (06_ethernet_ports.md) -/
def MAC_UCAST_HI.EN : Fld := { base := 0x80024, lsb := 31, width := 1, acc := .rw, dims := [(7, 0x10000), (16, 0x8)] }
/-- Bit b of MACp_HASH_j enables bin 32 × j + b (06_ethernet_ports.md) -/
def MAC_HASH.BINS : Fld := { base := 0x800a0, lsb := 0, width := 32, acc := .rw, dims := [(7, 0x10000), (16, 0x4)] }
/-- MACp_VLAN_CFG: 0 transparent, 1 filtering (R155) (06_ethernet_ports.md) -/
def MAC_VLAN_CFG.MODE : Fld := { base := 0x800e0, lsb := 0, width := 1, acc := .rwl, roast := true, dims := [(7, 0x10000)] }
/-- VID reported for untagged frames (06_ethernet_ports.md) -/
def MAC_VLAN_CFG.PVID : Fld := { base := 0x800e0, lsb := 4, width := 12, acc := .rwl, roast := true, dims := [(7, 0x10000)] }
/-- MACp_VID_v: accepted VID (06_ethernet_ports.md) -/
def MAC_VID.VID : Fld := { base := 0x80100, lsb := 0, width := 12, acc := .rwl, roast := true, dims := [(7, 0x10000), (16, 0x4)] }
/-- MACp_VID_v: entry enabled (06_ethernet_ports.md) -/
def MAC_VID.EN : Fld := { base := 0x80100, lsb := 31, width := 1, acc := .rwl, roast := true, dims := [(7, 0x10000), (16, 0x4)] }
/-- Sampled values to the ingress queue; S ports only (06_ethernet_ports.md) -/
def MAC_CLASS_CFG.SV_EN : Fld := { base := 0x80180, lsb := 0, width := 1, acc := .rwl, roast := true, dims := [(7, 0x10000)], only := some (4, 5) }
/-- GOOSE to the ingress queue (06_ethernet_ports.md) -/
def MAC_CLASS_CFG.GOOSE_EN : Fld := { base := 0x80180, lsb := 1, width := 1, acc := .rwl, roast := true, dims := [(7, 0x10000)] }
/-- Ring for class PTP (06_ethernet_ports.md) -/
def MAC_CLASS_CFG.PTP_RING : Fld := { base := 0x80180, lsb := 8, width := 2, acc := .rwl, roast := true, dims := [(7, 0x10000)] }
/-- Ring for class FWD (06_ethernet_ports.md) -/
def MAC_CLASS_CFG.FWD_RING : Fld := { base := 0x80180, lsb := 10, width := 2, acc := .rwl, roast := true, dims := [(7, 0x10000)] }
/-- Ring for class GROUP (06_ethernet_ports.md) -/
def MAC_CLASS_CFG.GROUP_RING : Fld := { base := 0x80180, lsb := 12, width := 2, acc := .rwl, roast := true, dims := [(7, 0x10000)] }
/-- Ring for class OTHER (06_ethernet_ports.md) -/
def MAC_CLASS_CFG.OTHER_RING : Fld := { base := 0x80180, lsb := 14, width := 2, acc := .rwl, roast := true, dims := [(7, 0x10000)] }
/-- MACp_STREAM_UDP_k: UDP destination port (06_ethernet_ports.md) -/
def MAC_STREAM_UDP.PORT : Fld := { base := 0x801c0, lsb := 0, width := 16, acc := .rwl, roast := true, dims := [(7, 0x10000), (8, 0x4)] }
/-- Match over IPv4 (06_ethernet_ports.md) -/
def MAC_STREAM_UDP.V4 : Fld := { base := 0x801c0, lsb := 16, width := 1, acc := .rwl, roast := true, dims := [(7, 0x10000), (8, 0x4)] }
/-- Match over IPv6 (06_ethernet_ports.md) -/
def MAC_STREAM_UDP.V6 : Fld := { base := 0x801c0, lsb := 17, width := 1, acc := .rwl, roast := true, dims := [(7, 0x10000), (8, 0x4)] }
/-- Payload protocol: 0 IEEE C37.118.2, 1 IEC 61850-90-5 (R225, R235) (06_ethernet_ports.md) -/
def MAC_STREAM_UDP.PROTO : Fld := { base := 0x801c0, lsb := 18, width := 1, acc := .rwl, roast := true, dims := [(7, 0x10000), (8, 0x4)] }
/-- Entry enabled (06_ethernet_ports.md) -/
def MAC_STREAM_UDP.EN : Fld := { base := 0x801c0, lsb := 31, width := 1, acc := .rwl, roast := true, dims := [(7, 0x10000), (8, 0x4)] }
/-- Frame preemption (R177); F and S ports (06_ethernet_ports.md) -/
def MAC_PREEMPT.EN : Fld := { base := 0x80200, lsb := 0, width := 1, acc := .rwl, roast := true, dims := [(7, 0x10000)], only := some (0, 5) }
/-- Activate without verification (06_ethernet_ports.md) -/
def MAC_PREEMPT.VERIFY_DIS : Fld := { base := 0x80200, lsb := 1, width := 1, acc := .rw, dims := [(7, 0x10000)], only := some (0, 5) }
/-- Minimum fragment 64 × (1 + ADD_FRAG) B (06_ethernet_ports.md) -/
def MAC_PREEMPT.ADD_FRAG : Fld := { base := 0x80200, lsb := 2, width := 2, acc := .rw, dims := [(7, 0x10000)], only := some (0, 5) }
/-- Verify interval, 1 ms to 128 ms; 0 reads as 1 (06_ethernet_ports.md) -/
def MAC_PREEMPT.VERIFY_MS : Fld := { base := 0x80200, lsb := 4, width := 8, acc := .rw, rst := 0xa, dims := [(7, 0x10000)], only := some (0, 5) }
/-- MACp_IRQ: link state changed (06_ethernet_ports.md) -/
def MAC_IRQ.LINK_CHG : Fld := { base := 0x80210, lsb := 0, width := 1, acc := .w1c, dims := [(7, 0x10000)] }
/-- Receive event of host ring r (R164) (06_ethernet_ports.md) -/
def MAC_IRQ.RXRING : Fld := { base := 0x80210, lsb := 1, width := 4, acc := .w1c, dims := [(7, 0x10000)] }
/-- Transmit event of host ring r (06_ethernet_ports.md) -/
def MAC_IRQ.TXRING : Fld := { base := 0x80210, lsb := 5, width := 4, acc := .w1c, dims := [(7, 0x10000)] }
/-- R161 (06_ethernet_ports.md) -/
def MAC_IRQ.NOBUF_DROP : Fld := { base := 0x80210, lsb := 9, width := 1, acc := .w1c, dims := [(7, 0x10000)] }
/-- R162 (06_ethernet_ports.md) -/
def MAC_IRQ.NOBUF_TRUNC : Fld := { base := 0x80210, lsb := 10, width := 1, acc := .w1c, dims := [(7, 0x10000)] }
/-- R177 (06_ethernet_ports.md) -/
def MAC_IRQ.VERIFY_FAIL : Fld := { base := 0x80210, lsb := 11, width := 1, acc := .w1c, dims := [(7, 0x10000)] }
/-- MACp_IRQ_MASK: 1 lets the matching bit raise the vector (06_ethernet_ports.md) -/
def MAC_IRQ_MASK.MASK : Fld := { base := 0x80214, lsb := 0, width := 12, acc := .rw, dims := [(7, 0x10000)] }
/-- Ring address, 4 KiB aligned; not in CRC. Ignored while BUSY = 1 (06_ethernet_ports.md) -/
def MAC_RXRING.BASE : Fld := { base := 0x80400, lsb := 0, width := 64, acc := .rw, crc := false, dims := [(7, 0x10000), (4, 0x20)] }
/-- Ring address, 4 KiB aligned; not in CRC. Ignored while BUSY = 1 (06_ethernet_ports.md) -/
def MAC_TXRING.BASE : Fld := { base := 0x80500, lsb := 0, width := 64, acc := .rw, crc := false, dims := [(7, 0x10000), (4, 0x20)] }
/-- Ring enable under R106; shutdown completes the frame in progress (06_ethernet_ports.md) -/
def MAC_RXRING.EN : Fld := { base := 0x80408, lsb := 0, width := 1, acc := .rw, dims := [(7, 0x10000), (4, 0x20)] }
/-- Ring enable under R106; shutdown completes the frame in progress (06_ethernet_ports.md) -/
def MAC_TXRING.EN : Fld := { base := 0x80508, lsb := 0, width := 1, acc := .rw, dims := [(7, 0x10000), (4, 0x20)] }
/-- Ring running or shutting down (06_ethernet_ports.md) -/
def MAC_RXRING.BUSY : Fld := { base := 0x80408, lsb := 1, width := 1, acc := .ro, dims := [(7, 0x10000), (4, 0x20)] }
/-- Ring running or shutting down (06_ethernet_ports.md) -/
def MAC_TXRING.BUSY : Fld := { base := 0x80508, lsb := 1, width := 1, acc := .ro, dims := [(7, 0x10000), (4, 0x20)] }
/-- Re-enable pending (06_ethernet_ports.md) -/
def MAC_RXRING.PEND : Fld := { base := 0x80408, lsb := 2, width := 1, acc := .ro, dims := [(7, 0x10000), (4, 0x20)] }
/-- Re-enable pending (06_ethernet_ports.md) -/
def MAC_TXRING.PEND : Fld := { base := 0x80508, lsb := 2, width := 1, acc := .ro, dims := [(7, 0x10000), (4, 0x20)] }
/-- 0 cores, 1 host; not in CRC. Ignored while BUSY = 1 (06_ethernet_ports.md) -/
def MAC_RXRING.OWNER : Fld := { base := 0x80408, lsb := 3, width := 1, acc := .rw, crc := false, dims := [(7, 0x10000), (4, 0x20)] }
/-- 0 cores, 1 host; not in CRC. Ignored while BUSY = 1 (06_ethernet_ports.md) -/
def MAC_TXRING.OWNER : Fld := { base := 0x80508, lsb := 3, width := 1, acc := .rw, crc := false, dims := [(7, 0x10000), (4, 0x20)] }
/-- 4–12; not in CRC. Ignored while BUSY = 1 (06_ethernet_ports.md) -/
def MAC_RXRING.SIZE_LOG2 : Fld := { base := 0x80408, lsb := 4, width := 4, acc := .rw, rst := 0x4, crc := false, dims := [(7, 0x10000), (4, 0x20)] }
/-- 4–12; not in CRC. Ignored while BUSY = 1 (06_ethernet_ports.md) -/
def MAC_TXRING.SIZE_LOG2 : Fld := { base := 0x80508, lsb := 4, width := 4, acc := .rw, rst := 0x4, crc := false, dims := [(7, 0x10000), (4, 0x20)] }
/-- Event holdoff in µs (06_ethernet_ports.md) -/
def MAC_RXRING.HOLDOFF : Fld := { base := 0x80408, lsb := 8, width := 10, acc := .rw, dims := [(7, 0x10000), (4, 0x20)] }
/-- Event holdoff in µs (06_ethernet_ports.md) -/
def MAC_TXRING.HOLDOFF : Fld := { base := 0x80508, lsb := 8, width := 10, acc := .rw, dims := [(7, 0x10000), (4, 0x20)] }
/-- Barista wait object for a core-owned ring (06_ethernet_ports.md) -/
def MAC_RXRING.WAITOBJ : Fld := { base := 0x80408, lsb := 18, width := 10, acc := .rw, dims := [(7, 0x10000), (4, 0x20)] }
/-- Barista wait object for a core-owned ring (06_ethernet_ports.md) -/
def MAC_TXRING.WAITOBJ : Fld := { base := 0x80508, lsb := 18, width := 10, acc := .rw, dims := [(7, 0x10000), (4, 0x20)] }
/-- Transmit rings only: queue 0–6; a write of 7 stores 6 (06_ethernet_ports.md) -/
def MAC_TXRING.QUEUE : Fld := { base := 0x80508, lsb := 28, width := 3, acc := .rw, dims := [(7, 0x10000), (4, 0x20)] }
/-- Next descriptor the device uses (06_ethernet_ports.md) -/
def MAC_RXRING.HEAD : Fld := { base := 0x80410, lsb := 0, width := 12, acc := .ro, dims := [(7, 0x10000), (4, 0x20)] }
/-- Next descriptor the device uses (06_ethernet_ports.md) -/
def MAC_TXRING.HEAD : Fld := { base := 0x80510, lsb := 0, width := 12, acc := .ro, dims := [(7, 0x10000), (4, 0x20)] }
/-- One past the last posted descriptor; not in CRC (06_ethernet_ports.md) -/
def MAC_RXRING.TAIL : Fld := { base := 0x80414, lsb := 0, width := 12, acc := .rw, crc := false, dims := [(7, 0x10000), (4, 0x20)] }
/-- One past the last posted descriptor; not in CRC (06_ethernet_ports.md) -/
def MAC_TXRING.TAIL : Fld := { base := 0x80514, lsb := 0, width := 12, acc := .rw, crc := false, dims := [(7, 0x10000), (4, 0x20)] }
/-- MACS0_RED_CFG: 0 independent, 1 PRP, 2 HSR (06_ethernet_ports.md) -/
def MACS0_RED_CFG.MODE : Fld := { base := 0xc0300, lsb := 0, width := 2, acc := .rwl, roast := true }
/-- Duplicate entry life, 1 ms to 4,095 ms; 0 reads as 1 (06_ethernet_ports.md) -/
def MACS0_RED_CFG.ENTRY_FORGET : Fld := { base := 0xc0300, lsb := 4, width := 12, acc := .rw, rst := 0x190 }
/-- HSR forward queue for PCP 0–7, 2 bits each, giving queue 2 × value + 0; entry i in bits [1 (06_ethernet_ports.md) -/
def MACS0_RED_CFG.PCP_MAP : Fld := { base := 0xc0300, lsb := 16, width := 16, acc := .rw }
/-- MACM0_RGMII_CFG: 0 10 Mb/s, 1 100 Mb/s, 2 1,000 Mb/s, set by firmware from the PHY (06_ethernet_ports.md) -/
def MACM0_RGMII_CFG.SPEED : Fld := { base := 0xe0300, lsb := 0, width := 2, acc := .rw, rst := 0x2 }
/-- Internal 2.0 ns transmit clock delay (06_ethernet_ports.md) -/
def MACM0_RGMII_CFG.TXC_DLY : Fld := { base := 0xe0300, lsb := 2, width := 1, acc := .rw }
/-- Internal 2.0 ns receive clock delay (06_ethernet_ports.md) -/
def MACM0_RGMII_CFG.RXC_DLY : Fld := { base := 0xe0300, lsb := 3, width := 1, acc := .rw }
/-- MACM0_EEE: R185 (06_ethernet_ports.md) -/
def MACM0_EEE.EN : Fld := { base := 0xe0304, lsb := 0, width := 1, acc := .rw }
/-- Idle time before LPI, 1 µs to 65,535 µs (06_ethernet_ports.md) -/
def MACM0_EEE.LPI_IDLE : Fld := { base := 0xe0304, lsb := 1, width := 16, acc := .rw, rst := 0x64 }
/-- Wake time, 1 µs to 255 µs (06_ethernet_ports.md) -/
def MACM0_EEE.TW_SYS : Fld := { base := 0xe0304, lsb := 17, width := 8, acc := .rw, rst := 0x11 }
/-- MACM0_MDIO: Clause 22 register or Clause 45 device (06_ethernet_ports.md) -/
def MACM0_MDIO.REG : Fld := { base := 0xe0308, lsb := 0, width := 5, acc := .rw }
/-- PHY or port address (06_ethernet_ports.md) -/
def MACM0_MDIO.PHY : Fld := { base := 0xe0308, lsb := 5, width := 5, acc := .rw }
/-- 0 write, 1 read, 2 Clause 45 address, 3 Clause 45 read (06_ethernet_ports.md) -/
def MACM0_MDIO.OP : Fld := { base := 0xe0308, lsb := 10, width := 2, acc := .rw }
/-- Start; clears when done, within 30 µs at M0_MDC 2.5 MHz (06_ethernet_ports.md) -/
def MACM0_MDIO.GO : Fld := { base := 0xe0308, lsb := 12, width := 1, acc := .w1s }
/-- Data written, or data read when GO clears; not in CRC (06_ethernet_ports.md) -/
def MACM0_MDIO.DATA : Fld := { base := 0xe0308, lsb := 16, width := 16, acc := .rw, crc := false }
/-- Counter: (06_ethernet_ports.md) -/
def MAC.RX_FRAMES : Fld := { base := 0x81000, lsb := 0, width := 64, acc := .ro, counter := true, dims := [(7, 0x10000)] }
/-- Counter: (06_ethernet_ports.md) -/
def MAC.TX_FRAMES : Fld := { base := 0x81060, lsb := 0, width := 64, acc := .ro, counter := true, dims := [(7, 0x10000)] }
/-- Counter: (06_ethernet_ports.md) -/
def MAC.RX_OCTETS : Fld := { base := 0x81008, lsb := 0, width := 64, acc := .ro, counter := true, dims := [(7, 0x10000)] }
/-- Counter: (06_ethernet_ports.md) -/
def MAC.TX_OCTETS : Fld := { base := 0x81068, lsb := 0, width := 64, acc := .ro, counter := true, dims := [(7, 0x10000)] }
/-- Counter: (06_ethernet_ports.md) -/
def MAC.RX_FCS_ERR : Fld := { base := 0x81010, lsb := 0, width := 64, acc := .ro, counter := true, dims := [(7, 0x10000)] }
/-- Counter: (06_ethernet_ports.md) -/
def MAC.TX_FRAG : Fld := { base := 0x81070, lsb := 0, width := 64, acc := .ro, counter := true, dims := [(7, 0x10000)] }
/-- Counter: (06_ethernet_ports.md) -/
def MAC.RX_LEN_ERR : Fld := { base := 0x81018, lsb := 0, width := 64, acc := .ro, counter := true, dims := [(7, 0x10000)] }
/-- Counter: (06_ethernet_ports.md) -/
def MAC.TX_PREEMPT : Fld := { base := 0x81078, lsb := 0, width := 64, acc := .ro, counter := true, dims := [(7, 0x10000)] }
/-- Counter: (06_ethernet_ports.md) -/
def MAC.RX_FILT_DROP : Fld := { base := 0x81020, lsb := 0, width := 64, acc := .ro, counter := true, dims := [(7, 0x10000)] }
/-- Counter: (06_ethernet_ports.md) -/
def MAC.TX_LINKDOWN_DROP : Fld := { base := 0x81080, lsb := 0, width := 64, acc := .ro, counter := true, dims := [(7, 0x10000)] }
/-- Counter: (06_ethernet_ports.md) -/
def MAC.RX_VLAN_DROP : Fld := { base := 0x81028, lsb := 0, width := 64, acc := .ro, counter := true, dims := [(7, 0x10000)] }
/-- Counter: (06_ethernet_ports.md) -/
def MAC.TX_Q7_DROP : Fld := { base := 0x81088, lsb := 0, width := 64, acc := .ro, counter := true, dims := [(7, 0x10000)] }
/-- Counter: (06_ethernet_ports.md) -/
def MAC.RX_PAUSE : Fld := { base := 0x81030, lsb := 0, width := 64, acc := .ro, counter := true, dims := [(7, 0x10000)] }
/-- Counter: (06_ethernet_ports.md) -/
def MAC.RED_DUP_DISCARD : Fld := { base := 0x81090, lsb := 0, width := 64, acc := .ro, counter := true, dims := [(7, 0x10000)] }
/-- Counter: (06_ethernet_ports.md) -/
def MAC.RX_FIFO_DROP : Fld := { base := 0x81038, lsb := 0, width := 64, acc := .ro, counter := true, dims := [(7, 0x10000)] }
/-- Counter: (06_ethernet_ports.md) -/
def MAC.RED_WRONG_LAN : Fld := { base := 0x81098, lsb := 0, width := 64, acc := .ro, counter := true, dims := [(7, 0x10000)] }
/-- Counter: (06_ethernet_ports.md) -/
def MAC.RX_NOBUF_DROP : Fld := { base := 0x81040, lsb := 0, width := 64, acc := .ro, counter := true, dims := [(7, 0x10000)] }
/-- Counter: (06_ethernet_ports.md) -/
def MAC.RED_HSR_FWD : Fld := { base := 0x810a0, lsb := 0, width := 64, acc := .ro, counter := true, dims := [(7, 0x10000)] }
/-- Counter: (06_ethernet_ports.md) -/
def MAC.RX_NOBUF_TRUNC : Fld := { base := 0x81048, lsb := 0, width := 64, acc := .ro, counter := true, dims := [(7, 0x10000)] }
/-- Counter: (06_ethernet_ports.md) -/
def MAC.RED_HSR_OWN : Fld := { base := 0x810a8, lsb := 0, width := 64, acc := .ro, counter := true, dims := [(7, 0x10000)] }
/-- Counter: (06_ethernet_ports.md) -/
def MAC.RX_ASSY_ERR : Fld := { base := 0x81050, lsb := 0, width := 64, acc := .ro, counter := true, dims := [(7, 0x10000)] }
/-- Counter: (06_ethernet_ports.md) -/
def MAC.EEE_TX_LPI : Fld := { base := 0x810b0, lsb := 0, width := 64, acc := .ro, counter := true, dims := [(7, 0x10000)] }
/-- Counter: (06_ethernet_ports.md) -/
def MAC.RX_FRAG : Fld := { base := 0x81058, lsb := 0, width := 64, acc := .ro, counter := true, dims := [(7, 0x10000)] }
/-- Counter: (06_ethernet_ports.md) -/
def MAC.EEE_RX_LPI : Fld := { base := 0x810b8, lsb := 0, width := 64, acc := .ro, counter := true, dims := [(7, 0x10000)] }
/-- Counter: (06_ethernet_ports.md) -/
def MAC.FEC_CORRECTED : Fld := { base := 0x810c0, lsb := 0, width := 64, acc := .ro, counter := true, dims := [(7, 0x10000)], only := some (0, 3) }
/-- Counter: (06_ethernet_ports.md) -/
def MAC.FEC_UNCORRECTABLE : Fld := { base := 0x810c8, lsb := 0, width := 64, acc := .ro, counter := true, dims := [(7, 0x10000)], only := some (0, 3) }

/-- Every field of the MAC windows. -/
def tableMAC : List Fld :=
  [MAC_CTL.EN, MAC_CTL.BUSY, MAC_CTL.PEND, MAC_CTL.MODE, MAC_CTL.FEC_EN, MAC_CTL.AN_EN, MAC_STATUS.LINK, MAC_STATUS.PCS_LOCK, MAC_STATUS.FEC_LOCK, MAC_STATUS.AN_DONE, MAC_STATUS.SPEED, MAC_STATUS.VERIFY, MAC_STATUS.LPI_TX, MAC_STATUS.LPI_RX, MAC_MAXLEN.LEN, MAC_FILT_CFG.BCAST, MAC_FILT_CFG.PROMISC, MAC_FILT_CFG.ALLGROUP, MAC_SA_LO.ADDR_LO, MAC_SA_HI.ADDR_HI, MAC_UCAST_LO.ADDR_LO, MAC_UCAST_HI.ADDR_HI, MAC_UCAST_HI.EN, MAC_HASH.BINS, MAC_VLAN_CFG.MODE, MAC_VLAN_CFG.PVID, MAC_VID.VID, MAC_VID.EN, MAC_CLASS_CFG.SV_EN, MAC_CLASS_CFG.GOOSE_EN, MAC_CLASS_CFG.PTP_RING, MAC_CLASS_CFG.FWD_RING, MAC_CLASS_CFG.GROUP_RING, MAC_CLASS_CFG.OTHER_RING, MAC_STREAM_UDP.PORT, MAC_STREAM_UDP.V4, MAC_STREAM_UDP.V6, MAC_STREAM_UDP.PROTO, MAC_STREAM_UDP.EN, MAC_PREEMPT.EN] ++
  [MAC_PREEMPT.VERIFY_DIS, MAC_PREEMPT.ADD_FRAG, MAC_PREEMPT.VERIFY_MS, MAC_IRQ.LINK_CHG, MAC_IRQ.RXRING, MAC_IRQ.TXRING, MAC_IRQ.NOBUF_DROP, MAC_IRQ.NOBUF_TRUNC, MAC_IRQ.VERIFY_FAIL, MAC_IRQ_MASK.MASK, MAC_RXRING.BASE, MAC_TXRING.BASE, MAC_RXRING.EN, MAC_TXRING.EN, MAC_RXRING.BUSY, MAC_TXRING.BUSY, MAC_RXRING.PEND, MAC_TXRING.PEND, MAC_RXRING.OWNER, MAC_TXRING.OWNER, MAC_RXRING.SIZE_LOG2, MAC_TXRING.SIZE_LOG2, MAC_RXRING.HOLDOFF, MAC_TXRING.HOLDOFF, MAC_RXRING.WAITOBJ, MAC_TXRING.WAITOBJ, MAC_TXRING.QUEUE, MAC_RXRING.HEAD, MAC_TXRING.HEAD, MAC_RXRING.TAIL, MAC_TXRING.TAIL, MACS0_RED_CFG.MODE, MACS0_RED_CFG.ENTRY_FORGET, MACS0_RED_CFG.PCP_MAP, MACM0_RGMII_CFG.SPEED, MACM0_RGMII_CFG.TXC_DLY, MACM0_RGMII_CFG.RXC_DLY, MACM0_EEE.EN, MACM0_EEE.LPI_IDLE, MACM0_EEE.TW_SYS, MACM0_MDIO.REG] ++
  [MACM0_MDIO.PHY, MACM0_MDIO.OP, MACM0_MDIO.GO, MACM0_MDIO.DATA, MAC.RX_FRAMES, MAC.TX_FRAMES, MAC.RX_OCTETS, MAC.TX_OCTETS, MAC.RX_FCS_ERR, MAC.TX_FRAG, MAC.RX_LEN_ERR, MAC.TX_PREEMPT, MAC.RX_FILT_DROP, MAC.TX_LINKDOWN_DROP, MAC.RX_VLAN_DROP, MAC.TX_Q7_DROP, MAC.RX_PAUSE, MAC.RED_DUP_DISCARD, MAC.RX_FIFO_DROP, MAC.RED_WRONG_LAN, MAC.RX_NOBUF_DROP, MAC.RED_HSR_FWD, MAC.RX_NOBUF_TRUNC, MAC.RED_HSR_OWN, MAC.RX_ASSY_ERR, MAC.EEE_TX_LPI, MAC.RX_FRAG, MAC.EEE_RX_LPI, MAC.FEC_CORRECTED, MAC.FEC_UNCORRECTABLE]

/-- Ring address, 4 KiB aligned; not in CRC. Ignored while BUSY = 1 (06_ethernet_ports.md) -/
def PTP_TXRING.BASE : Fld := { base := 0x100040, lsb := 0, width := 64, acc := .rw, crc := false, dims := [(6, 0x100)] }
/-- Ring enable under R106; shutdown completes the frame in progress (06_ethernet_ports.md) -/
def PTP_TXRING.EN : Fld := { base := 0x100048, lsb := 0, width := 1, acc := .rw, dims := [(6, 0x100)] }
/-- Ring running or shutting down (06_ethernet_ports.md) -/
def PTP_TXRING.BUSY : Fld := { base := 0x100048, lsb := 1, width := 1, acc := .ro, dims := [(6, 0x100)] }
/-- Re-enable pending (06_ethernet_ports.md) -/
def PTP_TXRING.PEND : Fld := { base := 0x100048, lsb := 2, width := 1, acc := .ro, dims := [(6, 0x100)] }
/-- 0 cores, 1 host; not in CRC. Ignored while BUSY = 1 (06_ethernet_ports.md) -/
def PTP_TXRING.OWNER : Fld := { base := 0x100048, lsb := 3, width := 1, acc := .rw, crc := false, dims := [(6, 0x100)] }
/-- 4–12; not in CRC. Ignored while BUSY = 1 (06_ethernet_ports.md) -/
def PTP_TXRING.SIZE_LOG2 : Fld := { base := 0x100048, lsb := 4, width := 4, acc := .rw, rst := 0x4, crc := false, dims := [(6, 0x100)] }
/-- Event holdoff in µs (06_ethernet_ports.md) -/
def PTP_TXRING.HOLDOFF : Fld := { base := 0x100048, lsb := 8, width := 10, acc := .rw, dims := [(6, 0x100)] }
/-- Barista wait object for a core-owned ring (06_ethernet_ports.md) -/
def PTP_TXRING.WAITOBJ : Fld := { base := 0x100048, lsb := 18, width := 10, acc := .rw, dims := [(6, 0x100)] }
/-- Next descriptor the device uses (06_ethernet_ports.md) -/
def PTP_TXRING.HEAD : Fld := { base := 0x100050, lsb := 0, width := 12, acc := .ro, dims := [(6, 0x100)] }
/-- One past the last posted descriptor; not in CRC (06_ethernet_ports.md) -/
def PTP_TXRING.TAIL : Fld := { base := 0x100054, lsb := 0, width := 12, acc := .rw, crc := false, dims := [(6, 0x100)] }
/-- Signed, 2^-16 ns (R205); reads 0 for p = 4–5 (07_time_and_synchronisation.md) -/
def PTP_PORT.ING_LAT : Fld := { base := 0x100000, lsb := 0, width := 32, acc := .rwl, roast := true, dims := [(6, 0x100)], only := some (0, 3) }
/-- As ING_LAT (07_time_and_synchronisation.md) -/
def PTP_PORT.EGR_LAT : Fld := { base := 0x100004, lsb := 0, width := 32, acc := .rwl, roast := true, dims := [(6, 0x100)], only := some (0, 3) }
/-- As ING_LAT (07_time_and_synchronisation.md) -/
def PTP_PORT.ASYM : Fld := { base := 0x100008, lsb := 0, width := 32, acc := .rwl, roast := true, dims := [(6, 0x100)], only := some (0, 3) }
/-- Signed mean link delay in 2^-16 ns, written by firmware (R209); not in CRC (07_time_and_synchronisation.md) -/
def PTP_PORT.PDELAY : Fld := { base := 0x10000c, lsb := 0, width := 32, acc := .rw, crc := false, dims := [(6, 0x100)] }
/-- Transparent clock (R209) (07_time_and_synchronisation.md) -/
def PTP_TC_CTL.EN : Fld := { base := 0x100800, lsb := 0, width := 1, acc := .rwl, roast := true }
/-- 0 E2E, 1 P2P (07_time_and_synchronisation.md) -/
def PTP_TC_CTL.MECH : Fld := { base := 0x100800, lsb := 1, width := 1, acc := .rwl, roast := true }
/-- Counter: messages forwarded (07_time_and_synchronisation.md) -/
def PTP_TC_FWD.FWD : Fld := { base := 0x100810, lsb := 0, width := 64, acc := .ro, counter := true }
/-- Counter: tagged messages left to R183 (07_time_and_synchronisation.md) -/
def PTP_TC_HSR_PASS.HSR_PASS : Fld := { base := 0x100818, lsb := 0, width := 64, acc := .ro, counter := true }
/-- Counter: messages discarded (R210) (07_time_and_synchronisation.md) -/
def PTP_TC_DROP.DROP : Fld := { base := 0x100820, lsb := 0, width := 64, acc := .ro, counter := true }
/-- 0 automatic, 1 manual (R198) (07_time_and_synchronisation.md) -/
def TSU_CTL.SERVO : Fld := { base := 0x104000, lsb := 0, width := 1, acc := .rw, guarded := true }
/-- 0 none, 1–8 record, 15 no reference (R195) (07_time_and_synchronisation.md) -/
def TSU_CTL.FORCE : Fld := { base := 0x104000, lsb := 1, width := 4, acc := .rw, guarded := true }
/-- Apply TSU_STEP at the next tick; clears when applied (07_time_and_synchronisation.md) -/
def TSU_CTL.STEP_GO : Fld := { base := 0x104000, lsb := 8, width := 1, acc := .w1s, guarded := true }
/-- TSU_STATUS: R196 (07_time_and_synchronisation.md) -/
def TSU_STATUS.STATE : Fld := { base := 0x104004, lsb := 0, width := 3, acc := .ro }
/-- State is HOLDOVER (07_time_and_synchronisation.md) -/
def TSU_STATUS.HOLDOVER : Fld := { base := 0x104004, lsb := 3, width := 1, acc := .ro }
/-- Selected record, 0 none (07_time_and_synchronisation.md) -/
def TSU_STATUS.SELECTED : Fld := { base := 0x104004, lsb := 4, width := 4, acc := .ro }
/-- R196 (07_time_and_synchronisation.md) -/
def TSU_STATUS.TIME_VALID : Fld := { base := 0x104004, lsb := 8, width := 1, acc := .ro }
/-- R200 (07_time_and_synchronisation.md) -/
def TSU_STATUS.SLEW : Fld := { base := 0x104004, lsb := 9, width := 1, acc := .ro }
/-- FREQ steered to REF10M_IN (R199) (07_time_and_synchronisation.md) -/
def TSU_STATUS.REF10M_USE : Fld := { base := 0x104004, lsb := 10, width := 1, acc := .ro }
/-- Bit k: record k + 1 qualified (07_time_and_synchronisation.md) -/
def TSU_STATUS.QUALIFIED : Fld := { base := 0x104004, lsb := 16, width := 8, acc := .ro }
/-- R212 (07_time_and_synchronisation.md) -/
def TSU_QUALITY.TQ : Fld := { base := 0x104008, lsb := 0, width := 4, acc := .ro, rst := 0xf }
/-- R212 (07_time_and_synchronisation.md) -/
def TSU_QUALITY.STAT_TQ : Fld := { base := 0x104008, lsb := 4, width := 3, acc := .ro, rst := 0x7 }
/-- R212 (07_time_and_synchronisation.md) -/
def TSU_QUALITY.UNLOCKED : Fld := { base := 0x104008, lsb := 8, width := 2, acc := .ro, rst := 0x3 }
/-- R212 (07_time_and_synchronisation.md) -/
def TSU_QUALITY.SYNC_ERR : Fld := { base := 0x104008, lsb := 10, width := 1, acc := .ro, rst := 0x1 }
/-- Class in use (R214) (07_time_and_synchronisation.md) -/
def TSU_QUALITY.CLASS : Fld := { base := 0x104008, lsb := 12, width := 2, acc := .ro }
/-- TSU_ERR_NS: e in ns (R211) (07_time_and_synchronisation.md) -/
def TSU_ERR_NS.ERR : Fld := { base := 0x10400c, lsb := 0, width := 32, acc := .ro, rst := 0xffffffff }
/-- Word k under R14; R191 (07_time_and_synchronisation.md) -/
def TSU_TIME.TIME : Fld := { base := 0x104010, lsb := 0, width := 32, acc := .ro, perReq := true, dims := [(4, 0x4)] }
/-- Signed, 2^-48 (R189); writes ignored while SERVO = 0; not in CRC; 64-bit access (07_time_and_synchronisation.md) -/
def TSU_FREQ.FREQ : Fld := { base := 0x104020, lsb := 0, width := 40, acc := .rw, crc := false }
/-- Signed step in 2^-16 ns; not in CRC; 64-bit access (07_time_and_synchronisation.md) -/
def TSU_STEP.STEP : Fld := { base := 0x104028, lsb := 0, width := 64, acc := .rw, guarded := true, crc := false }
/-- Milliseconds in HOLDOVER; saturates; holds its value after exit (07_time_and_synchronisation.md) -/
def TSU_HOLD_ELAPSED.MS : Fld := { base := 0x104030, lsb := 0, width := 32, acc := .ro }
/-- Last offset of the selected reference, signed ns, saturating (07_time_and_synchronisation.md) -/
def TSU_OFFSET.OFS : Fld := { base := 0x104034, lsb := 0, width := 32, acc := .ro }
/-- Learned REF10M_IN offset, signed, 2^-48 (R199); 64-bit access (07_time_and_synchronisation.md) -/
def TSU_REF10M_OFS.OFS : Fld := { base := 0x104038, lsb := 0, width := 40, acc := .ro }
/-- Offset sample, signed, 2^-16 ns; 64-bit access (07_time_and_synchronisation.md) -/
def TSU_SAMPLE.OFS : Fld := { base := 0x104040, lsb := 0, width := 64, acc := .wo }
/-- TSU_SAMPLE_GO: record 1–8 of kind 0; the write submits OFS; other values are ignored (07_time_and_synchronisation.md) -/
def TSU_SAMPLE_GO.REF : Fld := { base := 0x104048, lsb := 0, width := 4, acc := .wo }
/-- TAI − UTC in s, signed (R216); not in CRC (07_time_and_synchronisation.md) -/
def TSU_UTC.OFFSET : Fld := { base := 0x104050, lsb := 0, width := 16, acc := .rw, dom := .bkp, crc := false }
/-- 0 none, 1 insert, 2 delete (R217); not in CRC (07_time_and_synchronisation.md) -/
def TSU_UTC.PENDING : Fld := { base := 0x104050, lsb := 16, width := 2, acc := .rw, dom := .bkp, crc := false }
/-- FRACSEC bit 29 (R218) (07_time_and_synchronisation.md) -/
def TSU_UTC.OCCURRED : Fld := { base := 0x104050, lsb := 18, width := 1, acc := .ro, dom := .bkp }
/-- TSU_PPS_OUT: R219 (07_time_and_synchronisation.md) -/
def TSU_PPS_OUT.EN : Fld := { base := 0x104060, lsb := 0, width := 1, acc := .rw }
/-- Output also in FREE_RUN and RTC (07_time_and_synchronisation.md) -/
def TSU_PPS_OUT.FREE : Fld := { base := 0x104060, lsb := 1, width := 1, acc := .rw }
/-- Pulse width, 1 ms to 200 ms; 0 reads as 1, larger values store 200 (07_time_and_synchronisation.md) -/
def TSU_PPS_OUT.WIDTH : Fld := { base := 0x104060, lsb := 8, width := 8, acc := .rw, rst := 0x64 }
/-- Bit k: TDC channel k failing (R203) (07_time_and_synchronisation.md) -/
def TSU_TDC_FAIL.MAP : Fld := { base := 0x104070, lsb := 0, width := 32, acc := .ro }
/-- Counter: completed calibrations, all channels; saturates (07_time_and_synchronisation.md) -/
def TSU_TDC_CALS.COUNT : Fld := { base := 0x104074, lsb := 0, width := 32, acc := .ro, counter := true }
/-- R195 (07_time_and_synchronisation.md) -/
def TSU_IRQ.SEL_CHG : Fld := { base := 0x104080, lsb := 0, width := 1, acc := .w1c }
/-- R213 (07_time_and_synchronisation.md) -/
def TSU_IRQ.HOLD_IN : Fld := { base := 0x104080, lsb := 1, width := 1, acc := .w1c }
/-- R213 (07_time_and_synchronisation.md) -/
def TSU_IRQ.HOLD_OUT : Fld := { base := 0x104080, lsb := 2, width := 1, acc := .w1c }
/-- R190 (07_time_and_synchronisation.md) -/
def TSU_IRQ.STEP : Fld := { base := 0x104080, lsb := 3, width := 1, acc := .w1c }
/-- R217 (07_time_and_synchronisation.md) -/
def TSU_IRQ.LEAP : Fld := { base := 0x104080, lsb := 4, width := 1, acc := .w1c }
/-- R203 (07_time_and_synchronisation.md) -/
def TSU_IRQ.TDC : Fld := { base := 0x104080, lsb := 5, width := 1, acc := .w1c }
/-- TSU_IRQ_MASK: 1 lets the matching bit raise vector 24 (07_time_and_synchronisation.md) -/
def TSU_IRQ_MASK.MASK : Fld := { base := 0x104084, lsb := 0, width := 6, acc := .rw }
/-- Last offset, signed ns; for kind 3, ppb (07_time_and_synchronisation.md) -/
def TSU_REF.LAST : Fld := { base := 0x104100, lsb := 0, width := 32, acc := .ro, dims := [(8, 0x10)] }
/-- Spread over the last QUAL_S (R194) (07_time_and_synchronisation.md) -/
def TSU_REF.SPREAD : Fld := { base := 0x104104, lsb := 0, width := 32, acc := .ro, dims := [(8, 0x10)] }
/-- Qualified (07_time_and_synchronisation.md) -/
def TSU_REF.QUAL : Fld := { base := 0x104108, lsb := 0, width := 1, acc := .ro, dims := [(8, 0x10)] }
/-- Milliseconds since the last sample; saturates (07_time_and_synchronisation.md) -/
def TSU_REF.AGE : Fld := { base := 0x104108, lsb := 8, width := 24, acc := .ro, rst := 0xffffff, dims := [(8, 0x10)] }
/-- Counter: disqualifications; saturates (07_time_and_synchronisation.md) -/
def TSU_REF.LOSSES : Fld := { base := 0x10410c, lsb := 0, width := 32, acc := .ro, counter := true, dims := [(8, 0x10)] }

/-- Every field of the PTP window. -/
def tablePTP : List Fld :=
  [PTP_TXRING.BASE, PTP_TXRING.EN, PTP_TXRING.BUSY, PTP_TXRING.PEND, PTP_TXRING.OWNER, PTP_TXRING.SIZE_LOG2, PTP_TXRING.HOLDOFF, PTP_TXRING.WAITOBJ, PTP_TXRING.HEAD, PTP_TXRING.TAIL, PTP_PORT.ING_LAT, PTP_PORT.EGR_LAT, PTP_PORT.ASYM, PTP_PORT.PDELAY, PTP_TC_CTL.EN, PTP_TC_CTL.MECH, PTP_TC_FWD.FWD, PTP_TC_HSR_PASS.HSR_PASS, PTP_TC_DROP.DROP, TSU_CTL.SERVO, TSU_CTL.FORCE, TSU_CTL.STEP_GO, TSU_STATUS.STATE, TSU_STATUS.HOLDOVER, TSU_STATUS.SELECTED, TSU_STATUS.TIME_VALID, TSU_STATUS.SLEW, TSU_STATUS.REF10M_USE, TSU_STATUS.QUALIFIED, TSU_QUALITY.TQ, TSU_QUALITY.STAT_TQ, TSU_QUALITY.UNLOCKED, TSU_QUALITY.SYNC_ERR, TSU_QUALITY.CLASS, TSU_ERR_NS.ERR, TSU_TIME.TIME, TSU_FREQ.FREQ, TSU_STEP.STEP, TSU_HOLD_ELAPSED.MS, TSU_OFFSET.OFS] ++
  [TSU_REF10M_OFS.OFS, TSU_SAMPLE.OFS, TSU_SAMPLE_GO.REF, TSU_UTC.OFFSET, TSU_UTC.PENDING, TSU_UTC.OCCURRED, TSU_PPS_OUT.EN, TSU_PPS_OUT.FREE, TSU_PPS_OUT.WIDTH, TSU_TDC_FAIL.MAP, TSU_TDC_CALS.COUNT, TSU_IRQ.SEL_CHG, TSU_IRQ.HOLD_IN, TSU_IRQ.HOLD_OUT, TSU_IRQ.STEP, TSU_IRQ.LEAP, TSU_IRQ.TDC, TSU_IRQ_MASK.MASK, TSU_REF.LAST, TSU_REF.SPREAD, TSU_REF.QUAL, TSU_REF.AGE, TSU_REF.LOSSES]

/-- Ring address, 4 KiB aligned; not in CRC. Ignored while BUSY = 1 (06_ethernet_ports.md) -/
def ING_INJ_RING.BASE : Fld := { base := 0x120080, lsb := 0, width := 64, acc := .rw, crc := false }
/-- Ring enable under R106; shutdown completes the frame in progress (06_ethernet_ports.md) -/
def ING_INJ_RING.EN : Fld := { base := 0x120088, lsb := 0, width := 1, acc := .rw }
/-- Ring running or shutting down (06_ethernet_ports.md) -/
def ING_INJ_RING.BUSY : Fld := { base := 0x120088, lsb := 1, width := 1, acc := .ro }
/-- Re-enable pending (06_ethernet_ports.md) -/
def ING_INJ_RING.PEND : Fld := { base := 0x120088, lsb := 2, width := 1, acc := .ro }
/-- 0 cores, 1 host; not in CRC. Ignored while BUSY = 1 (06_ethernet_ports.md) -/
def ING_INJ_RING.OWNER : Fld := { base := 0x120088, lsb := 3, width := 1, acc := .ro, crc := false }
/-- 4–12; not in CRC. Ignored while BUSY = 1 (06_ethernet_ports.md) -/
def ING_INJ_RING.SIZE_LOG2 : Fld := { base := 0x120088, lsb := 4, width := 4, acc := .rw, rst := 0x4, crc := false }
/-- Event holdoff in µs (06_ethernet_ports.md) -/
def ING_INJ_RING.HOLDOFF : Fld := { base := 0x120088, lsb := 8, width := 10, acc := .rw }
/-- Barista wait object for a core-owned ring (06_ethernet_ports.md) -/
def ING_INJ_RING.WAITOBJ : Fld := { base := 0x120088, lsb := 18, width := 10, acc := .rw }
/-- Next descriptor the device uses (06_ethernet_ports.md) -/
def ING_INJ_RING.HEAD : Fld := { base := 0x120090, lsb := 0, width := 12, acc := .ro }
/-- One past the last posted descriptor; not in CRC (06_ethernet_ports.md) -/
def ING_INJ_RING.TAIL : Fld := { base := 0x120094, lsb := 0, width := 12, acc := .rw, crc := false }
/-- ING_Qn_CTL: queue enable under R173 (06_ethernet_ports.md) -/
def ING_Q_CTL.EN : Fld := { base := 0x127000, lsb := 0, width := 1, acc := .rw, dims := [(6, 0x40)] }
/-- Queue running or draining (06_ethernet_ports.md) -/
def ING_Q_CTL.BUSY : Fld := { base := 0x127000, lsb := 1, width := 1, acc := .ro, dims := [(6, 0x40)] }
/-- Re-enable pending (06_ethernet_ports.md) -/
def ING_Q_CTL.PEND : Fld := { base := 0x127000, lsb := 2, width := 1, acc := .ro, dims := [(6, 0x40)] }
/-- ING_Qn_CT: 0, or 64 B to 9,600 B; values from 1 B to 63 B store 64 B (06_ethernet_ports.md) -/
def ING_Q_CT.THR : Fld := { base := 0x127004, lsb := 0, width := 14, acc := .rwl, roast := true, dims := [(6, 0x40)] }
/-- ING_Qn_FILL: fill threshold in words; 0 disables (R170) (06_ethernet_ports.md) -/
def ING_Q_FILL.THR : Fld := { base := 0x127008, lsb := 0, width := 16, acc := .rw, dims := [(6, 0x40)] }
/-- ING_Qn_CMD: 1 issues Dregs (R171) (06_ethernet_ports.md) -/
def ING_Q_CMD.DREGS : Fld := { base := 0x12700c, lsb := 0, width := 1, acc := .wo, dims := [(6, 0x40)] }
/-- Apply only when the head packet's SEQ equals SEQ (06_ethernet_ports.md) -/
def ING_Q_CMD.SEQ_MATCH : Fld := { base := 0x12700c, lsb := 1, width := 1, acc := .wo, dims := [(6, 0x40)] }
/-- Sequence to match (06_ethernet_ports.md) -/
def ING_Q_CMD.SEQ : Fld := { base := 0x12700c, lsb := 16, width := 16, acc := .wo, dims := [(6, 0x40)] }
/-- ING_Qn_PTR: write pointer (R165) (06_ethernet_ports.md) -/
def ING_Q_PTR.WP : Fld := { base := 0x127010, lsb := 0, width := 16, acc := .ro, dims := [(6, 0x40)] }
/-- Read pointer (06_ethernet_ports.md) -/
def ING_Q_PTR.RP : Fld := { base := 0x127010, lsb := 16, width := 16, acc := .ro, dims := [(6, 0x40)] }
/-- ING_Qn_STATUS: occupancy in words (06_ethernet_ports.md) -/
def ING_Q_STATUS.OCC : Fld := { base := 0x127014, lsb := 0, width := 16, acc := .ro, dims := [(6, 0x40)] }
/-- Upward threshold crossing (R170) (06_ethernet_ports.md) -/
def ING_Q_STATUS.FILL_HIT : Fld := { base := 0x127014, lsb := 16, width := 1, acc := .w1c, dims := [(6, 0x40)] }
/-- Dregs ignored (R171) (06_ethernet_ports.md) -/
def ING_Q_STATUS.DREGS_IGN : Fld := { base := 0x127014, lsb := 17, width := 1, acc := .w1c, dims := [(6, 0x40)] }
/-- SEQ [13:0] of the head packet (06_ethernet_ports.md) -/
def ING_Q_STATUS.HEAD_SEQ : Fld := { base := 0x127014, lsb := 18, width := 14, acc := .ro, dims := [(6, 0x40)] }
/-- Counter: R167 (06_ethernet_ports.md) -/
def ING_Q.DROP_FULL : Fld := { base := 0x127020, lsb := 0, width := 64, acc := .ro, counter := true, dims := [(6, 0x40)] }
/-- Counter: packets discarded by Dregs (06_ethernet_ports.md) -/
def ING_Q.DREGS : Fld := { base := 0x127028, lsb := 0, width := 64, acc := .ro, counter := true, dims := [(6, 0x40)] }
/-- Counter: bad packets after cut-through start (R168) (06_ethernet_ports.md) -/
def ING_Q.CT_BAD : Fld := { base := 0x127030, lsb := 0, width := 64, acc := .ro, counter := true, dims := [(6, 0x40)] }
/-- Counter: bad packets withdrawn before start (R168) (06_ethernet_ports.md) -/
def ING_Q.ROLLBACK : Fld := { base := 0x127038, lsb := 0, width := 64, acc := .ro, counter := true, dims := [(6, 0x40)] }
/-- Parser enable under R106; shutdown finishes the packet in progress, and packets then wait (08_stream_ingest.md) -/
def ING_CTL.EN : Fld := { base := 0x120000, lsb := 0, width := 1, acc := .rw }
/-- Parser running or shutting down (08_stream_ingest.md) -/
def ING_CTL.BUSY : Fld := { base := 0x120000, lsb := 1, width := 1, acc := .ro }
/-- Re-enable pending (08_stream_ingest.md) -/
def ING_CTL.PEND : Fld := { base := 0x120000, lsb := 2, width := 1, acc := .ro }
/-- ING_IRQ: a group was suspended (R237) (08_stream_ingest.md) -/
def ING_IRQ.SUSPEND : Fld := { base := 0x120010, lsb := 0, width := 1, acc := .w1c }
/-- A template command completed (08_stream_ingest.md) -/
def ING_IRQ.TPL_DONE : Fld := { base := 0x120010, lsb := 1, width := 1, acc := .w1c }
/-- New unclaimed ID held (R240) (08_stream_ingest.md) -/
def ING_IRQ.UNCLAIMED_NEW : Fld := { base := 0x120010, lsb := 2, width := 1, acc := .w1c }
/-- Unknown 90-5 key ID (R235) (08_stream_ingest.md) -/
def ING_IRQ.KEY_MISS : Fld := { base := 0x120010, lsb := 3, width := 1, acc := .w1c }
/-- ING_IRQ_MASK: 1 lets the matching bit raise vector 22 (08_stream_ingest.md) -/
def ING_IRQ_MASK.MASK : Fld := { base := 0x120014, lsb := 0, width := 4, acc := .rw }
/-- Hand-on tokens per second per source (08_stream_ingest.md) -/
def ING_FWD_LIMIT.RATE : Fld := { base := 0x120020, lsb := 0, width := 16, acc := .rw, rst := 0xa }
/-- Bucket depth (08_stream_ingest.md) -/
def ING_FWD_LIMIT.BURST : Fld := { base := 0x120020, lsb := 16, width := 16, acc := .rw, rst := 0x10 }
/-- 1 empties every ING_UNCLAIMED_IDn (08_stream_ingest.md) -/
def ING_UNCLAIMED_CLR.CLR : Fld := { base := 0x120024, lsb := 0, width := 1, acc := .wo }
/-- Stream addressed; not in CRC (08_stream_ingest.md) -/
def ING_TPL_SEL.STREAM : Fld := { base := 0x120100, lsb := 0, width := 13, acc := .rw, guarded := true, crc := false }
/-- ING_TPL_CMD: bit 0 STAGE_TPL, bit 1 STAGE_REC, bit 2 RESUME, bit 3 SUSPEND, bit 4 DISCARD; (08_stream_ingest.md) -/
def ING_TPL_CMD.OP : Fld := { base := 0x120104, lsb := 0, width := 5, acc := .wo, guarded := true }
/-- ING_TPL_STATUS: command in progress, at most 20 µs (08_stream_ingest.md) -/
def ING_TPL_STATUS.BUSY : Fld := { base := 0x120108, lsb := 0, width := 1, acc := .ro }
/-- 0 none, 1 STAGED, 2 APPLIED, 3 INCOMPLETE, 4 RANGE, 5 SLOT, 6 OVERFLOW, 7 KEY, 8 SWAP_PEND (08_stream_ingest.md) -/
def ING_TPL_STATUS.RESULT : Fld := { base := 0x120108, lsb := 4, width := 4, acc := .ro }
/-- Staging places in use, 0–32 (08_stream_ingest.md) -/
def ING_TPL_STATUS.STAGED : Fld := { base := 0x120108, lsb := 8, width := 6, acc := .ro }
/-- R of the last accepted RESUME (08_stream_ingest.md) -/
def ING_TPL_RESUME_SLICE.SLICE : Fld := { base := 0x120110, lsb := 0, width := 64, acc := .ro }
/-- Bytes 4k to 4k + 3 of a stream record image (R226) or a template (R228); not in CRC (08_stream_ingest.md) -/
def ING_REC_BUF.DATA : Fld := { base := 0x120140, lsb := 0, width := 32, acc := .rw, guarded := true, crc := false, dims := [(16, 0x4)] }
/-- Bytes 4k to 4k + 3 of a stream record image (R226) or a template (R228); not in CRC (08_stream_ingest.md) -/
def ING_TPL_BUF.DATA : Fld := { base := 0x121000, lsb := 0, width := 32, acc := .rw, guarded := true, crc := false, dims := [(256, 0x4)] }
/-- Kind-3 stream addressed; not in CRC (08_stream_ingest.md) -/
def ING_KEY_SEL.STREAM : Fld := { base := 0x120700, lsb := 0, width := 13, acc := .rw, guarded := true, crc := false }
/-- 1 load NEXT key from ING_KEY_DATA and ING_KEY_ID, 2 erase both keys (08_stream_ingest.md) -/
def ING_KEY_CMD.OP : Fld := { base := 0x120704, lsb := 0, width := 2, acc := .wo, guarded := true }
/-- ING_KEY_STATUS: last unknown key ID (R235) (08_stream_ingest.md) -/
def ING_KEY_STATUS.MISS_ID : Fld := { base := 0x120708, lsb := 0, width := 32, acc := .ro }
/-- Key ID for the key being loaded (08_stream_ingest.md) -/
def ING_KEY_ID.ID : Fld := { base := 0x12070c, lsb := 0, width := 32, acc := .wo, guarded := true }
/-- Key bytes 4k to 4k + 3; never readable; cleared by each load (08_stream_ingest.md) -/
def ING_KEY_DATA.KEY : Fld := { base := 0x120720, lsb := 0, width := 32, acc := .wo, guarded := true, dims := [(8, 0x4)] }
/-- Bit b enables stream 32j + b from the close of the applying slice; for a group, only the f (08_stream_ingest.md) -/
def ING_EN.EN : Fld := { base := 0x120800, lsb := 0, width := 32, acc := .rwt, guarded := true, roast := true, dims := [(256, 0x4)] }
/-- Bit b: stream 32j + b suspended (08_stream_ingest.md) -/
def ING_SUSP.SUSP : Fld := { base := 0x120c00, lsb := 0, width := 32, acc := .ro, dims := [(256, 0x4)] }
/-- IDCODE, APPID or low 16 bits of the key ID (08_stream_ingest.md) -/
def ING_UNCLAIMED_ID.KEY : Fld := { base := 0x120600, lsb := 0, width := 16, acc := .ro, dims := [(8, 0x8)] }
/-- Source 0–6 (08_stream_ingest.md) -/
def ING_UNCLAIMED_ID.SOURCE : Fld := { base := 0x120600, lsb := 16, width := 3, acc := .ro, dims := [(8, 0x8)] }
/-- Stream kind 1–4; 6 GOOSE (08_stream_ingest.md) -/
def ING_UNCLAIMED_ID.KIND : Fld := { base := 0x120600, lsb := 20, width := 3, acc := .ro, dims := [(8, 0x8)] }
/-- Entry held (08_stream_ingest.md) -/
def ING_UNCLAIMED_ID.VALID : Fld := { base := 0x120600, lsb := 31, width := 1, acc := .ro, dims := [(8, 0x8)] }
/-- Low 32 bits of the source address (08_stream_ingest.md) -/
def ING_UNCLAIMED_ID.ADDR : Fld := { base := 0x120600, lsb := 32, width := 32, acc := .ro, dims := [(8, 0x8)] }
/-- Counter: (08_stream_ingest.md) -/
def ING.FRAMES : Fld := { base := 0x120400, lsb := 0, width := 64, acc := .ro, counter := true, dims := [(7, 0x8)] }
/-- Counter: (08_stream_ingest.md) -/
def ING.AUTH_FAIL : Fld := { base := 0x120500, lsb := 0, width := 64, acc := .ro, counter := true, dims := [(7, 0x8)] }
/-- Counter: (08_stream_ingest.md) -/
def ING.UNCLAIMED_CNT : Fld := { base := 0x120440, lsb := 0, width := 64, acc := .ro, counter := true, dims := [(7, 0x8)] }
/-- Counter: (08_stream_ingest.md) -/
def ING.SUSP_DROP : Fld := { base := 0x120540, lsb := 0, width := 64, acc := .ro, counter := true, dims := [(7, 0x8)] }
/-- Counter: (08_stream_ingest.md) -/
def ING.CHK_ERR : Fld := { base := 0x120480, lsb := 0, width := 64, acc := .ro, counter := true, dims := [(7, 0x8)] }
/-- Counter: (08_stream_ingest.md) -/
def ING.FWD_LIMITED : Fld := { base := 0x120580, lsb := 0, width := 64, acc := .ro, counter := true, dims := [(7, 0x8)] }
/-- Counter: (08_stream_ingest.md) -/
def ING.FMT_ERR : Fld := { base := 0x1204c0, lsb := 0, width := 64, acc := .ro, counter := true, dims := [(7, 0x8)] }
/-- Counter: (08_stream_ingest.md) -/
def ING.PROTO_ERR : Fld := { base := 0x1205c0, lsb := 0, width := 64, acc := .ro, counter := true, dims := [(7, 0x8)] }

/-- Every field of the ING window. -/
def tableING : List Fld :=
  [ING_INJ_RING.BASE, ING_INJ_RING.EN, ING_INJ_RING.BUSY, ING_INJ_RING.PEND, ING_INJ_RING.OWNER, ING_INJ_RING.SIZE_LOG2, ING_INJ_RING.HOLDOFF, ING_INJ_RING.WAITOBJ, ING_INJ_RING.HEAD, ING_INJ_RING.TAIL, ING_Q_CTL.EN, ING_Q_CTL.BUSY, ING_Q_CTL.PEND, ING_Q_CT.THR, ING_Q_FILL.THR, ING_Q_CMD.DREGS, ING_Q_CMD.SEQ_MATCH, ING_Q_CMD.SEQ, ING_Q_PTR.WP, ING_Q_PTR.RP, ING_Q_STATUS.OCC, ING_Q_STATUS.FILL_HIT, ING_Q_STATUS.DREGS_IGN, ING_Q_STATUS.HEAD_SEQ, ING_Q.DROP_FULL, ING_Q.DREGS, ING_Q.CT_BAD, ING_Q.ROLLBACK, ING_CTL.EN, ING_CTL.BUSY, ING_CTL.PEND, ING_IRQ.SUSPEND, ING_IRQ.TPL_DONE, ING_IRQ.UNCLAIMED_NEW, ING_IRQ.KEY_MISS, ING_IRQ_MASK.MASK, ING_FWD_LIMIT.RATE, ING_FWD_LIMIT.BURST, ING_UNCLAIMED_CLR.CLR, ING_TPL_SEL.STREAM] ++
  [ING_TPL_CMD.OP, ING_TPL_STATUS.BUSY, ING_TPL_STATUS.RESULT, ING_TPL_STATUS.STAGED, ING_TPL_RESUME_SLICE.SLICE, ING_REC_BUF.DATA, ING_TPL_BUF.DATA, ING_KEY_SEL.STREAM, ING_KEY_CMD.OP, ING_KEY_STATUS.MISS_ID, ING_KEY_ID.ID, ING_KEY_DATA.KEY, ING_EN.EN, ING_SUSP.SUSP, ING_UNCLAIMED_ID.KEY, ING_UNCLAIMED_ID.SOURCE, ING_UNCLAIMED_ID.KIND, ING_UNCLAIMED_ID.VALID, ING_UNCLAIMED_ID.ADDR, ING.FRAMES, ING.AUTH_FAIL, ING.UNCLAIMED_CNT, ING.SUSP_DROP, ING.CHK_ERR, ING.FWD_LIMITED, ING.FMT_ERR, ING.PROTO_ERR]

/-- Chain enable under R106. Shutdown stops every group after its current output sample. Group (09_waveform_inputs_and_filter_chain.md) -/
def FLT_CTL.EN : Fld := { base := 0x140000, lsb := 0, width := 1, acc := .rw }
/-- Chain running or shutting down (09_waveform_inputs_and_filter_chain.md) -/
def FLT_CTL.BUSY : Fld := { base := 0x140000, lsb := 1, width := 1, acc := .ro }
/-- Re-enable pending (09_waveform_inputs_and_filter_chain.md) -/
def FLT_CTL.PEND : Fld := { base := 0x140000, lsb := 2, width := 1, acc := .ro }
/-- FLT_IRQ: R256 (09_waveform_inputs_and_filter_chain.md) -/
def FLT_IRQ.SETTLE_END : Fld := { base := 0x140010, lsb := 0, width := 1, acc := .w1c }
/-- R258 (09_waveform_inputs_and_filter_chain.md) -/
def FLT_IRQ.SWAP_DONE : Fld := { base := 0x140010, lsb := 1, width := 1, acc := .w1c }
/-- R245 (09_waveform_inputs_and_filter_chain.md) -/
def FLT_IRQ.SDM_OVR : Fld := { base := 0x140010, lsb := 2, width := 1, acc := .w1c }
/-- R246 (09_waveform_inputs_and_filter_chain.md) -/
def FLT_IRQ.SV_GAP : Fld := { base := 0x140010, lsb := 3, width := 1, acc := .w1c }
/-- R260 (09_waveform_inputs_and_filter_chain.md) -/
def FLT_IRQ.CMP : Fld := { base := 0x140010, lsb := 4, width := 1, acc := .w1c }
/-- R257 (09_waveform_inputs_and_filter_chain.md) -/
def FLT_IRQ.COEF_REFUSED : Fld := { base := 0x140010, lsb := 5, width := 1, acc := .w1c }
/-- FLT_IRQ_MASK: 1 lets the matching bit raise vector 32 (09_waveform_inputs_and_filter_chain.md) -/
def FLT_IRQ_MASK.MASK : Fld := { base := 0x140014, lsb := 0, width := 6, acc := .rw }
/-- Run SDM_CLKk with no group using it (R243) (09_waveform_inputs_and_filter_chain.md) -/
def FLT_SDMCLK.EN : Fld := { base := 0x140020, lsb := 0, width := 1, acc := .rw, dims := [(4, 0x4)] }
/-- SDM_CLKk running (09_waveform_inputs_and_filter_chain.md) -/
def FLT_SDMCLK.RUN : Fld := { base := 0x140020, lsb := 1, width := 1, acc := .ro, dims := [(4, 0x4)] }
/-- Divider from the FILTER section; 0 unused (09_waveform_inputs_and_filter_chain.md) -/
def FLT_SDMCLK.DIV : Fld := { base := 0x140020, lsb := 8, width := 8, acc := .ro, dims := [(4, 0x4)] }
/-- FLT_KBANK: 0 A, 1 B (09_waveform_inputs_and_filter_chain.md) -/
def FLT_KBANK.ACTIVE : Fld := { base := 0x140030, lsb := 0, width := 1, acc := .ro }
/-- Fade running (09_waveform_inputs_and_filter_chain.md) -/
def FLT_KBANK.FADING : Fld := { base := 0x140030, lsb := 1, width := 1, acc := .ro }
/-- Request queued (09_waveform_inputs_and_filter_chain.md) -/
def FLT_KBANK.QUEUED : Fld := { base := 0x140030, lsb := 2, width := 1, acc := .ro }
/-- Queued target (09_waveform_inputs_and_filter_chain.md) -/
def FLT_KBANK.QTARGET : Fld := { base := 0x140030, lsb := 3, width := 1, acc := .ro }
/-- 1 requests a swap to TARGET (R258) (09_waveform_inputs_and_filter_chain.md) -/
def FLT_KBANK.REQ : Fld := { base := 0x140030, lsb := 4, width := 1, acc := .wo, guarded := true }
/-- Target bank (09_waveform_inputs_and_filter_chain.md) -/
def FLT_KBANK.TARGET : Fld := { base := 0x140030, lsb := 5, width := 1, acc := .wo, guarded := true }
/-- 0 none, 1 STARTED, 2 QUEUED, 3 NOP (09_waveform_inputs_and_filter_chain.md) -/
def FLT_KBANK.RESULT : Fld := { base := 0x140030, lsb := 8, width := 2, acc := .ro }
/-- Group, for the FIR kind; not in CRC (09_waveform_inputs_and_filter_chain.md) -/
def FLT_COEF_SEL.GROUP : Fld := { base := 0x140040, lsb := 0, width := 5, acc := .rw, guarded := true, crc := false }
/-- 0 FIR, 1 kernel; not in CRC (09_waveform_inputs_and_filter_chain.md) -/
def FLT_COEF_SEL.KIND : Fld := { base := 0x140040, lsb := 5, width := 1, acc := .rw, guarded := true, crc := false }
/-- 0 A, 1 B; not in CRC (09_waveform_inputs_and_filter_chain.md) -/
def FLT_COEF_SEL.BANK : Fld := { base := 0x140040, lsb := 6, width := 1, acc := .rw, guarded := true, crc := false }
/-- FIR 0–63; kernel 16p + j, 0–4,095; not in CRC (09_waveform_inputs_and_filter_chain.md) -/
def FLT_COEF_SEL.INDEX : Fld := { base := 0x140040, lsb := 8, width := 12, acc := .rw, guarded := true, crc := false }
/-- Increment INDEX after each data access; not in CRC (09_waveform_inputs_and_filter_chain.md) -/
def FLT_COEF_SEL.AUTOINC : Fld := { base := 0x140040, lsb := 31, width := 1, acc := .rw, guarded := true, crc := false }
/-- binary32 coefficient at the selected place (R257); not in CRC (09_waveform_inputs_and_filter_chain.md) -/
def FLT_COEF_DATA.DATA : Fld := { base := 0x140044, lsb := 0, width := 32, acc := .rw, guarded := true, crc := false }
/-- Bit u: unit u changed state (R260) (09_waveform_inputs_and_filter_chain.md) -/
def FLT_CMP_EDGE.EDGE : Fld := { base := 0x140050, lsb := 0, width := 32, acc := .w1c }
/-- Bit u: unit u asserted (09_waveform_inputs_and_filter_chain.md) -/
def FLT_CMP_STATE.STATE : Fld := { base := 0x140054, lsb := 0, width := 32, acc := .ro }
/-- FLT_G_g_CTL: group enable under R106; start is a full reset; shutdown ends after the curre (09_waveform_inputs_and_filter_chain.md) -/
def FLT_G_CTL.EN : Fld := { base := 0x140100, lsb := 0, width := 1, acc := .rw, dims := [(32, 0x20)] }
/-- Group running or shutting down (09_waveform_inputs_and_filter_chain.md) -/
def FLT_G_CTL.BUSY : Fld := { base := 0x140100, lsb := 1, width := 1, acc := .ro, dims := [(32, 0x20)] }
/-- Re-enable pending (09_waveform_inputs_and_filter_chain.md) -/
def FLT_G_CTL.PEND : Fld := { base := 0x140100, lsb := 2, width := 1, acc := .ro, dims := [(32, 0x20)] }
/-- 1 requests a synchronising reset; ignored unless running (09_waveform_inputs_and_filter_chain.md) -/
def FLT_G_CTL.SYNC : Fld := { base := 0x140100, lsb := 3, width := 1, acc := .wo, dims := [(32, 0x20)] }
/-- Active FIR bank: 0 A, 1 B (09_waveform_inputs_and_filter_chain.md) -/
def FLT_G_FIR_BANK.ACTIVE : Fld := { base := 0x140104, lsb := 0, width := 1, acc := .ro, dims := [(32, 0x20)] }
/-- Fade running (09_waveform_inputs_and_filter_chain.md) -/
def FLT_G_FIR_BANK.FADING : Fld := { base := 0x140104, lsb := 1, width := 1, acc := .ro, dims := [(32, 0x20)] }
/-- Request queued (09_waveform_inputs_and_filter_chain.md) -/
def FLT_G_FIR_BANK.QUEUED : Fld := { base := 0x140104, lsb := 2, width := 1, acc := .ro, dims := [(32, 0x20)] }
/-- Queued target (09_waveform_inputs_and_filter_chain.md) -/
def FLT_G_FIR_BANK.QTARGET : Fld := { base := 0x140104, lsb := 3, width := 1, acc := .ro, dims := [(32, 0x20)] }
/-- 1 requests a swap to TARGET (R258) (09_waveform_inputs_and_filter_chain.md) -/
def FLT_G_FIR_BANK.REQ : Fld := { base := 0x140104, lsb := 4, width := 1, acc := .wo, guarded := true, dims := [(32, 0x20)] }
/-- Target bank (09_waveform_inputs_and_filter_chain.md) -/
def FLT_G_FIR_BANK.TARGET : Fld := { base := 0x140104, lsb := 5, width := 1, acc := .wo, guarded := true, dims := [(32, 0x20)] }
/-- 0 none, 1 STARTED, 2 QUEUED, 3 NOP (09_waveform_inputs_and_filter_chain.md) -/
def FLT_G_FIR_BANK.RESULT : Fld := { base := 0x140104, lsb := 8, width := 2, acc := .ro, dims := [(32, 0x20)] }
/-- FLT_G_g_STATUS: latest output sample SETTLING (09_waveform_inputs_and_filter_chain.md) -/
def FLT_G_STATUS.SETTLING : Fld := { base := 0x140108, lsb := 0, width := 1, acc := .ro, dims := [(32, 0x20)] }
/-- Group record present (09_waveform_inputs_and_filter_chain.md) -/
def FLT_G_STATUS.CONFIGURED : Fld := { base := 0x140108, lsb := 1, width := 1, acc := .ro, dims := [(32, 0x20)] }
/-- R249 (09_waveform_inputs_and_filter_chain.md) -/
def FLT_G_STATUS.FREQ_CLAMP : Fld := { base := 0x140108, lsb := 2, width := 1, acc := .ro, dims := [(32, 0x20)] }
/-- R249 (09_waveform_inputs_and_filter_chain.md) -/
def FLT_G_STATUS.FREQ_FALLBACK : Fld := { base := 0x140108, lsb := 3, width := 1, acc := .ro, dims := [(32, 0x20)] }
/-- Bit m freezes member m's DC blocker (R248) (09_waveform_inputs_and_filter_chain.md) -/
def FLT_G_FREEZE.FREEZE : Fld := { base := 0x14010c, lsb := 0, width := 8, acc := .rw, dims := [(32, 0x20)] }
/-- Group D_c in ns, rounded up (R254) (09_waveform_inputs_and_filter_chain.md) -/
def FLT_G.DELAY : Fld := { base := 0x140110, lsb := 0, width := 32, acc := .ro, dims := [(32, 0x20)] }
/-- Group S after a full reset, in ns, rounded up (09_waveform_inputs_and_filter_chain.md) -/
def FLT_G.SETTLE : Fld := { base := 0x140114, lsb := 0, width := 32, acc := .ro, dims := [(32, 0x20)] }
/-- binary32 frequency at the latest reporting instant, in Hz (09_waveform_inputs_and_filter_chain.md) -/
def FLT_G.FREQ : Fld := { base := 0x140118, lsb := 0, width := 32, acc := .ro, dims := [(32, 0x20)] }
/-- Phasor latency in ns, rounded up (09_waveform_inputs_and_filter_chain.md) -/
def FLT_G.LATENCY : Fld := { base := 0x14011c, lsb := 0, width := 32, acc := .ro, dims := [(32, 0x20)] }
/-- binary32 DC estimate m (R248) (09_waveform_inputs_and_filter_chain.md) -/
def FLT_L.OFFSET : Fld := { base := 0x140800, lsb := 0, width := 32, acc := .ro, dims := [(256, 0x10)] }
/-- FLT_L_l_STATUS: last CIC output INVALID under R245 (09_waveform_inputs_and_filter_chain.md) -/
def FLT_L_STATUS.OVR : Fld := { base := 0x140804, lsb := 0, width := 1, acc := .ro, dims := [(256, 0x10)] }
/-- Fast acquisition in progress (09_waveform_inputs_and_filter_chain.md) -/
def FLT_L_STATUS.ACQ : Fld := { base := 0x140804, lsb := 1, width := 1, acc := .ro, dims := [(256, 0x10)] }
/-- SV lane in a gap longer than 2 samples (09_waveform_inputs_and_filter_chain.md) -/
def FLT_L_STATUS.GAP : Fld := { base := 0x140804, lsb := 2, width := 1, acc := .ro, dims := [(256, 0x10)] }
/-- Offset held (09_waveform_inputs_and_filter_chain.md) -/
def FLT_L_STATUS.FROZEN : Fld := { base := 0x140804, lsb := 3, width := 1, acc := .ro, dims := [(256, 0x10)] }
/-- Counter: input samples INVALID or missing (09_waveform_inputs_and_filter_chain.md) -/
def FLT_L.FAULTS : Fld := { base := 0x140808, lsb := 0, width := 64, acc := .ro, counter := true, dims := [(256, 0x10)] }

/-- Every field of the FLT window. -/
def tableFLT : List Fld :=
  [FLT_CTL.EN, FLT_CTL.BUSY, FLT_CTL.PEND, FLT_IRQ.SETTLE_END, FLT_IRQ.SWAP_DONE, FLT_IRQ.SDM_OVR, FLT_IRQ.SV_GAP, FLT_IRQ.CMP, FLT_IRQ.COEF_REFUSED, FLT_IRQ_MASK.MASK, FLT_SDMCLK.EN, FLT_SDMCLK.RUN, FLT_SDMCLK.DIV, FLT_KBANK.ACTIVE, FLT_KBANK.FADING, FLT_KBANK.QUEUED, FLT_KBANK.QTARGET, FLT_KBANK.REQ, FLT_KBANK.TARGET, FLT_KBANK.RESULT, FLT_COEF_SEL.GROUP, FLT_COEF_SEL.KIND, FLT_COEF_SEL.BANK, FLT_COEF_SEL.INDEX, FLT_COEF_SEL.AUTOINC, FLT_COEF_DATA.DATA, FLT_CMP_EDGE.EDGE, FLT_CMP_STATE.STATE, FLT_G_CTL.EN, FLT_G_CTL.BUSY, FLT_G_CTL.PEND, FLT_G_CTL.SYNC, FLT_G_FIR_BANK.ACTIVE, FLT_G_FIR_BANK.FADING, FLT_G_FIR_BANK.QUEUED, FLT_G_FIR_BANK.QTARGET, FLT_G_FIR_BANK.REQ, FLT_G_FIR_BANK.TARGET, FLT_G_FIR_BANK.RESULT, FLT_G_STATUS.SETTLING, FLT_G_STATUS.CONFIGURED, FLT_G_STATUS.FREQ_CLAMP, FLT_G_STATUS.FREQ_FALLBACK, FLT_G_FREEZE.FREEZE, FLT_G.DELAY, FLT_G.SETTLE, FLT_G.FREQ] ++
  [FLT_G.LATENCY, FLT_L.OFFSET, FLT_L_STATUS.OVR, FLT_L_STATUS.ACQ, FLT_L_STATUS.GAP, FLT_L_STATUS.FROZEN, FLT_L.FAULTS]

end Sys2Proof.Machine.Reg
end

