-- ==== Sys2Proof/Machine/RegMapRecords.lean ====
section
/-! DEFINITION. The register fields of the blocks CAP, NRG, EVR, RTC, CAS, CRF, from the register tables of spec/ (each docstring names its file and gives the start of the table's Meaning). A field is written BLOCK_REGISTER.FIELD as R8 writes it; index letters of arrays are left out. The counters of a block stand under the block's own name. -/

namespace Sys2Proof.Machine.Reg

/-- Engine enable under R106. Shutdown completes filling records, then stops the ring (15_capture_and_cross_trigger.md) -/
def CAP_CTL.EN : Fld := { base := 0x200000, lsb := 0, width := 1, acc := .rw }
/-- Running or shutting down (15_capture_and_cross_trigger.md) -/
def CAP_CTL.BUSY : Fld := { base := 0x200000, lsb := 1, width := 1, acc := .ro }
/-- Re-enable pending (15_capture_and_cross_trigger.md) -/
def CAP_CTL.PEND : Fld := { base := 0x200000, lsb := 2, width := 1, acc := .ro }
/-- CAP_STATUS: FREE slots, 0–64 (15_capture_and_cross_trigger.md) -/
def CAP_STATUS.FREE : Fld := { base := 0x200004, lsb := 0, width := 7, acc := .ro }
/-- Records filling, 0–64 (15_capture_and_cross_trigger.md) -/
def CAP_STATUS.FILLING : Fld := { base := 0x200004, lsb := 8, width := 7, acc := .ro }
/-- Bit k: XTRIGk stuck (R407) (15_capture_and_cross_trigger.md) -/
def CAP_STATUS.STUCK : Fld := { base := 0x200004, lsb := 16, width := 4, acc := .ro }
/-- A record ended DONE (R402) (15_capture_and_cross_trigger.md) -/
def CAP_IRQ.DONE : Fld := { base := 0x200010, lsb := 0, width := 1, acc := .w1c }
/-- R401 (15_capture_and_cross_trigger.md) -/
def CAP_IRQ.REFUSED : Fld := { base := 0x200010, lsb := 1, width := 1, acc := .w1c }
/-- A record has WAVE_LOST or SLICE_LOST set (15_capture_and_cross_trigger.md) -/
def CAP_IRQ.LOST : Fld := { base := 0x200010, lsb := 2, width := 1, acc := .w1c }
/-- R407 (15_capture_and_cross_trigger.md) -/
def CAP_IRQ.STUCK : Fld := { base := 0x200010, lsb := 3, width := 1, acc := .w1c }
/-- CAP_IRQ_MASK: 1 lets the matching bit raise vector 80 (15_capture_and_cross_trigger.md) -/
def CAP_IRQ_MASK.MASK : Fld := { base := 0x200014, lsb := 0, width := 4, acc := .rw }
/-- CAP_HOST_TRIG: 1 issues source 72 (15_capture_and_cross_trigger.md) -/
def CAP_HOST_TRIG.GO : Fld := { base := 0x200020, lsb := 0, width := 1, acc := .wo, guarded := true }
/-- CAP_ARM: bit k: XTRIGk armed (15_capture_and_cross_trigger.md) -/
def CAP_ARM.ARMED : Fld := { base := 0x200024, lsb := 0, width := 4, acc := .ro }
/-- Bit k arms line k (R405) (15_capture_and_cross_trigger.md) -/
def CAP_ARM.ARM : Fld := { base := 0x200024, lsb := 8, width := 4, acc := .wo, guarded := true }
/-- Bit k disarms line k (15_capture_and_cross_trigger.md) -/
def CAP_ARM.DISARM : Fld := { base := 0x200024, lsb := 12, width := 4, acc := .wo, guarded := true }
/-- Signed, 2^-16 ns (R407) (15_capture_and_cross_trigger.md) -/
def CAP_XSKEW.SKEW : Fld := { base := 0x200040, lsb := 0, width := 32, acc := .rwl, roast := true, dims := [(4, 0x4)] }
/-- 0 FREE, 1 FILLING, 2 DONE, 3 ABORTED; reads 0 for k ≥ NSLOT (15_capture_and_cross_trigger.md) -/
def CAP_SLOT.STATE : Fld := { base := 0x200100, lsb := 0, width := 3, acc := .ro, dims := [(64, 0x10)] }
/-- Slot held (15_capture_and_cross_trigger.md) -/
def CAP_SLOT.HELD : Fld := { base := 0x200100, lsb := 3, width := 1, acc := .ro, dims := [(64, 0x10)] }
/-- Profile of the record (15_capture_and_cross_trigger.md) -/
def CAP_SLOT.PROFILE : Fld := { base := 0x200100, lsb := 8, width := 4, acc := .ro, dims := [(64, 0x10)] }
/-- 1 holds a DONE or ABORTED slot (15_capture_and_cross_trigger.md) -/
def CAP_SLOT.HOLD : Fld := { base := 0x200104, lsb := 0, width := 1, acc := .wo, guarded := true, dims := [(64, 0x10)] }
/-- 1 makes a DONE or ABORTED slot FREE; ignored while FILLING (15_capture_and_cross_trigger.md) -/
def CAP_SLOT.RELEASE : Fld := { base := 0x200104, lsb := 1, width := 1, acc := .wo, guarded := true, dims := [(64, 0x10)] }
/-- SEQ of the record (15_capture_and_cross_trigger.md) -/
def CAP_SLOT.SEQ : Fld := { base := 0x200108, lsb := 0, width := 32, acc := .ro, dims := [(64, 0x10)] }
/-- Counter: (15_capture_and_cross_trigger.md) -/
def CAP.TRIGGERS : Fld := { base := 0x201000, lsb := 0, width := 64, acc := .ro, counter := true }
/-- Counter: (15_capture_and_cross_trigger.md) -/
def CAP.SLICE_LOST : Fld := { base := 0x201020, lsb := 0, width := 64, acc := .ro, counter := true }
/-- Counter: (15_capture_and_cross_trigger.md) -/
def CAP.MERGED : Fld := { base := 0x201008, lsb := 0, width := 64, acc := .ro, counter := true }
/-- Counter: (15_capture_and_cross_trigger.md) -/
def CAP.XTRIG_FIRED : Fld := { base := 0x201028, lsb := 0, width := 64, acc := .ro, counter := true }
/-- Counter: (15_capture_and_cross_trigger.md) -/
def CAP.REFUSED_NOSLOT : Fld := { base := 0x201010, lsb := 0, width := 64, acc := .ro, counter := true }
/-- Counter: (15_capture_and_cross_trigger.md) -/
def CAP.XTRIG_SEEN : Fld := { base := 0x201030, lsb := 0, width := 64, acc := .ro, counter := true }
/-- Counter: (15_capture_and_cross_trigger.md) -/
def CAP.WAVE_LOST : Fld := { base := 0x201018, lsb := 0, width := 64, acc := .ro, counter := true }

/-- Every field of the CAP window. -/
def tableCAP : List Fld :=
  [CAP_CTL.EN, CAP_CTL.BUSY, CAP_CTL.PEND, CAP_STATUS.FREE, CAP_STATUS.FILLING, CAP_STATUS.STUCK, CAP_IRQ.DONE, CAP_IRQ.REFUSED, CAP_IRQ.LOST, CAP_IRQ.STUCK, CAP_IRQ_MASK.MASK, CAP_HOST_TRIG.GO, CAP_ARM.ARMED, CAP_ARM.ARM, CAP_ARM.DISARM, CAP_XSKEW.SKEW, CAP_SLOT.STATE, CAP_SLOT.HELD, CAP_SLOT.PROFILE, CAP_SLOT.HOLD, CAP_SLOT.RELEASE, CAP_SLOT.SEQ, CAP.TRIGGERS, CAP.SLICE_LOST, CAP.MERGED, CAP.XTRIG_FIRED, CAP.REFUSED_NOSLOT, CAP.XTRIG_SEEN, CAP.WAVE_LOST]

/-- Engine enable under R106. Start performs R430, R434 and R435; shutdown pushes under R433 a (16_energy_and_custody_records.md) -/
def NRG_CTL.EN : Fld := { base := 0x220000, lsb := 0, width := 1, acc := .rw }
/-- Running or shutting down (16_energy_and_custody_records.md) -/
def NRG_CTL.BUSY : Fld := { base := 0x220000, lsb := 1, width := 1, acc := .ro }
/-- Re-enable pending (16_energy_and_custody_records.md) -/
def NRG_CTL.PEND : Fld := { base := 0x220000, lsb := 2, width := 1, acc := .ro }
/-- NRG_STATUS: R430 (16_energy_and_custody_records.md) -/
def NRG_STATUS.COPY_DISAGREE : Fld := { base := 0x220004, lsb := 0, width := 1, acc := .w1c }
/-- R430 (16_energy_and_custody_records.md) -/
def NRG_STATUS.COPY_LOST : Fld := { base := 0x220004, lsb := 1, width := 1, acc := .w1c }
/-- R430 (16_energy_and_custody_records.md) -/
def NRG_STATUS.TOTALS_LOST : Fld := { base := 0x220004, lsb := 2, width := 1, acc := .w1c }
/-- Save in progress (16_energy_and_custody_records.md) -/
def NRG_STATUS.SAVING : Fld := { base := 0x220004, lsb := 3, width := 1, acc := .ro }
/-- PF_DET_N accepted low (16_energy_and_custody_records.md) -/
def NRG_STATUS.PF_ACTIVE : Fld := { base := 0x220004, lsb := 4, width := 1, acc := .ro }
/-- Custody record written (R426) (16_energy_and_custody_records.md) -/
def NRG_IRQ.RECORD : Fld := { base := 0x220010, lsb := 0, width := 1, acc := .w1c }
/-- Restore completed (R434) (16_energy_and_custody_records.md) -/
def NRG_IRQ.RESTORE : Fld := { base := 0x220010, lsb := 1, width := 1, acc := .w1c }
/-- R420 (16_energy_and_custody_records.md) -/
def NRG_IRQ.PEAK : Fld := { base := 0x220010, lsb := 2, width := 1, acc := .w1c }
/-- R420 (16_energy_and_custody_records.md) -/
def NRG_IRQ.OC : Fld := { base := 0x220010, lsb := 3, width := 1, acc := .w1c }
/-- R429 (16_energy_and_custody_records.md) -/
def NRG_IRQ.SAVE_FAIL : Fld := { base := 0x220010, lsb := 4, width := 1, acc := .w1c }
/-- R421 (16_energy_and_custody_records.md) -/
def NRG_IRQ.PLS_OVF : Fld := { base := 0x220010, lsb := 5, width := 1, acc := .w1c }
/-- NRG_IRQ_MASK: 1 lets the matching bit raise vector 88 (16_energy_and_custody_records.md) -/
def NRG_IRQ_MASK.MASK : Fld := { base := 0x220014, lsb := 0, width := 6, acc := .rw }
/-- R424; a value outside the list stores 15 (16_energy_and_custody_records.md) -/
def NRG_CFG.INTERVAL_MIN : Fld := { base := 0x220020, lsb := 0, width := 6, acc := .rwl, roast := true }
/-- NRG_SAVE: save period in s, 10–3,600; values outside are clamped (16_energy_and_custody_records.md) -/
def NRG_SAVE.SAVE_S : Fld := { base := 0x220024, lsb := 0, width := 12, acc := .rwl, roast := true }
/-- R431 (16_energy_and_custody_records.md) -/
def NRG_SAVE.NOW : Fld := { base := 0x220024, lsb := 31, width := 1, acc := .wo, guarded := true }
/-- NRG_SAVE_SEQ: sequence number of the latest completed save (16_energy_and_custody_records.md) -/
def NRG_SAVE_SEQ.SEQ : Fld := { base := 0x220028, lsb := 0, width := 32, acc := .ro }
/-- 0 push, 1 newest bank, 2 other bank, 3 none (R434) (16_energy_and_custody_records.md) -/
def NRG_RESTORE.SOURCE : Fld := { base := 0x220030, lsb := 0, width := 3, acc := .ro }
/-- 0 s_r > BASE, 1 equal, 2 BASE − 1, 3 older (16_energy_and_custody_records.md) -/
def NRG_RESTORE.RELATION : Fld := { base := 0x220030, lsb := 4, width := 2, acc := .ro }
/-- Row of R430 used, 1–7 (16_energy_and_custody_records.md) -/
def NRG_RESTORE.ROW : Fld := { base := 0x220030, lsb := 8, width := 3, acc := .ro }
/-- NRG_LOST_BOUND_e: R434, in each unit (16_energy_and_custody_records.md) -/
def NRG_LOST_BOUND.BOUND : Fld := { base := 0x220040, lsb := 0, width := 64, acc := .ro, dims := [(4, 0x8)] }
/-- NRG_PLS_k_CFG: followed element (16_energy_and_custody_records.md) -/
def NRG_PLS.ELEMENT : Fld := { base := 0x220100, lsb := 0, width := 2, acc := .rwl, roast := true, dims := [(8, 0x10)] }
/-- Phase 0–2, or 3 for the total (16_energy_and_custody_records.md) -/
def NRG_PLS.LEVEL : Fld := { base := 0x220100, lsb := 2, width := 2, acc := .rwl, roast := true, dims := [(8, 0x10)] }
/-- q of R415; 7 stores 6 (16_energy_and_custody_records.md) -/
def NRG_PLS.QTY : Fld := { base := 0x220100, lsb := 4, width := 3, acc := .rwl, roast := true, dims := [(8, 0x10)] }
/-- Width in ms, 1–200; 0 stores 1, larger values store 200 (16_energy_and_custody_records.md) -/
def NRG_PLS.WIDTH : Fld := { base := 0x220100, lsb := 8, width := 8, acc := .rw, rst := 0x28, dims := [(8, 0x10)] }
/-- Output in use (16_energy_and_custody_records.md) -/
def NRG_PLS.EN : Fld := { base := 0x220100, lsb := 31, width := 1, acc := .rwl, roast := true, dims := [(8, 0x10)] }
/-- Units per pulse, 1 to 4,294,967,295 (16_energy_and_custody_records.md) -/
def NRG_PLS.CONST : Fld := { base := 0x220104, lsb := 0, width := 32, acc := .rwl, roast := true, dims := [(8, 0x10)] }
/-- B (R421) (16_energy_and_custody_records.md) -/
def NRG_PLS.BACKLOG : Fld := { base := 0x220108, lsb := 0, width := 16, acc := .ro, dims := [(8, 0x10)] }
/-- Backlog was full at a crossing (16_energy_and_custody_records.md) -/
def NRG_PLS.OVF : Fld := { base := 0x220108, lsb := 16, width := 1, acc := .w1c, dims := [(8, 0x10)] }
/-- NRG_EVT_STATE: bit 3e + phase asserted (R420) (16_energy_and_custody_records.md) -/
def NRG_EVT_STATE.OC : Fld := { base := 0x220060, lsb := 0, width := 12, acc := .ro }
/-- Bit 3e + phase: a current peak exceeded PEAK_I; voltage peaks are logged only (16_energy_and_custody_records.md) -/
def NRG_EVT_STATE.PEAK : Fld := { base := 0x220060, lsb := 16, width := 12, acc := .w1c }
/-- NRG_REC_LAST: REC_SEQ of the newest record (16_energy_and_custody_records.md) -/
def NRG_REC_LAST.SEQ : Fld := { base := 0x220080, lsb := 0, width := 64, acc := .ro }
/-- NRG_REC_SEL: per requester; not in CRC (16_energy_and_custody_records.md) -/
def NRG_REC_SEL.SEQ : Fld := { base := 0x220088, lsb := 0, width := 64, acc := .rw, crc := false, perReq := true }
/-- NRG_REC_ACK: R427; not in CRC (16_energy_and_custody_records.md) -/
def NRG_REC_ACK.SEQ : Fld := { base := 0x220090, lsb := 0, width := 64, acc := .rw, guarded := true, crc := false }
/-- Bytes 4k to 4k + 3 of the latched record (R428) (16_energy_and_custody_records.md) -/
def NRG_REC.WORD : Fld := { base := 0x222000, lsb := 0, width := 32, acc := .ro, perReq := true, dims := [(128, 0x4)] }
/-- Counter: (16_energy_and_custody_records.md) -/
def NRG.E : Fld := { base := 0x221000, lsb := 0, width := 64, acc := .ro, counter := true, dims := [(4, 0x100), (4, 0x40), (7, 0x8)] }
/-- Counter: (16_energy_and_custody_records.md) -/
def NRG.LEG : Fld := { base := 0x221400, lsb := 0, width := 32, acc := .ro, counter := true, dims := [(4, 0x20), (7, 0x4)] }
/-- Counter: (16_energy_and_custody_records.md) -/
def NRG.WRAPCNT : Fld := { base := 0x221480, lsb := 0, width := 32, acc := .ro, counter := true, dims := [(4, 0x4)] }
/-- Counter: (16_energy_and_custody_records.md) -/
def NRG.DEM : Fld := { base := 0x221500, lsb := 0, width := 32, acc := .ro, counter := true, dims := [(4, 0x10), (4, 0x4)] }
/-- state register (16_energy_and_custody_records.md) -/
def NRG.INST : Fld := { base := 0x221580, lsb := 0, width := 32, acc := .ro, dims := [(4, 0x10), (4, 0x4)] }
/-- Counter: (16_energy_and_custody_records.md) -/
def NRG.BRIDGED : Fld := { base := 0x221600, lsb := 0, width := 64, acc := .ro, counter := true, dims := [(4, 0x8)] }
/-- Counter: (16_energy_and_custody_records.md) -/
def NRG.GAP_MS : Fld := { base := 0x221620, lsb := 0, width := 64, acc := .ro, counter := true, dims := [(4, 0x8)] }
/-- Counter: (16_energy_and_custody_records.md) -/
def NRG.PLS_LOST : Fld := { base := 0x221640, lsb := 0, width := 64, acc := .ro, counter := true, dims := [(8, 0x8)] }
/-- Counter: (16_energy_and_custody_records.md) -/
def NRG.PLS_EMIT : Fld := { base := 0x221680, lsb := 0, width := 64, acc := .ro, counter := true, dims := [(8, 0x8)] }
/-- Counter: (16_energy_and_custody_records.md) -/
def NRG.SAVE_FAIL : Fld := { base := 0x2216c0, lsb := 0, width := 64, acc := .ro, counter := true }
/-- Counter: (16_energy_and_custody_records.md) -/
def NRG.SAVE_SKIP : Fld := { base := 0x2216c8, lsb := 0, width := 64, acc := .ro, counter := true }
/-- Counter: (16_energy_and_custody_records.md) -/
def NRG.RECORDS_LOST : Fld := { base := 0x2216d0, lsb := 0, width := 64, acc := .ro, counter := true }

/-- Every field of the NRG window. -/
def tableNRG : List Fld :=
  [NRG_CTL.EN, NRG_CTL.BUSY, NRG_CTL.PEND, NRG_STATUS.COPY_DISAGREE, NRG_STATUS.COPY_LOST, NRG_STATUS.TOTALS_LOST, NRG_STATUS.SAVING, NRG_STATUS.PF_ACTIVE, NRG_IRQ.RECORD, NRG_IRQ.RESTORE, NRG_IRQ.PEAK, NRG_IRQ.OC, NRG_IRQ.SAVE_FAIL, NRG_IRQ.PLS_OVF, NRG_IRQ_MASK.MASK, NRG_CFG.INTERVAL_MIN, NRG_SAVE.SAVE_S, NRG_SAVE.NOW, NRG_SAVE_SEQ.SEQ, NRG_RESTORE.SOURCE, NRG_RESTORE.RELATION, NRG_RESTORE.ROW, NRG_LOST_BOUND.BOUND, NRG_PLS.ELEMENT, NRG_PLS.LEVEL, NRG_PLS.QTY, NRG_PLS.WIDTH, NRG_PLS.EN, NRG_PLS.CONST, NRG_PLS.BACKLOG, NRG_PLS.OVF, NRG_EVT_STATE.OC, NRG_EVT_STATE.PEAK, NRG_REC_LAST.SEQ, NRG_REC_SEL.SEQ, NRG_REC_ACK.SEQ, NRG_REC.WORD, NRG.E, NRG.LEG, NRG.WRAPCNT] ++
  [NRG.DEM, NRG.INST, NRG.BRIDGED, NRG.GAP_MS, NRG.PLS_LOST, NRG.PLS_EMIT, NRG.SAVE_FAIL, NRG.SAVE_SKIP, NRG.RECORDS_LOST]

/-- Positions in use, 0–32,768; 32,768 once LOG_FULL is written (R499) (19_rtc_backup_and_event_log.md) -/
def EVR_STATUS.COUNT : Fld := { base := 0x240000, lsb := 0, width := 16, acc := .ro }
/-- R499 (19_rtc_backup_and_event_log.md) -/
def EVR_STATUS.FULL : Fld := { base := 0x240000, lsb := 16, width := 1, acc := .ro }
/-- R498 (19_rtc_backup_and_event_log.md) -/
def EVR_STATUS.FROZEN : Fld := { base := 0x240000, lsb := 17, width := 1, acc := .ro }
/-- R500 (19_rtc_backup_and_event_log.md) -/
def EVR_STATUS.CLEARING : Fld := { base := 0x240000, lsb := 18, width := 1, acc := .ro }
/-- R500 (19_rtc_backup_and_event_log.md) -/
def EVR_STATUS.CLEAR_REFUSED : Fld := { base := 0x240000, lsb := 19, width := 1, acc := .w1c }
/-- Entries in the hold queue, 0–256 (19_rtc_backup_and_event_log.md) -/
def EVR_STATUS.HOLD : Fld := { base := 0x240000, lsb := 20, width := 9, acc := .ro }
/-- EVR_FREEZE: R498; not in CRC (19_rtc_backup_and_event_log.md) -/
def EVR_FREEZE.FREEZE : Fld := { base := 0x240004, lsb := 0, width := 1, acc := .rw, crc := false }
/-- EVR_CLEAR: R500 (19_rtc_backup_and_event_log.md) -/
def EVR_CLEAR.KEY : Fld := { base := 0x240008, lsb := 0, width := 32, acc := .wo, guarded := true }
/-- EVR_CURSOR: per requester (R501); not in CRC (19_rtc_backup_and_event_log.md) -/
def EVR_CURSOR.POS : Fld := { base := 0x24000c, lsb := 0, width := 15, acc := .rw, crc := false, perReq := true }
/-- Advance after word 15; not in CRC (19_rtc_backup_and_event_log.md) -/
def EVR_CURSOR.AUTOINC : Fld := { base := 0x24000c, lsb := 31, width := 1, acc := .rw, crc := false, perReq := true }
/-- EVR_FIRST_SEQ: SEQ at position 0 (19_rtc_backup_and_event_log.md) -/
def EVR_FIRST_SEQ.SEQ : Fld := { base := 0x240010, lsb := 0, width := 64, acc := .ro }
/-- Checkpoint written (19_rtc_backup_and_event_log.md) -/
def EVR_IRQ.CKPT : Fld := { base := 0x240020, lsb := 0, width := 1, acc := .w1c }
/-- R499 (19_rtc_backup_and_event_log.md) -/
def EVR_IRQ.FULL : Fld := { base := 0x240020, lsb := 1, width := 1, acc := .w1c }
/-- R498 (19_rtc_backup_and_event_log.md) -/
def EVR_IRQ.HOLD_OVF : Fld := { base := 0x240020, lsb := 2, width := 1, acc := .w1c }
/-- R498 (19_rtc_backup_and_event_log.md) -/
def EVR_IRQ.FREEZE_TIMEOUT : Fld := { base := 0x240020, lsb := 3, width := 1, acc := .w1c }
/-- EVR_IRQ_MASK: 1 lets the matching bit raise vector 113 (19_rtc_backup_and_event_log.md) -/
def EVR_IRQ_MASK.MASK : Fld := { base := 0x240024, lsb := 0, width := 4, acc := .rw }
/-- Entry bytes 4k to 4k + 3 (R501) (19_rtc_backup_and_event_log.md) -/
def EVR_WINDOW.WORD : Fld := { base := 0x240040, lsb := 0, width := 32, acc := .ro, perReq := true, dims := [(16, 0x4)] }
/-- EVR_CKPT_SEL: 0 newest to 129; per requester; not in CRC (19_rtc_backup_and_event_log.md) -/
def EVR_CKPT_SEL.INDEX : Fld := { base := 0x240100, lsb := 0, width := 8, acc := .rw, crc := false, perReq := true }
/-- EVR_CKPT_k: checkpoint bytes 4k to 4k + 3; the read of word 0 latches (19_rtc_backup_and_event_log.md) -/
def EVR_CKPT.WORD : Fld := { base := 0x240140, lsb := 0, width := 32, acc := .ro, perReq := true, dims := [(64, 0x4)] }
/-- Records per minute; 0 means 60; no effect for c < 0x10 (R495) (19_rtc_backup_and_event_log.md) -/
def EVR_RATE.RATE : Fld := { base := 0x240800, lsb := 0, width := 16, acc := .rwl, roast := true, dims := [(256, 0x4)] }
/-- Bucket depth; 0 means 16 (19_rtc_backup_and_event_log.md) -/
def EVR_RATE.BURST : Fld := { base := 0x240800, lsb := 16, width := 8, acc := .rwl, roast := true, dims := [(256, 0x4)] }
/-- EVR_SUPP_c: suppressed count waiting for the next record of code c (19_rtc_backup_and_event_log.md) -/
def EVR_SUPP.COUNT : Fld := { base := 0x240c00, lsb := 0, width := 32, acc := .ro, dims := [(256, 0x4)] }
/-- Counter: (19_rtc_backup_and_event_log.md) -/
def EVR.ACCEPTED : Fld := { base := 0x241000, lsb := 0, width := 64, acc := .ro, counter := true }
/-- Counter: (19_rtc_backup_and_event_log.md) -/
def EVR.HOLD_OVF : Fld := { base := 0x241018, lsb := 0, width := 64, acc := .ro, counter := true }
/-- Counter: (19_rtc_backup_and_event_log.md) -/
def EVR.SUPPRESSED : Fld := { base := 0x241008, lsb := 0, width := 64, acc := .ro, counter := true }
/-- Counter: (19_rtc_backup_and_event_log.md) -/
def EVR.CHECKPOINTS : Fld := { base := 0x241020, lsb := 0, width := 64, acc := .ro, counter := true }
/-- Counter: (19_rtc_backup_and_event_log.md) -/
def EVR.DROP_FULL : Fld := { base := 0x241010, lsb := 0, width := 64, acc := .ro, counter := true }

/-- Every field of the EVR window. -/
def tableEVR : List Fld :=
  [EVR_STATUS.COUNT, EVR_STATUS.FULL, EVR_STATUS.FROZEN, EVR_STATUS.CLEARING, EVR_STATUS.CLEAR_REFUSED, EVR_STATUS.HOLD, EVR_FREEZE.FREEZE, EVR_CLEAR.KEY, EVR_CURSOR.POS, EVR_CURSOR.AUTOINC, EVR_FIRST_SEQ.SEQ, EVR_IRQ.CKPT, EVR_IRQ.FULL, EVR_IRQ.HOLD_OVF, EVR_IRQ.FREEZE_TIMEOUT, EVR_IRQ_MASK.MASK, EVR_WINDOW.WORD, EVR_CKPT_SEL.INDEX, EVR_CKPT.WORD, EVR_RATE.RATE, EVR_RATE.BURST, EVR_SUPP.COUNT, EVR.ACCEPTED, EVR.HOLD_OVF, EVR.SUPPRESSED, EVR.CHECKPOINTS, EVR.DROP_FULL]

/-- RTC_SEC: 1/32,768 s; the read latches (R487) (19_rtc_backup_and_event_log.md) -/
def RTC_SEC.SUBSEC : Fld := { base := 0x260000, lsb := 0, width := 15, acc := .ro, dom := .bkp, perReq := true }
/-- 0–59 (19_rtc_backup_and_event_log.md) -/
def RTC_SEC.SEC : Fld := { base := 0x260000, lsb := 16, width := 6, acc := .ro, dom := .bkp, perReq := true }
/-- RTC_TIME: latched, 0–59 (19_rtc_backup_and_event_log.md) -/
def RTC_TIME.MIN : Fld := { base := 0x260004, lsb := 0, width := 6, acc := .ro, dom := .bkp, perReq := true }
/-- 0–23 (19_rtc_backup_and_event_log.md) -/
def RTC_TIME.HOUR : Fld := { base := 0x260004, lsb := 8, width := 5, acc := .ro, dom := .bkp, perReq := true }
/-- RTC_DATE: latched, 1–31 (19_rtc_backup_and_event_log.md) -/
def RTC_DATE.DAY : Fld := { base := 0x260008, lsb := 0, width := 5, acc := .ro, dom := .bkp, perReq := true }
/-- 1–12 (19_rtc_backup_and_event_log.md) -/
def RTC_DATE.MONTH : Fld := { base := 0x260008, lsb := 8, width := 4, acc := .ro, dom := .bkp, perReq := true }
/-- 1 Monday to 7 Sunday (19_rtc_backup_and_event_log.md) -/
def RTC_DATE.WEEKDAY : Fld := { base := 0x260008, lsb := 12, width := 3, acc := .ro, dom := .bkp, perReq := true }
/-- Year − 2000, 0–399 (19_rtc_backup_and_event_log.md) -/
def RTC_DATE.YEAR : Fld := { base := 0x260008, lsb := 16, width := 9, acc := .ro, dom := .bkp, perReq := true }
/-- R488; not in CRC (19_rtc_backup_and_event_log.md) -/
def RTC_CTL.HOLD : Fld := { base := 0x260010, lsb := 0, width := 1, acc := .rw, guarded := true, dom := .bkp, crc := false }
/-- R490 (19_rtc_backup_and_event_log.md) -/
def RTC_CTL.AUTO_SYNC : Fld := { base := 0x260010, lsb := 1, width := 1, acc := .rw, guarded := true, dom := .bkp }
/-- R491 (19_rtc_backup_and_event_log.md) -/
def RTC_CTL.ALARM_EN : Fld := { base := 0x260010, lsb := 2, width := 1, acc := .rw, guarded := true, dom := .bkp }
/-- R492 (19_rtc_backup_and_event_log.md) -/
def RTC_CTL.WAKE_EN : Fld := { base := 0x260010, lsb := 3, width := 1, acc := .rw, guarded := true, dom := .bkp }
/-- 1–1,440 min; 0 reads as 60 (19_rtc_backup_and_event_log.md) -/
def RTC_CTL.SYNC_MIN : Fld := { base := 0x260010, lsb := 4, width := 12, acc := .rw, guarded := true, dom := .bkp }
/-- RTC_STATUS: R478, R482, R489 (19_rtc_backup_and_event_log.md) -/
def RTC_STATUS.OSF : Fld := { base := 0x260014, lsb := 0, width := 1, acc := .w1c, guarded := true, dom := .bkp }
/-- R488 (19_rtc_backup_and_event_log.md) -/
def RTC_STATUS.DATE_INVALID : Fld := { base := 0x260014, lsb := 1, width := 1, acc := .ro, dom := .bkp }
/-- R491 (19_rtc_backup_and_event_log.md) -/
def RTC_STATUS.ALARM : Fld := { base := 0x260014, lsb := 2, width := 1, acc := .w1c, dom := .bkp }
/-- R486 (19_rtc_backup_and_event_log.md) -/
def RTC_STATUS.RANGE_END : Fld := { base := 0x260014, lsb := 3, width := 1, acc := .ro, dom := .bkp }
/-- A transfer or sync since OSF was set (19_rtc_backup_and_event_log.md) -/
def RTC_STATUS.SET_SINCE_OSF : Fld := { base := 0x260014, lsb := 4, width := 1, acc := .ro, dom := .bkp }
/-- RTC_HOLD_ELAPSED: 1/32,768 s; saturates (19_rtc_backup_and_event_log.md) -/
def RTC_HOLD_ELAPSED.TICKS : Fld := { base := 0x260018, lsb := 0, width := 32, acc := .ro, dom := .bkp }
/-- RTC_SYNC_DIFF: signed ticks, calendar minus UTC (19_rtc_backup_and_event_log.md) -/
def RTC_SYNC_DIFF.DIFF : Fld := { base := 0x26001c, lsb := 0, width := 32, acc := .ro, dom := .bkp }
/-- staging; not in CRC (19_rtc_backup_and_event_log.md) -/
def RTC_STG_0.SEC : Fld := { base := 0x260020, lsb := 0, width := 6, acc := .rw, guarded := true, dom := .bkp, crc := false }
/-- RTC_STG_0 and RTC_ALARM_0 (19_rtc_backup_and_event_log.md) -/
def RTC_ALARM_0.SEC : Fld := { base := 0x260028, lsb := 0, width := 6, acc := .rw, guarded := true, dom := .bkp }
/-- staging; not in CRC (19_rtc_backup_and_event_log.md) -/
def RTC_STG_0.MIN : Fld := { base := 0x260020, lsb := 8, width := 6, acc := .rw, guarded := true, dom := .bkp, crc := false }
/-- — (19_rtc_backup_and_event_log.md) -/
def RTC_ALARM_0.MIN : Fld := { base := 0x260028, lsb := 8, width := 6, acc := .rw, guarded := true, dom := .bkp }
/-- staging; not in CRC (19_rtc_backup_and_event_log.md) -/
def RTC_STG_0.HOUR : Fld := { base := 0x260020, lsb := 16, width := 5, acc := .rw, guarded := true, dom := .bkp, crc := false }
/-- — (19_rtc_backup_and_event_log.md) -/
def RTC_ALARM_0.HOUR : Fld := { base := 0x260028, lsb := 16, width := 5, acc := .rw, guarded := true, dom := .bkp }
/-- staging; not in CRC (19_rtc_backup_and_event_log.md) -/
def RTC_STG_1.DAY : Fld := { base := 0x260024, lsb := 0, width := 5, acc := .rw, guarded := true, dom := .bkp, crc := false }
/-- RTC_STG_1 and RTC_ALARM_1 (19_rtc_backup_and_event_log.md) -/
def RTC_ALARM_1.DAY : Fld := { base := 0x26002c, lsb := 0, width := 5, acc := .rw, guarded := true, dom := .bkp }
/-- staging; not in CRC (19_rtc_backup_and_event_log.md) -/
def RTC_STG_1.MONTH : Fld := { base := 0x260024, lsb := 8, width := 4, acc := .rw, guarded := true, dom := .bkp, crc := false }
/-- — (19_rtc_backup_and_event_log.md) -/
def RTC_ALARM_1.MONTH : Fld := { base := 0x26002c, lsb := 8, width := 4, acc := .rw, guarded := true, dom := .bkp }
/-- staging; not in CRC (19_rtc_backup_and_event_log.md) -/
def RTC_STG_1.YEAR : Fld := { base := 0x260024, lsb := 16, width := 9, acc := .rw, guarded := true, dom := .bkp, crc := false }
/-- Year − 2000 (19_rtc_backup_and_event_log.md) -/
def RTC_ALARM_1.YEAR : Fld := { base := 0x26002c, lsb := 16, width := 9, acc := .rw, guarded := true, dom := .bkp }
/-- R491 (19_rtc_backup_and_event_log.md) -/
def RTC_IRQ.ALARM : Fld := { base := 0x260030, lsb := 0, width := 1, acc := .w1c }
/-- R482 (19_rtc_backup_and_event_log.md) -/
def RTC_IRQ.OSF : Fld := { base := 0x260030, lsb := 1, width := 1, acc := .w1c }
/-- VBAT below 2.0 V at a measurement (19_rtc_backup_and_event_log.md) -/
def RTC_IRQ.VBAT_LOW : Fld := { base := 0x260030, lsb := 2, width := 1, acc := .w1c }
/-- Automatic sync done (R490) (19_rtc_backup_and_event_log.md) -/
def RTC_IRQ.SYNC : Fld := { base := 0x260030, lsb := 3, width := 1, acc := .w1c }
/-- R488 (19_rtc_backup_and_event_log.md) -/
def RTC_IRQ.DATE_INVALID : Fld := { base := 0x260030, lsb := 4, width := 1, acc := .w1c }
/-- RTC_IRQ_MASK: 1 lets the matching bit raise vector 112 (19_rtc_backup_and_event_log.md) -/
def RTC_IRQ_MASK.MASK : Fld := { base := 0x260034, lsb := 0, width := 5, acc := .rw }
/-- VBAT at or above 1.65 V (R476) (19_rtc_backup_and_event_log.md) -/
def BKP_STATUS.VBAT_OK : Fld := { base := 0x264000, lsb := 0, width := 1, acc := .ro }
/-- VBAT below 2.0 V (19_rtc_backup_and_event_log.md) -/
def BKP_STATUS.VBAT_LOW : Fld := { base := 0x264000, lsb := 1, width := 1, acc := .ro }
/-- Charger running (19_rtc_backup_and_event_log.md) -/
def BKP_STATUS.CHG_ON : Fld := { base := 0x264000, lsb := 2, width := 1, acc := .ro, dom := .bkp }
/-- R481 (19_rtc_backup_and_event_log.md) -/
def BKP_STATUS.CHG_REFUSED : Fld := { base := 0x264000, lsb := 3, width := 1, acc := .w1c }
/-- R478 (19_rtc_backup_and_event_log.md) -/
def BKP_STATUS.FIRST_POWER : Fld := { base := 0x264000, lsb := 4, width := 1, acc := .w1c, dom := .bkp }
/-- BKP_VBAT: VBAT in mV, measured every 32 s while main power is present (19_rtc_backup_and_event_log.md) -/
def BKP_VBAT.MV : Fld := { base := 0x264004, lsb := 0, width := 12, acc := .ro }
/-- BKP_CHG: 0 2.5 V, 1 3.0 V, 2 3.3 V (19_rtc_backup_and_event_log.md) -/
def BKP_CHG.TARGET : Fld := { base := 0x264008, lsb := 0, width := 2, acc := .rw, guarded := true, dom := .bkp }
/-- 0 0.5 kΩ, 1 2 kΩ, 2 5 kΩ (19_rtc_backup_and_event_log.md) -/
def BKP_CHG.RES : Fld := { base := 0x264008, lsb := 2, width := 2, acc := .rw, guarded := true, dom := .bkp }
/-- Series diode in (19_rtc_backup_and_event_log.md) -/
def BKP_CHG.DIODE : Fld := { base := 0x264008, lsb := 4, width := 1, acc := .rw, guarded := true, dom := .bkp }
/-- R481 (19_rtc_backup_and_event_log.md) -/
def BKP_CHG.CELL : Fld := { base := 0x264008, lsb := 5, width := 3, acc := .rw, guarded := true, dom := .bkp }
/-- Charger enable (R481) (19_rtc_backup_and_event_log.md) -/
def BKP_CHG.EN : Fld := { base := 0x264008, lsb := 8, width := 1, acc := .rw, guarded := true, dom := .bkp }
/-- 0xC5 (19_rtc_backup_and_event_log.md) -/
def BKP_CHG.KEY : Fld := { base := 0x264008, lsb := 24, width := 8, acc := .wo, guarded := true }
/-- BKP_TEMP: signed, 1/16 °C (19_rtc_backup_and_event_log.md) -/
def BKP_TEMP.TEMP : Fld := { base := 0x26400c, lsb := 0, width := 16, acc := .ro, dom := .bkp }
/-- Signed c in 2^-6 ppm (R483) (19_rtc_backup_and_event_log.md) -/
def BKP_TEMP.CORR : Fld := { base := 0x26400c, lsb := 16, width := 16, acc := .ro, dom := .bkp }
/-- Temperature compensation (R484) (19_rtc_backup_and_event_log.md) -/
def BKP_TCOMP_CTL.EN : Fld := { base := 0x264010, lsb := 0, width := 1, acc := .rw, guarded := true, dom := .bkp }
/-- Curve calibrated; informative (19_rtc_backup_and_event_log.md) -/
def BKP_TCOMP_CTL.CAL : Fld := { base := 0x264010, lsb := 1, width := 1, acc := .rw, guarded := true, dom := .bkp }
/-- Write the curve to the NVS (R485); clears when done (19_rtc_backup_and_event_log.md) -/
def BKP_TCOMP_CTL.SAVE : Fld := { base := 0x264010, lsb := 2, width := 1, acc := .w1s, guarded := true }
/-- BKP_PWR: R492 (19_rtc_backup_and_event_log.md) -/
def BKP_PWR.KEY : Fld := { base := 0x264014, lsb := 0, width := 32, acc := .wo, guarded := true }
/-- BKP_TCOMP_k: signed, 2^-6 ppm at −45 °C + 5k °C; not in CRC (19_rtc_backup_and_event_log.md) -/
def BKP_TCOMP.POINT : Fld := { base := 0x264040, lsb := 0, width := 16, acc := .rw, guarded := true, dom := .bkp, crc := false, dims := [(32, 0x4)] }
/-- BKP_SCRATCH_k: host use; not in CRC (19_rtc_backup_and_event_log.md) -/
def BKP_SCRATCH.DATA : Fld := { base := 0x264100, lsb := 0, width := 32, acc := .rw, dom := .bkp, crc := false, dims := [(8, 0x4)] }

/-- Every field of the RTC window. -/
def tableRTC : List Fld :=
  [RTC_SEC.SUBSEC, RTC_SEC.SEC, RTC_TIME.MIN, RTC_TIME.HOUR, RTC_DATE.DAY, RTC_DATE.MONTH, RTC_DATE.WEEKDAY, RTC_DATE.YEAR, RTC_CTL.HOLD, RTC_CTL.AUTO_SYNC, RTC_CTL.ALARM_EN, RTC_CTL.WAKE_EN, RTC_CTL.SYNC_MIN, RTC_STATUS.OSF, RTC_STATUS.DATE_INVALID, RTC_STATUS.ALARM, RTC_STATUS.RANGE_END, RTC_STATUS.SET_SINCE_OSF, RTC_HOLD_ELAPSED.TICKS, RTC_SYNC_DIFF.DIFF, RTC_STG_0.SEC, RTC_ALARM_0.SEC, RTC_STG_0.MIN, RTC_ALARM_0.MIN, RTC_STG_0.HOUR, RTC_ALARM_0.HOUR, RTC_STG_1.DAY, RTC_ALARM_1.DAY, RTC_STG_1.MONTH, RTC_ALARM_1.MONTH, RTC_STG_1.YEAR, RTC_ALARM_1.YEAR, RTC_IRQ.ALARM, RTC_IRQ.OSF, RTC_IRQ.VBAT_LOW, RTC_IRQ.SYNC, RTC_IRQ.DATE_INVALID, RTC_IRQ_MASK.MASK, BKP_STATUS.VBAT_OK, BKP_STATUS.VBAT_LOW] ++
  [BKP_STATUS.CHG_ON, BKP_STATUS.CHG_REFUSED, BKP_STATUS.FIRST_POWER, BKP_VBAT.MV, BKP_CHG.TARGET, BKP_CHG.RES, BKP_CHG.DIODE, BKP_CHG.CELL, BKP_CHG.EN, BKP_CHG.KEY, BKP_TEMP.TEMP, BKP_TEMP.CORR, BKP_TCOMP_CTL.EN, BKP_TCOMP_CTL.CAL, BKP_TCOMP_CTL.SAVE, BKP_PWR.KEY, BKP_TCOMP.POINT, BKP_SCRATCH.DATA]

/-- Originating enable under R106; shutdown finishes the message in progress and passes the to (20_board_cascade.md) -/
def CAS_CTL.EN : Fld := { base := 0x280000, lsb := 0, width := 1, acc := .rw }
/-- Running or shutting down (20_board_cascade.md) -/
def CAS_CTL.BUSY : Fld := { base := 0x280000, lsb := 1, width := 1, acc := .ro }
/-- Re-enable pending (20_board_cascade.md) -/
def CAS_CTL.PEND : Fld := { base := 0x280000, lsb := 2, width := 1, acc := .ro }
/-- CAS_STATUS: cascade ID (R504) (20_board_cascade.md) -/
def CAS_STATUS.ID : Fld := { base := 0x280004, lsb := 0, width := 3, acc := .ro }
/-- R510 (20_board_cascade.md) -/
def CAS_STATUS.WRAP_E : Fld := { base := 0x280004, lsb := 3, width := 1, acc := .ro }
/-- R510 (20_board_cascade.md) -/
def CAS_STATUS.WRAP_W : Fld := { base := 0x280004, lsb := 4, width := 1, acc := .ro }
/-- R505 (20_board_cascade.md) -/
def CAS_STATUS.DUP_ID : Fld := { base := 0x280004, lsb := 5, width := 1, acc := .ro }
/-- R519 (20_board_cascade.md) -/
def CAS_STATUS.PPS_DEV : Fld := { base := 0x280004, lsb := 6, width := 1, acc := .ro }
/-- L, 0 when down (R506) (20_board_cascade.md) -/
def CAS_STATUS.LANES_E : Fld := { base := 0x280004, lsb := 8, width := 3, acc := .ro }
/-- As LANES_E (20_board_cascade.md) -/
def CAS_STATUS.LANES_W : Fld := { base := 0x280004, lsb := 12, width := 3, acc := .ro }
/-- CAS_PEER: bit p, peer present (R516) (20_board_cascade.md) -/
def CAS_PEER.PRESENT : Fld := { base := 0x280008, lsb := 0, width := 8, acc := .ro }
/-- Bit 8 + p (20_board_cascade.md) -/
def CAS_PEER.FAILED : Fld := { base := 0x280008, lsb := 8, width := 8, acc := .ro }
/-- Bit 16 + p (20_board_cascade.md) -/
def CAS_PEER.BACK : Fld := { base := 0x280008, lsb := 16, width := 8, acc := .w1c }
/-- Bit 24 + p (R518) (20_board_cascade.md) -/
def CAS_PEER.TAKEN : Fld := { base := 0x280008, lsb := 24, width := 8, acc := .ro }
/-- Bit p: take over peer p (R517) (20_board_cascade.md) -/
def CAS_TKO_CTL.TAKE : Fld := { base := 0x280010, lsb := 0, width := 8, acc := .wo, guarded := true }
/-- Bit 8 + p: clear TAKEN (R518) (20_board_cascade.md) -/
def CAS_TKO_CTL.RELEASE : Fld := { base := 0x280010, lsb := 8, width := 8, acc := .wo, guarded := true }
/-- CAS_TKO_SLICE: m of the latest takeover (20_board_cascade.md) -/
def CAS_TKO_SLICE.SLICE : Fld := { base := 0x280018, lsb := 0, width := 64, acc := .ro }
/-- R510 (20_board_cascade.md) -/
def CAS_IRQ.WRAP : Fld := { base := 0x280020, lsb := 0, width := 1, acc := .w1c }
/-- R507 (20_board_cascade.md) -/
def CAS_IRQ.LANES : Fld := { base := 0x280020, lsb := 1, width := 1, acc := .w1c }
/-- R516 (20_board_cascade.md) -/
def CAS_IRQ.PEER : Fld := { base := 0x280020, lsb := 2, width := 1, acc := .w1c }
/-- R505 (20_board_cascade.md) -/
def CAS_IRQ.DUP_ID : Fld := { base := 0x280020, lsb := 3, width := 1, acc := .w1c }
/-- R519 (20_board_cascade.md) -/
def CAS_IRQ.PPS : Fld := { base := 0x280020, lsb := 4, width := 1, acc := .w1c }
/-- CAS_IRQ_MASK: 1 lets the matching bit raise vector 120 (20_board_cascade.md) -/
def CAS_IRQ_MASK.MASK : Fld := { base := 0x280024, lsb := 0, width := 5, acc := .rw }
/-- Signed, 2^-16 ns (R520) (20_board_cascade.md) -/
def CAS_PPS_SKEW.SKEW : Fld := { base := 0x280030, lsb := 0, width := 32, acc := .rwl, roast := true }
/-- Signed ns, saturating (R519) (20_board_cascade.md) -/
def CAS_PPS_OFS.OFS : Fld := { base := 0x280034, lsb := 0, width := 32, acc := .ro }
/-- CAS_LINK_E, CAS_LINK_W: one-way delay in ns; 0 while down (20_board_cascade.md) -/
def CAS_LINK_E.NS : Fld := { base := 0x280038, lsb := 0, width := 32, acc := .ro }
/-- CAS_LINK_E, CAS_LINK_W: one-way delay in ns; 0 while down (20_board_cascade.md) -/
def CAS_LINK_W.NS : Fld := { base := 0x28003c, lsb := 0, width := 32, acc := .ro }
/-- Counter: (20_board_cascade.md) -/
def CAS.SHARE_TX : Fld := { base := 0x281000, lsb := 0, width := 64, acc := .ro, counter := true }
/-- Counter: (20_board_cascade.md) -/
def CAS.SEQ_GAP : Fld := { base := 0x281020, lsb := 0, width := 64, acc := .ro, counter := true }
/-- Counter: (20_board_cascade.md) -/
def CAS.SHARE_RX : Fld := { base := 0x281008, lsb := 0, width := 64, acc := .ro, counter := true }
/-- Counter: (20_board_cascade.md) -/
def CAS.WRAPS : Fld := { base := 0x281028, lsb := 0, width := 64, acc := .ro, counter := true }
/-- Counter: (20_board_cascade.md) -/
def CAS.SHARE_DROP : Fld := { base := 0x281010, lsb := 0, width := 64, acc := .ro, counter := true }
/-- Counter: (20_board_cascade.md) -/
def CAS.TOKEN_REGEN : Fld := { base := 0x281030, lsb := 0, width := 64, acc := .ro, counter := true }
/-- Counter: (20_board_cascade.md) -/
def CAS.MSG_BAD : Fld := { base := 0x281018, lsb := 0, width := 64, acc := .ro, counter := true }
/-- Counter: (20_board_cascade.md) -/
def CAS.PPS_MISS : Fld := { base := 0x281038, lsb := 0, width := 64, acc := .ro, counter := true }

/-- Every field of the CAS window. -/
def tableCAS : List Fld :=
  [CAS_CTL.EN, CAS_CTL.BUSY, CAS_CTL.PEND, CAS_STATUS.ID, CAS_STATUS.WRAP_E, CAS_STATUS.WRAP_W, CAS_STATUS.DUP_ID, CAS_STATUS.PPS_DEV, CAS_STATUS.LANES_E, CAS_STATUS.LANES_W, CAS_PEER.PRESENT, CAS_PEER.FAILED, CAS_PEER.BACK, CAS_PEER.TAKEN, CAS_TKO_CTL.TAKE, CAS_TKO_CTL.RELEASE, CAS_TKO_SLICE.SLICE, CAS_IRQ.WRAP, CAS_IRQ.LANES, CAS_IRQ.PEER, CAS_IRQ.DUP_ID, CAS_IRQ.PPS, CAS_IRQ_MASK.MASK, CAS_PPS_SKEW.SKEW, CAS_PPS_OFS.OFS, CAS_LINK_E.NS, CAS_LINK_W.NS, CAS.SHARE_TX, CAS.SEQ_GAP, CAS.SHARE_RX, CAS.WRAPS, CAS.SHARE_DROP, CAS.TOKEN_REGEN, CAS.MSG_BAD, CAS.PPS_MISS]

/-- Remap entries in use, 0–4,096 (21_pace_spares_and_service.md) -/
def CRF_STATUS.REMAP_USED : Fld := { base := 0x2a0000, lsb := 0, width := 13, acc := .ro }
/-- R536 (21_pace_spares_and_service.md) -/
def CRF_STATUS.REMAP_FULL : Fld := { base := 0x2a0000, lsb := 13, width := 1, acc := .ro }
/-- Remapped rows awaiting step 5 (21_pace_spares_and_service.md) -/
def CRF_STATUS.PPR_PENDING : Fld := { base := 0x2a0000, lsb := 14, width := 1, acc := .ro }
/-- CRF_IRQ: a row was remapped (21_pace_spares_and_service.md) -/
def CRF_IRQ.REMAP : Fld := { base := 0x2a0010, lsb := 0, width := 1, acc := .w1c }
/-- Uncorrectable read (R536) (21_pace_spares_and_service.md) -/
def CRF_IRQ.UE : Fld := { base := 0x2a0010, lsb := 1, width := 1, acc := .w1c }
/-- CRF_IRQ_MASK: 1 lets the matching bit raise vector 3 (21_pace_spares_and_service.md) -/
def CRF_IRQ_MASK.MASK : Fld := { base := 0x2a0014, lsb := 0, width := 2, acc := .rw }
/-- Counter: (21_pace_spares_and_service.md) -/
def CRF.CE : Fld := { base := 0x2a1000, lsb := 0, width := 64, acc := .ro, counter := true }
/-- Counter: (21_pace_spares_and_service.md) -/
def CRF.UE : Fld := { base := 0x2a1008, lsb := 0, width := 64, acc := .ro, counter := true }
/-- Counter: (21_pace_spares_and_service.md) -/
def CRF.REMAPS : Fld := { base := 0x2a1010, lsb := 0, width := 64, acc := .ro, counter := true }
/-- Counter: (21_pace_spares_and_service.md) -/
def CRF.PPR_DONE : Fld := { base := 0x2a1018, lsb := 0, width := 64, acc := .ro, counter := true }

/-- Every field of the CRF window. -/
def tableCRF : List Fld :=
  [CRF_STATUS.REMAP_USED, CRF_STATUS.REMAP_FULL, CRF_STATUS.PPR_PENDING, CRF_IRQ.REMAP, CRF_IRQ.UE, CRF_IRQ_MASK.MASK, CRF.CE, CRF.UE, CRF.REMAPS, CRF.PPR_DONE]

end Sys2Proof.Machine.Reg
end

