-- ==== Sys2Proof/Machine/RegMapSlices.lean ====
section
/-! DEFINITION. The register fields of the blocks ALN, LSE, OSC, ISL, ALM, from the register tables of spec/ (each docstring names its file and gives the start of the table's Meaning). A field is written BLOCK_REGISTER.FIELD as R8 writes it; index letters of arrays are left out. The counters of a block stand under the block's own name. -/

namespace Sys2Proof.Machine.Reg

/-- Aligner enable under R106 and R276 (10_slice_alignment.md) -/
def ALN_CTL.EN : Fld := { base := 0x160000, lsb := 0, width := 1, acc := .rw }
/-- Running or shutting down (10_slice_alignment.md) -/
def ALN_CTL.BUSY : Fld := { base := 0x160000, lsb := 1, width := 1, acc := .ro }
/-- Re-enable pending (10_slice_alignment.md) -/
def ALN_CTL.PEND : Fld := { base := 0x160000, lsb := 2, width := 1, acc := .ro }
/-- ALN_STATUS: slices holding buffers, 0–512 (10_slice_alignment.md) -/
def ALN_STATUS.OPEN : Fld := { base := 0x160004, lsb := 0, width := 10, acc := .ro }
/-- Closed slices waiting for a stage, 0–4 (R27) (10_slice_alignment.md) -/
def ALN_STATUS.QUEUE : Fld := { base := 0x160004, lsb := 10, width := 3, acc := .ro }
/-- Revision passes shed (R284) (10_slice_alignment.md) -/
def ALN_STATUS.SHED_REV : Fld := { base := 0x160004, lsb := 13, width := 1, acc := .ro }
/-- N_next; one 64-bit access (10_slice_alignment.md) -/
def ALN_NEXT_CLOSE.SLICE : Fld := { base := 0x160008, lsb := 0, width := 64, acc := .ro }
/-- Index of the slice closed last (10_slice_alignment.md) -/
def ALN_LAST_CLOSE.SLICE : Fld := { base := 0x160010, lsb := 0, width := 64, acc := .ro }
/-- W, 0 ms to 2,000 ms; larger values store 2,000 (10_slice_alignment.md) -/
def ALN_REV_WINDOW.MS : Fld := { base := 0x160018, lsb := 0, width := 11, acc := .rwl, roast := true }
/-- ALN_JOURNAL: entries held, 0–8,388,608 (10_slice_alignment.md) -/
def ALN_JOURNAL.OCC : Fld := { base := 0x16001c, lsb := 0, width := 24, acc := .ro }
/-- A revision was applied (R285) (10_slice_alignment.md) -/
def ALN_IRQ.REVISED : Fld := { base := 0x160020, lsb := 0, width := 1, acc := .w1c }
/-- R266 (10_slice_alignment.md) -/
def ALN_IRQ.JOURNAL_FULL : Fld := { base := 0x160020, lsb := 1, width := 1, acc := .w1c }
/-- R266 (10_slice_alignment.md) -/
def ALN_IRQ.FUTURE : Fld := { base := 0x160020, lsb := 2, width := 1, acc := .w1c }
/-- R287 (10_slice_alignment.md) -/
def ALN_IRQ.STEP_SKIP : Fld := { base := 0x160020, lsb := 3, width := 1, acc := .w1c }
/-- R294 (10_slice_alignment.md) -/
def ALN_IRQ.HOST : Fld := { base := 0x160020, lsb := 4, width := 1, acc := .w1c }
/-- R294 (10_slice_alignment.md) -/
def ALN_IRQ.HOST_MISS : Fld := { base := 0x160020, lsb := 5, width := 1, acc := .w1c }
/-- ALN_IRQ_MASK: 1 lets the matching bit raise its vector (10_slice_alignment.md) -/
def ALN_IRQ_MASK.MASK : Fld := { base := 0x160024, lsb := 0, width := 6, acc := .rw }
/-- ALN_OFFGRID_LAST: last off-grid stream (10_slice_alignment.md) -/
def ALN_OFFGRID_LAST.STREAM : Fld := { base := 0x160028, lsb := 0, width := 13, acc := .ro }
/-- ALN_OFFGRID_LAST: STREAM is valid (10_slice_alignment.md) -/
def ALN_OFFGRID_LAST.VALID : Fld := { base := 0x160028, lsb := 31, width := 1, acc := .ro }
/-- Close budget of class k in µs, 0–250,000; larger values store 250,000 (R274) (10_slice_alignment.md) -/
def ALN_CLOSE_CFG.BUDGET : Fld := { base := 0x160040, lsb := 0, width := 20, acc := .rwt, guarded := true, roast := true, dims := [(16, 0x4)] }
/-- Bit b: stream 32j + b required (R270, R274) (10_slice_alignment.md) -/
def ALN_REQ.REQ : Fld := { base := 0x160100, lsb := 0, width := 32, acc := .rwt, guarded := true, roast := true, dims := [(256, 0x4)] }
/-- Output stream enabled; a committed value governs slice m of R112 and every later slice, as (10_slice_alignment.md) -/
def ALN_OSTREAM.EN : Fld := { base := 0x160600, lsb := 0, width := 1, acc := .rwt, guarded := true, roast := true, dims := [(16, 0x10)] }
/-- Items posted and not yet released, 0–256 (10_slice_alignment.md) -/
def ALN_OSTREAM.ITEMS : Fld := { base := 0x160604, lsb := 0, width := 9, acc := .ro, dims := [(16, 0x10)] }
/-- Ring address, 4 KiB aligned; not in CRC; ignored while BUSY = 1 (10_slice_alignment.md) -/
def ALN_HOST_RING.BASE : Fld := { base := 0x160700, lsb := 0, width := 64, acc := .rw, crc := false }
/-- ALN_HOST_RING_CFG: ring enable under R106; shutdown completes the delivery in progress (10_slice_alignment.md) -/
def ALN_HOST_RING.EN : Fld := { base := 0x160708, lsb := 0, width := 1, acc := .rw }
/-- Ring running or shutting down (10_slice_alignment.md) -/
def ALN_HOST_RING.BUSY : Fld := { base := 0x160708, lsb := 1, width := 1, acc := .ro }
/-- Re-enable pending (10_slice_alignment.md) -/
def ALN_HOST_RING.PEND : Fld := { base := 0x160708, lsb := 2, width := 1, acc := .ro }
/-- 2–10; not in CRC; ignored while BUSY = 1 (10_slice_alignment.md) -/
def ALN_HOST_RING.SIZE_LOG2 : Fld := { base := 0x160708, lsb := 4, width := 4, acc := .rw, rst := 0x2, crc := false }
/-- 0 full, 1 header only (10_slice_alignment.md) -/
def ALN_HOST_RING.MODE : Fld := { base := 0x160708, lsb := 8, width := 1, acc := .rw }
/-- R294 (10_slice_alignment.md) -/
def ALN_HOST_RING.REDELIVER : Fld := { base := 0x160708, lsb := 9, width := 1, acc := .rw }
/-- Event holdoff in µs (10_slice_alignment.md) -/
def ALN_HOST_RING.HOLDOFF : Fld := { base := 0x160708, lsb := 16, width := 10, acc := .rw }
/-- Next descriptor the device uses (10_slice_alignment.md) -/
def ALN_HOST_RING.HEAD : Fld := { base := 0x160710, lsb := 0, width := 10, acc := .ro }
/-- One past the last posted descriptor; not in CRC (10_slice_alignment.md) -/
def ALN_HOST_RING.TAIL : Fld := { base := 0x160714, lsb := 0, width := 10, acc := .rw, crc := false }
/-- Counter: (10_slice_alignment.md) -/
def ALN.WRITES : Fld := { base := 0x161000, lsb := 0, width := 64, acc := .ro, counter := true }
/-- Counter: (10_slice_alignment.md) -/
def ALN.CLOSE_PRESENT : Fld := { base := 0x161040, lsb := 0, width := 64, acc := .ro, counter := true }
/-- Counter: (10_slice_alignment.md) -/
def ALN.DUPLICATE : Fld := { base := 0x161008, lsb := 0, width := 64, acc := .ro, counter := true }
/-- Counter: (10_slice_alignment.md) -/
def ALN.CLOSE_DEADLINE : Fld := { base := 0x161048, lsb := 0, width := 64, acc := .ro, counter := true }
/-- Counter: (10_slice_alignment.md) -/
def ALN.FUTURE : Fld := { base := 0x161010, lsb := 0, width := 64, acc := .ro, counter := true }
/-- Counter: (10_slice_alignment.md) -/
def ALN.CLOSE_OTHER : Fld := { base := 0x161050, lsb := 0, width := 64, acc := .ro, counter := true }
/-- Counter: (10_slice_alignment.md) -/
def ALN.TOO_OLD : Fld := { base := 0x161018, lsb := 0, width := 64, acc := .ro, counter := true }
/-- Counter: (10_slice_alignment.md) -/
def ALN.HOST_MISS : Fld := { base := 0x161058, lsb := 0, width := 64, acc := .ro, counter := true }
/-- Counter: (10_slice_alignment.md) -/
def ALN.OFF_GRID : Fld := { base := 0x161020, lsb := 0, width := 64, acc := .ro, counter := true }
/-- Counter: (10_slice_alignment.md) -/
def ALN.SUBST : Fld := { base := 0x161060, lsb := 0, width := 64, acc := .ro, counter := true }
/-- Counter: (10_slice_alignment.md) -/
def ALN.OFF_RATE : Fld := { base := 0x161028, lsb := 0, width := 64, acc := .ro, counter := true }
/-- Counter: (10_slice_alignment.md) -/
def ALN.UNSUBST : Fld := { base := 0x161068, lsb := 0, width := 64, acc := .ro, counter := true }
/-- Counter: (10_slice_alignment.md) -/
def ALN.REV_ACCEPTED : Fld := { base := 0x161030, lsb := 0, width := 64, acc := .ro, counter := true }
/-- Counter: (10_slice_alignment.md) -/
def ALN.CLASS_LATE : Fld := { base := 0x161080, lsb := 0, width := 64, acc := .ro, counter := true, dims := [(16, 0x8)] }
/-- Counter: (10_slice_alignment.md) -/
def ALN.JOURNAL_FULL : Fld := { base := 0x161038, lsb := 0, width := 64, acc := .ro, counter := true }
/-- Counter: (10_slice_alignment.md) -/
def ALN.OUT_SENT : Fld := { base := 0x161100, lsb := 0, width := 64, acc := .ro, counter := true, dims := [(16, 0x10)] }
/-- Counter: (10_slice_alignment.md) -/
def ALN.OUT_DROP : Fld := { base := 0x161108, lsb := 0, width := 64, acc := .ro, counter := true, dims := [(16, 0x10)] }

/-- Every field of the ALN window. -/
def tableALN : List Fld :=
  [ALN_CTL.EN, ALN_CTL.BUSY, ALN_CTL.PEND, ALN_STATUS.OPEN, ALN_STATUS.QUEUE, ALN_STATUS.SHED_REV, ALN_NEXT_CLOSE.SLICE, ALN_LAST_CLOSE.SLICE, ALN_REV_WINDOW.MS, ALN_JOURNAL.OCC, ALN_IRQ.REVISED, ALN_IRQ.JOURNAL_FULL, ALN_IRQ.FUTURE, ALN_IRQ.STEP_SKIP, ALN_IRQ.HOST, ALN_IRQ.HOST_MISS, ALN_IRQ_MASK.MASK, ALN_OFFGRID_LAST.STREAM, ALN_OFFGRID_LAST.VALID, ALN_CLOSE_CFG.BUDGET, ALN_REQ.REQ, ALN_OSTREAM.EN, ALN_OSTREAM.ITEMS, ALN_HOST_RING.BASE, ALN_HOST_RING.EN, ALN_HOST_RING.BUSY, ALN_HOST_RING.PEND, ALN_HOST_RING.SIZE_LOG2, ALN_HOST_RING.MODE, ALN_HOST_RING.REDELIVER, ALN_HOST_RING.HOLDOFF, ALN_HOST_RING.HEAD, ALN_HOST_RING.TAIL, ALN.WRITES, ALN.CLOSE_PRESENT, ALN.DUPLICATE, ALN.CLOSE_DEADLINE, ALN.FUTURE, ALN.CLOSE_OTHER, ALN.TOO_OLD] ++
  [ALN.HOST_MISS, ALN.OFF_GRID, ALN.SUBST, ALN.OFF_RATE, ALN.UNSUBST, ALN.REV_ACCEPTED, ALN.CLASS_LATE, ALN.JOURNAL_FULL, ALN.OUT_SENT, ALN.OUT_DROP]

/-- Bad-data removal (R313) (11_state_estimation.md) -/
def LSE_CFG.BAD_EN : Fld := { base := 0x180000, lsb := 0, width := 1, acc := .rwt, guarded := true, roast := true }
/-- 0 lookup; 1–8 force variant FORCE − 1 (R308) (11_state_estimation.md) -/
def LSE_CFG.FORCE : Fld := { base := 0x180000, lsb := 1, width := 4, acc := .rwt, guarded := true, roast := true }
/-- LSE_BAD_THR: binary32 threshold; a value that is not finite or lies outside 1.0 to 100.0 s (11_state_estimation.md) -/
def LSE_BAD_THR.THR : Fld := { base := 0x180004, lsb := 0, width := 32, acc := .rwt, guarded := true, roast := true }
/-- LSE_S_MIN: binary32; outside 0.0001 to 0.5 stores 0.01 (0x3C23_D70A) (11_state_estimation.md) -/
def LSE_S_MIN.SMIN : Fld := { base := 0x180008, lsb := 0, width := 32, acc := .rwl, roast := true }
/-- Variant of the latest completed stage (11_state_estimation.md) -/
def LSE_STATUS.VARIANT : Fld := { base := 0x180010, lsb := 0, width := 3, acc := .ro }
/-- That result VALID (11_state_estimation.md) -/
def LSE_STATUS.VALID : Fld := { base := 0x180010, lsb := 3, width := 1, acc := .ro }
/-- Stage running (11_state_estimation.md) -/
def LSE_STATUS.BUSY : Fld := { base := 0x180010, lsb := 4, width := 1, acc := .ro }
/-- LSE_LAST_SLICE: slice of the latest completed stage (11_state_estimation.md) -/
def LSE_LAST_SLICE.SLICE : Fld := { base := 0x180018, lsb := 0, width := 64, acc := .ro }
/-- A result was invalid (R318) (11_state_estimation.md) -/
def LSE_IRQ.INVALID : Fld := { base := 0x180030, lsb := 0, width := 1, acc := .w1c }
/-- A row was removed (R313) (11_state_estimation.md) -/
def LSE_IRQ.REMOVED : Fld := { base := 0x180030, lsb := 1, width := 1, acc := .w1c }
/-- R308 (11_state_estimation.md) -/
def LSE_IRQ.VARIANT_CHG : Fld := { base := 0x180030, lsb := 2, width := 1, acc := .w1c }
/-- R314 (11_state_estimation.md) -/
def LSE_IRQ.BAD_REMAINS : Fld := { base := 0x180030, lsb := 3, width := 1, acc := .w1c }
/-- LSE_IRQ_MASK: 1 lets the matching bit raise vector 48 (11_state_estimation.md) -/
def LSE_IRQ_MASK.MASK : Fld := { base := 0x180034, lsb := 0, width := 4, acc := .rw }
/-- Slice selected; per requester; not in CRC (11_state_estimation.md) -/
def LSE_SUM_SEL.SLICE : Fld := { base := 0x180040, lsb := 0, width := 64, acc := .rw, crc := false, perReq := true }
/-- Word k of the latched summary (R320) (11_state_estimation.md) -/
def LSE_SUM.WORD : Fld := { base := 0x180050, lsb := 0, width := 32, acc := .ro, perReq := true, dims := [(12, 0x4)] }
/-- Counter: (11_state_estimation.md) -/
def LSE.VALID_RESULTS : Fld := { base := 0x181000, lsb := 0, width := 64, acc := .ro, counter := true }
/-- Counter: (11_state_estimation.md) -/
def LSE.TOPO_STALE : Fld := { base := 0x181028, lsb := 0, width := 64, acc := .ro, counter := true }
/-- Counter: (11_state_estimation.md) -/
def LSE.INVALID_RESULTS : Fld := { base := 0x181008, lsb := 0, width := 64, acc := .ro, counter := true }
/-- Counter: (11_state_estimation.md) -/
def LSE.ROWS_REPLACED : Fld := { base := 0x181030, lsb := 0, width := 64, acc := .ro, counter := true }
/-- Counter: (11_state_estimation.md) -/
def LSE.REMOVALS : Fld := { base := 0x181010, lsb := 0, width := 64, acc := .ro, counter := true }
/-- Counter: (11_state_estimation.md) -/
def LSE.RESOLVE_LOST : Fld := { base := 0x181038, lsb := 0, width := 64, acc := .ro, counter := true }
/-- Counter: (11_state_estimation.md) -/
def LSE.BAD_REMAINS : Fld := { base := 0x181018, lsb := 0, width := 64, acc := .ro, counter := true }
/-- Counter: (11_state_estimation.md) -/
def LSE.VARIANT_USE : Fld := { base := 0x181040, lsb := 0, width := 64, acc := .ro, counter := true, dims := [(8, 0x8)] }
/-- Counter: (11_state_estimation.md) -/
def LSE.TILE_PATCHED : Fld := { base := 0x181020, lsb := 0, width := 64, acc := .ro, counter := true }

/-- Every field of the LSE window. -/
def tableLSE : List Fld :=
  [LSE_CFG.BAD_EN, LSE_CFG.FORCE, LSE_BAD_THR.THR, LSE_S_MIN.SMIN, LSE_STATUS.VARIANT, LSE_STATUS.VALID, LSE_STATUS.BUSY, LSE_LAST_SLICE.SLICE, LSE_IRQ.INVALID, LSE_IRQ.REMOVED, LSE_IRQ.VARIANT_CHG, LSE_IRQ.BAD_REMAINS, LSE_IRQ_MASK.MASK, LSE_SUM_SEL.SLICE, LSE_SUM.WORD, LSE.VALID_RESULTS, LSE.TOPO_STALE, LSE.INVALID_RESULTS, LSE.ROWS_REPLACED, LSE.REMOVALS, LSE.RESOLVE_LOST, LSE.BAD_REMAINS, LSE.VARIANT_USE, LSE.TILE_PATCHED]

/-- Configured mode watches (12_oscillation_monitoring.md) -/
def OSC_STATUS.WATCHES : Fld := { base := 0x1a0000, lsb := 0, width := 11, acc := .ro }
/-- Configured monitors (12_oscillation_monitoring.md) -/
def OSC_STATUS.MONITORS : Fld := { base := 0x1a0000, lsb := 11, width := 10, acc := .ro }
/-- Configured sub-synchronous watches (12_oscillation_monitoring.md) -/
def OSC_STATUS.SUBSYNC : Fld := { base := 0x1a0000, lsb := 21, width := 9, acc := .ro }
/-- Step 4 shed in the latest stage (R342) (12_oscillation_monitoring.md) -/
def OSC_STATUS.SHED : Fld := { base := 0x1a0000, lsb := 30, width := 1, acc := .ro }
/-- OSC_LAST_SLICE: slice of the latest completed stage (12_oscillation_monitoring.md) -/
def OSC_LAST_SLICE.SLICE : Fld := { base := 0x1a0008, lsb := 0, width := 64, acc := .ro }
/-- A band flag was set (R335) (12_oscillation_monitoring.md) -/
def OSC_IRQ.BAND_ALERT : Fld := { base := 0x1a0010, lsb := 0, width := 1, acc := .w1c }
/-- A band reset other than at roast load (R331) (12_oscillation_monitoring.md) -/
def OSC_IRQ.BAND_RESET : Fld := { base := 0x1a0010, lsb := 1, width := 1, acc := .w1c }
/-- A reported verdict changed (R338) (12_oscillation_monitoring.md) -/
def OSC_IRQ.CORRIDOR : Fld := { base := 0x1a0010, lsb := 2, width := 1, acc := .w1c }
/-- SS_HIGH was set (R341) (12_oscillation_monitoring.md) -/
def OSC_IRQ.SS_ALERT : Fld := { base := 0x1a0010, lsb := 3, width := 1, acc := .w1c }
/-- Uncorrectable state error (R344) (12_oscillation_monitoring.md) -/
def OSC_IRQ.STATE_ERR : Fld := { base := 0x1a0010, lsb := 4, width := 1, acc := .w1c }
/-- An OSC_CMD request ended (R345) (12_oscillation_monitoring.md) -/
def OSC_IRQ.CMD_DONE : Fld := { base := 0x1a0010, lsb := 5, width := 1, acc := .w1c }
/-- OSC_IRQ_MASK: 1 lets the matching bit raise vector 56 (12_oscillation_monitoring.md) -/
def OSC_IRQ_MASK.MASK : Fld := { base := 0x1a0014, lsb := 0, width := 6, acc := .rw }
/-- 0 band, 1 monitor, 2 sub-synchronous watch, 3 every band of a watch (12_oscillation_monitoring.md) -/
def OSC_CMD.KIND : Fld := { base := 0x1a0020, lsb := 0, width := 2, acc := .wo, guarded := true }
/-- Band index 4w + b, monitor, watch s, or watch w (12_oscillation_monitoring.md) -/
def OSC_CMD.INDEX : Fld := { base := 0x1a0020, lsb := 4, width := 12, acc := .wo, guarded := true }
/-- 1 requests the reset (R345) (12_oscillation_monitoring.md) -/
def OSC_CMD.GO : Fld := { base := 0x1a0020, lsb := 31, width := 1, acc := .wo, guarded := true }
/-- OSC_CMD_STATUS: request waiting for the next stage (12_oscillation_monitoring.md) -/
def OSC_CMD_STATUS.PENDING : Fld := { base := 0x1a0024, lsb := 0, width := 1, acc := .ro }
/-- 0 none, 1 APPLIED, 2 REFUSED, 3 DISCARDED (12_oscillation_monitoring.md) -/
def OSC_CMD_STATUS.RESULT : Fld := { base := 0x1a0024, lsb := 4, width := 2, acc := .ro }
/-- Band index 4w + b selected; per requester; not in CRC (12_oscillation_monitoring.md) -/
def OSC_BAND_SEL.BAND : Fld := { base := 0x1a0030, lsb := 0, width := 12, acc := .rw, crc := false, perReq := true }
/-- Words 0–1 SLICE of the latest update; 2 FREQ; 3 DAMP; 4 AMP; 5 FLAGS; 6 ROOT_RE; 7 ROOT_IM (12_oscillation_monitoring.md) -/
def OSC_BAND.WORD : Fld := { base := 0x1a0040, lsb := 0, width := 32, acc := .ro, perReq := true, dims := [(8, 0x4)] }
/-- Monitor selected; per requester; not in CRC (12_oscillation_monitoring.md) -/
def OSC_FLOW_SEL.MONITOR : Fld := { base := 0x1a0060, lsb := 0, width := 9, acc := .rw, crc := false, perReq := true }
/-- Words 0–1 SLICE of the latest update; 2 SLOPE, binary32; 3 FLAGS (12_oscillation_monitoring.md) -/
def OSC_FLOW.WORD : Fld := { base := 0x1a0070, lsb := 0, width := 32, acc := .ro, perReq := true, dims := [(4, 0x4)] }
/-- Sub-synchronous watch selected; per requester; not in CRC (12_oscillation_monitoring.md) -/
def OSC_SS_SEL.WATCH : Fld := { base := 0x1a0090, lsb := 0, width := 8, acc := .rw, crc := false, perReq := true }
/-- Words 0–1 SLICE; 2 PEAK_F in Hz; 3 PEAK_RMS, binary32; 4 FLAGS (12_oscillation_monitoring.md) -/
def OSC_SS.WORD : Fld := { base := 0x1a00a0, lsb := 0, width := 32, acc := .ro, perReq := true, dims := [(5, 0x4)] }
/-- Bits [2i+1:2i]: reported verdict of corridor 16j + i (R338) (12_oscillation_monitoring.md) -/
def OSC_CORR.VERDICT : Fld := { base := 0x1a0100, lsb := 0, width := 32, acc := .ro, dims := [(8, 0x4)] }
/-- Bit b: band 32j + b has any of LOW_DAMP, GROWING, FORCED or HIGH_AMP set (12_oscillation_monitoring.md) -/
def OSC_ALERT.ALERT : Fld := { base := 0x1a0200, lsb := 0, width := 32, acc := .ro, dims := [(128, 0x4)] }
/-- Bit b: watch 32j + b has SS_HIGH set (12_oscillation_monitoring.md) -/
def OSC_SS_ALERT.SS : Fld := { base := 0x1a0400, lsb := 0, width := 32, acc := .ro, dims := [(8, 0x4)] }
/-- Counter: (12_oscillation_monitoring.md) -/
def OSC.BAND_UPDATES : Fld := { base := 0x1a1000, lsb := 0, width := 64, acc := .ro, counter := true }
/-- Counter: (12_oscillation_monitoring.md) -/
def OSC.SHED_SKIPS : Fld := { base := 0x1a1020, lsb := 0, width := 64, acc := .ro, counter := true }
/-- Counter: (12_oscillation_monitoring.md) -/
def OSC.BAND_MISSING : Fld := { base := 0x1a1008, lsb := 0, width := 64, acc := .ro, counter := true }
/-- Counter: (12_oscillation_monitoring.md) -/
def OSC.TILE_BAD : Fld := { base := 0x1a1028, lsb := 0, width := 64, acc := .ro, counter := true }
/-- Counter: (12_oscillation_monitoring.md) -/
def OSC.BAND_RESETS : Fld := { base := 0x1a1010, lsb := 0, width := 64, acc := .ro, counter := true }
/-- Counter: (12_oscillation_monitoring.md) -/
def OSC.ECC_CORRECTED : Fld := { base := 0x1a1030, lsb := 0, width := 64, acc := .ro, counter := true }
/-- Counter: (12_oscillation_monitoring.md) -/
def OSC.DIVERGED : Fld := { base := 0x1a1018, lsb := 0, width := 64, acc := .ro, counter := true }
/-- Counter: (12_oscillation_monitoring.md) -/
def OSC.ECC_UNCORRECTED : Fld := { base := 0x1a1038, lsb := 0, width := 64, acc := .ro, counter := true }
/-- Counter: (12_oscillation_monitoring.md) -/
def OSC.SS_FLAGGED : Fld := { base := 0x1a1040, lsb := 0, width := 64, acc := .ro, counter := true }

/-- Every field of the OSC window. -/
def tableOSC : List Fld :=
  [OSC_STATUS.WATCHES, OSC_STATUS.MONITORS, OSC_STATUS.SUBSYNC, OSC_STATUS.SHED, OSC_LAST_SLICE.SLICE, OSC_IRQ.BAND_ALERT, OSC_IRQ.BAND_RESET, OSC_IRQ.CORRIDOR, OSC_IRQ.SS_ALERT, OSC_IRQ.STATE_ERR, OSC_IRQ.CMD_DONE, OSC_IRQ_MASK.MASK, OSC_CMD.KIND, OSC_CMD.INDEX, OSC_CMD.GO, OSC_CMD_STATUS.PENDING, OSC_CMD_STATUS.RESULT, OSC_BAND_SEL.BAND, OSC_BAND.WORD, OSC_FLOW_SEL.MONITOR, OSC_FLOW.WORD, OSC_SS_SEL.WATCH, OSC_SS.WORD, OSC_CORR.VERDICT, OSC_ALERT.ALERT, OSC_SS_ALERT.SS, OSC.BAND_UPDATES, OSC.SHED_SKIPS, OSC.BAND_MISSING, OSC.TILE_BAD, OSC.BAND_RESETS, OSC.ECC_CORRECTED, OSC.DIVERGED, OSC.ECC_UNCORRECTED, OSC.SS_FLAGGED]

/-- R_T of the active roast (13_topology_and_islanding.md) -/
def ISL_STATUS.ROUNDS : Fld := { base := 0x1c0000, lsb := 0, width := 6, acc := .ro }
/-- Latest topology result valid (R363) (13_topology_and_islanding.md) -/
def ISL_STATUS.TOPO_VALID : Fld := { base := 0x1c0000, lsb := 6, width := 1, acc := .ro }
/-- R360 (13_topology_and_islanding.md) -/
def ISL_STATUS.MAIN_DEAD : Fld := { base := 0x1c0000, lsb := 7, width := 1, acc := .ro }
/-- Islands in the latest slice (R369) (13_topology_and_islanding.md) -/
def ISL_STATUS.ISLANDS : Fld := { base := 0x1c0000, lsb := 8, width := 8, acc := .ro }
/-- Device that failed the check of R359 (13_topology_and_islanding.md) -/
def ISL_STATUS.ERR_DEV : Fld := { base := 0x1c0000, lsb := 16, width := 15, acc := .ro }
/-- ISL_LAST_SLICE: slice of the latest completed island stage (13_topology_and_islanding.md) -/
def ISL_LAST_SLICE.SLICE : Fld := { base := 0x1c0008, lsb := 0, width := 64, acc := .ro }
/-- Class word of the latest valid result (R362) (13_topology_and_islanding.md) -/
def ISL_TOPO_CLASS.T : Fld := { base := 0x1c0010, lsb := 0, width := 32, acc := .ro }
/-- ISL_COMPONENTS: components, 1–16,384; 0 before the first result (13_topology_and_islanding.md) -/
def ISL_COMPONENTS.ALL : Fld := { base := 0x1c0014, lsb := 0, width := 15, acc := .ro }
/-- Energised components (13_topology_and_islanding.md) -/
def ISL_COMPONENTS.ENERGISED : Fld := { base := 0x1c0014, lsb := 16, width := 15, acc := .ro }
/-- R362 (13_topology_and_islanding.md) -/
def ISL_IRQ.CLASS_CHG : Fld := { base := 0x1c0020, lsb := 0, width := 1, acc := .w1c }
/-- R369 (13_topology_and_islanding.md) -/
def ISL_IRQ.ISLAND_CHG : Fld := { base := 0x1c0020, lsb := 1, width := 1, acc := .w1c }
/-- R367 (13_topology_and_islanding.md) -/
def ISL_IRQ.PAIR_CHG : Fld := { base := 0x1c0020, lsb := 2, width := 1, acc := .w1c }
/-- R355 (13_topology_and_islanding.md) -/
def ISL_IRQ.DISAGREE : Fld := { base := 0x1c0020, lsb := 3, width := 1, acc := .w1c }
/-- R355 (13_topology_and_islanding.md) -/
def ISL_IRQ.UNKNOWN : Fld := { base := 0x1c0020, lsb := 4, width := 1, acc := .w1c }
/-- R359 (13_topology_and_islanding.md) -/
def ISL_IRQ.CONVERGE_ERR : Fld := { base := 0x1c0020, lsb := 5, width := 1, acc := .w1c }
/-- ISL_IRQ_MASK: 1 lets the matching bit raise vector 64 (13_topology_and_islanding.md) -/
def ISL_IRQ_MASK.MASK : Fld := { base := 0x1c0024, lsb := 0, width := 6, acc := .rw }
/-- Device overridden (R355, R356) (13_topology_and_islanding.md) -/
def ISL_OVR.DEVICE : Fld := { base := 0x1c0100, lsb := 0, width := 15, acc := .rwt, guarded := true, roast := true, dims := [(256, 0x4)] }
/-- 1 OPEN, 2 CLOSED; 0 and 3 make the entry have no effect (13_topology_and_islanding.md) -/
def ISL_OVR.STATE : Fld := { base := 0x1c0100, lsb := 16, width := 2, acc := .rwt, guarded := true, roast := true, dims := [(256, 0x4)] }
/-- Entry enabled (13_topology_and_islanding.md) -/
def ISL_OVR.EN : Fld := { base := 0x1c0100, lsb := 31, width := 1, acc := .rwt, guarded := true, roast := true, dims := [(256, 0x4)] }
/-- Device selected; per requester; not in CRC (13_topology_and_islanding.md) -/
def ISL_DEV_SEL.DEVICE : Fld := { base := 0x1c0500, lsb := 0, width := 15, acc := .rw, crc := false, perReq := true }
/-- Words 0–1 SLICE; 2 STATE; 3 labels: NODE_A's in [13:0], NODE_B's in [29:16] (13_topology_and_islanding.md) -/
def ISL_DEV.WORD : Fld := { base := 0x1c0510, lsb := 0, width := 32, acc := .ro, perReq := true, dims := [(4, 0x4)] }
/-- Node selected; per requester; not in CRC (13_topology_and_islanding.md) -/
def ISL_NODE_SEL.NODE : Fld := { base := 0x1c0540, lsb := 0, width := 14, acc := .rw, crc := false, perReq := true }
/-- Words 0–1 SLICE; 2 [13:0] LABEL, [16] ENERGISED, [17] LIVE, [18] MAIN, [19] TOPO_STALE; 3 (13_topology_and_islanding.md) -/
def ISL_NODE.WORD : Fld := { base := 0x1c0550, lsb := 0, width := 32, acc := .ro, perReq := true, dims := [(4, 0x4)] }
/-- Area selected; per requester; not in CRC (13_topology_and_islanding.md) -/
def ISL_AREA_SEL.AREA : Fld := { base := 0x1c0580, lsb := 0, width := 6, acc := .rw, crc := false, perReq := true }
/-- Words 0–1 SLICE; 2 f_a, binary32 Hz; 3 θ_a, binary32 rad; 4 [0] FREQ_OK, [1] ANGLE_OK, [2] (13_topology_and_islanding.md) -/
def ISL_AREA.WORD : Fld := { base := 0x1c0590, lsb := 0, width := 32, acc := .ro, perReq := true, dims := [(6, 0x4)] }
/-- Pair selected; per requester; not in CRC (13_topology_and_islanding.md) -/
def ISL_PAIR_SEL.PAIR : Fld := { base := 0x1c05c0, lsb := 0, width := 8, acc := .rw, crc := false, perReq := true }
/-- Words 0–1 SLICE; 2 Δf, binary32 Hz; 3 Δθ_u, binary32 rad; 4 FLAGS; 5 [15:0] assert count, (13_topology_and_islanding.md) -/
def ISL_PAIR.WORD : Fld := { base := 0x1c05d0, lsb := 0, width := 32, acc := .ro, perReq := true, dims := [(6, 0x4)] }
/-- Bits [2i+1:2i]: state of pair 16j + i, coded as in ISL_PAIR_k (13_topology_and_islanding.md) -/
def ISL_PAIR_STATE.STATE : Fld := { base := 0x1c0600, lsb := 0, width := 32, acc := .ro, dims := [(16, 0x4)] }
/-- ISL_ISLAND_SEL: position in the island list; per requester; not in CRC (13_topology_and_islanding.md) -/
def ISL_ISLAND_SEL.POS : Fld := { base := 0x1c0640, lsb := 0, width := 6, acc := .rw, crc := false, perReq := true }
/-- Words 0–1 SLICE; 2 [13:0] LABEL, [16] MAIN, [17] VALID (position within the list); 3 node (13_topology_and_islanding.md) -/
def ISL_ISLAND.WORD : Fld := { base := 0x1c0650, lsb := 0, width := 32, acc := .ro, perReq := true, dims := [(6, 0x4)] }
/-- Counter: (13_topology_and_islanding.md) -/
def ISL.TOPO_VALID_CNT : Fld := { base := 0x1c1000, lsb := 0, width := 64, acc := .ro, counter := true }
/-- Counter: (13_topology_and_islanding.md) -/
def ISL.OVERRIDE_USE : Fld := { base := 0x1c1028, lsb := 0, width := 64, acc := .ro, counter := true }
/-- Counter: (13_topology_and_islanding.md) -/
def ISL.TOPO_INVALID : Fld := { base := 0x1c1008, lsb := 0, width := 64, acc := .ro, counter := true }
/-- Counter: (13_topology_and_islanding.md) -/
def ISL.CLASS_CHANGES : Fld := { base := 0x1c1030, lsb := 0, width := 64, acc := .ro, counter := true }
/-- Counter: (13_topology_and_islanding.md) -/
def ISL.CONVERGE_ERR : Fld := { base := 0x1c1010, lsb := 0, width := 64, acc := .ro, counter := true }
/-- Counter: (13_topology_and_islanding.md) -/
def ISL.PAIR_SUSPECT : Fld := { base := 0x1c1038, lsb := 0, width := 64, acc := .ro, counter := true }
/-- Counter: (13_topology_and_islanding.md) -/
def ISL.DISAGREE : Fld := { base := 0x1c1018, lsb := 0, width := 64, acc := .ro, counter := true }
/-- Counter: (13_topology_and_islanding.md) -/
def ISL.PAIR_CONFIRMED : Fld := { base := 0x1c1040, lsb := 0, width := 64, acc := .ro, counter := true }
/-- Counter: (13_topology_and_islanding.md) -/
def ISL.HELD : Fld := { base := 0x1c1020, lsb := 0, width := 64, acc := .ro, counter := true }
/-- Counter: (13_topology_and_islanding.md) -/
def ISL.TILE_BAD : Fld := { base := 0x1c1048, lsb := 0, width := 64, acc := .ro, counter := true }

/-- Every field of the ISL window. -/
def tableISL : List Fld :=
  [ISL_STATUS.ROUNDS, ISL_STATUS.TOPO_VALID, ISL_STATUS.MAIN_DEAD, ISL_STATUS.ISLANDS, ISL_STATUS.ERR_DEV, ISL_LAST_SLICE.SLICE, ISL_TOPO_CLASS.T, ISL_COMPONENTS.ALL, ISL_COMPONENTS.ENERGISED, ISL_IRQ.CLASS_CHG, ISL_IRQ.ISLAND_CHG, ISL_IRQ.PAIR_CHG, ISL_IRQ.DISAGREE, ISL_IRQ.UNKNOWN, ISL_IRQ.CONVERGE_ERR, ISL_IRQ_MASK.MASK, ISL_OVR.DEVICE, ISL_OVR.STATE, ISL_OVR.EN, ISL_DEV_SEL.DEVICE, ISL_DEV.WORD, ISL_NODE_SEL.NODE, ISL_NODE.WORD, ISL_AREA_SEL.AREA, ISL_AREA.WORD, ISL_PAIR_SEL.PAIR, ISL_PAIR.WORD, ISL_PAIR_STATE.STATE, ISL_ISLAND_SEL.POS, ISL_ISLAND.WORD, ISL.TOPO_VALID_CNT, ISL.OVERRIDE_USE, ISL.TOPO_INVALID, ISL.CLASS_CHANGES, ISL.CONVERGE_ERR, ISL.PAIR_SUSPECT, ISL.DISAGREE, ISL.PAIR_CONFIRMED, ISL.HELD, ISL.TILE_BAD]

/-- Engine enable under R106 and R386 (14_alarms_and_saucer.md) -/
def ALM_CTL.EN : Fld := { base := 0x1e0000, lsb := 0, width := 1, acc := .rw }
/-- Running or shutting down (14_alarms_and_saucer.md) -/
def ALM_CTL.BUSY : Fld := { base := 0x1e0000, lsb := 1, width := 1, acc := .ro }
/-- Re-enable pending (14_alarms_and_saucer.md) -/
def ALM_CTL.PEND : Fld := { base := 0x1e0000, lsb := 2, width := 1, acc := .ro }
/-- ALM_STATUS: configured terms, 0–2,048 (14_alarms_and_saucer.md) -/
def ALM_STATUS.TERMS : Fld := { base := 0x1e0004, lsb := 0, width := 12, acc := .ro }
/-- Configured rules, 0–512 (14_alarms_and_saucer.md) -/
def ALM_STATUS.RULES : Fld := { base := 0x1e0004, lsb := 12, width := 10, acc := .ro }
/-- A test bit drives a pin (R382) (14_alarms_and_saucer.md) -/
def ALM_STATUS.TEST_ACTIVE : Fld := { base := 0x1e0004, lsb := 22, width := 1, acc := .ro }
/-- ALM_LAST_SLICE: slice of the latest pass 1 (14_alarms_and_saucer.md) -/
def ALM_LAST_SLICE.SLICE : Fld := { base := 0x1e0008, lsb := 0, width := 64, acc := .ro }
/-- Any bit set in ALM_RULE_IRQ_j (14_alarms_and_saucer.md) -/
def ALM_IRQ.RULE : Fld := { base := 0x1e0010, lsb := 0, width := 1, acc := .ro }
/-- A publication frame was discarded under R175 or R176 (14_alarms_and_saucer.md) -/
def ALM_IRQ.PUB_DROP : Fld := { base := 0x1e0010, lsb := 1, width := 1, acc := .w1c }
/-- R383 (14_alarms_and_saucer.md) -/
def ALM_IRQ.PUB_NOKEY : Fld := { base := 0x1e0010, lsb := 2, width := 1, acc := .w1c }
/-- ALM_IRQ_MASK: 1 lets the matching bit raise vector 72 (14_alarms_and_saucer.md) -/
def ALM_IRQ_MASK.MASK : Fld := { base := 0x1e0014, lsb := 0, width := 3, acc := .rw }
/-- Bit k releases ALM_OUTk (R382); not in CRC (14_alarms_and_saucer.md) -/
def ALM_PIN_MASK.MASK : Fld := { base := 0x1e0020, lsb := 0, width := 16, acc := .rw, crc := false }
/-- ALM_PIN_OUT: bit k is 1 while ALM_OUTk is driven low (14_alarms_and_saucer.md) -/
def ALM_PIN_OUT.OUT : Fld := { base := 0x1e0024, lsb := 0, width := 16, acc := .ro }
/-- ALM_TEST: test drive (R382); reads 0 unless TEST_PERMIT; not in CRC (14_alarms_and_saucer.md) -/
def ALM_TEST.PIN : Fld := { base := 0x1e0028, lsb := 0, width := 16, acc := .rw, guarded := true, crc := false }
/-- Bit b: rule 32j + b asserted (14_alarms_and_saucer.md) -/
def ALM_RULE_STATE.STATE : Fld := { base := 0x1e0100, lsb := 0, width := 32, acc := .ro, dims := [(16, 0x4)] }
/-- Bit b: release request (R379) (14_alarms_and_saucer.md) -/
def ALM_RULE_ACK.ACK : Fld := { base := 0x1e0140, lsb := 0, width := 32, acc := .wo, dims := [(16, 0x4)] }
/-- Bit b: rule 32j + b sent as FALSE in publications (R384); not in CRC (14_alarms_and_saucer.md) -/
def ALM_FRAME_MASK.MASK : Fld := { base := 0x1e0180, lsb := 0, width := 32, acc := .rw, crc := false, dims := [(16, 0x4)] }
/-- Bit b: rule 32j + b changed, KIND 3 mapping (R385) (14_alarms_and_saucer.md) -/
def ALM_RULE_IRQ.CHG : Fld := { base := 0x1e01c0, lsb := 0, width := 32, acc := .w1c, dims := [(16, 0x4)] }
/-- Bit b: term 32j + b asserted (14_alarms_and_saucer.md) -/
def ALM_TERM_STATE.STATE : Fld := { base := 0x1e0200, lsb := 0, width := 32, acc := .ro, dims := [(64, 0x4)] }
/-- ALM_TERM_SEL: term selected; per requester; not in CRC (14_alarms_and_saucer.md) -/
def ALM_TERM_SEL.TERM : Fld := { base := 0x1e0300, lsb := 0, width := 11, acc := .rw, crc := false, perReq := true }
/-- Words 0–1 SLICE of the latest evaluation; 2 x, binary32; 3 [0] ASSERTED, [1] VALID, [2] ST (14_alarms_and_saucer.md) -/
def ALM_TERM.WORD : Fld := { base := 0x1e0310, lsb := 0, width := 32, acc := .ro, perReq := true, dims := [(5, 0x4)] }
/-- ALM_KEY_SEL: publication addressed, laid out as the ING key registers of R241 (14_alarms_and_saucer.md) -/
def ALM_KEY_SEL.PUB : Fld := { base := 0x1e0500, lsb := 0, width := 4, acc := .rw, guarded := true, crc := false }
/-- ALM_KEY_CMD: 1 load the key, 2 erase it (14_alarms_and_saucer.md) -/
def ALM_KEY_CMD.OP : Fld := { base := 0x1e0504, lsb := 0, width := 2, acc := .wo, guarded := true }
/-- ALM_KEY_ID: key ID of the key being loaded (14_alarms_and_saucer.md) -/
def ALM_KEY_ID.ID : Fld := { base := 0x1e050c, lsb := 0, width := 32, acc := .wo, guarded := true }
/-- ALM_KEY_DATA: key bytes 4k to 4k + 3; never readable; cleared by each load (14_alarms_and_saucer.md) -/
def ALM_KEY_DATA.KEY : Fld := { base := 0x1e0520, lsb := 0, width := 32, acc := .wo, guarded := true, dims := [(8, 0x4)] }
/-- stNum of the latest frame (14_alarms_and_saucer.md) -/
def ALM_PUB.STNUM : Fld := { base := 0x1e0400, lsb := 0, width := 32, acc := .ro, dims := [(16, 0x10)] }
/-- sqNum of the latest frame (14_alarms_and_saucer.md) -/
def ALM_PUB.SQNUM : Fld := { base := 0x1e0404, lsb := 0, width := 32, acc := .ro, dims := [(16, 0x10)] }
/-- Record present (14_alarms_and_saucer.md) -/
def ALM_PUB.CONFIGURED : Fld := { base := 0x1e0408, lsb := 0, width := 1, acc := .ro, dims := [(16, 0x10)] }
/-- Key loaded (SECURITY 1) (14_alarms_and_saucer.md) -/
def ALM_PUB.KEYED : Fld := { base := 0x1e0408, lsb := 1, width := 1, acc := .ro, dims := [(16, 0x10)] }
/-- Counter: (14_alarms_and_saucer.md) -/
def ALM.TERM_CHANGES : Fld := { base := 0x1e1000, lsb := 0, width := 64, acc := .ro, counter := true }
/-- Counter: (14_alarms_and_saucer.md) -/
def ALM.PUB_REPLACED : Fld := { base := 0x1e1018, lsb := 0, width := 64, acc := .ro, counter := true }
/-- Counter: (14_alarms_and_saucer.md) -/
def ALM.RULE_CHANGES : Fld := { base := 0x1e1008, lsb := 0, width := 64, acc := .ro, counter := true }
/-- Counter: (14_alarms_and_saucer.md) -/
def ALM.PUB_NOKEY : Fld := { base := 0x1e1020, lsb := 0, width := 64, acc := .ro, counter := true }
/-- Counter: (14_alarms_and_saucer.md) -/
def ALM.TERM_INVALID : Fld := { base := 0x1e1010, lsb := 0, width := 64, acc := .ro, counter := true }
/-- Counter: (14_alarms_and_saucer.md) -/
def ALM.PUB_FRAMES : Fld := { base := 0x1e1100, lsb := 0, width := 64, acc := .ro, counter := true, dims := [(16, 0x8)] }

/-- Every field of the ALM window. -/
def tableALM : List Fld :=
  [ALM_KEY_SEL.PUB, ALM_KEY_CMD.OP, ALM_KEY_ID.ID, ALM_KEY_DATA.KEY, ALM_CTL.EN, ALM_CTL.BUSY, ALM_CTL.PEND, ALM_STATUS.TERMS, ALM_STATUS.RULES, ALM_STATUS.TEST_ACTIVE, ALM_LAST_SLICE.SLICE, ALM_IRQ.RULE, ALM_IRQ.PUB_DROP, ALM_IRQ.PUB_NOKEY, ALM_IRQ_MASK.MASK, ALM_PIN_MASK.MASK, ALM_PIN_OUT.OUT, ALM_TEST.PIN, ALM_RULE_STATE.STATE, ALM_RULE_ACK.ACK, ALM_FRAME_MASK.MASK, ALM_RULE_IRQ.CHG, ALM_TERM_STATE.STATE, ALM_TERM_SEL.TERM, ALM_TERM.WORD, ALM_PUB.STNUM, ALM_PUB.SQNUM, ALM_PUB.CONFIGURED, ALM_PUB.KEYED, ALM.TERM_CHANGES, ALM.PUB_REPLACED, ALM.RULE_CHANGES, ALM.PUB_NOKEY, ALM.TERM_INVALID, ALM.PUB_FRAMES]

end Sys2Proof.Machine.Reg
end

