-- ==== Sys2Proof/Machine/RegMap.lean ====
section
/-! DEFINITION. The BAR0 map of R93: which fields stand in which 64 KiB window. -/

namespace Sys2Proof.Machine.Reg

/-- The fields of the window with this number (BAR0 offset / 0x1_0000); a number not listed is unmapped (R93, R97). The NVS window
has no register in spec/. -/
def window : Nat → List Fld
  | 0x0 => tableHIF
  | 0x1 => tableCFG
  | 0x2 => tableBOOT
  | 0x3 => tablePACE
  | 0x4 => tableSCH
  | 0x5 => tableSEC
  | 0x6 => tableSAU
  | 0x8 => tableMAC
  | 0x9 => tableMAC
  | 0xa => tableMAC
  | 0xb => tableMAC
  | 0xc => tableMAC
  | 0xd => tableMAC
  | 0xe => tableMAC
  | 0x10 => tablePTP
  | 0x12 => tableING
  | 0x14 => tableFLT
  | 0x16 => tableALN
  | 0x18 => tableLSE
  | 0x1a => tableOSC
  | 0x1c => tableISL
  | 0x1e => tableALM
  | 0x20 => tableCAP
  | 0x22 => tableNRG
  | 0x24 => tableEVR
  | 0x26 => tableRTC
  | 0x28 => tableCAS
  | 0x2a => tableCRF
  | _ => []

/-- Every field of the map, in ascending order of windows. -/
def all : List Fld :=
  tableHIF ++ tableCFG ++ tableBOOT ++ tablePACE ++ tableSCH ++ tableSEC ++ tableSAU ++ tableMAC ++ tablePTP ++ tableING ++ tableFLT ++ tableALN ++ tableLSE ++ tableOSC ++ tableISL ++ tableALM ++ tableCAP ++ tableNRG ++ tableEVR ++ tableRTC ++ tableCAS ++ tableCRF

end Sys2Proof.Machine.Reg
end

