-- ==== Sys2Proof/Machine/Float.lean ====
section
/-! DEFINITION. Binary32 arithmetic (R10, R232, R247, R309): the exact value of a pattern, rounding to nearest with ties to even,
the sum, product, quotient and square root, the wide accumulator, and the engines' treatment of subnormals. -/

namespace Sys2Proof.Machine

/-- The quiet NaN the device stores. -/
def fNaN : F32 := 0x7FC00000
/-- Positive zero. -/
def fZero : F32 := 0
/-- 1.0. -/
def fOne : F32 := 0x3F800000
/-- Sign bit. -/
def fNeg (a : F32) : Bool := a.toNat / 2 ^ 31 == 1
/-- Exponent field. -/
def fExp (a : F32) : Nat := a.toNat / 2 ^ 23 % 256
/-- Fraction field. -/
def fFrac (a : F32) : Nat := a.toNat % 2 ^ 23
/-- NaN. -/
def fIsNaN (a : F32) : Bool := fExp a == 255 && fFrac a != 0
/-- Infinite. -/
def fIsInf (a : F32) : Bool := fExp a == 255 && fFrac a == 0
/-- Finite. -/
def fFinite (a : F32) : Bool := fExp a != 255
/-- Zero of either sign. -/
def fIsZero (a : F32) : Bool := a.toNat % 2 ^ 31 == 0
/-- The pattern with a sign. -/
def fSigned (neg : Bool) (mag : Nat) : F32 := BitVec.ofNat 32 (mag + 2 ^ 31 * b2n neg)
/-- Infinity. -/
def fInf (neg : Bool) : F32 := fSigned neg 0x7F800000

/-- 2^e as a rational. -/
def pow2 (e : Int) : Rat := if 0 ≤ e then ((2 ^ e.toNat : Nat) : Rat) else 1 / ((2 ^ (-e).toNat : Nat) : Rat)

/-- The value of a finite pattern. -/
def fVal (a : F32) : Rat :=
  let m : Nat := if fExp a = 0 then fFrac a else fFrac a + 2 ^ 23
  let q := (m : Rat) * pow2 ((max 1 (fExp a) : Nat) - (150 : Int))
  if fNeg a then -q else q

/-- An integer nearest to a non-negative rational, ties to even. -/
def roundEvenNat (q : Rat) : Nat :=
  let f := q.num.natAbs / q.den
  let r := 2 * (q.num.natAbs % q.den)
  if r < q.den then f else if q.den < r then f + 1 else f + f % 2

/-- floor(log2) of a positive rational. -/
def ratLog2 (q : Rat) : Int :=
  let e : Int := (Nat.log2 q.num.natAbs : Int) - (Nat.log2 q.den : Int)
  if q < pow2 e then e - 1 else e

/-- A rational rounded to a significand of `p` bits, ties to even. -/
def roundMant (p : Nat) (q : Rat) : Rat :=
  if q = 0 then 0
  else
    let a := if q < 0 then -q else q
    let u := pow2 (ratLog2 a - (p - 1 : Int))
    let r := (roundEvenNat (a / u) : Rat) * u
    if q < 0 then -r else r

/-- A rational rounded to binary32 with a given sign for a zero result. -/
def roundFS (neg : Bool) (q : Rat) : F32 :=
  if q = 0 then fSigned neg 0
  else
    let n := decide (q < 0)
    let a := if q < 0 then -q else q
    let e := max (-126) (ratLog2 a)
    let m := roundEvenNat (a / pow2 (e - 23))
    let em := if m = 2 ^ 24 then (e + 1, 2 ^ 23) else (e, m)
    if 128 ≤ em.1 then fInf n
    else if em.2 < 2 ^ 23 then fSigned n em.2
    else fSigned n ((em.1 + 127).toNat * 2 ^ 23 + (em.2 - 2 ^ 23))

/-- A rational rounded to binary32. -/
def roundF (q : Rat) : F32 := roundFS false q

/-- Negation. -/
def fNegate (a : F32) : F32 := fSigned (!fNeg a) (a.toNat % 2 ^ 31)
/-- Magnitude. -/
def fAbs (a : F32) : F32 := fSigned false (a.toNat % 2 ^ 31)

/-- Sum. -/
def fAdd (a b : F32) : F32 :=
  if fIsNaN a ∨ fIsNaN b then fNaN
  else if fIsInf a then (if fIsInf b ∧ fNeg a ≠ fNeg b then fNaN else a)
  else if fIsInf b then b
  else roundFS (fNeg a && fNeg b) (fVal a + fVal b)

/-- Difference. -/
def fSub (a b : F32) : F32 := fAdd a (fNegate b)

/-- Product. -/
def fMul (a b : F32) : F32 :=
  let n := fNeg a != fNeg b
  if fIsNaN a ∨ fIsNaN b then fNaN
  else if fIsInf a ∨ fIsInf b then (if fIsZero a ∨ fIsZero b then fNaN else fInf n)
  else roundFS n (fVal a * fVal b)

/-- Quotient. -/
def fDiv (a b : F32) : F32 :=
  let n := fNeg a != fNeg b
  if fIsNaN a ∨ fIsNaN b then fNaN
  else if fIsInf a then (if fIsInf b then fNaN else fInf n)
  else if fIsInf b then fSigned n 0
  else if fIsZero b then (if fIsZero a then fNaN else fInf n)
  else roundFS n (fVal a / fVal b)

/-- The square root of a non-negative rational rounded to binary32: the root of q × 2^(2k) with 60 spare bits, made odd where it is
inexact, rounds as the exact root does. -/
def sqrtRat (q : Rat) : F32 :=
  if q ≤ 0 then fZero
  else
    let k : Int := 60 - ratLog2 q / 2
    let s := q * pow2 (2 * k)
    let f := s.num.natAbs / s.den
    let r := Nat.sqrt f
    let exact := decide (r * r * s.den = s.num.natAbs)
    roundF ((if exact then (r : Rat) else (r : Rat) + 1 / 2) * pow2 (-k))

/-- Square root. -/
def fSqrt (a : F32) : F32 :=
  if fIsNaN a then fNaN else if fIsZero a then a else if fNeg a then fNaN else if fIsInf a then a else sqrtRat (fVal a)

/-- Order: a < b, false where either is NaN. -/
def fLt (a b : F32) : Bool :=
  if fIsNaN a || fIsNaN b then false
  else if fIsInf a then fNeg a && !(fIsInf b && fNeg b)
  else if fIsInf b then !fNeg b
  else decide (fVal a < fVal b)

/-- a ≤ b, false where either is NaN. -/
def fLe (a b : F32) : Bool := !(fIsNaN a || fIsNaN b) && !fLt b a

/-- An integer as binary32. -/
def fOfInt (i : Int) : F32 := roundF (i : Rat)

/-- A pattern moved by a number of units in the last place. -/
def fUlps (a : F32) (k : Int) : F32 :=
  if !fFinite a then a
  else
    let code : Int := if fNeg a then -((a.toNat % 2 ^ 31 : Nat) : Int) else (a.toNat : Int)
    let c := code + k
    if c < 0 then fSigned true c.natAbs else fSigned false c.toNat

/-- A result within 2 units in the last place of the exactly rounded value (R232); how far off is free (log entry 5). -/
def fNear (q : Rat) : F32 := fUlps (roundF q) (Config.ulpError q % 5 - 2)

/-! ### Accumulation -/

/-- A value in a wide accumulator. -/
inductive Acc40 where
  | num (q : Rat)
  | inf (neg : Bool)
  | nan
  deriving DecidableEq, Repr

/-- Adding a term to an accumulator whose significand has `p` bits, each addition rounded, ties to even; infinities and NaN as IEEE 754
adds them. -/
def accAdd (p : Nat) (a : Acc40) (t : F32) : Acc40 :=
  match a with
  | .nan => .nan
  | .inf n => if fIsNaN t || (fIsInf t && fNeg t != n) then .nan else .inf n
  | .num q => if fIsNaN t then .nan else if fIsInf t then .inf (fNeg t) else .num (roundMant p (q + fVal t))

/-- The accumulator rounded once to binary32. -/
def accOut : Acc40 → F32
  | .num q => roundF q
  | .inf n => fInf n
  | .nan => fNaN

/-- The significand of the filter chain's accumulator: at least 40 bits (R247); how many more is free (log entry 6). -/
def wideBits : Nat := 40 + Config.extraBits

/-- A sum of binary32 terms in the accumulator of R247, rounded once. -/
def sumWide (ts : List F32) : F32 := accOut (ts.foldl (accAdd wideBits) (.num 0))

/-- A sum of products: each product binary32, accumulated, rounded once (R247). -/
def dotWide (as bs : List F32) : F32 := sumWide ((as.zip bs).map fun e => fMul e.1 e.2)

/-! ### The engines' arithmetic (R309) -/

/-- A subnormal taken as zero of the same sign. -/
def fFlush (a : F32) : F32 := if fExp a = 0 then fSigned (fNeg a) 0 else a
/-- Product of R309. -/
def eMul (a b : F32) : F32 := fFlush (fMul (fFlush a) (fFlush b))
/-- Quotient of R309. -/
def eDiv (a b : F32) : F32 := fFlush (fDiv (fFlush a) (fFlush b))
/-- Square root of R309. -/
def eSqrt (a : F32) : F32 := fFlush (fSqrt (fFlush a))
/-- The 40-bit accumulator of R309: exponent of 11 bits, so a magnitude from 2^1024 up overflows. -/
def eAdd (a : Acc40) (t : F32) : Acc40 :=
  match accAdd 40 a (fFlush t) with
  | .num q => if q < pow2 1024 ∧ -(pow2 1024) < q then .num q else .inf (decide (q < 0))
  | x => x
/-- The accumulated value as a binary32 result. -/
def eOut (a : Acc40) : F32 := fFlush (accOut a)
/-- A sum of terms under R309. -/
def eSum (ts : List F32) : F32 := eOut (ts.foldl eAdd (.num 0))
/-- A sum of products under R309. -/
def eDot (as bs : List F32) : F32 := eSum ((as.zip bs).map fun e => eMul e.1 e.2)
/-- A sum and difference of two terms under R309. -/
def ePlus (a b : F32) : F32 := eSum [a, b]
/-- Difference. -/
def eMinus (a b : F32) : F32 := eSum [a, fNegate b]

/-! ### Complex values -/

/-- A complex binary32 value. -/
structure Cpx where
  re : F32
  im : F32
  deriving DecidableEq, Repr

/-- NaN in both parts. -/
def cNaN : Cpx := { re := fNaN, im := fNaN }
/-- Zero. -/
def cZero : Cpx := { re := fZero, im := fZero }
/-- Conjugate, formed exactly (R309). -/
def cConj (a : Cpx) : Cpx := { a with im := fNegate a.im }
/-- NaN in either part. -/
def cIsNaN (a : Cpx) : Bool := fIsNaN a.re || fIsNaN a.im
/-- Finite in both parts. -/
def cFinite (a : Cpx) : Bool := fFinite a.re && fFinite a.im
/-- The value as 8 bytes (R10). -/
def cBytes (a : Cpx) : Bytes := leBytes 4 a.re.toNat ++ leBytes 4 a.im.toNat
/-- Magnitude, correctly rounded. -/
def cAbs (a : Cpx) : F32 :=
  if cIsNaN a then fNaN else if !cFinite a then fInf false
  else sqrtRat (fVal a.re * fVal a.re + fVal a.im * fVal a.im)
/-- Angle in radians. -/
def cArg (a : Cpx) : F32 := if cIsNaN a then fNaN else Config.atan2F a.im a.re
/-! ### Cosine and sine of a rational angle, far closer than any binary32 result shows (log entry 5) -/

/-- The first `n` terms of atan(1/m). -/
def atanInv (m n : Nat) : Rat :=
  ((List.range n).map fun k => (if k % 2 = 0 then 1 else -1 : Rat) / (((2 * k + 1) * m ^ (2 * k + 1) : Nat) : Rat)).sum

/-- π to more than 400 bits. -/
def piQ : Rat := 16 * atanInv 5 90 - 4 * atanInv 239 30

/-- An angle less the multiple of 2π that brings it next to 0. -/
def angleQ (x : Rat) : Rat := x - 2 * piQ * (((x / (2 * piQ) + 1 / 2).floor : Int) : Rat)

/-- The sum of `n` terms of which each is the one before, `t`, times −x² over (k + 1)(k + 2). -/
def trigSum (x2 : Rat) : Nat → Nat → Rat → Rat
  | 0, _, _ => 0
  | n + 1, k, t => t + trigSum x2 n (k + 2) (-(t * x2) / (((k + 1) * (k + 2) : Nat) : Rat))

/-- Cosine. -/
def cosQ (x : Rat) : Rat := let a := angleQ x; trigSum (a * a) 50 0 1
/-- Sine. -/
def sinQ (x : Rat) : Rat := let a := angleQ x; trigSum (a * a) 50 1 a

/-- (re + j·im) turned by an angle in radians: each part within 2 units in the last place (R232). -/
def rotated (re im angle : Rat) : Cpx :=
  if angle = 0 then { re := fNear re, im := fNear im }
  else { re := fNear (re * cosQ angle - im * sinQ angle), im := fNear (re * sinQ angle + im * cosQ angle) }
/-- π rounded to binary32. -/
def fPi : F32 := 0x40490FDB
/-- 2π rounded to binary32. -/
def fTwoPi : F32 := 0x40C90FDB
/-- wrap: an angle difference mapped into (−π, π] (R252). -/
def fWrap (a : F32) : F32 := if fLt fPi a then fSub a fTwoPi else if fLe a (fNegate fPi) then fAdd a fTwoPi else a

end Sys2Proof.Machine
end

