-- ==== Sys2Proof/Machine/State.lean ====
section
/-! DEFINITION. The state of the block as plain data. Register fields stand in three register files (main, backup domain,
fuses) under the keys of `Fld.key`; everything else the spec gives the block stands in the structures below, one or
more for each chapter. A structure's default is its value after reset. -/

namespace Sys2Proof.Machine

/-- What the block puts out: messages, frames and pins, in the order of `State.out`, newest first. -/
inductive Output where
  /-- an MSI-X message: function 0 or 1, vector (R91) -/
  | msix (fn vec : Nat)
  /-- a frame put on the wire of a port from a transmit queue -/
  | frame (port queue : Nat) (bytes : Bytes)
  /-- bytes written into host or core memory by DMA (R92) -/
  | dma (addr : Nat) (bytes : Bytes)
  /-- a message that leaves on a ring port whole, 0 EAST, 1 WEST: its last byte has been sent -/
  | ring (dir : Nat) (m : RingMsg)
  /-- a fragment of a message that goes on at a later holding: port, bytes -/
  | ringPart (dir bytes : Nat)
  /-- a token passed on: port, ring 0 E or 1 W, generation -/
  | token (dir ring gen : Nat)
  /-- a VCORE_F setpoint requested over AVSBus, in mV (R53) -/
  | avs (mv : Nat)
  /-- an MDIO transaction: operation, PHY, register, data (R186) -/
  | mdio (op phy reg data : Nat)
  /-- a wait object signalled for a core-owned ring (R164) -/
  | signal (obj : Nat)
  /-- a bus error to a core (R536) -/
  | busError
  /-- bytes written into the frame-staging part of the Carafe revision store (R158) -/
  | staging (addr : Nat) (bytes : Bytes)
  /-- a verify (false) or respond (true) mPacket sent on a port (R177) -/
  | mpacket (port : Nat) (respond : Bool)
  deriving DecidableEq, Repr

/-- One directory entry of a loaded roast with its records (R124, R125). -/
structure Section where
  kind : Nat
  inst : Nat := 0
  flags : Nat := 0
  firstTile : Nat := 0
  tileCount : Nat := 1
  recSize : Nat := 64
  salt : Nat := 0
  digest : Bytes := []
  recs : List Bytes := []
  deriving DecidableEq, Repr

/-- A roast held in a Carafe region (R119, R139): its header and its sections. -/
structure Roast where
  header : Bytes := []
  secs : List Section := []
  tag : Nat := 0
  deriving DecidableEq, Repr

/-- A tile copy that would fail its check (R128): region, copy, tile. -/
structure TileCopy where
  region : Nat
  copy : Nat
  tile : Nat
  deriving DecidableEq, Repr

/-- The two roast regions and what the loader and the scrubber hold (R138 to R150). -/
structure Roasts where
  /-- region 0 and region 1 -/
  region0 : Option Roast := none
  region1 : Option Roast := none
  /-- tile copies that are bad -/
  bad : List TileCopy := []
  /-- SRAM copies that are bad -/
  sramBad : List Nat := []
  /-- flash slot (or 2, the host buffer) the active roast came from -/
  activeSlot : Nat := 0
  /-- flash slot (or 2, the host buffer) a shadow load reads, and the shadow came from -/
  shadowSrc : Nat := 0
  /-- sections waiting for repair from source: region, directory index; at most 64 (R142) -/
  repairQueue : List (Nat × Nat) := []
  /-- elapsed time of the last repair-queue overflow logged -/
  overflowLogged : Option Tai := none
  /-- a repair delivery is being read -/
  repairBusy : Bool := false
  /-- scrubber reads in the pass in progress -/
  scrubReads : Nat := 0
  /-- slice D of a pending swap, and the instant of a request that is held -/
  swapD : Nat := 0
  swapAsked : Tai := 0
  /-- stages whose engines have not yet taken over the state that the swapped-in roast inherits: slices below D still wait there -/
  carry : List Nat := []
  /-- instant at which the retired roast's revision window ends, and the first slice of the new roast (R149) -/
  retireD : Nat := 0
  retireEnd : Tai := 0
  deriving DecidableEq, Repr

/-- One start's boot state (R66 to R88): cleared by every reset that restarts boot. -/
structure Boot where
  /-- a reset is in force -/
  inReset : Bool := true
  /-- kind of the reset in force, coded as BOOT_CAUSE.KIND -/
  kind : Nat := 0
  /-- straps sampled at the end of reset (R49) -/
  casId : Nat := 0
  testEn : Bool := false
  /-- BOOT_ELAPSED at entry of the step in progress -/
  stepMs : Nat := 0
  /-- the NVS copy of the previous ledger is to be read at step 3 (R76) -/
  useNvs : Bool := false
  /-- STAY_SAFE was set when the start began (R82); the lowest step that held ATTEMPTS 3 then (R81) -/
  stay : Bool := false
  safeStep : Option Nat := none
  /-- bytes before SECTIONS_BASE of the roast image accepted at step 7, and whether every tile written at step 8 was good -/
  head : Bytes := []
  tilesOk : Bool := true
  /-- health release has completed in this start (step 16) -/
  released : Bool := false
  /-- the watchdog runs (R84) -/
  wdtOn : Bool := false
  /-- the flash command in progress: OP and SLOT (R537) -/
  flash : Option (Nat × Bool) := none
  /-- elapsed time at which the reset ended (R48) -/
  endedAt : Tai := 0
  /-- ports that ledger step 12 has brought up in receive-only timing mode, by bit (R78) -/
  timing : Nat := 0
  deriving DecidableEq, Repr

/-- What the ledger remembers across starts beside its 16 entries (R73, R77), kept with it in the backup domain and the NVS. -/
structure LedgerMemory where
  /-- CRC-32C of the backup-domain copy valid (R76) -/
  copyOk : Bool := true
  /-- slot a group last failed on, and the slot remembered as good: firmware, roast -/
  fwFail : Option Bool := none
  roastFail : Option Bool := none
  fwGood : Option Bool := none
  roastGood : Option Bool := none
  /-- temperature (1/1000 °C) at which stored parameters of step 5 and step 6 were saved, where saved and valid -/
  train : Option Int := none
  cal : Option Int := none
  /-- the previous power-down violated R55 -/
  badPowerDown : Bool := false
  /-- a pending or held swap was abandoned by a reset (R150) -/
  swapAbandoned : Bool := false
  deriving DecidableEq, Repr

/-- A firmware image accepted in this start (R67, R68, R461). -/
structure FwRun where
  stage1Digest : Bytes := []
  stage1Svn : Nat := 0
  pubkey : Bytes := []
  mainDigest : Bytes := []
  mainSvn : Nat := 0
  /-- live update (R538): digest, SVN and API of the staged image -/
  staged : Option (Bytes × Nat × Nat) := none
  switched : Bool := false
  deriving DecidableEq, Repr

/-- The levels on the block's pins (R41, R59), as Booleans that are true for high, released or active. -/
structure Pins where
  /-- DEV_OK released -/
  devOk : Bool := false
  /-- bit k: ALM_OUTk driven low; bit k: PLSk driven low; bit k: XTRIGk driven low -/
  almLow : Nat := 0
  plsLow : Nat := 0
  xtrigLow : Nat := 0
  casPpsLow : Bool := false
  ppsOut : Bool := false
  /-- PWR_ON driven high (R492) -/
  pwrOn : Bool := true
  /-- bit p: port p's transmitter active (not squelched); ports 0 to 6, then 7 EAST, 8 WEST -/
  txActive : Nat := 0
  /-- bit p: the lanes of port p have passed SerDes calibration in this start (R47); ports as in txActive -/
  calibrated : Nat := 0
  deriving DecidableEq, Repr

/-- Conditions that the outside holds between commands. -/
structure Env where
  /-- junction temperature, 1/1000 °C -/
  junction : Int := 25000
  /-- PERST_N low; the PCIe link up -/
  perst : Bool := false
  link : Bool := true
  /-- VBAT absent or below 1.65 V -/
  vbatAbsent : Bool := false
  /-- the crystal has edges -/
  crystal : Bool := true
  /-- VDDIO18 and VDDIO33, the supplies of the banks B18 and B33, are present (R59) -/
  io18 : Bool := false
  io33 : Bool := false
  /-- VDD_SD in mV (R47) -/
  sdMv : Nat := 0
  deriving DecidableEq, Repr

/-- Ownership and snapshots (R99 to R104). -/
structure HostIf where
  /-- a snapshot copy in progress, by requester set 0 PF0, 1 PF1, 2 cores, 3 security core -/
  snapBusy : List Nat := []
  /-- elapsed time of the last denial (R100) -/
  deniedAt : Option Tai := none
  /-- the signature a running verification started with -/
  claimSig : Bytes := []
  /-- the MSI-X tables of PF0 and PF1 by byte offset of a dword; a dword not listed has not been written (R89) -/
  msix0 : List (Nat × Nat) := []
  msix1 : List (Nat × Nat) := []
  deriving DecidableEq, Repr

/-- The configuration transaction, the CRC scan and the swap request (R107 to R117, R145). -/
structure Cfg where
  /-- staged registers: offset and value, newest staging of a register replacing the earlier -/
  staged : List (Nat × Nat) := []
  /-- elapsed time at which the BEGIN, and instant at which the commit, was accepted -/
  beginAt : Tai := 0
  commitAt : Tai := 0
  /-- a scan in progress: the CRC of the values at its start -/
  scan : Option Nat := none
  /-- consecutive complete scans that differed -/
  differing : Nat := 0
  deriving DecidableEq, Repr

/-- A reference's history (R193 to R195). -/
structure RefHist where
  /-- samples of the qualification period, newest first: elapsed time and offset (2^-16 ns; kind 3: 2^-16 ppb) -/
  samples : List (Tai × Int) := []
  /-- elapsed time of the first sample of the period that has run without a gap since the last disqualification -/
  goodSince : Option Tai := none
  /-- elapsed time since which it has been qualified -/
  qualSince : Option Tai := none
  /-- the last IRIG-B time decoded: UTC seconds since 1970, second of the day, a deletion announced -/
  lastTod : Option (Nat × Nat × Bool) := none
  deriving DecidableEq, Repr

/-- The time base and its servo (R188 to R219). -/
structure TimeB where
  /-- internal TAI time now: the instant the latest command came at -/
  tai : Tai := 0
  /-- the counter in 2^-64 ns at the 800 MHz cycle that has reached that instant, and the cycles counted (R188) -/
  ctr : Nat := 0
  cycles : Nat := 0
  /-- time-base time since the supply of the model's run began, which no step moves -/
  elapsed : Tai := 0
  /-- integral frequency of R197, fractional -/
  yI : Rat := 0
  /-- phase still to be slewed, 2^-64 ns, signed -/
  slew : Int := 0
  /-- TAI instant of the latest 1 ms tick since a step -/
  lastTick : Option Tai := none
  /-- step requested by the servo and by the host, applied at the next tick -/
  servoStep : Option Int := none
  hostStep : Option Int := none
  refs : List RefHist := []
  /-- a sample of the selected reference has been taken since its selection; the time was valid at the selection -/
  firstSample : Bool := true
  todAtSel : Bool := false
  /-- consecutive samples within LOCK_NS -/
  inLock : Nat := 0
  /-- last offset of the selected reference, 2^-16 ns -/
  lastOff : Int := 0
  /-- holdover: elapsed time of entry, error at entry (2^-16 ns), and where the class changed -/
  holdFrom : Tai := 0
  holdE0 : Rat := 0
  /-- elapsed time of the last LOCKED -/
  lastLocked : Option Tai := none
  /-- REF10M_IN was qualified at the latest tick of this holdover -/
  hold10m : Bool := false
  /-- the selected reference went with the roast that named it: the error estimate then reached (R192) -/
  lostErr : Option Rat := none
  /-- elapsed time at which the pulse on PPS_OUT ends (R219) -/
  ppsUntil : Option Tai := none
  /-- changes of TSU_UTC.OFFSET, newest first, at most 16: instant, offset before (R231) -/
  utcHist : List (Tai × Int) := []
  /-- TAI instant at which TSU_UTC.PENDING was last set, and a leap that was cleared too late to be cancelled (R217) -/
  pendAt : Tai := 0
  leapHeld : Nat := 0
  /-- a step applied and not yet treated by the aligner (R190) -/
  stepped : Option Int := none
  /-- frequency samples of REF10M_IN while LOCKED, newest first, 2^-48 (R199) -/
  ref10m : List Int := []
  /-- TDC lookup tables: channel, 64 entries in 2^-16 ns; a channel not listed has had no good table since reset (R202, R203) -/
  tdcTab : List (Nat × List Nat) := []
  deriving DecidableEq, Repr

/-- A key slot (R465). `value` is the XOR of the two shares of a secret slot, and `mask` is share 0. -/
structure KeySlot where
  valid : Bool := false
  /-- 0 hash, 1 public key, 2 derived -/
  kind : Nat := 2
  value : Bytes := []
  /-- share 0 of a secret slot, 256 bits -/
  mask : Nat := 0
  sign : Bool := false
  derive : Bool := false
  parent : Nat := 0
  gen : Nat := 0
  depth : Nat := 0
  deriving DecidableEq, Repr

/-- One record of the key journal (R469). -/
structure JournalRec where
  seq : Nat := 0
  gId : Nat := 0
  gSeal : Nat := 0
  gens : List Nat := []
  fwFloor : Nat := 0
  slots : List Bytes := []
  tamperCfg : Nat := 0
  /-- CRC-32C and COMMIT word valid -/
  valid : Bool := false
  deriving DecidableEq, Repr

/-- A key command in progress (R466, R467). -/
structure KeyJob where
  op : Nat
  slot : Nat
  parent : Nat
  gen : Nat
  msg : Bytes
  label : Bytes
  msgLen : Nat
  labelLen : Nat
  uSign : Bool
  uDerive : Bool
  who : Requester
  deriving DecidableEq, Repr

/-- The enclave (R455 to R474). -/
structure Keys where
  /-- occupied slots by number -/
  slots : List (Nat × KeySlot) := []
  job : Option KeyJob := none
  /-- issuer of the last completed command, which alone reads KEY_OUT -/
  issuer : Option Requester := none
  /-- G_ID was raised: the next custody record starts a new chain (R464, R427) -/
  newChain : Bool := false
  deriving DecidableEq, Repr

/-- The fuse array beyond the states that registers show (R455). -/
structure Fuses where
  root : Bytes := []
  vendorHash : Bytes := []
  lcTest : Bool := false
  lcDev : Bool := false
  lcProd : Bool := false
  lcRma : Bool := false
  debugAllowed : Bool := false
  gm : Bool := false
  tamperKill : Bool := false
  killed : Bool := false
  fwSvn : Nat := 0
  deriving DecidableEq, Repr

/-- A record accepted by the event recorder, not yet written (R493, R496). -/
structure LogRec where
  time : Tai
  code : Nat
  source : Nat
  timeInvalid : Bool
  suppressed : Nat
  data : Bytes
  deriving DecidableEq, Repr

/-- A checkpoint (R497). -/
structure Checkpoint where
  seq : Nat
  flags : Nat
  d : Bytes
  sig : Bytes
  deriving DecidableEq, Repr

/-- The event recorder's working state (R493 to R501). -/
structure Evr where
  /-- records on their way to the NVS, oldest first -/
  ready : List LogRec := []
  /-- records in the hold queue, oldest first -/
  held : List LogRec := []
  /-- the NVS is mounted (ledger step 3) -/
  mounted : Bool := false
  /-- records lost from the hold queue since it was last released -/
  lost : Nat := 0
  /-- token buckets: code, level (one token is 60 s of Tai units), elapsed time of the last refill -/
  buckets : List (Nat × Nat × Tai) := []
  /-- elapsed time at which FREEZE was set -/
  frozenAt : Option Tai := none
  /-- requester of a clear in progress, coded as KEY_STATUS.REQUESTER -/
  clearing : Option Nat := none
  deriving DecidableEq, Repr

/-- What a save of the energy totals holds (R429): integer parts by 28·element + 7·level + quantity, backlogs, the open interval's start
and flags, REC_SEQ and the hash of the newest record. -/
structure NrgSave where
  ints : List Nat := []
  backlogs : List Nat := []
  startTai : Tai := 0
  startSoc : Nat := 0
  flags : Nat := 0
  recSeq : Nat := 0
  prev : Bytes := []
  deriving DecidableEq, Repr

/-- One saved copy of the energy totals (R429): `ok` for MAGIC and CRC valid. -/
structure TotalsCopy where
  seq : Nat := 0
  ok : Bool := false
  d : NrgSave := {}
  deriving DecidableEq, Repr

/-- The nonvolatile store (R17): what survives every reset and loss of supply. -/
structure Nvs where
  ledger : List Nat := []
  ledgerOk : Bool := true
  fwPref : Bool := false
  roastPref : Bool := false
  roastFloor : Nat := 0
  j0 : JournalRec := {}
  j1 : JournalRec := {}
  /-- log entries by position, position 0 first (64 bytes each) -/
  log : List Bytes := []
  logFull : Bool := false
  nextSeq : Nat := 1
  chain : Bytes := List.replicate 64 0
  /-- newest first, at most 130 -/
  checkpoints : List Checkpoint := []
  tcomp : List Nat := []
  cert : Bytes := []
  /-- energy totals: copies A, B and C (R429) -/
  totals : List TotalsCopy := List.replicate 3 {}
  /-- custody records, newest first, at most 1,024 (R427) -/
  custody : List Bytes := []
  /-- Carafe rows remapped (R535): row numbers -/
  remap : List Nat := []
  deriving DecidableEq, Repr

/-- A bank of the residual-energy store (R432): BASE, energy since BASE's snapshot and since the one before, in 2^-32 of the unit, and the
pulse backlogs; `ok` for CRC and CONFIRM valid. -/
structure ResidualBank where
  base : Nat := 0
  ok : Bool := false
  new : List Nat := []
  prev : List Nat := []
  backlogs : List Nat := []
  deriving DecidableEq, Repr

/-- The calendar and the backup domain beyond its register fields (R477 to R492). -/
structure Backup where
  /-- seconds since 2000-01-01 00:00:00 and 1/32,768 s -/
  sec : Nat := 0
  sub : Nat := 0
  running : Bool := true
  /-- temperature-compensation accumulator, 2^-32 ticks, signed; raw ticks into the 32 s period; whole ticks of this
  period's trim (R484) -/
  acc : Int := 0
  pos : Nat := 0
  trim : Int := 0
  /-- a correct first write of the charger pair: value, requester, elapsed time (R481) -/
  chgFirst : Option (Nat × Requester × Tai) := none
  /-- residual store: the two periodic banks, whether bank 1 was written last, and the push (R432, R433) -/
  bank0 : ResidualBank := {}
  bank1 : ResidualBank := {}
  bankLast : Bool := false
  push : ResidualBank := {}
  /-- next capture record SEQ (R403) -/
  capSeq : Nat := 1
  /-- contents lost at a loss of supply: the domain's CRC is invalid -/
  crcOk : Bool := true
  /-- TSU_UTC holds an offset that was set since the contents were last lost (R216) -/
  utcOk : Bool := true
  /-- the second shown is the repeated 23:59:59 of an inserted leap second (R490) -/
  leapSecond : Bool := false
  /-- leap second: TAI instant at which the last one took effect, and whether it was a deletion (R218) -/
  leapAt : Option Tai := none
  leapDel : Bool := false
  /-- power-off requested, waiting for the save; elapsed time of the request (R492) -/
  offReq : Option Tai := none
  /-- events to be logged, and an alarm to be raised, once main power is present -/
  logOsf : Bool := false
  logRange : Bool := false
  irqAlarm : Bool := false
  deriving DecidableEq, Repr

/-- A 10 µs window of the replica loops (R523): its end, the lowest region rate in handshakes/s, whether every region was valid. -/
structure PaceWindow where
  t : Tai
  rate : Option Nat
  allValid : Bool
  deriving DecidableEq, Repr

/-- What the margin of a slice rests on for one engine (R524): engine, start and completion measured from C, lowest rate sampled. -/
structure EngineRun where
  e : Nat
  start : Tai
  stop : Tai
  rate : Option Nat
  deriving DecidableEq, Repr

/-- The pace monitor's run counts and requests (R523 to R534). -/
structure Pace where
  /-- consecutive certified slices with margin at or above HIGH_US, for the AVS step down and for restoring a rank -/
  avsRun : Nat := 0
  shedRun : Nat := 0
  /-- setpoint requested and not answered, with the elapsed time of the request -/
  avsReq : Option (Nat × Tai) := none
  /-- setpoint that the regulator did not answer -/
  avsFailReq : Option Nat := none
  /-- the AVS loop runs (step 15 passed) -/
  avsOn : Bool := false
  /-- the next slice is uncertified because engine 7 or 8 missed its window -/
  lateEngine : Bool := false
  /-- a slice has been judged in this start -/
  judged : Bool := false
  /-- the latest certified slice since the roast loaded or swapped in, by engine (R145) -/
  lastCert : Option (List EngineRun) := none
  /-- failed tests by unit: slices, within the last 1,000; and consecutive passes of units to be restored -/
  fails : List (Nat × List Nat) := []
  passes : List (Nat × Nat) := []
  /-- units to be retired at the close of the next slice -/
  retire : List Nat := []
  /-- recent windows of the replica loops, newest first, at most 1,024 -/
  windows : List PaceWindow := []
  /-- instant at which the junction was last found above 110 °C -/
  hotAt : Option Tai := none
  /-- corrected cache errors per core: core, elapsed times; Carafe rows: row, elapsed times -/
  cacheErrs : List (Nat × List Tai) := []
  rowErrs : List (Nat × List Tai) := []
  /-- rows being copied to their spares -/
  remapping : List Nat := []
  deriving DecidableEq, Repr

/-! ### Barista (R439 to R454) -/

/-- Where a frame offered to a transmit queue comes from (R174). -/
inductive TxSrc where
  /-- transmit ring r of port p -/
  | ring (p r : Nat)
  /-- PTP transmit ring of port p -/
  | ptp (p : Nat)
  /-- output stream k -/
  | ostream (k : Nat)
  /-- publication k of the alarm engine -/
  | alarm (k : Nat)
  /-- transparent clock -/
  | tc
  /-- HSR forwarding -/
  | hsr
  deriving DecidableEq, Repr

/-- A frame waiting for transmission, without FCS. -/
structure TxFrame where
  src : TxSrc
  bytes : Bytes := []
  tsReq : Bool := false
  oneStep : Bool := false
  /-- receive stamp of a frame the transparent clock forwards -/
  ingress : Tai := 0
  /-- where the descriptor is written back; its LEN and TS_REQ word -/
  descAddr : Nat := 0
  descWord : Nat := 0
  /-- the second copy of a frame sent on both S ports, which completes no descriptor -/
  copy : Bool := false
  deriving DecidableEq, Repr

/-- A port's transmit side (R174 to R179). -/
structure Port where
  /-- queues 0 to 7, each oldest frame first -/
  queues : List (List TxFrame) := List.replicate 8 []
  /-- queue and frame in transmission -/
  cur : Option (Nat × TxFrame) := none
  /-- a preemptable frame interrupted by express frames -/
  held : Option (Nat × TxFrame) := none
  /-- verify mPackets sent since verification began -/
  tries : Nat := 0
  /-- M0: low-power idle deasserted, TW_SYS runs (R185) -/
  waking : Bool := false
  /-- frames of HSR forwarding waiting for a full queue: queue and frame (R183) -/
  hsrWait : List (Nat × TxFrame) := []
  deriving DecidableEq, Repr

/-- An entry of duplicate discard, or of HSR forwarding in one direction (R183, R184). -/
structure DupEntry where
  /-- 0 delivered; 1 forwarded to S1; 2 forwarded to S0 -/
  dir : Nat := 0
  src : Bytes
  seq : Nat
  /-- elapsed time the first copy arrived -/
  at_ : Tai
  deriving DecidableEq, Repr

/-- A packet in an ingress queue (R165, R166). -/
structure IngPacket where
  seq : Nat := 0
  port : Nat := 0
  stamp : Tai := 0
  vid : Nat := 0
  pcp : Nat := 0
  tagged : Bool := false
  /-- 0 SV, 1 GOOSE, 2 UDP -/
  cls : Nat := 0
  udpIdx : Nat := 0
  lanB : Bool := false
  /-- the frame without tag and FCS -/
  data : Bytes := []
  /-- the last word is of KIND 2 -/
  good : Bool := true
  deriving DecidableEq, Repr

/-- An ingress queue: its packets, head first, and the next SEQ. -/
structure IngQueue where
  packets : List IngPacket := []
  nextSeq : Nat := 0
  /-- the packet still arriving was discarded by Dregs: the writer stores nothing more of it (R171) -/
  cut : Bool := false
  deriving DecidableEq, Repr

/-- The Ethernet ports and ingress queues (R151 to R187). A port or queue not listed is at its default. -/
structure Ports where
  port : List (Nat × Port) := []
  ing : List (Nat × IngQueue) := []
  /-- duplicate-discard and forwarding entries, oldest first -/
  dup : List DupEntry := []
  /-- the node's sequence number under PRP and HSR -/
  redSeq : Nat := 0
  /-- ring events: ring, elapsed time of the last one, one pending (R164) -/
  ringEv : List (Ring × Tai × Bool) := []
  /-- MDIO operation in progress: OP -/
  mdio : Option Nat := none
  deriving DecidableEq, Repr

/-- A thread control block (R441). -/
structure Tcb where
  context : Nat := 0
  prio : Nat := 0
  affinity : Nat := 0
  /-- 0 FREE, 1 READY, 2 RUNNING, 3 WAITING, 4 SUSPENDED, 5 FAULTED -/
  state : Nat := 0
  /-- object waited on, or that woke the thread -/
  obj : Nat := 0
  /-- reason of SCH_GETWORK for the next hand-out -/
  reason : Nat := 0
  /-- elapsed time at which a finite wait ends -/
  until_ : Option Tai := none
  /-- SUSPEND is to take effect when the thread next yields, waits or exits -/
  suspend : Bool := false
  deriving DecidableEq, Repr

/-- A wait object (R446). -/
structure WaitObj where
  sem : Bool := false
  count : Nat := 0
  deriving DecidableEq, Repr

/-- A physical core as Barista sees it. -/
structure Core where
  running : Option Nat := none
  /-- stalled in SCH_GETWORK since this elapsed time -/
  stalled : Option Tai := none
  /-- preempt request: elapsed time, thread it was raised for (none: draining), already counted late -/
  preempt : Option (Tai × Option Nat × Bool) := none
  /-- released from reset into a staged firmware image that is not committed (R538) -/
  newImage : Bool := false
  deriving DecidableEq, Repr

/-- An item of an ordered flow (R449). -/
structure FlowItem where
  seq : Nat
  done : Bool := false
  /-- elapsed time of the post -/
  posted : Tai := 0
  /-- output stream, slice, frame, and the earliest instant it may enter its queue -/
  out : Option (Nat × Nat × Bytes × Tai) := none
  deriving DecidableEq, Repr

/-- An ordered flow. -/
structure Flow where
  next : Nat := 0
  items : List FlowItem := []
  /-- released items not yet taken: sequence, status -/
  released : List (Nat × Nat) := []
  deriving DecidableEq, Repr

/-- A migration in progress (R451). -/
structure Migration where
  fromCore : Nat
  toCore : Nat
  retain : Bool
  at_ : Tai
  deriving DecidableEq, Repr

/-- Barista's state. A thread, object, core or flow not listed is at its default. -/
structure Barista where
  tcbs : List (Nat × Tcb) := []
  /-- READY threads in the order they joined; the queue of a priority is its threads in this order -/
  ready : List Nat := []
  /-- waiting threads with their objects, longest waiting first -/
  waiting : List (Nat × Nat) := []
  objs : List (Nat × WaitObj) := []
  cores : List (Nat × Core) := []
  flows : List (Nat × Flow) := []
  migration : Option Migration := none
  /-- released UDP output frames not yet in their queue: stream, slice, frame, earliest instant (R298) -/
  outHeld : List (Nat × Nat × Bytes × Tai) := []
  deriving DecidableEq, Repr

/-! ### Ingest (R221 to R241) -/

/-- A GOOSE status point as the parser delivers it (R236). -/
structure GoosePoint where
  /-- 0 intermediate, 1 open, 2 closed, 3 bad -/
  pos : Nat := 3
  /-- validity of the quality element, 0 good -/
  validity : Nat := 0
  test : Bool := false
  stNum : Nat := 0
  /-- event time t as the frame carries it, and the receive stamp -/
  evT : Nat := 0
  rx : Tai := 0
  stale : Bool := false
  mismatch : Bool := false
  deriving DecidableEq, Repr

/-- A GOOSE subscription's timing: last receive stamp, timeAllowedToLive in ms, STALE delivered. -/
structure GooseSub where
  rx : Tai
  ttl : Nat
  stale : Bool := false
  deriving DecidableEq, Repr

/-- The keys and the replay window of an IEC 61850-90-5 stream (R235). -/
structure SpduKeys where
  cur : Option (Nat × Bytes) := none
  next : Option (Nat × Bytes) := none
  /-- highest SPDU number accepted, and those accepted among the last 64 -/
  highest : Option Nat := none
  seen : List Nat := []
  deriving DecidableEq, Repr

/-- A staged item of re-templating (R238): stream, whether it is a record image, the image. -/
structure StagedItem where
  stream : Nat
  isRec : Bool
  image : Bytes
  deriving DecidableEq, Repr

/-- The parser's state. -/
structure Ingest where
  /-- source served last -/
  last : Nat := 6
  /-- live templates and live first records that re-templating changed, by stream -/
  liveTpl : List (Nat × Bytes) := []
  liveRec : List (Nat × Bytes) := []
  staged : List StagedItem := []
  /-- groups resumed since their latest suspension: first stream, resume slice -/
  resume : List (Nat × Nat) := []
  /-- result of the template command in progress (R241), and whether it completes one -/
  tplJob : Option Nat := none
  /-- streams suspended in the shadow of a pending swap (R239) -/
  shadowSusp : List Nat := []
  keys : List (Nat × SpduKeys) := []
  /-- hand-on buckets by source: level (one token is 1 s of Tai units), elapsed time of the last refill -/
  buckets : List (Nat × Nat × Tai) := []
  points : List (Nat × GoosePoint) := []
  subs : List (Nat × GooseSub) := []
  /-- while the old roast is RETIRING (R149): its stream enables and suspensions as words of ING_EN and ING_SUSP, its live
  templates and records, and its resume slices -/
  oldEn : List Nat := []
  oldSusp : List Nat := []
  oldTpl : List (Nat × Bytes) := []
  oldRec : List (Nat × Bytes) := []
  oldResume : List (Nat × Nat) := []
  deriving DecidableEq, Repr

/-! ### The filter chain (R242 to R263) -/

/-- A sample at the input of a stage: represented instant, value, flags with INVALID as bit 1, TEST as bit 2, QUESTIONABLE as bit 4. -/
structure FltSample where
  t : Tai
  v : F32
  flags : Nat := 0
  deriving DecidableEq, Repr

/-- A resampler output: ordinal since the group's latest reset, number within the epoch in fixed mode, represented instant, value,
flags with SETTLING as bit 0, INVALID as bit 1, TEST as bit 2. -/
structure FltOut where
  k : Nat
  j : Nat
  t : Tai
  v : F32
  flags : Nat := 0
  deriving DecidableEq, Repr

/-- A lane (R242 to R249). -/
structure FltLane where
  /-- the CIC's integrators and combs, 48-bit integers -/
  integ : List Int := List.replicate 5 0
  comb : List Int := List.replicate 5 0
  /-- CIC outputs, newest first, at most 64; how many since the last FIR output -/
  cic : List FltSample := []
  phase : Nat := 0
  /-- DC blocker -/
  acq : Nat := 0
  m : F32 := fZero
  /-- resampler inputs, oldest first, at most 64 -/
  x : List FltSample := []
  /-- ordinal, number and instant of the next output -/
  k : Nat := 0
  j : Nat := 0
  next : Tai := 0
  /-- outputs whose instant is earlier are SETTLING -/
  settle : Tai := 0
  /-- resampler outputs, newest first, at most 8,192 -/
  outs : List FltOut := []
  /-- outputs of a running kernel fade, and its L on the lane -/
  fade : Nat := 0
  fadeL : Nat := 0
  /-- FIR outputs of the group's running fade -/
  ffade : Nat := 0
  /-- an SV lane: next sample number expected, samples missing before it, last sample taken -/
  svNext : Option Nat := none
  miss : Nat := 0
  svLast : Option FltSample := none
  /-- the inputs before the first held were missing -/
  gapped : Bool := false
  deriving DecidableEq, Repr

/-- A cross-fade to a bank; each lane counts its own outputs since it started. -/
structure FltFade where
  target : Nat
  deriving DecidableEq, Repr

/-- A local group (R242, R249 to R258). -/
structure FltGroup where
  /-- instant of the latest synchronising reset -/
  resetAt : Tai := 0
  fade : Option FltFade := none
  /-- frequency tracked; latest frequency and its flags; reporting slice it belongs to -/
  fhat : F32 := fZero
  freq : F32 := fNaN
  freqFlags : Nat := 1
  lastN : Option Nat := none
  /-- no output sample since the reset has been other than SETTLING -/
  settling : Bool := true
  deriving DecidableEq, Repr

/-- A compare unit (R260): asserted, consecutive evaluations toward a change. -/
structure CmpUnit where
  on : Bool := false
  count : Nat := 0
  deriving DecidableEq, Repr

/-- The filter chain. A lane, group or unit not listed is at its default. -/
structure Filter where
  lanes : List (Nat × FltLane) := []
  groups : List (Nat × FltGroup) := []
  /-- coefficients written over the roast's: FIR at (2·group + bank)·64 + index, kernel at 4,096 + bank·4,096 + index -/
  edits : List (Nat × F32) := []
  kfade : Option FltFade := none
  units : List (Nat × CmpUnit) := []
  /-- TSU_QUALITY at recent ticks, newest first: tick, STAT_TQ, UNLOCKED, SYNC_ERR as bits [12:10], [9:8] and [3] -/
  tq : List (Tai × Nat) := []
  deriving DecidableEq, Repr

/-! ### The aligner (R264 to R299) -/

/-- The contents of a channel slot: value and quality word. A digital word stands in the real part's bits (R232). -/
structure SlotVal where
  v : Cpx
  q : Nat
  deriving DecidableEq, Repr

/-- A frame as the parser, a local group or the cascade hands it to the aligner (R265). -/
structure AlnFrame where
  /-- the streams of its blocks, the first one naming its class and rate -/
  streams : List Nat
  t : Tai
  stamp : Tai
  writes : List (Nat × SlotVal)
  deriving DecidableEq, Repr

/-- A slice that is not EMPTY: its buffer or history record and its header (R264, R289, R290). -/
structure Slice where
  n : Nat
  /-- 1 COLLECTING, 2 CLOSING, 3 CLOSED, 4 REVISING, 5 RETIRED, 6 SKIPPED -/
  state : Nat := 1
  /-- slots written, and substitutes of absent due slots -/
  slots : List (Nat × SlotVal) := []
  subs : List (Nat × SlotVal) := []
  /-- streams present -/
  streams : List Nat := []
  dup : Nat := 0
  /-- latest commit stamp written -/
  lastStamp : Tai := 0
  /-- own close rule met: instant, reason, LAST_REQ_STREAM -/
  met : Option (Tai × Nat × Nat) := none
  /-- its close waits for a place in the queue (R531) -/
  blocked : Bool := false
  /-- Req(n) at C_n -/
  req : List Nat := []
  /-- C_n and the window W_n -/
  closeAt : Tai := 0
  window : Tai := 0
  reason : Nat := 0
  flags : Nat := 0
  tag : Nat := 0
  reqSet : Nat := 0
  reqPresent : Nat := 0
  streamsPresent : Nat := 0
  slotsPresent : Nat := 0
  subst : Nat := 0
  unsubst : Nat := 0
  cls : Nat := 0
  lastReq : Nat := 0xFFFF
  bUs : Nat := 0
  lastArrival : Int := 0
  margin : Int := 0
  engineState : Nat := 0
  certified : Bool := false
  shed : Nat := 0
  quality : Nat := 0
  tsuErr : Nat := 0
  step : Int := 0
  /-- nonzero stream status codes (R291) -/
  status : List (Nat × Nat) := []
  revBits : List Nat := []
  revCount : Nat := 0
  lastRevMs : Nat := 0
  wseq : Nat := 0
  deriving DecidableEq, Repr

/-- The aligner's state. -/
structure Align where
  /-- slices that are not EMPTY, by index -/
  slices : List (Nat × Slice) := []
  /-- the revision journal in commit order -/
  journal : List (Nat × AlnFrame) := []
  /-- the two most recent measured values of a slot with a substitution record, newest first (R279) -/
  measured : List (Nat × List (Nat × Cpx)) := []
  /-- instant of the last close -/
  lastClose : Tai := 0
  /-- a step whose amount the next slice to close carries (R287) -/
  step : Option Int := none
  /-- identification of the next datagram of each output stream (R296) -/
  ident : List (Nat × Nat) := []
  /-- host-ring event: last, pending -/
  hostEv : Option (Tai × Bool) := none
  /-- slices a to b - 1 that a forward step passed over whole: SKIPPED, their history positions taken by later ones (R287) -/
  gap : Option (Nat × Nat) := none
  /-- history and open buffers that the Carafe kept over a reset, readable until the aligner starts afresh at ledger step 14 (R85) -/
  kept : List (Nat × Slice) := []
  deriving DecidableEq, Repr

/-! ### The per-slice schedule (R26 to R29) -/

/-- What the topology engine keeps of a switching device between slices (R355, R353, R370). -/
structure DevMem where
  known : Option Bool := none
  /-- stNum of the GOOSE points of SRC1 and SRC2 at the previous slice's snapshot -/
  st1 : Option Nat := none
  st2 : Option Nat := none
  held : Bool := false
  deriving DecidableEq, Repr

/-- A topology result (R355 to R363): the STATE words of the devices, labels and energised components of the latest valid result. -/
structure Topo where
  n : Nat := 0
  valid : Bool := false
  /-- STATE word of each device, bit 0 CLOSED -/
  devs : List Nat := []
  /-- label of each node -/
  labels : List Nat := []
  /-- labels of the energised components -/
  energised : List Nat := []
  /-- whether each node's LIVE_SLOT showed it live -/
  live : List Bool := []
  /-- frequency and nodes used of each component, by label -/
  freqs : List (Nat × F32 × Nat) := []
  cls : Nat := 0
  mainDead : Bool := false
  deriving DecidableEq, Repr

/-- An area's quantities in the latest island stage (R364). -/
structure AreaOut where
  f : F32 := fZero
  theta : F32 := fZero
  freqOk : Bool := false
  angleOk : Bool := false
  energised : Bool := false
  used : Nat := 0
  label : Nat := 0
  deriving DecidableEq, Repr

/-- A flag under the rule of R335: assert count, clear count, the flag. -/
structure Persist where
  a : Nat := 0
  c : Nat := 0
  on : Bool := false
  deriving DecidableEq, Repr

/-- An area pair (R365 to R367). -/
structure PairMem where
  /-- 0 NONE, 1 SUSPECT, 2 CONFIRMED -/
  state : Nat := 0
  dyn : Bool := false
  div : Persist := {}
  dth : F32 := fZero
  /-- the unwrapped difference starts again at the next slice with all four inputs -/
  fresh : Bool := true
  /-- the wrapped difference of the latest slice in which the angles were known -/
  prev : Option F32 := none
  /-- Δf, or the code of a slice that does not form it -/
  df : F32 := 0x7FC00030
  /-- the reading's bits of the latest slice -/
  separated : Bool := false
  unknown : Bool := false
  dead : Bool := false
  stale : Bool := false
  tileBad : Bool := false
  deriving DecidableEq, Repr

/-- An entry of the island list (R369). -/
structure IslandOut where
  label : Nat
  main : Bool
  nodes : Nat
  f : F32
  used : Nat
  deriving DecidableEq, Repr

/-- Topology and island engines (R351 to R373). -/
structure Isl where
  devs : List (Nat × DevMem) := []
  /-- latest valid topology result -/
  topo : Option Topo := none
  /-- the latest result of either engine, for the item windows: slice, stale -/
  topoSlice : Option Nat := none
  stale : Bool := false
  /-- STATE words of the devices in the latest completed slice -/
  words : List Nat := []
  islSlice : Option Nat := none
  areas : List (Nat × AreaOut) := []
  pairs : List (Nat × PairMem) := []
  islands : List IslandOut := []
  islandCount : Nat := 0
  deriving DecidableEq, Repr

/-- An entry of the estimator output ring with its summary (R319, R320). -/
structure LseOut where
  n : Nat
  x : List Cpx := []
  rn : List F32 := []
  /-- words 2 to 11 of the summary -/
  words : List Nat := []
  deriving DecidableEq, Repr

/-- The linear state estimator (R300 to R323). -/
structure Lse where
  /-- prior by node: value and slice; a node not listed is at V_INIT, marked INIT (R304) -/
  prior : List (Nat × Cpx × Nat) := []
  /-- output ring and summary store by position -/
  ring : List (Nat × LseOut) := []
  variant : Option Nat := none
  deriving DecidableEq, Repr

/-- A filter section's memory: x1, x2, y1, y2 (R329). -/
structure Biquad where
  x1 : F32 := fZero
  x2 : F32 := fZero
  y1 : F32 := fZero
  y2 : F32 := fZero
  deriving DecidableEq, Repr

/-- A band (R329 to R335). -/
structure Band where
  theta : List F32 := []
  /-- P, row by row -/
  p : List (List F32) := []
  y : List F32 := []
  e : List F32 := []
  m : F32 := fZero
  filt : List Biquad := List.replicate 4 {}
  roots : List Cpx := []
  /-- updates committed since the reset; consecutive missing updates -/
  committed : Nat := 0
  gap : Nat := 0
  /-- the signal was missing in a slice since the previous update; last signal that was not -/
  missing : Bool := false
  last : F32 := fZero
  lowDamp : Persist := {}
  growing : Persist := {}
  forced : Persist := {}
  highAmp : Persist := {}
  fPrev : Option F32 := none
  /-- RESET and STATE_ERR of the next result -/
  reset : Bool := true
  stateErr : Bool := false
  deriving DecidableEq, Repr

/-- A band's latest result (R333, R350). -/
structure BandOut where
  n : Nat
  f : F32
  damp : F32
  amp : F32
  root : Cpx
  flags : Nat
  deriving DecidableEq, Repr

/-- An energy-flow monitor (R336, R337). -/
structure Monitor where
  p : F32 := fZero
  q : F32 := fZero
  theta : F32 := fZero
  nu : F32 := fZero
  vArg : Option F32 := none
  filtP : List Biquad := List.replicate 4 {}
  filtQ : List Biquad := List.replicate 4 {}
  filtT : List Biquad := List.replicate 4 {}
  filtN : List Biquad := List.replicate 4 {}
  /-- filtered P, Q, θ, ν of the latest slice and of the previous update -/
  now : List F32 := []
  prev : List F32 := []
  missing : Bool := false
  /-- increments, oldest first, with whether each is missing -/
  incs : List (F32 × Bool) := []
  stateErr : Bool := false
  /-- latest result: slice, SLOPE, FLAGS, SIGN -/
  out : Option (Nat × F32 × Nat × Int) := none
  deriving DecidableEq, Repr

/-- A corridor (R338). -/
structure Corridor where
  raw : Nat := 0
  held : Nat := 0
  differs : Nat := 0
  verdict : Nat := 0
  /-- STATE_ERR of the next evaluation (R344) -/
  stateErr : Bool := false
  deriving DecidableEq, Repr

/-- A sub-synchronous watch (R340, R341). -/
structure SubSync where
  /-- S_k for k = K_LO − 1 to K_LO + NBIN -/
  bins : List (Acc40 × Acc40) := []
  /-- samples of the window, oldest first, with whether each was flagged -/
  window : List (F32 × Bool) := []
  high : Persist := {}
  stateErr : Bool := false
  /-- latest result: slice, PEAK_F, PEAK_RMS, FLAGS -/
  out : Option (Nat × F32 × F32 × Nat) := none
  deriving DecidableEq, Repr

/-- The oscillation engine (R324 to R350). -/
structure Osc where
  bands : List (Nat × Band) := []
  bandOut : List (Nat × BandOut) := []
  monitors : List (Nat × Monitor) := []
  corridors : List (Nat × Corridor) := []
  subs : List (Nat × SubSync) := []
  /-- decimated samples by lane: number, value, flagged (R339) -/
  samples : List (Nat × List (Nat × F32 × Bool)) := []
  /-- resets of all items that wait for the stage of a slice or a later one: the first slice after an aligner start, the slice after a SKIPPED
  one (R331) -/
  resets : List Nat := []
  /-- the command's item -/
  cmd : Option (Nat × Nat) := none
  deriving DecidableEq, Repr

/-- A stage's work on a slice: stage, start, end, BUDGET engine state (1 valid, 2 invalid, 3 shed), count of handshakes right. -/
structure StageDone where
  stage : Nat
  start : Tai
  stop : Tai
  state : Nat := 1
  exact : Bool := true
  ended : Bool := false
  deriving DecidableEq, Repr

/-- A sub-synchronous watch's SS_HIGH and latest result. -/
structure WatchRes where
  k : Nat
  on : Bool
  out : Option (Nat × F32 × F32 × Nat)
  deriving DecidableEq, Repr

/-- What the slice's island and oscillation stages left, as alarm pass 2 reads it (R380). -/
structure StageRes where
  /-- the island engine's results for the slice: pairs, island count -/
  pairs : List (Nat × PairMem) := []
  islandCount : Nat := 0
  /-- the oscillation engine's results as the slice's stage left them: bands with their latest results, flags LOW_DAMP, GROWING, FORCED,
  HIGH_AMP; corridor verdicts; watches' SS_HIGH and latest results -/
  bandOut : List (Nat × BandOut) := []
  bandFlags : List (Nat × List Bool) := []
  verdicts : List (Nat × Nat) := []
  watches : List WatchRes := []
  deriving DecidableEq, Repr

/-- A closed slice in the schedule. -/
structure Run where
  n : Nat
  closeAt : Tai
  /-- roast region that governs it, and the registers as they stood when it closed -/
  region : Nat
  regs : List (Nat × Nat) := []
  done : List StageDone := []
  /-- GOOSE points at C_n (R353) -/
  points : List (Nat × GoosePoint) := []
  /-- output streams enabled at C_n (R296) -/
  outputs : List Nat := []
  /-- resolved device states, once found (R357) -/
  topo : Option Topo := none
  /-- SYSTEM sources as they stood at C_n, bit by source number (R377) -/
  sys : Nat := 0
  /-- terms and rules asserted as alarm pass 1 of the slice decided them (R380) -/
  p1Terms : List Nat := []
  p1Rules : List Nat := []
  /-- results of the island and oscillation engines for the slice -/
  res : StageRes := {}
  /-- shed ranks in force for the slice (R529) -/
  shed : Nat := 0
  /-- its close was held back by a full queue (R531) -/
  heldBack : Bool := false
  deriving DecidableEq, Repr

/-! ### The Saucer (R388 to R393) -/

/-- The Saucer's buckets by port and queue: level (one byte is 1 s of Tai units) and elapsed time of the last refill; whether it has
refused anything since alarm pass 1 of the previous slice (R377). -/
structure Saucer where
  buckets : List ((Nat × Nat) × Nat × Tai) := []
  refused : Bool := false
  deriving DecidableEq, Repr

/-! ### Capture (R397 to R410) -/

/-- A trigger a record lists (R403). -/
structure CapTrig where
  source : Nat
  own : Bool := false
  merged : Bool := false
  n : Nat := 0
  t : Tai := 0
  deriving DecidableEq, Repr

/-- A sample as the wave ring holds it: represented instant, value, SETTLING, INVALID, TEST as bits 0 to 2, LOST as bit 3. -/
structure WaveSample where
  t : Tai
  v : F32
  flags : Nat := 0
  deriving DecidableEq, Repr

/-- A lane's block in a capture record (R402, R403). -/
structure CapLane where
  lane : Nat
  group : Nat
  frac : Nat := 0
  /-- i, relative to the block's first sample, in 32 bits: 2³² - 1 where i stands before it -/
  i : Nat := 0
  /-- the block's samples in order -/
  samples : List WaveSample := []
  deriving DecidableEq, Repr

/-- A capture record in a slot (R403). -/
structure CapRec where
  /-- 1 FILLING, 2 DONE, 3 ABORTED -/
  state : Nat := 1
  seq : Nat := 0
  profile : Nat := 0
  flags : Nat := 0
  t0 : Tai := 0
  nT : Nat := 0
  tag : Nat := 0
  casId : Nat := 0
  /-- the TYPE 2 record it opened with -/
  prof : Bytes := []
  trigs : List CapTrig := []
  more : Nat := 0
  lanes : List CapLane := []
  /-- slice entries written: slice, lost, contents after the index -/
  slices : List (Nat × Bool × Bytes) := []
  held : Bool := false
  crc : Nat := 0
  deriving DecidableEq, Repr

/-- An XTRIG line as this device sees it: elapsed time of its last falling edge, STUCK, driven by this device and since when, and slots of
records at whose end the line is re-armed. -/
structure XLine where
  since : Option Tai := none
  stuck : Bool := false
  driven : Bool := false
  drivenAt : Tai := 0
  rearm : List Nat := []
  deriving DecidableEq, Repr

/-- The capture engine. -/
structure Capture where
  /-- records by slot -/
  recs : List (Nat × CapRec) := []
  /-- the wave ring by lane, oldest first (R397) -/
  wave : List (Nat × List WaveSample) := []
  lines : List (Nat × XLine) := []
  /-- ARM commands received and not yet applied (R405): line bits armed, disarmed, in order of arrival -/
  arms : List (Nat × Nat) := []
  deriving DecidableEq, Repr

/-! ### The cascade (R504 to R522) -/

/-- A peer as its ring messages show it (R516, R517). -/
structure Peer where
  /-- ring tag of its latest message -/
  tag : Nat := 0
  /-- highest sequence number taken under that tag, and the recent ones -/
  seq : Option Nat := none
  seen : List Nat := []
  /-- slices for which a presence, and a healthy one, was received; newest first, at most 256 -/
  any : List Nat := []
  healthy : List Nat := []
  /-- own closed slices since its last presence -/
  quiet : Nat := 0
  known : Bool := false
  rate : Nat := 0
  taken : Nat := 0
  deriving DecidableEq, Repr

/-- A message waiting to be originated on a ring: 0 E, 1 W; bytes not yet sent. -/
structure RingOut where
  ring : Nat
  m : RingMsg
  left : Nat
  deriving DecidableEq, Repr

/-- The cascade block. -/
structure Cascade where
  /-- ring tag of this start (R505) and the next sequence number -/
  tag : Nat := 0
  seq : Nat := 0
  peers : List (Nat × Peer) := []
  out : List RingOut := []
  /-- tokens held, by ring: generation, and the bytes that the holding has left for the message in progress -/
  token : List (Nat × Nat) := []
  room : List (Nat × Nat) := []
  /-- last generation seen and elapsed time a token was last seen, by ring -/
  gens : List (Nat × Nat) := []
  seenAt : List (Nat × Tai) := []
  /-- takeovers not yet applied: peer, instant the TAKEOVER was sent -/
  takes : List (Nat × Option Tai) := []
  /-- TAKEOVER messages received: peer, sender, own slice last closed then -/
  heard : List (Nat × Nat × Nat) := []
  /-- peers to be released at the next close -/
  release : List Nat := []
  /-- elapsed time of the last CAS_PPS edge, and a miss counted since -/
  ppsAt : Tai := 0
  ppsMissed : Bool := false
  deriving DecidableEq, Repr

/-! ### Energy (R411 to R437) -/

/-- P', Q', S' of the three phases of a cycle. -/
structure CyclePower where
  p : List F32
  q : List F32
  s : List F32
  deriving DecidableEq, Repr

/-- A metering element (R411 to R420). -/
structure NrgElem where
  /-- reset of its group that the cycles are counted from; next cycle -/
  epoch : Option Tai := none
  cyc : Nat := 0
  /-- end of the time accounted for -/
  lastEnd : Tai := 0
  lastGood : Option CyclePower := none
  /-- time bridged since the last good cycle; a good cycle has come since the engine started -/
  bridged : Tai := 0
  everGood : Bool := false
  /-- corrected RMS of the current members over recent good cycles, newest first; OC of the phases -/
  oc : List (List F32) := []
  ocOn : List Bool := List.replicate 3 false
  /-- parts of a mWh (2^-32) bridged and of a millisecond not accumulated that the counters do not show yet -/
  bridgedRest : Nat := 0
  gapRest : Tai := 0
  deriving DecidableEq, Repr

/-- A pulse output (R421, R422): instants in elapsed time. -/
structure Pulse where
  started : Option Tai := none
  ended : Option Tai := none
  /-- end of the pulse in progress -/
  until_ : Option Tai := none
  cross : Option Tai := none
  crossBefore : Option Tai := none
  deriving DecidableEq, Repr

/-- The energy engine. -/
structure Nrg where
  /-- accumulators in 2^-32 of the unit, by 28·element + 7·level + quantity -/
  acc : List Nat := List.replicate 112 0
  elems : List (Nat × NrgElem) := []
  /-- the open interval: start, elapsed time of the start (below 0 where it began before the reset), its boundary and length in minutes, a
  time step moved past its boundary, flags, flags of the elements, maximum demands -/
  startSoc : Nat := 0
  startTai : Tai := 0
  startEl : Int := 0
  endSoc : Nat := 0
  minutes : Nat := 0
  passedBy : Bool := false
  flags : Nat := 0
  elemFlags : List Nat := List.replicate 4 0
  maxDem : List F32 := List.replicate 4 fZero
  /-- accumulators at the ends of demand sub-intervals, newest first: elapsed time, accumulators; end of the one in progress -/
  marks : List (Tai × List Nat) := []
  demEnd : Nat := 0
  pulses : List (Nat × Pulse) := []
  /-- a save in progress -/
  saving : Option NrgSave := none
  /-- the second at which the latest due save was taken up -/
  savedAt : Option Tai := none
  /-- sequence of the latest save started; accumulators at its snapshot and at the one before -/
  seq : Nat := 0
  snapNow : List Nat := List.replicate 112 0
  snapPrev : List Nat := List.replicate 112 0
  /-- the residual store is to be cleared when the save in progress completes -/
  clearStore : Bool := false
  recSeq : Nat := 0
  prev : Bytes := List.replicate 64 0
  /-- flags and bounds of a restore for the next record; a record was overwritten unacknowledged -/
  pendFlags : Nat := 0
  bounds : List Nat := List.replicate 4 0
  /-- R435 waits for valid time -/
  deciding : Bool := false
  /-- wraps since the previous snapshot: holding set, 7·element + quantity, count -/
  wraps : List ((Nat × Nat) × Nat) := []
  deriving DecidableEq, Repr

/-! ### Alarms (R374 to R386) -/

/-- A term's state (R376) and its latest evaluation (R395). -/
structure TermMem where
  on : Bool := false
  a : Nat := 0
  c : Nat := 0
  /-- no valid evaluation has followed the start -/
  fresh : Bool := true
  n : Nat := 0
  x : F32 := fZero
  valid : Bool := false
  start : Bool := false
  notDue : Bool := false
  deriving DecidableEq, Repr

/-- A publication (R384). -/
structure PubMem where
  st : Nat := 0
  sq : Nat := 0
  /-- bits as last sent -/
  bits : List Bool := []
  /-- instant its state was decided: t_n of the slice, or of a mask write -/
  at_ : Tai := 0
  /-- retransmissions since the change frame; instant the next one is scheduled; SPDU number of the next frame -/
  j : Nat := 0
  next : Option Tai := none
  spdu : Nat := 0
  /-- time quality at the decision: STAT bits [13], [8:6], [5:4], and the FRACSEC code -/
  stat : Nat := 0
  tq : Nat := 0
  deriving DecidableEq, Repr

/-- The alarm engine. A term not listed has its value at a start; rules listed are asserted. -/
structure Alarm where
  terms : List (Nat × TermMem) := []
  rules : List Nat := []
  /-- release requests not yet consumed (R379) -/
  acks : List Nat := []
  pubs : List (Nat × PubMem) := []
  /-- keys of publications with SECURITY 1: key ID, key -/
  keys : List (Nat × Nat × Bytes) := []
  /-- terms and asserted rules of the roast before a swap, while pass 2 of a slice below D is still to come (R386) -/
  prev : Option (List (Nat × TermMem) × List Nat) := none
  /-- region of the roast whose terms, rules and mappings are in force (R386) -/
  region : Nat := 0
  /-- mapping records in a BAD tile at the latest pass, which map nothing until the next -/
  badMaps : List Nat := []
  deriving DecidableEq, Repr

/-- Faults: a step of this block never ends in one. -/
inductive Fault where
  /-- raised by no command: the spec describes no stop of the block; safe -/
  | stopped
  deriving DecidableEq, Repr

/-- Refusals. -/
inductive Refusal where
  /-- the command has no meaning in this model yet; raised by its arm of exec; safe -/
  | notModelled (mnemonic : String)
  deriving DecidableEq, Repr

/-- The state of the block. -/
structure State where
  /-- commands waiting, oldest first (the model's own queue) -/
  pending : List Instr := []
  /-- main register fields, backup-domain fields and fuse-sensed fields that differ from their reset values -/
  regs : RegFile := []
  bkp : RegFile := []
  fuse : RegFile := []
  /-- keys of the RWL fields that the active roast locks (R11, R133), rising -/
  locks : List Nat := []
  /-- the model's own counter of free values taken (log entry 1) -/
  freeCount : Nat := 0
  /-- what the block has put out, newest first -/
  out : List Output := []
  boot : Boot := {}
  ledger : LedgerMemory := {}
  fw : FwRun := {}
  pins : Pins := {}
  env : Env := {}
  host : HostIf := {}
  cfg : Cfg := {}
  roasts : Roasts := {}
  time : TimeB := {}
  keys : Keys := {}
  fuses : Fuses := {}
  evr : Evr := {}
  nvs : Nvs := {}
  backup : Backup := {}
  pace : Pace := {}
  sch : Barista := {}
  ports : Ports := {}
  ing : Ingest := {}
  flt : Filter := {}
  aln : Align := {}
  /-- closed slices in the schedule, in slice order -/
  runs : List Run := []
  isl : Isl := {}
  lse : Lse := {}
  osc : Osc := {}
  sau : Saucer := {}
  cap : Capture := {}
  nrg : Nrg := {}
  alm : Alarm := {}
  cas : Cascade := {}
  deriving DecidableEq, Repr

/-- Point k of the initial temperature curve (R485): the parabola -0.034 ppm/°C² about 25 °C, in 2^-6 ppm at -45 °C + 5k °C,
rounded to nearest. -/
def initialCurve (k : Nat) : Int := -roundDiv (544 * (((k : Int) - 14) * ((k : Int) - 14))) 10

/-- The backup domain at first backup power (R478): OSF and FIRST_POWER set, the initial temperature curve, every other field
at its initial value. -/
def initialBackup : RegFile :=
  (List.range 32).foldl (fun r k =>
      r.set 0 (Reg.BKP_TCOMP.POINT.ix k).key (codeOf 16 (initialCurve k)))
    ((RegFile.set 0 Reg.RTC_STATUS.OSF.key 1 []).set 0 Reg.BKP_STATUS.FIRST_POWER.key 1)

/-- The machine right after reset: the power-on reset is in force at first backup power, and every register holds its reset
value. -/
def State.reset : State := { bkp := initialBackup, backup := { crcOk := false, utcOk := false }, ledger := { copyOk := false } }

end Sys2Proof.Machine
end

