-- ==== Sys2Proof/Machine/Ops.lean ====
section
/-! DEFINITION. The named operations every meaning is built from: reading and writing a register field, raising an
interrupt, counting, taking a free value, logging an event, the roast's sections, and the checks on a requester. -/

namespace Sys2Proof.Machine

/-- The bank of a requester's own registers. -/
def Requester.bank : Requester → Nat
  | .pf0 => 1
  | .pf1 => 2
  | .sec => 3
  | .core k => 16 + k

/-- The holding set of a requester: PF0, PF1, the application cores together, the security core (R103). -/
def Requester.holdSet : Requester → Nat
  | .pf0 => 0
  | .pf1 => 1
  | .core _ => 2
  | .sec => 3

/-- A requester as KEY_STATUS.REQUESTER codes it. -/
def Requester.code : Requester → Nat
  | .pf0 => 0
  | .pf1 => 0
  | .core _ => 1
  | .sec => 2


/-- The answer of every meaning. -/
abbrev Out := Host.Outcome State Fault Refusal

/-- The register file of a domain. -/
def State.file (s : State) : Dom → RegFile
  | .main => s.regs
  | .bkp => s.bkp
  | .fuse => s.fuse

/-- The value of a register field (R11, R12). -/
def State.get (s : State) (f : Fld) : Nat := (s.file f.dom).get f.rst f.key

/-- Storing a value in a register field, reduced to the field's width. -/
def State.set (s : State) (f : Fld) (v : Nat) : State :=
  match f.dom with
  | .main => { s with regs := s.regs.set f.rst f.key (v % 2 ^ f.width) }
  | .bkp => { s with bkp := s.bkp.set f.rst f.key (v % 2 ^ f.width) }
  | .fuse => { s with fuse := s.fuse.set f.rst f.key (v % 2 ^ f.width) }

/-- A one-bit field as a Boolean. -/
def State.flag (s : State) (f : Fld) : Bool := s.get f == 1

/-- Storing a Boolean in a one-bit field. -/
def State.setFlag (s : State) (f : Fld) (b : Bool) : State := s.set f (b2n b)

/-- A field as a signed number of its width. -/
def State.getInt (s : State) (f : Fld) : Int := signedOf f.width (s.get f)

/-- Storing a signed number, held to the field's range (R10). -/
def State.setInt (s : State) (f : Fld) (i : Int) : State := s.set f (codeOf f.width (saturate f.width i))

/-- A saturating count (counters of R102 saturate). -/
def State.count (s : State) (f : Fld) (n : Nat := 1) : State := s.set f (min (s.get f + n) (2 ^ f.width - 1))

/-- One bit of a field. -/
def State.bit (s : State) (f : Fld) (k : Nat) : Bool := bitAt (s.get f) k

/-- Setting or clearing one bit of a field. -/
def State.putBit (s : State) (f : Fld) (k : Nat) (b : Bool) : State := s.set f (setBit (s.get f) k b)

/-- The bank of a holding set. -/
def holdBank (n : Nat) : Nat := 32 + n

/-- A requester's own copy of a field. -/
def Fld.of (f : Fld) (who : Requester) : Fld := if f.perReq then f.inBank who.bank else f

/-- Putting out a message or a frame. -/
def State.emit (s : State) (o : Output) : State := { s with out := o :: s.out }

/-- Raising a vector on PF0 and PF1 (R91 and the blocks' register chapters). -/
def State.vector (s : State) (v : Nat) : State := (s.emit (.msix 0 v)).emit (.msix 1 v)

/-- Hardware sets an interrupt bit; the vector is raised where the mask lets it (each IRQ_MASK table: 1 lets the matching bit
raise the vector). Log entry 9: every set raises it. -/
def State.irq (s : State) (f m : Fld) (vec : Nat) : State :=
  if s.bit m (f.lsb - m.lsb) then (s.set f (2 ^ f.width - 1)).vector vec else s.set f (2 ^ f.width - 1)

/-- Hardware sets bit `k` of a field of interrupt bits. -/
def State.irqBit (s : State) (f m : Fld) (k vec : Nat) : State :=
  if s.bit m (f.lsb + k - m.lsb) then (s.putBit f k true).vector vec else s.putBit f k true

/-- A free value of `w` bits (log entry 1). -/
def State.freeVal (s : State) (w : Nat) : Nat := Config.freeNat s.freeCount % 2 ^ w

/-- A free bit (log entry 1). -/
def State.freeBit (s : State) : Bool := Config.freeBool s.freeCount

/-- The counter of free values moves on. -/
def State.tookFree (s : State) : State := { s with freeCount := s.freeCount + 1 }

/-- A level held for `ns` at an input with a glitch filter (R50): ignored below 100 ns, accepted from 200 ns on; in between either, free at
each occurrence (log entry 1). -/
def State.glitch (s : State) (ns : Nat) (f : State → State) : State :=
  if ns < 100 then s else if ns < 200 then (if s.freeBit then (f s).tookFree else s.tookFree) else f s

/-! ### CRC-32C (R114) -/

/-- One bit of the reflected CRC with polynomial 0x1EDC_6F41. -/
def crc32cBit (c : Nat) : Nat := if c % 2 = 1 then Nat.xor (c / 2) 0x82F63B78 else c / 2

/-- One byte. -/
def crc32cByte (c : Nat) (b : Byte) : Nat :=
  crc32cBit (crc32cBit (crc32cBit (crc32cBit (crc32cBit (crc32cBit (crc32cBit (crc32cBit (Nat.xor c b.toNat))))))))

/-- CRC-32C of a byte string: initial value and final XOR 0xFFFF_FFFF. -/
def crc32c (bs : Bytes) : Nat := Nat.xor (bs.foldl crc32cByte 0xFFFFFFFF) 0xFFFFFFFF

/-! ### Times -/

/-- Word k of a time in the layout of R14. -/
def taiWord (t : Tai) : Nat → Nat
  | 0 => t % 65536
  | 1 => t / 65536 % 1000000000
  | 2 => t / secUnit % 2 ^ 32
  | 3 => t / secUnit / 2 ^ 32 % 2 ^ 16
  | _ => 0

/-- A time as the 16 bytes of R14. -/
def taiBytes (t : Tai) : Bytes :=
  leBytes 4 (taiWord t 0) ++ leBytes 4 (taiWord t 1) ++ leBytes 4 (taiWord t 2) ++ leBytes 4 (taiWord t 3)

/-- A time read from 16 bytes in the layout of R14; a nanoseconds value above 999,999,999 marks it invalid. -/
def taiOfBytes (bs : Bytes) : Option Tai :=
  if leAt bs 4 4 % 2 ^ 30 ≤ 999999999 then
    some ((leAt bs 8 4 + 2 ^ 32 * leAt bs 12 2) * secUnit + leAt bs 4 4 % 2 ^ 30 * nsUnit + leAt bs 0 2)
  else none

/-! ### The roasts -/

/-- The roast in a region. -/
def State.region (s : State) (r : Nat) : Option Roast := if r = 0 then s.roasts.region0 else s.roasts.region1

/-- A region given new contents. -/
def State.setRegion (s : State) (r : Nat) (x : Option Roast) : State :=
  if r = 0 then { s with roasts := { s.roasts with region0 := x } } else { s with roasts := { s.roasts with region1 := x } }

/-- The region of the active roast (R139). -/
def State.activeRegion (s : State) : Nat := s.get Reg.CFG_ROAST_STATUS.ACTIVE_REGION

/-- The roast in force; an empty one before one is loaded. -/
def State.roast (s : State) : Roast := (s.region s.activeRegion).getD {}

/-- The roast in the other region: shadow or retiring. -/
def State.otherRoast (s : State) : Roast := (s.region (1 - s.activeRegion)).getD {}

/-- A section by kind and number. -/
def Roast.sec? (r : Roast) (kind inst : Nat) : Option Section :=
  r.secs.find? fun x => decide (x.kind = kind ∧ x.inst = inst)

/-- The records of a section kind; none where the roast has no such section. -/
def Roast.recs (r : Roast) (kind : Nat) (inst : Nat := 0) : List Bytes :=
  match r.sec? kind inst with
  | some x => x.recs
  | none => []

/-- Record `i` of a section kind. -/
def Roast.recAt (r : Roast) (kind i : Nat) : Bytes := ((r.recs kind)[i]?).getD []

/-- Whether a section kind is present. -/
def Roast.has (r : Roast) (kind : Nat) : Bool := (r.sec? kind 0).isSome

/-- The TYPE 1 record of output stream k. -/
def Roast.outRec (r : Roast) (k : Nat) : Option Bytes := (r.recs 0x15).find? fun b => leAt b 0 1 == 1 && leAt b 1 1 == k

/-- F_s, the header's SLICE_RATE (R122). -/
def Roast.rate (r : Roast) : Nat := leAt r.header 0x28 2

/-- The slice index of an instant (R15). -/
def sliceOf (fs : Nat) (t : Tai) : Nat := t * fs / secUnit

/-- The nominal instant of slice n. -/
def sliceTime (fs n : Nat) : Tai := if fs = 0 then 0 else n * secUnit / fs

/-! ### The counter of the time base (R188, R189, R200) -/

/-- What one 800 MHz cycle adds at a frequency in 2^-48, in 2^-64 ns: 1.25 ns × (1 + f × 2^-48) (R188). -/
def cycleInc (f : Int) : Nat := (81920 * ((2 ^ 48 : Nat) + f)).toNat

/-- SLEW_PPB of the roast in force, in 2^-48. -/
def State.slewRate (s : State) : Nat := (2 * (leAt (s.roast.recAt 0x18 0) 0x14 4) * 2 ^ 48 + 1000000000) / 2000000000

/-- The effective frequency: FREQ, and the slew rate beside it while a slew runs (R189). -/
def State.effFreq (s : State) : Int :=
  s.getInt Reg.TSU_FREQ.FREQ + (if s.time.slew = 0 then 0 else if 0 < s.time.slew then (s.slewRate : Int) else -(s.slewRate : Int))

/-- The counter `k` cycles on, and the phase then still to be slewed: each cycle of a slew removes what SLEW_PPB makes of 1.25 ns, the last one
what is left (R200). -/
def State.cyclesOn (s : State) (k : Nat) : Nat × Int :=
  let left := s.time.slew.natAbs
  let gone := min left (k * (81920 * s.slewRate))
  let plain := s.time.ctr + k * cycleInc (s.getInt Reg.TSU_FREQ.FREQ)
  if 0 < s.time.slew then (plain + gone, (left - gone : Nat)) else (plain - gone, -((left - gone : Nat) : Int))

/-- The first cycle at or after an instant, counted from the latest one. -/
def State.cyclesTo (s : State) (t : Tai) : Nat :=
  let goal := t * 2 ^ 48
  let per := 81920 * s.slewRate
  let m := if per = 0 then 0 else ceilDiv s.time.slew.natAbs per
  let inc := cycleInc (s.getInt Reg.TSU_FREQ.FREQ)
  if goal ≤ s.time.ctr then 0
  else if goal ≤ (s.cyclesOn m).1 then min m (ceilDiv (goal - s.time.ctr) (cycleInc s.effFreq))
  else m + ceilDiv (goal - (s.cyclesOn m).1) inc

/-- The time the counter shows at the first 800 MHz cycle at or after an instant, to 16 fraction bits. -/
def State.cycleAt (s : State) (t : Tai) : Tai := (s.cyclesOn (s.cyclesTo t)).1 / 2 ^ 48

/-- Time moves forward to an instant, and the counter by whole cycles until it has reached it (R188); an instant that has passed leaves both
where they are. -/
def State.moveTo (s : State) (t : Tai) : State :=
  if s.time.tai < t then
    let k := s.cyclesTo t
    let x := s.cyclesOn k
    { s with time := { s.time with
      tai := t, elapsed := s.time.elapsed + (t - s.time.tai), ctr := x.1, cycles := s.time.cycles + k, slew := x.2 } }
  else s

/-! ### Event log (R493 to R498, R543) -/

/-- The code of event `e` of the block in row `r` of the table of R93 (R494). -/
def evCode (r e : Nat) : Nat := 0x10 + 8 * r + e

/-- An index as DATA carries it (R543). -/
def evIndex (i : Nat) : Bytes := leBytes 4 i

/-- A number without a field of its own as DATA carries it (R543). -/
def evNum (i : Int) : Bytes := leBytes 8 (codeOf 64 i)

/-- Entries a record takes: DATA of 24 bytes each, at least one (R543). -/
def LogRec.entries (r : LogRec) : Nat := max 1 (ceilDiv r.data.length 24)

/-- Whether accepted records are held: frozen, clearing, or the NVS not mounted yet (R496, R498). -/
def State.logHolds (s : State) : Bool :=
  s.evr.frozenAt.isSome || s.evr.clearing.isSome || !s.evr.mounted

/-- Entries in the hold queue. -/
def State.heldEntries (s : State) : Nat := (s.evr.held.map LogRec.entries).sum

/-- A record that is not held goes on its way to the NVS; once the log is full it counts in DROP_FULL (R496, R499). -/
def State.logReady (s : State) (r : LogRec) : State :=
  if s.nvs.logFull then s.count Reg.EVR.DROP_FULL
  else { s with evr := { s.evr with ready := s.evr.ready ++ [r] } }

/-- An accepted record takes its place: in the hold queue where there is room, lost where there is none, else on its way to
the NVS (R496, R498). -/
def State.logPut (s : State) (r : LogRec) : State :=
  if s.logHolds then
    if s.heldEntries + r.entries ≤ 256 then
      let s := { s with evr := { s.evr with held := s.evr.held ++ [r] } }
      s.set Reg.EVR_STATUS.HOLD s.heldEntries
    else
      ({ s with evr := { s.evr with lost := s.evr.lost + 1 } }.count Reg.EVR.HOLD_OVF).irq
        Reg.EVR_IRQ.HOLD_OVF Reg.EVR_IRQ_MASK.MASK 113
  else s.logReady r

/-- RATE of a code, records per minute; 0 means 60 (EVR_RATE_c). -/
def State.evRate (s : State) (c : Nat) : Nat :=
  if s.get (Reg.EVR_RATE.RATE.ix c) = 0 then 60 else s.get (Reg.EVR_RATE.RATE.ix c)

/-- BURST of a code; 0 means 16. -/
def State.evBurst (s : State) (c : Nat) : Nat :=
  if s.get (Reg.EVR_RATE.BURST.ix c) = 0 then 16 else s.get (Reg.EVR_RATE.BURST.ix c)

/-- One token of a bucket: 60 s in units of time. -/
def evToken : Nat := 60 * secUnit

/-- The level of a code's bucket now (R495). -/
def State.evLevel (s : State) (c : Nat) : Nat :=
  match alookup c s.evr.buckets with
  | none => s.evBurst c * evToken
  | some (l, at_) => min (s.evBurst c * evToken) (l + s.evRate c * (s.time.elapsed - at_))

/-- A record formed now. -/
def State.mkRec (s : State) (code source : Nat) (data : Bytes) (supp : Nat) : LogRec :=
  { time := s.time.tai, code := code, source := source, timeInvalid := !s.flag Reg.TSU_STATUS.TIME_VALID,
    suppressed := supp, data := data }

/-- An event of one of the recorder's own codes, never limited (R494, R495). -/
def State.logOwn (s : State) (code source : Nat) (data : Bytes) : State :=
  (s.logPut (s.mkRec code source data 0)).count Reg.EVR.ACCEPTED

/-- An event is accepted against its code's bucket, or suppressed and counted (R495). -/
def State.log (s : State) (code source : Nat) (data : Bytes) : State :=
  if evToken ≤ s.evLevel code then
    let s' := { s with evr := { s.evr with
      buckets := aset code (s.evLevel code - evToken, s.time.elapsed) s.evr.buckets } }
    ((s'.set (Reg.EVR_SUPP.COUNT.ix code) 0).logPut
      (s.mkRec code source data (s.get (Reg.EVR_SUPP.COUNT.ix code)))).count Reg.EVR.ACCEPTED
  else
    let s' := { s with evr := { s.evr with buckets := aset code (s.evLevel code, s.time.elapsed) s.evr.buckets } }
    (s'.count (Reg.EVR_SUPP.COUNT.ix code)).count Reg.EVR.SUPPRESSED

/-! ### Requesters and the error register (R90, R99, HIF_ERR) -/

/-- PF0 in owner state (R100). -/
def State.isOwner (s : State) (who : Requester) : Bool :=
  match who with
  | .pf0 => s.get Reg.HIF_OWNER.STATE == 2
  | _ => false

/-- A requester that may reach a guarded register (R99). -/
def State.mayGuard (s : State) (who : Requester) : Bool :=
  match who with
  | .sec => true
  | _ => s.isOwner who

/-- The bits of a requester's HIF_ERR as one number. -/
def State.hifErrWord (s : State) (who : Requester) : Nat :=
  [Reg.HIF_ERR.NARROW_WR, Reg.HIF_ERR.GUARD, Reg.HIF_ERR.LOCKED, Reg.HIF_ERR.NO_TXN, Reg.HIF_ERR.TXN_FULL,
    Reg.HIF_ERR.OBSERVER, Reg.HIF_ERR.LONG_WR, Reg.HIF_ERR.BAR2_WR, Reg.HIF_ERR.SNAP_BUSY].foldl
    (fun a f => a + s.get (f.of who) * 2 ^ f.lsb) 0

/-- An error bit of a requester is set; the first one since the register was all zero keeps the access's offset, and a
bit of PF0's or PF1's own register that changes from 0 to 1 raises the function's vector 0 (R91). -/
def State.hifErr (s : State) (who : Requester) (f : Fld) (addr : Nat) : State :=
  let s1 := if s.hifErrWord who = 0 then s.set (Reg.HIF_ERR_ADDR.OFFSET.of who) addr else s
  let s2 := s1.set (f.of who) 1
  if s.get (f.of who) = 0 then
    match who with
    | .pf0 => s2.emit (.msix 0 0)
    | .pf1 => s2.emit (.msix 1 0)
    | _ => s2
  else s2

/-- The application cores are out of reset: from ledger step 11 on, and not in safe mode or quarantine (R66, R79). -/
def State.coresRun (s : State) : Bool :=
  !s.boot.inReset && (s.get Reg.BOOT_STATUS.STATE == 1 ||
    (s.get Reg.BOOT_STATUS.STATE == 0 && decide (11 ≤ s.get Reg.BOOT_STATUS.STEP)))

/-- The state of physical core p in SCH_CORE_STATUS: 0 ACTIVE, 1 SPARE, 2 DRAINING, 3 RETIRED. -/
def State.coreState (s : State) (p : Nat) : Nat := bitsOf (s.get Reg.SCH_CORE_STATUS.STATE) (2 * p) 2

/-- Physical core p is out of reset: a SPARE core only while a migration goes to it, a RETIRED one never (R451, R452). -/
def State.coreUp (s : State) (p : Nat) : Bool :=
  s.coresRun && (s.coreState p == 0 || s.coreState p == 2 ||
    (s.coreState p == 1 && match s.sch.migration with | some m => m.toCore == p | none => false))

/-- No access of a requester takes effect: a reset is in force (log entry 80), or it is an application core held in reset (R66, R79,
R451). -/
def State.silent (s : State) (who : Requester) : Bool :=
  s.boot.inReset || (match who with | .core p => !s.coreUp p | _ => false)

/-- A write of a guarded register: it takes effect for the owner and the security core; any other requester's is ignored
with its error bit set, PF1's as an observer's write (R90, R99). -/
def State.guarded (s : State) (who : Requester) (addr : Nat) (f : State → State) : State :=
  if s.silent who then s
  else if s.mayGuard who then f s
  else if who = .pf1 then s.hifErr who Reg.HIF_ERR.OBSERVER addr
  else s.hifErr who Reg.HIF_ERR.GUARD addr

/-- A write of an unguarded register that PF1 may only observe (R90). -/
def State.open_ (s : State) (who : Requester) (addr : Nat) (f : State → State) : State :=
  if s.silent who then s else if who = .pf1 then s.hifErr who Reg.HIF_ERR.OBSERVER addr else f s

/-- Boot or operation: no reset is in force, and the device is neither in safe mode nor in quarantine. -/
def State.pinsLive (s : State) : Bool := !s.boot.inReset && decide (s.get Reg.BOOT_STATUS.STATE ≤ 1)

/-- The device is operating (BOOT_STATUS.STATE). -/
def State.operating (s : State) : Bool := s.get Reg.BOOT_STATUS.STATE == 1

/-! ### Health (R61, R83) -/

/-- One bit of BOOT_HEALTH. -/
def State.setHealth (s : State) (k : Nat) (b : Bool) : State := s.putBit Reg.BOOT_HEALTH.COND k b

/-- Every condition holds or is masked. -/
def State.healthy (s : State) : Bool :=
  (List.range 9).all fun k => s.bit Reg.BOOT_HEALTH.COND k || s.bit Reg.BOOT_HEALTH_MASK.MASK k

/-- DEV_OK is released exactly while health release has completed and every unmasked condition holds (R61, R83). -/
def State.devOk (s : State) : State := { s with pins := { s.pins with devOk := s.boot.released && s.healthy } }

/-- A health condition changes and DEV_OK follows. -/
def State.health (s : State) (k : Nat) (b : Bool) : State := (s.setHealth k b).devOk

end Sys2Proof.Machine
end

