-- ==== Sys2Proof/Machine/Barista.lean ====
section
/-! DEFINITION. Barista (R439 to R454): threads, wait objects, ordered flows, migration. -/

namespace Sys2Proof.Machine

/-- Thread t's block. -/
def State.tcb (s : State) (t : Nat) : Tcb := (alookup t s.sch.tcbs).getD {}
/-- Thread t's block replaced. -/
def State.setTcb (s : State) (t : Nat) (b : Tcb) : State := { s with sch := { s.sch with tcbs := aset t b s.sch.tcbs } }
/-- Physical core p. -/
def State.core (s : State) (p : Nat) : Core := (alookup p s.sch.cores).getD {}
/-- Physical core p replaced. -/
def State.setCore (s : State) (p : Nat) (c : Core) : State := { s with sch := { s.sch with cores := aset p c s.sch.cores } }
/-- Object o. -/
def State.obj (s : State) (o : Nat) : WaitObj := (alookup o s.sch.objs).getD {}
/-- Object o replaced. -/
def State.setObj (s : State) (o : Nat) (x : WaitObj) : State := { s with sch := { s.sch with objs := aset o x s.sch.objs } }
/-- Flow f. -/
def State.flow (s : State) (f : Nat) : Flow := (alookup f s.sch.flows).getD {}
/-- Flow f replaced. -/
def State.setFlow (s : State) (f : Nat) (x : Flow) : State := { s with sch := { s.sch with flows := aset f x s.sch.flows } }

/-- A field of bits within a number replaced. -/
def putBits (v lsb width x : Nat) : Nat := v - bitsOf v lsb width * 2 ^ lsb + x % 2 ^ width * 2 ^ lsb

/-- The state of a core replaced. -/
def State.setCoreState (s : State) (p x : Nat) : State :=
  s.set Reg.SCH_CORE_STATUS.STATE (putBits (s.get Reg.SCH_CORE_STATUS.STATE) (2 * p) 2 x)

/-- The physical core of logical index k. -/
def State.physical (s : State) (k : Nat) : Nat := bitsOf (s.get Reg.SCH_CORE_MAP.MAP) (4 * k) 4

/-- The logical index a physical core carries (R439): an ACTIVE or DRAINING core in the map. -/
def State.logical (s : State) (p : Nat) : Option Nat :=
  if s.coreState p = 0 ∨ s.coreState p = 2 then (List.range 8).find? fun k => s.physical k == p else none

/-- Whether thread t may run on logical core k: its affinity includes it, and the core takes new threads. -/
def State.eligible (s : State) (t k : Nat) : Bool := bitAt (s.tcb t).affinity k && s.coreState (s.physical k) == 0

/-- What a core's read of SCH_GETWORK answers. -/
def State.answerWork (s : State) (p thread : Nat) (valid : Bool) (reason obj : Nat) : State :=
  let w := Requester.core p
  (((s.set (Reg.SCH_GETWORK.THREAD.of w) thread).setFlag (Reg.SCH_GETWORK.VALID.of w) valid).set
    (Reg.SCH_GETWORK.REASON.of w) reason).set (Reg.SCH_GETWORK.OBJ.of w) obj

/-- A preempt request is withdrawn. -/
def State.unpreempt (s : State) (p : Nat) : State :=
  (s.setCore p { s.core p with preempt := none }).setFlag (Reg.SCH_SELF.PREEMPT.of (.core p)) false

/-- A READY thread is handed to physical core p (R443): it is RUNNING, and a request raised for it elsewhere is withdrawn
(R445). -/
def State.handOut (s : State) (p t : Nat) : State :=
  let b := s.tcb t
  let s1 := s.setTcb t { b with state := 2 }
  let s2 := { s1 with sch := { s1.sch with ready := s1.sch.ready.filter fun x => x != t } }
  let s3 := s2.setCore p { s2.core p with running := some t, stalled := none }
  let s4 := ((s3.answerWork p t true b.reason b.obj).set (Reg.SCH_SELF.THREAD.of (.core p)) t).count Reg.SCH.HANDOUTS
  (s4.sch.cores.filter fun e => match e.2.preempt with | some (_, some x, _) => x == t && e.1 != p | _ => false).foldl
    (fun s e => s.unpreempt e.1) s4

/-- The first READY thread of the highest priority that may run on logical core k (R442, R443). -/
def State.pickWork (s : State) (k : Nat) : Option Nat :=
  (s.sch.ready.filter fun t => s.eligible t k).foldl (fun best t =>
    match best with
    | none => some t
    | some b => if (s.tcb b).prio < (s.tcb t).prio then some t else some b) none

/-- A preempt request is raised on physical core p; at most one is outstanding. -/
def State.raisePreempt (s : State) (p : Nat) (t : Option Nat) : State :=
  if (s.core p).preempt.isSome then s
  else (s.setCore p { s.core p with preempt := some (s.time.elapsed, t, false) }).setFlag
    (Reg.SCH_SELF.PREEMPT.of (.core p)) true

/-- The logical core whose thread is to be preempted for thread t (R445): eligible, running, lowest priority below t's,
lowest index on a tie. -/
def State.preemptTarget (s : State) (t : Nat) : Option Nat :=
  ((List.range 8).filter fun k => s.eligible t k).foldl (fun best k =>
    match (s.core (s.physical k)).running with
    | none => best
    | some r =>
      if (s.tcb r).prio < (s.tcb t).prio then
        match best with
        | none => some k
        | some b =>
          match (s.core (s.physical b)).running with
          | some rb => if (s.tcb r).prio < (s.tcb rb).prio then some k else some b
          | none => some k
      else best) none

/-- A thread becomes READY (R442, R443, R445): tail of its queue, then to the lowest eligible core stalled in
SCH_GETWORK, else a preempt request. -/
def State.makeReady (s : State) (t reason obj : Nat) : State :=
  let b := s.tcb t
  let s1 := s.setTcb t { b with state := 1, reason := reason, obj := obj, until_ := none }
  let s2 := { s1 with sch := { s1.sch with ready := (s1.sch.ready.filter fun x => x != t) ++ [t] } }
  match (List.range 8).find? fun k => s2.eligible t k && (s2.core (s2.physical k)).stalled.isSome with
  | some k => s2.handOut (s2.physical k) t
  | none =>
    match s2.preemptTarget t with
    | some k => s2.raisePreempt (s2.physical k) (some t)
    | none => s2

/-- The waiting thread a signal wakes (R447): highest priority, longest waiting on a tie. -/
def State.wakes (s : State) (o : Nat) : Option Nat :=
  ((s.sch.waiting.filter fun e => e.1 == o).map Prod.snd).foldl (fun best t =>
    match best with
    | none => some t
    | some b => if (s.tcb b).prio < (s.tcb t).prio then some t else some b) none

/-- A signal reaches object o (R447). -/
def State.objSignal (s : State) (o : Nat) : State :=
  match s.wakes o with
  | some t =>
    { s with sch := { s.sch with waiting := s.sch.waiting.filter fun e => e.2 != t } }.makeReady t 2 o
  | none =>
    let x := s.obj o
    if x.sem then
      if x.count < 65535 then s.setObj o { x with count := x.count + 1 } else s.count Reg.SCH.SIG_ABSORBED
    else if x.count = 0 then s.setObj o { x with count := 1 } else s.count Reg.SCH.SIG_ABSORBED

/-- A write or read of a per-core register acts on the requesting core; a host's or the security core's has no effect, PF1's
write is an observer's (R90, R440). -/
def State.perCore (s : State) (who : Requester) (addr : Nat) (f : Nat → State → State) : State :=
  s.open_ who addr fun s => match who with | .core p => f p s | _ => s

/-- SCH_GETWORK (R443): a core with a thread gets it again; a draining core is told so; else the first thread it may run, or the
read stalls. A core held in reset reads nothing. -/
def execGetwork (p : Nat) (s : State) : Out :=
  .next (if !s.coreUp p then s else match (s.core p).running with
  | some t => s.answerWork p t true 4 (s.tcb t).obj
  | none =>
    if s.coreState p = 2 then s.answerWork p 0 false 5 0
    else
      match (match s.logical p with | some k => s.pickWork k | none => none) with
      | some t => s.handOut p t
      | none => s.setCore p { s.core p with stalled := some s.time.elapsed })

/-- GETWORK_IDLE_TIMEOUT (R443): IDLE_US pass in a stalled read. -/
def execGetworkIdleTimeout (p : Nat) (t : Tai) (s : State) : Out :=
  .next (
    let s := s.moveTo t
    match (s.core p).stalled with
    | none => s
    | some since =>
      if s.get Reg.SCH_CFG.IDLE_US ≠ 0 ∧ s.get Reg.SCH_CFG.IDLE_US * usUnit ≤ s.time.elapsed - since then
        (s.answerWork p 0 false 0 0).setCore p { s.core p with stalled := none }
      else s)

/-- A core gives up its thread: nothing runs, a preempt request is withdrawn (R445). -/
def State.giveUp (s : State) (p : Nat) : State :=
  ((s.setCore p { s.core p with running := none }).unpreempt p).set (Reg.SCH_SELF.THREAD.of (.core p)) 0

/-- A thread that SUSPEND named is suspended as it stops running. -/
def State.suspendNow (s : State) (t : Nat) : State := s.setTcb t { s.tcb t with state := 4, suspend := false }

/-- SCH_YIELD (R444). -/
def execSchYield (who : Requester) (s : State) : Out :=
  .next (s.perCore who Reg.SCH_YIELD.GO.base fun p s =>
    match (s.core p).running with
    | none => s
    | some t =>
      let s1 := s.giveUp p
      if (s.tcb t).suspend then s1.suspendNow t else s1.makeReady t 4 (s.tcb t).obj)

/-- SCH_EXIT (R444): the block becomes FREE. -/
def execSchExit (who : Requester) (s : State) : Out :=
  .next (s.perCore who Reg.SCH_EXIT.GO.base fun p s =>
    match (s.core p).running with
    | none => s
    | some t =>
      let s1 := s.giveUp p
      if (s.tcb t).suspend then s1.suspendNow t else s1.setTcb t { s.tcb t with state := 0 })

/-- SCH_WAIT (R446): an object that is pending is consumed; timeout 0 ends at once; else the thread waits. -/
def execSchWait (who : Requester) (o : Nat) (s : State) : Out :=
  .next (s.perCore who Reg.SCH_WAIT.OBJ.base fun p s =>
    match (s.core p).running with
    | none => s
    | some t =>
      let x := s.obj o
      let us := s.get (Reg.SCH_WAIT_TIMEOUT.US.of (.core p))
      if 1 ≤ x.count then
        (s.setObj o { x with count := x.count - 1 }).set (Reg.SCH_SELF.LAST.of (.core p)) 1
      else if us = 0 then s.set (Reg.SCH_SELF.LAST.of (.core p)) 2
      else
        let s1 := s.giveUp p
        if (s.tcb t).suspend then s1.suspendNow t
        else
          let u := if us = 0xFFFFFFFF then none else some (s.time.elapsed + us * usUnit)
          let s2 := s1.setTcb t { s.tcb t with state := 3, obj := o, until_ := u }
          { s2 with sch := { s2.sch with waiting := s2.sch.waiting ++ [(o, t)] } })

/-- WAIT_TIMEOUT (R446): the thread's timeout has passed; it becomes READY with reason TIMEOUT. -/
def execWaitTimeout (t : Nat) (at_ : Tai) (s : State) : Out :=
  .next (
    let s := s.moveTo at_
    if (s.tcb t).state == 3 && (match (s.tcb t).until_ with | some u => decide (u ≤ s.time.elapsed) | none => false) then
      { s with sch := { s.sch with waiting := s.sch.waiting.filter fun e => e.2 != t } }.makeReady t 3 (s.tcb t).obj
    else s)

/-- SCH_SIGNAL (R447). -/
def execSchSignal (who : Requester) (o : Nat) (s : State) : Out :=
  .next (s.perCore who Reg.SCH_SIGNAL.OBJ.base fun _ s => s.objSignal o)

/-- PREEMPT_LATE (R445): a request outstanding for more than 50 µs counts once. -/
def execPreemptLate (p : Nat) (t : Tai) (s : State) : Out :=
  .next (
    let s := s.moveTo t
    match (s.core p).preempt with
    | some (a, x, false) =>
      if 50 * usUnit < s.time.elapsed - a then
        (s.setCore p { s.core p with preempt := some (a, x, true) }).count Reg.SCH.PREEMPT_LATE
      else s
    | _ => s)

/-! ### Thread commands (R441, R442, R444, R452) -/

/-- A TCB command of a core or the security core on the block it selected; host writes are ignored. `f` answers none where the
command is refused. -/
def State.tcbCommand (s : State) (who : Requester) (f : State → Nat → Option State) : State :=
  s.open_ who Reg.SCH_TCB_CMD.OP.base fun s =>
    if who = .pf0 then s
    else match f s (s.get (Reg.SCH_TCB_SEL.THREAD.of who)) with
    | some s' => s'.set Reg.SCH_TCB_CMD.RESULT 1
    | none => s.set Reg.SCH_TCB_CMD.RESULT 2

/-- CREATE (R441): a FREE block with an affinity becomes READY with reason NEW. -/
def execTcbCreate (who : Requester) (s : State) : Out :=
  .next (s.tcbCommand who fun s t =>
    let w := s.get (Reg.SCH_TCB.WORD.ix 2)
    if (s.tcb t).state ≠ 0 ∨ bitsOf w 8 8 = 0 then none
    else some ((s.setTcb t { context := s.get (Reg.SCH_TCB.WORD.ix 0) + 2 ^ 32 * s.get (Reg.SCH_TCB.WORD.ix 1)
                             prio := bitsOf w 0 5, affinity := bitsOf w 8 8 }).makeReady t 1 0))

/-- TCB SUSPEND (R444): takes effect when the thread next yields, waits or exits. -/
def execTcbSuspend (who : Requester) (s : State) : Out :=
  .next (s.tcbCommand who fun s t =>
    if (s.tcb t).state = 1 ∨ (s.tcb t).state = 2 ∨ (s.tcb t).state = 3 then
      some (s.setTcb t { s.tcb t with suspend := true })
    else none)

/-- TCB RESUME (R444): SUSPENDED to READY. -/
def execTcbResume (who : Requester) (s : State) : Out :=
  .next (s.tcbCommand who fun s t =>
    if (s.tcb t).state = 4 then some (s.makeReady t 6 (s.tcb t).obj) else none)

/-- SET_PRIO (R442): a READY thread joins the tail of its new queue. -/
def execSetPrio (who : Requester) (s : State) : Out :=
  .next (s.tcbCommand who fun s t =>
    let s1 := s.setTcb t { s.tcb t with prio := bitsOf (s.get (Reg.SCH_TCB.WORD.ix 2)) 0 5 }
    if (s.tcb t).state = 0 then none
    else if (s.tcb t).state = 1 then some (s1.makeReady t (s.tcb t).reason (s.tcb t).obj)
    else some s1)

/-- TCB FREE (R452 and SCH_TCB_CMD): a FAULTED or SUSPENDED block becomes FREE. -/
def execTcbFree (who : Requester) (s : State) : Out :=
  .next (s.tcbCommand who fun s t =>
    if (s.tcb t).state = 4 ∨ (s.tcb t).state = 5 then some (s.setTcb t {}) else none)

/-- SCH_OBJ_CFG_WRITE (R446): a write sets the selected object's kind and empties it; ignored while threads wait. -/
def execSchObjCfgWrite (who : Requester) (kind : Bool) (s : State) : Out :=
  .next (s.open_ who Reg.SCH_OBJ_CFG.KIND.base fun s =>
    let o := s.get (Reg.SCH_OBJ_SEL.OBJ.of who)
    if s.sch.waiting.any fun e => e.1 == o then s else s.setObj o { sem := kind, count := 0 })

/-- What SCH_OBJ_STATUS shows of the object a requester selected: COUNT, WAITERS. -/
def State.objStatus (s : State) (who : Requester) : Nat × Nat :=
  let o := s.get (Reg.SCH_OBJ_SEL.OBJ.of who)
  ((s.obj o).count, (s.sch.waiting.filter fun e => e.1 == o).length)

/-- What SCH_OBJ_CFG shows of the object a requester selected: KIND. -/
def State.objKind (s : State) (who : Requester) : Bool := (s.obj (s.get (Reg.SCH_OBJ_SEL.OBJ.of who))).sem

/-- What SCH_TCB_k shows of the block a requester selected: CONTEXT in words 0 and 1, PRIO, AFFINITY and STATE in word 2, the object
waited on in word 3. -/
def State.tcbShown (s : State) (who : Requester) (k : Nat) : Nat :=
  let b := s.tcb (s.get (Reg.SCH_TCB_SEL.THREAD.of who))
  match k with
  | 0 => b.context % 2 ^ 32
  | 1 => b.context / 2 ^ 32 % 2 ^ 32
  | 2 => b.prio + 256 * b.affinity + 65536 * b.state
  | _ => if b.state = 3 then b.obj else 0

/-! ### Ordered flows (R449, R450) -/

/-- The output stream record (TYPE 1 of OUTPUT_STREAM) that names a flow. -/
def Roast.flowStream (r : Roast) (f : Nat) : Option Bytes :=
  (r.recs 0x15).find? fun b => leAt b 0 1 == 1 && leAt b 7 1 == f

/-- The number of items of an output stream held, as ALN_OSTREAM_k.ITEMS shows it. -/
def State.showItems (s : State) (f : Nat) : State :=
  match s.roast.flowStream f with
  | some b => s.set (Reg.ALN_OSTREAM.ITEMS.ix (leAt b 1 1)) (s.flow f).items.length
  | none => s

/-- One item is released (R449): an output frame is passed on, unless it was abandoned; a firmware item goes to its consumer. -/
def State.releaseItem (s : State) (f : Nat) (i : FlowItem) (abandoned : Bool) : State :=
  let s1 := if abandoned then (s.count Reg.SCH.ABANDONED).irq Reg.SCH_IRQ.ABANDONED Reg.SCH_IRQ_MASK.MASK 96 else s
  match s1.roast.flowStream f with
  | some b =>
    if abandoned then s1
    else match i.out with
    | some x =>
      if leAt b 4 1 = 2 then s1.count (Reg.ALN.OUT_SENT.ix x.1)
      else { s1 with sch := { s1.sch with outHeld := s1.sch.outHeld ++ [x] } }
    | none => s1
  | none =>
    let s2 := s1.setFlow f { s1.flow f with released := (s1.flow f).released ++ [(i.seq, if abandoned then 2 else 1)] }
    s2.objSignal (s2.get (Reg.SCH_FLOW_CFG.RELEASE_OBJ.ix f))

/-- Items at the head that are complete are released in order; `n` bounds the number. -/
def State.releaseRun (s : State) (f : Nat) : Nat → State
  | 0 => s
  | n + 1 =>
    match (s.flow f).items with
    | i :: rest => if i.done then ((s.setFlow f { s.flow f with items := rest }).releaseItem f i false).releaseRun f n else s
    | [] => s

/-- Releases follow a completion or an abandonment. -/
def State.release (s : State) (f : Nat) : State := (s.releaseRun f 256).showItems f

/-- A post: the item's sequence number, or none where 256 items are held. -/
def State.post (s : State) (f : Nat) (out : Option (Nat × Nat × Bytes × Tai)) : State × Option Nat :=
  let w := s.flow f
  if 256 ≤ w.items.length then (s, none)
  else
    ((s.setFlow f { w with next := (w.next + 1) % 65536
                           items := w.items ++ [{ seq := w.next, posted := s.time.elapsed, out := out }] }).showItems f,
      some w.next)

/-- FLOW_POST (R449, R450): a core's read; refused on an output stream's flow and where 256 items are held. -/
def execFlowPost (who : Requester) (f : Nat) (s : State) : Out :=
  .next (if s.silent who then s else match who with
  | .core _ =>
    let refuse (s : State) : State :=
      (s.set ((Reg.SCH_FLOW_POST.SEQ.ix f).of who) 0).setFlag ((Reg.SCH_FLOW_POST.OK.ix f).of who) false
    if (s.roast.flowStream f).isSome then refuse s
    else match s.post f none with
    | (s', some q) => (s'.set ((Reg.SCH_FLOW_POST.SEQ.ix f).of who) q).setFlag ((Reg.SCH_FLOW_POST.OK.ix f).of who) true
    | (s', none) => refuse (s'.count Reg.SCH.POST_FULL)
  | _ => s)

/-- A completion (R449, R450): of an item held and not complete; any other is late. -/
def State.complete (s : State) (f q : Nat) : State :=
  if (s.flow f).items.any fun i => i.seq == q then
    (s.setFlow f { s.flow f with
      items := (s.flow f).items.map fun i => if i.seq = q then { i with done := true } else i }).release f
  else s.count Reg.SCH.LATE_DONE

/-- FLOW_DONE (R449). -/
def execFlowDone (who : Requester) (f q : Nat) (s : State) : Out :=
  .next (s.open_ who (Reg.SCH_FLOW_DONE.SEQ.ix f).base fun s => s.complete f q)

/-- FLOW_TAKE (R449): a core's read takes the next released item. -/
def execFlowTake (who : Requester) (f : Nat) (s : State) : Out :=
  .next (if s.silent who then s else match who with
  | .core _ =>
    match (s.flow f).released with
    | [] => (s.set ((Reg.SCH_FLOW_TAKE.SEQ.ix f).of who) 0).set ((Reg.SCH_FLOW_TAKE.STATUS.ix f).of who) 0
    | (q, st) :: rest =>
      ((s.setFlow f { s.flow f with released := rest }).set ((Reg.SCH_FLOW_TAKE.SEQ.ix f).of who) q).set
        ((Reg.SCH_FLOW_TAKE.STATUS.ix f).of who) st
  | _ => s)

/-- FLOW_STALL_EXPIRY (R450): a head item held for more than STALL_US is released as ABANDONED, and release goes on behind it. -/
def execFlowStallExpiry (f : Nat) (t : Tai) (s : State) : Out :=
  .next (
    let s := s.moveTo t
    let us := s.get (Reg.SCH_FLOW_CFG.STALL_US.ix f)
    match (s.flow f).items with
    | i :: rest =>
      if us ≠ 0 ∧ us * usUnit < s.time.elapsed - i.posted then
        ((s.setFlow f { s.flow f with items := rest }).releaseItem f i true).release f
      else s
    | [] => s)

/-! ### Migration (R451, R452) -/

/-- SCH_SELF's LOGICAL and PHYSICAL of every core follow the map. -/
def State.showCores (s : State) : State :=
  (List.range 9).foldl (fun s p =>
    (s.set (Reg.SCH_SELF.LOGICAL.of (.core p)) ((s.logical p).getD 0)).set (Reg.SCH_SELF.PHYSICAL.of (.core p)) p) s

/-- A migration starts where FROM is ACTIVE, TO is SPARE and none is in progress; else it is refused. -/
def State.migrate (s : State) (a b : Nat) (retain : Bool) : State :=
  if s.coreState a = 0 ∧ a < 9 ∧ b < 9 ∧ s.coreState b = 1 ∧ s.sch.migration.isNone then
    let s1 := { s with sch := { s.sch with
      migration := some { fromCore := a, toCore := b, retain := retain, at_ := s.time.elapsed } } }
    let s2 := ((s1.setCoreState a 2).set Reg.SCH_CORE_STATUS.RESULT 0).setCore b { s.core b with newImage := s.fw.switched }
    if (s.core a).stalled.isSome then (s2.answerWork a 0 false 5 0).setCore a { s.core a with stalled := none }
    else if (s.core a).running.isSome then
      let s3 := s2.raisePreempt a none
      s3.setCore a { s3.core a with preempt := (s3.core a).preempt.map fun x => (x.1, none, x.2.2) }
    else s2
  else s.set Reg.SCH_CORE_STATUS.RESULT 2

/-- SCH_MIGRATE (R451): guarded. -/
def execSchMigrate (who : Requester) (a b : Nat) (retain : Bool) (s : State) : Out :=
  .next (s.guarded who Reg.SCH_MIGRATE.GO.base fun s => s.migrate a b retain)

/-- Step 4 of R451: FROM's logical index passes to TO, FROM takes its state, and TO's stalled read is served. -/
def State.migrated (s : State) (m : Migration) (fromState result : Nat) : State :=
  match s.logical m.fromCore with
  | none => s
  | some k =>
    let s0 := s.giveUp m.fromCore
    let s1 := { s0 with sch := { s0.sch with migration := none } }
    let s2 := s1.set Reg.SCH_CORE_MAP.MAP (putBits (s.get Reg.SCH_CORE_MAP.MAP) (4 * k) 4 m.toCore)
    let s3 := (((s2.setCoreState m.fromCore fromState).setCoreState m.toCore 0).setCore m.fromCore {}).set
      Reg.SCH_CORE_STATUS.RESULT result
    let s4 := (s3.showCores.irq Reg.SCH_IRQ.MIGRATED Reg.SCH_IRQ_MASK.MASK 96).log (evCode 4 0) 0 []
    if (s4.core m.toCore).stalled.isSome then
      match s4.pickWork k with | some t => s4.handOut m.toCore t | none => s4
    else s4

/-- SCH_PARK (R451): the draining core, its thread given up, parks. -/
def execSchPark (who : Requester) (s : State) : Out :=
  .next (s.perCore who Reg.SCH_PARK.GO.base fun p s =>
    match s.sch.migration with
    | some m => if m.fromCore = p ∧ (s.core p).running = none then s.migrated m (if m.retain then 1 else 3) 1 else s
    | none => s)

/-- MIGRATION_FORCE (R452): 10 ms after acceptance FROM is retired, and a thread running on it is faulted. -/
def execMigrationForce (s : State) : Out :=
  .next (match s.sch.migration with
  | none => s
  | some m =>
    let run := (s.core m.fromCore).running
    let s1 := (s.migrated m 3 3).count Reg.SCH.FORCED
    match run with
    | none => s1
    | some t =>
      let s2 := (s1.setTcb t { s1.tcb t with state := 5 }).irq Reg.SCH_IRQ.FAULTED Reg.SCH_IRQ_MASK.MASK 96
      (s2.objSignal (s2.get Reg.SCH_CFG.FAULT_OBJ)).log (evCode 4 1) 0 (evIndex t))

end Sys2Proof.Machine
end

