-- ==== Sys2Proof/Machine/Frames.lean ====
section
/-! DEFINITION. Ethernet frames as the MACs and the parser read them: the tag and EtherType, UDP over IPv4 and IPv6,
PTP messages, checksums, the PRP trailer and the HSR tag, and the address filter's CRC-32 (R154 to R156, R182, R183, R209). -/

namespace Sys2Proof.Machine

/-- A frame's 802.1Q tag and type (R155): an outer TPID 0x88A8 counts as an untagged frame of that EtherType. -/
structure FrameView where
  tagged : Bool
  /-- VID and PCP as the tag carries them -/
  vid : Nat
  pcp : Nat
  etype : Nat
  /-- offset of the first byte after the EtherType -/
  off : Nat
  deriving DecidableEq, Repr

/-- Reading a frame's tag and type. -/
def viewOf (bs : Bytes) : FrameView :=
  if beAt bs 12 2 = 0x8100 then
    { tagged := true, vid := beAt bs 14 2 % 4096, pcp := beAt bs 14 2 / 8192, etype := beAt bs 16 2, off := 18 }
  else { tagged := false, vid := 0, pcp := 0, etype := beAt bs 12 2, off := 14 }

/-- Destination address. -/
def dstOf (bs : Bytes) : Bytes := bs.take 6
/-- Source address. -/
def srcOf (bs : Bytes) : Bytes := slice bs 6 6
/-- A group destination (I/G bit 1). -/
def isGroup (bs : Bytes) : Bool := beAt bs 0 1 % 2 == 1
/-- Broadcast. -/
def isBroadcast (bs : Bytes) : Bool := beAt bs 0 6 == 0xFFFFFFFFFFFF

/-- The frame without its 802.1Q tag. -/
def untag (bs : Bytes) : Bytes := if (viewOf bs).tagged then bs.take 12 ++ bs.drop 16 else bs

/-- A UDP datagram in a frame. -/
structure UdpView where
  v6 : Bool
  /-- offset of the UDP header -/
  off : Nat
  fragmented : Bool
  deriving DecidableEq, Repr

/-- The IPv6 headers up to the UDP header: next header, offset. -/
def ipv6Walk (bs : Bytes) : Nat → Nat → Nat → Bool → Option UdpView
  | 0, _, _, _ => none
  | n + 1, nh, off, fr =>
    if nh = 17 then some { v6 := true, off := off, fragmented := fr }
    else if nh = 0 ∨ nh = 43 ∨ nh = 60 then ipv6Walk bs n (beAt bs off 1) (off + 8 * (beAt bs (off + 1) 1 + 1)) fr
    else if nh = 44 then
      (if beAt bs (off + 2) 2 / 8 = 0 then ipv6Walk bs n (beAt bs off 1) (off + 8) (fr || beAt bs (off + 2) 2 % 2 == 1) else none)
    else none

/-- The UDP header of a frame's first fragment, or of its whole datagram. -/
def udpOf (bs : Bytes) : Option UdpView :=
  let v := viewOf bs
  if v.etype = 0x0800 ∧ beAt bs v.off 1 / 16 = 4 ∧ beAt bs (v.off + 9) 1 = 17 ∧ beAt bs (v.off + 6) 2 % 0x2000 = 0 then
    some { v6 := false, off := v.off + 4 * (beAt bs v.off 1 % 16), fragmented := bitAt (beAt bs (v.off + 6) 2) 13 }
  else if v.etype = 0x86DD then ipv6Walk bs 8 (beAt bs (v.off + 6) 1) (v.off + 40) false
  else none

/-- UDP destination port. -/
def UdpView.port (u : UdpView) (bs : Bytes) : Nat := beAt bs (u.off + 2) 2
/-- UDP payload, of the length the UDP header states. -/
def UdpView.payload (u : UdpView) (bs : Bytes) : Bytes := slice bs (u.off + 8) (beAt bs (u.off + 4) 2 - 8)
/-- IP source address. -/
def UdpView.src (u : UdpView) (bs : Bytes) : Bytes :=
  let o := (viewOf bs).off
  if u.v6 then slice bs (o + 8) 16 else slice bs (o + 12) 4
/-- IP destination address. -/
def UdpView.dst (u : UdpView) (bs : Bytes) : Bytes :=
  let o := (viewOf bs).off
  if u.v6 then slice bs (o + 24) 16 else slice bs (o + 16) 4

/-- The offset of a PTP message's header: EtherType 0x88F7, or UDP destination port 319 or 320 (R156 row 2). -/
def ptpAt (bs : Bytes) : Option Nat :=
  if (viewOf bs).etype = 0x88F7 then some (viewOf bs).off
  else match udpOf bs with
  | some u => if u.port bs = 319 ∨ u.port bs = 320 then some (u.off + 8) else none
  | none => none

/-- messageType. -/
def ptpType (bs : Bytes) (o : Nat) : Nat := beAt bs o 1 % 16
/-- Event messages: Sync, Delay_Req, Pdelay_Req, Pdelay_Resp. -/
def ptpEvent (bs : Bytes) (o : Nat) : Bool := decide (ptpType bs o < 4)
/-- Peer-delay messages: Pdelay_Req, Pdelay_Resp, Pdelay_Resp_Follow_Up. -/
def ptpPeer (bs : Bytes) (o : Nat) : Bool := decide (ptpType bs o = 2 ∨ ptpType bs o = 3 ∨ ptpType bs o = 10)

/-- A frame with bytes at an offset replaced. -/
def patch (bs : Bytes) (off : Nat) (new : Bytes) : Bytes := bs.take off ++ new ++ bs.drop (off + new.length)

/-- The ones-complement sum of 16-bit words folded to 16 bits. -/
def fold16 (n : Nat) : Nat := if n = 0 then 0 else (n - 1) % 65535 + 1

/-- The 16-bit sum of a byte string, big-endian, padded with a zero byte. -/
def sum16 : Bytes → Nat
  | [] => 0
  | [a] => a.toNat * 256
  | a :: b :: r => a.toNat * 256 + b.toNat + sum16 r

/-- The IPv4 header checksum and the UDP checksum of a byte string. -/
def checksum (bs : Bytes) : Nat := 65535 - fold16 (sum16 bs)

/-- The incremental update of RFC 1624: the checksum after `old` bytes became `new`, both on an even offset. -/
def rfc1624 (c : Nat) (old new : Bytes) : Nat :=
  65535 - fold16 ((65535 - c) + (65535 * old.length - sum16 old) + sum16 new)

/-- A PTP message changed in place, its UDP checksum kept valid (R209). -/
def ptpPatch (bs : Bytes) (o off : Nat) (new : Bytes) : Bytes :=
  let old := slice bs (o + off) new.length
  let out := patch bs (o + off) new
  match udpOf bs with
  | none => out
  | some u =>
    let c := beAt bs (u.off + 6) 2
    if !u.v6 ∧ c = 0 then out
    else
      let ml := beAt bs (o + 2) 2
      if u.v6 ∧ beAt bs (u.off + 4) 2 - 8 = ml + 2 then
        let t := beAt bs (o + ml) 2
        let t' := fold16 (t + sum16 old + (65535 * new.length - sum16 new))
        patch out (o + ml) (beBytes 2 t')
      else patch out (u.off + 6) (beBytes 2 (let n := rfc1624 c old new; if u.v6 ∧ n = 0 then 65535 else n))

/-- correctionField of a PTP message increased by an amount in 2^-16 ns. -/
def addCorrection (bs : Bytes) (o : Nat) (d : Int) : Bytes :=
  ptpPatch bs o 8 (beBytes 8 (codeOf 64 (signedOf 64 (beAt bs (o + 8) 8) + d)))

/-! ### Address filter -/

/-- One bit of the reflected CRC-32 with polynomial 0x04C1_1DB7. -/
def crc32Bit (c : Nat) : Nat := if c % 2 = 1 then Nat.xor (c / 2) 0xEDB88320 else c / 2

/-- One byte. -/
def crc32Byte (c : Nat) (b : Byte) : Nat :=
  crc32Bit (crc32Bit (crc32Bit (crc32Bit (crc32Bit (crc32Bit (crc32Bit (crc32Bit (Nat.xor c b.toNat))))))))

/-- CRC-32 of a byte string (R154). -/
def crc32 (bs : Bytes) : Nat := Nat.xor (bs.foldl crc32Byte 0xFFFFFFFF) 0xFFFFFFFF

/-- The hash bin of a destination address. -/
def hashBin (da : Bytes) : Nat := crc32 da / 2 ^ 23

/-! ### Redundancy (R182, R183) -/

/-- The redundancy control trailer of a frame: sequence number and LanId, where it is valid (suffix 0x88FB, LSDU size). -/
def prpTrailer (bs : Bytes) : Option (Nat × Nat) :=
  let n := bs.length
  if (viewOf bs).off + 6 ≤ n ∧ beAt bs (n - 2) 2 = 0x88FB ∧ beAt bs (n - 4) 2 % 4096 = (n - (viewOf bs).off) % 4096 then
    some (beAt bs (n - 6) 2, beAt bs (n - 4) 2 / 4096)
  else none

/-- A frame padded with zeros to `n` bytes. -/
def padTo (n : Nat) (bs : Bytes) : Bytes := bs ++ List.replicate (n - bs.length) 0

/-- A frame with its trailer; a short frame is padded before the trailer (IEC 62439-3, PRESUMED, log entry 40). -/
def withTrailer (bs : Bytes) (seq lan : Nat) : Bytes :=
  let b := padTo 54 bs
  b ++ beBytes 2 seq ++ beBytes 2 (lan * 4096 + (b.length + 6 - (viewOf bs).off) % 4096) ++ beBytes 2 0x88FB

/-- The HSR tag of a frame: path, size, sequence number. -/
def hsrTag (bs : Bytes) : Option (Nat × Nat) :=
  if (viewOf bs).etype = 0x892F then
    some (beAt bs (viewOf bs).off 2 / 4096, beAt bs ((viewOf bs).off + 2) 2)
  else none

/-- The frame without its HSR tag. -/
def withoutHsr (bs : Bytes) : Bytes := bs.take ((viewOf bs).off - 2) ++ bs.drop ((viewOf bs).off + 4)

/-- A frame with an HSR tag (log entry 40). -/
def withHsr (bs : Bytes) (seq path : Nat) : Bytes :=
  let o := (viewOf bs).off - 2
  bs.take o ++ beBytes 2 0x892F ++ beBytes 2 (path * 4096 + (bs.length + 6 - (viewOf bs).off) % 4096) ++ beBytes 2 seq ++ bs.drop o

end Sys2Proof.Machine
end

