-- ==== Sys2Proof/Machine/Calendar.lean ====
section
/-! DEFINITION. The calendar clock and the backup domain (R476 to R492), but for the power-off request, which starts a save of
the energy engine. An operand `ticks` is the crystal's edges since the last command that moved the calendar. -/

namespace Sys2Proof.Machine

/-! ### Dates (R486) -/

/-- 2000-01-01 00:00:00 in seconds since 1970. -/
def epoch2000 : Nat := 946684800

/-- A leap year, given as year minus 2000: divisible by 4, except 2100, 2200 and 2300. -/
def leapYear (y : Nat) : Bool := y % 4 == 0 && y != 100 && y != 200 && y != 300

/-- Days of a year. -/
def yearDays (y : Nat) : Nat := if leapYear y then 366 else 365

/-- Days from 2000-01-01 to January 1 of a year. -/
def daysBeforeYear : Nat → Nat
  | 0 => 0
  | y + 1 => daysBeforeYear y + yearDays y

/-- Days of a month, 1 to 12. -/
def monthDays (y m : Nat) : Nat :=
  if m = 2 then (if leapYear y then 29 else 28) else if m = 4 ∨ m = 6 ∨ m = 9 ∨ m = 11 then 30 else 31

/-- The year and the day in it of a day number, from year `y` on. -/
def findYear : Nat → Nat → Nat → Nat × Nat
  | 0, y, d => (y, d)
  | n + 1, y, d => if d < yearDays y then (y, d) else findYear n (y + 1) (d - yearDays y)

/-- The month and the day in it (from 1) of a day of a year, from month `m` on. -/
def findMonth : Nat → Nat → Nat → Nat → Nat × Nat
  | 0, _, m, d => (m, d + 1)
  | n + 1, y, m, d => if d < monthDays y m then (m, d + 1) else findMonth n y (m + 1) (d - monthDays y m)

/-- Days before a month of a year. -/
def daysBeforeMonth (y : Nat) : Nat → Nat
  | 0 => 0
  | 1 => 0
  | m + 2 => daysBeforeMonth y (m + 1) + monthDays y (m + 1)

/-- A calendar date and time: year minus 2000, month, day, hour, minute, second. -/
structure Date where
  year : Nat
  month : Nat
  day : Nat
  hour : Nat
  min : Nat
  sec : Nat
  deriving DecidableEq, Repr

/-- The date of a second since 2000. -/
def dateOf (s : Nat) : Date :=
  let y := findYear 400 0 (s / 86400)
  let m := findMonth 11 y.1 1 y.2
  { year := y.1, month := m.1, day := m.2, hour := s / 3600 % 24, min := s / 60 % 60, sec := s % 60 }

/-- The second since 2000 of a date. -/
def Date.secs (d : Date) : Nat :=
  (daysBeforeYear d.year + daysBeforeMonth d.year d.month + (d.day - 1)) * 86400 + d.hour * 3600 + d.min * 60 + d.sec

/-- The check of R488. -/
def Date.ok (d : Date) : Bool :=
  decide (d.year ≤ 399) && decide (1 ≤ d.month ∧ d.month ≤ 12) && decide (1 ≤ d.day ∧ d.day ≤ monthDays d.year d.month) &&
  decide (d.hour ≤ 23) && decide (d.min ≤ 59) && decide (d.sec ≤ 59)

/-- WEEKDAY of a second since 2000: 1 Monday to 7 Sunday, 2000-01-01 a Saturday. -/
def weekday (s : Nat) : Nat := (s / 86400 + 5) % 7 + 1

/-- Ticks of the crystal in a second. -/
def tickHz : Nat := 32768

/-- Seconds from 2000-01-01 00:00:00 to the end of 2399-12-31 23:59:59. -/
def calendarEnd : Nat := 146097 * 86400

/-! ### Counting -/

/-- Main power is present: no power-on reset is in force. -/
def State.mainPower (s : State) : Bool := !(s.boot.inReset && s.boot.kind == 0)

/-- OSF is set (R478, R482, R486, R489). -/
def State.setOsf (s : State) : State :=
  (s.setFlag Reg.RTC_STATUS.OSF true).setFlag Reg.RTC_STATUS.SET_SINCE_OSF false

/-- The alarm's date and time. -/
def State.alarmDate (s : State) : Date :=
  { year := s.get Reg.RTC_ALARM_1.YEAR, month := s.get Reg.RTC_ALARM_1.MONTH, day := s.get Reg.RTC_ALARM_1.DAY
    hour := s.get Reg.RTC_ALARM_0.HOUR, min := s.get Reg.RTC_ALARM_0.MIN, sec := s.get Reg.RTC_ALARM_0.SEC }

/-- The calendar comes to the alarm's time as it counts from `old` to `new` ticks (R491): never to a date that is none, and not to the second
that a deletion passes over (R490). -/
def State.reachesAlarm (s : State) (old new : Nat) (deleted : Bool) : Bool :=
  let a := s.alarmDate.secs * tickHz
  s.flag Reg.RTC_CTL.ALARM_EN && s.alarmDate.ok && decide (old < a ∧ a ≤ new) && !(deleted && s.alarmDate.secs % 86400 == 86399)

/-- RTC_IRQ.ALARM, once main power is present (R491). -/
def State.raiseAlarm (s : State) : State :=
  if s.mainPower then s.irq Reg.RTC_IRQ.ALARM Reg.RTC_IRQ_MASK.MASK 112
  else { s with backup := { s.backup with irqAlarm := true } }

/-- The alarm fires (R491, R492): ALARM, the interrupt, and PWR_ON high where WAKE_EN is 1. -/
def State.alarm (s : State) : State :=
  let s1 := (s.setFlag Reg.RTC_STATUS.ALARM true).raiseAlarm
  if s.flag Reg.RTC_CTL.WAKE_EN then { s1 with pins := { s1.pins with pwrOn := true } } else s1

/-- The RANGE_END event is logged once main power is present (R486). -/
def State.logRange (s : State) : State :=
  if s.mainPower then s.log (evCode 21 2) 0 [] else { s with backup := { s.backup with logRange := true } }

/-- The calendar stops at its end (R486). -/
def State.rangeEnd (s : State) : State :=
  let s1 := { s with backup := { s.backup with sec := calendarEnd - 1, sub := 0, running := false } }
  (s1.setFlag Reg.RTC_STATUS.RANGE_END true).setOsf.logRange

/-- The calendar counts: it runs, it is not held, and the crystal has edges (R482, R486, R488). -/
def State.counting (s : State) : Bool := s.backup.running && s.env.crystal

/-- Compensated ticks of a run of raw ticks within the 32 s period (R484): one tick more or less in each of the first |n| slots
of 1/32 s, taken at the slot's start. -/
def State.compTicks (s : State) (t : Nat) : Nat :=
  let slots (p : Nat) : Nat := min (ceilDiv p 1024) s.backup.trim.natAbs
  let k := slots (s.backup.pos + t) - slots s.backup.pos
  if !s.flag Reg.BKP_TCOMP_CTL.EN then t
  else if 0 ≤ s.backup.trim then t + k else t - k

/-- The ticks the calendar moves for `c` compensated ticks when a leap second is pending and AUTO_SYNC is 1 (R490): an
insertion holds the day's last second twice, a deletion passes over it. Answers the new count and whether the second shown is
the repeated one. -/
def State.leapMove (s : State) (now c : Nat) : Nat × Bool :=
  let day := 86400 * tickHz
  let mid := (now / day + 1) * day
  let p := if s.flag Reg.RTC_CTL.AUTO_SYNC then s.get Reg.TSU_UTC.PENDING else 0
  if s.backup.leapSecond then
    if now + c < mid then (now + c, true) else (now + c, false)
  else if p = 1 ∧ mid ≤ now + c then
    if now + c < mid + tickHz then (now + c - tickHz, true) else (now + c - tickHz, false)
  else if p = 2 ∧ now < mid - tickHz ∧ mid - tickHz ≤ now + c then (now + c + tickHz, false)
  else (now + c, false)

/-- The crystal gives `t` ticks: HOLD's elapsed count or the calendar takes them, the alarm fires where it is reached, the
calendar stops at its end. -/
def State.calTicks (s : State) (t : Nat) : State :=
  if !s.counting then s
  else
    let c := s.compTicks t
    let s1 := { s with backup := { s.backup with pos := min (s.backup.pos + t) 1048576 } }
    if s.flag Reg.RTC_CTL.HOLD then s1.count Reg.RTC_HOLD_ELAPSED.TICKS c
    else
      let now := s.backup.sec * tickHz + s.backup.sub
      let m := s.leapMove now c
      let s2 := { s1 with backup := { s1.backup with sec := m.1 / tickHz, sub := m.1 % tickHz, leapSecond := m.2 } }
      let s3 := if s.reachesAlarm now m.1 (decide (now + c < m.1)) then s2.alarm else s2
      if calendarEnd * tickHz ≤ m.1 then s3.rangeEnd else s3

/-- The calendar's year. -/
def State.calYear (s : State) : Nat := (dateOf s.backup.sec).year + 2000

/-- RTC_SEC_LATCH (R487): a read of RTC_SEC latches the three registers for the requester. -/
def execRtcSecLatch (who : Requester) (ticks : Nat) (s : State) : Out :=
  .next (
    let s := s.calTicks ticks
    let d := dateOf s.backup.sec
    let put (s : State) (f : Fld) (v : Nat) : State := s.set (f.of who) v
    let s := put (put s Reg.RTC_SEC.SUBSEC s.backup.sub) Reg.RTC_SEC.SEC d.sec
    let s := put (put s Reg.RTC_TIME.MIN d.min) Reg.RTC_TIME.HOUR d.hour
    let s := put (put s Reg.RTC_DATE.DAY d.day) Reg.RTC_DATE.MONTH d.month
    put (put s Reg.RTC_DATE.WEEKDAY (weekday s.backup.sec)) Reg.RTC_DATE.YEAR d.year)

/-- RTC_HOLD (R488): guarded; the calendar stops and the elapsed count restarts. A second write of 1 changes nothing. -/
def execRtcHold (who : Requester) (ticks : Nat) (s : State) : Out :=
  .next (s.guarded who Reg.RTC_CTL.HOLD.base fun s =>
    let s := s.calTicks ticks
    if s.flag Reg.RTC_CTL.HOLD then s else (s.setFlag Reg.RTC_CTL.HOLD true).set Reg.RTC_HOLD_ELAPSED.TICKS 0)

/-- The staged date. -/
def State.staged (s : State) : Date :=
  { year := s.get Reg.RTC_STG_1.YEAR, month := s.get Reg.RTC_STG_1.MONTH, day := s.get Reg.RTC_STG_1.DAY
    hour := s.get Reg.RTC_STG_0.HOUR, min := s.get Reg.RTC_STG_0.MIN, sec := s.get Reg.RTC_STG_0.SEC }

/-- The calendar takes a time in one tick (R488, R490). -/
def State.setCalendar (s : State) (sec : Nat) : State :=
  { s with backup := { s.backup with sec := sec, sub := 0, running := true, leapSecond := false } }.setFlag
    Reg.RTC_STATUS.SET_SINCE_OSF true

/-- RTC_HOLD_CLEAR (R488): guarded; a good staged date is transferred and counting resumes; a bad one sets DATE_INVALID and
leaves HOLD at 1. -/
def execRtcHoldClear (who : Requester) (ticks : Nat) (s : State) : Out :=
  .next (s.guarded who Reg.RTC_CTL.HOLD.base fun s =>
    let s := s.calTicks ticks
    if !s.flag Reg.RTC_CTL.HOLD then s
    else if s.staged.ok then
      (((s.setCalendar s.staged.secs).setFlag Reg.RTC_STATUS.RANGE_END false).setFlag Reg.RTC_STATUS.DATE_INVALID
        false).setFlag Reg.RTC_CTL.HOLD false
    else (s.setFlag Reg.RTC_STATUS.DATE_INVALID true).irq Reg.RTC_IRQ.DATE_INVALID Reg.RTC_IRQ_MASK.MASK 112)

/-- OSF_CLEAR (R489): guarded; takes effect only after a transfer or a sync since OSF was set. -/
def execOsfClear (who : Requester) (s : State) : Out :=
  .next (s.guarded who Reg.RTC_STATUS.OSF.base fun s =>
    if s.flag Reg.RTC_STATUS.SET_SINCE_OSF then s.setFlag Reg.RTC_STATUS.OSF false else s)

/-- RTC_AUTO_SYNC (R490): at a whole UTC second that is a multiple of 60 × SYNC_MIN from 00:00:00, while LOCKED and not held. -/
def execRtcAutoSync (t : Tai) (ticks : Nat) (s : State) : Out :=
  .next (
    let s := (s.moveTo t).calTicks ticks
    let utc := ((t / secUnit : Nat) : Int) - s.getInt Reg.TSU_UTC.OFFSET - (epoch2000 : Nat)
    let min := if s.get Reg.RTC_CTL.SYNC_MIN = 0 then 60 else s.get Reg.RTC_CTL.SYNC_MIN
    if s.flag Reg.RTC_CTL.AUTO_SYNC && !s.flag Reg.RTC_CTL.HOLD && s.get Reg.TSU_STATUS.STATE == 3 && t % secUnit == 0 &&
        decide (0 ≤ utc ∧ utc % 86400 % (60 * min : Nat) = 0 ∧ utc < (calendarEnd : Nat)) then
      let diff := ((s.backup.sec * tickHz + s.backup.sub : Nat) : Int) - utc * tickHz
      let s1 := ((s.setInt Reg.RTC_SYNC_DIFF.DIFF diff).setCalendar utc.toNat).irq Reg.RTC_IRQ.SYNC
        Reg.RTC_IRQ_MASK.MASK 112
      if 32 < diff.natAbs then s1.log (evCode 21 3) 0 (leBytes 4 (codeOf 32 (saturate 32 diff))) else s1
    else s)

/-- RTC_ALARM (R491): the tick at which the calendar reaches the alarm time; the alarm fires as the calendar counts to it. -/
def execRtcAlarm (ticks : Nat) (s : State) : Out := .next (s.calTicks ticks)

/-- CALENDAR_RANGE_END (R486): the tick that ends 2399-12-31 23:59:59; the calendar stops there as it counts to it. -/
def execCalendarRangeEnd (ticks : Nat) (s : State) : Out := .next (s.calTicks ticks)

/-! ### Temperature compensation (R483 to R485) -/

/-- A rational rounded to the nearest integer, ties to even. -/
def roundEven (q : Rat) : Int :=
  let f := q.floor
  let r := q - f
  if r < 1 / 2 then f else if 1 / 2 < r then f + 1 else if f % 2 = 0 then f else f + 1

/-- Point k of the curve. -/
def State.curve (s : State) (k : Nat) : Int := s.getInt (Reg.BKP_TCOMP.POINT.ix k)

/-- The correction c for a temperature in 1/16 °C (R483): linear interpolation, end values held beyond the ends. -/
def State.correction (s : State) (temp : Int) : Int :=
  let x := temp + 45 * 16
  if x < 0 then s.curve 0
  else if 31 * 80 ≤ x then s.curve 31
  else
    let k := x.toNat / 80
    roundEven ((s.curve k : Rat) + ((s.curve (k + 1) - s.curve k : Int) : Rat) * ((x.toNat % 80 : Nat) : Rat) / 80)

/-- TEMP_COMP_PERIOD (R483, R484): the period before runs out, the temperature (1/16 °C) is measured, and the new period's whole
ticks are taken from the accumulator. What the accumulator's last bit takes of the product is a free value (log entry 1). -/
def execTempCompPeriod (temp : Int) (s : State) : Out :=
  .next (
    let s := s.calTicks (1048576 - s.backup.pos)
    let c := s.correction temp
    let s1 := (s.setInt Reg.BKP_TEMP.TEMP temp).setInt Reg.BKP_TEMP.CORR c
    if s.flag Reg.BKP_TCOMP_CTL.EN then
      let add := (c * 2 ^ 46) / 1000000 + (if c * 2 ^ 46 % 1000000 ≠ 0 ∧ s.freeBit then 1 else 0)
      let a := s.backup.acc + add
      let n := a.tdiv (2 ^ 32)
      { s1 with backup := { s1.backup with acc := a - n * 2 ^ 32, trim := n, pos := 0 } }.tookFree
    else { s1 with backup := { s1.backup with trim := 0, pos := 0 } })

/-- TCOMP_SAVE (R485): guarded. -/
def execTcompSave (who : Requester) (s : State) : Out :=
  .next (s.guarded who Reg.BKP_TCOMP_CTL.SAVE.base fun s => s.setFlag Reg.BKP_TCOMP_CTL.SAVE true)

/-- TCOMP_SAVE_DONE (R485): the NVS holds the curve and SAVE clears. -/
def execTcompSaveDone (s : State) : Out :=
  .next (if s.flag Reg.BKP_TCOMP_CTL.SAVE then
    { s with nvs := { s.nvs with tcomp := (List.range 32).map fun k => s.get (Reg.BKP_TCOMP.POINT.ix k) } }.setFlag
      Reg.BKP_TCOMP_CTL.SAVE false
  else s)

/-! ### Supply, oscillator, charger (R476 to R482, R492) -/

/-- OSCILLATOR_STOP (R482): no edge for 4 ms; OSF, the interrupt, an event once main power is present, and counting stops. -/
def execOscillatorStop (s : State) : Out :=
  .next (
    let s1 := { s with env := { s.env with crystal := false } }.setOsf
    if s.mainPower then (s1.irq Reg.RTC_IRQ.OSF Reg.RTC_IRQ_MASK.MASK 112).log (evCode 21 1) 0 []
    else { s1 with backup := { s1.backup with logOsf := true } })

/-- CRYSTAL_EDGES_RESUME (R482). -/
def execCrystalEdgesResume (s : State) : Out := .next { s with env := { s.env with crystal := true } }

/-- What the backup domain kept for the return of main power is raised and logged (R482, R486, R491). -/
def State.backupCatchUp (s : State) : State :=
  let b := s.backup
  let s := { s with backup := { s.backup with logOsf := false, logRange := false, irqAlarm := false } }
  let s := if b.logOsf then (s.irq Reg.RTC_IRQ.OSF Reg.RTC_IRQ_MASK.MASK 112).log (evCode 21 1) 0 [] else s
  let s := if b.logRange then s.log (evCode 21 2) 0 [] else s
  if b.irqAlarm then s.irq Reg.RTC_IRQ.ALARM Reg.RTC_IRQ_MASK.MASK 112 else s

/-- FIRST_BACKUP_POWER (R478, R492): every backup field takes its initial value, OSF and FIRST_POWER are set, the charger is off,
PWR_ON is driven high. -/
def execFirstBackupPower (s : State) : Out :=
  .next { s with bkp := initialBackup, backup := { crcOk := false, utcOk := false }
                 ledger := { s.ledger with copyOk := false, swapAbandoned := false }
                 pins := { s.pins with pwrOn := true } }

/-- VBAT_BROWN_OUT (R478): while the domain runs from VBAT, OSF is set and everything else stays. -/
def execVbatBrownOut (s : State) : Out := .next (if s.mainPower then s else s.setOsf)

/-- VBAT_ABSENT (R476): with main power present, VBAT_OK follows VBAT and nothing else changes. -/
def execVbatAbsent (absent : Bool) (s : State) : Out :=
  .next (
    let s1 := { s with env := { s.env with vbatAbsent := absent } }
    if s.mainPower then s1.setFlag Reg.BKP_STATUS.VBAT_OK (!absent) else s1)

/-- VBAT_MEASURE (R502's tables): every 32 s with main power, VBAT in mV. -/
def execVbatMeasure (mv : Nat) (s : State) : Out :=
  .next (if s.mainPower then
    let s1 := ((s.set Reg.BKP_VBAT.MV mv).setFlag Reg.BKP_STATUS.VBAT_OK (decide (1650 ≤ mv))).setFlag
      Reg.BKP_STATUS.VBAT_LOW (decide (mv < 2000))
    if mv < 2000 then s1.irq Reg.RTC_IRQ.VBAT_LOW Reg.RTC_IRQ_MASK.MASK 112 else s1
  else s)

/-- The targets a cell permits (R481). -/
def chgPermitted (cell target : Nat) : Bool :=
  match cell with
  | 1 => decide (target ≤ 2)
  | 2 => decide (target ≤ 1)
  | 3 => target == 0
  | _ => false

/-- The charger's setting takes a written value. -/
def State.chgStore (s : State) (v : Nat) (on : Bool) : State :=
  (((((s.set Reg.BKP_CHG.TARGET (bitsOf v 0 2)).set Reg.BKP_CHG.RES (bitsOf v 2 2)).set Reg.BKP_CHG.DIODE (bitsOf v 4 1)).set
    Reg.BKP_CHG.CELL (bitsOf v 5 3)).setFlag Reg.BKP_CHG.EN on).setFlag Reg.BKP_STATUS.CHG_ON on

/-- A refused write (R481): CHG_REFUSED, an event, and the charger as it was. -/
def State.chgRefuse (s : State) : State := (s.setFlag Reg.BKP_STATUS.CHG_REFUSED true).log (evCode 21 0) 0 []

/-- BKP_CHG_WRITE (R481): guarded; EN 0 turns the charger off; a wrong key is refused; the second of two equal writes of one
requester within 10 ms turns it on or is refused; any other write is the first of a pair. -/
def execBkpChgWrite (who : Requester) (value : Nat) (s : State) : Out :=
  .next (s.guarded who Reg.BKP_CHG.EN.base fun s =>
    let first (x : Option (Nat × Requester × Tai)) (s : State) : State := { s with backup := { s.backup with chgFirst := x } }
    if !bitAt value 8 then first none (s.chgStore value false)
    else if bitsOf value 24 8 ≠ 0xC5 then first none s.chgRefuse
    else if bitsOf value 5 3 = 0 then first none s
    else match s.backup.chgFirst with
    | some (v, w, t) =>
      if v = value ∧ w = who ∧ s.time.elapsed - t ≤ 10 * msUnit then
        if chgPermitted (bitsOf value 5 3) (bitsOf value 0 2) then first none (s.chgStore value true)
        else first none s.chgRefuse
      else first (some (value, who, s.time.elapsed)) s
    | none => first (some (value, who, s.time.elapsed)) s)

end Sys2Proof.Machine
end

