-- ==== Sys2Proof/Machine/TimeBase.lean ====
section
/-! DEFINITION. The time base, its references and its servo (R188 to R219). -/

namespace Sys2Proof.Machine

/-! ### The TIME_REF section (R192) -/

/-- Record 0 of TIME_REF. -/
def Roast.timeGlobal (r : Roast) : Bytes := r.recAt 0x18 0
/-- REF_COUNT. -/
def Roast.refCount (r : Roast) : Nat := leAt r.timeGlobal 1 1
/-- Reference record k, 1 to REF_COUNT. -/
def Roast.refRec (r : Roast) (k : Nat) : Bytes := r.recAt 0x18 k
/-- KIND. -/
def refKind (b : Bytes) : Nat := leAt b 1 1
/-- QUAL_S as a time. -/
def refQual (b : Bytes) : Tai := leAt b 8 2 * secUnit
/-- LOSS_MS as a time. -/
def refLoss (b : Bytes) : Tai := leAt b 0xA 2 * msUnit
/-- QUAL_NS in 2^-16 units. -/
def refSpread (b : Bytes) : Nat := leAt b 0xC 4 * nsUnit
/-- ACC_NS. -/
def refAcc (b : Bytes) : Nat := leAt b 0x10 4
/-- COMP in 2^-16 ns. -/
def refComp (b : Bytes) : Int := signedOf 32 (leAt b 0x14 4)
/-- START_THRESH_NS. -/
def Roast.startThresh (r : Roast) : Nat := leAt r.timeGlobal 4 4
/-- MIN_QUALITY_NS. -/
def Roast.minQuality (r : Roast) : Nat := leAt r.timeGlobal 8 4
/-- SYNC_ERR_NS. -/
def Roast.syncErr (r : Roast) : Nat := leAt r.timeGlobal 0xC 4
/-- STEP_THR_NS in 2^-16 ns. -/
def Roast.stepThr (r : Roast) : Nat := leAt r.timeGlobal 0x10 4 * nsUnit
/-- LOCK_NS in 2^-16 ns. -/
def Roast.lockBound (r : Roast) : Nat := leAt r.timeGlobal 0x18 4 * nsUnit
/-- KI_SHIFT. -/
def Roast.kiShift (r : Roast) : Nat := leAt r.timeGlobal 0x1C 1
/-- REVERT_S as a time. -/
def Roast.revert (r : Roast) : Tai := leAt r.timeGlobal 0x1E 2 * secUnit

/-- The reference of a kind, as its record number. -/
def Roast.refOfKind (r : Roast) (kind : Nat) : Option Nat :=
  ((List.range r.refCount).map (· + 1)).find? fun k => refKind (r.refRec k) == kind

/-- The rules of a record 0 (detail code 9). -/
def timeGlobalOk (b : Bytes) (n : Nat) (maxAcc : Nat) : Bool :=
  leAt b 0 1 == 0 && decide (leAt b 1 1 ≤ 8) && n == leAt b 1 1 + 1 && decide (leAt b 2 1 ≤ 1) &&
  decide (2 ≤ leAt b 3 1 ∧ leAt b 3 1 ≤ 3) && decide (maxAcc ≤ leAt b 4 4) &&
  decide (1000 ≤ leAt b 0x10 4 ∧ leAt b 0x10 4 ≤ 1000000000) && decide (1000 ≤ leAt b 0x14 4 ∧ leAt b 0x14 4 ≤ 100000) &&
  decide (1 ≤ leAt b 0x18 4 ∧ leAt b 0x18 4 ≤ 10000) && decide (leAt b 0x1C 1 ≤ 15) && decide (leAt b 0x1D 1 ≤ 1) &&
  decide (leAt b 0x1E 2 ≤ 3600)

/-- The rules of a reference record (detail code 9). -/
def timeRefOk (b : Bytes) : Bool :=
  leAt b 0 1 == 1 && decide (leAt b 1 1 ≤ 3) &&
  (if leAt b 1 1 = 0 then decide (leAt b 2 1 ≤ 5 ∧ leAt b 3 1 ≤ 3) && !(leAt b 3 1 == 1 && decide (4 ≤ leAt b 2 1)) &&
      !(leAt b 3 1 == 3 && decide (leAt b 2 1 < 4))
    else leAt b 2 1 == 0) &&
  decide (leAt b 5 1 < 8) && decide (leAt b 7 1 ≤ 7) && decide (1 ≤ leAt b 8 2 ∧ leAt b 8 2 ≤ 600) &&
  decide (10 ≤ leAt b 0xA 2 ∧ leAt b 0xA 2 ≤ 10000)

/-- The whole section's rules (R192). -/
def Roast.timeOk (r : Roast) : Bool :=
  let refs := (r.recs 0x18).drop 1
  let maxAcc := (refs.filter fun b => decide (refKind b ≤ 2)).foldl (fun m b => max m (refAcc b)) 0
  timeGlobalOk r.timeGlobal (r.recs 0x18).length maxAcc && refs.all timeRefOk &&
  [1, 2, 3].all fun k => decide ((refs.filter fun b => refKind b == k).length ≤ 1)

/-! ### States and quality -/

/-- TSU_STATUS.STATE. -/
def State.tsu (s : State) : Nat := s.get Reg.TSU_STATUS.STATE

/-- The state of R196, with HOLDOVER beside it. -/
def State.setTsu (s : State) (st : Nat) : State :=
  (s.set Reg.TSU_STATUS.STATE st).setFlag Reg.TSU_STATUS.HOLDOVER (st == 4)

/-- The history of record k. -/
def State.refHist (s : State) (k : Nat) : RefHist := (s.time.refs[k - 1]?).getD {}

/-- The history of record k replaced. -/
def State.setRefHist (s : State) (k : Nat) (h : RefHist) : State :=
  { s with time := { s.time with
    refs := setAt h (k - 1) (s.time.refs ++ List.replicate (k - s.time.refs.length) {}) } }

/-- The selected record, 0 none. -/
def State.selected (s : State) : Nat := s.get Reg.TSU_STATUS.SELECTED

/-- Whether record k is qualified. -/
def State.qualified (s : State) (k : Nat) : Bool := s.bit Reg.TSU_STATUS.QUALIFIED (k - 1)

/-- The class constants Y and A of R214: Y, and A per second. -/
def classYA : Nat → Rat × Rat
  | 0 => (1 / 1000000, 1 / 10000000000)
  | 1 => (1 / 10000000, 1 / 100000000000)
  | 2 => (1 / 1000000000, 1 / 100000000000000)
  | _ => (1 / 100000000000, 1 / 1000000000000000)

/-- A time in seconds. -/
def seconds (t : Tai) : Rat := (t : Rat) / (secUnit : Rat)

/-- The error estimate e in nanoseconds (R211); none where it is unknown. -/
def State.timeErr (s : State) : Option Rat :=
  match s.tsu with
  | 3 => some (refAcc (s.roast.refRec s.selected) : Rat)
  | 2 => some (((s.time.lastOff.natAbs : Nat) : Rat) / 65536 + (refAcc (s.roast.refRec s.selected) : Rat))
  | 4 =>
    let t := seconds (s.time.elapsed - s.time.holdFrom)
    let ya := classYA (s.get Reg.TSU_QUALITY.CLASS)
    some (s.time.holdE0 + 1000000000 * (ya.1 * t + ya.2 * t * t / 2))
  | _ => none

/-- The C37.118 time-quality code of an error bound (R212): the smallest c with e ≤ 10^(c-10) s. -/
def tqCode (e : Option Rat) : Nat :=
  match e with
  | none => 0xF
  | some x => ((List.range 11).map (· + 1)).find? (fun c => decide (x ≤ ((10 ^ (c - 1) : Nat) : Rat))) |>.getD 0xF

/-- STAT bits [8:6] of an error bound. -/
def statTq (e : Option Rat) : Nat :=
  match e with
  | none => 7
  | some x => if x < 100 then 1 else if x < 1000 then 2 else if x < 10000 then 3 else if x < 100000 then 4
    else if x < 1000000 then 5 else if x < 10000000 then 6 else 7

/-- STAT bits [5:4]: time since the state was last LOCKED (R212). -/
def State.unlockedCode (s : State) : Nat :=
  if s.tsu = 3 then 0
  else if s.tsu = 0 ∨ s.tsu = 1 then 3
  else match s.time.lastLocked with
  | none => 3
  | some l =>
    let u := s.time.elapsed - l
    if u < 10 * secUnit then 0 else if u < 100 * secUnit then 1 else if u < 1000 * secUnit then 2 else 3

/-- TIME_VALID under R196. -/
def State.timeValidNow (s : State) : Bool :=
  match s.tsu with
  | 3 => true
  | 2 | 4 => (match s.timeErr with | some e => decide (e ≤ (s.roast.startThresh : Rat)) | none => false)
  | _ => false

/-- The error estimate and what is derived from it take their values (R196, R211, R212). -/
def State.timeQuality (s : State) : State :=
  let e := s.timeErr
  let s1 := (((s.setFlag Reg.TSU_STATUS.TIME_VALID s.timeValidNow).set Reg.TSU_ERR_NS.ERR
    (match e with | none => 0xFFFFFFFF | some x => min x.ceil.toNat 0xFFFFFFFE)).set Reg.TSU_QUALITY.TQ
    (if s.tsu = 3 then 0 else tqCode e)).set Reg.TSU_QUALITY.STAT_TQ (statTq e)
  let s2 := (s1.set Reg.TSU_QUALITY.UNLOCKED s.unlockedCode).setFlag Reg.TSU_QUALITY.SYNC_ERR
    (match e with | none => true | some x => decide ((s.roast.syncErr : Rat) < x))
  s2.health 3 (match e with | none => false | some x => decide (x ≤ (s.roast.minQuality : Rat)))

/-! ### Steps and slews (R190, R200) -/

/-- A signed amount added to a time. -/
def addTai (t : Tai) (d : Int) : Tai := ((t : Int) + d).toNat

/-- FREQ takes a value, held to ±200 ppm (R189). -/
def State.setFreq (s : State) (f : Int) : State :=
  s.set Reg.TSU_FREQ.FREQ (codeOf 40 (max (-56294995342) (min 56294995342 f)))

/-- A slew in progress ends or is cancelled; the rest is dropped (R200). -/
def State.endSlew (s : State) : State :=
  { s with time := { s.time with slew := 0 } }.setFlag Reg.TSU_STATUS.SLEW false

/-- A slew of a phase amount in 2^-16 ns starts. -/
def State.startSlew (s : State) (d : Int) : State :=
  { s with time := { s.time with slew := d * ((2 ^ 48 : Nat) : Int) } }.setFlag Reg.TSU_STATUS.SLEW (d != 0)

/-- Time moves on to the cycle that removes the last of a slew's phase (R200). -/
def State.passSlew (s : State) : State :=
  if s.time.slew = 0 then s
  else
    let k := ceilDiv s.time.slew.natAbs (81920 * s.slewRate)
    let x := s.cyclesOn k
    let t := max s.time.tai (x.1 / 2 ^ 48)
    { s with time := { s.time with
      tai := t, elapsed := s.time.elapsed + (t - s.time.tai), ctr := x.1, cycles := s.time.cycles + k, slew := x.2 } }

/-- SLEW_COMPLETE (R200): the cycles have consumed the amount, and the slew ends. The event has no operand: it takes place at the instant that
the state gives (log entry 12). With SLEW_PPB 0 no slew completes. -/
def execSlewComplete (s : State) : Out :=
  .next (if s.time.slew ≠ 0 ∧ s.slewRate = 0 then s else s.passSlew.endSlew)

/-- The steps requested since the last tick are applied as one amount (R190); a slew in progress is dropped (R200). -/
def State.applySteps (s : State) : State :=
  match s.time.servoStep, s.time.hostStep with
  | none, none => s
  | a, b =>
    let d := a.getD 0 + b.getD 0
    let s0 := s.endSlew
    let s1 := { s0 with time := { s0.time with
      tai := addTai s.time.tai d, ctr := ((s.time.ctr : Int) + d * ((2 ^ 48 : Nat) : Int)).toNat, lastTick := none
      servoStep := none, hostStep := none, stepped := some d } }
    ((s1.setFlag Reg.TSU_CTL.STEP_GO false).irq Reg.TSU_IRQ.STEP Reg.TSU_IRQ_MASK.MASK 24).log (evCode 10 0) 0 (evNum d)

/-- STEP_GO (R190): guarded; the host's step is applied at the next tick. -/
def execStepGo (who : Requester) (s : State) : Out :=
  .next (s.guarded who Reg.TSU_CTL.STEP_GO.base fun s =>
    { s with time := { s.time with hostStep := some (s.getInt Reg.TSU_STEP.STEP) } }.setFlag Reg.TSU_CTL.STEP_GO true)

/-! ### TDC stamps (R201 to R203) -/

/-- The table a channel uses: its last good one, else the linear one (R203). -/
def State.tdcLookup (s : State) (ch : Nat) : List Nat :=
  (alookup ch s.time.tdcTab).getD ((List.range 64).map fun c => c * 81920 / 64)

/-- The mode a channel's latency depends on: that of its port, RS-FEC included (R204, R205). -/
def State.tdcMode (s : State) (ch : Nat) : Nat :=
  if 12 ≤ ch ∧ ch < 24 then s.get (Reg.MAC_CTL.MODE.ix ((ch - 12) / 2)) + 4 * s.get (Reg.MAC_CTL.FEC_EN.ix ((ch - 12) / 2)) else 0

/-- A stamp (R201): the time of the cycle that follows the edge, less the fine interval the channel's table gives its code, less the channel's
fixed latency to the ball. -/
def State.tdcStamp (s : State) (ch : Nat) (cycle : Tai) (code : Nat) : Tai :=
  addTai cycle (-((((s.tdcLookup ch)[code % 64]?).getD 0 + Config.tdcLatency ch (s.tdcMode ch) : Nat) : Int))

/-! ### Samples (R193, R197) -/

/-- A rational rounded to the nearest integer, halves away from zero. -/
def roundRat (q : Rat) : Int := if q < 0 then -((-q + 1 / 2).floor) else (q + 1 / 2).floor

/-- The loop of R197 for a sample of the selected reference; `tau` in seconds. -/
def State.servo (s : State) (o : Int) (tau : Rat) : State :=
  let r := s.roast
  let s1 := s.endSlew
  let s2 :=
    if (s.time.firstSample && !s.time.todAtSel) || decide (r.stepThr < o.natAbs) then
      { s1 with time := { s1.time with servoStep := some (-o) } }
    else
      let y := s.time.yI - ((o : Rat) / 65536) / 1000000000 / (tau * ((2 ^ r.kiShift : Nat) : Rat))
      let s2 := s1.startSlew (-o)
      { s2 with time := { s2.time with yI := y } }
  s2.setFreq (roundRat (s2.time.yI * ((2 ^ 48 : Nat) : Rat)))

/-- A sample of the selected phase reference: state, servo, last offset (R196, R197, R198). In manual mode it only cancels a slew that still
runs (R200). -/
def State.selectedSample (s : State) (o : Int) (tau : Rat) : State :=
  let inside := decide (o.natAbs ≤ s.roast.lockBound)
  let n := if inside then s.time.inLock + 1 else 0
  let s1 := { s with time := { s.time with inLock := n, lastOff := o } }.setInt Reg.TSU_OFFSET.OFS (roundDiv o nsUnit)
  let s2 :=
    if s.tsu = 3 ∧ !inside then { s1.setTsu 2 with time := { s1.time with lastLocked := some s.time.elapsed } }
    else if s.tsu = 2 ∧ 3 ≤ n ∧ !s.flag Reg.TSU_STATUS.SLEW then s1.setTsu 3
    else s1
  let s3 := if s.flag Reg.TSU_CTL.SERVO then s2.endSlew else s2.servo o tau
  { s3 with time := { s3.time with firstSample := false } }

/-- The history with a sample taken now: the run of good gaps goes on or starts again, and samples older than the
qualification period go (R194). -/
def RefHist.take (h : RefHist) (rec : Bytes) (now : Tai) (o : Int) : RefHist :=
  let gapOk := match h.samples with | (t, _) :: _ => decide (now - t ≤ refLoss rec) | [] => false
  { h with
    samples := (now, o) :: h.samples.filter fun e => decide (now - e.1 ≤ refQual rec)
    goodSince := match gapOk, h.goodSince with | true, some g => some g | _, _ => some now }

/-- A sample of record k: history, TSU_REF_k, and the loop where the record is selected. -/
def State.refSample (s : State) (k : Nat) (o : Int) (tau : Rat) : State :=
  let h := (s.refHist k).take (s.roast.refRec k) s.time.elapsed o
  let s1 := ((s.setRefHist k h).setInt (Reg.TSU_REF.LAST.ix (k - 1)) (roundDiv o nsUnit)).set (Reg.TSU_REF.AGE.ix (k - 1)) 0
  if k = s.selected ∧ refKind (s.roast.refRec k) ≤ 2 then (s1.selectedSample o tau).timeQuality else s1

/-- TSU_SAMPLE_GO (R193, R197): an offset sample for a record of kind 0; other values are ignored. -/
def State.sampleGo (s : State) (who : Requester) (k : Nat) : State :=
  s.open_ who Reg.TSU_SAMPLE_GO.REF.base fun s =>
    if 1 ≤ k ∧ k ≤ s.roast.refCount ∧ refKind (s.roast.refRec k) = 0 then
      let gap := match (s.refHist k).samples with | (t, _) :: _ => seconds (s.time.elapsed - t) | [] => 16
      s.refSample k (s.getInt Reg.TSU_SAMPLE.OFS) (max (1 / 128) (min 16 gap))
    else s

/-- TSU_SAMPLE_GO. -/
def execTsuSampleGo (who : Requester) (k : Nat) (ofs : Nat) (s : State) : Out :=
  .next ((s.open_ who Reg.TSU_SAMPLE.OFS.base fun s => s.set Reg.TSU_SAMPLE.OFS ofs).sampleGo who k)

/-- The offset of an instant to the nearest whole TAI second. -/
def toSecond (i : Int) : Int := i - roundDiv i secUnit * secUnit

/-- PPS_IN_EDGE (R193, R201): the stamp less COMP gives the phase to the nearest whole second. -/
def execPpsInEdge (stamp : TdcStamp) (s : State) : Out :=
  .next (
    let s := s.moveTo stamp.cycle
    let stamp := s.tdcStamp 0 stamp.cycle stamp.code
    match s.roast.refOfKind 2 with
    | none => s
    | some k => s.refSample k (toSecond ((stamp : Int) - refComp (s.roast.refRec k))) 1)

/-- UTC seconds since 1970 of a decoded IRIG-B frame; its year where it carries one, else the calendar's. -/
def IrigFrame.utc (f : IrigFrame) (calYear : Nat) : Nat :=
  epoch2000 + (daysBeforeYear ((if f.ext then f.year else calYear) - 2000) + (f.day - 1)) * 86400 + f.sod

/-- The UTC offset as a signed number (R216). -/
def State.utcOffset (s : State) : Int := s.getInt Reg.TSU_UTC.OFFSET

/-- The pending leap after an instant t (R217): the TAI instant of the 00:00:00 UTC that it moves, and whether it deletes. One set during
a day's final second, as that day stands, falls at the end of the next day (log entry 49). -/
def State.leapDue (s : State) (t : Tai) : Option (Tai × Bool) :=
  let held := s.time.leapHeld
  let p := if held ≠ 0 then held else s.get Reg.TSU_UTC.PENDING
  if p ≠ 1 ∧ p ≠ 2 then none
  else
    let d : Int := if p = 1 then 1 else -1
    let day := (((t / secUnit : Nat) : Int) - s.utcOffset - d) / 86400 + 1
    let at_ := (86400 * day + s.utcOffset + d).toNat
    let late := held == 0 && decide ((at_ - (if p = 1 then 2 else 1)) * secUnit ≤ s.time.pendAt)
    some ((if late then at_ + 86400 else at_) * secUnit, p == 2)

/-- TSU_UTC.PENDING takes a value; a leap cleared once the day's final second has begun is not cancelled (R217). -/
def State.setPending (s : State) (v : Nat) : State :=
  let old := s.get Reg.TSU_UTC.PENDING
  let final := match s.leapDue s.time.tai with
    | some (at_, _) => decide (at_ ≤ s.time.tai + secUnit)
    | none => false
  let late := old != 0 && v != old && s.time.leapHeld == 0 && final
  let s1 := { s with time := { s.time with
    leapHeld := if late then old else s.time.leapHeld
    pendAt := if v ≠ 0 ∧ v ≠ old then s.time.tai else s.time.pendAt } }
  s1.set Reg.TSU_UTC.PENDING v

/-- TSU_UTC.OFFSET takes a value; the one before it stays known for frames received while it was in force (R231). -/
def State.setOffset (s : State) (o : Int) : State :=
  let s1 := { s with
    time := { s.time with utcHist := ((s.time.tai, s.utcOffset) :: s.time.utcHist).take 16 }, backup := { s.backup with utcOk := true } }
  s1.setInt Reg.TSU_UTC.OFFSET o

/-- A write of TSU_UTC: OFFSET and PENDING. -/
def State.utcWrite (s : State) (v : Nat) : State :=
  let s1 := s.setOffset (signedOf 16 (bitsOf v 0 16))
  if bitsOf v 16 2 = s1.get Reg.TSU_UTC.PENDING then s1 else s1.setPending (bitsOf v 16 2)

/-- UTC_OFFSET of the roast is taken only while the backup domain's copy is invalid (R216). -/
def State.utcFromRoast (s : State) : State :=
  if s.backup.utcOk || !s.roast.has 0x18 then s
  else (s.setOffset (leAt s.roast.timeGlobal 0x20 2)).set Reg.TSU_UTC.PENDING 0

/-- Whether a decoded IRIG-B time follows the one before it: the next second, the 00:00:00 after an inserted 23:59:60, or the 00:00:00 after
the 23:59:58 that ends a day whose deletion was announced (R193, R217). -/
def irigFollows (last : Nat × Nat × Bool) (utc sod : Nat) : Bool :=
  (utc == last.1 + 1 && !(last.2.1 == 86400)) || (utc == last.1 && last.2.1 == 86400 && sod == 0) ||
  (utc == last.1 + 2 && last.2.1 == 86398 && last.2.2 && sod == 0)

/-- IRIG_B_FRAME (R193, R216): a frame that fails its parity, does not follow the previous one or exceeds MAX_TQ gives no sample;
a good one gives phase and time of day, and its leap bits where it is selected. -/
def execIrigBFrame (f : IrigFrame) (s : State) : Out :=
  .next (
    let s := s.moveTo f.stamp
    match s.roast.refOfKind 1 with
    | none => s
    | some k =>
      let rr := s.roast.refRec k
      let utc := f.utc s.calYear
      let h := s.refHist k
      let follows := match h.lastTod with | some l => irigFollows l utc f.sod | none => true
      let del := (f.ext && f.leapPending && f.leapDel) || s.get Reg.TSU_UTC.PENDING == 2
      let s1 := s.setRefHist k { h with lastTod := some (utc, f.sod, del) }
      if !f.parityOk || !follows || (f.ext && decide (leAt rr 6 1 < f.tq)) || (bitAt (leAt rr 5 1) 2 && !f.ext) then s1
      else
        let o := (s.tdcStamp 10 f.stamp f.code : Int) - refComp rr - ((utc : Int) + s.utcOffset) * secUnit
        let s2 := s1.refSample k o 1
        if k = s.selected && f.ext then
          let p := if f.leapPending then (if f.leapDel then 2 else 1) else 0
          if p = s2.get Reg.TSU_UTC.PENDING then s2 else s2.setPending p
        else s2)

/-- REF10M_SECOND (R193, R199): the second's fractional frequency of the time base against REF10M_IN, in 2^-48; learned in
LOCKED, steered on in HOLDOVER. -/
def execRef10mSecond (t : Tai) (y : Int) (s : State) : Out :=
  .next (
    let s := s.moveTo t
    match s.roast.refOfKind 3 with
    | none => s
    | some k =>
      let s1 := s.refSample k (roundDiv (y * 1000000000) (2 ^ 32)) 1
      if s.tsu = 3 then
        let l := (y :: s1.time.ref10m).take 1000
        { s1 with time := { s1.time with ref10m := l } }.setInt Reg.TSU_REF10M_OFS.OFS (roundDiv l.sum l.length)
      else if s.tsu = 4 ∧ s.flag Reg.TSU_STATUS.REF10M_USE ∧ !s.flag Reg.TSU_CTL.SERVO then
        s1.setFreq (s.getInt Reg.TSU_FREQ.FREQ + s.getInt Reg.TSU_REF10M_OFS.OFS - y)
      else s1)

/-! ### References across a roast swap (R192) -/

/-- The carry key of a reference: KIND, PORT, PROFILE, DOMAIN. -/
def refKey (b : Bytes) : Bytes := slice b 1 4

/-- The record of a roast with a carry key. -/
def Roast.refOfKey (r : Roast) (key : Bytes) : Option Nat :=
  ((List.range r.refCount).map (· + 1)).find? fun k => refKey (r.refRec k) == key

/-- At a swap a reference keeps its qualification and its selection under its carry key, whatever its place; every other one starts
unqualified. A selection that goes with its record is replaced at the next tick (R195), from the error estimate `err` it leaves. -/
def State.carryRefs (s : State) (old new : Roast) (err : Option Rat) : State :=
  let ks := (List.range new.refCount).map (· + 1)
  let from? (k : Nat) : Option Nat := old.refOfKey (refKey (new.refRec k))
  let sel := if s.selected = 0 then 0 else (new.refOfKey (refKey (old.refRec s.selected))).getD 0
  let q := ks.foldl (fun m k => setBit m (k - 1) (match from? k with | some j => s.qualified j | none => false)) 0
  let s1 := { s with time := { s.time with
    refs := ks.map fun k => match from? k with | some j => s.refHist j | none => {}
    lostErr := if s.selected ≠ 0 ∧ sel = 0 then some (err.getD 0) else s.time.lostErr } }
  ks.foldl (fun s k => s.setFlag (Reg.TSU_REF.QUAL.ix (k - 1)) (bitAt q (k - 1)))
    ((s1.set Reg.TSU_STATUS.QUALIFIED q).set Reg.TSU_STATUS.SELECTED sel)

/-! ### The 1 ms tick (R194, R195, R196, R211) -/

/-- Largest minus smallest offset. -/
def spreadOf (l : List (Tai × Int)) : Nat :=
  match l with
  | [] => 0
  | (_, o) :: r => (r.foldl (fun m e => max m e.2) o - r.foldl (fun m e => min m e.2) o).toNat

/-- Whether a record meets R194 now. -/
def State.refMeets (s : State) (k : Nat) : Bool :=
  let h := s.refHist k
  let rr := s.roast.refRec k
  let now := s.time.elapsed
  let win := h.samples.filter fun e => decide (now - e.1 ≤ refQual rr)
  (match h.samples with | (t, _) :: _ => decide (now - t < refLoss rr) | [] => false) &&
  (match h.goodSince with | some g => decide (refQual rr ≤ now - g) | none => false) &&
  decide (spreadOf win ≤ refSpread rr) && (refKind rr != 2 || decide (2 ≤ s.tsu))

/-- Age, spread and qualification of record k at a tick; one that disqualifies starts its period afresh. -/
def State.refTick (s : State) (k : Nat) : State :=
  let h := s.refHist k
  let rr := s.roast.refRec k
  let now := s.time.elapsed
  let age := match h.samples with | (t, _) :: _ => min ((now - t) / msUnit) 0xFFFFFF | [] => 0xFFFFFF
  let win := h.samples.filter fun e => decide (now - e.1 ≤ refQual rr)
  let s1 := (s.set (Reg.TSU_REF.AGE.ix (k - 1)) age).set (Reg.TSU_REF.SPREAD.ix (k - 1)) (spreadOf win / nsUnit)
  let ok := s.refMeets k
  let was := s.qualified k
  let s2 := (s1.setFlag (Reg.TSU_REF.QUAL.ix (k - 1)) ok).putBit Reg.TSU_STATUS.QUALIFIED (k - 1) ok
  if was && !ok then
    (s2.setRefHist k { h with goodSince := none, qualSince := none }).count (Reg.TSU_REF.LOSSES.ix (k - 1))
  else if ok && !was then s2.setRefHist k { h with qualSince := some now }
  else if decide (refLoss rr ≤ now - (match h.samples with | (t, _) :: _ => t | [] => now)) then
    s2.setRefHist k { h with goodSince := none }
  else s2

/-- The selection of R195. -/
def State.selectRef (s : State) : Nat :=
  let r := s.roast
  let ok (k : Nat) := s.qualified k && decide (refKind (r.refRec k) ≤ 2)
  let force := s.get Reg.TSU_CTL.FORCE
  let all := (List.range r.refCount).map (· + 1)
  if force = 15 then 0
  else if 1 ≤ force ∧ force ≤ r.refCount ∧ ok force then force
  else if s.selected ≠ 0 ∧ s.qualified s.selected then
    match all.find? fun k => decide (k < s.selected) && ok k &&
        (match (s.refHist k).qualSince with | some q => decide (r.revert ≤ s.time.elapsed - q) | none => false) with
    | some k => k
    | none => s.selected
  else (all.find? ok).getD 0

/-- The class of R214 at holdover entry. -/
def State.holdClass (s : State) : Nat :=
  match s.roast.refOfKind 3 with
  | some k => if s.qualified k then leAt s.roast.timeGlobal 3 1 else leAt s.roast.timeGlobal 2 1
  | none => leAt s.roast.timeGlobal 2 1

/-- A change of selection and the state it leads to (R195, R196, R213). -/
def State.reselect (s : State) (k : Nat) : State :=
  if k = s.selected ∧ s.time.lostErr.isNone then s
  else
    let e := match s.time.lostErr with | some x => some x | none => s.timeErr
    let s1 := ((s.set Reg.TSU_STATUS.SELECTED k).irq Reg.TSU_IRQ.SEL_CHG Reg.TSU_IRQ_MASK.MASK 24).log (evCode 10 1) 0 []
    let s1 := { s1 with time := { s1.time with
      lostErr := none, firstSample := true, todAtSel := decide (2 ≤ s.tsu), inLock := 0
      lastLocked := if s.tsu = 3 then some s.time.elapsed else s1.time.lastLocked } }
    if k = 0 then
      if s.tsu = 2 ∨ s.tsu = 3 then
        let c := s.holdClass
        let s2 := { s1.setTsu 4 with time := { s1.time with
          holdFrom := s.time.elapsed, holdE0 := e.getD 0, hold10m := decide (2 ≤ c) } }
        (((s2.set Reg.TSU_QUALITY.CLASS c).setFlag Reg.TSU_STATUS.REF10M_USE (decide (2 ≤ c) && !s.flag Reg.TSU_CTL.SERVO)).set
          Reg.TSU_HOLD_ELAPSED.MS 0 |>.irq Reg.TSU_IRQ.HOLD_IN Reg.TSU_IRQ_MASK.MASK 24).log (evCode 10 3) 0 []
      else s1
    else
      let o := match (s.refHist k).samples with | (_, o) :: _ => o | [] => 0
      let s1 := { s1.setInt Reg.TSU_OFFSET.OFS (roundDiv o nsUnit) with time := { s1.time with lastOff := o } }
      if s.tsu = 4 then
        (((s1.setTsu 2).setFlag Reg.TSU_STATUS.REF10M_USE false).irq Reg.TSU_IRQ.HOLD_OUT Reg.TSU_IRQ_MASK.MASK 24).log
          (evCode 10 4) 0 (leBytes 4 (s.get Reg.TSU_HOLD_ELAPSED.MS) ++ leBytes 4 (codeOf 32 (saturate 32 (roundDiv o nsUnit))))
      else if s.tsu = 3 ∧ o.natAbs ≤ s.roast.lockBound then s1
      else s1.setTsu 2

/-- In HOLDOVER the elapsed milliseconds run (R213). -/
def State.holdCount (s : State) : State := if s.tsu = 4 then s.count Reg.TSU_HOLD_ELAPSED.MS else s

/-- In HOLDOVER a REF10M_IN that is qualified steers FREQ, whenever it became so; one that disqualifies hands over to the class of SYSCLK_IN with
the error reached, and FREQ holds its value (R199, R214). -/
def State.holdTick (s : State) : State :=
  if s.tsu ≠ 4 then s
  else
    let q := match s.roast.refOfKind 3 with | some k => s.qualified k | none => false
    let s1 := { s with time := { s.time with hold10m := q } }.setFlag Reg.TSU_STATUS.REF10M_USE (q && !s.flag Reg.TSU_CTL.SERVO)
    if s.time.hold10m && !q then
      let e := s.timeErr.getD 0
      { s1 with time := { s1.time with holdE0 := e, holdFrom := s.time.elapsed } }.set Reg.TSU_QUALITY.CLASS (leAt s.roast.timeGlobal 2 1)
    else s1

/-- OCCURRED is 1 for 86,400 s from the instant a leap takes effect (R218). -/
def State.leapTick (s : State) : State :=
  s.setFlag Reg.TSU_UTC.OCCURRED
    (match s.backup.leapAt with | some t => decide (t ≤ s.time.tai ∧ s.time.tai < t + 86400 * secUnit) | none => false)

/-- The time-stamp unit at a 1 ms tick: steps, then every qualification change, then the selection, then what follows. -/
def State.timeTick (s : State) (t : Tai) : State :=
  let s := (s.moveTo t).applySteps
  let s := ((List.range s.roast.refCount).map (· + 1)).foldl State.refTick s
  let s := s.holdCount
  let s := (s.reselect s.selectRef).holdTick
  { s.leapTick.timeQuality with time := { s.leapTick.timeQuality.time with lastTick := some s.time.tai } }

/-- TSU_TIME_LATCH (R188, R191): the four words of the current time, for the requester: what the counter shows, with the top 16 of its 64
fraction bits. -/
def execTsuTimeLatch (who : Requester) (t : Tai) (s : State) : Out :=
  .next (
    let s := s.moveTo t
    (List.range 4).foldl (fun s k => s.set ((Reg.TSU_TIME.TIME.ix k).of who) (taiWord (s.time.ctr / 2 ^ 48) k)) s)

/-! ### TDC, leap seconds, PPS output -/

/-- The lookup table of a histogram (R202): 1.25 ns × (h_0 + … + h_(c-1) + h_c / 2) / 2^20, rounded to 2^-16 ns. -/
def tdcTable : Nat → List Nat → List Nat
  | _, [] => []
  | acc, h :: r => (81920 * (2 * acc + h) + 2 ^ 20) / 2 ^ 21 :: tdcTable (acc + h) r

/-- TDC_CALIBRATION (R202, R203): a good histogram of 64 bins replaces the channel's table; a bad one keeps it, sets the
channel's bit, and is logged. -/
def execTdcCalibration (ch : Nat) (bins : List Nat) (s : State) : Out :=
  .next (
    let s1 := s.count Reg.TSU_TDC_CALS.COUNT
    if bins.all fun h => decide (4096 ≤ h ∧ h ≤ 32768) then
      { s1 with time := { s1.time with tdcTab := aset ch (tdcTable 0 bins) s1.time.tdcTab } }.putBit
        Reg.TSU_TDC_FAIL.MAP ch false
    else ((s1.putBit Reg.TSU_TDC_FAIL.MAP ch true).irq Reg.TSU_IRQ.TDC Reg.TSU_IRQ_MASK.MASK 24).log (evCode 10 2) ch [])

/-- A leap takes effect at t (R217). -/
def State.leapApply (s : State) (t : Tai) (del : Bool) : State :=
  let s1 := (s.setOffset (s.utcOffset + (if del then -1 else 1))).set Reg.TSU_UTC.PENDING
    (if s.time.leapHeld ≠ 0 then s.get Reg.TSU_UTC.PENDING else 0)
  let s2 := { s1 with time := { s1.time with leapHeld := 0 }, backup := { s1.backup with leapAt := some t, leapDel := del } }
  (s2.setFlag Reg.TSU_UTC.OCCURRED true).irq Reg.TSU_IRQ.LEAP Reg.TSU_IRQ_MASK.MASK 24

/-- LEAP_SECOND (R217): at the instant of 00:00:00 UTC the pending leap takes effect. -/
def execLeapSecond (t : Tai) (s : State) : Out :=
  .next (
    let s := s.moveTo t
    match s.leapDue (t - 1) with
    | none => s
    | some (at_, del) => if at_ = t then s.leapApply t del else s)

/-- The leap ahead of an instant: the latest one for an instant before it, else the pending one. -/
def State.leapAhead (s : State) (t : Tai) : Option (Tai × Bool) :=
  match s.backup.leapAt with
  | some a => if t < a then some (a, s.backup.leapDel) else s.leapDue t
  | none => s.leapDue t

/-- TAI − UTC at an instant, in s: the offset in force then, before every later change of it. -/
def State.offsetAt (s : State) (t : Tai) : Int :=
  (s.time.utcHist.foldl (fun o e => if t < e.1 then e.2 else o) s.utcOffset)

/-- SOC (R218): UTC seconds since 1970, leap seconds excluded; the inserted second repeats 23:59:59. -/
def State.soc (s : State) (t : Tai) : Nat :=
  let utc := ((t / secUnit : Nat) : Int) - s.offsetAt t
  (match s.leapAhead t with
  | some (at_, del) => if !del ∧ at_ ≤ t + secUnit then utc - 1 else utc
  | none => utc).toNat

/-- FRACSEC bits 31 to 28 (R218): pending from 60 s before the leap, occurred, direction. -/
def State.leapBits (s : State) (t : Tai) : Nat :=
  let near : Option Bool := match s.leapAhead t with
    | some (at_, del) => if at_ ≤ t + 60 * secUnit then some del else none
    | none => none
  let occ := match s.backup.leapAt with | some a => decide (a ≤ t ∧ t < a + 86400 * secUnit) | none => false
  b2n near.isSome + 2 * b2n occ + 4 * b2n (near == some true || (occ && s.backup.leapDel))

/-- PPS_OUT_PULSE (R59, R219): at a whole TAI second the output rises for WIDTH ms, where it is enabled and the state allows it. -/
def execPpsOutPulse (t : Tai) (s : State) : Out :=
  .next (
    let s := s.moveTo t
    if t % secUnit = 0 ∧ s.time.tai = t ∧ s.pinsLive = true ∧ s.flag Reg.TSU_PPS_OUT.EN = true ∧
        (2 ≤ s.tsu ∨ s.flag Reg.TSU_PPS_OUT.FREE = true) then
      { s with pins := { s.pins with ppsOut := true }
               time := { s.time with ppsUntil := some (s.time.elapsed + clampN 1 200 (s.get Reg.TSU_PPS_OUT.WIDTH) * msUnit) } }
    else s)

/-- PPS_OUT_WIDTH_END (R219): the pulse ends when its width has passed, whatever steps came meanwhile. The event has no operand: it takes
place at the instant that the state gives (log entry 12). -/
def execPpsOutWidthEnd (s : State) : Out :=
  .next (
    match s.time.ppsUntil with
    | some u =>
      let s := s.moveTo (s.time.tai + (u - s.time.elapsed))
      { s with pins := { s.pins with ppsOut := false }, time := { s.time with ppsUntil := none } }
    | none => s)

end Sys2Proof.Machine
end

