-- ==== Sys2Proof/Machine/Ports.lean ====
section
/-! DEFINITION. Blocks with EN, BUSY and PEND (R106), descriptor rings and their events (R158, R164, R180), transmit queues,
preemption, links, Energy-Efficient Ethernet and MDIO (R174 to R186). -/

namespace Sys2Proof.Machine

/-! ### Block enables (R106) -/

/-- A ring's fields as those of a transmit ring, at its own place. -/
def Ring.fld (r : Ring) (rx tx ptp inj : Fld) : Fld :=
  match r with
  | .rx p k => rx.ix2 p k
  | .tx p k => tx.ix2 p k
  | .ptp p => ptp.ix p
  | .inj => inj

/-- EN of a block. -/
def Block.en : Block → Fld
  | .port p => Reg.MAC_CTL.EN.ix p
  | .ring r => r.fld Reg.MAC_RXRING.EN Reg.MAC_TXRING.EN Reg.PTP_TXRING.EN Reg.ING_INJ_RING.EN
  | .ingQueue n => Reg.ING_Q_CTL.EN.ix n
  | .parser => Reg.ING_CTL.EN
  | .filter => Reg.FLT_CTL.EN
  | .filterGroup g => Reg.FLT_G_CTL.EN.ix g
  | .aligner => Reg.ALN_CTL.EN
  | .hostRing => Reg.ALN_HOST_RING.EN
  | .alarm => Reg.ALM_CTL.EN
  | .capture => Reg.CAP_CTL.EN
  | .energy => Reg.NRG_CTL.EN
  | .cascade => Reg.CAS_CTL.EN

/-- BUSY of a block. -/
def Block.busy : Block → Fld
  | .port p => Reg.MAC_CTL.BUSY.ix p
  | .ring r => r.fld Reg.MAC_RXRING.BUSY Reg.MAC_TXRING.BUSY Reg.PTP_TXRING.BUSY Reg.ING_INJ_RING.BUSY
  | .ingQueue n => Reg.ING_Q_CTL.BUSY.ix n
  | .parser => Reg.ING_CTL.BUSY
  | .filter => Reg.FLT_CTL.BUSY
  | .filterGroup g => Reg.FLT_G_CTL.BUSY.ix g
  | .aligner => Reg.ALN_CTL.BUSY
  | .hostRing => Reg.ALN_HOST_RING.BUSY
  | .alarm => Reg.ALM_CTL.BUSY
  | .capture => Reg.CAP_CTL.BUSY
  | .energy => Reg.NRG_CTL.BUSY
  | .cascade => Reg.CAS_CTL.BUSY

/-- PEND of a block. -/
def Block.pend : Block → Fld
  | .port p => Reg.MAC_CTL.PEND.ix p
  | .ring r => r.fld Reg.MAC_RXRING.PEND Reg.MAC_TXRING.PEND Reg.PTP_TXRING.PEND Reg.ING_INJ_RING.PEND
  | .ingQueue n => Reg.ING_Q_CTL.PEND.ix n
  | .parser => Reg.ING_CTL.PEND
  | .filter => Reg.FLT_CTL.PEND
  | .filterGroup g => Reg.FLT_G_CTL.PEND.ix g
  | .aligner => Reg.ALN_CTL.PEND
  | .hostRing => Reg.ALN_HOST_RING.PEND
  | .alarm => Reg.ALM_CTL.PEND
  | .capture => Reg.CAP_CTL.PEND
  | .energy => Reg.NRG_CTL.PEND
  | .cascade => Reg.CAS_CTL.PEND

/-- The block runs: EN is 1 and no shutdown is in progress. -/
def State.blockRuns (s : State) (b : Block) : Bool := s.flag b.en && s.flag b.busy && !s.flag b.pend

/-- A shutdown is in progress. -/
def State.stopping (s : State) (b : Block) : Bool := s.flag b.busy && (!s.flag b.en || s.flag b.pend)

/-- What a write of EN starts. -/
inductive EnEffect where
  | none | start | stop
  deriving DecidableEq, Repr

/-- The row of R106's table that a write of EN meets. -/
def State.enEffect (s : State) (b : Block) (v : Bool) : EnEffect :=
  if v = s.flag b.en then .none
  else if v then (if s.flag b.busy then .none else .start)
  else if s.flag b.pend || !s.flag b.busy then .none else .stop

/-- The ledger step that starts a block (R66): ports and ring ports at 13, the parser and the fabric's engines at 14; rings, queues, the
filter chain and the energy engine stand outside the fabric and wait for no step. -/
def Block.startStep : Block → Nat
  | .port _ | .cascade => 13
  | .parser | .aligner | .alarm | .capture => 14
  | .ring _ | .ingQueue _ | .filter | .filterGroup _ | .hostRing | .energy => 0

/-- A block may start now: the device operates, or boot has reached the block's step (R66, R79); a group of the filter chain starts with
the chain (R263). -/
def State.mayStart (s : State) (b : Block) : Bool :=
  (s.operating || (s.get Reg.BOOT_STATUS.STATE == 0 && decide (b.startStep ≤ s.get Reg.BOOT_STATUS.STEP))) &&
  (match b with
  | .filterGroup _ => s.blockRuns .filter
  | _ => true)

/-- EN, BUSY and PEND after a write of EN (R106). -/
def State.enFields (s : State) (b : Block) (v : Bool) : State :=
  if v = s.flag b.en then s
  else if v then
    (if s.flag b.busy then (s.setFlag b.en true).setFlag b.pend true else (s.setFlag b.en true).setFlag b.busy true)
  else if s.flag b.pend then (s.setFlag b.en false).setFlag b.pend false
  else s.setFlag b.en false

/-- A shutdown has quiesced: BUSY clears, or a pending re-enable starts the block again (R106). -/
def State.enQuiesced (s : State) (b : Block) : State × Bool :=
  if s.flag b.pend then (s.setFlag b.pend false, true) else (s.setFlag b.busy false, false)

/-- A write of EN and what it starts; blocks stay stopped in safe mode and quarantine (R79, log entry 81). Before its ledger step a stopped
block takes EN and stays stopped, and the step starts it (R66, log entry 110). -/
def State.enWrite (s : State) (b : Block) (v : Bool) (start stop : State → State) : State :=
  if 2 ≤ s.get Reg.BOOT_STATUS.STATE then s
  else if v && !s.flag b.busy && !s.mayStart b then s.setFlag b.en true
  else match s.enEffect b v with
  | .none => s.enFields b v
  | .start => start (s.enFields b v)
  | .stop => stop (s.enFields b v)

/-! ### Ports -/

/-- A port's transmit side. -/
def State.port (s : State) (p : Nat) : Port := (alookup p s.ports.port).getD {}
/-- A port's transmit side replaced. -/
def State.setPort (s : State) (p : Nat) (x : Port) : State := { s with ports := { s.ports with port := aset p x s.ports.port } }
/-- The redundancy mode of the station pair (R181). -/
def State.redMode (s : State) : Nat := s.get Reg.MACS0_RED_CFG.MODE
/-- The port whose rings, queues, filters and classifier serve a port (R181). -/
def State.cfgPort (s : State) (p : Nat) : Nat := if p = 5 ∧ s.redMode ≠ 0 then 4 else p
/-- A port that runs or is shutting down. -/
def State.portOn (s : State) (p : Nat) : Bool := s.flag (Block.port p).busy
/-- A port interrupt bit. -/
def State.macIrq (s : State) (p : Nat) (f : Fld) (k : Nat := 0) : State :=
  s.irqBit (f.ix p) (Reg.MAC_IRQ_MASK.MASK.ix p) k (8 + p)

/-! ### Rings -/

/-- OWNER: the host owns the ring. PTP and injection rings are owned by the cores (R207, R224). -/
def State.ringHost (s : State) (r : Ring) : Bool :=
  match r with
  | .rx p k => s.flag (Reg.MAC_RXRING.OWNER.ix2 p k)
  | .tx p k => s.flag (Reg.MAC_TXRING.OWNER.ix2 p k)
  | .ptp p => s.flag (Reg.PTP_TXRING.OWNER.ix p)
  | .inj => false

/-- HEAD. -/
def Ring.head (r : Ring) : Fld := r.fld Reg.MAC_RXRING.HEAD Reg.MAC_TXRING.HEAD Reg.PTP_TXRING.HEAD Reg.ING_INJ_RING.HEAD
/-- TAIL. -/
def Ring.tail (r : Ring) : Fld := r.fld Reg.MAC_RXRING.TAIL Reg.MAC_TXRING.TAIL Reg.PTP_TXRING.TAIL Reg.ING_INJ_RING.TAIL
/-- BASE. -/
def Ring.base (r : Ring) : Fld := r.fld Reg.MAC_RXRING.BASE Reg.MAC_TXRING.BASE Reg.PTP_TXRING.BASE Reg.ING_INJ_RING.BASE
/-- SIZE_LOG2. -/
def Ring.size (r : Ring) : Fld :=
  r.fld Reg.MAC_RXRING.SIZE_LOG2 Reg.MAC_TXRING.SIZE_LOG2 Reg.PTP_TXRING.SIZE_LOG2 Reg.ING_INJ_RING.SIZE_LOG2
/-- HOLDOFF. -/
def Ring.holdoff (r : Ring) : Fld :=
  r.fld Reg.MAC_RXRING.HOLDOFF Reg.MAC_TXRING.HOLDOFF Reg.PTP_TXRING.HOLDOFF Reg.ING_INJ_RING.HOLDOFF
/-- WAITOBJ. -/
def Ring.waitObj (r : Ring) : Fld :=
  r.fld Reg.MAC_RXRING.WAITOBJ Reg.MAC_TXRING.WAITOBJ Reg.PTP_TXRING.WAITOBJ Reg.ING_INJ_RING.WAITOBJ

/-- N, the ring's descriptors; SIZE_LOG2 is 4 to 12 (R158). -/
def State.ringN (s : State) (r : Ring) : Nat := 2 ^ clampN 4 12 (s.get r.size)
/-- Descriptors posted and not used. -/
def State.ringAvail (s : State) (r : Ring) : Nat :=
  (s.get r.tail + s.ringN r - s.get r.head % s.ringN r) % s.ringN r
/-- Address of the descriptor `i` places after HEAD. -/
def State.descAt (s : State) (r : Ring) (i : Nat) : Nat := s.get r.base + 32 * ((s.get r.head + i) % s.ringN r)
/-- HEAD moves on. -/
def State.ringTake (s : State) (r : Ring) (n : Nat) : State := s.set r.head ((s.get r.head + n) % s.ringN r)
/-- A write into a ring owner's memory. -/
def State.ringWrite (s : State) (r : Ring) (addr : Nat) (bs : Bytes) : State :=
  if s.ringHost r then s.emit (.dma addr bs) else s.emit (.staging addr bs)

/-- A ring event takes place: the interrupt bit or vector for a host-owned ring, the wait object for a core-owned one. -/
def State.ringRaise (s : State) (r : Ring) : State :=
  if s.ringHost r then
    match r with
    | .rx p k => s.macIrq p Reg.MAC_IRQ.RXRING k
    | .tx p k => s.macIrq p Reg.MAC_IRQ.TXRING k
    | .ptp p => s.vector (25 + p)
    | .inj => s
  else
    let o := s.get r.waitObj
    (s.emit (.signal o)).objSignal o

/-- An event of a ring, at most once per HOLDOFF µs (R164). -/
def State.ringEvent (s : State) (r : Ring) : State :=
  let due := match alookup r s.ports.ringEv with
    | none => true
    | some (l, _) => decide (l + s.get r.holdoff * usUnit ≤ s.time.elapsed)
  if s.get r.holdoff == 0 || due then
    ({ s with ports := { s.ports with ringEv := aset r (s.time.elapsed, false) s.ports.ringEv } }).ringRaise r
  else
    { s with ports := { s.ports with
      ringEv := aset r (((alookup r s.ports.ringEv).getD (0, false)).1, true) s.ports.ringEv } }

/-- A pending event of a ring takes place once its holdoff has passed (R164). -/
def State.ringLate (s : State) (r : Ring) : State :=
  match alookup r s.ports.ringEv with
  | some (_, true) => s.ringEvent r
  | _ => s

/-- A transmit or injection descriptor completes: word 0x08 with its completion bits, and the stamp where TS_REQ asked
for it (R180). DESIGN CHOICE (log entry 111): of a transmit descriptor, of which R180 gives no order, word 0x08 is written first. -/
def State.descDone (s : State) (r : Ring) (addr word : Nat) (linkDrop refused : Bool) (stamp : Option Tai) : State :=
  let w := word % 2 ^ 29 + 2 ^ 29 * b2n linkDrop + 2 ^ 30 * b2n refused + 2 ^ 31
  let s1 := s.ringWrite r (addr + 8) (leBytes 4 w)
  let s2 := match stamp with
    | some t => if bitAt word 16 then s1.ringWrite r (addr + 16) (taiBytes t) else s1
    | none => s1
  s2.ringEvent r

/-! ### Transmit queues (R174 to R176) -/

/-- The ring a frame came from. -/
def TxSrc.ring? : TxSrc → Option Ring
  | .ring p r => some (.tx p r)
  | .ptp p => some (.ptp p)
  | _ => none

/-- A frame's descriptor completes, where it has one. -/
def State.frameDone (s : State) (f : TxFrame) (linkDrop refused : Bool) (stamp : Option Tai) : State :=
  match f.src.ring? with
  | some r => if f.copy then s else s.descDone r f.descAddr f.descWord linkDrop refused stamp
  | none => s

/-- Frames in queue q, one interrupted in it included. -/
def Port.depth (x : Port) (q : Nat) : Nat :=
  ((x.queues[q]?).getD []).length + (match x.held with | some (h, _) => b2n (h == q) | none => 0)

/-- Room in queue q (64 frames, R175). -/
def State.hasRoom (s : State) (p q : Nat) : Bool := decide ((s.port p).depth q < 64)

/-- The highest-numbered queue that holds a frame. -/
def Port.topQueue (x : Port) : Option Nat := ((List.range 8).reverse).find? fun q => !((x.queues[q]?).getD []).isEmpty

/-- The head frame of queue q taken off. -/
def Port.pop (x : Port) (q : Nat) : Option (TxFrame × Port) :=
  match (x.queues[q]?).getD [] with
  | f :: r => some (f, { x with queues := setAt r q x.queues })
  | [] => none

/-- A frame at the end of queue q. -/
def Port.push (x : Port) (q : Nat) (f : TxFrame) : Port := { x with queues := modAt (fun l => l ++ [f]) q x.queues }

/-- Queue `q`'s head frame goes into transmission; M0 in low-power idle first deasserts it (R185). -/
def State.startFrom (s : State) (p q : Nat) : State :=
  match (s.port p).pop q with
  | none => s
  | some (f, x') =>
    if s.flag (Reg.MAC_STATUS.LPI_TX.ix p) then
      (s.setPort p { s.port p with waking := true }).setFlag (Reg.MAC_STATUS.LPI_TX.ix p) false
    else s.setPort p { x' with cur := some (q, f) }

/-- At a frame boundary with the link up: the head of queue 7, else an interrupted frame, else the highest queue's head
(R174, R177). A port that shuts down only finishes the frame it has begun. -/
def State.startTx (s : State) (p : Nat) : State :=
  let x := s.port p
  if x.cur.isSome || x.waking || !s.portOn p || !s.flag (Reg.MAC_STATUS.LINK.ix p) then s
  else if s.blockRuns (.port p) && x.topQueue == some 7 then s.startFrom p 7
  else match x.held with
  | some h => (s.setPort p { x with cur := some h, held := none }).count (Reg.MAC.TX_FRAG.ix p)
  | none =>
    match x.topQueue with
    | some q => if s.blockRuns (.port p) then s.startFrom p q else s
    | none => s

/-- A publication frame was discarded (ALM_IRQ.PUB_DROP). -/
def State.pubDrop (s : State) (f : TxFrame) : State :=
  match f.src with
  | .alarm _ => s.irq Reg.ALM_IRQ.PUB_DROP Reg.ALM_IRQ_MASK.MASK 72
  | _ => s

/-- A frame discarded because the link is down (R176). -/
def State.linkDropFrame (s : State) (p : Nat) (f : TxFrame) : State :=
  ((s.count (Reg.MAC.TX_LINKDOWN_DROP.ix p)).frameDone f true false none).pubDrop f

/-- Preemption is active on a port (R177). -/
def State.preemptOn (s : State) (p : Nat) : Bool := s.flag (Reg.MAC_PREEMPT.EN.ix p) && s.get (Reg.MAC_STATUS.VERIFY.ix p) == 2

/-- An express frame interrupts the preemptable frame in transmission. A frame of at most 64 × (1 + ADD_FRAG) + 63 B is never
interrupted (R178); whether a longer one still can be at that instant is a free bit (log entry 1). -/
def State.preempt (s : State) (p : Nat) : State :=
  let x := s.port p
  match x.cur with
  | some (q, f) =>
    if s.preemptOn p ∧ q < 7 ∧ x.held.isNone ∧ 64 * (1 + s.get (Reg.MAC_PREEMPT.ADD_FRAG.ix p)) + 63 < max 64 (f.bytes.length + 4) then
      (if s.freeBit then (s.setPort p { x with cur := none, held := some (q, f) }).count (Reg.MAC.TX_PREEMPT.ix p) else s).tookFree
    else s
  | none => s

/-- A frame enters queue q of a port; the caller has checked that there is room. While the link of a running port is down it is
discarded at once (R176). -/
def State.enqueue (s : State) (p q : Nat) (f : TxFrame) : State :=
  if !s.flag (Reg.MAC_STATUS.LINK.ix p) ∧ s.portOn p then s.linkDropFrame p f
  else
    let s1 := s.setPort p ((s.port p).push q f)
    let s2 := if q = 7 then s1.preempt p else s1
    s2.startTx p

/-- A frame offered to queue 7 (R175): a full queue 7 discards it. A PTP descriptor then completes with DONE alone. -/
def State.enqueue7 (s : State) (p : Nat) (f : TxFrame) : State :=
  if s.hasRoom p 7 then s.enqueue p 7 f
  else
    let row := if p < 4 then 7 else if p < 6 then 8 else 9
    ((((s.count (Reg.MAC.TX_Q7_DROP.ix p)).log (evCode row 0) p []).frameDone f false false none)).pubDrop f

/-- A publication's frame in queue 7 of a port (R384): it replaces one of the same publication that waits there, and stands ahead of every
frame but alarm frames. -/
def State.enqueueAlarm (s : State) (p k : Nat) (f : TxFrame) : State :=
  let x := s.port p
  let q := (x.queues[7]?).getD []
  let mine (g : TxFrame) : Bool := g.src == .alarm k
  let rest := q.filter fun g => !mine g
  let isAlarm (g : TxFrame) : Bool := match g.src with | .alarm _ => true | _ => false
  let s1 := s.setPort p { x with queues := setAt rest 7 x.queues }
  let s2 := if q.any mine && !f.copy then s1.count Reg.ALM.PUB_REPLACED else s1
  let s3 := s2.enqueue7 p f
  let y := s3.port p
  let q' := (y.queues[7]?).getD []
  s3.setPort p { y with queues := setAt (q'.filter isAlarm ++ q'.filter fun g => !isAlarm g) 7 y.queues }

/-- Whether a frame on a port goes out on both S ports (R182, R183): pair mode, and no PTP message. -/
def State.paired (s : State) (p : Nat) (f : TxFrame) : Bool :=
  (p == 4 || p == 5) && s.redMode != 0 && (ptpAt f.bytes).isNone &&
  (match f.src with | .tc => false | .hsr => false | _ => true)

/-- A frame sent by the pair: both copies, each with its trailer or tag and one sequence number (R182, R183). -/
def State.pairCopies (s : State) (f : TxFrame) : TxFrame × TxFrame :=
  if s.redMode = 1 then
    ({ f with bytes := withTrailer f.bytes s.ports.redSeq 0xA }, { f with bytes := withTrailer f.bytes s.ports.redSeq 0xB, copy := true })
  else
    ({ f with bytes := withHsr f.bytes s.ports.redSeq 0 }, { f with bytes := withHsr f.bytes s.ports.redSeq 1, copy := true })

/-- Whether a frame would find room: in both S ports' queues when it goes out on both. DESIGN CHOICE (log entry 113): while one of the pair's
queues has no room, the frame waits for both. -/
def State.txRoom (s : State) (p q : Nat) (f : TxFrame) : Bool :=
  if s.paired p f then s.hasRoom 4 q && s.hasRoom 5 q else s.hasRoom p q

/-- A frame sent on a port's queue, on both S ports under redundancy. -/
def State.send (s : State) (p q : Nat) (f : TxFrame) : State :=
  let put (s : State) (p : Nat) (f : TxFrame) : State := if q = 7 then s.enqueue7 p f else s.enqueue p q f
  if s.paired p f then
    let c := s.pairCopies f
    let s1 := { s with ports := { s.ports with redSeq := (s.ports.redSeq + 1) % 65536 } }
    put (put s1 4 c.1) 5 c.2
  else put s p f

/-- HSR frames waiting in the forwarding FIFO move to their queues while there is room (R183). -/
def State.hsrDrain (s : State) (p : Nat) : State :=
  ((s.port p).hsrWait).foldl (fun s e =>
    if s.hasRoom p e.1 then
      (s.setPort p { s.port p with hsrWait := (s.port p).hsrWait.drop 1 }).enqueue p e.1 e.2
    else s) s

/-- Whether a forwarded HSR frame finds room: in its queue, or in the 16 KiB FIFO of its direction. -/
def State.hsrRoom (s : State) (p q len : Nat) : Bool :=
  let w := (s.port p).hsrWait
  (w.isEmpty && s.hasRoom p q) || decide ((w.map fun e => e.2.bytes.length).sum + len ≤ 16384)

/-- A forwarded HSR frame enters its queue, or the 16 KiB FIFO where the queue is full. DESIGN CHOICE (log entry 114): with no room there it
is discarded, and the rule gives that no count. -/
def State.hsrPut (s : State) (p q : Nat) (f : TxFrame) : State :=
  let x := s.port p
  if x.hsrWait.isEmpty ∧ s.hasRoom p q then s.enqueue p q f
  else if (x.hsrWait.map fun e => e.2.bytes.length).sum + f.bytes.length ≤ 16384 then
    s.setPort p { x with hsrWait := x.hsrWait ++ [(q, f)] }
  else s

/-! ### End of a transmission -/

/-- PTP insertion at the egress stamp: residence time of a forwarded event message (R209), one-step origin (R207). -/
def State.egressBytes (s : State) (p : Nat) (f : TxFrame) (stamp : Tai) : Bytes :=
  match ptpAt f.bytes with
  | none => f.bytes
  | some o =>
    if f.src = .tc then
      if ptpEvent f.bytes o then
        let pd := if s.flag Reg.PTP_TC_CTL.MECH ∧ ptpType f.bytes o = 0 then
          s.getInt (Reg.PTP_PORT.PDELAY.ix (if p = 4 then 5 else 4)) else 0
        addCorrection f.bytes o ((stamp : Int) - f.ingress + pd)
      else f.bytes
    else if f.oneStep ∧ ptpType f.bytes o = 0 then
      let b := ptpPatch f.bytes o 34 (beBytes 6 (stamp / secUnit) ++ beBytes 4 (stamp % secUnit / nsUnit))
      addCorrection b o (stamp % nsUnit : Nat)
    else f.bytes

/-- The transmit stamp of a frame whose start-of-frame delimiter crossed the balls at `t` (R204, R205). -/
def State.txStamp (s : State) (p : Nat) (f : TxFrame) (t : Tai) : Tai :=
  if p < 4 then
    let a := match ptpAt f.bytes with
      | some o => if ptpEvent f.bytes o then s.getInt (Reg.PTP_PORT.ASYM.ix p) else 0
      | none => 0
    addTai t (s.getInt (Reg.PTP_PORT.EGR_LAT.ix p) - a)
  else t

/-- TX_FRAME_COMPLETE (R174, R176, R179, R180, R207): the frame counts, its descriptor completes with its stamp, and the next frame
starts. -/
def execTxFrameComplete (p : Nat) (stamp : TdcStamp) (s : State) : Out :=
  .next (
    let s := s.moveTo stamp.cycle
    let stamp := if p < 6 then s.tdcStamp (13 + 2 * p) stamp.cycle stamp.code else stamp.cycle
    match (s.port p).cur with
    | none => s
    | some (q, f) =>
      let st := s.txStamp p f stamp
      let wire := padTo 60 (s.egressBytes p f st)
      let s1 := s.setPort p { s.port p with cur := none }
      let s2 := ((s1.emit (.frame p q wire)).count (Reg.MAC.TX_FRAMES.ix p)).count (Reg.MAC.TX_OCTETS.ix p) (wire.length + 4)
      ((s2.frameDone f false false (if f.tsReq then some st else none)).hsrDrain p).startTx p)

/-! ### Links and preemption (R176, R177) -/

/-- The frame in transmission and the interrupted one. -/
def Port.sending (x : Port) : List TxFrame :=
  (match x.cur with | some (_, f) => [f] | none => []) ++ (match x.held with | some (_, f) => [f] | none => [])

/-- Every frame of a port's queues, the interrupted one and the one in transmission. -/
def Port.all (x : Port) : List TxFrame :=
  x.sending ++ x.queues.reverse.flatten

/-- A verification begins with its first verify mPacket. -/
def State.verifyStart (s : State) (p : Nat) : State :=
  ((s.set (Reg.MAC_STATUS.VERIFY.ix p) 1).setPort p { s.port p with tries := 1 }).emit (.mpacket p false)

/-- VERIFY follows EN and VERIFY_DIS while the link is up (R177): active at once under VERIFY_DIS, else by a verification (log entry 106). -/
def State.preemptFollow (s : State) (p : Nat) : State :=
  if p = 6 ∨ !s.flag (Reg.MAC_STATUS.LINK.ix p) then s
  else if !s.flag (Reg.MAC_PREEMPT.EN.ix p) then s.set (Reg.MAC_STATUS.VERIFY.ix p) 0
  else if s.flag (Reg.MAC_PREEMPT.VERIFY_DIS.ix p) then s.set (Reg.MAC_STATUS.VERIFY.ix p) 2
  else if s.get (Reg.MAC_STATUS.VERIFY.ix p) = 0 then s.verifyStart p
  else s

/-- While the link of a running port is down, every frame it holds is discarded (R176). -/
def State.flushLink (s : State) (p : Nat) : State :=
  let x := s.port p
  (x.all.foldl (fun s f => s.linkDropFrame p f)
    (s.setPort p { x with cur := none, held := none, queues := List.replicate 8 [], waking := false })).hsrDrain p

/-- LINK_STATE_CHANGE (R176, R177): the status bits; a running port's link that goes down discards every frame it holds; one that
comes up verifies again. -/
def execLinkStateChange (p : Nat) (l : LinkReport) (s : State) : Out :=
  .next (
    let was := s.flag (Reg.MAC_STATUS.LINK.ix p)
    let s1 := ((((s.setFlag (Reg.MAC_STATUS.LINK.ix p) l.up).setFlag (Reg.MAC_STATUS.PCS_LOCK.ix p) l.pcsLock).setFlag
      (Reg.MAC_STATUS.FEC_LOCK.ix p) l.fecLock).setFlag (Reg.MAC_STATUS.AN_DONE.ix p) l.anDone).set
      (Reg.MAC_STATUS.SPEED.ix p) l.speed
    if was = l.up then s1
    else
      let s2 := s1.macIrq p Reg.MAC_IRQ.LINK_CHG
      if !l.up then
        let s3 := s2.set (Reg.MAC_STATUS.VERIFY.ix p) 0
        if s3.portOn p then s3.flushLink p else s3
      else if s2.flag (Reg.MAC_PREEMPT.EN.ix p) ∧ p < 6 then
        (if s2.flag (Reg.MAC_PREEMPT.VERIFY_DIS.ix p) then s2.set (Reg.MAC_STATUS.VERIFY.ix p) 2
         else s2.verifyStart p).startTx p
      else s2.startTx p)

/-- PREEMPT_VERIFY_TIMEOUT (R177): another verify mPacket, and after the third the verification fails. -/
def execPreemptVerifyTimeout (p : Nat) (s : State) : Out :=
  .next (
    if s.get (Reg.MAC_STATUS.VERIFY.ix p) = 1 then
      if (s.port p).tries < 3 then
        (s.setPort p { s.port p with tries := (s.port p).tries + 1 }).emit (.mpacket p false)
      else (s.set (Reg.MAC_STATUS.VERIFY.ix p) 3).macIrq p Reg.MAC_IRQ.VERIFY_FAIL
    else s)

/-! ### M0: low-power idle and MDIO (R185, R186) -/

/-- LPI_IDLE_EXPIRY (R185): with EN at 100 or 1,000 Mb/s, idle queues put M0 into low-power idle. -/
def execLpiIdleExpiry (s : State) : Out :=
  .next (
    let x := s.port 6
    if s.flag Reg.MACM0_EEE.EN ∧ 1 ≤ s.get Reg.MACM0_RGMII_CFG.SPEED ∧ x.topQueue.isNone ∧ x.cur.isNone ∧ !x.waking ∧
        !s.flag (Reg.MAC_STATUS.LPI_TX.ix 6) ∧ s.portOn 6 then
      (s.setFlag (Reg.MAC_STATUS.LPI_TX.ix 6) true).count (Reg.MAC.EEE_TX_LPI.ix 6)
    else s)

/-- TW_SYS_EXPIRY (R185): the waiting frame may start. -/
def execTwSysExpiry (s : State) : Out :=
  .next (if (s.port 6).waking then (s.setPort 6 { s.port 6 with waking := false }).startTx 6 else s)

/-- LPI_RX_CHANGE (R185): the partner enters or leaves low-power idle; entries are counted. -/
def execLpiRxChange (on : Bool) (s : State) : Out :=
  .next (
    if on = s.flag (Reg.MAC_STATUS.LPI_RX.ix 6) then s
    else
      let s1 := s.setFlag (Reg.MAC_STATUS.LPI_RX.ix 6) on
      if on then s1.count (Reg.MAC.EEE_RX_LPI.ix 6) else s1)

/-- An MDIO operation starts; one written while GO is 1 is ignored (log entry 41). -/
def State.mdioGo (s : State) (who : Requester) (op phy reg data : Nat) : State :=
  s.open_ who Reg.MACM0_MDIO.GO.base fun s =>
    if s.flag Reg.MACM0_MDIO.GO then s
    else
      let s1 := (((s.set Reg.MACM0_MDIO.OP op).set Reg.MACM0_MDIO.PHY phy).set Reg.MACM0_MDIO.REG reg).set Reg.MACM0_MDIO.DATA data
      { (s1.setFlag Reg.MACM0_MDIO.GO true).emit (.mdio op (phy % 32) (reg % 32) (data % 65536)) with
        ports := { s1.ports with mdio := some (op % 4) } }

/-- MDIO_WRITE: OP 0. -/
def execMdioWrite (who : Requester) (phy reg data : Nat) (s : State) : Out := .next (s.mdioGo who 0 phy reg data)
/-- MDIO_READ: OP 1. -/
def execMdioRead (who : Requester) (phy reg data : Nat) (s : State) : Out := .next (s.mdioGo who 1 phy reg data)
/-- MDIO_C45_ADDRESS: OP 2. -/
def execMdioC45Address (who : Requester) (phy reg data : Nat) (s : State) : Out := .next (s.mdioGo who 2 phy reg data)
/-- MDIO_C45_READ: OP 3. -/
def execMdioC45Read (who : Requester) (phy reg data : Nat) (s : State) : Out := .next (s.mdioGo who 3 phy reg data)

/-- MDIO_DONE: a read's data stands in DATA, and GO clears. -/
def execMdioDone (data : Nat) (s : State) : Out :=
  .next (
    match s.ports.mdio with
    | none => s
    | some op =>
      let s1 := { s with ports := { s.ports with mdio := none } }.setFlag Reg.MACM0_MDIO.GO false
      if op % 2 = 1 then s1.set Reg.MACM0_MDIO.DATA data else s1)

/-! ### Enables of ports, rings and ingress queues -/

/-- A port starts: its transmitter is active, and waiting frames start; while the link is down they are discarded (R176). -/
def State.portStart (s : State) (p : Nat) : State :=
  let s1 := { s with pins := { s.pins with txActive := setBit s.pins.txActive p true } }
  if s1.flag (Reg.MAC_STATUS.LINK.ix p) then s1.startTx p else s1.flushLink p

/-- A port has shut down: its lanes squelch (R59). -/
def State.portStopped (s : State) (p : Nat) : State :=
  { s with pins := { s.pins with txActive := setBit s.pins.txActive p false } }

/-- LANE_EN of the roast header (R152). -/
def Roast.laneEn (r : Roast) (p : Nat) : Bool := bitAt (leAt r.header 0x2C 4) p

/-- A write of MACp_CTL.EN (R106, R152). -/
def State.portEn (s : State) (who : Requester) (p : Nat) (en : Bool) : State :=
  if en ∧ !s.roast.laneEn p then s.hifErr who Reg.HIF_ERR.LOCKED (Reg.MAC_CTL.EN.ix p).base
  else s.enWrite (.port p) en (fun s => s.portStart p) id

/-- PORT_ENABLE. -/
def execPortEnable (who : Requester) (p : Nat) (en : Bool) (s : State) : Out :=
  .next (s.open_ who (Reg.MAC_CTL.EN.ix p).base fun s => s.portEn who p en)

/-- Whether a ring is unused under redundancy (R181). -/
def State.ringUnused (s : State) (r : Ring) : Bool :=
  s.redMode != 0 && (match r with | .rx 5 _ => true | .tx 5 _ => true | _ => false)

/-- A write of a ring's EN. -/
def State.ringEn (s : State) (r : Ring) (en : Bool) : State :=
  if s.ringUnused r then s else s.enWrite (.ring r) en id id

/-- RING_ENABLE (R106, R158, R181). -/
def execRingEnable (who : Requester) (r : Ring) (en : Bool) (s : State) : Out :=
  .next (s.open_ who (Block.ring r).en.base fun s => s.ringEn r en)

/-- A write of an ingress queue's EN; queue 5 is unused under redundancy (R173, R181, R187). -/
def State.ingEn (s : State) (n : Nat) (en : Bool) : State :=
  if n = 5 ∧ s.redMode ≠ 0 then s else s.enWrite (.ingQueue n) en id id

/-- INGRESS_QUEUE_ENABLE. -/
def execIngressQueueEnable (who : Requester) (n : Nat) (en : Bool) (s : State) : Out :=
  .next (s.open_ who (Reg.ING_Q_CTL.EN.ix n).base fun s => s.ingEn n en)

end Sys2Proof.Machine
end

