-- ==== Sys2Proof/Machine/Access.lean ====
section
/-! DEFINITION. Register access by offset: what a write does to each field under its access code (R11, R90, R95 to R99,
R107, R108), what a field stores of a written value, what the configuration CRC covers (R114), and how a roast's
REGINIT loads and locks fields (R133). -/

namespace Sys2Proof.Machine

/-- Whether two fields are the same place in the map. -/
def Fld.same (f g : Fld) : Bool := f.base == g.base && f.lsb == g.lsb

/-- What a field stores of a value written or loaded, where its table narrows it: `f` is the field as the map lists it. -/
def Fld.stores (f : Fld) (v : Nat) : Nat :=
  if f.same Reg.BOOT_HEALTH_MASK.MASK then Nat.land v 0xC8
  else if f.same Reg.BOOT_WDT_CFG.PERIOD then clampN 10 10000 v
  else if f.same Reg.MAC_MAXLEN.LEN then clampN 1518 9600 v
  else if f.same Reg.MAC_TXRING.QUEUE then min v 6
  else if f.same Reg.ING_Q_CT.THR then (if 1 ≤ v ∧ v ≤ 63 then 64 else v)
  else if f.same Reg.TSU_PPS_OUT.WIDTH then clampN 1 200 v
  else if f.same Reg.MAC_PREEMPT.VERIFY_MS ∨ f.same Reg.MACS0_RED_CFG.ENTRY_FORGET then max 1 v
  else if f.same Reg.TSU_FREQ.FREQ then
    codeOf 40 (max (-56294995342) (min 56294995342 (signedOf 40 v)))
  else if f.same Reg.ALN_REV_WINDOW.MS then min v 2000
  else if f.same Reg.ALN_CLOSE_CFG.BUDGET then min v 250000
  else if f.same Reg.LSE_BAD_THR.THR then (if 0x3F800000 ≤ v ∧ v ≤ 0x42C80000 then v else 0x40800000)
  else if f.same Reg.LSE_S_MIN.SMIN then (if 0x38D1B717 ≤ v ∧ v ≤ 0x3F000000 then v else 0x3C23D70A)
  else if f.same Reg.NRG_CFG.INTERVAL_MIN then (if v ∈ [1, 2, 3, 4, 5, 6, 10, 12, 15, 20, 30, 60] then v else 15)
  else if f.same Reg.NRG_SAVE.SAVE_S then clampN 10 3600 v
  else if f.same Reg.NRG_PLS.QTY then min v 6
  else if f.same Reg.NRG_PLS.WIDTH then clampN 1 200 v
  else if f.same Reg.PACE_VLIM.VMIN_MV ∨ f.same Reg.PACE_VLIM.VMAX_MV then clampN 600 900 v
  else v

/-- Whether a ring that is busy holds the field against writes ("Ignored while BUSY = 1"). -/
def Fld.ringHeld (f : Fld) : Bool :=
  f.same Reg.MAC_RXRING.BASE || f.same Reg.MAC_TXRING.BASE || f.same Reg.PTP_TXRING.BASE || f.same Reg.ING_INJ_RING.BASE ||
  f.same Reg.MAC_RXRING.OWNER || f.same Reg.MAC_TXRING.OWNER || f.same Reg.PTP_TXRING.OWNER ||
  f.same Reg.MAC_RXRING.SIZE_LOG2 || f.same Reg.MAC_TXRING.SIZE_LOG2 || f.same Reg.PTP_TXRING.SIZE_LOG2 ||
  f.same Reg.ING_INJ_RING.SIZE_LOG2 || f.same Reg.ALN_HOST_RING.BASE || f.same Reg.ALN_HOST_RING.SIZE_LOG2

/-- The BUSY field of the ring that an element of a held field belongs to: BASE stands 8 bytes below it, the others beside it. -/
def Fld.ringBusy (f0 f : Fld) : Fld :=
  { base := if f0.lsb = 0 ∧ f0.width = 64 then f.base + 8 else f.base, lsb := 1, width := 1, acc := .ro }

/-- Whether the map gives a register at an offset. -/
def fieldsAt (addr : Nat) : List (Fld × Fld × Nat) :=
  (Reg.window (addr / 0x10000)).filterMap fun f0 => (f0.at? addr).map fun p => (f0, p.1, p.2)

/-- Fields that hold their value against a write now: a busy ring's, TSU_FREQ under the automatic servo. -/
def State.held (s : State) (f0 f : Fld) : Bool :=
  (f0.ringHeld && s.flag (f0.ringBusy f)) || (f0.same Reg.TSU_FREQ.FREQ && !s.flag Reg.TSU_CTL.SERVO)

/-- A 32-bit word of a field's value replaced; a field narrower than its word takes its own bits. -/
def wordInto (f : Fld) (old w v : Nat) : Nat :=
  if f.lsb + f.width ≤ 32 then bitsOf v f.lsb f.width
  else old - bitsOf old (32 * w) 32 * 2 ^ (32 * w) + v % 2 ^ 32 * 2 ^ (32 * w)

/-- The value a field would take from the words of one access. -/
def State.rawNew (s : State) (who : Requester) (f0 : Fld) (ws : List (Nat × Nat)) : Option (Fld × Nat) :=
  ws.foldl (fun acc aw =>
    match f0.at? aw.1 with
    | none => acc
    | some (f, w) =>
      let f := f.of who
      some (f, wordInto f0 (match acc with | some p => p.2 | none => s.get f) w aw.2)) none

/-- A write that reaches a field under its access code (R11); RWT fields are staged elsewhere. -/
def State.writeField (s : State) (who : Requester) (addr : Nat) (f0 f : Fld) (v : Nat) : State :=
  if f0.lacks f then s
  else match f0.acc with
  | .rw => if s.held f0 f then s else s.set f (f0.stores (v % 2 ^ f.width))
  | .wo => s.set f v
  | .w1c => s.set f (Nat.land (s.get f) (Nat.xor (2 ^ f.width - 1) (v % 2 ^ f.width)))
  | .w1s => s.set f (Nat.lor (s.get f) v)
  | .rwl =>
    if f.key ∈ s.locks then
      (if v % 2 ^ f.width = s.get f then s else s.hifErr who Reg.HIF_ERR.LOCKED addr)
    else s.set f (f0.stores (v % 2 ^ f.width))
  | .ro | .rc | .rwt => s

/-- Whether any field at an offset is guarded. -/
def guardedAt (addr : Nat) : Bool := (fieldsAt addr).any fun p => p.1.guarded

/-- Whether any field at an offset is RWT. -/
def rwtAt (addr : Nat) : Bool := (fieldsAt addr).any fun p => decide (p.1.acc = .rwt)

/-- The registers PF1 may write: its own HIF_SNAP, HIF_ERR and HIF_BAR2_APk (R90). -/
def pf1May (addr : Nat) : Bool :=
  addr == 0x0C || addr == 0x04 || (decide (0xC0 ≤ addr) && decide (addr < 0xD0))

/-- The number of a transaction's owner: 0 PF0, 1 the security core. -/
def txnOwnerCode : Requester → Nat
  | .sec => 1
  | _ => 0

/-- Whether a transaction is open and the requester is its owner (R107, R108). -/
def State.mayStage (s : State) (who : Requester) : Bool :=
  s.get Reg.CFG_TXN_STATUS.STATE == 1 && s.mayGuard who && s.get Reg.CFG_TXN_STATUS.OWNER == txnOwnerCode who

/-- Staging one 32-bit register (R107, R108). -/
def State.stage (s : State) (who : Requester) (addr v : Nat) : State :=
  if !s.mayStage who then s.hifErr who Reg.HIF_ERR.NO_TXN addr
  else if (alookup addr s.cfg.staged).isNone ∧ 1024 ≤ s.cfg.staged.length then
    (s.hifErr who Reg.HIF_ERR.TXN_FULL addr).setFlag Reg.CFG_TXN_STATUS.OVERFLOW true
  else
    let s' := { s with cfg := { s.cfg with staged := aset addr (v % 2 ^ 32) s.cfg.staged } }
    s'.set Reg.CFG_TXN_STATUS.STAGED s'.cfg.staged.length

/-- The words of an access: one register, or the register and the next one (R95). -/
def accessWords (addr value : Nat) (wide : Bool) : List (Nat × Nat) :=
  if wide then [(addr, value % 2 ^ 32), (addr + 4, value / 2 ^ 32 % 2 ^ 32)] else [(addr, value % 2 ^ 32)]

/-- The field list an access touches: each field once, from the windows of its words. -/
def accessFields (ws : List (Nat × Nat)) : List Fld :=
  match ws with
  | [] => []
  | (a, _) :: _ => (Reg.window (a / 0x10000)).filter fun f0 => ws.any fun w => (f0.at? w.1).isSome

/-- A staged value takes effect: every RWT field of the register (R112). -/
def State.applyStaged (s : State) (addr v : Nat) : State :=
  (fieldsAt addr).foldl (fun s p =>
    if p.1.acc = .rwt && !p.1.lacks p.2.1 then
      s.set p.2.1 (p.1.stores (wordInto p.1 (s.get p.2.1) p.2.2 v))
    else s) s

/-! ### Configuration CRC (R114) -/

/-- Whether software configures a field: its access is RW, RWT or RWL, which brings its register into the scan. -/
def Fld.configures (f : Fld) : Bool := decide (f.acc = .rw) || decide (f.acc = .rwt) || decide (f.acc = .rwl)

/-- Whether a field is in the CRC's mask: not one its description marks "not in CRC". -/
def Fld.inCrc (f : Fld) : Bool := f.crc && f.configures

/-- The offsets of the words of an element, from its base. -/
def wordOffsets (base : Nat) : Nat → List Nat
  | 0 => []
  | n + 1 => base :: wordOffsets (base + 4) n

/-- Every element base of an array. -/
def elementBases : Nat → List (Nat × Nat) → List Nat
  | b, [] => [b]
  | b, (n, st) :: ds => (List.range n).flatMap fun i => elementBases (b + i * st) ds

/-- The registers of a window that the scan covers, rising, each once (a merge of the fields' own words): those with a field of access RW,
RWT or RWL, whether or not its mask leaves the field out. -/
def crcOffsets (w : Nat) : List Nat :=
  ((Reg.window w).filter Fld.configures).foldl (fun acc f =>
    ((elementBases f.base f.dims).filter fun b => decide (b / 0x10000 = w)).foldl (fun acc b =>
      (wordOffsets b f.words).foldl (fun acc a => if a ∈ acc then acc else acc ++ [a]) acc) acc) []
    |>.mergeSort

/-- Whether the roast in force does not configure the engine whose registers stand in a window (R126): ingest with the aligner, the filter
chain, the estimator, oscillation, topology and islands, alarms, capture, energy, the cascade. The ingress queues of the ING window belong to
the ports (R187). -/
def State.unconfigured (s : State) (addr : Nat) : Bool :=
  match addr / 0x10000 with
  | 0x12 => decide (addr < 0x127000) && !s.roast.has 0x10
  | 0x14 => !s.roast.has 0x19
  | 0x16 => !s.roast.has 0x10
  | 0x18 => !s.roast.has 0x20
  | 0x1A => !(s.roast.has 0x30 || s.roast.has 0x31 || s.roast.has 0x32)
  | 0x1C => !s.roast.has 0x40
  | 0x1E => !s.roast.has 0x50
  | 0x20 => !s.roast.has 0x70
  | 0x22 => !s.roast.has 0x68
  | 0x28 => !s.roast.has 0x60
  | _ => false

/-- Whether a register is one of ingress queue 5 while the station ports work as a pair, which leaves that queue unused (R181, R187). -/
def State.unusedQueue (s : State) (addr : Nat) : Bool :=
  decide (0x127140 ≤ addr) && decide (addr < 0x127180) && s.get Reg.MACS0_RED_CFG.MODE != 0

/-- Whether a register reads 0 whatever it holds: its engine is not configured, or it is unused (R126, R187); ALM_TEST without TEST_PERMIT
(R395). -/
def State.readsZero (s : State) (addr : Nat) : Bool :=
  s.unconfigured addr || s.unusedQueue addr || (addr == Reg.ALM_TEST.PIN.base && !s.flag Reg.SAU_STATUS.TEST_PERMIT)

/-- The live value of a field of the register at `addr`, in word `w` of its element: 0 where the element lacks the field. -/
def State.fieldWord (s : State) (f0 f : Fld) (w : Nat) : Nat :=
  if f0.lacks f then 0
  else if f0.lsb + f0.width ≤ 32 then s.get f * 2 ^ f0.lsb else bitsOf (s.get f) (32 * w) 32

/-- What a requester's read of a 32-bit register returns (R11, R90, R97, R99, R126): 0 for an unmapped offset, for a guarded register unless
the requester is the owner or the security core, and for a register that reads 0; WO fields read 0; a per-requester field reads the requester's
own copy. -/
def State.regWord (s : State) (who : Requester) (addr : Nat) : Nat :=
  if s.readsZero addr || ((fieldsAt addr).any (fun p => p.1.guarded) && !s.mayGuard who) then 0
  else (fieldsAt addr).foldl (fun a p => if p.1.acc = .wo then a else a + s.fieldWord p.1 (p.2.1.of who) p.2.2) 0

/-- The live value of a register ANDed with the mask of its fields in the CRC. -/
def State.crcWord (s : State) (addr : Nat) : Nat :=
  if s.readsZero addr then 0
  else (fieldsAt addr).foldl (fun a p => if p.1.inCrc then a + s.fieldWord p.1 p.2.1 p.2.2 else a) 0

/-- The bytes the scan runs over: every register outside the HIF and CFG windows with a field that software configures, in ascending
offset, 4 bytes each. -/
def State.crcInput (s : State) : Bytes :=
  ((List.range 0x2D).drop 2).flatMap fun w => (crcOffsets w).flatMap fun a => leBytes 4 (s.crcWord a)

/-- The scan's result for the values as they stand. -/
def State.crcScan (s : State) : Nat := crc32c s.crcInput

/-! ### REGINIT (R132, R133) -/

/-- The fields that a chapter loads from a section of its own (R133). -/
def Fld.sectionLoaded (f : Fld) : Bool :=
  f.same Reg.ALN_REV_WINDOW.MS || f.same Reg.ALN_CLOSE_CFG.BUDGET || f.same Reg.NRG_CFG.INTERVAL_MIN || f.same Reg.NRG_SAVE.SAVE_S

/-- One REGINIT record: OFFSET, VALUE, LOAD_MASK, LOCK_MASK. -/
structure RegInit where
  offset : Nat
  value : Nat
  load : Nat
  lock : Nat
  deriving DecidableEq, Repr

/-- A record's fields from its 16 bytes. -/
def regInitOf (r : Bytes) : RegInit :=
  { offset := leAt r 0 4, value := leAt r 4 4, load := leAt r 8 4, lock := leAt r 12 4 }

/-- The bits of a register word that a field occupies. -/
def Fld.wordMask (f : Fld) (w : Nat) : Nat :=
  if f.lsb + f.width ≤ 32 then (2 ^ f.width - 1) * 2 ^ f.lsb else 2 ^ (min 32 (f.width - 32 * w)) - 1

/-- The mask bits a record may use: loads over RW, RWT and RWL fields, locks over RWL fields within them or over
section-loaded fields (R132, R133). -/
def regInitMasks (offset : Nat) : Nat × Nat × Nat :=
  (fieldsAt offset).foldl (fun m p =>
    let b := p.1.wordMask p.2.2
    (if (p.1.acc = .rw ∨ p.1.acc = .rwt ∨ p.1.acc = .rwl) ∧ !p.1.sectionLoaded then Nat.lor m.1 b else m.1,
     if p.1.acc = .rwl then Nat.lor m.2.1 b else m.2.1,
     if p.1.sectionLoaded then Nat.lor m.2.2 b else m.2.2)) (0, 0, 0)

/-- Whether a mask lies within another. -/
def within (a b : Nat) : Bool := Nat.land a b == a

/-- Whether one record is acceptable (R132, R133; detail code 13). -/
def regInitOk (r : RegInit) : Bool :=
  let m := regInitMasks r.offset
  !(fieldsAt r.offset).isEmpty &&
  (decide (0x30000 ≤ r.offset) || r.offset == Reg.BOOT_HEALTH_MASK.MASK.base || r.offset == Reg.BOOT_WDT_CFG.PERIOD.base) &&
  within r.load m.1 && within r.lock (Nat.lor m.2.1 m.2.2) && within r.lock (Nat.lor r.load m.2.2)

/-- Offsets strictly rising. -/
def rising : List Nat → Bool
  | [] => true
  | [_] => true
  | a :: b :: r => decide (a < b) && rising (b :: r)

/-- The check of the whole section (R132). -/
def regInitSectionOk (recs : List Bytes) : Bool :=
  decide (recs.length ≤ 4096) && rising (recs.map fun r => (regInitOf r).offset) && recs.all fun r => regInitOk (regInitOf r)

/-- Loading the fields of one record and locking those it locks. -/
def State.regInit1 (s : State) (r : RegInit) : State :=
  (fieldsAt r.offset).foldl (fun s p =>
    let b := p.1.wordMask p.2.2
    let old := if p.1.lsb + p.1.width ≤ 32 then s.get p.2.1 * 2 ^ p.1.lsb else bitsOf (s.get p.2.1) (32 * p.2.2) 32
    let new := Nat.lor (Nat.land old (Nat.xor 0xFFFFFFFF (Nat.land r.load 0xFFFFFFFF))) (Nat.land r.value r.load)
    let s := if Nat.land r.load b = 0 || p.1.lacks p.2.1 then s
      else s.set p.2.1 (p.1.stores (wordInto p.1 (s.get p.2.1) p.2.2 new % 2 ^ p.1.width))
    if p.1.acc = .rwl ∧ Nat.land r.lock b ≠ 0 ∧ p.2.1.key ∉ s.locks then { s with locks := s.locks ++ [p.2.1.key] } else s) s

/-- Whether a key holds a field whose reset is "roast". -/
def roastKey (k : Nat) : Bool :=
  (fieldsAt (k / 32 * 4)).any fun p => p.1.roast && decide (p.2.1.key ≤ k) && decide (k < p.2.1.key + p.1.width)

/-- A roast loads or swaps in: fields whose reset is "roast" return to 0 unless a record covers them, locks change, and
the records load (R133). -/
def State.regInit (s : State) (recs : List Bytes) : State :=
  (recs.map regInitOf).foldl State.regInit1
    { s with regs := s.regs.filter (fun e => !roastKey e.1), locks := [] }

end Sys2Proof.Machine
end

