-- ==== Sys2Proof/Machine/KeyStore.lean ====
section
/-! DEFINITION. The key store's slots and the generations as other blocks use them (R463, R465, R469): the value of a slot,
a public key, a signature by the hardware path, and the current journal record. -/

namespace Sys2Proof.Machine

/-- First 256 bits of the SHA-512 digest of a byte string. -/
def keyHash (pub : Bytes) : Bytes := (Config.sha512 pub).take 32

/-- A slot that is VALID. -/
def State.keySlot (s : State) (i : Nat) : Option KeySlot :=
  match alookup i s.keys.slots with
  | some k => if k.valid then some k else none
  | none => none

/-- The value of a slot of the key store, where it is valid. -/
def State.slotValue (s : State) (i : Nat) : Option Bytes := (s.keySlot i).map KeySlot.value

/-- ASCII text as bytes. -/
def ascii (t : String) : Bytes := t.toList.map fun c => BitVec.ofNat 8 c.toNat

/-- The message of a named signature: the ASCII name, one zero byte, and the rest. -/
def signedText (name : String) (rest : Bytes) : Bytes := ascii name ++ [0] ++ rest

/-- The current journal record: valid, and the higher SEQ (R469). -/
def Nvs.journal (n : Nvs) : Option JournalRec :=
  if n.j0.valid then (if n.j1.valid && decide (n.j0.seq < n.j1.seq) then some n.j1 else some n.j0)
  else if n.j1.valid then some n.j1 else none

/-- SEC_FW_FLOOR: the larger of the fuse count and the journal's floor (R462). -/
def State.fwFloor (s : State) : Nat :=
  max (s.get Reg.SEC_STATUS.FW_SVN_FUSE) (match s.nvs.journal with | some j => j.fwFloor | none => 0)

end Sys2Proof.Machine
end

