-- ==== Sys2Proof/Machine/RoastImage.lean ====
section
/-! DEFINITION. Reading and judging a roast image (R119 to R138): header, directory, signature block, tiles, budgets. A
check answers the detail code of R134 that the image fails with, or none. -/

namespace Sys2Proof.Machine

/-- ASCII "MZ7416RT". -/
def roastMagic : Bytes := [0x4D, 0x5A, 0x37, 0x34, 0x31, 0x36, 0x52, 0x54]

/-- ASCII "MZSG". -/
def sigMagic : Bytes := [0x4D, 0x5A, 0x53, 0x47]

/-- "MZ7416 roast v3" and one zero byte (R135). -/
def roastMessageHead : Bytes :=
  [0x4D, 0x5A, 0x37, 0x34, 0x31, 0x36, 0x20, 0x72, 0x6F, 0x61, 0x73, 0x74, 0x20, 0x76, 0x33, 0x00]

/-- The 512 header bytes. -/
def Image.header (im : Image) : Bytes := slice im.head 0 512

/-- DIR_COUNT. -/
def Image.dirCount (im : Image) : Nat := leAt im.head 0x0C 4

/-- TILE_COUNT of the header. -/
def Image.tileCount (im : Image) : Nat := leAt im.head 0x10 4

/-- SIG_OFFSET (R119). -/
def Image.sigOffset (im : Image) : Nat := 512 + 128 * im.dirCount

/-- SECTIONS_BASE (R119). -/
def Image.sectionsBase (im : Image) : Nat := 4096 * ceilDiv (im.sigOffset + 256) 4096

/-- The signature block. -/
def Image.sigBlock (im : Image) : Bytes := slice im.head im.sigOffset 256

/-- Directory entry `i` (R124). -/
def Image.entry (im : Image) (i : Nat) : Section :=
  let e := slice im.head (512 + 128 * i) 128
  { kind := leAt e 0 2, inst := leAt e 2 2, flags := leAt e 4 4, firstTile := leAt e 8 4, tileCount := leAt e 0xC 4,
    recSize := leAt e 0x14 4, salt := leAt e 0x18 8, digest := slice e 0x40 64, recs := [] }

/-- RECORD_COUNT of directory entry `i`. -/
def Image.recCount (im : Image) (i : Nat) : Nat := leAt im.head (512 + 128 * i + 0x10) 4

/-- The directory. -/
def Image.dir (im : Image) : List Section := (List.range im.dirCount).map im.entry

/-- Whether a run of bytes is zero. -/
def zeros (bs : Bytes) : Bool := bs.all fun b => b == 0

/-- The roast tag of a header (R123). -/
def roastTag (header : Bytes) : Nat := leVal ((Config.sha512 header).take 4)

/-- Check 1 of R134: MAGIC, HEADER_CRC, reserved bytes and reserved bits. -/
def Image.check1 (im : Image) : Bool :=
  decide (512 ≤ im.head.length) && slice im.head 0 8 == roastMagic && leAt im.head 0x1FC 4 == crc32c (slice im.head 0 0x1FC) &&
  zeros (slice im.head 0x34 4) && zeros (slice im.head 0x80 0x17C) && decide (leAt im.head 0x2A 2 < 2) &&
  decide (leAt im.head 0x2C 4 < 65536) && !bitAt (leAt im.head 0x2C 4) 7

/-- Check 3: PART and the steppings (R1). -/
def Image.check3 (im : Image) (stepping : Nat) : Bool :=
  leAt im.head 0x14 2 == 0x7416 && decide (leAt im.head 0x16 1 ≤ stepping) && decide (stepping ≤ leAt im.head 0x17 1)

/-- Check 4: the signing key is authorised and every byte that R135 does not list is 0. DESIGN CHOICE (log entry 116): a block that
is malformed (another MAGIC, a KEY_KIND above 1, a nonzero byte elsewhere) authorises no key and fails here; R135 names no code for it. -/
def State.keyAuthorised (s : State) (sig : Bytes) : Bool :=
  let pub := slice sig 8 32
  slice sig 0 4 == sigMagic && zeros (slice sig 6 2) && zeros (sig.drop 0x68) &&
  (if leAt sig 4 1 = 1 then decide (leAt sig 5 1 ≤ 3) && s.slotValue (leAt sig 5 1) == some (keyHash pub)
   else if leAt sig 4 1 = 0 then
     ((List.range 4).all fun i => (s.slotValue i).isNone) && keyHash pub == s.fuses.vendorHash
   else false)

/-- Check 5: the signature (R135). -/
def Image.signed (im : Image) : Bool :=
  Config.ed25519Verify (slice im.sigBlock 8 32) (roastMessageHead ++ im.head.take im.sigOffset) (slice im.sigBlock 0x28 64)

/-- The section kinds the device knows (R126). -/
def knownKinds : List Nat :=
  [0x01, 0x02, 0x10, 0x11, 0x12, 0x13, 0x14, 0x15, 0x18, 0x19, 0x20, 0x21, 0x22, 0x30, 0x31, 0x32, 0x40, 0x41, 0x50, 0x51,
    0x52, 0x58, 0x60, 0x68, 0x70, 0xF0]

/-- Highest INSTANCE a kind allows (R126). -/
def maxInst (kind : Nat) : Nat := if kind = 0x21 then 7 else if kind = 0xF0 then 15 else 0

/-- Records in a tile. -/
def perTile (recSize : Nat) : Nat := 4096 / recSize

/-- One entry's own rules: RECORD_SIZE of the list, TILE_COUNT the ceiling that RECORD_COUNT needs, reserved bytes 0. -/
def Image.entryOk (im : Image) (i : Nat) : Bool :=
  let e := im.entry i
  decide (e.recSize ∈ [8, 16, 32, 64, 128, 256, 512, 1024, 2048, 4096]) && decide (1 ≤ e.tileCount) &&
  e.tileCount == ceilDiv (im.recCount i) (perTile e.recSize) &&
  decide (e.inst ≤ maxInst e.kind ∨ e.kind ∉ knownKinds) && zeros (slice im.head (512 + 128 * i + 0x20) 32)

/-- Entries follow one another without gap, overlap or disorder from tile `t` to the end. -/
def chained : Nat → List Section → Nat → Bool
  | t, [], total => t == total
  | t, e :: es, total => e.firstTile == t && chained (t + e.tileCount) es total

/-- Whether a list of kinds holds one. -/
def hasKind (ks : List Section) (k : Nat) : Bool := ks.any fun e => e.kind == k

/-- A group is complete: no member present, or every mandatory one. -/
def groupOk (ks : List Section) (members mandatory : List Nat) : Bool :=
  !(members.any (hasKind ks)) || mandatory.all (hasKind ks)

/-- Required sections and groups (R126). -/
def groupsOk (ks : List Section) : Bool :=
  [0x01, 0x02, 0x18, 0x58].all (hasKind ks) &&
  groupOk ks [0x10, 0x11, 0x12, 0x13, 0x14, 0x15] [0x10, 0x11, 0x12, 0x13, 0x14] &&
  groupOk ks [0x20, 0x21, 0x22] [0x20, 0x21, 0x22, 0x40] &&
  (!hasKind ks 0x21 || ks.any fun e => e.kind == 0x21 && e.inst == 0) &&
  groupOk ks [0x40, 0x41] [0x40] && groupOk ks [0x50, 0x51, 0x52] [0x50, 0x51, 0x52]

/-- No two entries of one kind and instance. -/
def noTwins : List Section → Bool
  | [] => true
  | e :: es => !(es.any fun x => x.kind == e.kind && x.inst == e.inst) && noTwins es

/-- Check 7: directory structure, required sections and groups (R124, R126). -/
def Image.check7 (im : Image) : Bool :=
  decide (im.sigOffset + 256 ≤ im.head.length) && ((List.range im.dirCount).all im.entryOk) &&
  chained 0 im.dir im.tileCount && noTwins im.dir && groupsOk im.dir

/-- Check 8: an unknown KIND with MANDATORY set. -/
def Image.check8 (im : Image) : Bool := im.dir.all fun e => decide (e.kind ∈ knownKinds) || !bitAt e.flags 0

/-- Highest RECORD_COUNT of a kind under R137, records that the section's own layout adds included: a factor variant's 46,875 value
tiles stand beside at most 1,337 structure tiles (R317). A BUDGET of another length is a budget failure (R129). -/
def maxRecords : Nat → Nat
  | 0x02 => 4096 | 0x10 => 8192 | 0x11 => 16384 | 0x12 => 65536 | 0x13 => 17 | 0x18 => 9
  | 0x21 => 46875 + 1337 | 0x50 => 2048 | 0x51 => 512
  | _ => 2 ^ 32

/-- Check 9 on the header and the directory: header values and sizes (R122, R137). -/
def Image.check9 (im : Image) : Bool :=
  decide (3 ≤ im.dirCount ∧ im.dirCount ≤ 256) && decide (1 ≤ im.tileCount ∧ im.tileCount ≤ 456966) &&
  decide (10 ≤ leAt im.head 0x28 2 ∧ leAt im.head 0x28 2 ≤ 240) &&
  (List.range im.dirCount).all fun i => decide (im.recCount i ≤ maxRecords (im.entry i).kind)

/-- Whether the whole image fits its flash slot (R120). -/
def Image.fitsFlash (im : Image) : Bool := decide (im.sectionsBase + im.tileCount * 4112 ≤ 100663296)

/-- HOST_TILES. -/
def Image.hostTiles (im : Image) : Bool := bitAt (leAt im.head 0x2A 2) 0

/-! ### Loading (R125, R127, R128, R131, R138) -/

/-- Whether a tile copy is good (R128). -/
def tileGood (t : Bytes) (k sect tag : Nat) : Bool :=
  decide (t.length = 4112) && leAt t 0 4 == k && leAt t 4 2 == sect && leAt t 8 4 == tag &&
  leAt t 12 4 == crc32c (t.take 12 ++ t.drop 16)

/-- The records of a section from its tiles (R125). -/
def recordsOf (tiles : List Bytes) (recSize count : Nat) : List Bytes :=
  (List.range count).map fun i =>
    slice ((tiles[i / perTile recSize]?).getD []) (16 + i % perTile recSize * recSize) recSize

/-- The tiles of directory entry `i`. -/
def Image.sectionTiles (im : Image) (i : Nat) : List Bytes := (im.tiles.drop (im.entry i).firstTile).take (im.entry i).tileCount

/-- Payload bytes after the last record of every tile are 0 (R125). -/
def Image.padded (im : Image) : Bool :=
  (List.range im.dirCount).all fun i =>
    let e := im.entry i
    let p := perTile e.recSize
    (List.range e.tileCount).all fun j =>
      zeros (slice (((im.sectionTiles i)[j]?).getD []) (16 + min p (im.recCount i - j * p) * e.recSize) 4096)

/-- Every section's digest matches its tiles. -/
def Image.digestsOk (im : Image) : Bool :=
  (List.range im.dirCount).all fun i => Config.sha512 (im.sectionTiles i).flatten == (im.entry i).digest

/-- The loaded form of an image. -/
def Image.loaded (im : Image) : Roast :=
  { header := im.header, tag := roastTag im.header
    secs := (List.range im.dirCount).map fun i =>
      { im.entry i with recs := recordsOf (im.sectionTiles i) (im.entry i).recSize (im.recCount i) } }

/-- Every tile of the image is good under R128. -/
def Image.tilesGood (im : Image) : Bool :=
  (List.range im.dirCount).all fun i =>
    let e := im.entry i
    (List.range e.tileCount).all fun j =>
      tileGood (((im.sectionTiles i)[j]?).getD []) (e.firstTile + j) i (roastTag im.header)

/-- The section kinds whose presence configures an engine of the BUDGET section (R126, R129). -/
def engineKinds : Nat → List Nat
  | 0 => [0x10] | 1 => [0x40] | 2 => [0x40, 0x41] | 3 => [0x30, 0x31, 0x32] | 4 => [0x20] | 5 => [0x50] | 6 => [0x50]
  | 7 => [0x70] | 8 => [0x10]
  | _ => []

/-- Whether an engine is configured. -/
def Roast.configured (r : Roast) (e : Nat) : Bool := (engineKinds e).any r.has

/-- The start of an engine's row of R26, in µs after the close (R131). -/
def engineStart : Nat → Nat
  | 2 => 150 | 4 => 150 | 6 => 1350 | 7 => 1400 | 8 => 1400
  | _ => 0

/-- The bound of R26 for an engine's stage, in µs after the close. -/
def engineBound : Nat → Nat
  | 0 => 2000 | 1 => 150 | 2 => 250 | 3 => 800 | 4 => 1350 | 5 => 50 | 6 => 1400
  | _ => 1500

/-- Carafe bytes an engine's class can move in 1 µs: 778.2 GB/s for class A, 40.96 GB/s for class B (R131). -/
def engineRate (e : Nat) : Nat := if e = 0 ∨ e = 7 then 40960 else 778200

/-- A BUDGET record's fields (R129). -/
def budHandshakes (b : Bytes) : Nat := leAt b 8 8
/-- WINDOW_US. -/
def budWindow (b : Bytes) : Nat := leAt b 4 4
/-- FALLBACK_SLOTS. -/
def budFallback (b : Bytes) : Nat := leAt b 2 2
/-- SHED_RANK. -/
def budRank (b : Bytes) : Nat := leAt b 1 1

end Sys2Proof.Machine
end

