-- ==== Sys2Proof/Machine/Tiles.lean ====
section
/-! DEFINITION. Tiles at use (R140 to R142): what a section's consumer gets of its tiles, the fallback slots of a slice, the queue of
sections that wait for repair from source, and bit 4 of BOOT_HEALTH. -/

namespace Sys2Proof.Machine

/-- Whether a tile copy of a region is bad. -/
def State.copyBad (s : State) (region copy tile : Nat) : Bool :=
  s.roasts.bad.contains { region := region, copy := copy, tile := tile }

/-- A tile copy marked bad or good. -/
def State.markCopy (s : State) (region copy tile : Nat) (bad : Bool) : State :=
  let rest := s.roasts.bad.filter fun c => c != { region := region, copy := copy, tile := tile }
  { s with roasts := { s.roasts with bad := if bad then rest ++ [{ region := region, copy := copy, tile := tile }] else rest } }

/-- Tiles of a section as they number in the image. -/
def Section.tiles (x : Section) : List Nat := (List.range x.tileCount).map (x.firstTile + ·)

/-- The directory index of a section of a region. -/
def Roast.dirIndex (r : Roast) (kind inst : Nat) : Option Nat := findPos (fun x => x.kind == kind && x.inst == inst) r.secs

/-- The section index that holds a tile. -/
def Roast.sectionOf (r : Roast) (tile : Nat) : Option Nat :=
  findPos (fun x => decide (x.firstTile ≤ tile) && decide (tile < x.firstTile + x.tileCount)) r.secs

/-- Section kinds whose tiles the topology, island and alarm engines use. -/
def sramKinds : List Nat := [0x40, 0x41, 0x50, 0x51, 0x52]

/-- Whether a tile has no good copy: both copies of the Carafe bad, or the SRAM copy and the copy it would be reloaded from. -/
def State.tileLost (s : State) (region tile : Nat) : Bool :=
  s.copyBad region 1 tile && (s.copyBad region 0 tile || (region == s.activeRegion && s.roasts.sramBad.contains tile))

/-- The Carafe offset of tile k of a copy of a region (R119, R139). -/
def tileOffset (region copy k : Nat) : Nat := (9216 + 3584 * region + 1792 * copy) * 1048576 + 4112 * k

/-- The tiles of the on-die engines that fail their check when a region's SRAM copies load: those whose copy 0 is bad (R139). -/
def State.sramLoad (s : State) (region : Nat) : List Nat :=
  (((s.region region).getD {}).secs.filter fun x => decide (x.kind ∈ sramKinds)).flatMap fun x => x.tiles.filter (s.copyBad region 0)

/-- Bit 4 of BOOT_HEALTH is 0 while a topology, island or alarm tile has no good copy (R141). -/
def State.tileHealth (s : State) : State :=
  s.health 4 (!((s.roast.secs.filter fun x => decide (x.kind ∈ sramKinds)).any fun x =>
    x.tiles.any fun t => s.tileLost s.activeRegion t))

/-- Whether a region's roast came from the host (R142). -/
def State.regionHost (s : State) (region : Nat) : Bool :=
  if region = s.activeRegion then s.flag Reg.CFG_ROAST_STATUS.ACTIVE_SRC else s.roasts.shadowSrc == 2

/-- The section at the head of the queue, where it came from the host, is asked for (R142). -/
def State.repairHead (s : State) : State :=
  match s.roasts.repairQueue with
  | [] => s.setFlag Reg.CFG_ROAST_STATUS.REPAIR_REQ false
  | (region, sect) :: _ =>
    if !s.regionHost region then s.setFlag Reg.CFG_ROAST_STATUS.REPAIR_REQ false
    else if s.flag Reg.CFG_ROAST_STATUS.REPAIR_REQ && s.get Reg.CFG_REPAIR_SECTION.SECTION == sect % 256 &&
        s.get Reg.CFG_REPAIR_SECTION.REGION == region then s
    else (((s.setFlag Reg.CFG_ROAST_STATUS.REPAIR_REQ true).set Reg.CFG_REPAIR_SECTION.SECTION sect).set
      Reg.CFG_REPAIR_SECTION.REGION region).vector 1

/-- A section queued for repair from source: at most 64 wait, each once, and an overflow is logged once per second (R142). -/
def State.queueRepair (s : State) (region sect : Nat) : State :=
  if (region, sect) ∈ s.roasts.repairQueue then s
  else if s.roasts.repairQueue.length < 64 then
    { s with roasts := { s.roasts with repairQueue := s.roasts.repairQueue ++ [(region, sect)] } }.repairHead
  else if (match s.roasts.overflowLogged with | some t => decide (t + secUnit ≤ s.time.elapsed) | none => true) then
    ({ s with roasts := { s.roasts with overflowLogged := some s.time.elapsed } }).log (evCode 1 4) 0 []
  else s

/-- A tile delivered BAD: counted, logged with its number, its section queued for repair. -/
def State.deliverBad (s : State) (region tile : Nat) : State :=
  let s1 := (s.count Reg.CFG_TILE_FAULT.DOUBLE).log (evCode 1 3) 0 (evIndex tile)
  match ((s.region region).getD {}).sectionOf tile with
  | some i => s1.queueRepair region i
  | none => s1

/-- One tile read for use (R139, R140): the copy read first, then the other in a fallback slot. Answers the state, the fallback
slots left and whether the tile was good. The first copy is copy 0, or the SRAM copy of an engine that runs from one. -/
def State.useTile (s : State) (region : Nat) (sram : Bool) (slots tile : Nat) : State × Nat × Bool :=
  let onDie := sram && region == s.activeRegion
  let firstBad := if onDie then s.roasts.sramBad.contains tile else s.copyBad region 0 tile
  if !firstBad then (s, slots, true)
  else if slots = 0 then (s.deliverBad region tile, 0, false)
  else if s.copyBad region 1 tile then (s.deliverBad region tile, slots - 1, false)
  else
    let s1 := s.count Reg.CFG_TILE_FAULT.SINGLE
    (if onDie then { s1 with roasts := { s1.roasts with sramBad := s1.roasts.sramBad.filter (· != tile) } } else s1, slots - 1, true)

/-- A run of tiles read for use; the last answer lists the tiles delivered BAD. -/
def State.useTiles (s : State) (region : Nat) (sram : Bool) (slots : Nat) : List Nat → State × Nat × List Nat
  | [] => (s, slots, [])
  | t :: ts =>
    let a := s.useTile region sram slots t
    let b := State.useTiles a.1 region sram a.2.1 ts
    (b.1, b.2.1, if a.2.2 then b.2.2 else t :: b.2.2)

/-- What a stage has read of its sections: state, fallback slots left, tiles delivered BAD. -/
structure TileRead where
  s : State
  slots : Nat
  bad : List Nat

/-- The fallback slots of an engine per slice (R129). -/
def Roast.fallback (r : Roast) (e : Nat) : Nat := budFallback (r.recAt 0x01 e)

/-- An engine's slice begins with its fallback slots. -/
def State.reading (s : State) (region e : Nat) : TileRead :=
  { s := s, slots := ((s.region region).getD {}).fallback e, bad := [] }

/-- A section read for use. -/
def TileRead.section (d : TileRead) (region kind inst : Nat) (sram : Bool) : TileRead :=
  match ((d.s.region region).getD {}).sec? kind inst with
  | none => d
  | some x =>
    let a := d.s.useTiles region sram d.slots x.tiles
    { s := a.1, slots := a.2.1, bad := d.bad ++ a.2.2 }

/-- The tile of record `i` of a section, as the image numbers it. -/
def Section.tileOf (x : Section) (i : Nat) : Nat := x.firstTile + i / (4096 / x.recSize)

/-- Whether a record's tile was delivered BAD. -/
def Roast.recBad (r : Roast) (bad : List Nat) (kind i : Nat) (inst : Nat := 0) : Bool :=
  match r.sec? kind inst with
  | some x => bad.contains (x.tileOf i)
  | none => false


/-- Copies that the check at use found bad, as a stage reports them: copy 0 or 1, or 2 for the SRAM copy. -/
def State.foundBad (s : State) (region : Nat) (found : List (Nat × Nat)) : State :=
  (found.foldl (fun s c =>
    if c.1 = 2 then
      (if c.2 ∈ s.roasts.sramBad then s else { s with roasts := { s.roasts with sramBad := s.roasts.sramBad ++ [c.2] } })
    else s.markCopy region c.1 c.2 true) s).tileHealth

end Sys2Proof.Machine
end

