-- ==== Sys2Proof/Machine/Streams.lean ====
section
/-! DEFINITION. The stream table, the parse templates and the channel map as the parser and the aligner read them (R226 to R230,
R541), the slots of a stream, the slice a frame belongs to (R16), and the views of the roast that governs: active, shadow of a
pending swap, old one while it retires (R146, R149, R239). -/

namespace Sys2Proof.Machine

/-! ### Stream records (R226) -/

/-- KIND. -/
def recKind (b : Bytes) : Nat := leAt b 0 1
/-- BLOCK. -/
def recBlock (b : Bytes) : Nat := leAt b 1 1
/-- NBLOCK. -/
def recNblock (b : Bytes) : Nat := leAt b 2 1
/-- FLAGS. -/
def recFlags (b : Bytes) : Nat := leAt b 3 1
/-- PORTS. -/
def recPorts (b : Bytes) : Nat := leAt b 4 1
/-- WAIT_CLASS. -/
def recClass (b : Bytes) : Nat := leAt b 5 1
/-- RATE_DIV. -/
def recDiv (b : Bytes) : Nat := leAt b 6 1
/-- IDCODE. -/
def recId (b : Bytes) : Nat := leAt b 8 2
/-- UDP_PORT. -/
def recUdp (b : Bytes) : Nat := leAt b 0xA 2
/-- SESSION. -/
def recSession (b : Bytes) : Nat := leAt b 0xC 4
/-- SRC_ADDR. -/
def recAddr (b : Bytes) : Bytes := slice b 0x10 16
/-- TEMPLATE. -/
def recTpl (b : Bytes) : Nat := leAt b 0x20 2
/-- GROUP_NO. -/
def recGroup (b : Bytes) : Nat := leAt b 0x22 2
/-- CARRY_KEY of a stream record. -/
def recKey (b : Bytes) : Bytes := slice b 0x38 8

/-- Records of the stream table. -/
def Roast.streamCount (r : Roast) : Nat := (r.recs 0x10).length

/-- The record of stream `i`: a group's first record is the live one where re-templating changed it (R238). -/
def State.recOf (s : State) (i : Nat) : Bytes := (alookup i s.ing.liveRec).getD (s.roast.recAt 0x10 i)

/-- The live template of stream `i` (R228, R238). -/
def State.tplOf (s : State) (i : Nat) : Bytes := (alookup i s.ing.liveTpl).getD (s.roast.recAt 0x11 (recTpl (s.roast.recAt 0x10 i)))

/-- The first stream of a stream's group. -/
def State.firstOf (s : State) (i : Nat) : Nat := i - recBlock (s.recOf i)

/-- The streams of the group whose first stream is `f`. -/
def State.groupOf (s : State) (f : Nat) : List Nat := (List.range (max 1 (recNblock (s.recOf f)))).map (f + ·)

/-- A bit of an array of 32-bit words, by stream. -/
def State.streamBit (s : State) (f : Fld) (i : Nat) : Bool := s.bit (f.ix (i / 32)) (i % 32)

/-- A stream bit set or cleared. -/
def State.putStreamBit (s : State) (f : Fld) (i : Nat) (b : Bool) : State := s.putBit (f.ix (i / 32)) (i % 32) b

/-- A stream is enabled: the bit of its group's first record governs (ING_EN_j). -/
def State.streamOn (s : State) (i : Nat) : Bool :=
  decide (i < s.roast.streamCount) && s.streamBit Reg.ING_EN.EN (s.firstOf i)

/-- A stream is suspended. -/
def State.streamSusp (s : State) (i : Nat) : Bool := s.streamBit Reg.ING_SUSP.SUSP i

/-- A stream is due in slice n: enabled, and n a multiple of RATE_DIV (R281). -/
def State.streamDue (s : State) (i n : Nat) : Bool := s.streamOn i && n % max 1 (recDiv (s.recOf i)) == 0

/-! ### Templates (R228, R229) -/

/-- TYPE. -/
def tplType (t : Bytes) : Nat := leAt t 0 1
/-- FORMAT. -/
def tplFormat (t : Bytes) : Nat := leAt t 1 1
/-- PHNMR. -/
def tplPh (t : Bytes) : Nat := leAt t 2 1
/-- ANNMR. -/
def tplAn (t : Bytes) : Nat := leAt t 3 1
/-- DGNMR. -/
def tplDg (t : Bytes) : Nat := leAt t 4 1
/-- FNOM as hertz. -/
def tplFnom (t : Bytes) : Nat := if leAt t 5 1 = 0 then 60 else 50
/-- CFGCNT. -/
def tplCfgcnt (t : Bytes) : Nat := leAt t 6 2
/-- FREQ_SLOT. -/
def tplFreqSlot (t : Bytes) : Nat := leAt t 8 2
/-- ROCOF_SLOT. -/
def tplRocofSlot (t : Bytes) : Nat := leAt t 0xA 2
/-- TIME_BASE. -/
def tplTimeBase (t : Bytes) : Nat := leAt t 0xC 4
/-- DATA_RATE. -/
def tplRate (t : Bytes) : Nat := leAt t 0x10 2
/-- NASDU. -/
def tplNasdu (t : Bytes) : Nat := leAt t 0x12 1
/-- NELEM. -/
def tplNelem (t : Bytes) : Nat := leAt t 0x13 1
/-- CONFREV. -/
def tplConfrev (t : Bytes) : Nat := leAt t 0x14 4

/-- ENTRY i. -/
def tplEntry (t : Bytes) (i : Nat) : Bytes := slice t (0x40 + 16 * i) 16
/-- SLOT of an entry. -/
def entSlot (e : Bytes) : Nat := leAt e 0 2
/-- UNIT. -/
def entUnit (e : Bytes) : Nat := leAt e 2 1
/-- ELEM. -/
def entElem (e : Bytes) : Nat := leAt e 3 1
/-- SCALE. -/
def entScale (e : Bytes) : F32 := BitVec.ofNat 32 (leAt e 4 4)
/-- OFFSET. -/
def entOffset (e : Bytes) : F32 := BitVec.ofNat 32 (leAt e 8 4)
/-- MASK. -/
def entMask (e : Bytes) : Nat := leAt e 0xC 4

/-- Entries a template uses: frame order for TYPE 1, NELEM for TYPE 2 and 4, channels for TYPE 3, members for TYPE 5. -/
def tplEntries (t : Bytes) : Nat :=
  if tplType t = 2 ∨ tplType t = 4 then tplNelem t
  else if tplType t = 3 then tplAn t
  else tplPh t + tplAn t + tplDg t

/-- The channel slots a stream's template names: none for sampled values, whose entries name filter channels. -/
def tplSlots (t : Bytes) : List Nat :=
  if tplType t = 3 ∨ tplType t = 4 ∨ tplType t = 0 then []
  else
    (((List.range (tplEntries t)).map fun i => entSlot (tplEntry t i)) ++ [tplFreqSlot t, tplRocofSlot t].filter (· != 0xFFFF)).eraseDups

/-- The length of a C37.118 block (R230). -/
def blockLen (t : Bytes) : Nat :=
  2 + tplPh t * (if bitAt (tplFormat t) 1 then 8 else 4) + 2 * (if bitAt (tplFormat t) 3 then 4 else 2) +
    tplAn t * (if bitAt (tplFormat t) 2 then 4 else 2) + tplDg t * 2

/-! ### Shares (R514, R521) -/

/-- The TYPE 3 records of CAS_SHARE. -/
def Roast.shareRecs (r : Roast) : List Bytes := (r.recs 0x60).filter fun b => leAt b 0 1 == 3
/-- STREAM of a TYPE 3 record. -/
def shStream (b : Bytes) : Nat := leAt b 4 2
/-- The slots of a TYPE 2 or TYPE 3 record. -/
def shSlots (b : Bytes) : List Nat := (List.range (leAt b 6 2)).map fun i => leAt b (0x10 + 2 * i) 2
/-- The slots of a TYPE 2 record, whose count stands two bytes lower. -/
def shSource (b : Bytes) : List Nat := (List.range (leAt b 4 2)).map fun i => leAt b (0x10 + 2 * i) 2

/-- The channel slots of stream `i`: its live template's, or those its shares name. -/
def State.slotsOf (s : State) (i : Nat) : List Nat :=
  if recKind (s.recOf i) = 4 then []
  else if recKind (s.recOf i) = 2 ∧ recPorts (s.recOf i) = 0 then
    (s.roast.shareRecs.filter fun b => shStream b == i).flatMap shSlots
  else tplSlots (s.tplOf i)

/-- The stream that a slot is assigned to now (R281, R541). -/
def State.streamOfSlot (s : State) (slot : Nat) : Option Nat :=
  (List.range s.roast.streamCount).find? fun i => (s.slotsOf i).contains slot

/-- KIND of a slot in CHANNEL_MAP (R541): 1 phasor, 2 frequency, 3 ROCOF, 4 analogue, 5 digital word, 0 none. -/
def Roast.slotKind (r : Roast) (slot : Nat) : Nat :=
  match (r.recs 0x12).find? fun b => leAt b 0 4 == slot with
  | some b => leAt b 7 1
  | none => 0

/-! ### Slices (R15, R16) -/

/-- The slice a timestamp belongs to (R16): within an eighth of a slice period of its nominal instant. -/
def sliceFor (fs : Nat) (t : Tai) : Option Nat :=
  let n := (2 * t * fs + secUnit) / (2 * secUnit)
  let d : Int := (t * fs : Nat) - (n * secUnit : Nat)
  if 8 * d.natAbs ≤ secUnit then some n else none

/-- t_n as the deadline counts it: ceil(n × 10^9 / F_s) ns (R271). -/
def deadlineBase (fs n : Nat) : Tai := if fs = 0 then 0 else ceilDiv (n * 1000000000) fs * nsUnit

/-! ### Which roast governs (R146, R149, R239, R288) -/

/-- The words of an array of 256 registers. -/
def State.words256 (s : State) (f : Fld) : List Nat := (List.range 256).map fun j => s.get (f.ix j)
/-- The array's words set. -/
def State.setWords256 (s : State) (f : Fld) (ws : List Nat) : State :=
  ws.foldl (fun a w => (a.1.set (f.ix a.2) w, a.2 + 1)) (s, 0) |>.1

/-- The last old record of a section kind with a carry key (R148); `f` reads the key. -/
def carriedFrom (old : List Bytes) (f : Bytes → Bytes) (b : Bytes) : Option Nat :=
  ((List.range old.length).reverse).find? fun j => f ((old[j]?).getD []) == f b

/-- Fields that a section of the roast loads (R133): the revision window, the close budgets, the energy engine's interval and save
period. -/
def State.loadSections (s : State) (r : Roast) : State :=
  let w := r.recs 0x13
  let s1 := if w.isEmpty then s else s.set Reg.ALN_REV_WINDOW.MS (min 2000 (leAt (r.recAt 0x13 0) 0 4))
  let s2 := (List.range 16).foldl (fun s k => s.set (Reg.ALN_CLOSE_CFG.BUDGET.ix k) (min 250000 (leAt (r.recAt 0x13 (1 + k)) 0 4))) s1
  match (r.recs 0x68).find? fun b => leAt b 0 1 == 1 with
  | some b => (s2.set Reg.NRG_CFG.INTERVAL_MIN (leAt b 1 1)).set Reg.NRG_SAVE.SAVE_S (leAt b 4 2)
  | none => s2

/-- Registers as a roast loads or swaps in (R133). The bits that read 0 for what the roast does not hold stay 0: ALN_REQ of kind-4
streams (R270), ALN_OSTREAM_k.EN of an absent record. -/
def State.loadRegs (s : State) (r : Roast) : State :=
  let s1 := (s.regInit (r.recs 0x02)).loadSections r
  let s2 := (List.range r.streamCount).foldl (fun s i =>
    if recKind (r.recAt 0x10 i) = 4 then s.putStreamBit Reg.ALN_REQ.REQ i false else s) s1
  (List.range 16).foldl (fun s k =>
    if (r.recs 0x15).any fun b => leAt b 0 1 == 1 && leAt b 1 1 == k then s else s.set (Reg.ALN_OSTREAM.EN.ix k) 0) s2

/-- ING_EN after a swap: the bit of each carried stream from the old roast's matching stream (R133, R226). -/
def State.carryEnables (s : State) (old new : Roast) (en : List Nat) : State :=
  (List.range new.streamCount).foldl (fun s i =>
    match carriedFrom (old.recs 0x10) recKey (new.recAt 0x10 i) with
    | some j => s.putStreamBit Reg.ING_EN.EN i (bitAt ((en[j / 32]?).getD 0) (j % 32))
    | none => s) s

/-- The TYPE 4 records of CAS_SHARE (R521). -/
def Roast.tkoRec (r : Roast) (p : Nat) : Option Bytes := (r.recs 0x60).find? fun b => leAt b 0 1 == 4 && leAt b 1 1 == p

/-- Bits that read 0 and ignore writes of 1: ALN_REQ of kind-4 streams (R270), EN of absent output streams (R299). -/
def State.absentBits (s : State) : State :=
  let s1 := (List.range s.roast.streamCount).foldl (fun s i =>
    if recKind (s.roast.recAt 0x10 i) = 4 then s.putStreamBit Reg.ALN_REQ.REQ i false else s) s
  (List.range 16).foldl (fun s k => if (s.roast.outRec k).isSome then s else s.set (Reg.ALN_OSTREAM.EN.ix k) 0) s1

/-- The bits a takeover record names set or cleared (R517, R518). -/
def State.tkoBits (s : State) (p : Nat) (b : Bool) : State :=
  match s.roast.tkoRec p with
  | none => s
  | some r =>
    let s1 := (List.range (leAt r 4 2)).foldl (fun s i =>
      (s.putStreamBit Reg.ING_EN.EN (leAt r (0x10 + 2 * i) 2) b).putStreamBit Reg.ALN_REQ.REQ (leAt r (0x10 + 2 * i) 2) b) s
    (List.range 16).foldl (fun s k => if bitAt (leAt r 2 2) k then s.setFlag (Reg.ALN_OSTREAM.EN.ix k) b else s) s1 |>.absentBits

/-- The takeover bits of every peer whose TAKEN bit is 1 (R518). -/
def State.tkoAll (s : State) : State :=
  (List.range 8).foldl (fun s p => if s.bit Reg.CAS_PEER.TAKEN p then s.tkoBits p true else s) s

/-- Registers and live tables as the swap of the pending shadow makes them (R147, R226, R239, R518). -/
def State.swapRegs (s : State) : State :=
  let old := s.roast
  let new := s.otherRoast
  let en := s.words256 Reg.ING_EN.EN
  let s1 := { s.set Reg.CFG_ROAST_STATUS.ACTIVE_REGION (1 - s.activeRegion) with
    ing := { s.ing with liveTpl := [], liveRec := [], shadowSusp := [] } }
  let s2 := ((s1.loadRegs new).carryEnables old new en).tkoAll.absentBits
  let s3 := s2.setWords256 Reg.ING_SUSP.SUSP (List.replicate 256 0)
  s.ing.shadowSusp.foldl (fun s i => s.putStreamBit Reg.ING_SUSP.SUSP i true) s3

/-- A swap is pending (R145). -/
def State.swapPending (s : State) : Bool := s.get Reg.CFG_SWAP_RESULT.STATE == 2

/-- Which ingest sections a frame falls under. -/
inductive Gen where
  | active | shadow | old
  deriving DecidableEq, Repr

/-- The sections that govern frames of slice n (R146, R149). -/
def State.genOf (s : State) (n : Nat) : Gen :=
  if s.swapPending && decide (s.roasts.swapD ≤ n) then .shadow
  else if s.get Reg.CFG_ROAST_STATUS.SHADOW == 4 && decide (n < s.roasts.retireD) then .old
  else .active

/-- The machine as a generation's frames see it. -/
def State.view (s : State) : Gen → State
  | .active => s
  | .shadow => let v := s.swapRegs; { v with ing := { v.ing with resume := [] } }
  | .old =>
    let s1 := { s.set Reg.CFG_ROAST_STATUS.ACTIVE_REGION (1 - s.activeRegion) with
      ing := { s.ing with liveTpl := s.ing.oldTpl, liveRec := s.ing.oldRec, resume := s.ing.oldResume } }
    (s1.setWords256 Reg.ING_EN.EN s.ing.oldEn).setWords256 Reg.ING_SUSP.SUSP s.ing.oldSusp

/-- Slice rate of the active roast. -/
def State.fs (s : State) : Nat := s.roast.rate

end Sys2Proof.Machine
end

