-- ==== Sys2Proof/Machine/Flags.lean ====
section
/-! DEFINITION. Quality words of channel slots (R233, R281), the usability rule (R328) and the persistence rule of flags (R335). -/

namespace Sys2Proof.Machine

/-- PRESENT. -/
def qPresent (q : Nat) : Bool := bitAt q 0
/-- PMU_ERROR. -/
def qError (q : Nat) : Bool := bitAt q 1
/-- TEST. -/
def qTest (q : Nat) : Bool := bitAt q 2
/-- MISSING_VALUE. -/
def qMissing (q : Nat) : Bool := bitAt q 13
/-- SUBST. -/
def qSubst (q : Nat) : Nat := bitsOf q 14 2
/-- Age of a substitute (R281). -/
def qAge (q : Nat) : Nat := bitsOf q 1 12

/-- A slot is usable under R328 with a consumer's TEST_OK and SUBST_USE flags. -/
def qUsable (testOk substUse : Bool) (q : Nat) : Bool :=
  (qSubst q == 0 && qPresent q && !qError q && !qMissing q && (!qTest q || testOk)) ||
  ((qSubst q == 1 || qSubst q == 2) && substUse)

/-- A valid evaluation of a flag's condition (R335). -/
def Persist.eval (p : Persist) (persist clear : Nat) (cond : Bool) : Persist :=
  if cond then
    let a := min (p.a + 1) 65535
    { a := a, c := 0, on := p.on || decide (persist ≤ a) }
  else if p.on then
    if clear ≤ p.c + 1 then { a := 0, c := 0, on := false } else { a := 0, c := p.c + 1, on := true }
  else { a := 0, c := p.c, on := false }

end Sys2Proof.Machine
end

