-- ==== Sys2Proof/Machine/Operands.lean ====
section
/-! DEFINITION. What a stage reads: a slice's channel slots as substitution has settled them (R281), real and digital slots, the
history record of a closed slice, and configuration as it governs a slice (R112). -/

namespace Sys2Proof.Machine

/-- A slot's value and quality word (R281): as written; else as substitution left it; else not due. -/
def Slice.slot (x : Slice) (k : Nat) : SlotVal :=
  match alookup k x.slots with
  | some v => v
  | none => (alookup k x.subs).getD { v := cNaN, q := 0 }

/-- The real part of a slot. -/
def Slice.real (x : Slice) (k : Nat) : F32 := (x.slot k).v.re

/-- The first word of a slot (R232). -/
def Slice.word (x : Slice) (k : Nat) : Nat := (x.slot k).v.re.toNat

/-- Whether a slot is usable (R328). -/
def Slice.usable (x : Slice) (testOk substUse : Bool) (k : Nat) : Bool := qUsable testOk substUse (x.slot k).q

/-- A slice's buffer or record. -/
def State.slice? (s : State) (n : Nat) : Option Slice := alookup n s.aln.slices

/-- A slice's buffer or record, empty where there is none. -/
def State.sliceAt (s : State) (n : Nat) : Slice := (s.slice? n).getD { n := n }

/-- A slice's buffer or record replaced. -/
def State.setSlice (s : State) (x : Slice) : State := { s with aln := { s.aln with slices := aset x.n x s.aln.slices } }

/-- A slice returns to EMPTY. -/
def State.dropSlice (s : State) (n : Nat) : State := { s with aln := { s.aln with slices := aerase n s.aln.slices } }

/-- The roast that governs a closed slice. -/
def State.runRoast (s : State) (r : Run) : Roast := (s.region r.region).getD {}

/-- The machine with the registers as they stood when a slice closed, for the configuration its stages read (R112). -/
def State.cfgOf (s : State) (r : Run) : State := { s with regs := r.regs }

end Sys2Proof.Machine
end

