-- ==== Sys2Proof/Machine/Schedule.lean ====
section
/-! DEFINITION. The per-slice schedule (R19, R26 to R29, R130, R527): which closed slice a stage works on, what a finished stage
records, the handshake check, and the fabric watchdog's end of a stage. -/

namespace Sys2Proof.Machine

/-- Stages in the order of R26: 0 substitution, 1 alarm pass 1, 2 topology, 3 island, 4 oscillation, 5 LSE, 6 alarm pass 2, 7 history
write, 8 capture, 9 schedule-done notice, 10 revision pass. The stages a stage waits for; every stage that reads slots waits for
substitution (R280). -/
def stageAfter : Nat → List Nat
  | 0 => []
  | 3 => [0, 2] | 5 => [0, 2] | 6 => [0, 1, 3, 4, 5] | 7 => [0, 1, 3, 4, 5, 6] | 8 => [0, 1, 3, 4, 5, 6] | 9 => [7] | 10 => [9]
  | _ => [0]

/-- The BUDGET engine of a stage (R129); the notice has none, and the revision pass belongs to engine 0. -/
def stageEngine : Nat → Option Nat
  | 0 => some 0 | 1 => some 5 | 2 => some 1 | 3 => some 2 | 4 => some 3 | 5 => some 4 | 6 => some 6 | 7 => some 8 | 8 => some 7
  | _ => none

/-- A stage's record on a slice. -/
def Run.at? (r : Run) (stage : Nat) : Option StageDone := r.done.find? fun d => d.stage == stage

/-- Whether a stage has left a slice. -/
def Run.has (r : Run) (stage : Nat) : Bool := (r.at? stage).isSome

/-- Whether the stages a stage waits for are done. -/
def Run.ready (r : Run) (stage : Nat) : Bool := (stageAfter stage).all r.has

/-- When a stage started on a slice: the close, the end of what it waits for, and its end on the slice before (R27). -/
def State.stageStart (s : State) (r : Run) (stage : Nat) : Tai :=
  let waits := ((stageAfter stage).filterMap r.at?).map (·.stop)
  let before := (s.runs.filter fun x => decide (x.n < r.n)).filterMap fun x => (x.at? stage).map (·.stop)
  (waits ++ before).foldl max r.closeAt

/-- Whether a slice is where a stage can work on it until `stop`: what the stage waits for is done, and C + 3,000 µs is not past (R527). -/
def Run.open? (r : Run) (stage : Nat) (stop : Tai) : Bool :=
  r.ready stage && decide (r.closeAt ≤ stop) && decide (stop ≤ r.closeAt + 3000 * usUnit)

/-- Pass 2 of slice `r` waits for pass 1 of another slice: one that became ready no later than it did runs first (R28). -/
def State.pass1First (s : State) (r : Run) (stop : Tai) : Bool :=
  match s.runs.find? fun x => !x.has 1 with
  | some x => x.open? 1 stop && decide (s.stageStart x 1 ≤ s.stageStart r 6)
  | none => false

/-- The closed slice a stage works on: the first in slice order that it has not left, once it is ready; alarm pass 2 lets pass 1 go first
(R27, R28). -/
def State.stageRun (s : State) (stage : Nat) (stop : Tai) : Option Run :=
  match s.runs.find? fun r => !r.has stage with
  | some r => if r.open? stage stop && !(stage == 6 && s.pass1First r stop) then some r else none
  | none => none

/-- A run replaced, by slice. -/
def State.setRun (s : State) (r : Run) : State := { s with runs := s.runs.map fun x => if x.n = r.n then r else x }

/-- Engine e's two bits of ENGINE_STATE in a slice header (R290). -/
def State.setEngine (s : State) (n e v : Nat) : State :=
  match s.slice? n with
  | none => s
  | some x =>
    s.setSlice { x with engineState := x.engineState - bitsOf x.engineState (2 * e) 2 * 2 ^ (2 * e) + v % 4 * 2 ^ (2 * e) }

/-- Engine e's ENGINE_STATE of a slice. -/
def State.engineOf (s : State) (n e : Nat) : Nat := bitsOf (s.sliceAt n).engineState (2 * e) 2

/-- Closed slices that wait for a stage still busy with an earlier one (R27), as ALN_STATUS.QUEUE reports them. -/
def State.waiting (s : State) : Nat :=
  ((s.runs.filter fun r => (List.range 11).any fun k =>
    !r.has k && r.ready k && s.runs.any fun x => decide (x.n < r.n) && !x.has k).length)

/-- Closed slices that an earlier one is still ahead of in some stage. Each holds a place of the queue from its close, so that no end of a
stage brings more than 4 to wait (log entry 123). -/
def State.behind (s : State) : Nat :=
  (s.runs.filter fun r => (List.range 11).any fun k => !r.has k && s.runs.any fun x => decide (x.n < r.n) && !x.has k).length

/-- The LSE stage runs: the slice whose turn it is has what the stage waits for (R315, R323). -/
def State.lseRuns (s : State) : Bool := (s.runs.find? fun r => !r.has 5).any fun r => r.ready 5

/-- ALN_STATUS.QUEUE and LSE_STATUS.BUSY follow the schedule. -/
def State.showQueue (s : State) : State := (s.set Reg.ALN_STATUS.QUEUE s.waiting).setFlag Reg.LSE_STATUS.BUSY s.lseRuns

/-- A slice leaves the schedule once its capture entries and its revision pass are done. -/
def State.sweepRuns (s : State) : State :=
  { s with runs := s.runs.filter fun r => !(r.has 8 && r.has 10) }.showQueue

/-- The handshake count a stage should have executed: the BUDGET record's of its engine (R130). The revision pass's handshakes stand in
engine 0's record together with substitution's, and are compared there. -/
def Roast.handshakes (r : Roast) (e : Nat) : Nat := budHandshakes (r.recAt 0x01 e)

/-- The count expected of an engine: while rank 1 is shed, engine 0's is lower by PACE_REV_HS (R529). -/
def State.expected (s : State) (r : Roast) (shed e : Nat) : Nat :=
  if e = 0 ∧ 1 ≤ shed then r.handshakes e - s.get Reg.PACE_REV_HS.HS else r.handshakes e

/-- Engines 7 and 8 end after alarm pass 2: where one misses its window, the next slice is uncertified (R525). -/
def State.lateCheck (s : State) (r : Run) (stage : Nat) (stop : Tai) : State :=
  match stageEngine stage with
  | some e =>
    if (e = 7 ∨ e = 8) ∧ budWindow ((s.runRoast r).recAt 0x01 e) * usUnit < stop - r.closeAt then
      { s with pace := { s.pace with lateEngine := true } }
    else s
  | none => s

/-- A count that differs from HANDSHAKES logs an event naming the engine (R130). -/
def State.checkCount (s : State) (r : Run) (stage handshakes : Nat) : State × Bool :=
  match stageEngine stage with
  | none => (s, true)
  | some e =>
    if handshakes = (s.cfgOf r).expected (s.runRoast r) r.shed e then (s, true) else (s.log (evCode 1 2) 0 (evIndex e), false)

/-- A stage has left a slice: its record, ENGINE_STATE of its engine, the queue. -/
def State.stageEnd (s : State) (r : Run) (stage : Nat) (rep : StageReport) (state : Nat) : State :=
  let c := (s.lateCheck r stage rep.stop).checkCount r stage rep.handshakes
  let r' := (c.1.runs.find? fun x => x.n == r.n).getD r
  let s1 := c.1.setRun { r' with done := r'.done ++
    [{ stage := stage, start := s.stageStart r stage, stop := rep.stop, state := state, exact := c.2 }] }
  (match stageEngine stage with
  | some e => s1.setEngine r.n e state
  | none => s1).sweepRuns

/-- The stages of engines that the roast does not configure run zero handshakes (R126): they leave a slice as it closes. -/
def Roast.absentStages (r : Roast) : List Nat :=
  (List.range 11).filter fun k => match stageEngine k with
    | some e => !r.configured e
    | none => false

/-- A stage's command: at the report's instant the stage works on the slice that is its turn; with none ready nothing happens. -/
def State.inStage (s : State) (k : Nat) (rep : StageReport) (f : State → Run → State) : State :=
  match s.stageRun k rep.stop with
  | none => s
  | some r => f ((s.moveTo rep.stop).foundBad r.region rep.bad) r

end Sys2Proof.Machine
end

