-- ==== Sys2Proof/Machine/Ring.lean ====
section
/-! DEFINITION. The dual ring (R504 to R512) and the CAS_PPS line (R519): lanes, wraps, tokens, and the messages a device originates.
Ring 0 is the E ring, whose traffic leaves at EAST; ring 1 the W ring. -/

namespace Sys2Proof.Machine

/-- The TYPE 1 record of CAS_SHARE. -/
def Roast.casHead (r : Roast) : Bytes := ((r.recs 0x60).find? fun b => leAt b 0 1 == 1).getD []
/-- PPS_MASTER. -/
def Roast.ppsMaster (r : Roast) : Nat := leAt r.casHead 1 1
/-- STANDBY_FOR. -/
def Roast.standbyFor (r : Roast) : Nat := leAt r.casHead 2 1
/-- AUTO_TAKEOVER. -/
def Roast.autoTakeover (r : Roast) : Bool := bitAt (leAt r.casHead 3 1) 0
/-- TOKEN_HOLD_US. -/
def Roast.tokenHold (r : Roast) : Nat := leAt r.casHead 4 2
/-- MISS_SLICES. -/
def Roast.missSlices (r : Roast) : Nat := leAt r.casHead 6 2
/-- PPS_TOL_NS. -/
def Roast.ppsTol (r : Roast) : Nat := leAt r.casHead 8 4

/-- The device's cascade ID. -/
def State.casId (s : State) : Nat := s.get Reg.CAS_STATUS.ID
/-- A cascade interrupt. -/
def State.casIrq (s : State) (f : Fld) : State := s.irq f Reg.CAS_IRQ_MASK.MASK 120
/-- A peer. -/
def State.peer (s : State) (p : Nat) : Peer := (alookup p s.cas.peers).getD {}
/-- A peer replaced. -/
def State.setPeer (s : State) (p : Nat) (x : Peer) : State := { s with cas := { s.cas with peers := aset p x s.cas.peers } }

/-- WRAP of a side. -/
def wrapFld (east : Bool) : Fld := if east then Reg.CAS_STATUS.WRAP_E else Reg.CAS_STATUS.WRAP_W
/-- LANES of a side. -/
def lanesFld (east : Bool) : Fld := if east then Reg.CAS_STATUS.LANES_E else Reg.CAS_STATUS.LANES_W
/-- CAS_LINK of a side. -/
def linkFld (east : Bool) : Fld := if east then Reg.CAS_LINK_E.NS else Reg.CAS_LINK_W.NS

/-- The port at which a ring's traffic leaves: its own, or the other one where its own is wrapped (R510); none where both are. -/
def State.ringPort (s : State) (ring : Nat) : Option Nat :=
  let wrapped (p : Nat) : Bool := s.flag (wrapFld (p == 0))
  if !wrapped ring then some ring else if !wrapped (1 - ring) then some (1 - ring) else none

/-- Something put out on a ring; a device wrapped on both sides carries only its own loop, and in safe mode and quarantine the transmitters are
squelched (R59). -/
def State.ringEmit (s : State) (ring : Nat) (f : Nat → Output) : State :=
  match (if s.operating then s.ringPort ring else none) with
  | some p => s.emit (f p)
  | none => s

/-- Whether the device originates a kind of message: enabled, with CAS_SHARE, and under DUP_ID presence alone (R505). -/
def State.originates (s : State) (b : RingBody) : Bool :=
  s.blockRuns .cascade && s.roast.has 0x60 &&
  (!s.flag Reg.CAS_STATUS.DUP_ID || match b with | .presence .. => true | _ => false)

/-- Bytes of a message: header, contents, CRC. The spec sizes shares alone; other contents count nothing (log entry 60). -/
def RingMsg.size (m : RingMsg) : Nat := 36 + match m.body with | .share _ slots => 10 * slots.length | _ => 0

/-- The place of a kind in the order of R509. -/
def RingBody.rank : RingBody → Nat
  | .presence .. => 0
  | .arm .. => 1
  | .takeover _ => 2
  | .share k _ => 3 + k

/-- A message queued on the rings it goes out on, under the next sequence number. -/
def State.originate (s : State) (rings : List Nat) (n : Nat) (b : RingBody) : State :=
  if !s.originates b then s
  else
    let m : RingMsg := { id := s.casId, tag := s.cas.tag, seq := s.cas.seq, n := n, body := b }
    { s with cas := { s.cas with seq := (s.cas.seq + 1) % 2 ^ 32
                                 out := s.cas.out ++ rings.map fun r => { ring := r, m := m, left := m.size } } }

/-- Bytes one holding of a token can send: TOKEN_HOLD_US × 1,939.4 B/µs × L. -/
def State.holdBytes (s : State) (ring : Nat) : Nat := s.roast.tokenHold * 19394 * s.get (lanesFld (ring == 0)) / 10

/-- The message of a ring that goes first: one begun, else by the order of R509, then by age. -/
def State.nextOut (s : State) (ring : Nat) : Option RingOut :=
  let mine := s.cas.out.filter fun o => o.ring == ring
  match mine.find? fun o => decide (o.left < o.m.size) with
  | some o => some o
  | none => mine.foldl (fun best o => match best with
    | none => some o
    | some x => if o.m.body.rank < x.m.body.rank then some o else best) none

/-- A TAKEOVER has been sent: its time counts from now (R517). -/
def State.sentMark (s : State) (m : RingMsg) : State :=
  match m.body with
  | .takeover p => { s with cas := { s.cas with takes := s.cas.takes.map fun e => if e.1 = p ∧ e.2.isNone then (p, some s.time.tai) else e } }
  | .share .. => s.count Reg.CAS.SHARE_TX
  | _ => s

/-- Messages sent while the holding lasts: `k` bounds the messages, `room` the bytes; the answer is what is left of the room where a message
does not fit into it, and none where nothing waits. -/
def State.sendOut (s : State) (ring : Nat) : Nat → Nat → State × Option Nat
  | 0, _ => (s, none)
  | k + 1, room =>
    match s.nextOut ring with
    | none => (s, none)
    | some o =>
      if o.left ≤ room then
        let s1 := { s with cas := { s.cas with out := s.cas.out.filter (· != o) } }
        State.sendOut ((s1.sentMark o.m).ringEmit ring (.ring · o.m)) ring k (room - o.left)
      else (s, some room)

/-- A token passed on. -/
def State.passToken (s : State) (ring gen : Nat) : State :=
  { s with cas := { s.cas with token := aerase ring s.cas.token } }.ringEmit ring fun p => .token p ring gen

/-- A token arrives: one of a lower generation than the last seen is discarded; the device sends what its holding lets it, and passes
the token on at once where nothing is left (R508, R512). -/
def State.takeToken (s : State) (ring gen : Nat) : State :=
  if gen < (alookup ring s.cas.gens).getD 0 then s
  else
    let s1 := { s with cas := { s.cas with gens := aset ring gen s.cas.gens, seenAt := aset ring s.time.elapsed s.cas.seenAt } }
    let r := s1.sendOut ring s1.cas.out.length (s1.holdBytes ring)
    match r.2 with
    | none => r.1.passToken ring gen
    | some room => { r.1 with cas := { r.1.cas with token := aset ring gen r.1.cas.token, room := aset ring room r.1.cas.room } }

/-- TOKEN_RECEIVE (R508). -/
def execTokenReceive (ring gen : Nat) (t : Tai) (s : State) : Out :=
  .next (let s := s.moveTo t; if s.roast.has 0x60 then s.takeToken (ring % 2) gen else s)

/-- TOKEN_HOLD_EXPIRY (R508): the message in progress is cut, a fragment of it has been sent, and the token goes on. -/
def execTokenHoldExpiry (ring : Nat) (t : Tai) (s : State) : Out :=
  .next (
    let s := s.moveTo t
    let ring := ring % 2
    match alookup ring s.cas.token with
    | none => s
    | some gen =>
      match s.nextOut ring with
      | none => s.passToken ring gen
      | some o =>
        let part := min ((alookup ring s.cas.room).getD 0) (o.left - 1)
        let s1 := { s with cas := { s.cas with out := s.cas.out.map fun x => if x = o then { o with left := o.left - part } else x } }
        (s1.ringEmit ring fun p => .ringPart p part).passToken ring gen)

/-- Devices present, this one counted. -/
def State.present (s : State) : Nat := 1 + ((List.range 8).filter fun p => s.bit Reg.CAS_PEER.PRESENT p).length

/-- R_t in units of time (R508): N_p × (TOKEN_HOLD_US + 0.40 µs). -/
def State.rotation (s : State) : Tai := s.present * (s.roast.tokenHold * usUnit + 400 * nsUnit)

/-- TOKEN_REGENERATE (R512): by the device with the lowest ID it sees, once no token has been seen for 2 × R_t + 10 µs. -/
def execTokenRegenerate (ring : Nat) (t : Tai) (s : State) : Out :=
  .next (
    let s := s.moveTo t
    let ring := ring % 2
    let quiet := decide ((alookup ring s.cas.seenAt).getD 0 + 2 * s.rotation + 10 * usUnit ≤ s.time.elapsed)
    let lowest := (List.range s.casId).all fun p => !s.bit Reg.CAS_PEER.PRESENT p
    if s.roast.has 0x60 && s.operating && quiet && lowest && (alookup ring s.cas.token).isNone then
      (s.count Reg.CAS.TOKEN_REGEN).takeToken ring ((alookup ring s.cas.gens).getD 0 + 1)
    else s)

/-! ### Lanes and wraps (R506, R507, R510, R511) -/

/-- L of a side changes: an event and an interrupt. -/
def State.setLanes (s : State) (east : Bool) (l : Nat) : State :=
  if s.get (lanesFld east) = l % 8 then s
  else ((s.set (lanesFld east) l).log (evCode 22 1) (b2n (!east)) []).casIrq Reg.CAS_IRQ.LANES

/-- A port wraps. -/
def State.wrap (s : State) (east : Bool) : State :=
  if s.flag (wrapFld east) then s
  else (((s.setFlag (wrapFld east) true).set (linkFld east) 0).count Reg.CAS.WRAPS).casIrq Reg.CAS_IRQ.WRAP

/-- NEIGHBOUR_ABSENT (R510): quiet for 10 µs; `locked` tells that the lanes still have block lock. -/
def execNeighbourAbsent (east locked : Bool) (s : State) : Out :=
  .next (if s.roast.has 0x60 then (if locked then s.wrap east else (s.wrap east).setLanes east 0) else s)

/-- RING_UNWRAP (R511). -/
def execRingUnwrap (east : Bool) (s : State) : Out :=
  .next (if s.roast.has 0x60 && s.get (lanesFld east) != 0 then s.setFlag (wrapFld east) false else s)

/-- LANE_LOSS (R507): the port wraps and retrains. -/
def execLaneLoss (east : Bool) (s : State) : Out := .next (if s.roast.has 0x60 then (s.wrap east).setLanes east 0 else s)

/-- LANE_RETRAIN_DONE (R506, R507): the port has a new L, and unwraps under R511. -/
def execLaneRetrainDone (east : Bool) (lanes : Nat) (s : State) : Out :=
  .next (if s.roast.has 0x60 then s.setLanes east (min 4 lanes) else s)

/-- CASCADE_ENABLE (R106, R522): a shutdown finishes the message in progress and passes a held token on. -/
def execCascadeEnable (who : Requester) (en : Bool) (s : State) : Out :=
  .next (s.open_ who Reg.CAS_CTL.EN.base fun s => s.enWrite .cascade en id id)

/-- A shutdown of the cascade has quiesced: tokens go on, and what waited is dropped. -/
def State.casStopped (s : State) : State :=
  { (s.cas.token.foldl (fun s e => s.passToken e.1 e.2) s) with
    cas := { (s.cas.token.foldl (fun s e => s.passToken e.1 e.2) s).cas with out := [] } }

/-! ### CAS_PPS (R519) -/

/-- CAS_PPS_DRIVE: at a whole TAI second the master drives the line low while its time is valid. -/
def execCasPpsDrive (t : Tai) (s : State) : Out :=
  .next (
    let s := s.moveTo t
    if t % secUnit == 0 && s.operating && s.roast.has 0x60 && s.roast.ppsMaster == s.casId && s.flag Reg.TSU_STATUS.TIME_VALID then
      { s with pins := { s.pins with casPpsLow := true } }
    else s)

/-- CAS_PPS_DRIVE_END: the line is released after 1.000 ms. -/
def execCasPpsDriveEnd (s : State) : Out := .next { s with pins := { s.pins with casPpsLow := false } }

/-- CAS_PPS_EDGE: the edge's offset from the nearest whole second, in ns. -/
def execCasPpsEdge (stamp : TdcStamp) (s : State) : Out :=
  .next (
    let s := s.moveTo stamp.cycle
    let stamp := s.tdcStamp 9 stamp.cycle stamp.code
    let x : Int := (stamp : Int) - s.getInt Reg.CAS_PPS_SKEW.SKEW
    let sec : Int := roundDiv x secUnit * secUnit
    let ofs := roundDiv (x - sec) nsUnit
    let s1 := { s with cas := { s.cas with ppsAt := s.time.elapsed, ppsMissed := false } }.setInt Reg.CAS_PPS_OFS.OFS ofs
    let dev := s.roast.has 0x60 && decide ((s.roast.ppsTol : Int) < ofs.natAbs)
    let s2 := s1.setFlag Reg.CAS_STATUS.PPS_DEV dev
    if dev then s2.casIrq Reg.CAS_IRQ.PPS else s2)

/-- CAS_PPS_MISS: no edge for 1.5 s counts once. -/
def execCasPpsMiss (t : Tai) (s : State) : Out :=
  .next (
    let s := s.moveTo t
    if !s.cas.ppsMissed && decide (2 * s.cas.ppsAt + 3 * secUnit ≤ 2 * s.time.elapsed) then
      { s with cas := { s.cas with ppsMissed := true } }.count Reg.CAS.PPS_MISS
    else s)

end Sys2Proof.Machine
end

