-- ==== Sys2Proof/Machine/Capture.lean ====
section
/-! DEFINITION. Disturbance capture and cross-triggering (R397 to R410). -/

namespace Sys2Proof.Machine

/-! ### CAP_CFG (R410) -/

/-- The TYPE 1 record. -/
def Roast.capHead (r : Roast) : Bytes := ((r.recs 0x70).find? fun b => leAt b 0 1 == 1).getD []
/-- NSLOT. -/
def Roast.capSlots (r : Roast) : Nat := leAt r.capHead 1 1
/-- FULL_POLICY is REFUSE. -/
def Roast.capRefuse (r : Roast) : Bool := leAt r.capHead 2 1 == 1
/-- ARM_MASTER. -/
def Roast.armMaster (r : Roast) : Nat := leAt r.capHead 3 1
/-- AUTO_REARM of line k. -/
def Roast.autoRearm (r : Roast) (k : Nat) : Bool := bitAt (leAt r.capHead 5 1) k
/-- The TYPE 2 record of a profile. -/
def Roast.capProfile (r : Roast) (p : Nat) : Option Bytes := (r.recs 0x70).find? fun b => leAt b 0 1 == 2 && leAt b 1 1 == p
/-- The TYPE 3 record of a source. -/
def Roast.capSource (r : Roast) (k : Nat) : Option Bytes := (r.recs 0x70).find? fun b => leAt b 0 1 == 3 && leAt b 1 1 == k
/-- A profile names a lane. -/
def profLane (b : Bytes) (l : Nat) : Bool := bitAt (leAt b (0x20 + l / 8) 1) (l % 8)
/-- PRE_MS and POST_MS as times. -/
def profPre (b : Bytes) : Tai := leAt b 4 2 * msUnit
/-- POST_MS. -/
def profPost (b : Bytes) : Tai := leAt b 6 2 * msUnit
/-- REACH_PRE. -/
def profReachPre (b : Bytes) : Nat := leAt b 8 2
/-- REACH_POST. -/
def profReachPost (b : Bytes) : Nat := leAt b 0xA 2
/-- The slot list. -/
def profSlots (b : Bytes) : List Nat := (List.range (leAt b 0xC 2)).map fun e => leAt b (0x800 + 2 * e) 2

/-! ### Records and slots -/

/-- A record replaced. -/
def State.setCap (s : State) (k : Nat) (r : CapRec) : State := { s with cap := { s.cap with recs := aset k r s.cap.recs } }
/-- A capture interrupt. -/
def State.capIrq (s : State) (f : Fld) : State := s.irq f Reg.CAP_IRQ_MASK.MASK 80
/-- Slots whose record fills. -/
def State.filling (s : State) : List (Nat × CapRec) := s.cap.recs.filter fun e => e.2.state == 1

/-- The slot registers follow. -/
def State.showSlots (s : State) : State :=
  let n := s.roast.capSlots
  let rec? (k : Nat) : Option CapRec := if k < n then alookup k s.cap.recs else none
  let s1 := (List.range 64).foldl (fun s k =>
    let r := rec? k
    (((s.set (Reg.CAP_SLOT.STATE.ix k) ((r.map (·.state)).getD 0)).setFlag (Reg.CAP_SLOT.HELD.ix k) ((r.map (·.held)).getD false)).set
      (Reg.CAP_SLOT.PROFILE.ix k) ((r.map (·.profile)).getD 0)).set (Reg.CAP_SLOT.SEQ.ix k) ((r.map (·.seq)).getD 0)) s
  (s1.set Reg.CAP_STATUS.FREE ((List.range n).filter fun k => (rec? k).isNone).length).set Reg.CAP_STATUS.FILLING s.filling.length

/-- A slice entry's contents: the listed slots' values, their quality words, padding (R403). -/
def sliceEntry (b : Bytes) (x : Slice) : Bytes :=
  let ks := profSlots b
  let v := (ks.flatMap fun k => cBytes (x.slot k).v) ++ ks.flatMap fun k => leBytes 2 (x.slot k).q
  v ++ List.replicate ((8 - v.length % 8) % 8) 0

/-- An entry of a lost slice. -/
def lostEntry (b : Bytes) : Bytes := List.replicate (8 * ceilDiv (10 * (profSlots b).length) 8) 0

/-- Slices a record spans. -/
def CapRec.spans (r : CapRec) (n : Nat) : Bool := decide (r.nT ≤ n + profReachPre r.prof) && decide (n ≤ r.nT + profReachPost r.prof)

/-- The latest slice that has closed. -/
def State.lastClosed (s : State) : Nat := (s.aln.slices.filter fun e => decide (3 ≤ e.2.state)).foldl (fun m e => max m e.1) 0

/-- Whether the capture stage has left a closed slice. -/
def State.captured (s : State) (n : Nat) : Bool := !(s.runs.any fun r => r.n == n && !r.has 8)

/-- The reach-back entries of a record that opens now: slices in history, oldest first; one that history holds no more is lost. -/
def State.reachBack (s : State) (b : Bytes) (nT : Nat) : List (Nat × Bool × Bytes) :=
  (List.range (profReachPre b + profReachPost b + 1)).filterMap fun i =>
    let n := nT - profReachPre b + i
    if nT + i < profReachPre b ∨ nT + profReachPost b < n then none
    else match s.slice? n with
    | some x => if decide (3 ≤ x.state) && s.captured n then some (n, false, sliceEntry b x) else none
    | none => if n < s.lastClosed then some (n, true, lostEntry b) else none

/-- Lost slices are counted and flagged. -/
def State.capLost (s : State) (slices wave : Nat) : State :=
  let s1 := (s.count Reg.CAP.SLICE_LOST slices).count Reg.CAP.WAVE_LOST wave
  if slices + wave = 0 then s1 else s1.capIrq Reg.CAP_IRQ.LOST

/-! ### XTRIG lines (R405, R406) -/

/-- A line. -/
def State.xline (s : State) (k : Nat) : XLine := (alookup k s.cap.lines).getD {}
/-- A line replaced. -/
def State.setXline (s : State) (k : Nat) (x : XLine) : State := { s with cap := { s.cap with lines := aset k x s.cap.lines } }
/-- Line k is low: driven here, stuck, or within the 2.000 µs of its last edge. -/
def State.xlow (s : State) (k : Nat) : Bool :=
  (s.xline k).driven || (s.xline k).stuck || match (s.xline k).since with
    | some t => decide (s.time.elapsed < t + 2 * usUnit)
    | none => false

/-- The lines a trigger's source fires are driven where they are armed and high (R406). -/
def State.fire (s : State) (mask : Nat) : State :=
  (List.range 4).foldl (fun s k =>
    if s.operating && bitAt mask k && s.bit Reg.CAP_ARM.ARMED k && !s.xlow k then
      ({ s.setXline k { s.xline k with driven := true, drivenAt := s.time.elapsed } with
        pins := { s.pins with xtrigLow := setBit s.pins.xtrigLow k true } }).count Reg.CAP.XTRIG_FIRED
    else s) s

/-- Lines re-armed at the end, or the refusal, of the record for their edge (R405). -/
def State.rearm (s : State) (slot : Nat) : State :=
  (List.range 4).foldl (fun s k =>
    if slot ∈ (s.xline k).rearm then
      (s.setXline k { s.xline k with rearm := (s.xline k).rearm.filter (· != slot) }).putBit Reg.CAP_ARM.ARMED k true
    else s) s

/-! ### Triggers (R399 to R401) -/

/-- The slot a new record takes (R401). -/
def State.takeSlot (s : State) : Option Nat :=
  let ks := List.range s.roast.capSlots
  match ks.find? fun k => (alookup k s.cap.recs).isNone with
  | some k => some k
  | none =>
    if s.roast.capRefuse then none
    else (ks.filterMap fun k => (alookup k s.cap.recs).map fun r => (k, r)).foldl (fun best e =>
      if e.2.state = 1 ∨ e.2.held then best
      else match best with
        | some (_, q) => if e.2.seq < q then some (e.1, e.2.seq) else best
        | none => some (e.1, e.2.seq)) none |>.map (·.1)

/-- The tag of the roast that was active at an instant: while a swap's old roast retires, its own before the close of D (R147). -/
def State.tagAt (s : State) (t : Tai) : Nat :=
  if s.get Reg.CFG_ROAST_STATUS.SHADOW = 4 ∧ (s.slice? s.roasts.retireD).any fun x => decide (t < x.closeAt) then s.otherRoast.tag
  else s.roast.tag

/-- A new record. -/
def State.openRec (s : State) (k : Nat) (b : Bytes) (t : CapTrig) : State :=
  let ents := s.reachBack b t.n
  let lost := (ents.filter (·.2.1)).length
  let r : CapRec :=
    { seq := s.backup.capSeq, profile := leAt b 1 1, t0 := t.t, nT := t.n, tag := s.tagAt t.t, casId := s.casId, prof := b
      flags := 4 * b2n (decide (0 < lost)) + 8 * b2n (!s.flag Reg.TSU_STATUS.TIME_VALID), trigs := [t], slices := ents }
  (({ s.setCap k r with backup := { s.backup with capSeq := s.backup.capSeq + 1 } }).capLost lost 0).showSlots

/-- A trigger merges into a filling record (R400). -/
def CapRec.merge (r : CapRec) (t : CapTrig) : CapRec :=
  if r.trigs.length < 16 then { r with trigs := r.trigs ++ [{ t with merged := true }] } else { r with more := r.more + 1 }

/-- A trigger accepted from a source that CAP_CFG gives a profile; the answer's second part is the slot of the record it belongs to. -/
def State.capTrigger (s : State) (source : Nat) (t : Tai) (n : Nat) (own : Bool) : State × Option Nat :=
  match s.roast.capSource source with
  | none => (s, none)
  | some src =>
    if !s.blockRuns .capture then (s, none)
    else match s.roast.capProfile (leAt src 2 1) with
    | none => (s, none)
    | some b =>
      let tr : CapTrig := { source := source, own := own, n := n, t := t }
      let s1 := (s.count Reg.CAP.TRIGGERS).fire (leAt src 3 1)
      let into := if bitAt (leAt b 2 1) 0 then none
        else s1.filling.find? fun e => e.2.profile == leAt b 1 1 && decide (t ≤ e.2.t0 + profPost e.2.prof)
      match into with
      | some (k, r) => ((s1.setCap k (r.merge tr)).count Reg.CAP.MERGED, some k)
      | none =>
        match s1.takeSlot with
        | none => ((s1.count Reg.CAP.REFUSED_NOSLOT).capIrq Reg.CAP_IRQ.REFUSED, none)
        | some k => (s1.openRec k b tr, some k)

/-- A trigger at an instant; its slice is R15's. -/
def State.trigAt (s : State) (source : Nat) (t : Tai) : State := (s.capTrigger source t (sliceOf s.fs t) false).1

/-- TRIG_IN_EDGE (R50, R399): the edge TRIG_EDGE selects is a trigger of source 64 + k, where the filter accepts the level it leads to. -/
def execTrigInEdge (k : Nat) (falling : Bool) (edge : HeldEdge) (s : State) : Out :=
  .next ((s.moveTo edge.cycle).glitch edge.heldNs fun s =>
    if bitAt (leAt s.roast.capHead 4 1) (k % 4) = falling then s.trigAt (64 + k % 4) (s.tdcStamp (1 + k % 4) edge.cycle edge.code) else s)

/-- CAP_HOST_TRIG (R399): source 72. -/
def execCapHostTrig (who : Requester) (t : Tai) (s : State) : Out :=
  .next ((s.moveTo t).guarded who Reg.CAP_HOST_TRIG.GO.base fun s => s.trigAt 72 s.time.tai)

/-- A falling edge on XTRIG line k: accepted while the line is armed, it disarms the line on every unit, whether or not CAP_CFG has a record
for it (R405). -/
def State.xtrigEdge (s : State) (k : Nat) (stamp : Tai) : State :=
  let x := s.xline k
  if x.stuck then s
  else
    let s1 := s.setXline k { x with since := some s.time.elapsed }
    if !s1.bit Reg.CAP_ARM.ARMED k || !s1.blockRuns .capture then s1
    else
      let t := addTai stamp (-(s1.getInt (Reg.CAP_XSKEW.SKEW.ix k)))
      let auto := s1.roast.autoRearm k
      let s2 := (s1.count Reg.CAP.XTRIG_SEEN).putBit Reg.CAP_ARM.ARMED k auto
      let a := s2.capTrigger (68 + k) t (sliceOf s2.fs t) x.driven
      if auto then
        match a.2 with
        | some slot => a.1.setXline k { a.1.xline k with rearm := (a.1.xline k).rearm ++ [slot] }
        | none => a.1.putBit Reg.CAP_ARM.ARMED k true
      else a.1

/-- XTRIG_EDGE (R50, R399, R405 to R407): a falling edge whose low level the filter accepts; while the line is armed it is a trigger, and it
disarms the line unless AUTO_REARM has its bit set, where the line is armed again when the record is done or refused. -/
def execXtrigEdge (k : Nat) (edge : HeldEdge) (s : State) : Out :=
  .next ((s.moveTo edge.cycle).glitch edge.heldNs fun s => s.xtrigEdge (k % 4) (s.tdcStamp (5 + k % 4) edge.cycle edge.code))

/-- XTRIG_RELEASE (R406): the drive ends 2.000 µs ± 0.050 µs after it began, no earlier. -/
def execXtrigRelease (k : Nat) (t : Tai) (s : State) : Out :=
  .next (
    let s := s.moveTo t
    let k := k % 4
    if s.time.elapsed + 50 * nsUnit < (s.xline k).drivenAt + 2 * usUnit then s
    else { s.setXline k { s.xline k with driven := false } with pins := { s.pins with xtrigLow := setBit s.pins.xtrigLow k false } })

/-- XTRIG_STUCK (R407): the line has been low for more than 10 ms. -/
def execXtrigStuck (k : Nat) (t : Tai) (s : State) : Out :=
  .next (
    let s := s.moveTo t
    let k := k % 4
    let x := s.xline k
    match x.since with
    | some f =>
      if !x.stuck && decide (f + 10 * msUnit < s.time.elapsed) then
        (((s.setXline k { x with stuck := true }).putBit Reg.CAP_STATUS.STUCK k true).capIrq Reg.CAP_IRQ.STUCK).log (evCode 18 0) k []
      else s
    | none => s)

/-- XTRIG_UNSTUCK (R407): the line has been high for 10 ms. -/
def execXtrigUnstuck (k : Nat) (t : Tai) (s : State) : Out :=
  .next (
    let s := s.moveTo t
    let k := k % 4
    if (s.xline k).stuck then (s.setXline k { s.xline k with stuck := false, since := none }).putBit Reg.CAP_STATUS.STUCK k false else s)

/-! ### Arming (R405) -/

/-- A write of ARM or DISARM: on the arm master, or on every device where there is none, the command waits for the next close and is sent
over the ring; on any other device it is ignored with LOCKED set. -/
def State.armCmd (s : State) (who : Requester) (arm disarm : Nat) : State :=
  s.guarded who Reg.CAP_ARM.ARM.base fun s =>
    let m := s.roast.armMaster
    if m = 0xFF ∨ m = s.casId then
      let s1 := { s with cap := { s.cap with arms := s.cap.arms ++ [(arm % 16, disarm % 16)] } }
      if m = 0xFF then s1 else s1.originate [0, 1] 0 (.arm (arm % 16) (disarm % 16))
    else s.hifErr who Reg.HIF_ERR.LOCKED Reg.CAP_ARM.ARM.base

/-- CAP_ARM. -/
def execCapArm (who : Requester) (mask : Nat) (s : State) : Out := .next (s.armCmd who mask 0)
/-- CAP_DISARM. -/
def execCapDisarm (who : Requester) (mask : Nat) (s : State) : Out := .next (s.armCmd who 0 mask)

/-- The arm commands received apply at the close of a slice. -/
def State.armsApply (s : State) : State :=
  let s1 := s.cap.arms.foldl (fun s e =>
    s.set Reg.CAP_ARM.ARMED (Nat.land (Nat.lor (s.get Reg.CAP_ARM.ARMED) e.1) (15 - e.2))) s
  { s1 with cap := { s1.cap with arms := [] } }

/-! ### Slots (R401, CAP_SLOT_k) -/

/-- CAP_SLOT_HOLD: a DONE or ABORTED slot is held. -/
def execCapSlotHold (who : Requester) (k : Nat) (s : State) : Out :=
  .next (s.guarded who (Reg.CAP_SLOT.HOLD.ix (k % 64)).base fun s =>
    let k := k % 64
    match alookup k s.cap.recs with
    | some r => if k < s.roast.capSlots ∧ 2 ≤ r.state then (s.setCap k { r with held := true }).showSlots else s
    | none => s)

/-- CAP_SLOT_RELEASE: a DONE or ABORTED slot becomes FREE. -/
def execCapSlotRelease (who : Requester) (k : Nat) (s : State) : Out :=
  .next (s.guarded who (Reg.CAP_SLOT.RELEASE.ix (k % 64)).base fun s =>
    let k := k % 64
    match alookup k s.cap.recs with
    | some r =>
      if k < s.roast.capSlots ∧ 2 ≤ r.state then ({ s with cap := { s.cap with recs := aerase k s.cap.recs } }).showSlots else s
    | none => s)

/-! ### Slice entries and the end of a record (R402, R403) -/

/-- The capture stage on a slice: every filling record that spans it takes its entry. -/
def State.captureStage (s : State) (r : Run) (rep : StageReport) : State :=
  let d := (s.reading r.region 7).section r.region 0x70 0 false
  let x := d.s.sliceAt r.n
  let s1 := d.s.filling.foldl (fun s e =>
    if e.2.spans r.n && !(e.2.slices.any fun y => y.1 == r.n) then
      s.setCap e.1 { e.2 with slices := e.2.slices ++ [(r.n, false, sliceEntry e.2.prof x)] }
    else s) d.s
  s1.stageEnd r 8 rep (if d.bad.isEmpty then 1 else 2)

/-- A lane's block: the ring's samples of the window, those reported lost flagged, their values free (log entry 1). The sample at or before T0
and the one after it are the ring's, inside the window or next to it (R402). -/
def State.capLane (s : State) (r : CapRec) (lost : List (Nat × Nat)) (lane : Nat) : CapLane :=
  let ring := (alookup lane s.cap.wave).getD []
  let win := ring.filter fun w => decide (r.t0 ≤ w.t + profPre r.prof) && decide (w.t ≤ r.t0 + profPost r.prof)
  let upTo := (ring.filter fun w => decide (w.t ≤ r.t0)).length
  let before := (ring.filter fun w => decide (w.t + profPre r.prof < r.t0)).length
  let frac := match ring[upTo - 1]?, ring[upTo]? with
    | some a, some b => if a.t ≤ r.t0 ∧ a.t < b.t then 65536 * (r.t0 - a.t) / (b.t - a.t) else 0
    | _, _ => 0
  { lane := lane, group := lane / 8, frac := frac, i := (upTo + (2 ^ 32 - 1) - before) % 2 ^ 32
    samples := (List.range win.length).filterMap fun j => (win[j]?).map fun (w : WaveSample) =>
      if (lane, j) ∈ lost then { w with v := BitVec.ofNat 32 (Config.freeNat (s.freeCount + j)), flags := 8 } else w }

/-- The record header as it stands in the slot, its CRC left zero (R403). -/
def CapRec.header (r : CapRec) : Bytes :=
  let nsl := (profSlots r.prof).length
  let entry := 8 + 8 * ceilDiv (10 * nsl) 8
  let lanes := (List.range r.lanes.length).filterMap fun l => (r.lanes[l]?).map fun (x : CapLane) =>
    leBytes 4 (x.lane + 2 ^ 8 * x.group + 2 ^ 16 * x.frac) ++ leBytes 4 x.i ++ leBytes 4 x.samples.length ++
      leBytes 4 (8192 + 8 * ((r.lanes.take l).map fun (y : CapLane) => y.samples.length).sum)
  let trigs := r.trigs.map fun t => leBytes 1 t.source ++ leBytes 1 (b2n t.own + 2 * b2n t.merged) ++ leBytes 6 0 ++ leBytes 8 t.n ++ taiBytes t.t
  let a := [0x4D, 0x5A, 0x37, 0x34, 0x31, 0x36, 0x43, 0x50] ++ leBytes 4 r.seq ++ leBytes 1 r.state ++ leBytes 1 r.profile ++ leBytes 2 r.flags ++
    taiBytes r.t0 ++ leBytes 8 r.nT ++ leBytes 4 (profPre r.prof / usUnit) ++ leBytes 4 (profPost r.prof / usUnit) ++
    leBytes 2 r.lanes.length ++ leBytes 2 r.trigs.length ++ leBytes 4 r.more ++ leBytes 4 r.slices.length ++ leBytes 4 entry ++
    leBytes 4 r.tag ++ leBytes 4 r.casId
  padTo 0x1FFC (padTo 0x1400 (padTo 0x400 a ++ lanes.flatten) ++ trigs.flatten)

/-- A record is ready to end: its post window has passed and the history write of its last slice is done. -/
def State.capReady (s : State) (r : CapRec) : Bool :=
  let last := r.nT + profReachPost r.prof
  decide (r.t0 + profPost r.prof ≤ s.time.tai) && decide (last ≤ s.lastClosed) && !(s.runs.any fun x => decide (x.n ≤ last) && !(x.has 7 && x.has 8))

/-- A record's slice entries as it ends, in index order: those written, a slice that history still holds, or a lost one; what the report names
is lost (R398, R402). -/
def State.capEntries (s : State) (x : CapRec) (lost : List Nat) : List (Nat × Bool × Bytes) :=
  (List.range (profReachPre x.prof + profReachPost x.prof + 1)).filterMap fun i =>
    let n := x.nT - profReachPre x.prof + i
    if !x.spans n then none
    else if n ∈ lost then some (n, true, lostEntry x.prof)
    else (x.slices.find? fun y => y.1 == n).or (match s.slice? n with
      | some y => if 3 ≤ y.state then some (n, false, sliceEntry x.prof y) else some (n, true, lostEntry x.prof)
      | none => some (n, true, lostEntry x.prof))

/-- CAPTURE_RECORD_DONE (R402, R405). -/
def execCaptureRecordDone (r : CapReport) (s : State) : Out :=
  .next (
    let s := s.moveTo r.t
    match alookup r.slot s.cap.recs with
    | none => s
    | some x =>
      if x.state ≠ 1 ∨ !s.capReady x then s
      else
        let ls := ((List.range 256).filter (profLane x.prof)).map fun l => s.capLane x r.lostWave l
        let ents := s.capEntries x r.lostSlices
        let nw := r.lostWave.length
        let ns := (ents.filter fun e => e.2.1 && !(x.slices.any fun y => y.1 == e.1 && y.2.1)).length
        let fl := Nat.lor x.flags (2 * b2n (decide (0 < nw)) + 4 * b2n (decide (0 < ns)))
        let y : CapRec := { x with state := 2, lanes := ls, slices := ents, flags := fl }
        let s1 := (({ s with freeCount := s.freeCount + (ls.map fun (l : CapLane) => l.samples.length).foldl max 0 }).setCap r.slot
          { y with crc := crc32c y.header }).capLost ns nw
        ((s1.capIrq Reg.CAP_IRQ.DONE).rearm r.slot).showSlots)

/-- CAPTURE_ENABLE (R106). -/
def execCaptureEnable (who : Requester) (en : Bool) (s : State) : Out :=
  .next (s.open_ who Reg.CAP_CTL.EN.base fun s => s.enWrite .capture en id id)

/-- Capacity of the wave ring in samples of one of 256 lanes: 256 MiB of 8-byte samples (R397). -/
def waveDepth : Nat := 131072

/-- A resampler output goes into the wave ring, where a profile names its lane (R397), of the active roast or of a record still filling (R408);
a shutdown stops the ring at its end (CAP_CTL). -/
def State.waveStore (s : State) (lane : Nat) (w : WaveSample) : State :=
  if (s.flag Reg.CAP_CTL.EN || s.flag Reg.CAP_CTL.BUSY) &&
      (((s.roast.recs 0x70).any fun b => leAt b 0 1 == 2 && profLane b lane) || s.filling.any fun e => profLane e.2.prof lane) then
    let old := (alookup lane s.cap.wave).getD []
    { s with cap := { s.cap with wave := aset lane ((old ++ [w]).drop (old.length + 1 - waveDepth)) s.cap.wave } }
  else s

/-- A flag of every filling record: a time step (bit 0), a roast swap (bit 4) (R408). -/
def State.capFlag (s : State) (k : Nat) : State :=
  { s with cap := { s.cap with recs := s.cap.recs.map fun (e : Nat × CapRec) =>
    if e.2.state = 1 then (e.1, { e.2 with flags := setBit e.2.flags k true }) else e } }

/-- Ledger step 14 reads every slot header: what was filling is aborted, holds are cleared (R408). -/
def State.capHeaders (s : State) : State :=
  ({ s with cap := { s.cap with recs := s.cap.recs.map fun (e : Nat × CapRec) =>
    let r := if e.2.state = 1 then { e.2 with state := 3 } else e.2
    (e.1, { r with held := false, crc := if e.2.state = 1 then crc32c ({ e.2 with state := 3 } : CapRec).header else r.crc }) } }).showSlots

end Sys2Proof.Machine
end

