-- ==== Sys2Proof/Machine/Receive.lean ====
section
/-! DEFINITION. The receive path: checks, address and VLAN filters, classification, receive rings, ingress queues, Dregs, the
station pair's duplicate discard and forwarding, and the transparent clock (R153 to R173, R181 to R184, R209, R210). -/

namespace Sys2Proof.Machine

/-! ### Ingress queues (R165 to R172) -/

/-- An ingress queue. -/
def State.ingQ (s : State) (n : Nat) : IngQueue := (alookup n s.ports.ing).getD {}
/-- An ingress queue replaced. -/
def State.setIngQ (s : State) (n : Nat) (q : IngQueue) : State := { s with ports := { s.ports with ing := aset n q s.ports.ing } }

/-- Words of capacity (R165). -/
def State.ingCap (s : State) (n : Nat) : Nat :=
  if n < 4 then 32768 else if n = 4 ∧ s.redMode ≠ 0 then 16384 else 8192

/-- Words a packet takes: two of header and its data words. -/
def IngPacket.words (k : IngPacket) : Nat := 2 + ceilDiv k.data.length 8

/-- A word of a queue with its side tag: value, KIND, NVB. -/
abbrev IngWord := Nat × Nat × Nat

/-- The data words of a packet, the last one of KIND 2 or 3 with its valid bytes modulo 8. -/
def dataWords (good : Bool) : Nat → Bytes → List IngWord
  | 0, _ => []
  | n + 1, bs =>
    if bs.length ≤ 8 then [(leVal bs, if good then 2 else 3, bs.length % 8)]
    else (leVal (bs.take 8), 1, 0) :: dataWords good n (bs.drop 8)

/-- The words a packet is stored as (R165, R166). -/
def IngPacket.stored (k : IngPacket) : List IngWord :=
  [(k.stamp % secUnit / nsUnit + 2 ^ 32 * (k.stamp / secUnit % 65536) + 2 ^ 48 * k.seq, 0, 0),
   (k.stamp % 65536 + 2 ^ 16 * k.vid + 2 ^ 28 * k.pcp + 2 ^ 31 * b2n k.tagged + 2 ^ 32 * k.cls + 2 ^ 34 * k.udpIdx +
     2 ^ 37 * b2n k.lanB, 0, 0)] ++ dataWords k.good k.words k.data

/-- Occupancy in words (R165). -/
def State.ingOcc (s : State) (n : Nat) : Nat :=
  (s.get (Reg.ING_Q_PTR.WP.ix n) + 2 * s.ingCap n - s.get (Reg.ING_Q_PTR.RP.ix n)) % (2 * s.ingCap n)

/-- OCC and HEAD_SEQ follow the queue; an upward crossing of the threshold sets FILL_HIT and raises the queue's vector (R170). -/
def State.ingShow (s : State) (n : Nat) : State :=
  let was := s.get (Reg.ING_Q_STATUS.OCC.ix n)
  let now := s.ingOcc n
  let thr := s.get (Reg.ING_Q_FILL.THR.ix n)
  let s1 := (s.set (Reg.ING_Q_STATUS.OCC.ix n) now).set (Reg.ING_Q_STATUS.HEAD_SEQ.ix n)
    (match (s.ingQ n).packets with | k :: _ => k.seq | [] => 0)
  if thr ≠ 0 ∧ was < thr ∧ thr ≤ now then (s1.setFlag (Reg.ING_Q_STATUS.FILL_HIT.ix n) true).vector (16 + n) else s1

/-- WP moves on by a number of words. -/
def State.ingWrite (s : State) (n words : Nat) : State :=
  s.set (Reg.ING_Q_PTR.WP.ix n) ((s.get (Reg.ING_Q_PTR.WP.ix n) + words) % (2 * s.ingCap n))
/-- RP moves on by a number of words. -/
def State.ingRead (s : State) (n words : Nat) : State :=
  s.set (Reg.ING_Q_PTR.RP.ix n) ((s.get (Reg.ING_Q_PTR.RP.ix n) + words) % (2 * s.ingCap n))

/-- The head packet leaves the queue. -/
def State.ingPop (s : State) (n : Nat) : State :=
  match (s.ingQ n).packets with
  | [] => s
  | k :: r => ((s.setIngQ n { s.ingQ n with packets := r }).ingRead n k.words).ingShow n

/-- A packet bound for a queue is admitted, or discarded whole (R167); a bad one is withdrawn before its consumer starts, or stays
with a last word of KIND 3 (R168). One that Dregs has discarded while it arrived is stored no further (R171). The room asked for is that of
the longest frame its own port accepts. -/
def State.ingAdmit (s : State) (n : Nat) (k : IngPacket) (started : Bool) : State :=
  let need := 2 + ceilDiv (s.get (Reg.MAC_MAXLEN.LEN.ix k.port) - 4) 8
  if (s.ingQ n).cut then s.setIngQ n { s.ingQ n with cut := false }
  else if !s.blockRuns (.ingQueue n) ∨ s.ingCap n - s.ingOcc n < need then s.count (Reg.ING_Q.DROP_FULL.ix n)
  else
    let q := s.ingQ n
    let k := { k with seq := q.nextSeq }
    let s1 := ((s.setIngQ n { q with packets := q.packets ++ [k], nextSeq := (q.nextSeq + 1) % 65536 }).ingWrite n k.words).ingShow n
    if k.good then s1
    else
      let thr := s.get (Reg.ING_Q_CT.THR.ix n)
      if started ∧ thr ≠ 0 ∧ thr ≤ k.data.length ∧ q.packets.isEmpty then s1.count (Reg.ING_Q.CT_BAD.ix n)
      else
        (((s1.setIngQ n { q with nextSeq := (q.nextSeq + 1) % 65536 }).set (Reg.ING_Q_PTR.WP.ix n)
          (s.get (Reg.ING_Q_PTR.WP.ix n))).ingShow n).count (Reg.ING_Q.ROLLBACK.ix n)

/-- The packet at the head still arrives, `words` of it stored: RP moves to WP at once, and the writer stores nothing more of it (R171). -/
def State.dregsArriving (s : State) (n words : Nat) : State :=
  let q := s.ingQ n
  let s1 := ((s.setIngQ n { q with nextSeq := (q.nextSeq + 1) % 65536, cut := true }).ingWrite n words).ingShow n
  ((s1.ingRead n words).ingShow n).count (Reg.ING_Q.DREGS.ix n)

/-- Dregs of a register write (R171, R172): the head packet goes, or the command is ignored with DREGS_IGN set. A packet that still
arrives is the head where no complete packet stands before it. -/
def State.dregs (s : State) (n : Nat) (seqMatch : Bool) (m : DregsMark) : State :=
  let ignored := s.setFlag (Reg.ING_Q_STATUS.DREGS_IGN.ix n) true
  match (s.ingQ n).packets, m.arriving with
  | k :: _, _ => if seqMatch ∧ k.seq ≠ m.seq % 65536 then ignored else (s.ingPop n).count (Reg.ING_Q.DREGS.ix n)
  | [], some w => if (seqMatch ∧ (s.ingQ n).nextSeq ≠ m.seq % 65536) ∨ !s.blockRuns (.ingQueue n) ∨ (s.ingQ n).cut then ignored
    else s.dregsArriving n w
  | [], none => ignored

/-- DREGS: the write of ING_Qn_CMD; queue 5 ignores it while the station pair is redundant (R187). -/
def execDregs (who : Requester) (n : Nat) (seqMatch : Bool) (mark : DregsMark) (s : State) : Out :=
  .next (s.open_ who (Reg.ING_Q_CMD.DREGS.ix n).base fun s =>
    if n = 5 ∧ s.redMode ≠ 0 then s else s.dregs n seqMatch mark)

/-! ### Receive rings (R158 to R164) -/

/-- What a receive descriptor says of a frame. -/
structure RxMeta where
  cls : Nat
  lanB : Bool
  vid : Nat
  pcp : Nat
  tagged : Bool
  stamp : Tai
  deriving DecidableEq, Repr

/-- One written-back receive descriptor (R159). DESIGN CHOICE (log entry 111): the timestamp words of a descriptor without SOP, of which the
rule says only that they are not valid, are written as zeros. -/
def rxDesc (m : RxMeta) (buf len frameLen : Nat) (sop eop trunc : Bool) : Bytes :=
  leBytes 8 buf ++
  leBytes 4 (len + 2 ^ 24 * b2n m.lanB + 2 ^ 25 * m.cls + 2 ^ 28 * b2n trunc + 2 ^ 29 * b2n eop + 2 ^ 30 * b2n sop + 2 ^ 31) ++
  leBytes 4 (m.vid + 2 ^ 12 * m.pcp + 2 ^ 15 * b2n m.tagged + 2 ^ 16 * frameLen) ++
  (if sop then taiBytes m.stamp else List.replicate 16 0)

/-- Buffers `i` and up of a frame: data, then descriptor, `n` buffers in all. -/
def State.rxBuffers (s : State) (r : Ring) (m : RxMeta) (bufs : List Nat) (trunc : Bool) (n : Nat) : Nat → Nat → Bytes → State
  | _, 0, _ => s
  | i, k + 1, bs =>
    let part := bs.take 2048
    let eop := decide (i + 1 = n)
    let addr := (bufs[i]?).getD 0
    let total := if eop then i * 2048 + part.length else 0
    State.rxBuffers ((s.ringWrite r addr part).ringWrite r (s.descAt r i) (rxDesc m addr part.length total (i == 0) eop trunc))
      r m bufs trunc n (i + 1) k (bs.drop 2048)

/-- A frame delivered to receive ring k of a port (R160 to R164). -/
def State.rxDeliver (s : State) (p k : Nat) (m : RxMeta) (bufs : List Nat) (bs : Bytes) : State :=
  let r : Ring := .rx p k
  let avail := s.ringAvail r
  let need := ceilDiv bs.length 2048
  if avail = 0 ∨ !s.blockRuns (.ring r) then (s.count (Reg.MAC.RX_NOBUF_DROP.ix p)).macIrq p Reg.MAC_IRQ.NOBUF_DROP
  else
    let n := min avail need
    let trunc := decide (avail < need)
    let s1 := ((s.rxBuffers r m bufs trunc n 0 n bs).ringTake r n).ringEvent r
    if trunc then (s1.count (Reg.MAC.RX_NOBUF_TRUNC.ix p)).macIrq p Reg.MAC_IRQ.NOBUF_TRUNC else s1

/-! ### Filters and classification (R154 to R156) -/

/-- An address as its two register words hold it. -/
def addrWords (a : Bytes) : Nat × Nat := (beAt a 0 2, beAt a 2 4)

/-- The address filter (R154). -/
def State.addrFilter (s : State) (p : Nat) (bs : Bytes) : Bool :=
  let da := dstOf bs
  let promisc := s.flag (Reg.MAC_FILT_CFG.PROMISC.ix p)
  if (viewOf bs).etype = 0x88F7 ∧ (beVal da = 0x011B19000000 ∨ beVal da = 0x0180C200000E) then true
  else if isBroadcast bs then s.flag (Reg.MAC_FILT_CFG.BCAST.ix p)
  else if isGroup bs then
    s.flag (Reg.MAC_FILT_CFG.ALLGROUP.ix p) || promisc || s.bit (Reg.MAC_HASH.BINS.ix2 p (hashBin da / 32)) (hashBin da % 32)
  else promisc || (List.range 16).any fun k =>
    s.flag (Reg.MAC_UCAST_HI.EN.ix2 p k) && s.get (Reg.MAC_UCAST_HI.ADDR_HI.ix2 p k) == (addrWords da).1 &&
    s.get (Reg.MAC_UCAST_LO.ADDR_LO.ix2 p k) == (addrWords da).2

/-- The VLAN filter (R155). -/
def State.vlanFilter (s : State) (p : Nat) (bs : Bytes) : Bool :=
  let v := viewOf bs
  !s.flag (Reg.MAC_VLAN_CFG.MODE.ix p) || !v.tagged || v.vid == 0 || (List.range 16).any fun k =>
    s.flag (Reg.MAC_VID.EN.ix2 p k) && s.get (Reg.MAC_VID.VID.ix2 p k) == v.vid

/-- Where a frame goes (R156). -/
inductive RxDest where
  | ring (k cls : Nat)
  | queue (cls udpIdx : Nat)
  deriving DecidableEq, Repr

/-- The entry of MACp_STREAM_UDP that a datagram matches. -/
def State.streamUdp (s : State) (p : Nat) (bs : Bytes) : Option Nat :=
  match udpOf bs with
  | none => none
  | some u =>
    if u.fragmented then none
    else (List.range 8).find? fun k =>
      s.flag (Reg.MAC_STREAM_UDP.EN.ix2 p k) && s.get (Reg.MAC_STREAM_UDP.PORT.ix2 p k) == u.port bs &&
      (if u.v6 then s.flag (Reg.MAC_STREAM_UDP.V6.ix2 p k) else s.flag (Reg.MAC_STREAM_UDP.V4.ix2 p k))

/-- The rows of R156 after the first; on M0 (port 6), rows 3 to 5 never match. -/
def State.classify (s : State) (p : Nat) (bs : Bytes) : RxDest :=
  let v := viewOf bs
  let rest := if isGroup bs then RxDest.ring (s.get (Reg.MAC_CLASS_CFG.GROUP_RING.ix p)) 2
    else .ring (s.get (Reg.MAC_CLASS_CFG.OTHER_RING.ix p)) 3
  if (ptpAt bs).isSome then .ring (s.get (Reg.MAC_CLASS_CFG.PTP_RING.ix p)) 0
  else if p = 6 then rest
  else if v.etype = 0x88BA ∧ 4 ≤ p ∧ s.flag (Reg.MAC_CLASS_CFG.SV_EN.ix p) then .queue 0 0
  else if v.etype = 0x88B8 ∧ s.flag (Reg.MAC_CLASS_CFG.GOOSE_EN.ix p) then .queue 1 0
  else match s.streamUdp p bs with
  | some k => .queue 2 k
  | none => rest

/-- The receive stamp of a frame (R204, R205). -/
def State.rxStamp (s : State) (p : Nat) (bs : Bytes) (t : Tai) : Tai :=
  if p < 4 then
    let a := match ptpAt bs with
      | some o => if ptpEvent bs o then s.getInt (Reg.PTP_PORT.ASYM.ix p) else 0
      | none => 0
    addTai t (-(s.getInt (Reg.PTP_PORT.ING_LAT.ix p)) - a)
  else t

/-- VID and PCP as a frame is reported (R155). -/
def State.reportVid (s : State) (p : Nat) (bs : Bytes) : Nat :=
  let v := viewOf bs
  if v.tagged ∧ v.vid ≠ 0 then v.vid else s.get (Reg.MAC_VLAN_CFG.PVID.ix p)

/-- A frame at its destination: `p` is the port it arrived at. -/
def State.rxPlace (s : State) (p : Nat) (f : RxFrame) (bs : Bytes) (good : Bool) : State :=
  let c := s.cfgPort p
  let v := viewOf bs
  let lanB := p == 5 && s.redMode != 0
  let st := s.rxStamp p bs f.stamp
  match s.classify c bs with
  | .ring k cls =>
    if !good then s
    else if !f.fifoFits then s.count (Reg.MAC.RX_FIFO_DROP.ix p)
    else s.rxDeliver c k { cls := cls, lanB := lanB, vid := s.reportVid c bs, pcp := v.pcp, tagged := v.tagged, stamp := st } f.bufs bs
  | .queue cls idx =>
    s.ingAdmit c
      { port := p, stamp := st, vid := s.reportVid c bs, pcp := v.pcp, tagged := v.tagged, cls := cls, udpIdx := idx,
        lanB := lanB, data := untag bs, good := good } f.started

/-! ### Redundancy (R181 to R184) -/

/-- An entry is alive. -/
def State.dupAlive (s : State) (e : DupEntry) : Bool :=
  decide (s.time.elapsed < e.at_ + max 1 (s.get Reg.MACS0_RED_CFG.ENTRY_FORGET) * msUnit)

/-- Whether a frame of this source and sequence number is known, in one direction (0: delivery). -/
def State.dupKnown (s : State) (dir : Nat) (src : Bytes) (seq : Nat) : Bool :=
  s.ports.dup.any fun e => e.dir == dir && e.src == src && e.seq == seq && s.dupAlive e

/-- A first copy is entered; the oldest of 2,048 entries makes room (R184). -/
def State.dupEnter (s : State) (dir : Nat) (src : Bytes) (seq : Nat) : State :=
  let same := s.ports.dup.filter fun e => e.dir == dir
  let d := if same.length < 2048 then s.ports.dup
    else match findPos (fun e => e.dir == dir) s.ports.dup with
      | some i => s.ports.dup.eraseIdx i
      | none => s.ports.dup
  { s with ports := { s.ports with dup := d ++ [{ dir := dir, src := src, seq := seq, at_ := s.time.elapsed }] } }

/-- DUPLICATE_ENTRY_EXPIRY (R184): entries whose life has passed go. -/
def execDuplicateEntryExpiry (t : Tai) (s : State) : Out :=
  .next (
    let s := s.moveTo t
    { s with ports := { s.ports with dup := s.ports.dup.filter s.dupAlive } })

/-- A frame subject to duplicate discard (R184). -/
def State.dedupe (s : State) (p : Nat) (f : RxFrame) (src : Bytes) (seq : Nat) (bs : Bytes) : State :=
  if s.dupKnown 0 src seq then s.count (Reg.MAC.RED_DUP_DISCARD.ix 4)
  else (s.dupEnter 0 src seq).rxPlace p f bs true

/-- The filters, then what `next` does (R154, R155). -/
def State.filtered (s : State) (p : Nat) (bs : Bytes) (next : State → State) : State :=
  if !s.addrFilter (s.cfgPort p) bs then s.count (Reg.MAC.RX_FILT_DROP.ix p)
  else if !s.vlanFilter (s.cfgPort p) bs then s.count (Reg.MAC.RX_VLAN_DROP.ix p)
  else next s

/-- A port's own address, MACp_SA. -/
def State.ownAddr (s : State) (p : Nat) : Bytes :=
  beBytes 2 (s.get (Reg.MAC_SA_HI.ADDR_HI.ix p)) ++ beBytes 4 (s.get (Reg.MAC_SA_LO.ADDR_LO.ix p))

/-- A unicast frame addressed to this node. -/
def State.toUs (s : State) (p : Nat) (bs : Bytes) : Bool :=
  !isGroup bs && (dstOf bs == s.ownAddr p || (List.range 16).any fun k =>
    s.flag (Reg.MAC_UCAST_HI.EN.ix2 p k) && s.get (Reg.MAC_UCAST_HI.ADDR_HI.ix2 p k) == (addrWords (dstOf bs)).1 &&
    s.get (Reg.MAC_UCAST_LO.ADDR_LO.ix2 p k) == (addrWords (dstOf bs)).2)

/-- HSR forwarding of a tagged frame to the other S port (R183); a PTP message carrying the tag is counted in PTP_TC_HSR_PASS
(R210). A frame that the forwarding FIFO has no room for is not forwarded: it counts nowhere and a later copy may still go. -/
def State.hsrForward (s : State) (p : Nat) (bs : Bytes) (seq : Nat) : State :=
  let o := if p = 4 then 5 else 4
  let dir := if p = 4 then 1 else 2
  let q := 2 * bitsOf (s.get Reg.MACS0_RED_CFG.PCP_MAP) (2 * (viewOf bs).pcp) 2
  if s.toUs 4 bs ∨ s.dupKnown dir (srcOf bs) seq ∨ !s.hsrRoom o q bs.length then s
  else
    let s1 := (s.dupEnter dir (srcOf bs) seq).count (Reg.MAC.RED_HSR_FWD.ix 4)
    let s2 := if (ptpAt (withoutHsr bs)).isSome then s1.count Reg.PTP_TC_HSR_PASS.HSR_PASS else s1
    s2.hsrPut o q { src := .hsr, bytes := bs }

/-- The transparent clock (R209, R210): an untagged PTP message that is no peer-delay message goes to queue 7 of the other S
port. -/
def State.tcForward (s : State) (p : Nat) (f : RxFrame) : State :=
  if (p = 4 ∨ p = 5) ∧ s.flag Reg.PTP_TC_CTL.EN ∧ s.redMode ≠ 1 ∧ !(viewOf f.bytes).tagged then
    match ptpAt f.bytes with
    | none => s
    | some o =>
      if ptpPeer f.bytes o then s
      else
        let out := if p = 4 then 5 else 4
        if 256 < f.bytes.length ∨ !s.hasRoom out 7 then s.count Reg.PTP_TC_DROP.DROP
        else (s.enqueue out 7 { src := .tc, bytes := f.bytes, ingress := f.stamp }).count Reg.PTP_TC_FWD.FWD
  else s

/-- A good frame at a station port of the redundant pair, or at any other port. DESIGN CHOICE (log entry 112): RED_WRONG_LAN counts a
frame that the address and VLAN filters have passed. -/
def State.rxGood (s : State) (p : Nat) (f : RxFrame) : State :=
  let bs := f.bytes
  let plain (s : State) : State := s.filtered p bs fun s => s.rxPlace p f bs true
  if p ≠ 4 ∧ p ≠ 5 then plain s
  else if s.redMode = 1 ∧ (ptpAt bs).isNone then
    match prpTrailer bs with
    | none => plain s
    | some (seq, lan) =>
      s.filtered p bs fun s =>
        let s1 := if lan = (if p = 4 then 0xA else 0xB) then s else s.count (Reg.MAC.RED_WRONG_LAN.ix 4)
        s1.dedupe p f (srcOf bs) seq (bs.take (bs.length - 6))
  else if s.redMode = 2 then
    match hsrTag bs with
    | none => plain s
    | some (_, seq) =>
      if srcOf bs = s.ownAddr p then s.count (Reg.MAC.RED_HSR_OWN.ix 4)
      else
        let s1 := s.hsrForward p bs seq
        s1.filtered p bs fun s => s.dedupe p f (srcOf bs) seq (withoutHsr bs)
  else plain s

/-- A bad frame that had been classified to an ingress queue before its checks ended (R153, R168); under HSR its tag has been taken off, and
one from the port's own address never gets there (R183). -/
def State.rxBad (s : State) (p : Nat) (f : RxFrame) : State :=
  let tagged := (p == 4 || p == 5) && s.redMode == 2 && (hsrTag f.bytes).isSome
  let bs := if tagged then withoutHsr f.bytes else f.bytes
  if s.addrFilter (s.cfgPort p) bs ∧ s.vlanFilter (s.cfgPort p) bs ∧ (viewOf bs).etype ≠ 0x8808 ∧
      !(tagged && srcOf bs == s.ownAddr p) then
    s.rxPlace p f bs false
  else s

/-- A frame that ends at a running port: the checks of R153 in order, PAUSE, then delivery. -/
def State.rxFrame (s : State) (p : Nat) (f : RxFrame) : State :=
  let len := f.bytes.length + 4
  if !f.sfdOk then s
  else
    let s := s.count (Reg.MAC.RX_FRAG.ix p) f.fragments
    if !f.assembled then s.count (Reg.MAC.RX_ASSY_ERR.ix p)
    else if len < 64 ∨ s.get (Reg.MAC_MAXLEN.LEN.ix p) < len then (s.count (Reg.MAC.RX_LEN_ERR.ix p)).rxBad p f
    else if !f.fcsOk then (s.count (Reg.MAC.RX_FCS_ERR.ix p)).rxBad p f
    else
      let s := (s.count (Reg.MAC.RX_FRAMES.ix p)).count (Reg.MAC.RX_OCTETS.ix p) len
      if (viewOf f.bytes).etype = 0x8808 then s.count (Reg.MAC.RX_PAUSE.ix p)
      else (s.tcForward p f).rxGood p f

/-- RS-FEC's counts on an F port that uses it (R151, R186). -/
def State.fecCount (s : State) (p : Nat) (f : RxFrame) : State :=
  if p < 4 ∧ s.flag (Reg.MAC_CTL.FEC_EN.ix p) ∧ s.get (Reg.MAC_CTL.MODE.ix p) = 0 then
    (s.count (Reg.MAC.FEC_CORRECTED.ix p) f.fecCorrected).count (Reg.MAC.FEC_UNCORRECTABLE.ix p) f.fecFailed
  else s

/-- FRAME_RECEIVE at a port that runs, or that ledger step 12 has brought up to receive only (R78). A verify mPacket is answered and a respond
mPacket ends a verification (R177); fragments need preemption enabled. F and S ports stamp by their TDC channel (R201). -/
def execFrameReceive (p : Nat) (f : RxFrame) (s : State) : Out :=
  .next (
    let s := s.moveTo f.stamp
    let f := { f with stamp := if p < 6 then s.tdcStamp (12 + 2 * p) f.stamp f.code else f.stamp }
    if !s.portOn p && !bitAt s.boot.timing p then s
    else
    let s := s.fecCount p f
    match f.kind with
    | .verify => if s.flag (Reg.MAC_PREEMPT.EN.ix p) ∧ p < 6 then s.emit (.mpacket p true) else s
    | .respond => if s.get (Reg.MAC_STATUS.VERIFY.ix p) = 1 then s.set (Reg.MAC_STATUS.VERIFY.ix p) 2 else s
    | .data =>
      if f.fragments ≠ 0 ∧ !s.flag (Reg.MAC_PREEMPT.EN.ix p) then s else s.rxFrame p f)

end Sys2Proof.Machine
end

