-- ==== Sys2Proof/Machine/Egress.lean ====
section
/-! DEFINITION. Frames on their way out: UDP datagrams that the device builds (R296, R383), the Saucer's checks (R388 to R393), and the
offering of ring frames and output-stream frames to the transmit queues (R174, R175, R180, R298). -/

namespace Sys2Proof.Machine

/-! ### Frames built by the device -/

/-- Addresses and markings of a datagram. -/
structure UdpHead where
  v6 : Bool
  dstMac : Bytes
  srcMac : Bytes
  /-- VLAN TCI; 0xFFFF untagged -/
  tci : Nat
  dscp : Nat
  ttl : Nat
  ident : Nat
  srcIp : Bytes
  dstIp : Bytes
  srcPort : Nat
  dstPort : Nat
  deriving DecidableEq, Repr

/-- The UDP header and payload, its checksum over the pseudo-header computed; a zero checksum is sent as 0xFFFF. -/
def UdpHead.udp (h : UdpHead) (payload : Bytes) : Bytes :=
  let len := 8 + payload.length
  let head := beBytes 2 h.srcPort ++ beBytes 2 h.dstPort ++ beBytes 2 len
  let pseudo := h.srcIp ++ h.dstIp ++ (if h.v6 then beBytes 4 len ++ beBytes 4 17 else beBytes 2 17 ++ beBytes 2 len)
  let c := checksum (pseudo ++ head ++ [0, 0] ++ payload)
  head ++ beBytes 2 (if c = 0 then 0xFFFF else c) ++ payload

/-- The IP header with DF set (an IPv6 header has no such bit). -/
def UdpHead.ip (h : UdpHead) (udp : Bytes) : Bytes :=
  if h.v6 then beBytes 4 (0x60000000 + h.dscp * 2 ^ 22) ++ beBytes 2 udp.length ++ beBytes 1 17 ++ beBytes 1 h.ttl ++ h.srcIp ++ h.dstIp ++ udp
  else
    let a := beBytes 1 0x45 ++ beBytes 1 (4 * h.dscp) ++ beBytes 2 (20 + udp.length) ++ beBytes 2 h.ident ++ beBytes 2 0x4000 ++
      beBytes 1 h.ttl ++ beBytes 1 17
    a ++ beBytes 2 (checksum (a ++ [0, 0] ++ h.srcIp ++ h.dstIp)) ++ h.srcIp ++ h.dstIp ++ udp

/-- The whole frame without FCS. -/
def UdpHead.frame (h : UdpHead) (payload : Bytes) : Bytes :=
  h.dstMac ++ h.srcMac ++ (if h.tci = 0xFFFF then [] else beBytes 2 0x8100 ++ beBytes 2 h.tci) ++
  beBytes 2 (if h.v6 then 0x86DD else 0x0800) ++ h.ip (h.udp payload)

/-- An address of a record: IPv4 in bytes 0 to 3, IPv6 in all 16. -/
def ipAt (b : Bytes) (off : Nat) (v6 : Bool) : Bytes := slice b off (if v6 then 16 else 4)

/-- The port's source address (MACp_SA; under PRP or HSR that of S0). -/
def State.srcMac (s : State) (p : Nat) : Bytes := s.ownAddr (s.cfgPort p)

/-- One byte into CRC-CCITT (polynomial 0x1021). -/
def crcCcittByte (c : Nat) (b : Byte) : Nat :=
  (List.range 8).foldl (fun c _ => if c / 32768 = 1 then Nat.xor (c * 2 % 65536) 0x1021 else c * 2 % 65536) (Nat.xor c (b.toNat * 256))

/-- CHK of a C37.118 frame: CRC-CCITT, initial value 0xFFFF. -/
def chk (bs : Bytes) : Nat := bs.foldl crcCcittByte 0xFFFF

/-- A C37.118 data frame around its blocks: SYNC, FRAMESIZE, IDCODE, SOC, FRACSEC, CHK. -/
def c37Frame (idcode soc fracsec : Nat) (blocks : Bytes) : Bytes :=
  let b := beBytes 2 0xAA02 ++ beBytes 2 (16 + blocks.length) ++ beBytes 2 idcode ++ beBytes 4 soc ++ beBytes 4 fracsec ++ blocks
  b ++ beBytes 2 (chk b)

/-- SOC and FRACSEC of an instant (R218, R296): the fraction rounded to TIME_BASE units, held below TIME_BASE. -/
def State.socFrac (s : State) (t : Tai) (timeBase tq : Nat) : Nat × Nat :=
  let ns : Rat := (t % secUnit : Nat) / (nsUnit : Rat)
  let f := (ns * (timeBase : Rat) / 1000000000 + 1 / 2).floor.toNat
  (s.soc t, 2 ^ 28 * s.leapBits t + 2 ^ 24 * (tq % 16) + min f (timeBase - 1))

/-! ### The Saucer (R388 to R394) -/

/-- A TYPE 2 record of SAU_LIMITS: RATE and BURST of a port and queue. -/
def Roast.bucket (r : Roast) (p q : Nat) : Nat × Nat :=
  match (r.recs 0x58).find? fun b => leAt b 0 1 == 2 && leAt b 1 1 == p && leAt b 2 1 == q with
  | some b => (leAt b 4 4, leAt b 8 4)
  | none => (0, 0)

/-- PLS_MAX k, in 0.01 pulses/s. -/
def Roast.plsMax (r : Roast) (k : Nat) : Nat :=
  match (r.recs 0x58).find? fun b => leAt b 0 1 == 1 with
  | some b => leAt b (4 + 2 * k) 2
  | none => 0

/-- A bucket's level now: full until it is first used. -/
def State.bucketLevel (s : State) (p q : Nat) : Nat :=
  let rb := s.roast.bucket p q
  match alookup (p, q) s.sau.buckets with
  | none => rb.2 * secUnit
  | some (l, at_) => min (rb.2 * secUnit) (l + rb.1 * (s.time.elapsed - at_))

/-- What the allowlist reads of an IP packet: version 6, protocol, destination address, destination port of TCP or UDP. -/
structure IpView where
  v6 : Bool
  proto : Nat
  dst : Bytes
  port : Option Nat
  deriving DecidableEq, Repr

/-- The upper-layer protocol of an IPv6 packet and its offset; none for a later fragment's. -/
def ipv6Upper (bs : Bytes) : Nat → Nat → Nat → Nat × Option Nat
  | 0, nh, off => (nh, some off)
  | n + 1, nh, off =>
    if nh = 0 ∨ nh = 43 ∨ nh = 60 then ipv6Upper bs n (beAt bs off 1) (off + 8 * (beAt bs (off + 1) 1 + 1))
    else if nh = 44 then
      (if beAt bs (off + 2) 2 / 8 = 0 then ipv6Upper bs n (beAt bs off 1) (off + 8) else (beAt bs off 1, none))
    else (nh, some off)

/-- A frame's IP packet. -/
def ipOf (bs : Bytes) : Option IpView :=
  let v := viewOf bs
  if v.etype = 0x0800 ∧ beAt bs v.off 1 / 16 = 4 then
    let pr := beAt bs (v.off + 9) 1
    some { v6 := false, proto := pr, dst := slice bs (v.off + 16) 4
           port := if (pr = 6 ∨ pr = 17) ∧ beAt bs (v.off + 6) 2 % 0x2000 = 0 then
             some (beAt bs (v.off + 4 * (beAt bs v.off 1 % 16) + 2) 2) else none }
  else if v.etype = 0x86DD then
    let u := ipv6Upper bs 8 (beAt bs (v.off + 6) 1) (v.off + 40)
    some { v6 := true, proto := u.1, dst := slice bs (v.off + 24) 16
           port := if u.1 = 6 ∨ u.1 = 17 then u.2.map fun o => beAt bs (o + 2) 2 else none }
  else none

/-- Whether two addresses share their first `n` bits. -/
def sharePrefix (n : Nat) (a b : Bytes) : Bool :=
  let w := 8 * a.length
  decide (n ≤ w) && beVal a / 2 ^ (w - n) == beVal (b.take a.length) / 2 ^ (w - n)

/-- A TYPE 3 record matches a frame on a port (R390). -/
def allowMatch (b : Bytes) (p : Nat) (bs : Bytes) : Bool :=
  let v := viewOf bs
  let ver := leAt b 0x11 1
  let pre := leAt b 0x28 1
  let ip := ipOf bs
  bitAt (leAt b 1 1) p &&
  (leAt b 2 2 == 0 || leAt b 2 2 == v.etype) &&
  Nat.land (beVal (dstOf bs)) (beAt b 0xA 6) == beAt b 4 6 &&
  (leAt b 0x16 2 == 0xFFFF || (v.tagged && v.vid == leAt b 0x16 2)) &&
  (ver == 0 || match ip with
    | some i => i.v6 == (ver == 6) && (leAt b 0x10 1 == 0 || leAt b 0x10 1 == i.proto)
    | none => false) &&
  (pre == 0 || match ip with
    | some i => sharePrefix pre i.dst (slice b 0x18 16)
    | none => false) &&
  (match ip with
    | some i => if i.proto = 6 ∨ i.proto = 17 then
        match i.port with
        | some d => decide (leAt b 0x12 2 ≤ d) && decide (d ≤ leAt b 0x14 2)
        | none => false
      else true
    | none => true)

/-- Bytes a frame takes from its bucket (R391). -/
def bucketCost (len : Nat) : Nat := max len 60 + 4

/-- The queue whose bucket a frame uses: 7 for the port's PTP ring. -/
def TxSrc.bucketQueue (src : TxSrc) (q : Nat) : Nat := match src with | .ptp _ => 7 | _ => q

/-- A frame from a ring, which alone is checked for grandmaster messages (R392). -/
def TxSrc.isRing (src : TxSrc) : Bool := src.ring?.isSome

/-- The reason a frame is refused with (R389 to R392), or none. -/
def State.saucerReason (s : State) (p q len : Nat) (f : TxFrame) : Option Nat :=
  let bs := f.bytes
  if len < 14 ∨ s.get (Reg.MAC_MAXLEN.LEN.ix (s.cfgPort p)) - 4 < len then some 3
  else if slice bs 6 6 ≠ s.srcMac p then some 2
  else if f.src.isRing && !s.flag Reg.SAU_STATUS.GM_PERMIT && (match ptpAt bs with
      | some o => decide (ptpType bs o = 0 ∨ ptpType bs o = 8 ∨ ptpType bs o = 9 ∨ ptpType bs o = 11)
      | none => false) then some 4
  else if (match f.src with | .ptp _ => decide (256 < len) | _ => false) ||
      !((s.roast.recs 0x58).any fun b => leAt b 0 1 == 3 && allowMatch b p bs) then some 1
  else if s.bucketLevel p (f.src.bucketQueue q) < bucketCost len * secUnit then some 0
  else none

/-- SOURCE and INDEX of SAU_LAST. -/
def TxSrc.lastCode : TxSrc → Nat × Nat
  | .ring _ r => (r, 0)
  | .ptp _ => (4, 0)
  | .ostream k => (5, k)
  | _ => (0, 0)

/-- A refusal's counters, interrupt, register and event (R389). -/
def State.refuse (s : State) (p reason : Nat) (f : TxFrame) : State :=
  let s1 := (s.count (Reg.SAU.REFUSE.ix2 p reason)).irq Reg.SAU_IRQ.REFUSED Reg.SAU_IRQ_MASK.MASK 73
  let s2 := { s1 with sau := { s1.sau with refused := true } }
  let s3 := if s2.flag Reg.SAU_LAST.VALID then s2
    else (((((s2.set Reg.SAU_LAST.PORT p).set Reg.SAU_LAST.REASON reason).set Reg.SAU_LAST.SOURCE f.src.lastCode.1).set
      Reg.SAU_LAST.INDEX f.src.lastCode.2).setFlag Reg.SAU_LAST.VALID true)
  let s4 := s3.log (evCode 6 0) p []
  match f.src with
  | .ostream k => s4.count (Reg.ALN.OUT_DROP.ix k)
  | _ => s4.frameDone f false true none

/-- A frame offered to a queue: checked, then sent or refused. `len` is the length its descriptor states. -/
def State.offer (s : State) (p q len : Nat) (f : TxFrame) : State :=
  match s.saucerReason p q len f with
  | some r => s.refuse p r f
  | none =>
    let bq := f.src.bucketQueue q
    let s1 := { s with sau := { s.sau with
      buckets := aset (p, bq) (s.bucketLevel p bq - bucketCost len * secUnit, s.time.elapsed) s.sau.buckets } }
    match f.src with
    | .ostream k => (s1.count (Reg.ALN.OUT_SENT.ix k)).send p q f
    | _ => s1.send p q f

/-- GM_PERMIT and GM_ROAST follow the fuse and the active roast (R192, R392); `allowed` is GM_ALLOWED of its TIME_REF. -/
def State.showGm (s : State) (allowed : Bool) : State :=
  (s.setFlag Reg.SAU_STATUS.GM_ROAST allowed).setFlag Reg.SAU_STATUS.GM_PERMIT (allowed && s.flag Reg.SAU_STATUS.GM_FUSE)

/-- Buckets after a roast swap: levels kept, held to the new BURST. -/
def State.cutBuckets (s : State) (new : Roast) : State :=
  { s with sau := { s.sau with buckets := s.sau.buckets.map fun e =>
    (e.1, min (s.bucketLevel e.1.1 e.1.2) ((new.bucket e.1.1 e.1.2).2 * secUnit), s.time.elapsed) } }

/-! ### Offering frames (R174, R175, R180, R207, R298) -/

/-- The frame at the head of a transmit or PTP ring, as the device reads it, is offered to its queue; while the queue is full it
waits. Queue 7 never makes a frame wait. -/
def State.offerRing (s : State) (r : Ring) (bytes : Bytes) (word : Nat) : State :=
  let go (p q : Nat) (src : TxSrc) : State :=
    let len := word % 2 ^ 14
    let f : TxFrame := { src := src, bytes := bytes.take len, tsReq := bitAt word 16
                         oneStep := bitAt word 17 && q == 7, descAddr := s.descAt r 0, descWord := word }
    if !s.blockRuns (.ring r) || s.ringAvail r == 0 || !s.blockRuns (.port p) then s
    else if q ≠ 7 ∧ !s.txRoom p q f then s
    else (s.ringTake r 1).offer p q len f
  match r with
  | .tx p k => go p (s.get (Reg.MAC_TXRING.QUEUE.ix2 p k)) (.ring p k)
  | .ptp p => go p 7 (.ptp p)
  | _ => s

/-- A released output frame whose hold has passed is offered to its queue, or waits for room. -/
def State.offerHeld (s : State) (x : Nat × Nat × Bytes × Tai) : State :=
  match s.roast.outRec x.1 with
  | none => { s with sch := { s.sch with outHeld := s.sch.outHeld.filter (· != x) } }
  | some b =>
    let p := leAt b 2 1
    let f : TxFrame := { src := .ostream x.1, bytes := x.2.2.1 }
    if s.time.tai < x.2.2.2 ∨ !s.txRoom p (leAt b 3 1) f then s
    else ({ s with sch := { s.sch with outHeld := s.sch.outHeld.filter (· != x) } }).offer p (leAt b 3 1) x.2.2.1.length f

/-- OUTPUT_HOLD_EXPIRY (R298): released UDP frames whose C_n + HOLD_US has passed enter their port queues. -/
def execOutputHoldExpiry (t : Tai) (s : State) : Out := .next (let s := s.moveTo t; s.sch.outHeld.foldl State.offerHeld s)

/-- TX_FRAME_OFFER (R388): a ring's head frame, or the frames of an output stream that waited for room. -/
def execTxFrameOffer (t : Tai) (o : TxOffer) (s : State) : Out :=
  .next (
    let s := s.moveTo t
    match o with
    | .ring r bytes word => s.offerRing r bytes word
    | .output k => (s.sch.outHeld.filter fun x => x.1 == k).foldl State.offerHeld s)

end Sys2Proof.Machine
end

