-- ==== Sys2Proof/Machine/Topology.lean ====
section
/-! DEFINITION. The topology and island engines (R351 to R373). -/

namespace Sys2Proof.Machine

/-! ### TOPO_GRAPH and ISL_AREA (R371, R372) -/

/-- Record 0 of TOPO_GRAPH. -/
def Roast.topoHead (r : Roast) : Bytes := r.recAt 0x40 0
/-- NNODE. -/
def Roast.nnode (r : Roast) : Nat := leAt r.topoHead 4 4
/-- NSW. -/
def Roast.nsw (r : Roast) : Nat := leAt r.topoHead 8 4
/-- NCLASS. -/
def Roast.nclass (r : Roast) : Nat := leAt r.topoHead 0xC 1
/-- REF_NODE. -/
def Roast.refNode (r : Roast) : Nat := leAt r.topoHead 0xE 2
/-- ISLAND_MIN_NODES. -/
def Roast.islandMin (r : Roast) : Nat := leAt r.topoHead 0x10 4
/-- Node record j. -/
def Roast.nodeRec (r : Roast) (j : Nat) : Bytes := r.recAt 0x40 (1 + j)
/-- Device record k. -/
def Roast.devRec (r : Roast) (k : Nat) : Bytes := r.recAt 0x40 (1 + r.nnode + k)
/-- Class record b. -/
def Roast.classRec (r : Roast) (b : Nat) : Bytes := r.recAt 0x40 (1 + r.nnode + r.nsw + b)
/-- NODE_A of a device record. -/
def devA (b : Bytes) : Nat := leAt b 4 2
/-- NODE_B. -/
def devB (b : Bytes) : Nat := leAt b 6 2
/-- CARRY_KEY of a device record. -/
def devKey (b : Bytes) : Bytes := slice b 0x18 8
/-- R_T, the connectivity rounds (R357). -/
def Roast.rounds (r : Roast) : Nat := 2 * (if r.nnode ≤ 1 then 0 else Nat.log2 (r.nnode - 1) + 1) + 2
/-- The TYPE 1 record of area a. -/
def Roast.areaRec (r : Roast) (a : Nat) : Option Bytes := (r.recs 0x41).find? fun b => leAt b 0 1 == 1 && leAt b 1 1 == a
/-- The TYPE 2 records, pair 0 first. -/
def Roast.pairRecs (r : Roast) : List Bytes := (r.recs 0x41).filter fun b => leAt b 0 1 == 2
/-- CARRY_KEY of a pair record. -/
def pairKey (b : Bytes) : Bytes := slice b 0xF8 8

/-! ### Switch status (R352 to R355) -/

/-- A source's reading: 0 OPEN, 1 CLOSED, 2 UNKNOWN, with the flags it contributes to the STATE word, and its point's stNum. -/
structure Reading where
  val : Nat := 2
  test : Bool := false
  stale : Bool := false
  mismatch : Bool := false
  st : Option Nat := none
  deriving DecidableEq, Repr

/-- A GOOSE source (R353). -/
def gooseReading (testOk : Bool) (p : Option GoosePoint) : Reading :=
  match p with
  | none => {}
  | some g =>
    let bad := g.validity != 0 || (g.test && !testOk) || g.stale || g.mismatch
    { val := if bad then 2 else if g.pos = 2 then 1 else if g.pos = 1 then 0 else 2
      test := g.test, stale := g.stale, mismatch := g.mismatch, st := some g.stNum }

/-- A PMU source (R354). -/
def pmuReading (x : Slice) (testOk subst : Bool) (slot bits : Nat) : Reading :=
  let w := x.word slot
  let c := bitsOf bits 0 4
  let o := bitsOf bits 4 4
  let double := bitAt bits 8
  let q := (x.slot slot).q
  let valid (b : Nat) : Bool := bitAt w (16 + b)
  let ok := qUsable testOk subst q && valid c && (!double || valid o)
  let v := if !ok then 2
    else if double then (if bitAt w c && !bitAt w o then 1 else if !bitAt w c && bitAt w o then 0 else 2)
    else if bitAt w c != bitAt bits 9 then 1 else 0
  { val := v, test := qSubst q == 0 && qTest q }

/-- A device's source (R352); `k` is its kind. -/
def Run.reading (r : Run) (x : Slice) (testOk subst : Bool) (k index bits : Nat) : Reading :=
  if k = 1 then { val := 1 }
  else if k = 2 then gooseReading testOk (alookup index r.points)
  else if k = 3 then pmuReading x testOk subst index bits
  else {}

/-- The override that governs a device (R355, R356): the lowest enabled entry that names it with state 1 or 2. -/
def State.override (s : State) (k : Nat) : Option Bool :=
  ((List.range 256).find? fun i =>
    s.flag (Reg.ISL_OVR.EN.ix i) && s.get (Reg.ISL_OVR.DEVICE.ix i) == k &&
    (s.get (Reg.ISL_OVR.STATE.ix i) == 1 || s.get (Reg.ISL_OVR.STATE.ix i) == 2)).map fun i => s.get (Reg.ISL_OVR.STATE.ix i) == 2

/-- A device's state in a slice: its STATE word and what is kept of it. -/
structure DevOut where
  word : Nat
  mem : DevMem
  deriving DecidableEq, Repr

/-- TRANSIENT: a point's stNum has advanced by 2 or more since the previous slice's snapshot (R353). -/
def advanced (before now : Option Nat) : Bool :=
  match before, now with
  | some a, some b => decide (a + 2 ≤ b)
  | _, _ => false

/-- The resolved state of a device (R355): `tileBad` makes both sources UNKNOWN (R363) and the record's entries zero (R141). -/
def resolve (b : Bytes) (r1 r2 : Reading) (ovr : Option Bool) (tileBad : Bool) (m : DevMem) : DevOut :=
  let r1 := if tileBad then {} else r1
  let r2 := if tileBad then {} else r2
  let flags := if tileBad then 0 else leAt b 3 1
  let as_ := bitsOf flags 2 2
  let row : Nat := if ovr.isSome then 1 else if r1.val ≠ 2 then 2 else if r2.val ≠ 2 then 3 else if as_ = 0 then 4 else 5
  let closed : Bool := match ovr with
    | some c => c
    | none =>
      if row = 2 then r1.val == 1 else if row = 3 then r2.val == 1
      else if row = 4 then m.known.getD (bitAt flags 4) else as_ == 2
  let held := row == 4 || row == 5
  let transient := advanced m.st1 r1.st || advanced m.st2 r2.st
  let word := b2n closed + 4 * r1.val + 16 * r2.val + 2 ^ 6 * b2n (row == 1) + 2 ^ 7 * b2n held +
    2 ^ 8 * b2n (row == 2 && r2.val != 2 && r1.val != r2.val) + 2 ^ 9 * b2n (row == 3) + 2 ^ 10 * b2n transient +
    2 ^ 11 * b2n (r1.test || r2.test) + 2 ^ 12 * b2n (r1.stale || r2.stale) + 2 ^ 13 * b2n (r1.mismatch || r2.mismatch) +
    2 ^ 14 * b2n tileBad
  { word := word
    mem := { known := if row = 2 ∨ row = 3 then some closed else m.known, st1 := if tileBad then m.st1 else r1.st,
             st2 := if tileBad then m.st2 else r2.st, held := held } }

/-- Every device's state in a run's slice (step 1 of R357); `bad` are the tiles delivered BAD. -/
def State.resolveAll (s : State) (r : Run) (bad : List Nat) : List DevOut :=
  let ro := s.runRoast r
  let c := s.cfgOf r
  let x := s.sliceAt r.n
  (List.range ro.nsw).map fun k =>
    let b := ro.devRec k
    let testOk := bitAt (leAt b 3 1) 0
    let subst := bitAt (leAt b 3 1) 1
    resolve b (r.reading x testOk subst (leAt b 1 1) (leAt b 8 4) (leAt b 0xC 2))
      (r.reading x testOk subst (leAt b 2 1) (leAt b 0x10 4) (leAt b 0x14 2))
      (c.override k) (ro.recBad bad 0x40 (1 + ro.nnode + k)) ((alookup k s.isl.devs).getD {})

/-! ### Connectivity (R357 to R362) -/

/-- Two components joined: every node of the higher label takes the lower one. -/
def relabel (ls : List Nat) (a b : Nat) : List Nat :=
  let x := (ls[a]?).getD a
  let y := (ls[b]?).getD b
  ls.map fun l => if l = max x y then min x y else l

/-- The label of every node, the smallest node index of its component (R358). -/
def labelsOf (nnode : Nat) (closed : List (Nat × Nat)) : List Nat :=
  closed.foldl (fun ls e => relabel ls e.1 e.2) (List.range nnode)

/-- A node is live (R360). -/
def nodeLive (x : Slice) (b : Bytes) : Bool :=
  let f := leAt b 1 1
  bitAt f 1 && x.usable (bitAt f 4) (bitAt f 3) (leAt b 4 2) &&
  fLe (BitVec.ofNat 32 (leAt b 8 4)) (cAbs (x.slot (leAt b 4 2)).v)

/-- Σ w·f / Σ w over pairs, in the arithmetic of R309. -/
def weighted (ws : List (F32 × F32)) : F32 := eDiv (eSum (ws.map fun e => eMul e.1 e.2)) (eSum (ws.map (·.1)))

/-- FREQ_NONE. -/
def freqNone : F32 := 0x7FC00030
/-- INVALID. -/
def freqInvalid : F32 := 0x7FC00031

/-- The frequency of a component (R361): the nodes of a label with a usable frequency slot. -/
def Roast.compFreq (ro : Roast) (x : Slice) (labels : List Nat) (l : Nat) : F32 × Nat :=
  let ws := (List.range ro.nnode).filterMap fun j =>
    let b := ro.nodeRec j
    let f := leAt b 1 1
    let w : F32 := BitVec.ofNat 32 (leAt b 0xC 4)
    if labels[j]? = some l ∧ bitAt f 2 ∧ fLt fZero w ∧ x.usable (bitAt f 4) (bitAt f 3) (leAt b 6 2) then
      some (w, x.real (leAt b 6 2)) else none
  if ws.isEmpty then (freqNone, 0) else (weighted ws, ws.length)

/-- A class bit (R362). -/
def Roast.classBit (ro : Roast) (closed : List Bool) (labels energised : List Nat) (b : Nat) : Bool :=
  let c := ro.classRec b
  let item (i : Nat) : Nat := leAt c (4 + 3 * i) 2
  let v : Bool :=
    if leAt c 1 1 = 1 then
      (List.range (leAt c 2 1)).all fun i => (closed[item i]?).getD false == (leAt c (6 + 3 * i) 1 == 1)
    else if leAt c 1 1 = 2 then labels[item 0]? == labels[item 1]?
    else match labels[item 0]? with
      | some l => energised.contains l
      | none => false
  decide (b < ro.nclass) && (v != bitAt (leAt c 3 1) 0)

/-- The topology result from the devices' states. -/
def Roast.topoOf (ro : Roast) (x : Slice) (outs : List DevOut) (valid : Bool) : Topo :=
  let closed := outs.map fun d => bitAt d.word 0
  let edges := (List.range ro.nsw).filterMap fun k =>
    if (closed[k]?).getD false then some (devA (ro.devRec k), devB (ro.devRec k)) else none
  let labels := labelsOf ro.nnode edges
  let live := (List.range ro.nnode).map fun j => nodeLive x (ro.nodeRec j)
  let energised := ((List.range ro.nnode).filterMap fun j =>
    if bitAt (leAt (ro.nodeRec j) 1 1) 0 || (live[j]?).getD false then labels[j]? else none).eraseDups
  let all := labels.eraseDups
  { n := x.n, valid := valid, devs := outs.map (·.word), labels := labels, energised := energised, live := live
    freqs := all.map fun l => (l, ro.compFreq x labels l)
    cls := (List.range 32).foldl (fun a b => a + 2 ^ b * b2n (ro.classBit closed labels energised b)) 0
    mainDead := !(energised.contains ((labels[ro.refNode]?).getD 0)) }

/-- Devices with a bit of their STATE word set. -/
def countBit (outs : List DevOut) (k : Nat) : Nat := (outs.filter fun d => bitAt d.word k).length

/-- Records of a section that lie in BAD tiles. -/
def Roast.badRecords (ro : Roast) (bad : List Nat) (kind : Nat) : Nat :=
  ((List.range (ro.recs kind).length).filter fun i => ro.recBad bad kind i).length

/-- The status step's effects: what is kept of the devices, the counts, the interrupts (R355). -/
def State.statusDone (s : State) (outs : List DevOut) : State :=
  let newHeld := ((List.range outs.length).any fun k =>
    match outs[k]? with
    | some d => d.mem.held && !((alookup k s.isl.devs).getD {}).held
    | none => false)
  let s1 := { s with isl := { s.isl with
    devs := (List.range outs.length).filterMap fun k => (outs[k]?).map fun (d : DevOut) => (k, d.mem)
    words := outs.map DevOut.word } }
  let s2 := ((s1.count Reg.ISL.DISAGREE (countBit outs 8)).count Reg.ISL.HELD (countBit outs 7)).count Reg.ISL.OVERRIDE_USE (countBit outs 6)
  let s3 := if 0 < countBit outs 8 then s2.irq Reg.ISL_IRQ.DISAGREE Reg.ISL_IRQ_MASK.MASK 64 else s2
  if newHeld then s3.irq Reg.ISL_IRQ.UNKNOWN Reg.ISL_IRQ_MASK.MASK 64 else s3

/-- A valid topology result takes its place (R360, R362). -/
def State.topoValid (s : State) (t : Topo) : State :=
  let changed := match s.isl.topo with
    | some o => o.cls != t.cls
    | none => false
  let s1 := ({ s with isl := { s.isl with topo := some t, topoSlice := some t.n, stale := false } }.count Reg.ISL.TOPO_VALID_CNT)
  let s2 := (((((s1.set Reg.ISL_TOPO_CLASS.T t.cls).setFlag Reg.ISL_STATUS.TOPO_VALID true).setFlag Reg.ISL_STATUS.MAIN_DEAD t.mainDead).set
    Reg.ISL_COMPONENTS.ALL t.freqs.length).set Reg.ISL_COMPONENTS.ENERGISED t.energised.length)
  if changed then (s2.count Reg.ISL.CLASS_CHANGES).irq Reg.ISL_IRQ.CLASS_CHG Reg.ISL_IRQ_MASK.MASK 64 else s2

/-- An invalid one (R363): outputs keep the values of the latest valid result and are marked TOPO_STALE. -/
def State.topoInvalid (s : State) (n : Nat) : State :=
  ({ s with isl := { s.isl with topoSlice := some n, stale := true } }.count Reg.ISL.TOPO_INVALID).setFlag
    Reg.ISL_STATUS.TOPO_VALID false

/-- A device failed the check of R359. -/
def State.convergeErr (s : State) (k : Nat) : State :=
  (((s.set Reg.ISL_STATUS.ERR_DEV k).count Reg.ISL.CONVERGE_ERR).irq Reg.ISL_IRQ.CONVERGE_ERR Reg.ISL_IRQ_MASK.MASK 64).log
    (evCode 16 0) 0 (leBytes 2 k)

/-- The run with the topology that its later stages read: its own valid result, or the latest valid one before it (R306, R363). -/
def State.runTopo (s : State) (n : Nat) (t : Topo) : State :=
  { s with runs := s.runs.map fun r => if r.n = n then { r with topo := some t } else r }

/-- The topology stage on a slice. -/
def State.topoStage (s : State) (r : Run) (rep : StageReport) : State :=
  let ro := s.runRoast r
  let d := (s.reading r.region 1).section r.region 0x40 0 true
  let outs := d.s.resolveAll r d.bad
  let valid := d.bad.isEmpty && rep.errDev.isNone
  let t := ro.topoOf (d.s.sliceAt r.n) outs valid
  let s1 := (d.s.statusDone outs).count Reg.ISL.TILE_BAD (ro.badRecords d.bad 0x40)
  let s2 := match rep.errDev with
    | some k => s1.convergeErr k
    | none => s1
  let s3 := if valid then s2.topoValid t else s2.topoInvalid r.n
  let eff := if valid then t else { (s1.isl.topo.getD {}) with n := r.n, valid := false, devs := t.devs }
  ((s3.runTopo r.n eff).tileHealth).stageEnd r 2 rep (if valid then 1 else 2)

/-! ### Island engine (R360, R364 to R369) -/

/-- The code of a frequency word that carries no number (R373). -/
def noFreq (invalid : Bool) : F32 := if invalid then freqInvalid else freqNone

/-- An area's quantities (R364). -/
def areaOut (b : Bytes) (x : Slice) (t : Topo) (bad : Bool) : AreaOut :=
  let subst := bitAt (leAt b 4 1) 0
  let testOk := bitAt (leAt b 4 1) 1
  let ws := (List.range (leAt b 2 1)).filterMap fun i =>
    let slot := leAt b (0x10 + 8 * i) 2
    if x.usable testOk subst slot then some ((BitVec.ofNat 32 (leAt b (0x14 + 8 * i) 4) : F32), x.real slot) else none
  let fOk := decide (leAt b 3 1 ≤ ws.length) && !bad
  let aOk := x.usable testOk subst (leAt b 8 2) && !bad
  let none_ := noFreq (bad || !t.valid)
  let l := (t.labels[leAt b 6 2]?).getD 0
  { f := if fOk then weighted ws else none_, theta := if aOk then cArg (x.slot (leAt b 8 2)).v else none_
    freqOk := fOk, angleOk := aOk, energised := t.energised.contains l, used := ws.length, label := l }

/-- A pair's next record (R365 to R367). Δf carries no number in a slice that does not form it (R373). -/
def pairNext (b : Bytes) (a1 a2 : AreaOut) (stale : Bool) (m : PairMem) : PairMem :=
  let known := a1.freqOk && a2.freqOk && a1.angleOk && a2.angleOk
  let df := fSub a1.f a2.f
  let dth := fWrap (fSub a1.theta a2.theta)
  let uw := match m.fresh, m.prev with
    | false, some p => fAdd m.dth (fWrap (fSub dth p))
    | _, _ => dth
  let div := fLe (BitVec.ofNat 32 (leAt b 4 4)) (fAbs df) || fLe (BitVec.ofNat 32 (leAt b 8 4)) (fAbs uw)
  let m1 := if known then
      { m with df := df, dth := uw, fresh := false, unknown := false, div := m.div.eval (leAt b 0xC 2) (leAt b 0xE 2) div }
    else { m with unknown := true, df := noFreq stale }
  let dead := !a1.energised || !a2.energised
  let sep := !dead && a1.label != a2.label
  let st := if sep && m1.div.on then 2 else if sep then (if m.state = 2 then 2 else 1) else if m1.div.on then 1 else 0
  { m1 with state := st, dyn := st == 1 && !sep, separated := sep, dead := dead, stale := stale, tileBad := false
            fresh := m1.fresh || (st == 0 && m.state != 0), prev := if a1.angleOk && a2.angleOk then some dth else m.prev }

/-- A pair's change of state (R367). -/
def State.pairChanged (s : State) (p old new n : Nat) : State :=
  if old = new then s
  else
    let s1 := (s.irq Reg.ISL_IRQ.PAIR_CHG Reg.ISL_IRQ_MASK.MASK 64).log (evCode 16 1) 0
      (evIndex p ++ leBytes 1 old ++ leBytes 1 new ++ leBytes 8 n)
    if new = 1 then s1.count Reg.ISL.PAIR_SUSPECT else if new = 2 then s1.count Reg.ISL.PAIR_CONFIRMED else s1

/-- One pair of the stage. -/
def State.pairStep (s : State) (ro : Roast) (n : Nat) (stale : Bool) (bad : List Nat) (p : Nat) (b : Bytes) (i : Nat) : State :=
  let m := (alookup p s.isl.pairs).getD {}
  let area (a : Nat) : AreaOut := (alookup a s.isl.areas).getD {}
  let m' := if ro.recBad bad 0x41 i then { m with tileBad := true, stale := stale, df := freqInvalid }
    else pairNext b (area (leAt b 1 1)) (area (leAt b 2 1)) stale m
  let s1 := { s with isl := { s.isl with pairs := aset p m' s.isl.pairs } }
  let j := p / 16
  (s1.set (Reg.ISL_PAIR_STATE.STATE.ix j) (putBits2 (s1.get (Reg.ISL_PAIR_STATE.STATE.ix j)) (p % 16) m'.state)).pairChanged
    p m.state m'.state n
where
  /-- Two bits of a word replaced. -/
  putBits2 (v i x : Nat) : Nat := v - bitsOf v (2 * i) 2 * 2 ^ (2 * i) + x % 4 * 2 ^ (2 * i)

/-- The island list, the main component first, and the island count (R360, R369); empty before the first valid topology result. -/
def Roast.islandList (ro : Roast) (t : Topo) (stale : Bool) : List IslandOut × Nat :=
  let mainL := (t.labels[ro.refNode]?).getD 0
  let size (l : Nat) : Nat := (t.labels.filter (· == l)).length
  let isl := t.energised.filter fun l => l != mainL && decide (ro.islandMin ≤ size l)
  let entry (l : Nat) : IslandOut :=
    let f := (alookup l t.freqs).getD (freqNone, 0)
    { label := l, main := l == mainL, nodes := size l, f := if stale then freqInvalid else f.1, used := f.2 }
  if t.labels.isEmpty then ([], 0) else (((mainL :: isl.mergeSort).take 64).map entry, isl.length)

/-- The island stage on a slice. -/
def State.islandStage (s : State) (r : Run) (rep : StageReport) : State :=
  let ro := s.runRoast r
  let d := (s.reading r.region 2).section r.region 0x41 0 true
  let t := r.topo.getD {}
  let x := d.s.sliceAt r.n
  let stale := !t.valid
  let li := ro.islandList t stale
  let recs := ro.recs 0x41
  let areas := ((List.range recs.length).filterMap fun i =>
    match recs[i]? with
    | some b => if leAt b 0 1 = 1 then some (leAt b 1 1, areaOut b x t (ro.recBad d.bad 0x41 i)) else none
    | none => none)
  let oldL := d.s.isl.islands.map (·.label)
  let chg := decide (d.s.isl.islandCount ≠ li.2) || oldL != li.1.map (·.label)
  let s1 := { d.s with isl := { d.s.isl with areas := areas, islands := li.1, islandCount := li.2, islSlice := some r.n } }
  let s2 := (s1.set Reg.ISL_STATUS.ISLANDS (min 255 li.2)).set Reg.ISL_LAST_SLICE.SLICE r.n
  let s3 := if chg then s2.irq Reg.ISL_IRQ.ISLAND_CHG Reg.ISL_IRQ_MASK.MASK 64 else s2
  let first := (findPos (fun b => leAt b 0 1 == 2) recs).getD recs.length
  let s4 := (List.range (recs.length - first)).foldl (fun s p =>
    s.pairStep ro r.n stale d.bad p ((recs[first + p]?).getD []) (first + p)) s3
  let s5 := (s4.count Reg.ISL.TILE_BAD (ro.badRecords d.bad 0x41)).tileHealth
  let s6 := { s5 with runs := s5.runs.map fun (x : Run) =>
    if x.n = r.n then { x with res := { x.res with pairs := s5.isl.pairs, islandCount := s5.isl.islandCount } } else x }
  s6.stageEnd r 3 rep (if d.bad.isEmpty && !stale then 1 else 2)

/-! ### Roast swap (R370) -/

/-- What the new roast's devices inherit. -/
def State.carryTopo (s : State) (old new : Roast) : State :=
  let devs := (List.range new.nsw).filterMap fun k =>
    (((List.range old.nsw).reverse).find? fun j => devKey (old.devRec j) == devKey (new.devRec k)).bind fun j =>
      (alookup j s.isl.devs).map fun m => (k, m)
  { s with isl := { s.isl with devs := devs } }

/-- R_T of the active roast (R357, R373). -/
def State.showRounds (s : State) : State := s.set Reg.ISL_STATUS.ROUNDS (if s.roast.has 0x40 then s.roast.rounds else 0)

/-- What its pairs inherit. -/
def State.carryPairs (s : State) (old new : Roast) : State :=
  let ps := new.pairRecs
  let pairs := (List.range ps.length).filterMap fun p =>
    (carriedFrom old.pairRecs pairKey ((ps[p]?).getD [])).bind fun j => (alookup j s.isl.pairs).map fun m => (p, m)
  let s1 := { s with isl := { s.isl with pairs := pairs } }
  (List.range 256).foldl (fun s p =>
    let j := p / 16
    let st := ((alookup p pairs).getD {}).state
    s.set (Reg.ISL_PAIR_STATE.STATE.ix j)
      (let v := s.get (Reg.ISL_PAIR_STATE.STATE.ix j); v - bitsOf v (2 * (p % 16)) 2 * 2 ^ (2 * (p % 16)) + st * 2 ^ (2 * (p % 16)))) s1

/-! ### Item windows (R373) -/

/-- The words of a latched item after its slice words. The count of frequency nodes saturates in its field (log entry 126). -/
def State.islWords (s : State) (who : Requester) : IslItem → List Nat
  | .dev =>
    let k := s.get (Reg.ISL_DEV_SEL.DEVICE.of who)
    let b := s.roast.devRec k
    let t := s.isl.topo.getD {}
    if k < s.isl.words.length then
      [(s.isl.words[k]?).getD 0, (t.labels[devA b]?).getD 0 + 2 ^ 16 * (t.labels[devB b]?).getD 0]
    else [0, 0]
  | .node =>
    let j := s.get (Reg.ISL_NODE_SEL.NODE.of who)
    let t := s.isl.topo.getD {}
    match t.labels[j]? with
    | none => if s.isl.stale && decide (j < s.roast.nnode) then [2 ^ 19, freqInvalid.toNat] else [0, 0]
    | some l =>
      let f := if s.isl.stale then freqInvalid else ((alookup l t.freqs).getD (freqNone, 0)).1
      [l + 2 ^ 16 * b2n (t.energised.contains l) + 2 ^ 17 * b2n ((t.live[j]?).getD false) +
        2 ^ 18 * b2n ((t.labels[s.roast.refNode]?) == some l) + 2 ^ 19 * b2n s.isl.stale, f.toNat]
  | .area =>
    let a := (alookup (s.get (Reg.ISL_AREA_SEL.AREA.of who)) s.isl.areas)
    match a with
    | none => [0, 0, 0, 0]
    | some a => [a.f.toNat, a.theta.toNat, b2n a.freqOk + 2 * b2n a.angleOk + 4 * b2n a.energised + 256 * a.used, a.label]
  | .pair =>
    match alookup (s.get (Reg.ISL_PAIR_SEL.PAIR.of who)) s.isl.pairs with
    | none => [0, 0, 0, 0]
    | some m => [m.df.toNat, m.dth.toNat, m.state + 4 * b2n m.dyn + 8 * b2n m.separated + 16 * b2n m.div.on +
        32 * b2n m.unknown + 64 * b2n m.dead + 128 * b2n m.stale + 256 * b2n m.tileBad, m.div.a + 2 ^ 16 * m.div.c]
  | .island =>
    match s.isl.islands[s.get (Reg.ISL_ISLAND_SEL.POS.of who)]? with
    | none => [0, 0, 0, 0]
    | some e => [e.label + 2 ^ 16 * b2n e.main + 2 ^ 17, e.nodes, e.f.toNat, min 255 e.used]

/-- The window's words. -/
def IslItem.word : IslItem → Fld
  | .dev => Reg.ISL_DEV.WORD | .node => Reg.ISL_NODE.WORD | .area => Reg.ISL_AREA.WORD | .pair => Reg.ISL_PAIR.WORD
  | .island => Reg.ISL_ISLAND.WORD

/-- ISL_ITEM_LATCH (R373): a read of word 0 latches every word of the selected item for the latest completed slice. -/
def execIslItemLatch (who : Requester) (item : IslItem) (s : State) : Out :=
  .next (
    let n := match item with
      | .dev => s.isl.topoSlice
      | .node => s.isl.topoSlice
      | _ => s.isl.islSlice
    let ws := match n with
      | some n => [n % 2 ^ 32, n / 2 ^ 32 % 2 ^ 32] ++ s.islWords who item
      | none => List.replicate (2 + (s.islWords who item).length) 0
    (List.range ws.length).foldl (fun s k => s.set ((item.word.ix k).of who) ((ws[k]?).getD 0)) s)

end Sys2Proof.Machine
end

