-- ==== Sys2Proof/Machine/Estimator.lean ====
section
/-! DEFINITION. The linear state estimator (R300 to R323). -/

namespace Sys2Proof.Machine

/-- A complex value in 8 bytes (R10). -/
def cAt (b : Bytes) (off : Nat) : Cpx := { re := BitVec.ofNat 32 (leAt b off 4), im := BitVec.ofNat 32 (leAt b (off + 4) 4) }

/-! ### The model (R300, R321) -/

/-- NNODE. -/
def Roast.lseNodes (r : Roast) : Nat := leAt (r.recAt 0x20 0) 4 4
/-- NMEAS. -/
def Roast.lseRows (r : Roast) : Nat := leAt (r.recAt 0x20 0) 8 4
/-- NGROUP. -/
def Roast.lseGroups (r : Roast) : Nat := leAt (r.recAt 0x20 0) 0xC 1
/-- Node record j. -/
def Roast.lseNode (r : Roast) (j : Nat) : Bytes := r.recAt 0x20 (1 + j)
/-- Row record i. -/
def Roast.lseRow (r : Roast) (i : Nat) : Bytes := r.recAt 0x20 (1 + r.lseNodes + i)
/-- MIN_PRESENT of group g. -/
def Roast.lseMin (r : Roast) (g : Nat) : Nat := leAt (r.recAt 0x20 (1 + r.lseNodes + r.lseRows + g)) 0 4

/-- The nonzeros of a row: node and coefficient (R300). -/
def rowTerms (b : Bytes) : List (Nat × Cpx) :=
  (leAt b 4 2, cAt b 8) :: (if leAt b 6 2 = 0xFFFF then [] else [(leAt b 6 2, cAt b 0x10)])

/-! ### Arithmetic (R309) -/

/-- A complex accumulator. -/
abbrev CAcc := Acc40 × Acc40

/-- Its value rounded once. -/
def cOut (a : CAcc) : Cpx := { re := eOut a.1, im := eOut a.2 }
/-- An accumulator that starts from a value. -/
def cAcc (v : Cpx) : CAcc := (eAdd (.num 0) v.re, eAdd (.num 0) v.im)
/-- Adding a product a·b, from its four real products. -/
def cMac (s : CAcc) (a b : Cpx) : CAcc :=
  (eAdd (eAdd s.1 (eMul a.re b.re)) (fNegate (eMul a.im b.im)), eAdd (eAdd s.2 (eMul a.re b.im)) (eMul a.im b.re))
/-- Negation, exact. -/
def cNeg (a : Cpx) : Cpx := { re := fNegate a.re, im := fNegate a.im }
/-- Subtracting a product. -/
def cMsub (s : CAcc) (a b : Cpx) : CAcc := cMac s (cNeg a) b
/-- A value times a real. -/
def cScale (k : F32) (a : Cpx) : Cpx := { re := eMul k a.re, im := eMul k a.im }

/-- H_i x, rounded once. -/
def rowTimes (b : Bytes) (x : Nat → Cpx) : Cpx := cOut ((rowTerms b).foldl (fun a t => cMac a t.2 (x t.1)) (.num 0, .num 0))

/-! ### A factor variant (R316, R321) -/

/-- A factor instance read for a slice: its records, with those of BAD tiles taken as zero (R141). -/
structure Factor where
  recs : List Bytes
  bad : List Nat
  first : Nat

/-- Record i. -/
def Factor.rec_ (f : Factor) (i : Nat) : Bytes :=
  if f.bad.contains (f.first + i) then List.replicate 4096 0 else (f.recs[i]?).getD []
/-- NVAL. -/
def Factor.nval (f : Factor) : Nat := leAt (f.rec_ 0) 0 4
/-- NDESC. -/
def Factor.ndesc (f : Factor) : Nat := leAt (f.rec_ 0) 4 4
/-- NROWL. -/
def Factor.nrowl (f : Factor) : Nat := leAt (f.rec_ 0) 8 4
/-- NCHAN. -/
def Factor.nchan (f : Factor) : Nat := leAt (f.rec_ 0) 0xC 4
/-- NWAVE. -/
def Factor.nwave (f : Factor) : Nat := leAt (f.rec_ 0) 0x10 4
/-- Node j is observable (R302). -/
def Factor.obs (f : Factor) (j : Nat) : Bool := bitAt (leAt (f.rec_ 0) (0x800 + j / 8) 1) (j % 8)
/-- Descriptor of value tile t. -/
def Factor.desc (f : Factor) (t : Nat) : Bytes := slice (f.rec_ (1 + t / 256)) (16 * (t % 256)) 16
/-- Row-list entry e. -/
def Factor.rowEntry (f : Factor) (e : Nat) : Nat := leAt (f.rec_ (1 + f.ndesc + e / 2048)) (2 * (e % 2048)) 2
/-- W of row i. -/
def Factor.weight (f : Factor) (i : Nat) : F32 := BitVec.ofNat 32 (leAt (f.rec_ (1 + f.ndesc + f.nrowl + i / 512)) (8 * (i % 512)) 4)
/-- OMEGA of row i. -/
def Factor.omega (f : Factor) (i : Nat) : F32 :=
  BitVec.ofNat 32 (leAt (f.rec_ (1 + f.ndesc + f.nrowl + i / 512)) (8 * (i % 512) + 4) 4)
/-- Entry e of value tile t. -/
def Factor.entry (f : Factor) (t e : Nat) : Cpx := cAt (f.rec_ (1 + f.ndesc + f.nrowl + f.nchan + t)) (8 * e)
/-- Structure records: header, descriptors, row lists, channels. -/
def Factor.structure_ (f : Factor) : Nat := 1 + f.ndesc + f.nrowl + f.nchan

/-- The value tiles of a wave, logical unit by logical unit, each in descriptor order (R310, R316). -/
def Factor.waveTiles (f : Factor) (w : Nat) : List Nat :=
  (List.range 16).flatMap fun u => (List.range f.nval).filter fun t => leAt (f.desc t) 0xC 4 == w && leAt (f.desc t) 0xA 1 == u

/-- The place of element (r, c) of a packed lower triangle of n columns. -/
def triIndex (n r c : Nat) : Nat := c * n - c * (c - 1) / 2 + (r - c)

/-- Accumulators and finished values of a sweep, by node. -/
structure Sweep where
  acc : List CAcc
  val : List Cpx
  deriving DecidableEq, Repr

/-- Node j's accumulator changed. -/
def Sweep.modAcc (s : Sweep) (j : Nat) (g : CAcc → CAcc) : Sweep := { s with acc := modAt g j s.acc }
/-- Node j's accumulator rounded and divided by the diagonal (R309). -/
def Sweep.finish (s : Sweep) (j : Nat) (recip : Cpx) : Sweep :=
  { s with val := setAt (cScale recip.re (cOut ((s.acc[j]?).getD (.num 0, .num 0)))) j s.val }
/-- Node j's value. -/
def Sweep.at_ (s : Sweep) (j : Nat) : Cpx := (s.val[j]?).getD cZero

/-- A value tile in the forward sweep. -/
def Factor.forward (f : Factor) (s : Sweep) (t : Nat) : Sweep :=
  let d := f.desc t
  let c0 := leAt d 4 2
  let nc := leAt d 6 1
  if leAt d 7 1 = 1 then
    (List.range nc).foldl (fun s c =>
      let s1 := s.finish (c0 + c) (f.entry t (triIndex nc c c))
      (List.range (nc - c - 1)).foldl (fun s k =>
        s.modAcc (c0 + c + 1 + k) fun a => cMsub a (f.entry t (triIndex nc (c + 1 + k) c)) (s.at_ (c0 + c))) s1) s
  else
    let nr := leAt d 8 2
    (List.range nc).foldl (fun s c => (List.range nr).foldl (fun s i =>
      s.modAcc (f.rowEntry (leAt d 0 4 + i)) fun a => cMsub a (f.entry t (c * nr + i)) (s.at_ (c0 + c))) s) s

/-- A value tile in the back sweep, each entry as its conjugate transpose. -/
def Factor.backward (f : Factor) (s : Sweep) (t : Nat) : Sweep :=
  let d := f.desc t
  let c0 := leAt d 4 2
  let nc := leAt d 6 1
  if leAt d 7 1 = 1 then
    (List.range nc).reverse.foldl (fun s c =>
      let s1 := (List.range (nc - c - 1)).foldl (fun s k =>
        s.modAcc (c0 + c) fun a => cMsub a (cConj (f.entry t (triIndex nc (c + 1 + k) c))) (s.at_ (c0 + c + 1 + k))) s
      s1.finish (c0 + c) (f.entry t (triIndex nc c c))) s
  else
    let nr := leAt d 8 2
    (List.range nc).foldl (fun s c => (List.range nr).foldl (fun s i =>
      s.modAcc (c0 + c) fun a => cMsub a (cConj (f.entry t (c * nr + i))) (s.at_ (f.rowEntry (leAt d 0 4 + i)))) s) s

/-- b = Hᴴ W z: row contributions in ascending row index, w·z first (log entry 7). -/
def Factor.rhs (f : Factor) (ro : Roast) (z : List Cpx) : List Cpx :=
  let acc := (List.range z.length).foldl (fun (acc : List CAcc) i =>
    let wz := cScale (f.weight i) ((z[i]?).getD cZero)
    (rowTerms (ro.lseRow i)).foldl (fun acc t => modAt (fun a => cMac a (cConj t.2) wz) t.1 acc) acc)
    (List.replicate ro.lseNodes (.num 0, .num 0))
  acc.map cOut

/-- One solve: b, L y = b, Lᴴ x = y (R301, R316). -/
def Factor.solve (f : Factor) (ro : Roast) (z : List Cpx) : List Cpx :=
  let b := f.rhs ro z
  let start (v : List Cpx) : Sweep := { acc := v.map cAcc, val := List.replicate ro.lseNodes cZero }
  let waves := List.range f.nwave
  let y := waves.foldl (fun s w => (f.waveTiles w).foldl f.forward s) (start b)
  let x := waves.reverse.foldl (fun s w => (f.waveTiles w).foldl f.backward s) (start y.val)
  x.val

/-- r_i = z_i − H_i x. -/
def residual (b : Bytes) (z : Cpx) (x : List Cpx) : Cpx :=
  cOut ((rowTerms b).foldl (fun a t => cMsub a t.2 ((x[t.1]?).getD cZero)) (cAcc z))

/-- |r_i| / √Ω_i as R309 forms it: |r_i|² in the accumulator, divided by Ω_i, and its square root. -/
def normResidual (r : Cpx) (omega : F32) : F32 :=
  match eAdd (eAdd (.num 0) (eMul r.re r.re)) (eMul r.im r.im) with
  | .num q => if !fFinite omega || fIsZero (fFlush omega) then eSqrt (eDiv (roundF q) omega) else eSqrt (fFlush (roundF (q / fVal (fFlush omega))))
  | a => eSqrt (eDiv (accOut a) omega)

/-! ### The stage -/

/-- A row counts as measured (R303). -/
def rowMeasured (b : Bytes) (q : Nat) : Bool := qUsable (bitAt (leAt b 0x19 1) 1) (bitAt (leAt b 0x19 1) 0) q

/-- What one solve slot gave. -/
structure Solve where
  x : List Cpx
  r : List Cpx
  rn : List F32
  deriving DecidableEq, Repr

/-- The rows of a slice and their classes. -/
structure LseIn where
  ro : Roast
  f : Factor
  z : List Cpx
  measured : List Bool
  smin : F32

/-- A row with weight in the variant. -/
def LseIn.weighted (a : LseIn) (i : Nat) : Bool := fLt fZero (a.f.weight i)
/-- S_i (R312). -/
def LseIn.sens (a : LseIn) (i : Nat) : F32 := eMul (a.f.weight i) (a.f.omega i)
/-- Measured. -/
def LseIn.isMeasured (a : LseIn) (i : Nat) : Bool := (a.measured[i]?).getD false
/-- Eligible for the test. -/
def LseIn.eligible (a : LseIn) (i : Nat) : Bool := a.isMeasured i && a.weighted i && fLe a.smin (a.sens i)
/-- Critical. -/
def LseIn.critical (a : LseIn) (i : Nat) : Bool := a.isMeasured i && a.weighted i && fLt (a.sens i) a.smin

/-- A solve slot on inputs z. Every row has its residual, a row without weight among them (R311, R312). -/
def LseIn.run (a : LseIn) (z : List Cpx) : Solve :=
  let x := a.f.solve a.ro z
  let r := (List.range z.length).map fun i => residual (a.ro.lseRow i) ((z[i]?).getD cZero) x
  { x := x, r := r, rn := (List.range z.length).map fun i => normResidual ((r[i]?).getD cZero) (a.f.omega i) }

/-- The row of largest normalised residual among eligible rows other than one, the lowest on a tie. -/
def LseIn.worst (a : LseIn) (v : Solve) (but : Option Nat) : Option (Nat × F32) :=
  (List.range a.z.length).foldl (fun best i =>
    if a.eligible i ∧ but ≠ some i then
      let q := (v.rn[i]?).getD fNaN
      match best with
      | none => some (i, q)
      | some b => if fLt b.2 q then some (i, q) else best
    else best) none

/-- NUMERIC (R311): an element of x over the observable nodes, or of r, that is infinite or NaN. -/
def LseIn.numeric (a : LseIn) (v : Solve) : Bool :=
  ((List.range v.x.length).any fun j => a.f.obs j && !cFinite ((v.x[j]?).getD cZero)) || v.r.any fun r => !cFinite r

/-- The code for an entry without a number (R319). -/
def lseCode (cc : Nat) : F32 := BitVec.ofNat 32 (0x7FC00000 + cc)
/-- A state entry that carries a code. -/
def lseCode2 (cc : Nat) : Cpx := { re := lseCode cc, im := lseCode cc }

/-- The keys O and T (R306). -/
def obsWord (ro : Roast) (measured : List Bool) : Nat :=
  (List.range 32).foldl (fun o g =>
    let c := ((List.range ro.lseRows).filter fun i => (measured[i]?).getD false && leAt (ro.lseRow i) 0x18 1 == g).length
    o + 2 ^ g * b2n (decide (g < ro.lseGroups) && decide (ro.lseMin g ≤ c))) 0

/-- The matching LUT record (R307). -/
def Roast.lutMatch (ro : Roast) (o t : Nat) : Nat :=
  (findPos (fun b => Nat.land o (leAt b 0 4) == leAt b 4 4 && Nat.land t (leAt b 8 4) == leAt b 0xC 4) (ro.recs 0x22)).getD 0

/-- The prior of node j: value, and its slice where there is one (R304). -/
def State.prior (s : State) (ro : Roast) (j : Nat) : Cpx × Option Nat :=
  match alookup j s.lse.prior with
  | some (v, n) => (v, some n)
  | none => (cAt (ro.lseNode j) 0, none)

/-- Value tiles found bad in a solve slot, each with a fallback slot where one is left: state, slots, patched, lost. -/
def State.valueTiles (s : State) (region slots : Nat) (tiles : List Nat) : State × Nat × List Nat × List Nat :=
  tiles.foldl (fun a t =>
    if a.1.copyBad region 0 t then
      let u := a.1.useTile region false (if a.2.2.1.length < 8 then a.2.1 else 0) t
      if u.2.2 then (u.1, a.2.1 - 1, a.2.2.1 ++ [t], a.2.2.2) else (u.1, a.2.1 - 1, a.2.2.1, a.2.2.2 ++ [t])
    else a) (s, slots, [], [])

/-- The choice of variant: number, LUT entry, QUALITY, forced (R307, R308). -/
def State.chooseVariant (s : State) (r : Run) (o t : Nat) : Nat × Nat × Nat × Bool :=
  let ro := s.runRoast r
  let force := (s.cfgOf r).get Reg.LSE_CFG.FORCE
  if 1 ≤ force ∧ force ≤ 8 ∧ (ro.sec? 0x21 (force - 1)).isSome then (force - 1, 0xFF, 0, true)
  else
    let e := ro.lutMatch o t
    let b := ro.recAt 0x22 e
    (leAt b 0x10 1, e, leAt b 0x11 1, false)

/-- Flags of the summary's word 2, by bit (R320). -/
def flagBits (l : List (Nat × Bool)) : Nat := l.foldl (fun a e => a + 2 ^ e.1 * b2n e.2) 0

/-- The result of the LSE stage. -/
structure LseResult where
  out : LseOut
  valid : Bool
  removed : Bool
  remains : Bool
  stale : Bool
  patched : Bool
  lost : Bool
  nReplaced : Nat
  variant : Nat
  /-- nodes that take a new prior -/
  prior : List (Nat × Cpx)

/-- The LSE stage's work on a slice. -/
def State.lseWork (s : State) (r : Run) (rep : StageReport) : State × LseResult :=
  let ro := s.runRoast r
  let x := s.sliceAt r.n
  let d0 := (((s.reading r.region 4).section r.region 0x20 0 true).section r.region 0x22 0 false)
  let rows := List.range ro.lseRows
  let measured := rows.map fun i => rowMeasured (ro.lseRow i) (x.slot (leAt (ro.lseRow i) 0 4)).q
  let topo := r.topo.getD {}
  let o := obsWord ro measured
  let t := topo.cls
  let (v, entry, quality, forced) := s.chooseVariant r o t
  let sect := (ro.sec? 0x21 v).getD { kind := 0x21 }
  let f0 : Factor := { recs := sect.recs, bad := [], first := sect.firstTile }
  let u := d0.s.useTiles r.region false (min 2 d0.slots) ((List.range f0.structure_).map (sect.firstTile + ·))
  let vals := (List.range f0.nval).map (sect.firstTile + f0.structure_ + ·)
  let (s1, slots1, patched, lost1) := u.1.valueTiles r.region ((ro.fallback 4) - 2) vals
  let z := rows.map fun i =>
    if (measured[i]?).getD false then (x.slot (leAt (ro.lseRow i) 0 4)).v
    else rowTimes (ro.lseRow i) fun j => (s.prior ro j).1
  let inp (bad : List Nat) : LseIn :=
    { ro := ro, f := { f0 with bad := u.2.2 ++ bad }, z := z, measured := measured, smin := BitVec.ofNat 32 ((s.cfgOf r).get Reg.LSE_S_MIN.SMIN) }
  let a1 := inp (lost1 ++ patched)
  let v1 := a1.run z
  let badEn := (s.cfgOf r).flag Reg.LSE_CFG.BAD_EN
  let thr : F32 := BitVec.ofNat 32 ((s.cfgOf r).get Reg.LSE_BAD_THR.THR)
  let isPatched := !patched.isEmpty
  let cand := if badEn ∧ !isPatched then (a1.worst v1 none).filter fun w => fLt thr w.2 else none
  let (s2, _, _, lost2) := (s1.foundBad r.region rep.bad2).valueTiles r.region slots1 (vals.filter fun t => !patched.contains t && !lost1.contains t)
  let lost := !lost2.isEmpty
  let a2 := inp lost1
  let z2 := match cand with
    | some (k, _) =>
      let sk := a1.sens k
      let rk := (v1.r[k]?).getD cZero
      let zk := (z[k]?).getD cZero
      setAt { re := eMinus zk.re (eDiv rk.re sk), im := eMinus zk.im (eDiv rk.im sk) } k z
    | none => z
  let useSlot2 := (isPatched || cand.isSome) && !lost
  let fin := if useSlot2 then a2.run z2 else v1
  let removed := cand.isSome && !lost
  let k := if removed then cand.map (·.1) else none
  let tileBad := !(d0.bad.isEmpty && u.2.2.isEmpty && lost1.isEmpty) || (isPatched && lost)
  let numeric := a2.numeric fin
  let noData := !(rows.any fun i => a1.weighted i && a1.isMeasured i)
  let valid := !(numeric || tileBad || noData)
  let worst := a1.worst fin k
  let remains := badEn && ((match worst with | some w => fLt thr w.2 | none => false) || (lost && cand.isSome))
  let replaced := rows.filter fun i => !a1.isMeasured i
  let usedNodes := (replaced.flatMap fun i => (rowTerms (ro.lseRow i)).map (·.1)).eraseDups
  let ages := usedNodes.filterMap fun j => (s.prior ro j).2.map fun n0 => r.n - n0
  let initPrior := usedNodes.any fun j => (s.prior ro j).2.isNone
  let xs := (List.range ro.lseNodes).map fun j =>
    if !valid then lseCode2 2 else if !a1.f.obs j then lseCode2 1 else (fin.x[j]?).getD cZero
  let rns := rows.map fun i =>
    if !valid then lseCode 2 else if !a1.weighted i then lseCode 0x13 else if !a1.isMeasured i then lseCode 0x10
    else if k = some i then lseCode 0x11 else if a1.critical i then lseCode 0x12 else (fin.rn[i]?).getD fNaN
  let flags := flagBits [(16, valid), (17, !topo.valid), (18, forced), (19, removed), (20, remains), (21, isPatched), (22, lost),
    (23, numeric), (24, noData), (25, tileBad), (26, initPrior), (27, quality == 1)]
  let words := [v + 2 ^ 8 * entry + flags, o, t, rows.length - replaced.length, replaced.length,
    k.getD 0xFFFFFFFF, (match k, cand with | some _, some c => c.2.toNat | _, _ => 0),
    (match a1.worst fin none with | some w => w.2.toNat | none => 0), min 65535 (ages.foldl max 0), 0]
  (s2, { out := { n := r.n, x := xs, rn := rns, words := words }, valid := valid, removed := removed, remains := remains,
         stale := !topo.valid, patched := isPatched, lost := lost, nReplaced := replaced.length, variant := v,
         prior := (List.range ro.lseNodes).filterMap fun j => if a1.f.obs j then some (j, (fin.x[j]?).getD cZero) else none })

/-- An interrupt of the LSE. -/
def State.lseIrq (s : State) (f : Fld) (b : Bool) : State := if b then s.irq f Reg.LSE_IRQ_MASK.MASK 48 else s

/-- A count where a condition holds. -/
def State.countIf (s : State) (f : Fld) (b : Bool) : State := if b then s.count f else s

/-- The stage's effects. -/
def State.lseStage (s : State) (r : Run) (rep : StageReport) : State :=
  let (s1, v) := s.lseWork r rep
  let changed := match s1.lse.variant with
    | some w => w != v.variant
    | none => false
  let prior := if v.valid then v.prior.foldl (fun p e => aset e.1 (e.2, r.n) p) s1.lse.prior else s1.lse.prior
  let s2 := { s1 with lse := { ring := aset (r.n % 512) v.out s1.lse.ring, prior := prior, variant := some v.variant } }
  let s3 := ((s2.set Reg.LSE_STATUS.VARIANT v.variant).setFlag Reg.LSE_STATUS.VALID v.valid).set Reg.LSE_LAST_SLICE.SLICE r.n
  let s4 := (((((((s3.countIf Reg.LSE.VALID_RESULTS v.valid).countIf Reg.LSE.INVALID_RESULTS (!v.valid)).countIf Reg.LSE.REMOVALS v.removed).countIf
    Reg.LSE.BAD_REMAINS v.remains).countIf Reg.LSE.TILE_PATCHED v.patched).countIf Reg.LSE.TOPO_STALE v.stale).countIf
    Reg.LSE.RESOLVE_LOST v.lost).count Reg.LSE.ROWS_REPLACED v.nReplaced |>.count (Reg.LSE.VARIANT_USE.ix v.variant)
  ((((s4.lseIrq Reg.LSE_IRQ.INVALID (!v.valid)).lseIrq Reg.LSE_IRQ.REMOVED v.removed).lseIrq Reg.LSE_IRQ.VARIANT_CHG changed).lseIrq
    Reg.LSE_IRQ.BAD_REMAINS v.remains).stageEnd r 5 rep (if v.valid then 1 else 2)

/-- The twelve words of a summary (R320). -/
def LseOut.summary (o : LseOut) : List Nat := [o.n % 2 ^ 32, o.n / 2 ^ 32 % 2 ^ 32] ++ o.words

/-- LSE_SUMMARY_LATCH (R323): the entry at the selected position is latched for the requester. -/
def execLseSummaryLatch (who : Requester) (s : State) : Out :=
  .next (
    let ws := match alookup (s.get (Reg.LSE_SUM_SEL.SLICE.of who) % 512) s.lse.ring with
      | some o => o.summary
      | none => List.replicate 12 0
    (List.range 12).foldl (fun s k => s.set ((Reg.LSE_SUM.WORD.ix k).of who) ((ws[k]?).getD 0)) s)

/-- The output entry's 393,216 bytes (R319): entries past the model hold UNUSED, or INVALID in an invalid result. -/
def LseOut.bytes (o : LseOut) : Bytes :=
  let valid := bitAt ((o.words[0]?).getD 0) 16
  let fill := if valid then 3 else 2
  (List.range 16384).flatMap (fun j => cBytes ((o.x[j]?).getD (lseCode2 fill))) ++
    (List.range 65536).flatMap fun i => leBytes 4 ((o.rn[i]?).getD (lseCode fill)).toNat

/-- What the new roast's nodes inherit (R322). -/
def State.carryLse (s : State) (old new : Roast) : State :=
  let key (b : Bytes) : Bytes := slice b 0x18 8
  { s with lse := { s.lse with prior := (List.range new.lseNodes).filterMap fun j =>
      (((List.range old.lseNodes).reverse).find? fun i => key (old.lseNode i) == key (new.lseNode j)).bind fun i =>
        (alookup i s.lse.prior).map fun p => (j, p) } }

end Sys2Proof.Machine
end

