-- ==== Sys2Proof/Machine/Oscillation.lean ====
section
/-! DEFINITION. The oscillation engine (R324 to R350). -/

namespace Sys2Proof.Machine

/-- A binary32 field of a record. -/
def fAt (b : Bytes) (off : Nat) : F32 := BitVec.ofNat 32 (leAt b off 4)

/-! ### Records (R347 to R349) -/

/-- NWATCH. -/
def Roast.nwatch (r : Roast) : Nat := leAt (r.recAt 0x30 0) 4 4
/-- NBAND, the band records. -/
def Roast.nband (r : Roast) : Nat := leAt (r.recAt 0x30 0) 8 4
/-- UPDATE_SLOTS. -/
def Roast.updateSlots (r : Roast) : Nat := leAt (r.recAt 0x30 0) 0xC 4
/-- SLOW_SLOTS. -/
def Roast.slowSlots (r : Roast) : Nat := leAt (r.recAt 0x30 0) 0x10 4
/-- SLOW_HS. -/
def Roast.slowHs (r : Roast) : Nat := leAt (r.recAt 0x30 0) 0x18 8
/-- Watch record w. -/
def Roast.watchRec (r : Roast) (w : Nat) : Bytes := r.recAt 0x30 (1 + w)
/-- The band records with their positions in the section. -/
def Roast.bandRecs (r : Roast) : List (Nat × Bytes) := (List.range r.nband).map fun i => (1 + r.nwatch + i, r.recAt 0x30 (1 + r.nwatch + i))
/-- WATCH of a band record. -/
def bandWatch (b : Bytes) : Nat := leAt b 2 2
/-- Band index 4w + b (R324). -/
def bandIndex (b : Bytes) : Nat := 4 * bandWatch b + leAt b 1 1
/-- SLOW. -/
def bandSlow (b : Bytes) : Bool := bitAt (leAt b 8 1) 0
/-- P_ORD. -/
def bandP (b : Bytes) : Nat := leAt b 6 1
/-- Q_ORD. -/
def bandQ (b : Bytes) : Nat := leAt b 7 1
/-- Whether a band updates at slice n (R325). -/
def bandDue (b : Bytes) (n : Nat) : Bool := n % max 1 (leAt b 4 1) == leAt b 5 1
/-- Updates of a roast's bands that fall on slices a to b - 1. -/
def Roast.bandUpdates (r : Roast) (a b : Nat) : Nat :=
  let upTo (x : Bytes) (n : Nat) : Nat := (n + max 1 (leAt x 4 1) - 1 - leAt x 5 1) / max 1 (leAt x 4 1)
  (r.bandRecs.map fun x => if leAt x.2 5 1 < max 1 (leAt x.2 4 1) then upTo x.2 b - upTo x.2 a else 0).sum
/-- The corridor records. -/
def Roast.corridorRecs (r : Roast) : List Bytes := (r.recs 0x31).filter fun b => leAt b 0 1 == 1
/-- The monitor records. -/
def Roast.monitorRecs (r : Roast) : List Bytes := (r.recs 0x31).filter fun b => leAt b 0 1 == 2
/-- The sub-synchronous watch records. -/
def Roast.subRecs (r : Roast) : List Bytes := (r.recs 0x32).drop 1
/-- LAG_US. -/
def Roast.subLag (r : Roast) : Nat := leAt (r.recAt 0x32 0) 4 4

/-! ### Signals and filters (R327 to R329) -/

/-- z_A · conj z_B. -/
def cMulConj (a b : Cpx) : Cpx := cOut (cMac (.num 0, .num 0) a (cConj b))

/-- The engine's magnitude. -/
def eAbs (a : Cpx) : F32 := eSqrt (eSum [eMul a.re a.re, eMul a.im a.im])

/-- The engine's angle: subnormal operands as zero (R309, R326). -/
def eArg (a : Cpx) : F32 := if cIsNaN a then fNaN else fFlush (Config.atan2F (fFlush a.im) (fFlush a.re))

/-- wrap in the engine's arithmetic (R252, R309). -/
def eWrap (a : F32) : F32 := if fLt fPi a then eMinus a fTwoPi else if fLe a (fNegate fPi) then ePlus a fTwoPi else a

/-- A term (R327). -/
def termValue (kind : Nat) (a b : Cpx) : F32 :=
  if kind = 1 then a.re
  else if kind = 2 then a.im
  else if kind = 3 then eAbs a
  else if kind = 4 then eArg a
  else if kind = 5 then eWrap (eMinus (eArg a) (eArg b))
  else if kind = 6 then (cMulConj a b).re
  else (cMulConj a b).im

/-- A watch's signal at a slice: none when missing (R328). -/
def watchSignal (b : Bytes) (x : Slice) : Option F32 :=
  let subst := bitAt (leAt b 3 1) 0
  let test := bitAt (leAt b 3 1) 1
  let term (t : Nat) : Bytes := slice b (0x40 + 12 * t) 12
  let ts := (List.range (leAt b 2 1)).map term
  if ts.all fun t => x.usable test subst (leAt t 2 2) && (leAt t 0 1 < 5 || x.usable test subst (leAt t 4 2)) then
    some (eSum (ts.map fun t => eMul (fAt t 8) (termValue (leAt t 0 1) (x.slot (leAt t 2 2)).v (x.slot (leAt t 4 2)).v)))
  else none

/-- One second-order section (R329). -/
def biquad (cs : List F32) (s : Biquad) (x : F32) : F32 × Biquad :=
  let k (i : Nat) : F32 := (cs[i]?).getD fZero
  let y := eSum [eMul (k 0) x, eMul (k 1) s.x1, eMul (k 2) s.x2, fNegate (eMul (k 3) s.y1), fNegate (eMul (k 4) s.y2)]
  (y, { x1 := x, x2 := s.x1, y1 := y, y2 := s.y1 })

/-- The coefficients of section `s` of a band record. -/
def sosOf (b : Bytes) (s : Nat) : List F32 := (List.range 5).map fun i => fAt b (0x40 + 20 * s + 4 * i)

/-- The cascade of four sections: output and memory. -/
def cascade (b : Bytes) (f : List Biquad) (x : F32) : F32 × List Biquad :=
  (List.range 4).foldl (fun a s =>
    let r := biquad (sosOf b s) ((f[s]?).getD {}) a.1
    (r.1, a.2 ++ [r.2])) (x, [])

/-! ### The mode meter (R330 to R333) -/

/-- A band's reset state (R331). -/
def bandReset (b : Bytes) : Band :=
  let n := bandP b + bandQ b
  { theta := List.replicate n fZero
    p := (List.range n).map fun i => (List.range n).map fun j => if i = j then fAt b 0x14 else fZero
    y := List.replicate (bandP b) fZero, e := List.replicate (bandQ b) fZero, roots := List.replicate (bandP b) cZero }

/-- 1.0e-12 in binary32. -/
def fTiny : F32 := 0x2B8CBCCC

/-- The recursion's step (R330): θ, P and the a posteriori residual. -/
def elsStep (b : Bytes) (s : Band) (yk : F32) : List F32 × List (List F32) × F32 :=
  let lam := fAt b 0xC
  let phi := s.y ++ s.e
  let eps := eMinus yk (eDot phi s.theta)
  let g := s.p.map fun row => eDot row phi
  let den := ePlus lam (eDot phi g)
  let k := g.map fun x => eDiv x den
  let th := (List.range s.theta.length).map fun i => ePlus ((s.theta[i]?).getD fZero) (eMul ((k[i]?).getD fZero) eps)
  let up (i j : Nat) : F32 :=
    eDiv (eMinus ((((s.p[i]?).getD [])[j]?).getD fZero) (eMul ((k[i]?).getD fZero) ((g[j]?).getD fZero))) lam
  let n := s.theta.length
  let p := (List.range n).map fun i => (List.range n).map fun j =>
    let v := up (min i j) (max i j)
    if i = j ∧ fLt v fTiny then fTiny else v
  (th, p, eMinus yk (eDot phi th))

/-- A complex product rounded once. -/
def cMul (a b : Cpx) : Cpx := cOut (cMac (.num 0, .num 0) a b)
/-- A complex difference. -/
def cSub (a b : Cpx) : Cpx := { re := eMinus a.re b.re, im := eMinus a.im b.im }

/-- A(z) by Horner (R332). -/
def arPoly (th : List F32) (z : Cpx) : Cpx :=
  th.foldl (fun a t => cOut (cMac (cAcc { re := fNegate t, im := fZero }) a z)) { re := fOne, im := fZero }

/-- num / den of R332: num · conj(den) × (1/|den|²). -/
def cQuot (num den : Cpx) : Cpx :=
  cScale (eDiv fOne (eSum [eMul den.re den.re, eMul den.im den.im])) (cMul num (cConj den))

/-- One Durand–Kerner iteration. -/
def dkStep (th : List F32) (z : List Cpx) : List Cpx :=
  (List.range z.length).map fun i =>
    let zi := (z[i]?).getD cZero
    let den := (List.range z.length).foldl (fun d j => if i = j then d else cMul d (cSub zi ((z[j]?).getD cZero))) { re := fOne, im := fZero }
    let q := cQuot (arPoly th zi) den
    let d2 := eSum [eMul den.re den.re, eMul den.im den.im]
    if fLe 0x0D800000 d2 ∧ cFinite q then cSub zi q else zi

/-- `n` iterations. -/
def dkRun (th : List F32) : Nat → List Cpx → List Cpx
  | 0, z => z
  | n + 1, z => dkRun th n (dkStep th z)

/-- The start values (0.4 + 0.9j)^i. -/
def dkStart (p : Nat) : List Cpx :=
  (List.range p).map fun i => (List.range i).foldl (fun a _ => cMul a { re := 0x3ECCCCCD, im := 0x3F666666 }) { re := fOne, im := fZero }

/-- A mode (R333): f, ζ and its root. -/
structure Mode where
  f : F32
  zeta : F32
  root : Cpx
  deriving DecidableEq, Repr

/-- The mode of a root with a positive imaginary part. -/
def modeOf (fb : F32) (z : Cpx) : Option Mode :=
  if fLt fZero z.im then
    let sg := eMul fb (fFlush (Config.logF (eAbs z)))
    let om := eMul fb (eArg z)
    some { f := eDiv om fTwoPi, zeta := eDiv (fNegate sg) (eSqrt (eSum [eMul sg sg, eMul om om])), root := z }
  else none

/-- The in-band modes and the reported one: smallest ζ, then lower f, then lower root index. -/
def pickMode (b : Bytes) (fb : F32) (roots : List Cpx) : Nat × Option Mode :=
  let ms := (roots.filterMap (modeOf fb)).filter fun m => fLe (fAt b 0x1C) m.f && fLe m.f (fAt b 0x20)
  (ms.length, ms.foldl (fun best m => match best with
    | none => some m
    | some q => if fLt m.zeta q.zeta || (!fLt q.zeta m.zeta && fLt m.f q.f) then some m else best) none)

/-- F_b in binary32. -/
def bandRate (fs : Nat) (b : Bytes) : F32 := roundF ((fs : Rat) / (max 1 (leAt b 4 1) : Nat))

/-- A code of R350. -/
def oscCode (cc : Nat) : F32 := BitVec.ofNat 32 (0x7FC00000 + cc)

/-- The flags after a valid update (R334, R335). -/
def bandFlags (b : Bytes) (s : Band) (md : Option Mode) (amp : F32) : Band :=
  let pe := leAt b 0x3C 2
  let cl := leAt b 0x3E 2
  let loud := fLe (fAt b 0x30) amp
  let (low, grow, forced) := match md with
    | none => (false, false, false)
    | some m =>
      (fLe fZero m.zeta && fLt m.zeta (fAt b 0x24) && loud, fLt m.zeta fZero && loud,
        fLe (fAbs m.zeta) (fAt b 0x28) && loud && (match s.fPrev with
          | some f => fLe (fAbs (eMinus m.f f)) (fAt b 0x2C)
          | none => false))
  { s with lowDamp := s.lowDamp.eval pe cl low, growing := s.growing.eval pe cl grow, forced := s.forced.eval pe cl forced,
           highAmp := s.highAmp.eval pe cl (fLe (fAt b 0x34) amp), fPrev := match md with | some m => some m.f | none => s.fPrev }

/-- Whether a band has any of its four flags. -/
def Band.alert (s : Band) : Bool := s.lowDamp.on || s.growing.on || s.forced.on || s.highAmp.on

/-- What an update of a band did. -/
structure BandStep where
  band : Band
  out : BandOut
  committed : Bool := false
  missing : Bool := false
  wasReset : Bool := false
  diverged : Bool := false
  deriving DecidableEq, Repr

/-- The update of a band at slice n with sample yk (R330 to R335). `shed` marks an update for which step 4 is not run (R342): a missing one
that finds no roots; `bad` a BAD tile. -/
def bandUpdate (b : Bytes) (fs n : Nat) (s : Band) (yk : F32) (shed bad : Bool) : BandStep :=
  let miss := s.missing || shed || bad
  let st := elsStep b s yk
  let s1 : Band :=
    if bad then s
    else if miss then { s with y := (eDot (s.y ++ s.e) s.theta :: s.y).take (bandP b), e := (fZero :: s.e).take (bandQ b) }
    else { s with theta := st.1, p := st.2.1, y := (yk :: s.y).take (bandP b), e := (st.2.2 :: s.e).take (bandQ b),
                  m := eSum [eMul (fAt b 0x10) s.m, eMul (eMul (eMinus fOne (fAt b 0x10)) yk) yk], committed := s.committed + 1 }
  let trace := eSum ((List.range s1.p.length).map fun i => ((((s1.p[i]?).getD [])[i]?).getD fZero))
  let diverged := !miss && (!(s1.theta.all fFinite) || !(s1.p.all fun r => r.all fFinite) || fLt (fAt b 0x18) trace)
  let start := if 0 < s.committed then s.roots else dkStart (bandP b)
  let roots := if bad || shed then s.roots else dkRun (s1.theta.take (bandP b)) 24 start
  let gap := if miss then s.gap + 1 else 0
  let tooLong := decide (leAt b 0x3A 2 < gap)
  let s2 := { s1 with roots := roots, gap := gap, missing := false, reset := false, stateErr := false }
  let warm := decide (s2.committed < leAt b 0x38 2) || diverged
  let (nm, md) := pickMode b (bandRate fs b) roots
  let amp := eSqrt (eMul 0x40000000 s2.m)
  let valid := !miss && !warm
  let s3 := if valid then bandFlags b s2 md amp else s2
  let noMode := valid && md.isNone
  let code := if miss || s.stateErr then some (oscCode 0x22) else if warm then some (oscCode 0x21)
    else if md.isNone then some (oscCode 0x20) else none
  let md' := md.getD { f := fZero, zeta := fZero, root := cZero }
  let w (v : F32) : F32 := code.getD v
  let flags := flagBits [(0, valid), (1, warm), (2, noMode), (3, miss), (4, shed), (5, bad), (6, s.reset), (7, diverged),
    (8, s.stateErr), (12, s3.lowDamp.on), (13, s3.growing.on), (14, s3.forced.on), (15, s3.highAmp.on)] + 2 ^ 16 * (nm % 256)
  let out : BandOut := { n := n, f := w md'.f, damp := w md'.zeta, amp := amp, root := { re := w md'.root.re, im := w md'.root.im }, flags := flags }
  if diverged || tooLong then
    { band := bandReset b, out := out, committed := !miss && !diverged, missing := miss, wasReset := true, diverged := diverged }
  else { band := s3, out := out, committed := !miss, missing := miss }

/-! ### The engine's items in State -/

/-- A band's state; one not listed is as a reset leaves it. -/
def State.band (s : State) (b : Bytes) : Band := (alookup (bandIndex b) s.osc.bands).getD (bandReset b)
/-- A band's state replaced. -/
def State.setBand (s : State) (i : Nat) (x : Band) : State := { s with osc := { s.osc with bands := aset i x s.osc.bands } }
/-- A monitor. -/
def State.monitor (s : State) (m : Nat) : Monitor := (alookup m s.osc.monitors).getD {}
/-- A monitor replaced. -/
def State.setMonitor (s : State) (m : Nat) (x : Monitor) : State := { s with osc := { s.osc with monitors := aset m x s.osc.monitors } }
/-- An interrupt of the engine. -/
def State.oscIrq (s : State) (f : Fld) : State := s.irq f Reg.OSC_IRQ_MASK.MASK 56

/-- A band resets (R331); at roast load neither interrupt nor count. -/
def State.resetBand (s : State) (b : Bytes) (err : Bool) : State :=
  ((s.setBand (bandIndex b) { bandReset b with stateErr := err }).count Reg.OSC.BAND_RESETS).oscIrq Reg.OSC_IRQ.BAND_RESET |>.putBit
    (Reg.OSC_ALERT.ALERT.ix (bandIndex b / 32)) (bandIndex b % 32) false

/-- A monitor resets. -/
def State.resetMonitor (s : State) (m : Nat) (err : Bool) : State := s.setMonitor m { stateErr := err }

/-- A sub-synchronous watch resets (R341). -/
def State.resetSub (s : State) (k : Nat) (err : Bool) : State :=
  ({ s with osc := { s.osc with subs := aset k { stateErr := err } s.osc.subs } }).putBit (Reg.OSC_SS_ALERT.SS.ix (k / 32)) (k % 32) false

/-- Every item resets: an aligner start, the stage after a SKIPPED slice (R331, R341). -/
def State.resetOsc (s : State) (ro : Roast) : State :=
  let s1 := ro.bandRecs.foldl (fun s b => s.resetBand b.2 false) s
  let s2 := (List.range ro.monitorRecs.length).foldl (fun s m => s.resetMonitor m false) s1
  let s3 := (List.range ro.subRecs.length).foldl (fun s k => s.resetSub k false) s2
  s3

/-- The stage on slice n takes the resets that an aligner start or a SKIPPED slice has ordered for it or an earlier slice (R331, R341). -/
def State.resetDue (s : State) (ro : Roast) (n : Nat) : State :=
  if s.osc.resets.any fun r => decide (r ≤ n) then
    { s.resetOsc ro with osc := { (s.resetOsc ro).osc with resets := s.osc.resets.filter fun r => decide (n < r) } }
  else s

/-- The reported verdict of a corridor: a change sets CORRIDOR and logs an event (R338). -/
def State.setCorridor (s : State) (c : Nat) (x : Corridor) : State :=
  let old := ((alookup c s.osc.corridors).getD {}).verdict
  let s1 := { s with osc := { s.osc with corridors := aset c x s.osc.corridors } }
  let w := s1.get (Reg.OSC_CORR.VERDICT.ix (c / 16))
  let s2 := s1.set (Reg.OSC_CORR.VERDICT.ix (c / 16)) (w - bitsOf w (2 * (c % 16)) 2 * 2 ^ (2 * (c % 16)) + x.verdict * 2 ^ (2 * (c % 16)))
  if x.verdict = old then s2 else (s2.oscIrq Reg.OSC_IRQ.CORRIDOR).log (evCode 15 0) 0 []

/-- A corridor's state error clears its counts and its verdict, and marks its next result (R344). -/
def State.resetCorridor (s : State) (c : Nat) : State := s.setCorridor c { stateErr := true }

/-- An uncorrectable state error (R344). -/
def State.stateError (s : State) (ro : Roast) (e : Nat × Nat) : State :=
  let s1 := ((s.count Reg.OSC.ECC_UNCORRECTED).oscIrq Reg.OSC_IRQ.STATE_ERR).log (evCode 15 1) 0 (evIndex e.2)
  if e.1 = 0 then
    match ro.bandRecs.find? fun b => bandIndex b.2 == e.2 with
    | some b => s1.resetBand b.2 true
    | none => s1
  else if e.1 = 1 then s1.resetMonitor e.2 true
  else if e.1 = 2 then s1.resetSub e.2 true
  else s1.resetCorridor e.2

/-- A command's item reset, or none where it is not configured (R345). -/
def State.oscCommand (s : State) (ro : Roast) (k i : Nat) : Option State :=
  if k = 0 then (ro.bandRecs.find? fun b => bandIndex b.2 == i).map fun b => s.resetBand b.2 false
  else if k = 1 then (if i < ro.monitorRecs.length then some (s.resetMonitor i false) else none)
  else if k = 2 then (if i < ro.subRecs.length then some (s.resetSub i false) else none)
  else
    let bs := ro.bandRecs.filter fun b => bandWatch b.2 == i
    if bs.isEmpty then none else some (bs.foldl (fun s b => s.resetBand b.2 false) s)

/-- The pending command at the start of a stage. -/
def State.oscCmdRun (s : State) (ro : Roast) (swapSlice : Bool) : State :=
  match s.osc.cmd with
  | none => s
  | some (k, i) =>
    let s1 := ({ s with osc := { s.osc with cmd := none } }).setFlag Reg.OSC_CMD_STATUS.PENDING false
    let (s2, res) := if swapSlice then (s1, 3) else match s1.oscCommand ro k i with
      | some t => (t, 1)
      | none => (s1, 2)
    (s2.set Reg.OSC_CMD_STATUS.RESULT res).oscIrq Reg.OSC_IRQ.CMD_DONE

/-- OSC_CMD (R345): guarded; one written while one is pending replaces it. -/
def execOscCmd (who : Requester) (kind index : Nat) (s : State) : Out :=
  .next (s.guarded who Reg.OSC_CMD.GO.base fun s =>
    ({ s with osc := { s.osc with cmd := some (kind % 4, index % 4096) } }).setFlag Reg.OSC_CMD_STATUS.PENDING true)

/-! ### Monitors and corridors (R336 to R338) -/

/-- A monitor's inputs at a slice, through its filter copies. -/
def monitorSlice (b band : Bytes) (testOk subst : Bool) (x : Slice) (m : Monitor) : Monitor :=
  let v := (x.slot (leAt b 2 2)).v
  let i := (x.slot (leAt b 4 2)).v
  let ok := x.usable testOk subst (leAt b 2 2) && x.usable testOk subst (leAt b 4 2)
  let sIn := cMulConj v i
  let m1 := if ok then
      let a := eArg v
      { m with p := eMul (fAt b 0xC) sIn.re, q := eMul (fAt b 0xC) sIn.im, nu := fFlush (Config.logF (eAbs v)), vArg := some a
               theta := match m.vArg with
                 | some a0 => ePlus m.theta (eWrap (eMinus a a0))
                 | none => a }
    else { m with missing := true }
  let rp := cascade band m1.filtP m1.p
  let rq := cascade band m1.filtQ m1.q
  let rt := cascade band m1.filtT m1.theta
  let rn := cascade band m1.filtN m1.nu
  { m1 with filtP := rp.2, filtQ := rq.2, filtT := rt.2, filtN := rn.2, now := [rp.1, rq.1, rt.1, rn.1] }

/-- 0.5 in binary32. -/
def fHalf : F32 := 0x3F000000

/-- A monitor's increment at an update (R336). -/
def monitorInc (m : Monitor) : F32 :=
  let a (i : Nat) : F32 := (m.now[i]?).getD fZero
  let p (i : Nat) : F32 := (m.prev[i]?).getD fZero
  ePlus (eMul (eMul fHalf (ePlus (a 0) (p 0))) (eMinus (a 2) (p 2))) (eMul (eMul fHalf (ePlus (a 1) (p 1))) (eMinus (a 3) (p 3)))

/-- A monitor's update (R336, R337): `bo` is its reference band's latest result. In a BAD tile it is handled as missing (R343): the window
takes a missing increment, and the next one spans an update that was missing. -/
def monitorUpdate (b : Bytes) (tb : F32) (n : Nat) (bad : Bool) (bo : Option BandOut) (ampMin : F32) (m : Monitor) : Monitor :=
  let nwin := leAt b 9 1
  let l := m.incs ++ [if bad then (fZero, true) else (monitorInc m, m.missing)]
  let incs := l.drop (l.length - nwin)
  let slope := eDiv (eSum (incs.map (·.1))) (eMul (fOfInt nwin) tb)
  let missing := incs.any (·.2) || decide (incs.length < nwin)
  let valid := !missing && !bad && !m.stateErr
  let gate := match bo with
    | some o => bitAt o.flags 0 && !bitAt o.flags 2 && fLe ampMin o.amp
    | none => false
  let sign : Int := if valid && gate && fLt (fAt b 0x10) slope then 1 else if valid && gate && fLt slope (fNegate (fAt b 0x10)) then -1 else 0
  let word := flagBits [(0, valid), (1, gate), (2, missing), (3, bad), (4, m.stateErr)] +
    2 ^ 8 * (if sign = 1 then 1 else if sign = -1 then 2 else 0) + 2 ^ 16 * leAt b 1 1
  { m with incs := incs, prev := if bad then m.prev else m.now, missing := bad, stateErr := false, out := some (n, slope, word, sign) }

/-- A corridor's evaluation (R338). -/
def corridorEval (b : Bytes) (signs : List Int) (c : Corridor) : Corridor :=
  let np := (signs.filter (· == 1)).length
  let nm := (signs.filter (· == -1)).length
  let need := leAt b 2 1
  let raw := if decide (need ≤ np) && nm == 0 then 1 else if decide (need ≤ nm) && np == 0 then 2
    else if decide (0 < np) && decide (0 < nm) then 3 else 0
  let held := if raw = c.raw then c.held + 1 else 1
  let differs := if raw = c.verdict then 0 else c.differs + 1
  if raw ≠ 0 ∧ raw ≠ c.verdict ∧ leAt b 4 2 ≤ held then { raw := raw, held := held, differs := 0, verdict := raw }
  else if c.verdict ≠ 0 ∧ leAt b 6 2 ≤ differs then { raw := raw, held := held, differs := 0, verdict := 0 }
  else { raw := raw, held := held, differs := differs, verdict := c.verdict }

/-! ### Sub-synchronous watches (R339 to R341) -/

/-- ρ. -/
def ssRho : Rat := 1 - 1 / 65536
/-- Rounding to the wide format. -/
def wide (q : Rat) : Rat := roundMant 40 q
/-- A product in the wide format. -/
def wMul (q : Rat) : Acc40 → Acc40
  | .num x => .num (wide (q * x))
  | .inf n => if q = 0 then .nan else .inf (n != decide (q < 0))
  | .nan => .nan
/-- A sum in the wide format. -/
def wAdd : Acc40 → Acc40 → Acc40
  | .num x, .num y => .num (wide (x + y))
  | .num _, .inf n => .inf n
  | .inf n, .num _ => .inf n
  | .inf n, .inf m => if n = m then .inf n else .nan
  | _, _ => .nan
/-- A difference in the wide format. -/
def wSub (a b : Acc40) : Acc40 := wAdd a (wMul (-1) b)
/-- A power of ρ. -/
def rhoPow : Nat → Rat
  | 0 => 1
  | n + 1 => rhoPow n * ssRho
/-- G, the sum of ρ^i for i < N. -/
def ssGain (n : Nat) : Rat := (1 - rhoPow n) * 65536

/-- One sample into a watch's accumulators. -/
def ssPush (nWin kLo nb : Nat) (w : SubSync) (x : F32) (flagged : Bool) : SubSync :=
  let v := if flagged || fIsNaN x then fZero else x
  let old : F32 := if w.window.length < nWin then fZero else ((w.window.head?).map (·.1)).getD fZero
  let bins := (List.range (nb + 2)).map fun i =>
    let k := kLo + i - 1
    let s := (w.bins[i]?).getD (.num 0, .num 0)
    let c := wide (ssRho * Config.cosTurn k nWin)
    let d := wide (ssRho * Config.sinTurn k nWin)
    let re := wSub (wAdd (wSub (wMul c s.1) (wMul d s.2)) (accAdd 40 (.num 0) v)) (wMul (wide (rhoPow nWin)) (accAdd 40 (.num 0) old))
    (re, wAdd (wMul c s.2) (wMul d s.1))
  let win := w.window ++ [(v, flagged || fIsNaN x)]
  { w with bins := bins, window := win.drop (win.length - nWin) }

/-- A_k of every bin but the outermost two (R340). -/
def ssAmps (nWin : Nat) (w : SubSync) : List F32 :=
  (List.range (w.bins.length - 2)).map fun i =>
    let s (j : Nat) : Acc40 × Acc40 := (w.bins[j]?).getD (.num 0, .num 0)
    let part (a b c : Acc40) : F32 := eOut (wSub (wMul (1 / 2) b) (wMul (1 / 4) (wAdd a c)))
    let h : Cpx := { re := part (s i).1 (s (i + 1)).1 (s (i + 2)).1, im := part (s i).2 (s (i + 1)).2 (s (i + 2)).2 }
    eDiv (eMul 0x403504F3 (eAbs h)) (roundF (ssGain nWin))

/-- The watch's peak (R341): bin, PEAK_F, PEAK_RMS. -/
def ssPeak (kLo winS : Nat) (a : List F32) : Nat × F32 × F32 :=
  let best := (List.range a.length).foldl (fun b i => if fLt ((a[b]?).getD fZero) ((a[i]?).getD fZero) then i else b) 0
  let v (i : Nat) : F32 := (a[i]?).getD fZero
  let den := eMul 0x40000000 (eSum [eMul 0x40000000 (v best), fNegate (v (best - 1)), fNegate (v (best + 1))])
  let edge := decide (best = 0) || decide (best + 1 = a.length)
  let d := if edge || fIsZero den then fZero else eDiv (eMinus (v (best + 1)) (v (best - 1))) den
  let d := if fLt fHalf d then fHalf else if fLt d (fNegate fHalf) then fNegate fHalf else d
  (best, eDiv (ePlus (fOfInt (kLo + best)) d) (fOfInt winS), v best)

/-- The decimated samples a watch takes at slice n: by number, from the lane's stream; one not delivered is flagged (R340). -/
def ssTake (fs lagUs fOut n : Nat) (have_ : List (Nat × F32 × Bool)) : List (F32 × Bool) :=
  let b := 1200 / max 1 fs
  let top : Int := Rat.floor (1200 * ((n : Rat) / (max 1 fs : Nat) - (lagUs : Rat) / 1000000 + 32 / (max 1 fOut : Nat))) - 1
  (List.range b).map fun (i : Nat) =>
    let q : Int := top - Int.ofNat b + 1 + Int.ofNat i
    match have_.find? fun e => decide ((e.1 : Int) = q) with
    | some e => e.2
    | none => (fZero, true)

/-- A watch's work at a slice: its state with the new result, and how many samples were flagged. With its record in a BAD tile the slice's
samples are missing: they enter flagged (R343). -/
def ssWork (b : Bytes) (n : Nat) (bad : Bool) (xs : List (F32 × Bool)) (w : SubSync) : SubSync × Nat :=
  let winS := max 1 (leAt b 2 1)
  let nWin := 1200 * winS
  let kLo := leAt b 4 2
  let nb := leAt b 6 1
  let xs := if bad then xs.map fun _ => (fZero, true) else xs
  let w1 := xs.foldl (fun w x => ssPush nWin kLo nb w x.1 x.2) w
  let count := (xs.filter fun x => x.2 || fIsNaN x.1).length
  if bad then
    ({ w1 with stateErr := false, out := some (n, oscCode 0x22, fZero, flagBits [(2, true), (3, w.stateErr), (4, w.high.on)]) }, count)
  else
    let flagged := (w1.window.filter (·.2)).length
    let filling := decide (w1.window.length < nWin)
    let valid := !filling && flagged == 0
    let (k, pf, pr) := ssPeak kLo winS (ssAmps nWin w1)
    let high := if valid then w1.high.eval (leAt b 0xC 2) (leAt b 0xE 2) (fLe (fAt b 8) pr) else w1.high
    ({ w1 with high := high, stateErr := false
               out := some (n, pf, pr, flagBits [(0, valid), (1, filling), (3, w.stateErr), (4, high.on)] + 2 ^ 8 * (k % 256) +
                 2 ^ 16 * min 65535 flagged) }, count)

/-! ### The stage (R326) -/

/-- The sample a band takes at a slice, and its state with filters moved on (steps 1 and 2). A slice in which its record, or its watch's, is
in a BAD tile is missing, and commits nothing where it is the band's (R343). -/
def State.bandFilter (s : State) (ro : Roast) (x : Slice) (bad : List Nat) (b : Nat × Bytes) : State :=
  let st := s.band b.2
  if ro.recBad bad 0x30 b.1 then s.setBand (bandIndex b.2) { st with missing := true }
  else
    let sig := if ro.recBad bad 0x30 (1 + bandWatch b.2) then none else watchSignal (ro.watchRec (bandWatch b.2)) x
    let v := sig.getD st.last
    let r := cascade b.2 st.filt v
    s.setBand (bandIndex b.2) { st with filt := r.2, missing := st.missing || sig.isNone, last := v }

/-- A band's output sample at the slice: the cascade's last output. -/
def Band.sample (s : Band) : F32 := ((s.filt[3]?).getD ({} : Biquad)).y1

/-- One band's update and its effects. -/
def State.bandStep (s : State) (ro : Roast) (n : Nat) (bad : List Nat) (shed : Bool) (b : Nat × Bytes) : State :=
  let st := s.band b.2
  let isBad := ro.recBad bad 0x30 b.1 || ro.recBad bad 0x30 (1 + bandWatch b.2)
  let u := bandUpdate b.2 ro.rate n st st.sample shed isBad
  let i := bandIndex b.2
  let s1 := { s.setBand i u.band with osc := { (s.setBand i u.band).osc with bandOut := aset i u.out s.osc.bandOut } }
  let rise := (!st.lowDamp.on && u.band.lowDamp.on) || (!st.growing.on && u.band.growing.on) || (!st.forced.on && u.band.forced.on) ||
    (!st.highAmp.on && u.band.highAmp.on)
  let s2 := (((((s1.countIf Reg.OSC.BAND_UPDATES u.committed).countIf Reg.OSC.BAND_MISSING u.missing).countIf Reg.OSC.BAND_RESETS
    u.wasReset).countIf Reg.OSC.DIVERGED u.diverged).countIf Reg.OSC.SHED_SKIPS shed).countIf Reg.OSC.TILE_BAD isBad
  let s3 := if u.wasReset then s2.oscIrq Reg.OSC_IRQ.BAND_RESET else s2
  let s4 := if rise then s3.oscIrq Reg.OSC_IRQ.BAND_ALERT else s3
  s4.putBit (Reg.OSC_ALERT.ALERT.ix (i / 32)) (i % 32) u.band.alert

/-- A due band that finds no slot (R325): its update is missing and it is not updated. -/
def State.bandNoSlot (s : State) (b : Nat × Bytes) : State :=
  let st := s.band b.2
  if leAt b.2 0x3A 2 < st.gap + 1 then (s.count Reg.OSC.BAND_MISSING).resetBand b.2 false
  else (s.setBand (bandIndex b.2) { st with gap := st.gap + 1 }).count Reg.OSC.BAND_MISSING

/-- The due bands of a kind take their slots; where step 4 is shed, every due SLOW band takes a missing update (R342). -/
def State.bandSlots (s : State) (ro : Roast) (n slots : Nat) (bad : List Nat) (slow shed : Bool) : State :=
  let due := ro.bandRecs.filter fun b => bandSlow b.2 == slow && bandDue b.2 n
  let slots := if shed then due.length else slots
  ((due.drop slots).foldl State.bandNoSlot ((due.take slots).foldl (fun s b => s.bandStep ro n bad shed b) s))

/-- The band record a monitor references, with its position. -/
def Roast.refBandRec (ro : Roast) (b : Bytes) : Option (Nat × Bytes) :=
  ro.bandRecs.find? fun x => bandWatch x.2 == leAt b 6 2 && leAt x.2 1 1 == leAt b 8 1

/-- The band record a monitor references. -/
def Roast.refBand (ro : Roast) (b : Bytes) : Option Bytes := (ro.refBandRec b).map (·.2)

/-- Every monitor's inputs (step 1). A slice in which its record, its band's or the watch's is in a BAD tile is missing (R343). -/
def State.monitorInputs (s : State) (ro : Roast) (x : Slice) (bad : List Nat) : State :=
  let nc := ro.corridorRecs.length
  let ms := ro.monitorRecs
  (List.range ms.length).foldl (fun s m =>
    let b := (ms[m]?).getD []
    match ro.refBandRec b with
    | none => s
    | some (i, band) =>
      if ro.recBad bad 0x31 (nc + m) || ro.recBad bad 0x30 i || ro.recBad bad 0x30 (1 + leAt b 6 2) then
        s.setMonitor m { s.monitor m with missing := true }
      else
        let w := ro.watchRec (leAt b 6 2)
        s.setMonitor m (monitorSlice b band (bitAt (leAt w 3 1) 1) (bitAt (leAt w 3 1) 0) x (s.monitor m))) s

/-- The monitors of bands of a kind that are due update; the answer lists them too. -/
def State.monitorUpdates (s : State) (ro : Roast) (n : Nat) (bad : List Nat) (slow : Bool) : State :=
  let nc := ro.corridorRecs.length
  let ms := ro.monitorRecs
  (List.range ms.length).foldl (fun s m =>
    let b := (ms[m]?).getD []
    match ro.refBand b with
    | none => s
    | some band =>
      if bandSlow band != slow || !bandDue band n then s
      else
        let isBad := ro.recBad bad 0x31 (nc + m)
        let tb := roundF ((max 1 (leAt band 4 1) : Nat) / (max 1 ro.rate : Nat) : Rat)
        (s.setMonitor m (monitorUpdate b tb n isBad (alookup (bandIndex band) s.osc.bandOut) (fAt band 0x30) (s.monitor m))).countIf
          Reg.OSC.TILE_BAD isBad) s

/-- Whether a monitor updated at slice n. -/
def State.updatedAt (s : State) (m n : Nat) : Bool := match (s.monitor m).out with | some o => o.1 == n | none => false

/-- Every corridor with a monitor that updated at slice n (R338). -/
def State.corridors (s : State) (ro : Roast) (n : Nat) (bad : List Nat) : State :=
  let cs := ro.corridorRecs
  let ms := ro.monitorRecs
  (List.range cs.length).foldl (fun s i =>
    let b := (cs[i]?).getD []
    let c := leAt b 1 1
    let mine := (List.range ms.length).filter fun m => leAt ((ms[m]?).getD []) 1 1 == c
    if !(mine.any fun m => s.updatedAt m n) then s
    else if ro.recBad bad 0x31 i then s.count Reg.OSC.TILE_BAD
    else
      let old := (alookup c s.osc.corridors).getD {}
      let new := corridorEval b (mine.map fun m => match (s.monitor m).out with | some o => o.2.2.2 | none => 0) old
      s.setCorridor c new) s

/-- The lane's group's output rate, fixed mode (R249, R261). -/
def Roast.laneRate (ro : Roast) (lane : Nat) : Nat :=
  match (ro.recs 0x19).find? fun b => leAt b 0 1 == 2 && leAt b 1 1 == lane / 8 with
  | some b => if leAt b 5 1 = 0 then 4800 else if leAt b 5 1 = 1 then 9600 else 14400
  | none => 4800

/-- Every sub-synchronous watch (step 5). -/
def State.subSyncs (s : State) (ro : Roast) (n : Nat) (bad : List Nat) : State :=
  let ss := ro.subRecs
  (List.range ss.length).foldl (fun s k =>
    let b := (ss[k]?).getD []
    let lane := leAt b 1 1
    let isBad := ro.recBad bad 0x32 (1 + k) || ro.recBad bad 0x32 0
    let have_ := (alookup lane s.osc.samples).getD []
    let xs := ssTake ro.rate ro.subLag (ro.laneRate lane) n have_
    let old := (alookup k s.osc.subs).getD {}
    let (new, fl) := ssWork b n isBad xs old
    let s1 := ({ s with osc := { s.osc with subs := aset k new s.osc.subs } }.count Reg.OSC.SS_FLAGGED fl).countIf Reg.OSC.TILE_BAD isBad
    let s2 := s1.putBit (Reg.OSC_SS_ALERT.SS.ix (k / 32)) (k % 32) new.high.on
    if !old.high.on && new.high.on then s2.oscIrq Reg.OSC_IRQ.SS_ALERT else s2) s

/-- The run keeps what its slice's stage left, for alarm pass 2 (R380). -/
def State.noteOsc (s : State) (n : Nat) : State :=
  { s with runs := s.runs.map fun (x : Run) =>
    if x.n = n then
      { x with res := { x.res with
               bandOut := s.osc.bandOut
               bandFlags := s.osc.bands.map fun (b : Nat × Band) => (b.1, [b.2.lowDamp.on, b.2.growing.on, b.2.forced.on, b.2.highAmp.on])
               verdicts := s.osc.corridors.map fun (c : Nat × Corridor) => (c.1, c.2.verdict)
               watches := s.osc.subs.map fun (w : Nat × SubSync) => ({ k := w.1, on := w.2.high.on, out := w.2.out } : WatchRes) } }
    else x }

/-- The oscillation stage on a slice. -/
def State.oscStage (s : State) (r : Run) (rep : StageReport) : State :=
  let ro := s.runRoast r
  let x := s.sliceAt r.n
  let d := (((s.reading r.region 3).section r.region 0x30 0 false).section r.region 0x31 0 false).section r.region 0x32 0 false
  let s0 := d.s.resetDue ro r.n
  let s1 := rep.uncorrected.foldl (fun s e => s.stateError ro e) (s0.count Reg.OSC.ECC_CORRECTED rep.corrected)
  let s2 := s1.oscCmdRun ro (bitAt x.flags 3)
  let shed := decide (2 ≤ r.shed)
  let s3 := (s2.monitorInputs ro x d.bad)
  let s4 := ro.bandRecs.foldl (fun s b => s.bandFilter ro x d.bad b) s3
  let s5 := (s4.bandSlots ro r.n (ro.updateSlots - ro.slowSlots) d.bad false false).monitorUpdates ro r.n d.bad false
  let s6 := s5.bandSlots ro r.n ro.slowSlots d.bad true shed
  let s7 := if shed then s6 else s6.monitorUpdates ro r.n d.bad true
  let s8 := (s7.subSyncs ro r.n d.bad).corridors ro r.n d.bad
  let s9 := ((s8.setFlag Reg.OSC_STATUS.SHED shed).set Reg.OSC_LAST_SLICE.SLICE r.n).noteOsc r.n
  s9.stageEnd r 4 { rep with handshakes := if shed then rep.handshakes + ro.slowHs else rep.handshakes }
    (if !d.bad.isEmpty then 2 else if shed then 3 else 1)

/-! ### Swap and result windows (R346, R350) -/

/-- What the new roast's items inherit. -/
def State.carryOsc (s : State) (old new : Roast) : State :=
  let key (off : Nat) (b : Bytes) : Bytes := slice b off 8
  let ob := old.bandRecs.map (·.2)
  let bands := new.bandRecs.filterMap fun b => (carriedFrom ob (key 0x90) b.2).bind fun j =>
    (alookup (bandIndex ((ob[j]?).getD [])) s.osc.bands).map fun x => (bandIndex b.2, x)
  let nm := new.monitorRecs
  let mons := (List.range nm.length).filterMap fun m => (carriedFrom old.monitorRecs (key 0x38) ((nm[m]?).getD [])).bind fun j =>
    (alookup j s.osc.monitors).map fun x => (m, x)
  let cors := new.corridorRecs.filterMap fun b => (carriedFrom old.corridorRecs (key 0x38) b).bind fun j =>
    (alookup (leAt ((old.corridorRecs[j]?).getD []) 1 1) s.osc.corridors).map fun x => (leAt b 1 1, x)
  let ns := new.subRecs
  let subs := (List.range ns.length).filterMap fun k => (carriedFrom old.subRecs (key 0x38) ((ns[k]?).getD [])).bind fun j =>
    (alookup j s.osc.subs).map fun x => (k, x)
  let s1 := { s with osc := { s.osc with bands := bands, bandOut := [], monitors := mons, corridors := cors, subs := subs } }
  let s2 := (List.range 128).foldl (fun s j => s.set (Reg.OSC_ALERT.ALERT.ix j)
    (bands.foldl (fun w b => if b.1 / 32 = j ∧ b.2.alert then w + 2 ^ (b.1 % 32) else w) 0)) s1
  let s3 := (List.range 8).foldl (fun s j => (s.set (Reg.OSC_SS_ALERT.SS.ix j)
    (subs.foldl (fun w b => if b.1 / 32 = j ∧ b.2.high.on then w + 2 ^ (b.1 % 32) else w) 0)).set (Reg.OSC_CORR.VERDICT.ix j)
    (cors.foldl (fun w b => if b.1 / 16 = j then w + b.2.verdict * 2 ^ (2 * (b.1 % 16)) else w) 0)) s2
  s3

/-- OSC_STATUS after a roast loads or swaps in. -/
def State.showOsc (s : State) : State :=
  ((s.set Reg.OSC_STATUS.WATCHES (if s.roast.has 0x30 then s.roast.nwatch else 0)).set Reg.OSC_STATUS.MONITORS
    s.roast.monitorRecs.length).set Reg.OSC_STATUS.SUBSYNC s.roast.subRecs.length

/-- The words of the selected item. -/
def State.oscWords (s : State) (who : Requester) : OscItem → List Nat
  | .band =>
    match alookup (s.get (Reg.OSC_BAND_SEL.BAND.of who)) s.osc.bandOut with
    | some o => [o.n % 2 ^ 32, o.n / 2 ^ 32 % 2 ^ 32, o.f.toNat, o.damp.toNat, o.amp.toNat, o.flags, o.root.re.toNat, o.root.im.toNat]
    | none => List.replicate 8 0
  | .flow =>
    match (s.monitor (s.get (Reg.OSC_FLOW_SEL.MONITOR.of who))).out with
    | some o => [o.1 % 2 ^ 32, o.1 / 2 ^ 32 % 2 ^ 32, o.2.1.toNat, o.2.2.1]
    | none => List.replicate 4 0
  | .subsync =>
    match ((alookup (s.get (Reg.OSC_SS_SEL.WATCH.of who)) s.osc.subs).getD {}).out with
    | some o => [o.1 % 2 ^ 32, o.1 / 2 ^ 32 % 2 ^ 32, o.2.1.toNat, o.2.2.1.toNat, o.2.2.2]
    | none => List.replicate 5 0

/-- A window's words. -/
def OscItem.word : OscItem → Fld
  | .band => Reg.OSC_BAND.WORD | .flow => Reg.OSC_FLOW.WORD | .subsync => Reg.OSC_SS.WORD

/-- OSC_RESULT_LATCH (R350). -/
def execOscResultLatch (who : Requester) (item : OscItem) (s : State) : Out :=
  .next (
    let ws := s.oscWords who item
    (List.range ws.length).foldl (fun s k => s.set ((item.word.ix k).of who) ((ws[k]?).getD 0)) s)

end Sys2Proof.Machine
end

