-- ==== Sys2Proof/Machine/Alarm.lean ====
section
/-! DEFINITION. The alarm engine (R374 to R387). -/

namespace Sys2Proof.Machine

/-! ### Terms (R374 to R377) -/

/-- INVALID_AS of a term. -/
def termInvalidAs (b : Bytes) : Nat := bitsOf (leAt b 2 1) 2 2
/-- The pass a term is evaluated in. -/
def termPass (b : Bytes) : Nat := if leAt b 0 1 ≤ 6 then 1 else 2

/-- A term's input: not due; invalid; or a value. -/
inductive TermIn where
  | notDue
  | invalid
  | val (x : F32)
  deriving DecidableEq, Repr

/-- A value, NaN being invalid. -/
def TermIn.of (x : F32) : TermIn := if fIsNaN x then .invalid else .val x
/-- A value that is valid only where a condition holds. -/
def TermIn.when (ok : Bool) (x : F32) : TermIn := if ok then .of x else .invalid
/-- A bit as a value. -/
def fBit (b : Bool) : F32 := if b then fOne else fZero

/-- The device states an alarm pass reads (step 1 of the topology engine): the stage's own where it has run. -/
def State.deviceWords (s : State) (r : Run) : List Nat :=
  match r.topo with
  | some t => t.devs
  | none =>
    let lost := match (s.runRoast r).sec? 0x40 0 with
      | some x => x.tiles.filter fun t => s.tileLost r.region t
      | none => []
    (s.resolveAll r lost).map DevOut.word

/-- The estimator's output for a slice. -/
def State.lseAt (s : State) (n : Nat) : Option LseOut := (s.lse.ring.find? fun e => e.2.n == n).map (·.2)

/-- A term's input in a slice (R375); `devs` are the device words. -/
def State.termIn (s : State) (r : Run) (x : Slice) (devs : List Nat) (b : Bytes) : TermIn :=
  let kind := leAt b 0 1
  let fl := leAt b 2 1
  let src := leAt b 4 4
  let sub := leAt b 8 4
  let ok (k : Nat) : Bool := x.usable (bitAt fl 1) (bitAt fl 0) k
  let out := s.lseAt r.n
  let node (j : Nat) : Cpx := match out with | some o => (o.x[j]?).getD cNaN | none => cNaN
  if kind ≤ 4 then
    if (x.slot src).q = 0 ∨ (kind = 3 ∧ (x.slot sub).q = 0) then .notDue
    else if kind = 1 then .when (ok src) (x.real src)
    else if kind = 2 then .when (ok src) (cAbs (x.slot src).v)
    else if kind = 3 then .when (ok src && ok sub) (fWrap (fSub (cArg (x.slot src).v) (cArg (x.slot sub).v)))
    else .when (ok src && bitAt (x.word src) (16 + sub)) (fBit (bitAt (x.word src) sub))
  else if kind = 5 then
    let w := (devs[src]?).getD 0
    .when (!(bitAt w 7 && !bitAt fl 4) && !bitAt w 14) (fBit (bitAt w 0))
  else if kind = 6 then .val (fBit (bitAt r.sys src))
  else if kind = 7 then .of (cAbs (node src))
  else if kind = 8 then .of (if cIsNaN (node src) || cIsNaN (node sub) then fNaN else fWrap (fSub (cArg (node src)) (cArg (node sub))))
  else if kind = 9 then .of (match out with | some o => (o.rn[src]?).getD fNaN | none => fNaN)
  else if kind = 10 then
    match alookup src r.res.bandOut with
    | none => .when (decide (3 ≤ sub)) (fBit (((((alookup src r.res.bandFlags).getD [])[sub - 3]?).getD false)))
    | some o =>
      if sub = 0 then .of o.f else if sub = 1 then .of o.damp else if sub = 2 then .of o.amp
      else .when (!bitAt o.flags 5 && !bitAt o.flags 8) (fBit ((((alookup src r.res.bandFlags).getD [])[sub - 3]?).getD false))
  else if kind = 11 then .val (fOfInt ((alookup src r.res.verdicts).getD 0))
  else if kind = 12 then
    let w := r.res.watches.find? fun w => w.k == src
    if sub = 0 then .val (fBit (match w with | some w => w.on | none => false))
    else match w.bind (·.out) with
      | some o => .when (bitAt o.2.2.2 0) o.2.2.1
      | none => .invalid
  else if kind = 13 then
    let m := (alookup src r.res.pairs).getD {}
    .when (!m.tileBad && !m.stale) (fOfInt m.state)
  else .when (match r.topo with | some t => t.valid | none => false) (fOfInt (min 255 r.res.islandCount))

/-- Condition and release (R376). -/
def termCmp (b : Bytes) (x : F32) : Bool × Bool :=
  let th := fAt b 0xC
  let hy := fAt b 0x10
  let lo := fSub th hy
  match leAt b 1 1 with
  | 0 => (fLt th x, fLt x lo)
  | 1 => (fLt x th, fLt (fAdd th hy) x)
  | 2 => (fLt th (fAbs x), fLt (fAbs x) lo)
  | 3 => (fLe x th && fLe th x, !(fLe x th && fLe th x))
  | _ => (fLe th x, fLt x lo)

/-- One evaluation of a term (R376): START is taken only by a valid evaluation, and one invalid under HOLD is not the first. -/
def termEval (b : Bytes) (n : Nat) (i : TermIn) (m : TermMem) : TermMem :=
  match i with
  | .notDue => { m with notDue := true }
  | _ =>
    let (valid, x) := match i with | .val x => (true, x) | _ => (false, fNaN)
    let m := { m with n := n, x := x, valid := valid, start := false, notDue := false }
    let inv := termInvalidAs b
    if !valid && inv == 0 then m
    else
      let (cond, rel) := if valid then termCmp b x else (inv == 2, inv == 1)
      if m.fresh && valid then { m with on := cond, a := 0, c := 0, fresh := false, start := true }
      else if !m.on then
        let a := if cond then min (m.a + 1) 65535 else 0
        if leAt b 0x14 2 ≤ a then { m with on := true, a := 0, fresh := false } else { m with a := a, fresh := false }
      else
        let c := if rel then min (m.c + 1) 65535 else 0
        if leAt b 0x16 2 ≤ c then { m with on := false, c := 0, fresh := false } else { m with c := c, fresh := false }

/-- A term. -/
def State.term (s : State) (t : Nat) : TermMem := (alookup t s.alm.terms).getD {}

/-- Term t of a pass evaluated. -/
def State.evalTerm (s : State) (r : Run) (ro : Roast) (x : Slice) (devs bad : List Nat) (t : Nat) : State :=
  let b := ro.recAt 0x50 t
  let i := if ro.recBad bad 0x50 t then .invalid else s.termIn r x devs b
  let old := s.term t
  let new := termEval b r.n i old
  let s1 := { s with alm := { s.alm with terms := aset t new s.alm.terms } }.putBit (Reg.ALM_TERM_STATE.STATE.ix (t / 32)) (t % 32) new.on
  (s1.countIf Reg.ALM.TERM_CHANGES (old.on != new.on)).countIf Reg.ALM.TERM_INVALID (i == .invalid)

/-! ### Rules (R378, R379) -/

/-- What a pass reads of decided terms and rules: those of pass 1 as pass 1 of the slice decided them. -/
structure Decided where
  termOn : Nat → Bool
  ruleOn : Nat → Bool

/-- The view of a pass. -/
def State.decided (s : State) (r : Run) (ro : Roast) (pass : Nat) : Decided :=
  { termOn := fun t => if pass = 2 ∧ termPass (ro.recAt 0x50 t) = 1 then r.p1Terms.contains t else (s.term t).on
    ruleOn := fun k => if pass = 2 ∧ leAt (ro.recAt 0x51 k) 2 1 = 1 then r.p1Rules.contains k else s.alm.rules.contains k }

/-- True inputs of a rule. -/
def ruleCount (b : Bytes) (d : Decided) : Nat :=
  ((List.range (leAt b 0 1)).filter fun i =>
    let w := leAt b (4 + 2 * i) 2
    (if bitAt w 15 then d.ruleOn (w % 4096) else d.termOn (w % 4096)) != bitAt w 14).length

/-- Rule k evaluated; the answer lists it where it changed. -/
def State.evalRule (s : State) (r : Run) (ro : Roast) (pass : Nat) (bad : List Nat) (k : Nat) : State × List (Nat × Bool) :=
  let b := ro.recAt 0x51 k
  let ack := s.alm.acks.contains k
  let s1 := { s with alm := { s.alm with acks := s.alm.acks.filter (· != k) } }
  if ro.recBad bad 0x51 k then (s, [])
  else
    let old := s.alm.rules.contains k
    let true_ := decide (leAt b 1 1 ≤ ruleCount b (s.decided r ro pass))
    let new := if bitAt (leAt b 3 1) 0 && old then !(ack && !true_) else true_
    if new = old then (s1, [])
    else
      let rs := if new then s.alm.rules ++ [k] else s.alm.rules.filter (· != k)
      ((({ s1 with alm := { s1.alm with rules := rs } }).putBit (Reg.ALM_RULE_STATE.STATE.ix (k / 32)) (k % 32) new).count
        Reg.ALM.RULE_CHANGES, [(k, new)])

/-! ### Mappings and pins (R381, R382) -/

/-- The roast whose mappings are in force. -/
def State.almRoast (s : State) : Roast := (s.region s.alm.region).getD {}

/-- Mapping records with their positions, but for those in a BAD tile. -/
def State.maps (s : State) : List Bytes :=
  let rs := s.almRoast.recs 0x52
  ((List.range rs.length).filter fun i => !s.alm.badMaps.contains i).filterMap fun i =>
    match rs[i]? with
    | some b => if leAt b 0 1 = 2 then some b else none
    | none => none

/-- RULE of a mapping. -/
def mapRule (b : Bytes) : Nat := leAt b 2 2
/-- TARGET of a mapping. -/
def mapTarget (b : Bytes) : Nat := leAt b 4 2

/-- ALM_OUT pins take their levels (R59, R382); `on` while the engine runs or shuts down. -/
def State.almLevels (s : State) (on : Bool) : State :=
  let test := if s.flag Reg.SAU_STATUS.TEST_PERMIT then s.get Reg.ALM_TEST.PIN else 0
  let rulePin (k : Nat) : Bool := on && !s.bit Reg.ALM_PIN_MASK.MASK k &&
    s.maps.any fun b => leAt b 1 1 == 1 && mapTarget b == k && s.alm.rules.contains (mapRule b)
  let w := (List.range 16).foldl (fun a k => a + 2 ^ k * b2n (s.operating && (rulePin k || bitAt test k))) 0
  ({ s with pins := { s.pins with almLow := w } }.set Reg.ALM_PIN_OUT.OUT w).setFlag Reg.ALM_STATUS.TEST_ACTIVE
    (s.operating && test != 0)

/-- ALM_OUT pins take their levels. -/
def State.almPins (s : State) : State := s.almLevels (s.flag Reg.ALM_CTL.BUSY)

/-! ### Publications (R383, R384) -/

/-- The TYPE 1 record of publication k. -/
def Roast.pubRec (r : Roast) (k : Nat) : Option Bytes := (r.recs 0x52).find? fun b => leAt b 0 1 == 1 && leAt b 1 1 == k

/-- A publication. -/
def State.pub (s : State) (k : Nat) : PubMem := (alookup k s.alm.pubs).getD {}
/-- A publication replaced. -/
def State.setPub (s : State) (k : Nat) (x : PubMem) : State := { s with alm := { s.alm with pubs := aset k x s.alm.pubs } }

/-- The bits of a publication now, after the frame masks. -/
def State.pubBits (s : State) (k nbit : Nat) : List Bool :=
  let mine := s.maps.filter fun b => leAt b 1 1 == 2 && mapTarget b == k
  (List.range nbit).map fun i => mine.any fun b =>
    leAt b 6 2 == i && s.alm.rules.contains (mapRule b) && !s.bit (Reg.ALM_FRAME_MASK.MASK.ix (mapRule b / 32)) (mapRule b % 32)

/-- A BER length. -/
def berLen (n : Nat) : Bytes :=
  if n < 128 then beBytes 1 n else if n < 256 then 0x81 :: beBytes 1 n else 0x82 :: beBytes 2 n
/-- A BER element. -/
def ber (tag : Byte) (bs : Bytes) : Bytes := tag :: (berLen bs.length ++ bs)
/-- An unsigned number in the fewest bytes, its top bit clear. -/
def berNat (v : Nat) : Bytes :=
  let n := Nat.log2 (max 1 v) / 8 + 1
  if bitAt v (8 * n - 1) then 0 :: beBytes n v else beBytes n v
/-- An ASCII field without its zero padding. -/
def asciiAt (b : Bytes) (off n : Nat) : Bytes := (slice b off n).takeWhile (· != 0)

/-- The SPDU around a payload (IEC 61850-90-5, log entry 61): session identifier, SPDU number, algorithm, key ID; the tag covers the bytes
from the session identifier on. -/
def spdu (si : Byte) (num alg keyId : Nat) (payload : Bytes) (key : Option Bytes) : Bytes :=
  let len := payload.length
  let body := [si, 0x18, 0x80, 0x16] ++ beBytes 4 (24 + len) ++ beBytes 4 num ++ beBytes 2 1 ++ beBytes 4 0 ++ beBytes 2 0 ++
    [0, BitVec.ofNat 8 alg] ++ beBytes 4 keyId ++ beBytes 4 len ++ payload
  let sig := match key with
    | some k => (Config.hmac k body).take 16
    | none => []
  [0x01, 0x40] ++ body ++ [0x85, BitVec.ofNat 8 sig.length] ++ sig

/-- The R-GOOSE APDU of a publication (R383); the quality octet of t is a free value (log entry 1). -/
def State.gooseApdu (s : State) (b : Bytes) (p : PubMem) (tal : Nat) : Bytes :=
  let t := beBytes 4 (s.soc p.at_) ++ beBytes 3 (p.at_ % secUnit * 2 ^ 24 / secUnit) ++ beBytes 1 (s.freeVal 8)
  ber 0x61 (ber 0x80 (asciiAt b 0x40 64) ++ ber 0x81 (berNat tal) ++ ber 0x82 (asciiAt b 0x80 64) ++ ber 0x83 (asciiAt b 0xC0 56) ++ ber 0x84 t ++
    ber 0x85 (berNat p.st) ++ ber 0x86 (berNat p.sq) ++ ber 0x87 (beBytes 1 (b2n (s.flag Reg.ALM_STATUS.TEST_ACTIVE))) ++
    ber 0x88 (berNat (leAt b 0xC 4)) ++ ber 0x89 [0] ++ ber 0x8A (berNat (leAt b 8 2)) ++
    ber 0xAB (p.bits.flatMap fun v => ber 0x83 (beBytes 1 (b2n v))))

/-- The C37.118 alarm frame of a publication (R383); FORM 2 names no TIME_BASE, which is taken as 1,000,000 (log entry 62). -/
def State.alarmC37 (s : State) (k : Nat) (b : Bytes) (p : PubMem) : Bytes :=
  let low := findPos id p.bits
  let reason := match low with
    | some i => match s.maps.find? fun m => leAt m 1 1 == 2 && mapTarget m == k && leAt m 6 2 == i with
      | some m => leAt m 8 1
      | none => 0
    | none => 0
  let stat := 2 ^ 15 * b2n (s.flag Reg.ALM_STATUS.TEST_ACTIVE) + 2 ^ 11 * b2n low.isSome + p.stat + reason
  let words := (List.range (ceilDiv p.bits.length 16)).flatMap fun w =>
    beBytes 2 ((List.range 16).foldl (fun a i => a + 2 ^ i * b2n ((p.bits[16 * w + i]?).getD false)) 0)
  let sf := s.socFrac p.at_ 1000000 p.tq
  c37Frame (leAt b 0xA 2) sf.1 sf.2 (beBytes 2 stat ++ beBytes 4 0 ++ beBytes 4 0 ++ words)

/-- The interval after a publication's latest frame (R384), in ms. -/
def pubInterval (b : Bytes) (j : Nat) : Nat := min (leAt b 4 2 * 2 ^ min j 20) (leAt b 6 2)

/-- A publication with SECURITY 1 and no key sends nothing. -/
def State.noKey (s : State) (k : Nat) (b : Bytes) : Bool := leAt b 0x10 1 == 1 && (alookup k s.alm.keys).isNone

/-- A publication's frame is built and offered to queue 7 of its port, and the next one is scheduled after `from_`. -/
def State.pubSend (s : State) (k : Nat) (b : Bytes) (from_ : Tai) : State :=
  let p := s.pub k
  if s.noKey k b then
    ((s.setPub k { p with next := none }).count Reg.ALM.PUB_NOKEY).irq Reg.ALM_IRQ.PUB_NOKEY Reg.ALM_IRQ_MASK.MASK 72
  else
    let iv := pubInterval b p.j
    let port := leAt b 3 1
    let key := alookup k s.alm.keys
    let v6 := leAt b 0x11 1 == 6
    let goose := leAt b 2 1 == 1
    let apdu := s.gooseApdu b p (2 * iv)
    let payload := if goose then
        spdu 0xA1 p.spdu (if leAt b 0x10 1 = 1 then 2 else 0) ((key.map (·.1)).getD 0)
          ([0x81, BitVec.ofNat 8 (b2n (s.flag Reg.ALM_STATUS.TEST_ACTIVE))] ++ beBytes 2 (leAt b 0xA 2) ++ beBytes 2 (apdu.length + 2) ++ apdu)
          (if leAt b 0x10 1 = 1 then key.map (·.2) else none)
      else s.alarmC37 k b p
    let s0 := s.tookFree
    let h : UdpHead :=
      { v6 := v6, dstMac := slice b 0x18 6, srcMac := s.srcMac port, tci := leAt b 0x16 2, dscp := leAt b 0x1E 1, ttl := leAt b 0x1F 1
        ident := s0.freeVal 16, srcIp := ipAt b 0x30 v6, dstIp := ipAt b 0x20 v6, srcPort := leAt b 0x14 2, dstPort := leAt b 0x12 2 }
    let f : TxFrame := { src := .alarm k, bytes := h.frame payload }
    let s1 := (s0.tookFree.setPub k { p with spdu := (p.spdu + 1) % 2 ^ 32, next := some (from_ + iv * msUnit) }).count (Reg.ALM.PUB_FRAMES.ix k)
    let s2 := (s1.set (Reg.ALM_PUB.STNUM.ix k) p.st).set (Reg.ALM_PUB.SQNUM.ix k) p.sq
    if s2.paired port f then
      let c := s2.pairCopies f
      let s3 := { s2 with ports := { s2.ports with redSeq := (s2.ports.redSeq + 1) % 65536 } }
      (s3.enqueueAlarm 4 k c.1).enqueueAlarm 5 k c.2
    else s2.enqueueAlarm port k f

/-- stNum and sqNum wrap from 2^32 − 1 to 1. -/
def pubNext (v : Nat) : Nat := if v = 2 ^ 32 - 1 then 1 else v + 1

/-- A publication whose bits have changed sends a change frame (R384). -/
def State.pubCheck (s : State) (t : Tai) (k : Nat) : State :=
  match s.almRoast.pubRec k with
  | none => s
  | some b =>
    let p := s.pub k
    let bits := s.pubBits k (leAt b 8 2)
    let old := if p.bits.isEmpty then List.replicate (leAt b 8 2) false else p.bits
    if bits = old then s
    else if s.noKey k b then (s.setPub k { p with bits := bits }).pubSend k b s.time.tai
    else
      let stat := 2 ^ 13 * b2n (s.flag Reg.TSU_QUALITY.SYNC_ERR) + 2 ^ 6 * s.get Reg.TSU_QUALITY.STAT_TQ + 2 ^ 4 * s.get Reg.TSU_QUALITY.UNLOCKED
      (s.setPub k { p with bits := bits, st := pubNext p.st, sq := 0, j := 0, at_ := t, stat := stat, tq := s.get Reg.TSU_QUALITY.TQ }).pubSend k b
        s.time.tai

/-- Every publication, lowest number first. -/
def State.pubsCheck (s : State) (t : Tai) : State := (List.range 16).foldl (fun s k => s.pubCheck t k) s

/-- PUB_RETRANSMIT (R384). -/
def execPubRetransmit (k : Nat) (t : Tai) (s : State) : Out :=
  .next (
    let s := s.moveTo t
    let k := k % 16
    let p := s.pub k
    match p.next, s.almRoast.pubRec k with
    | some u, some b =>
      if u ≤ s.time.tai ∧ s.blockRuns .alarm then (s.setPub k { p with j := p.j + 1, sq := pubNext p.sq }).pubSend k b u else s
    | _, _ => s)

/-! ### Passes (R380, R385, R386) -/

/-- What a changed rule's mappings do (R385). -/
def State.ruleOutputs (s : State) (n pass : Nat) (c : Nat × Bool) : State :=
  (s.maps.filter fun b => mapRule b == c.1).foldl (fun s b =>
    match leAt b 1 1 with
    | 3 => (s.putBit (Reg.ALM_RULE_IRQ.CHG.ix (c.1 / 32)) (c.1 % 32) true).irq Reg.ALM_IRQ.RULE Reg.ALM_IRQ_MASK.MASK 72
    | 4 => s.log (evCode 17 0) 0 (evIndex c.1 ++ leBytes 1 (b2n c.2) ++ leBytes 8 n ++ leBytes 1 pass)
    | 5 => if c.2 then (s.capTrigger (mapTarget b) (sliceTime s.almRoast.rate n) n false).1 else s
    | _ => s) s

/-- Configured terms, rules and publications as the registers show them. -/
def State.showAlm (s : State) : State :=
  let ro := s.roast
  let s1 := (s.set Reg.ALM_STATUS.TERMS (ro.recs 0x50).length).set Reg.ALM_STATUS.RULES (ro.recs 0x51).length
  (List.range 16).foldl (fun s k => (s.setFlag (Reg.ALM_PUB.CONFIGURED.ix k) (ro.pubRec k).isSome).setFlag (Reg.ALM_PUB.KEYED.ix k)
    ((alookup k s.alm.keys).isSome)) s1

/-- The state registers of every term and rule. -/
def State.showAlmStates (s : State) : State :=
  let s1 := (List.range 64).foldl (fun s j => s.set (Reg.ALM_TERM_STATE.STATE.ix j)
    ((List.range 32).foldl (fun a i => a + 2 ^ i * b2n (s.term (32 * j + i)).on) 0)) s
  (List.range 16).foldl (fun s j => s.set (Reg.ALM_RULE_STATE.STATE.ix j)
    ((List.range 32).foldl (fun a i => a + 2 ^ i * b2n (s.alm.rules.contains (32 * j + i))) 0)) s1

/-- CARRY_KEY of terms and rules. -/
def almKey (b : Bytes) : Bytes := slice b 0x38 8

/-- What the terms of a new roast inherit from an old one's. -/
def carryTerms (old new : Roast) (ms : List (Nat × TermMem)) : List (Nat × TermMem) :=
  let nt := new.recs 0x50
  (List.range nt.length).filterMap fun t => (carriedFrom (old.recs 0x50) almKey ((nt[t]?).getD [])).bind fun j =>
    (alookup j ms).map fun m => (t, m)

/-- The rules of a new roast that inherit a place in a list of an old one's. -/
def carryRules (old new : Roast) (l : List Nat) : List Nat :=
  let nr := new.recs 0x51
  (List.range nr.length).filter fun r =>
    match carriedFrom (old.recs 0x51) almKey ((nr[r]?).getD []) with
    | some j => l.contains j
    | none => false

/-- The active roast's terms, rules and publications take over from the old roast's (R386): those with a matching key inherit. While pass 2
of a slice below D is still to come, the old roast's terms and rules stay for it. -/
def State.almTakeover (s : State) : State :=
  if s.alm.region = s.activeRegion then s
  else
    let old := s.almRoast
    let new := s.roast
    let late := s.runs.any fun r => r.region != s.activeRegion && !r.has 6
    let op := (old.recs 0x52).filter fun b => leAt b 0 1 == 1
    let pubs := ((new.recs 0x52).filter fun b => leAt b 0 1 == 1).filterMap fun b =>
      (carriedFrom op (fun b => slice b 0xF8 8) b).bind fun j => (alookup (leAt ((op[j]?).getD []) 1 1) s.alm.pubs).map fun p => (leAt b 1 1, p)
    ({ s with alm := { s.alm with terms := carryTerms old new s.alm.terms, rules := carryRules old new s.alm.rules
                                  acks := carryRules old new s.alm.acks, pubs := pubs, region := s.activeRegion, badMaps := []
                                  prev := if late then some (s.alm.terms, s.alm.rules) else none } }).showAlmStates

/-- Terms of a pass. -/
def Roast.termsOf (ro : Roast) (pass : Nat) : List Nat := (List.range (ro.recs 0x50).length).filter fun t => termPass (ro.recAt 0x50 t) == pass
/-- Rules of a pass. -/
def Roast.rulesOf (ro : Roast) (pass : Nat) : List Nat := (List.range (ro.recs 0x51).length).filter fun k => leAt (ro.recAt 0x51 k) 2 1 == pass

/-- Terms and rules of a pass evaluated; the answer lists the rules that changed. -/
def State.evalPass (s : State) (r : Run) (ro : Roast) (pass : Nat) (bad : List Nat) : State × List (Nat × Bool) :=
  let x := s.sliceAt r.n
  let devs := if pass = 1 then s.deviceWords r else []
  let s1 := (ro.termsOf pass).foldl (fun s t => s.evalTerm r ro x devs bad t) s
  (ro.rulesOf pass).foldl (fun a k => let e := a.1.evalRule r ro pass bad k; (e.1, a.2 ++ e.2)) (s1, [])

/-- Pass 2 of a slice below D after the takeover: the old roast's terms and rules are evaluated, and what the new roast's of pass 2 inherit
follows (R380, R386). -/
def State.latePass (s : State) (r : Run) (bad : List Nat) : State :=
  match s.alm.prev with
  | none => s
  | some (ts, rs) =>
    let ro := s.runRoast r
    let new := s.almRoast
    let a := ({ s with alm := { s.alm with terms := ts, rules := rs } }.evalPass r ro 2 bad).1
    let isP2 (t : Nat) : Bool := termPass (new.recAt 0x50 t) == 2
    let isR2 (k : Nat) : Bool := leAt (new.recAt 0x51 k) 2 1 == 2
    ({ a with alm := { a.alm with
        terms := (s.alm.terms.filter fun (e : Nat × TermMem) => !isP2 e.1) ++
          (carryTerms ro new a.alm.terms).filter fun (e : Nat × TermMem) => isP2 e.1
        rules := (s.alm.rules.filter fun (k : Nat) => !isR2 k) ++ (carryRules ro new a.alm.rules).filter isR2
        prev := some (a.alm.terms, a.alm.rules) } }).showAlmStates

/-- The run keeps what pass 1 decided. -/
def State.noteP1 (s : State) (n : Nat) : State :=
  { s with runs := s.runs.map fun (x : Run) =>
    if x.n = n then { x with p1Terms := (s.alm.terms.filter fun e => e.2.on).map (·.1), p1Rules := s.alm.rules } else x }

/-- A pass's outputs: pins, mappings of the changed rules, publications. -/
def State.passOutputs (s : State) (n pass : Nat) (ch : List (Nat × Bool)) : State :=
  (ch.foldl (fun s c => s.ruleOutputs n pass c) s.almPins).pubsCheck (sliceTime s.almRoast.rate n)

/-- A pass of the alarm engine on a slice. A pass 2 of a slice below a swap's D that ends after the close of D is logged and drives no
output. -/
def State.alarmPass (s : State) (r : Run) (pass : Nat) (rep : StageReport) : State :=
  let ro := s.runRoast r
  let e := if pass = 1 then 5 else 6
  let stage := if pass = 1 then 1 else 6
  if !s.blockRuns .alarm then s.stageEnd r stage { rep with handshakes := ro.handshakes e } 0
  else
    let late := pass == 2 && r.region != s.activeRegion
    let s0 := if pass = 1 ∧ r.region = s.activeRegion then s.almTakeover else s
    let d := (((s0.reading r.region e).section r.region 0x50 0 true).section r.region 0x51 0 true).section r.region 0x52 0 true
    let s1 := if r.region = d.s.alm.region then { d.s with alm := { d.s.alm with
      badMaps := (List.range (ro.recs 0x52).length).filter fun i => ro.recBad d.bad 0x52 i } } else d.s
    let a := if r.region = s1.alm.region then s1.evalPass r ro pass d.bad else (s1.latePass r d.bad, [])
    let s2 := if pass = 1 then { a.1.noteP1 r.n with sau := { a.1.sau with refused := false } }.set Reg.ALM_LAST_SLICE.SLICE r.n else a.1
    let s3 := if late then s2.log (evCode 17 1) 0 (leBytes 8 r.n) else s2.passOutputs r.n pass a.2
    s3.tileHealth.stageEnd r stage rep (if d.bad.isEmpty then 1 else 2)

/-! ### Registers (R382, R384, R386, R395) -/

/-- A start: every term and rule deasserted with zero counts, stNum from 1; keys stay loaded. -/
def State.almStart (s : State) : State :=
  ({ s with alm := { keys := s.alm.keys, region := s.activeRegion } }.showAlm.showAlmStates).almPins

/-- A shutdown has quiesced: pins released, publications stopped. -/
def State.almStopped (s : State) : State :=
  { s with alm := { s.alm with pubs := s.alm.pubs.map fun (e : Nat × PubMem) => (e.1, { e.2 with next := none }) } }.almLevels false

/-- ALARM_ENGINE_ENABLE (R106, R386). -/
def execAlarmEngineEnable (who : Requester) (en : Bool) (s : State) : Out :=
  .next (s.open_ who Reg.ALM_CTL.EN.base fun s => s.enWrite .alarm en State.almStart id)

/-- ALM_PIN_MASK_WRITE (R382). -/
def execAlmPinMaskWrite (who : Requester) (v : Nat) (s : State) : Out :=
  .next (s.open_ who Reg.ALM_PIN_MASK.MASK.base fun s => (s.set Reg.ALM_PIN_MASK.MASK v).almPins)

/-- ALM_FRAME_MASK_WRITE (R384): each publication whose bits change sends a change frame; t is the write's instant. -/
def execAlmFrameMaskWrite (who : Requester) (j v : Nat) (t : Tai) (s : State) : Out :=
  .next ((s.moveTo t).open_ who (Reg.ALM_FRAME_MASK.MASK.ix (j % 16)).base fun s =>
    let s1 := s.set (Reg.ALM_FRAME_MASK.MASK.ix (j % 16)) v
    if s1.blockRuns .alarm then s1.pubsCheck s1.time.tai else s1)

/-- ALM_RULE_ACK (R379): release requests, kept until the rules' next evaluation. -/
def execAlmRuleAck (who : Requester) (j v : Nat) (s : State) : Out :=
  .next (s.open_ who (Reg.ALM_RULE_ACK.ACK.ix (j % 16)).base fun s =>
    let new := ((List.range 32).filter (bitAt v)).map (32 * (j % 16) + ·)
    { s with alm := { s.alm with acks := s.alm.acks ++ new.filter fun k => !s.alm.acks.contains k } })

/-- ALM_TEST (R382): without TEST_PERMIT a nonzero value is ignored and counted. -/
def execAlmTest (who : Requester) (v : Nat) (s : State) : Out :=
  .next (s.guarded who Reg.ALM_TEST.PIN.base fun s =>
    if v % 65536 ≠ 0 ∧ !s.flag Reg.SAU_STATUS.TEST_PERMIT then s.count Reg.SAU.TEST_REFUSED
    else (s.set Reg.ALM_TEST.PIN v).almPins)

/-- ALM_TERM_LATCH (R395). -/
def execAlmTermLatch (who : Requester) (s : State) : Out :=
  .next (
    let m := s.term (s.get (Reg.ALM_TERM_SEL.TERM.of who))
    let ws := [m.n % 2 ^ 32, m.n / 2 ^ 32 % 2 ^ 32, m.x.toNat, b2n m.on + 2 * b2n m.valid + 4 * b2n m.start + 8 * b2n m.notDue, m.a + 2 ^ 16 * m.c]
    (List.range 5).foldl (fun s k => s.set ((Reg.ALM_TERM.WORD.ix k).of who) ((ws[k]?).getD 0)) s)

/-- ALM_KEY_LOAD (R383, R395): the key is current at the publication's next frame; the data registers are cleared. -/
def execAlmKeyLoad (who : Requester) (s : State) : Out :=
  .next (s.guarded who Reg.ALM_KEY_CMD.OP.base fun s =>
    let k := s.get Reg.ALM_KEY_SEL.PUB
    let key := (List.range 8).flatMap fun i => leBytes 4 (s.get (Reg.ALM_KEY_DATA.KEY.ix i))
    let s1 := { s with alm := { s.alm with keys := aset k (s.get Reg.ALM_KEY_ID.ID, key) s.alm.keys } }
    ((List.range 8).foldl (fun s i => s.set (Reg.ALM_KEY_DATA.KEY.ix i) 0) s1).setFlag (Reg.ALM_PUB.KEYED.ix k) true)

/-- ALM_KEY_ERASE. -/
def execAlmKeyErase (who : Requester) (s : State) : Out :=
  .next (s.guarded who Reg.ALM_KEY_CMD.OP.base fun s =>
    let k := s.get Reg.ALM_KEY_SEL.PUB
    { s with alm := { s.alm with keys := aerase k s.alm.keys } }.setFlag (Reg.ALM_PUB.KEYED.ix k) false)

end Sys2Proof.Machine
end

