-- ==== Sys2Proof/Machine/EventLog.lean ====
section
/-! DEFINITION. The event recorder (R493 to R501): writing entries and checkpoints to the NVS, the hold queue, freeze, full,
clear, and the read windows. Accepting an event stands in Ops.lean. -/

namespace Sys2Proof.Machine

/-- One 64-byte entry (R493): FLAGS is given whole. -/
def entryBytes (seq : Nat) (r : LogRec) (flags : Nat) (data chain : Bytes) : Bytes :=
  leBytes 8 seq ++ taiBytes r.time ++ leBytes 1 r.code ++ leBytes 1 r.source ++ leBytes 1 flags ++ [0] ++
  leBytes 4 r.suppressed ++ (data ++ List.replicate (24 - data.length) 0) ++ chain.take 8

/-- FLAGS of entry `k` of a record of `n` entries. -/
def entryFlags (r : LogRec) (k n : Nat) : Nat := b2n r.timeInvalid + (if k = 0 then 4 * (n - 1) else 2)

/-- Log positions (R493). -/
def logPositions : Nat := 32768

/-- A checkpoint over the entry just written (R497): signed with the log key by the hardware path, or unsigned and logged. -/
def State.logCheckpoint (s : State) (clear : Bool) : State :=
  let seq := s.nvs.nextSeq - 1
  let fl := 2 * b2n (s.flag Reg.SEC_STATUS.ROOT_SUBST) + 4 * b2n clear
  let put (s : State) (c : Checkpoint) : State :=
    (({ s with nvs := { s.nvs with checkpoints := (c :: s.nvs.checkpoints).take 130 } }).count Reg.EVR.CHECKPOINTS).irq
      Reg.EVR_IRQ.CKPT Reg.EVR_IRQ_MASK.MASK 113
  match s.slotValue 10 with
  | some k =>
    put s { seq := seq, flags := fl, d := s.nvs.chain
            sig := Config.ed25519Sign k (signedText "MZ7416 log v1" (leBytes 8 seq ++ s.nvs.chain)) }
  | none =>
    (put s { seq := seq, flags := fl + 1, d := s.nvs.chain, sig := List.replicate 64 0 }).logOwn 6 0 (leBytes 8 seq)

/-- One entry takes the next SEQ and the next position, and the chain runs on (R493, R497). -/
def State.putEntry (s : State) (r : LogRec) (k n : Nat) (clear : Bool) : State :=
  let e := entryBytes s.nvs.nextSeq r (entryFlags r k n) ((r.data.drop (24 * k)).take 24) s.nvs.chain
  let s1 := { s with nvs := { s.nvs with
    log := s.nvs.log ++ [e], chain := Config.sha512 (s.nvs.chain ++ e), nextSeq := s.nvs.nextSeq + 1 } }
  let s2 := s1.set Reg.EVR_STATUS.COUNT s1.nvs.log.length
  let s3 := if s1.nvs.log.length = 1 then s2.set Reg.EVR_FIRST_SEQ.SEQ s.nvs.nextSeq else s2
  if clear || s.nvs.nextSeq % 256 == 0 then s3.logCheckpoint clear else s3

/-- A record written whole (R493). -/
def State.writeRecord (s : State) (r : LogRec) (clear : Bool) : State :=
  (List.range r.entries).foldl (fun s k => s.putEntry r k r.entries clear) s

/-- LOG_FULL (R499): its entry stands in the reserved position, positions passed over stay empty, recording stops, and every
record still on its way counts in DROP_FULL. -/
def State.logFills (s : State) : State :=
  let full := s.mkRec 2 0 (leBytes 8 (s.get Reg.EVR.DROP_FULL)) 0
  let pad := List.replicate (logPositions - 1 - s.nvs.log.length) (List.replicate 64 (0 : Byte))
  let s1 := { s with nvs := { s.nvs with log := s.nvs.log ++ pad } }
  let s2 := (s1.putEntry full 0 1 false).count Reg.EVR.ACCEPTED
  let s3 := { s2 with nvs := { s2.nvs with logFull := true }, evr := { s2.evr with ready := [] } }
  ((s3.setFlag Reg.EVR_STATUS.FULL true).count Reg.EVR.DROP_FULL s2.evr.ready.length).irq
    Reg.EVR_IRQ.FULL Reg.EVR_IRQ_MASK.MASK 113

/-- LOG_ENTRY_WRITE (R496 to R500): the oldest record on its way reaches the NVS; nothing is written while the recorder is frozen,
a clear is in progress, or the NVS is not mounted. -/
def execLogEntryWrite (s : State) : Out :=
  .next (
    if s.evr.frozenAt.isSome || s.evr.clearing.isSome || !s.evr.mounted then s
    else match s.evr.ready with
    | [] => s
    | r :: rest =>
      if s.nvs.log.length + r.entries < logPositions then
        ({ s with evr := { s.evr with ready := rest } }).writeRecord r false
      else s.logFills)

/-- The hold queue goes on its way, a HOLD_LOST record first where records were lost; nothing moves while another cause
holds records (R498). -/
def State.logRelease (s : State) : State :=
  if s.logHolds then s
  else
    let held := s.evr.held
    let lost := s.evr.lost
    let s1 := { s with evr := { s.evr with held := [], lost := 0 } }.set Reg.EVR_STATUS.HOLD 0
    let s2 := if lost = 0 then s1 else s1.logOwn 3 0 (leBytes 4 lost)
    held.foldl State.logReady s2

/-- EVR_FREEZE (R498): 1 stops the writing, a second 1 leaves the time it was set; 0 releases the queue. -/
def execEvrFreeze (who : Requester) (on : Bool) (s : State) : Out :=
  .next (s.open_ who Reg.EVR_FREEZE.FREEZE.base fun s =>
    if on then
      let t := match s.evr.frozenAt with | some t => t | none => s.time.elapsed
      ({ s with evr := { s.evr with frozenAt := some t } }.setFlag Reg.EVR_FREEZE.FREEZE true).setFlag
        Reg.EVR_STATUS.FROZEN true
    else
      (({ s with evr := { s.evr with frozenAt := none } }.setFlag Reg.EVR_FREEZE.FREEZE false).setFlag
        Reg.EVR_STATUS.FROZEN false).logRelease)

/-- FREEZE_TIMEOUT (R498): FREEZE clears by itself, the queue is released, and a FREEZE_TIMEOUT entry follows it. -/
def execFreezeTimeout (s : State) : Out :=
  .next (if s.evr.frozenAt.isSome then
    let s1 := (({ s with evr := { s.evr with frozenAt := none } }.setFlag Reg.EVR_FREEZE.FREEZE false).setFlag
      Reg.EVR_STATUS.FROZEN false).logRelease
    (s1.logOwn 5 0 []).irq Reg.EVR_IRQ.FREEZE_TIMEOUT Reg.EVR_IRQ_MASK.MASK 113
  else s)

/-- EVR_CLEAR (R500): guarded; refused while frozen or clearing; any other value than the key is ignored. -/
def execEvrClear (who : Requester) (key : Nat) (s : State) : Out :=
  .next (s.guarded who Reg.EVR_CLEAR.KEY.base fun s =>
    if key ≠ 0xC1EA0001 then s
    else if s.evr.frozenAt.isSome || s.evr.clearing.isSome then s.setFlag Reg.EVR_STATUS.CLEAR_REFUSED true
    else ({ s with evr := { s.evr with clearing := some who.code } }).setFlag Reg.EVR_STATUS.CLEARING true)

/-- LOG_CLEAR_COMPLETE (R500): the CLEAR record stands at position 0 under the next SEQ, every other position is empty, a
checkpoint with CLEAR is written, FULL clears, and the hold queue is released under R498. -/
def execLogClearComplete (s : State) : Out :=
  .next (match s.evr.clearing with
  | none => s
  | some who =>
    let r := s.mkRec 1 0 (leBytes 8 (s.nvs.nextSeq - 1) ++ leBytes 4 (s.nvs.log.filter fun e => leAt e 0 8 != 0).length ++
      leBytes 1 who) 0
    let s1 := { s with nvs := { s.nvs with log := [], logFull := false }, evr := { s.evr with clearing := none } }
    let s2 := (s1.writeRecord r true).count Reg.EVR.ACCEPTED
    ((s2.setFlag Reg.EVR_STATUS.FULL false).setFlag Reg.EVR_STATUS.CLEARING false).logRelease)

/-- Words of a latch: little-endian 32-bit words of a byte string, from a requester's word 0. -/
def State.latchWords (s : State) (who : Requester) (f : Fld) (n : Nat) (bs : Bytes) : State :=
  (List.range n).foldl (fun s k => s.set ((f.ix k).of who) (leAt bs (4 * k) 4)) s

/-- EVR_WINDOW_LATCH (R501): a read of word 0 latches the entry at POS; where `through` the read goes on to word 15, which
advances POS under AUTOINC. -/
def execEvrWindowLatch (who : Requester) (through : Bool) (s : State) : Out :=
  .next (
    let pos := s.get (Reg.EVR_CURSOR.POS.of who)
    let s1 := s.latchWords who Reg.EVR_WINDOW.WORD 16 ((s.nvs.log[pos]?).getD [])
    if through && s.flag (Reg.EVR_CURSOR.AUTOINC.of who) then s1.set (Reg.EVR_CURSOR.POS.of who) (min (pos + 1) 32767)
    else s1)

/-- The 256 bytes of a checkpoint (R497). -/
def Checkpoint.bytes (c : Checkpoint) : Bytes :=
  leBytes 8 c.seq ++ leBytes 4 c.flags ++ leBytes 4 0 ++ c.d ++ c.sig

/-- EVR_CKPT_LATCH (R501): a read of word 0 latches the checkpoint of EVR_CKPT_SEL, newest at index 0. -/
def execEvrCkptLatch (who : Requester) (s : State) : Out :=
  .next (s.latchWords who Reg.EVR_CKPT.WORD 64
    (match s.nvs.checkpoints[s.get (Reg.EVR_CKPT_SEL.INDEX.of who)]? with
     | some c => c.bytes
     | none => []))

/-- Ledger step 3 mounts the NVS: the log's registers show it, and the hold queue is released (R496). -/
def State.mountLog (s : State) : State :=
  let s1 := { s with evr := { s.evr with mounted := true } }
  let s2 := (s1.set Reg.EVR_STATUS.COUNT s.nvs.log.length).setFlag Reg.EVR_STATUS.FULL s.nvs.logFull
  (s2.set Reg.EVR_FIRST_SEQ.SEQ (leAt ((s.nvs.log[0]?).getD []) 0 8)).logRelease

end Sys2Proof.Machine
end

