-- ==== Sys2Proof/Machine/Keys.lean ====
section
/-! DEFINITION. The key store's commands, the journal, the fuses and the version floors (R455 to R470, R474). The response to a
tamper stands in Boot.lean beside quarantine. -/

namespace Sys2Proof.Machine

/-! ### Keys derived from the root (R460, R463) -/

/-- The root in use: ROOT, or the substitute root (R460). -/
def State.rootKey (s : State) : Bytes :=
  if s.flag Reg.SEC_STATUS.ROOT_SUBST then (Config.sha512 (ascii "MZ7416 substitute root")).take 32 else s.fuses.root

/-- Generations of the current journal record; none are known without one (R470). -/
def State.gId (s : State) : Nat := match s.nvs.journal with | some j => j.gId | none => 0

/-- G_SEAL. -/
def State.gSeal (s : State) : Nat := match s.nvs.journal with | some j => j.gSeal | none => 0

/-- G_c. -/
def State.gGen (s : State) (c : Nat) : Nat := match s.nvs.journal with | some j => (j.gens[c]?).getD 0 | none => 0

/-- The values of slots 8 to 11 under the table of R463. -/
def State.deviceKey (s : State) (slot : Nat) : Bytes :=
  let id (t : String) := Config.hkdf (ascii "MZ7416 identity") s.rootKey (ascii t ++ leBytes 4 s.gId) 32
  match slot with
  | 8 => id "DIK"
  | 9 => id "DCK"
  | 10 => id "DLK"
  | _ => Config.hkdf s.fw.stage1Digest s.rootKey (ascii "SEAL" ++ leBytes 4 s.gSeal) 32

/-- A slot is filled. -/
def State.putSlot (s : State) (i : Nat) (k : KeySlot) : State :=
  { s with keys := { s.keys with slots := aset i k s.keys.slots } }

/-- A slot is emptied. -/
def State.dropSlot (s : State) (i : Nat) : State :=
  { s with keys := { s.keys with slots := aerase i s.keys.slots } }

/-- Slot 8, 9, 10 or 11 takes its key; in quarantine every secret slot stays empty (R473). -/
def State.deriveSlot (s : State) (i : Nat) : State :=
  if s.flag Reg.SEC_STATUS.QUARANTINE then s
  else s.putSlot i { valid := true, kind := 2, value := s.deviceKey i, sign := i != 11, derive := i == 11 }

/-- Every secret slot is emptied (R465, R473). -/
def State.dropSecrets (s : State) : State :=
  { s with keys := { s.keys with slots := s.keys.slots.filter fun e => decide (e.1 < 6) } }

/-- KEY_SHARE_REFRESH's effect (R465): every secret slot gets new shares with the same XOR. -/
def State.refreshShares (s : State) : State :=
  (s.keys.slots.map Prod.fst).foldl (fun s i =>
    match alookup i s.keys.slots with
    | some k => if k.kind = 2 then (s.putSlot i { k with mask := s.freeVal 256 }).tookFree else s
    | none => s) s

/-- KEY_SHARE_REFRESH (R465). -/
def execKeyShareRefresh (s : State) : Out := .next s.refreshShares

/-- Slots 0 to 5 from the journal and the fuses (R465). -/
def State.loadPublicSlots (s : State) : State :=
  match s.nvs.journal with
  | none => s
  | some j =>
    ((List.range 5).foldl (fun s i =>
      let v := (j.slots[i]?).getD []
      if v.all (· == 0) then s.dropSlot i
      else s.putSlot i { valid := true, kind := if i = 4 then 1 else 0, value := v }) s).putSlot 5
      { valid := true, kind := 0, value := s.fuses.vendorHash }

/-! ### The journal (R469) -/

/-- An update of the journal: the new state goes to the record that does not hold the current one, with SEQ + 1; a failed
readback leaves the current state standing. -/
def State.journalPut (s : State) (j : JournalRec) (readback : Bool) : State :=
  let cur0 := s.nvs.journal == some s.nvs.j0
  let n : JournalRec := { j with seq := j.seq + 1, valid := readback }
  let nvs := if cur0 then { s.nvs with j1 := n } else { s.nvs with j0 := n }
  let s1 := { s with nvs := nvs }.count Reg.SEC.JOURNAL_WRITES
  if readback then s1 else s1.irq Reg.SEC_IRQ.JOURNAL Reg.SEC_IRQ_MASK.MASK 104

/-- The tamper configuration's register takes a value (R467, R471). -/
def State.setTamperCfg (s : State) (v : Nat) : State :=
  (((s.set Reg.SEC_TAMPER_CFG.EN (bitsOf v 0 4)).set Reg.SEC_TAMPER_CFG.LEVEL (bitsOf v 4 4)).set
    Reg.SEC_TAMPER_CFG.MESH_EN (bitsOf v 8 1)).set Reg.SEC_TAMPER_CFG.VBAT_LOSS (bitsOf v 9 1)

/-! ### Starting a command (R466) -/

/-- The message bytes written so far: n of KEY_MSG. -/
def State.keyMsg (s : State) (n : Nat) : Bytes :=
  ((List.range 256).flatMap fun k => leBytes 4 (s.get (Reg.KEY_MSG.MSG.ix k))).take n

/-- The label bytes: n of KEY_LABEL. -/
def State.keyLabel (s : State) (n : Nat) : Bytes :=
  ((List.range 8).flatMap fun k => leBytes 4 (s.get (Reg.KEY_LABEL.LABEL.ix k))).take n

/-- Whether a requester may issue a command (R466, R467, R473): the cores and the owner, within the issuer column, and in
quarantine only PUBKEY of slot 8 and ATTEST. -/
def State.keyMayIssue (s : State) (who : Requester) (op slot : Nat) : Bool :=
  let owner := s.isOwner who
  let known := match who with | .core _ => true | _ => owner
  known &&
  (decide (1 ≤ op ∧ op ≤ 6) || (op == 7 && (owner || !(slot == 8 || slot == 11))) || (decide (8 ≤ op ∧ op ≤ 10) && owner)) &&
  (!s.flag Reg.SEC_STATUS.QUARANTINE || op == 5 || (op == 4 && slot == 8))

/-- KEY_OUT is written for the issuer and reads zero for every other requester (R466). -/
def State.keyOut (s : State) (who : Requester) (bs : Bytes) : State :=
  let s1 := match s.keys.issuer with
    | some w => keyOutClear s w
    | none => s
  ((List.range 128).foldl (fun s k => s.set ((Reg.KEY_OUT.OUT.ix k).of who) (leAt bs (4 * k) 4)) s1).set
    Reg.KEY_STATUS.OUT_LEN bs.length
where
  /-- the previous issuer's copy returns to zero -/
  keyOutClear (s : State) (w : Requester) : State :=
    (List.range 128).foldl (fun s k => s.set ((Reg.KEY_OUT.OUT.ix k).of w) 0) s

/-- A command ends: RESULT, the output for its issuer, KEY_OPS and KEY_DONE. -/
def State.keyEnd (s : State) (who : Requester) (result : Nat) (bs : Bytes) : State :=
  let s1 := s.keyOut who bs
  let s2 := { s1 with keys := { s1.keys with job := none, issuer := some who } }
  (((s2.set Reg.KEY_STATUS.RESULT result).setFlag Reg.KEY_STATUS.BUSY false).count Reg.SEC.KEY_OPS).irq
    Reg.SEC_IRQ.KEY_DONE Reg.SEC_IRQ_MASK.MASK 104

/-- A write of KEY_CMD (R466): ignored and counted while a command runs; ended DENIED where the requester may not issue it;
otherwise the command runs. -/
def State.keyStart (s : State) (who : Requester) (op slot parent gen : Nat) : State :=
  s.open_ who Reg.KEY_CMD.OP.base fun s =>
    if s.flag Reg.KEY_STATUS.BUSY then s.count Reg.SEC.KEY_REFUSED
    else
      let s := s.set Reg.KEY_STATUS.REQUESTER who.code
      if !s.keyMayIssue who op (slot % 256) then s.keyEnd who 3 []
      else
        let j : KeyJob :=
          { op := op, slot := slot % 256, parent := parent % 256, gen := gen % 32
            msg := s.keyMsg 1024, label := s.keyLabel 32
            msgLen := s.get Reg.KEY_ARG.MSG_LEN, labelLen := s.get Reg.KEY_ARG.LABEL_LEN
            uSign := s.flag Reg.KEY_ARG.U_SIGN, uDerive := s.flag Reg.KEY_ARG.U_DERIVE, who := who }
        ({ s with keys := { s.keys with job := some j } }.setFlag Reg.KEY_STATUS.BUSY true).set Reg.KEY_STATUS.RESULT 2

/-- DERIVE (R463, R467). -/
def execKeyDerive (who : Requester) (slot parent gen : Nat) (s : State) : Out := .next (s.keyStart who 1 slot parent gen)
/-- SIGN (R467). -/
def execKeySign (who : Requester) (slot : Nat) (s : State) : Out := .next (s.keyStart who 2 slot 0 0)
/-- VERIFY (R467). -/
def execKeyVerify (who : Requester) (s : State) : Out := .next (s.keyStart who 3 0 0 0)
/-- PUBKEY (R467). -/
def execPubkey (who : Requester) (slot : Nat) (s : State) : Out := .next (s.keyStart who 4 slot 0 0)
/-- ATTEST (R468). -/
def execKeyAttest (who : Requester) (s : State) : Out := .next (s.keyStart who 5 0 0 0)
/-- ERASE (R467). -/
def execErase (who : Requester) (slot : Nat) (s : State) : Out := .next (s.keyStart who 6 slot 0 0)
/-- INVALIDATE (R464). -/
def execInvalidate (who : Requester) (slot gen : Nat) (s : State) : Out := .next (s.keyStart who 7 slot 0 gen)
/-- PROVISION (R467). -/
def execProvision (who : Requester) (slot : Nat) (s : State) : Out := .next (s.keyStart who 8 slot 0 0)
/-- DEBUG_REQ (R459). -/
def execDebugReq (who : Requester) (s : State) : Out := .next (s.keyStart who 9 0 0 0)
/-- TAMPER_CFG (R467). -/
def execTamperCfg (who : Requester) (s : State) : Out := .next (s.keyStart who 10 0 0 0)

/-! ### What a command does when it completes -/

/-- The DERIVE command: RESULT, and the slot it fills. -/
def State.keyDeriveDone (s : State) (j : KeyJob) : State :=
  match (if j.parent = 11 ∨ 16 ≤ j.parent then s.keySlot j.parent else none) with
  | none => s.keyEnd j.who 4 []
  | some p =>
    if j.slot < 16 ∨ (s.keySlot j.slot).isSome ∨ !p.derive ∨ 8 ≤ p.depth then s.keyEnd j.who 4 []
    else if j.labelLen < 1 ∨ 32 < j.labelLen then s.keyEnd j.who 5 []
    else
      let v := Config.hkdf (ascii "MZ7416 child") p.value (j.label.take j.labelLen ++ leBytes 4 (s.gGen j.gen)) 32
      (s.putSlot j.slot { valid := true, kind := 2, value := v, sign := j.uSign, derive := j.uDerive
                          parent := j.parent, gen := j.gen, depth := p.depth + 1 }).keyEnd j.who 1 []

/-- SIGN: slots from 16 with SIGN usage. -/
def State.keySignDone (s : State) (j : KeyJob) : State :=
  match (if 16 ≤ j.slot then s.keySlot j.slot else none) with
  | none => s.keyEnd j.who 4 []
  | some k =>
    if !k.sign then s.keyEnd j.who 4 []
    else if 1024 < j.msgLen then s.keyEnd j.who 5 []
    else s.keyEnd j.who 1 (Config.ed25519Sign k.value (j.msg.take j.msgLen))

/-- VERIFY: the public key in LABEL, the signature in MSG bytes 0 to 63, the message after it. -/
def State.keyVerifyDone (s : State) (j : KeyJob) : State :=
  if j.msgLen < 64 ∨ 1024 < j.msgLen then s.keyEnd j.who 5 []
  else if Config.ed25519Verify j.label ((j.msg.take j.msgLen).drop 64) (j.msg.take 64) then s.keyEnd j.who 1 []
  else s.keyEnd j.who 6 []

/-- The key of slots 8 to 10 or a signing slot; in quarantine the identity key is derived again for the purpose (R473). -/
def State.keyForPub (s : State) (slot : Nat) : Option Bytes :=
  if s.flag Reg.SEC_STATUS.QUARANTINE && slot == 8 then some (s.deviceKey 8)
  else if 8 ≤ slot ∧ slot ≤ 10 then s.slotValue slot
  else if 16 ≤ slot then (match s.keySlot slot with | some k => if k.sign then some k.value else none | none => none)
  else none

/-- PUBKEY. -/
def State.keyPubDone (s : State) (j : KeyJob) : State :=
  match s.keyForPub j.slot with
  | some k => s.keyEnd j.who 1 (Config.ed25519Public k)
  | none => s.keyEnd j.who 4 []

/-- The public key of a slot in a report; where the slot is empty the spec states no value, and a free one stands there. -/
def State.reportKey (s : State) (slot : Nat) : Bytes :=
  match s.slotValue slot with
  | some k => Config.ed25519Public k
  | none => leBytes 32 (Config.freeNat (s.freeCount + slot) % 2 ^ 256)

/-- The 448 signed bytes of an attestation report (R468) under an identity key. -/
def State.report (s : State) (ident nonce : Bytes) : Bytes :=
  let flags := b2n (s.flag Reg.SEC_STATUS.ROOT_SUBST) + 2 * b2n (s.flag Reg.SEC_TAMPER_LATCH.VALID) +
    4 * b2n (s.flag Reg.SEC_STATUS.QUARANTINE) + 8 * s.get Reg.SAU_STATUS.GM_PERMIT + 16 * b2n (s.keySlot 4).isSome
  ascii "MZ7416AT" ++ leBytes 4 (s.regWord .sec 0x0) ++ leBytes 4 (s.regWord .sec 0x50000) ++ leBytes 4 flags ++
  leBytes 4 (s.get Reg.SEC_FW_FLOOR.SVN) ++ leBytes 4 (s.get Reg.CFG_ROAST_FLOOR.SVN) ++ leBytes 4 s.fw.mainSvn ++
  nonce ++ s.fw.stage1Digest ++ s.fw.mainDigest ++
  ((List.range 4).flatMap fun k => leBytes 4 (s.regWord .sec (Reg.CFG_ROAST_ACTIVE.SERIAL.base + 4 * k))) ++
  taiBytes s.time.tai ++ Config.ed25519Public ident ++ s.reportKey 9 ++ s.reportKey 10 ++ leBytes 4 s.gId ++
  List.replicate 124 0

/-- ATTEST. -/
def State.keyAttestDone (s : State) (j : KeyJob) : State :=
  match s.keyForPub 8 with
  | none => s.keyEnd j.who 4 []
  | some k =>
    let r := s.report k (j.msg.take 32)
    let s1 := if (s.keySlot 9).isSome && (s.keySlot 10).isSome then s
      else { s with freeCount := s.freeCount + 11 }
    s1.keyEnd j.who 1 (r ++ Config.ed25519Sign k (signedText "MZ7416 attest v1" r))

/-- Slots that an invalidation of G_c empties: those derived naming c, and their descendants (R464). -/
def doomed (slots : List (Nat × KeySlot)) (c : Nat) : Nat → List Nat
  | 0 => (slots.filter fun e => decide (16 ≤ e.1) && e.2.gen == c).map Prod.fst
  | n + 1 =>
    let d := doomed slots c n
    (slots.filter fun e => decide (e.1 ∈ d) || (decide (16 ≤ e.1) && decide (e.2.parent ∈ d))).map Prod.fst

/-- INVALIDATE (R464): one generation rises in the journal, and the slots that depend on it go or are replaced. -/
def State.keyInvalidateDone (s : State) (j : KeyJob) (readback : Bool) : State :=
  match s.nvs.journal with
  | none => s.keyEnd j.who 8 []
  | some r =>
    if j.slot ≠ 8 ∧ j.slot ≠ 11 ∧ j.slot ≠ 0xFF then s.keyEnd j.who 4 []
    else
      let r' := if j.slot = 8 then { r with gId := r.gId + 1 }
        else if j.slot = 11 then { r with gSeal := r.gSeal + 1 }
        else { r with gens := setAt ((r.gens[j.gen]?).getD 0 + 1) j.gen (r.gens ++ List.replicate (32 - r.gens.length) 0) }
      let s1 := s.journalPut r' readback
      if !readback then s1.keyEnd j.who 8 []
      else
        let s2 := if j.slot = 8 then
            let s2 := ((s1.deriveSlot 8).deriveSlot 9).deriveSlot 10
            { s2 with keys := { s2.keys with newChain := true } }
          else if j.slot = 11 then
            ({ s1 with keys := { s1.keys with slots := s1.keys.slots.filter fun e => decide (e.1 < 16) } }).deriveSlot 11
          else (doomed s1.keys.slots j.gen 8).foldl State.dropSlot s1
        s2.keyEnd j.who 1 []

/-- PROVISION (R467): slots 0 to 4 through the journal; all zero unprovisions. AUTH_REQ says whether slot 4 holds an owner key (R100). -/
def State.keyProvisionDone (s : State) (j : KeyJob) (readback : Bool) : State :=
  if 4 < j.slot then s.keyEnd j.who 4 []
  else match s.nvs.journal with
  | none => s.keyEnd j.who 8 []
  | some r =>
    let v := j.msg.take 32
    let s1 := s.journalPut { r with slots := setAt v j.slot (r.slots ++ List.replicate (5 - r.slots.length) []) } readback
    if !readback then s1.keyEnd j.who 8 []
    else
      let s2 := if v.all (· == 0) then s1.dropSlot j.slot
        else s1.putSlot j.slot { valid := true, kind := if j.slot = 4 then 1 else 0, value := v }
      (s2.setFlag Reg.HIF_OWNER.AUTH_REQ (s2.keySlot 4).isSome).keyEnd j.who 1 []

/-- The debug nonce is drawn anew (R459). -/
def State.drawDebugNonce (s : State) : State :=
  (List.range 4).foldl (fun s k => (s.set (Reg.SEC_DBG_NONCE.NONCE.ix k) (s.freeVal 32)).tookFree) s

/-- DEBUG_REQ (R459): a vendor token that verifies and whose key hashes to VENDOR_HASH sets DEBUG_NEXT. -/
def State.keyDebugDone (s : State) (j : KeyJob) : State :=
  let pub := j.msg.take 32
  let m := signedText "MZ7416 debug v1"
    (((List.range 4).flatMap fun k => leBytes 4 (s.get (Reg.SEC_DBG_NONCE.NONCE.ix k))) ++ leBytes 4 (s.regWord .sec 0x0))
  let ok := Config.ed25519Verify pub m (slice j.msg 32 64) && keyHash pub == s.fuses.vendorHash
  let s1 := if ok then s.setFlag Reg.SEC_STATUS.DEBUG_NEXT true else s
  s1.drawDebugNonce.keyEnd j.who (if ok then 1 else 6) []

/-- TAMPER_CFG (R467): the journal and the backup domain take the configuration. -/
def State.keyTamperCfgDone (s : State) (j : KeyJob) (readback : Bool) : State :=
  match s.nvs.journal with
  | none => s.keyEnd j.who 8 []
  | some r =>
    let v := leVal (j.msg.take 4)
    let s1 := s.journalPut { r with tamperCfg := bitsOf v 0 10 } readback
    if readback then (s1.setTamperCfg v).keyEnd j.who 1 [] else s1.keyEnd j.who 8 []

/-- A reset while INVALIDATE, PROVISION or TAMPER_CFG updates the journal leaves the old state or the new: which one, the spec leaves open
(R469, log entry 1). -/
def State.cutJournal (s : State) : State :=
  let done (j : KeyJob) : State := match j.op with
    | 7 => s.keyInvalidateDone j true
    | 8 => s.keyProvisionDone j true
    | 10 => s.keyTamperCfgDone j true
    | _ => s
  match s.keys.job with
  | none => s
  | some j => if s.freeBit then { s.tookFree with nvs := (done j).nvs } else s.tookFree

/-- KEY_COMMAND_DONE (R466, R467): the command in progress ends; `readback` is whether a journal update read back. The shares are
re-randomised after the use. -/
def execKeyCommandDone (readback : Bool) (s : State) : Out :=
  .next (match s.keys.job with
  | none => s
  | some j =>
    (match j.op with
     | 1 => s.keyDeriveDone j
     | 2 => s.keySignDone j
     | 3 => s.keyVerifyDone j
     | 4 => s.keyPubDone j
     | 5 => s.keyAttestDone j
     | 6 => if j.slot < 16 then s.keyEnd j.who 4 [] else (s.dropSlot j.slot).keyEnd j.who 1 []
     | 7 => s.keyInvalidateDone j readback
     | 8 => s.keyProvisionDone j readback
     | 9 => s.keyDebugDone j
     | _ => s.keyTamperCfgDone j readback).refreshShares)

/-- What KEY_SLOT_INFO shows of the slot a requester selected: STATE, KIND, SIGN, DERIVE, PARENT, GEN, DEPTH. -/
def State.keySlotInfo (s : State) (who : Requester) : Nat :=
  match s.keySlot (s.get (Reg.KEY_SLOT_SEL.SLOT.of who)) with
  | none => 0
  | some k => 1 + 4 * k.kind + 16 * b2n k.sign + 32 * b2n k.derive + 256 * k.parent + 65536 * k.gen + 2 ^ 24 * k.depth

/-! ### Fuses and floors (R458, R462) -/

/-- A fuse code (R458): guarded; a code the lifecycle does not permit is ignored and counted; a permitted blow is logged and
takes effect when the next start senses it. -/
def State.blowFuse (s : State) (who : Requester) (lifecycles : List Nat) (f : Fuses → Fuses) : State :=
  s.guarded who Reg.SEC_FUSE_CMD.CODE.base fun s =>
    if s.get Reg.SEC_STATUS.LIFECYCLE ∈ lifecycles then { s with fuses := f s.fuses }.log (evCode 5 0) 0 []
    else s.count Reg.SEC.KEY_REFUSED

/-- FUSE_BLOW_GM (R458): DEV and PRODUCTION. -/
def execFuseBlowGm (who : Requester) (s : State) : Out := .next (s.blowFuse who [2, 3] fun f => { f with gm := true })
/-- FUSE_BLOW_TAMPER_KILL (R458): DEV and PRODUCTION. -/
def execFuseBlowTamperKill (who : Requester) (s : State) : Out :=
  .next (s.blowFuse who [2, 3] fun f => { f with tamperKill := true })
/-- FUSE_BLOW_DEBUG_ALLOWED (R458): TEST and DEV. -/
def execFuseBlowDebugAllowed (who : Requester) (s : State) : Out :=
  .next (s.blowFuse who [1, 2] fun f => { f with debugAllowed := true })
/-- FUSE_BLOW_LC_DEV (R458): TEST. -/
def execFuseBlowLcDev (who : Requester) (s : State) : Out := .next (s.blowFuse who [1] fun f => { f with lcDev := true })
/-- FUSE_BLOW_LC_PROD (R458): DEV. -/
def execFuseBlowLcProd (who : Requester) (s : State) : Out := .next (s.blowFuse who [2] fun f => { f with lcProd := true })
/-- FUSE_BLOW_LC_RMA (R458): DEV and PRODUCTION. -/
def execFuseBlowLcRma (who : Requester) (s : State) : Out :=
  .next (s.blowFuse who [2, 3] fun f => { f with lcRma := true })

/-- The lifecycle the fuses give (R457). -/
def Fuses.lifecycle (f : Fuses) : Nat :=
  if f.lcRma then 4 else if f.lcProd then 3 else if f.lcDev then 2 else if f.lcTest then 1 else 0

/-- Step 1 senses the fuses (R455, R458): the registers take their states. -/
def State.senseFuses (s : State) : State :=
  ((((s.set Reg.SEC_STATUS.LIFECYCLE s.fuses.lifecycle).setFlag Reg.SEC_STATUS.DEBUG_ALLOWED s.fuses.debugAllowed).setFlag
    Reg.SEC_STATUS.TAMPER_KILL s.fuses.tamperKill).setFlag Reg.SEC_STATUS.KILLED s.fuses.killed).set
    Reg.SEC_STATUS.FW_SVN_FUSE (min s.fuses.fwSvn 64)

/-- SEC_RAISE_FLOOR (R462): the journal's floor becomes the running stage-1 SVN where that is higher. -/
def execSecRaiseFloor (who : Requester) (readback : Bool) (s : State) : Out :=
  .next (s.guarded who Reg.SEC_FW_CTL.RAISE_FLOOR.base fun s =>
    match s.nvs.journal with
    | none => s
    | some r =>
      if r.fwFloor < s.fw.stage1Svn then
        let s1 := s.journalPut { r with fwFloor := s.fw.stage1Svn } readback
        s1.set Reg.SEC_FW_FLOOR.SVN s1.fwFloor
      else s)

/-- BURN_FLOOR (R462): FW_SVN bits are blown up to the lower of the running SVN and 64, in DEV and PRODUCTION. -/
def execBurnFloor (who : Requester) (s : State) : Out :=
  .next (s.guarded who Reg.SEC_FW_CTL.BURN_FLOOR.base fun s =>
    if s.get Reg.SEC_STATUS.LIFECYCLE = 2 ∨ s.get Reg.SEC_STATUS.LIFECYCLE = 3 then
      { s with fuses := { s.fuses with fwSvn := max s.fuses.fwSvn (min s.fw.stage1Svn 64) } }
    else s)

/-- SEC_TAMPER_CLR (R474): the owner clears the latch with its key, unless an enabled source is still active (`active`) or KILLED is
blown; bit 8 of BOOT_HEALTH follows (R473). -/
def execSecTamperClr (who : Requester) (key : Nat) (active : Bool) (s : State) : Out :=
  .next (s.guarded who Reg.SEC_TAMPER_CLR.KEY.base fun s =>
    if key = 0x7A4D0001 ∧ !active ∧ !s.fuses.killed then
      (((s.set Reg.SEC_TAMPER_LATCH.SOURCE 0).set Reg.SEC_TAMPER_LATCH.PHASE 0).setFlag
        Reg.SEC_TAMPER_LATCH.VALID false).health 8 true
    else s)

end Sys2Proof.Machine
end

