-- ==== Sys2Proof/Machine/HostIf.lean ====
section
/-! DEFINITION. The host interface (R89 to R118): refused writes, ownership, snapshots, the configuration transaction up to its
commit, and the configuration CRC. The commit and what it applies at a close stand in Swap.lean. -/

namespace Sys2Proof.Machine

/-! ### Writes refused whole (R94, R96) -/

/-- BAR0_LONG_WRITE (R96): a write longer than two doublewords is discarded whole and sets LONG_WR, whatever stands at its offsets and
whichever function sends it: the write is judged by its length before its registers are looked at, so neither R97 nor OBSERVER of R90
comes into it. DESIGN CHOICE (log entry 108): the spec does not rank these. -/
def execBar0LongWrite (who : Requester) (addr words : Nat) (s : State) : Out :=
  .next (if !s.silent who && decide (2 < words) then s.hifErr who Reg.HIF_ERR.LONG_WR addr else s)

/-- BAR2_WRITE (R94): discarded, sets BAR2_WR. The BAR0 offset that HIF_ERR_ADDR would show is stated for no BAR2 access, so it
takes a free value (log entry 1). -/
def execBar2Write (who : Requester) (s : State) : Out :=
  .next (if s.silent who then s else (s.hifErr who Reg.HIF_ERR.BAR2_WR (s.freeVal 25)).tookFree)

/-! ### Snapshots (R102 to R104) -/

/-- Whether a key of the shared bank is a counter's. -/
def counterKey (k : Nat) : Bool := decide (k < bankSpan) && (fieldsAt (k / 32 * 4)).any fun p => p.1.counter

/-- The register file with every counter copied into a holding bank, at its own offset plus 0x8000. -/
def holdCopy (bank : Nat) (r : RegFile) : RegFile :=
  ((r.filter fun e => counterKey e.1).map fun e => (e.1 + bank * bankSpan + 8 * 0x8000, e.2)).foldl
    (fun r e => r.insert e.1 e.2) (r.filter fun e => !(decide (bank * bankSpan ≤ e.1) && decide (e.1 < (bank + 1) * bankSpan)))

/-- The wrap counts of a holding set (R417): its copy of NRG_WRAPCNT takes them, and they start again. -/
def State.snapWraps (s : State) (set : Nat) : State :=
  let word (e : Nat) : Nat := (List.range 7).foldl (fun a q => a + min 15 ((alookup (set, 7 * e + q) s.nrg.wraps).getD 0) * 2 ^ (4 * q)) 0
  let f (e : Nat) : Fld := { (Reg.NRG.WRAPCNT.ix e).inBank (holdBank set) with base := (Reg.NRG.WRAPCNT.ix e).base + 0x8000 }
  let s1 := (List.range 4).foldl (fun s e => s.set (f e) (word e)) s
  { s1 with nrg := { s1.nrg with wraps := s1.nrg.wraps.filter fun w => w.1.1 != set } }

/-- HIF_SNAP (R103, R104): every counter is copied at once into the requester's holding set with the time; a request while
that set's copy is in progress is ignored. -/
def execHifSnap (who : Requester) (s : State) : Out :=
  .next (
    if s.silent who then s
    else if who.holdSet ∈ s.host.snapBusy then s.hifErr who Reg.HIF_ERR.SNAP_BUSY Reg.HIF_SNAP.GO.base
    else
      let b := holdBank who.holdSet
      let s1 := { s with regs := holdCopy b s.regs, host := { s.host with snapBusy := who.holdSet :: s.host.snapBusy } }.snapWraps who.holdSet
      (List.range 4).foldl (fun s k => s.set ((Reg.HIF_SNAP_TIME.TIME.ix k).inBank b) (taiWord s.time.tai k)) s1)

/-- SNAPSHOT_COPY_DONE (R103): the set's copy is complete. -/
def execSnapshotCopyDone (who : Requester) (s : State) : Out :=
  .next { s with host := { s.host with snapBusy := s.host.snapBusy.filter fun n => n != who.holdSet } }

/-! ### The transaction's ends (R110, R113) -/

/-- Whether a transaction is open. -/
def State.txnOpen (s : State) : Bool := s.get Reg.CFG_TXN_STATUS.STATE == 1

/-- A transaction ends (R113): state IDLE, staging discarded, RESULT, DONE, vector 0 of PF0. -/
def State.txnEnd (s : State) (result : Nat) : State :=
  let s1 := { s with cfg := { s.cfg with staged := [] } }
  (((((s1.set Reg.CFG_TXN_STATUS.STATE 0).set Reg.CFG_TXN_STATUS.STAGED 0).setFlag Reg.CFG_TXN_STATUS.OVERFLOW false).set
    Reg.CFG_TXN_STATUS.RESULT result).setFlag Reg.CFG_TXN_STATUS.DONE true).emit (.msix 0 0)

/-- TXN_BEGIN (R107, R109): guarded; opens the transaction, or is refused while one exists. -/
def execTxnBegin (who : Requester) (s : State) : Out :=
  .next (s.guarded who Reg.CFG_TXN_BEGIN.GO.base fun s =>
    if s.get Reg.CFG_TXN_STATUS.STATE ≠ 0 then s.set Reg.CFG_TXN_STATUS.RESULT 5
    else
      let s1 := { s with cfg := { s.cfg with staged := [], beginAt := s.time.elapsed } }
      ((((s1.set Reg.CFG_TXN_STATUS.STATE 1).set Reg.CFG_TXN_STATUS.OWNER (txnOwnerCode who)).set
        Reg.CFG_TXN_STATUS.STAGED 0).setFlag Reg.CFG_TXN_STATUS.OVERFLOW false).set Reg.CFG_TXN_STATUS.ELAPSED 0)

/-- TXN_ROLLBACK (R110): guarded; from the owner of an open transaction it rolls back; none open: no effect; committing or not
the owner: NO_TXN. -/
def execTxnRollback (who : Requester) (s : State) : Out :=
  .next (s.guarded who Reg.CFG_TXN_ROLLBACK.GO.base fun s =>
    if s.get Reg.CFG_TXN_STATUS.STATE = 0 then s
    else if s.mayStage who then s.txnEnd 2
    else s.hifErr who Reg.HIF_ERR.NO_TXN Reg.CFG_TXN_ROLLBACK.GO.base)

/-- TXN_TIMEOUT (R110): 1,000 ms after the BEGIN an open transaction is rolled back. -/
def execTxnTimeout (s : State) : Out :=
  .next (if s.txnOpen then (s.set Reg.CFG_TXN_STATUS.ELAPSED 1000).txnEnd 3 else s)

/-- The transaction's elapsed milliseconds at a tick; frozen at commit. -/
def State.txnTick (s : State) : State :=
  if s.txnOpen then s.set Reg.CFG_TXN_STATUS.ELAPSED (min 1000 ((s.time.elapsed - s.cfg.beginAt) / msUnit)) else s

/-! ### Configuration CRC (R114 to R117) -/

/-- A scan in progress is discarded (R117). -/
def State.dropScan (s : State) : State := { s with cfg := { s.cfg with scan := none } }

/-- CRC_SCAN_START (R114): a scan takes the values at its tick. -/
def execCrcScanStart (s : State) : Out := .next { s with cfg := { s.cfg with scan := some s.crcScan } }

/-- A complete scan compared with the reference (R115). -/
def State.crcCompare (s : State) (c : Nat) : State :=
  if !s.flag Reg.CFG_CRC_STATUS.REF_VALID || s.flag Reg.CFG_CRC_CTL.SUSPEND then s
  else if c = s.get Reg.CFG_CRC_COMMIT.REF then
    let s1 := { s with cfg := { s.cfg with differing := 0 } }
    if s.flag Reg.CFG_CRC_STATUS.MISMATCH then (s1.setFlag Reg.CFG_CRC_STATUS.MISMATCH false).health 6 true else s1
  else
    let s1 := { s with cfg := { s.cfg with differing := min 2 (s.cfg.differing + 1) } }
    if s.cfg.differing + 1 < 2 ∨ s.flag Reg.CFG_CRC_STATUS.MISMATCH then s1
    else ((s1.setFlag Reg.CFG_CRC_STATUS.MISMATCH true).count Reg.CFG_CRC_STATUS.EPISODES).log (evCode 1 0) 0 [] |>.health 6 false

/-- CRC_SCAN_COMPLETE (R115, R116): LIVE takes the result, a requested adopt writes the reference, and the comparison follows. -/
def execCrcScanComplete (s : State) : Out :=
  .next (match s.cfg.scan with
  | none => s
  | some c =>
    let s1 := s.dropScan.set Reg.CFG_CRC_LIVE.LIVE c
    let s2 := if s.flag Reg.CFG_CRC_CTL.ADOPT then
        ((s1.set Reg.CFG_CRC_COMMIT.REF c).setFlag Reg.CFG_CRC_STATUS.REF_VALID true).setFlag Reg.CFG_CRC_CTL.ADOPT false
      else s1
    s2.crcCompare c)

/-- SUSPEND changes (R117): a scan in progress is discarded, and setting it restarts the count of differing scans. -/
def State.setSuspend (s : State) (on : Bool) : State :=
  if s.flag Reg.CFG_CRC_CTL.SUSPEND = on then s
  else
    let s1 := (s.setFlag Reg.CFG_CRC_CTL.SUSPEND on).dropScan
    if on then { s1 with cfg := { s1.cfg with differing := 0 } } else s1

/-- CRC_SUSPEND (R117): guarded. -/
def execCrcSuspend (who : Requester) (on : Bool) (s : State) : Out :=
  .next (s.guarded who Reg.CFG_CRC_CTL.SUSPEND.base fun s => s.setSuspend on)

/-- CRC_SUSPEND_TIMEOUT (R117): 1,000 ms after it was set SUSPEND clears by itself and an event is logged. -/
def execCrcSuspendTimeout (s : State) : Out :=
  .next (if s.flag Reg.CFG_CRC_CTL.SUSPEND then (s.setSuspend false).log (evCode 1 1) 0 [] else s)

/-- An adopt is requested (R116, R117): by a write, or by ledger step 15. -/
def State.adopt (s : State) : State := (s.setFlag Reg.CFG_CRC_CTL.ADOPT true).dropScan

/-- CRC_ADOPT (R116): guarded. -/
def execCrcAdopt (who : Requester) (s : State) : Out :=
  .next (s.guarded who Reg.CFG_CRC_CTL.ADOPT.base State.adopt)

/-! ### Ownership (R99 to R101) -/

/-- A new owner nonce is drawn: four free words (log entry 1). -/
def State.drawNonce (s : State) : State :=
  (List.range 4).foldl (fun s k => (s.set (Reg.HIF_OWNER_NONCE.NONCE.ix k) (s.freeVal 32)).tookFree) s

/-- Owner state ends (R101): an open transaction of PF0 is rolled back, SUSPEND clears; a verification in progress ends too. -/
def State.endOwner (s : State) : State :=
  if s.get Reg.HIF_OWNER.STATE = 2 then
    let s1 := (s.set Reg.HIF_OWNER.STATE 0).setSuspend false
    if s.txnOpen && s.get Reg.CFG_TXN_STATUS.OWNER == 0 then s1.txnEnd 4 else s1
  else if s.get Reg.HIF_OWNER.STATE = 1 then s.set Reg.HIF_OWNER.STATE 0
  else s

/-- A claim ends DENIED (R100): a new nonce and a new 1 s interval. -/
def State.denyClaim (s : State) : State :=
  { s.drawNonce with host := { s.host with deniedAt := some s.time.elapsed } }.set Reg.HIF_OWNER.STATE 3

/-- The signature bytes as written. -/
def State.claimSignature (s : State) : Bytes :=
  (List.range 16).flatMap fun k => leBytes 4 (s.get (Reg.HIF_OWNER_SIG.SIG.ix k))

/-- OWNER_CLAIM (R100): PF0 only; no effect while owning or verifying; at once without a provisioned key; denied within 1 s of a
denial; else the security core verifies. -/
def execOwnerClaim (who : Requester) (s : State) : Out :=
  .next (s.open_ who Reg.HIF_OWNER.CLAIM.base fun s =>
    if who ≠ .pf0 ∨ s.get Reg.HIF_OWNER.STATE = 1 ∨ s.get Reg.HIF_OWNER.STATE = 2 then s
    else
      let auth := (s.keySlot 4).isSome
      let s := s.setFlag Reg.HIF_OWNER.AUTH_REQ auth
      if !auth then s.drawNonce.set Reg.HIF_OWNER.STATE 2
      else if (match s.host.deniedAt with | some t => decide (s.time.elapsed - t < secUnit) | none => false) then s.denyClaim
      else { s with host := { s.host with claimSig := s.claimSignature } }.set Reg.HIF_OWNER.STATE 1)

/-- The message a claim signs: the nonce and HIF_ID (R100). -/
def State.claimMessage (s : State) : Bytes :=
  ((List.range 4).flatMap fun k => leBytes 4 (s.get (Reg.HIF_OWNER_NONCE.NONCE.ix k))) ++ leBytes 4 (s.regWord .sec 0x0)

/-- OWNER_VERIFY_DONE (R100): the verification ends in OWNER or DENIED on the signature it started with; a new nonce is drawn. -/
def execOwnerVerifyDone (s : State) : Out :=
  .next (if s.get Reg.HIF_OWNER.STATE ≠ 1 then s
  else
    let ok := match s.slotValue 4 with
      | some pub => Config.ed25519Verify pub s.claimMessage s.host.claimSig
      | none => false
    if ok then s.drawNonce.set Reg.HIF_OWNER.STATE 2 else s.denyClaim)

/-- OWNER_RELEASE (R101): PF0 only. -/
def execOwnerRelease (who : Requester) (s : State) : Out :=
  .next (s.open_ who Reg.HIF_OWNER.RELEASE.base fun s => if who = .pf0 then s.endOwner else s)

/-- PCIE_LINK_LOSS (R101): loss of the link ends owner state. -/
def execPcieLinkLoss (s : State) : Out := .next { s with env := { s.env with link := false } }.endOwner

/-- PF0_FUNCTION_LEVEL_RESET (R101): ends owner state. -/
def execPf0FunctionLevelReset (s : State) : Out := .next s.endOwner

end Sys2Proof.Machine
end

