-- ==== Sys2Proof/Machine/Pace.lean ====
section
/-! DEFINITION. The pace monitor (R523 to R536): replica loops, margins and certification, the AVS loop, shedding, the fabric watchdog,
sweep units, and the repair of Carafe rows. Alarm pass 2 stands here because the monitor decides at its end. -/

namespace Sys2Proof.Machine

/-- An interrupt of the pace monitor. -/
def State.paceIrq (s : State) (f : Fld) : State := s.irq f Reg.PACE_IRQ_MASK.MASK 2

/-! ### Replica loops (R523) -/

/-- Handshakes/s of a reading over 10 µs, where the loop is valid. -/
def loopRate (count : Nat) : Option Nat :=
  if 300000000 ≤ count * 100000 ∧ count * 100000 ≤ 2500000000 then some (count * 100000) else none

/-- The lowest of a list of numbers. -/
def lowest : List Nat → Option Nat
  | [] => none
  | a :: as => some (as.foldl min a)

/-- A region's rate: the lowest valid reading of its four loops, valid with at least two. -/
def regionRate (loops : List Nat) (k : Nat) : Option Nat :=
  let v := ((loops.drop (4 * k)).take 4).filterMap loopRate
  if 2 ≤ v.length then lowest v else none

/-- REPLICA_WINDOW (R523): the 32 loops' counts over the window that ends at t, region by region. -/
def execReplicaWindow (t : Tai) (loops : List Nat) (s : State) : Out :=
  .next (
    let s1 := (List.range 8).foldl (fun s k =>
      match regionRate loops k with
      | some r => (s.set (Reg.PACE_RATE.MHS.ix k) (r / 1000000)).setFlag (Reg.PACE_RATE.VALID.ix k) true
      | none => s.setFlag (Reg.PACE_RATE.VALID.ix k) false) (s.moveTo t)
    let rs := (List.range 8).map (regionRate loops)
    let w : PaceWindow := { t := t, rate := lowest (rs.filterMap id), allValid := rs.all Option.isSome }
    { s1 with pace := { s1.pace with windows := (w :: s1.pace.windows).take 1024 } })

/-- Windows that an engine's run overlaps. -/
def State.windowsIn (s : State) (a b : Tai) : List PaceWindow :=
  s.pace.windows.filter fun w => decide (a ≤ w.t) && decide (w.t < b + 10 * usUnit)

/-! ### Margin and certification (R524, R525) -/

/-- The stage whose end is an engine's completion. -/
def engineStage : Nat → Nat
  | 0 => 0 | 1 => 2 | 2 => 3 | 3 => 4 | 4 => 5 | 5 => 1 | _ => 6

/-- The run of an engine on a slice. -/
def State.engineRun (s : State) (r : Run) (e : Nat) : Option EngineRun :=
  (r.at? (engineStage e)).map fun d =>
    { e := e, start := d.start - r.closeAt, stop := d.stop - r.closeAt, rate := lowest ((s.windowsIn d.start d.stop).filterMap (·.rate)) }

/-- The margin of an engine's run in ns, with the handshake count and window given; none where no rate was sampled. -/
def EngineRun.margin (x : EngineRun) (windowUs handshakes : Nat) : Option Rat :=
  x.rate.map fun r =>
    ((windowUs * 1000 : Nat) : Rat) - max ((x.stop : Rat) / (nsUnit : Rat)) ((x.start : Rat) / (nsUnit : Rat) + ((handshakes * 1000000000 : Nat) : Rat) / (r : Rat))

/-- The slice margin of a set of runs in ns, rounded down; none where an engine's rate is not known or there is no engine. -/
def sliceMargin (ms : List (Option Rat)) : Option Int :=
  if ms.any Option.isNone then none
  else match ms.filterMap id with
    | [] => none
    | m :: rest => some (Rat.floor (rest.foldl min m))

/-- The runs of the configured engines 0 to 6. -/
def State.engineRuns (s : State) (r : Run) : List EngineRun :=
  ((List.range 7).filter (s.runRoast r).configured).filterMap (s.engineRun r)

/-- The margin of a slice. -/
def State.marginOf (s : State) (r : Run) : Option Int :=
  sliceMargin ((s.engineRuns r).map fun x =>
    x.margin (budWindow ((s.runRoast r).recAt 0x01 x.e)) ((s.cfgOf r).expected (s.runRoast r) r.shed x.e))

/-- The conditions of R525 beside the margin. -/
def State.certifiable (s : State) (r : Run) : Bool :=
  let es := (List.range 7).filter (s.runRoast r).configured
  (es.all fun e => match r.at? (engineStage e) with
    | some d =>
      let ws := s.windowsIn d.start d.stop
      d.exact && !d.ended && !ws.isEmpty && ws.all (·.allValid)
    | none => false) &&
  decide (s.env.junction ≤ 110000) && !(match s.pace.hotAt with | some t => decide (r.closeAt ≤ t) | none => false) &&
  !r.heldBack && !s.pace.lateEngine && !(r.done.any (·.ended))

/-- Ranks in force, as a count; the fields hold bit k - 1 for each. -/
def State.shedRanks (s : State) : Nat :=
  match s.get Reg.PACE_STATUS.SHED with
  | 0 => 0 | 1 => 1 | 3 => 2 | _ => 3

/-- The ranks in force change, for the slices after n (R530). -/
def State.setShed (s : State) (k n : Nat) : State :=
  let s1 := (((s.set Reg.PACE_STATUS.SHED (2 ^ k - 1)).setFlag Reg.ALN_STATUS.SHED_REV (decide (1 ≤ k))).paceIrq
    Reg.PACE_IRQ.SHED_CHG).log (evCode 3 2) 0 []
  let later := (s1.runs.filter fun r => decide (n < r.n)).map (·.n)
  let s2 := { s1 with runs := s1.runs.map fun (r : Run) => if n < r.n then { r with shed := k } else r }
  later.foldl (fun s m => match s.slice? m with
    | some x => s.setSlice { x with shed := 2 ^ k - 1 }
    | none => s) s2

/-- A VCORE_F request goes out over the AVSBus (R53, R528). -/
def State.avsRequest (s : State) (mv : Nat) : State :=
  let s1 := (s.emit (.avs mv)).setFlag Reg.PACE_STATUS.AVS_BUSY true
  { s1 with pace := { s1.pace with avsReq := some (mv, s1.time.elapsed) } }

/-- The AVS loop's decision of a slice (R528): margin in ns. -/
def State.avsDecide (s : State) (cert : Bool) (margin : Int) : State :=
  let v := s.get Reg.PACE_STATUS.VCORE_MV
  let lo := clampN 600 900 (s.get Reg.PACE_VLIM.VMIN_MV)
  let hi := max lo (clampN 600 900 (s.get Reg.PACE_VLIM.VMAX_MV))
  let run := if cert ∧ (s.get Reg.PACE_THR.HIGH_US * 1000 : Nat) ≤ margin then s.pace.avsRun + 1 else 0
  let s1 := { s with pace := { s.pace with avsRun := run } }
  if !s.pace.avsOn || s.pace.avsReq.isSome || s.flag Reg.PACE_STATUS.AVS_FAIL then s1
  else if (!cert || decide (margin < (s.get Reg.PACE_THR.LOW_US * 1000 : Nat))) && decide (v < hi) then
    (s1.avsRequest (min (v + 10) hi)).count Reg.PACE.AVS_UP
  else if 240 ≤ run ∧ lo < v then
    (({ s1 with pace := { s1.pace with avsRun := 0 } }).avsRequest (max (v - 5) lo)).count Reg.PACE.AVS_DOWN
  else s1

/-- The shedding decision of slice n (R530). -/
def State.shedDecide (s : State) (n : Nat) (cert : Bool) (margin : Int) : State :=
  let k := s.shedRanks
  let lo := clampN 600 900 (s.get Reg.PACE_VLIM.VMIN_MV)
  let hi := max lo (clampN 600 900 (s.get Reg.PACE_VLIM.VMAX_MV))
  let run := if cert ∧ (s.get Reg.PACE_THR.HIGH_US * 1000 : Nat) ≤ margin then s.pace.shedRun + 1 else 0
  let s1 := { s with pace := { s.pace with shedRun := run } }
  if (!cert || decide (margin < (s.get Reg.PACE_THR.SHED_US * 1000 : Nat))) &&
      (decide (hi ≤ s.get Reg.PACE_STATUS.VCORE_MV) || s.flag Reg.PACE_STATUS.AVS_FAIL) then
    if k < 3 then s1.setShed (k + 1) n else s1
  else if 1000 ≤ run ∧ 0 < k then ({ s1 with pace := { s1.pace with shedRun := 0 } }).setShed (k - 1) n
  else s1

/-- A slice is judged at alarm pass 2 (R524, R525). Where no rate was sampled the margin is a free value (log entry 1). -/
def State.certify (s : State) (n : Nat) : State :=
  match s.runs.find? fun r => r.n == n with
  | none => s
  | some r =>
    let m := s.marginOf r
    let margin : Int := m.getD (signedOf 32 (s.freeVal 32))
    let s0 := if m.isNone then s.tookFree else s
    let cert := m.isSome && s.certifiable r && decide (0 ≤ margin)
    let s1 := match s0.slice? n with
      | some x => s0.setSlice { x with margin := margin, certified := cert }
      | none => s0
    let s2 := { s1 with pace := { s1.pace with
      judged := true, lateEngine := false, lastCert := if cert then some (s.engineRuns r) else s1.pace.lastCert } }
    let s3 := ((s2.setInt Reg.PACE_MARGIN.NS margin).setFlag Reg.PACE_STATUS.CERTIFIED cert).health 2 cert
    let s4 := if cert then s3 else (s3.count Reg.PACE.UNCERT_SLICES).paceIrq Reg.PACE_IRQ.UNCERT
    let s5 := if 0 < r.shed then s4.count Reg.PACE.SHED_SLICES else s4
    (s5.avsDecide cert margin).shedDecide n cert margin

/-- Alarm pass 2 with the judgement that follows it. -/
def State.alarmPass2 (s : State) (r : Run) (rep : StageReport) : State := (s.alarmPass r 2 rep).certify r.n

/-! ### The fabric watchdog (R527) -/

/-- Every stage that has not left a slice is ended. -/
def State.endStages (s : State) (r : Run) (t : Tai) : State :=
  let todo := (List.range 11).filter fun k => !r.has k
  let s1 := todo.foldl (fun (s : State) k =>
    let a := s.lateCheck r k t
    match stageEngine k with
    | some e => (((a.setEngine r.n e 2).count Reg.PACE.WDT_ABORTS).log (evCode 3 0) 0 (evIndex e ++ leBytes 8 r.n)).paceIrq Reg.PACE_IRQ.WDT
    | none => a) s
  let s2 := { s1 with runs := s1.runs.map fun (x : Run) =>
    if x.n = r.n then { x with done := x.done ++ todo.map fun k =>
      { stage := k, start := min t (s.stageStart r k), stop := t, state := 2, exact := false, ended := true } } else x }
  if todo.contains 6 then s2.certify r.n else s2

/-- The runs that are past their time at an instant, ended in slice order. -/
def State.watchdogs (s : State) (t : Tai) : State :=
  ((s.runs.filter fun r => decide (r.closeAt + 3000 * usUnit ≤ t)).foldl (fun s r => s.endStages r t) s).sweepRuns

/-! ### The AVS loop's answers (R528) -/

/-- AVS_REQUEST_DONE. -/
def execAvsRequestDone (s : State) : Out :=
  .next (
    match s.pace.avsReq with
    | none => s
    | some (mv, _) =>
      ({ s with pace := { s.pace with avsReq := none } }.set Reg.PACE_STATUS.VCORE_MV mv).setFlag Reg.PACE_STATUS.AVS_BUSY false)

/-- AVS_TIMEOUT: not answered within 1 ms. -/
def execAvsTimeout (t : Tai) (s : State) : Out :=
  .next (
    let s := s.moveTo t
    match s.pace.avsReq with
    | none => s
    | some (mv, at_) =>
      if s.time.elapsed < at_ + msUnit then s
      else
        let s1 := { s with pace := { s.pace with avsReq := none, avsFailReq := some mv } }
        (((s1.setFlag Reg.PACE_STATUS.AVS_BUSY false).setFlag Reg.PACE_STATUS.AVS_FAIL true).log (evCode 3 1) 0 []).paceIrq Reg.PACE_IRQ.AVS_FAIL)

/-- AVS_RETRY: guarded; the request that failed goes out again. -/
def execAvsRetry (who : Requester) (s : State) : Out :=
  .next (s.guarded who Reg.PACE_CTL.AVS_RETRY.base fun s =>
    match s.pace.avsFailReq with
    | none => s.setFlag Reg.PACE_STATUS.AVS_FAIL false
    | some mv => ({ s with pace := { s.pace with avsFailReq := none } }.setFlag Reg.PACE_STATUS.AVS_FAIL false).avsRequest mv)

/-! ### Sweep units (R532, R533) -/

/-- State of a sweep unit: 0 ACTIVE, 1 SPARE, 3 RETIRED. -/
def State.unitState (s : State) (u : Nat) : Nat := bitsOf (s.get Reg.PACE_SWEEP_STATE.STATE) (2 * u) 2

/-- A sweep unit's state replaced. -/
def State.setUnit (s : State) (u v : Nat) : State :=
  s.set Reg.PACE_SWEEP_STATE.STATE (putBits (s.get Reg.PACE_SWEEP_STATE.STATE) (2 * u) 2 v)

/-- The lowest-numbered spare unit. -/
def State.spareUnit (s : State) : Option Nat := (List.range 18).find? fun u => s.unitState u == 1

/-- A unit is to be retired: a spare at once, a mapped unit at the close of the next slice while there is a spare. -/
def State.retireUnit (s : State) (u : Nat) : State :=
  if 18 ≤ u then s
  else if s.unitState u = 1 then s.setUnit u 3
  else if s.unitState u ≠ 0 ∨ u ∈ s.pace.retire then s
  else if s.spareUnit.isSome then { s with pace := { s.pace with retire := s.pace.retire ++ [u] } }
  else s.setFlag Reg.PACE_STATUS.NO_SPARE true

/-- Retirements take effect at a close. -/
def State.retireUnits (s : State) : State :=
  { s.pace.retire.foldl (fun (s : State) u =>
      match s.spareUnit, (List.range 16).find? (fun k => bitsOf (s.get Reg.PACE_SWEEP_MAP.MAP) (8 * k) 5 == u) with
      | some p, some k =>
        ((s.setUnit u 3).setUnit p 0).set Reg.PACE_SWEEP_MAP.MAP (putBits (s.get Reg.PACE_SWEEP_MAP.MAP) (8 * k) 8 p)
      | none, _ => s.setFlag Reg.PACE_STATUS.NO_SPARE true
      | _, none => s) s with
    pace := { s.pace with retire := [] } }

/-- A unit's test failed after slice n's LSE stage. -/
def State.unitFault (s : State) (n u : Nat) : State :=
  let s1 := ((s.count Reg.PACE.UNIT_TEST_FAIL).paceIrq Reg.PACE_IRQ.UNIT_FAULT).log (evCode 3 3) 0 (evIndex u)
  let fs := n :: (((alookup u s1.pace.fails).getD []).filter fun m => decide (n < m + 1000))
  let s2 := { s1 with pace := { s1.pace with fails := aset u fs s1.pace.fails } }
  if 3 ≤ fs.length ∧ s2.flag Reg.PACE_CTL.AUTO_SWEEP then s2.retireUnit u else s2

/-- The tests of every physical unit after an LSE stage, and the units to be restored. -/
def State.unitTests (s : State) (n : Nat) (bad : List Nat) : State :=
  let f := (bad.filter fun u => decide (u < 18)).eraseDups
  let s1 := f.foldl (fun s u => s.unitFault n u) s
  s1.pace.passes.foldl (fun (s : State) p =>
    if f.contains p.1 then { s with pace := { s.pace with passes := aset p.1 0 s.pace.passes } }
    else if 1000 ≤ p.2 + 1 then
      ({ s with pace := { s.pace with passes := aerase p.1 s.pace.passes } }.setUnit p.1 1).setFlag Reg.PACE_STATUS.NO_SPARE false
    else { s with pace := { s.pace with passes := aset p.1 (p.2 + 1) s.pace.passes } }) s1

/-- The LSE stage with the unit tests that follow it. -/
def State.lseAndTests (s : State) (r : Run) (rep : StageReport) : State := (s.lseStage r rep).unitTests r.n rep.unitFail

/-- SWEEP_RETIRE: guarded. -/
def execSweepRetire (who : Requester) (u : Nat) (s : State) : Out :=
  .next (s.guarded who Reg.PACE_SWEEP_CMD.UNIT.base fun s => s.retireUnit (u % 32))

/-- SWEEP_RESTORE: guarded; a retired unit becomes SPARE after 1,000 consecutive passes. -/
def execSweepRestore (who : Requester) (u : Nat) (s : State) : Out :=
  .next (s.guarded who Reg.PACE_SWEEP_CMD.UNIT.base fun s =>
    if u % 32 < 18 ∧ s.unitState (u % 32) = 3 ∧ (alookup (u % 32) s.pace.passes).isNone then
      { s with pace := { s.pace with passes := aset (u % 32) 0 s.pace.passes } }
    else s)

/-! ### Cores and the Carafe (R534 to R536) -/

/-- CORE_CACHE_ERROR (R534): physical core p. -/
def execCoreCacheError (p : Nat) (uncorrectable : Bool) (s : State) : Out :=
  .next (
    let recent := if uncorrectable then [] else
      s.time.elapsed :: ((alookup p s.pace.cacheErrs).getD []).filter fun t => decide (s.time.elapsed < t + 3600 * secUnit)
    let hit := uncorrectable || decide (3 ≤ recent.length)
    let s1 := { s with pace := { s.pace with cacheErrs := aset p (if hit then [] else recent) s.pace.cacheErrs } }
    if !hit then s1
    else match (List.range 9).find? fun q => s1.coreState q == 1 with
      | none => s1.paceIrq Reg.PACE_IRQ.CORE_FAULT
      | some q =>
        if s1.flag Reg.PACE_CTL.AUTO_CORE && p < 9 && s1.coreState p == 0 && s1.sch.migration.isNone then s1.migrate p q false else s1)

/-- All ones, as a value of a slot. -/
def onesF : F32 := BitVec.ofNat 32 0xFFFFFFFF

/-- A 64-byte unit of a history record reads all ones: 8 values, or the quality words of 32 slots behind the values. -/
def Slice.lostUnit (x : Slice) (u : Nat) : Slice :=
  if u < 8192 then
    { x with slots := (List.range 8).foldl (fun l k =>
        aset (8 * u + k) { v := { re := onesF, im := onesF }, q := (x.slot (8 * u + k)).q } l) x.slots }
  else if u < 10240 then
    { x with slots := (List.range 32).foldl (fun l k =>
        aset (32 * (u - 8192) + k) { v := (x.slot (32 * (u - 8192) + k)).v, q := 0xFFFF } l) x.slots }
  else x

/-- A lane's samples at some positions read as lost. -/
def CapLane.lose (l : CapLane) (wave : List (Nat × Nat)) : CapLane :=
  { l with samples := (List.range l.samples.length).filterMap fun j => (l.samples[j]?).map fun (w : WaveSample) =>
      if (l.lane, j) ∈ wave then { w with v := onesF, flags := Nat.lor w.flags 8 } else w }

/-- A record's samples and slices read as lost. -/
def CapRec.lostParts (r : CapRec) (wave : List (Nat × Nat)) (lost : List Nat) : CapRec :=
  let sl := r.slices.map fun (e : Nat × Bool × Bytes) => if e.1 ∈ lost then (e.1, e.2.1, List.replicate e.2.2.length (0xFF : Byte)) else e
  { r with lanes := r.lanes.map (fun l => l.lose wave), slices := sl, flags := Nat.lor r.flags (2 * b2n (!wave.isEmpty) + 4 * b2n (!lost.isEmpty)) }

/-- What an uncorrectable error does to what was read (R536). -/
def State.lostRead (s : State) : CarafePlace → State
  | .tile region copy tile => (s.markCopy region copy tile true).tileHealth
  | .history n u => match s.slice? n with
    | some x => s.setSlice (x.lostUnit u)
    | none => s
  | .capture slot wave slices => match alookup slot s.cap.recs with
    | some x => (s.setCap slot (x.lostParts wave slices)).capLost slices.length wave.length
    | none => s
  | .heap => s.emit .busError
  | .other => s

/-- A failing row is copied to a spare row while the table has room (R535). -/
def State.remapRow (s : State) (row : Nat) : State :=
  if row ∈ s.nvs.remap ∨ row ∈ s.pace.remapping ∨ 4096 ≤ s.nvs.remap.length + s.pace.remapping.length then s
  else { s with pace := { s.pace with remapping := s.pace.remapping ++ [row], rowErrs := aerase row s.pace.rowErrs } }

/-- CARAFE_ECC_ERROR (R535, R536). -/
def execCarafeEccError (place : CarafePlace) (row : Nat) (uncorrectable : Bool) (s : State) : Out :=
  .next (
    if uncorrectable then
      let s1 := ((s.count Reg.CRF.UE).log (evCode 23 0) 0 []).irq Reg.CRF_IRQ.UE Reg.CRF_IRQ_MASK.MASK 3
      (s1.lostRead place).remapRow row
    else
      let recent := s.time.elapsed :: ((alookup row s.pace.rowErrs).getD []).filter fun t => decide (s.time.elapsed < t + 86400 * secUnit)
      let s1 := { s.count Reg.CRF.CE with pace := { s.pace with rowErrs := aset row recent s.pace.rowErrs } }
      if 8 ≤ recent.length then s1.remapRow row else s1)

/-- REMAP_USED and REMAP_FULL follow the table. -/
def State.showRemap (s : State) : State :=
  ((s.set Reg.CRF_STATUS.REMAP_USED s.nvs.remap.length).setFlag Reg.CRF_STATUS.REMAP_FULL (decide (4096 ≤ s.nvs.remap.length))).setFlag
    Reg.CRF_STATUS.PPR_PENDING (!s.nvs.remap.isEmpty)

/-- ROW_REMAP_COPY_DONE (R535): the row is served from its spare, and the table is saved. -/
def execRowRemapCopyDone (row : Nat) (s : State) : Out :=
  .next (
    if row ∈ s.pace.remapping then
      let s1 := { s with pace := { s.pace with remapping := s.pace.remapping.filter (· != row) }, nvs := { s.nvs with remap := s.nvs.remap ++ [row] } }
      (s1.showRemap.count Reg.CRF.REMAPS).irq Reg.CRF_IRQ.REMAP Reg.CRF_IRQ_MASK.MASK 3
    else s)

/-- JUNCTION_TEMPERATURE_CHANGE (R83, R525): in 1/1000 °C. -/
def execJunctionTemperatureChange (temp : Int) (s : State) : Out :=
  .next (
    let hot := if 110000 < s.env.junction ∨ 110000 < temp then some s.time.tai else s.pace.hotAt
    ({ s with env := { s.env with junction := temp }, pace := { s.pace with hotAt := hot } }).health 7 (decide (temp ≤ 110000)))

end Sys2Proof.Machine
end

