-- ==== Sys2Proof/Machine/Filter.lean ====
section
/-! DEFINITION. The filter chain (R242 to R263): CIC, FIR, DC blocker and resampler of a lane, synchronising resets, coefficient banks
and their fades, the phasor estimator, and the legacy compare units. -/

namespace Sys2Proof.Machine

/-! ### The FILTER section (R261) -/

/-- TYPE 2 record of group g. -/
def Roast.groupRec (r : Roast) (g : Nat) : Option Bytes := (r.recs 0x19).find? fun b => leAt b 0 1 == 2 && leAt b 1 1 == g
/-- Members of a group. -/
def gMembers (b : Bytes) : List Nat := List.range (min 8 (leAt b 2 1))
/-- FNOM in hertz. -/
def gFnom (b : Bytes) : Nat := if leAt b 3 1 = 0 then 60 else 50
/-- Tracking mode. -/
def gTracking (b : Bytes) : Bool := leAt b 4 1 == 1
/-- F_out in fixed mode. -/
def gFout (b : Bytes) : Nat := if leAt b 5 1 = 0 then 4800 else if leAt b 5 1 = 1 then 9600 else 14400
/-- M in tracking mode. -/
def gM (b : Bytes) : Nat := if leAt b 5 1 = 0 then 64 else if leAt b 5 1 = 1 then 96 else if leAt b 5 1 = 2 then 128 else 256
/-- M class. -/
def gHann (b : Bytes) : Bool := leAt b 6 1 == 1
/-- Resampler outputs per cycle of F0. -/
def gPerCycle (b : Bytes) : Nat := if gTracking b then gM b else gFout b / gFnom b
/-- N of the estimator (R251). -/
def gN (b : Bytes) : Nat := if gHann b then leAt b 7 1 * gPerCycle b else gPerCycle b
/-- CIC_R. -/
def gR (b : Bytes) : Nat := leAt b 8 2
/-- FIR_D. -/
def gD (b : Bytes) : Nat := max 1 (leAt b 0xA 1)
/-- FIR_DELAY in CIC samples. -/
def gDelay (b : Bytes) : Rat := fVal (BitVec.ofNat 32 (leAt b 0xC 4))
/-- DCB_K. -/
def gK (b : Bytes) : Nat := leAt b 0x10 1
/-- DCB_A. -/
def gA (b : Bytes) : Nat := leAt b 0x11 1
/-- FIR_XFADE. -/
def gXfade (b : Bytes) : Nat := leAt b 0x12 2
/-- SV_WAIT_US. -/
def gSvWait (b : Bytes) : Nat := leAt b 0x14 4
/-- FREQ_SRC as member numbers. -/
def gFreqSrc (b : Bytes) : List Nat := (List.range 8).filter (bitAt (leAt b 0x18 1))
/-- TRACK_SRC. -/
def gTrackSrc (b : Bytes) : Nat := leAt b 0x19 1
/-- SRC_KIND of a member: 1 SDM, 2 SV. -/
def gKind (b : Bytes) (m : Nat) : Nat := leAt b (0x20 + 8 * m) 1
/-- SRC_INDEX. -/
def gSrc (b : Bytes) (m : Nat) : Nat := leAt b (0x21 + 8 * m) 1
/-- SV_CHAN. -/
def gChan (b : Bytes) (m : Nat) : Nat := leAt b (0x22 + 8 * m) 1
/-- SDM_CLK. -/
def gClk (b : Bytes) (m : Nat) : Nat := leAt b (0x23 + 8 * m) 1
/-- SKEW in ps. -/
def gSkew (b : Bytes) (m : Nat) : Int := signedOf 32 (leAt b (0x24 + 8 * m) 4)

/-- DIV of a clock (record 0). -/
def Roast.sdmDiv (r : Roast) (k : Nat) : Nat := leAt (r.recAt 0x19 0) (4 + k) 1
/-- KXFADE_US. -/
def Roast.kxfade (r : Roast) : Nat := leAt (r.recAt 0x19 0) 8 4

/-- The kind-4 stream that feeds an SV input group, with its sample rate: DATA_RATE of its template where that is a rate of R234, else
4,800 (log entry 63). -/
def Roast.svRate (r : Roast) (input : Nat) : Nat :=
  match (r.recs 0x10).find? fun b => recKind b == 4 && recGroup b == input with
  | some b => if tplRate (r.recAt 0x11 (recTpl b)) = 14400 then 14400 else 4800
  | none => 4800

/-- The kind-5 stream of a group. -/
def Roast.groupStream (r : Roast) (g : Nat) : Option Nat :=
  (List.range r.streamCount).find? fun i => recKind (r.recAt 0x10 i) == 5 && recGroup (r.recAt 0x10 i) == g

/-! ### Delays (R254), in seconds -/

/-- Modulator period of a member. -/
def Roast.modPeriod (r : Roast) (b : Bytes) (m : Nat) : Rat := (r.sdmDiv (gClk b m) : Rat) / 800000000
/-- T_in of a member. -/
def Roast.tIn (r : Roast) (b : Bytes) (m : Nat) : Rat :=
  if gKind b m = 1 then (gR b * gD b : Nat) * r.modPeriod b m else 1 / (r.svRate (gSrc b m) : Rat)
/-- D_c of a member. -/
def Roast.laneDelay (r : Roast) (b : Bytes) (m : Nat) : Rat :=
  (if gKind b m = 1 then (5 / 2 : Rat) * ((gR b : Rat) - 1) * r.modPeriod b m + gDelay b * (gR b : Rat) * r.modPeriod b m
   else (gSvWait b : Rat) / 1000000) + 8 * r.tIn b m + 3 / 1000000
/-- S after a full reset of a member. -/
def Roast.laneSettle (r : Roast) (b : Bytes) (m : Nat) : Rat :=
  (if gKind b m = 1 then (5 / 2 : Rat) * ((gR b : Rat) - 1) * r.modPeriod b m + (63 - gDelay b) * (gR b : Rat) * r.modPeriod b m else 0) +
    ((2 ^ gA b + 8 : Nat) : Rat) * r.tIn b m
/-- The largest over a group's members. -/
def largest (b : Bytes) (f : Nat → Rat) : Rat := (gMembers b).foldl (fun a m => max a (f m)) 0
/-- Seconds as an interval of time, rounded up. -/
def taiCeil (q : Rat) : Tai := (Rat.ceil (q * (secUnit : Rat))).toNat
/-- Nanoseconds, rounded up. -/
def nsCeil (q : Rat) : Nat := (Rat.ceil (q * 1000000000)).toNat
/-- The phasor latency with a centred window; in tracking mode at the nominal frequency (log entry 64). -/
def Roast.groupLatency (r : Roast) (b : Bytes) : Rat :=
  largest b (r.laneDelay b) + ((gN b - 1 : Nat) : Rat) / (2 * (gPerCycle b : Rat) * (gFnom b : Rat))

/-! ### State -/

/-- A lane. -/
def State.lane (s : State) (l : Nat) : FltLane := (alookup l s.flt.lanes).getD {}
/-- A lane replaced. -/
def State.setLane (s : State) (l : Nat) (x : FltLane) : State := { s with flt := { s.flt with lanes := aset l x s.flt.lanes } }
/-- A group. -/
def State.fgroup (s : State) (g : Nat) : FltGroup := (alookup g s.flt.groups).getD {}
/-- A group replaced. -/
def State.setFgroup (s : State) (g : Nat) (x : FltGroup) : State := { s with flt := { s.flt with groups := aset g x s.flt.groups } }
/-- A group runs: configured, and both it and the chain enabled. -/
def State.groupRuns (s : State) (g : Nat) : Bool := (s.roast.groupRec g).isSome && s.blockRuns .filter && s.blockRuns (.filterGroup g)
/-- An interrupt of the chain. -/
def State.fltIrq (s : State) (f : Fld) : State := s.irq f Reg.FLT_IRQ_MASK.MASK 32
/-- A member's DC blocker is frozen. -/
def State.frozen (s : State) (l : Nat) : Bool := s.bit (Reg.FLT_G_FREEZE.FREEZE.ix (l / 8)) (l % 8)

/-- SDM_CLKk runs (R243): never in safe mode or quarantine (R59). -/
def State.sdmRuns (s : State) (k : Nat) : Bool :=
  decide (s.get Reg.BOOT_STATUS.STATE < 2) && (s.flag (Reg.FLT_SDMCLK.EN.ix k) || (List.range 32).any fun g =>
    s.groupRuns g && (match s.roast.groupRec g with
      | some b => (gMembers b).any fun m => gKind b m == 1 && gClk b m == k
      | none => false))

/-- FLT_SDMCLK_k follows. -/
def State.showSdm (s : State) : State :=
  (List.range 4).foldl (fun s k => (s.setFlag (Reg.FLT_SDMCLK.RUN.ix k) (s.sdmRuns k)).set (Reg.FLT_SDMCLK.DIV.ix k) (s.roast.sdmDiv k)) s

/-- Registers that follow the roast: configured groups, delays, dividers. -/
def State.showFlt (s : State) : State :=
  ((List.range 32).foldl (fun s g =>
    match s.roast.groupRec g with
    | some b =>
      let r := s.roast
      (((s.setFlag (Reg.FLT_G_STATUS.CONFIGURED.ix g) true).set (Reg.FLT_G.DELAY.ix g) (nsCeil (largest b (r.laneDelay b)))).set
        (Reg.FLT_G.SETTLE.ix g) (nsCeil (largest b (r.laneSettle b)))).set (Reg.FLT_G.LATENCY.ix g) (nsCeil (r.groupLatency b))
    | none =>
      (((s.setFlag (Reg.FLT_G_STATUS.CONFIGURED.ix g) false).set (Reg.FLT_G.DELAY.ix g) 0).set (Reg.FLT_G.SETTLE.ix g) 0).set
        (Reg.FLT_G.LATENCY.ix g) 0) s).showSdm

/-! ### Banks and fades (R257 to R259) -/

/-- Fields of a bank register: ACTIVE, FADING, QUEUED, QTARGET, RESULT. -/
structure BankFlds where
  active : Fld
  fading : Fld
  queued : Fld
  qtarget : Fld
  result : Fld

/-- FLT_KBANK. -/
def kBank : BankFlds :=
  { active := Reg.FLT_KBANK.ACTIVE, fading := Reg.FLT_KBANK.FADING, queued := Reg.FLT_KBANK.QUEUED, qtarget := Reg.FLT_KBANK.QTARGET
    result := Reg.FLT_KBANK.RESULT }

/-- FLT_G_g_FIR_BANK. -/
def firBank (g : Nat) : BankFlds :=
  { active := Reg.FLT_G_FIR_BANK.ACTIVE.ix g, fading := Reg.FLT_G_FIR_BANK.FADING.ix g, queued := Reg.FLT_G_FIR_BANK.QUEUED.ix g
    qtarget := Reg.FLT_G_FIR_BANK.QTARGET.ix g, result := Reg.FLT_G_FIR_BANK.RESULT.ix g }

/-- Coefficient `i` of a group's FIR bank. -/
def State.firCoef (s : State) (g bank i : Nat) : F32 :=
  (alookup ((2 * g + bank) * 64 + i) s.flt.edits).getD
    (match (s.roast.recs 0x19).find? fun b => leAt b 0 1 == 3 && leAt b 1 1 == g && leAt b 2 1 == bank with
    | some b => BitVec.ofNat 32 (leAt b (0x40 + 4 * i) 4)
    | none => fZero)

/-- c[p][j] of a kernel bank, with c[256][j] = c[0][j+1] and c[0][16] = 0. -/
def State.kernCoef (s : State) (bank p j : Nat) : F32 :=
  let q := if p = 256 then 0 else p
  let k := if p = 256 then j + 1 else j
  if 16 ≤ k then fZero
  else (alookup (4096 + bank * 4096 + 16 * q + k) s.flt.edits).getD
    (match (s.roast.recs 0x19).find? fun b => leAt b 0 1 == 4 && leAt b 1 1 == bank && leAt b 2 1 == q / 16 with
    | some b => BitVec.ofNat 32 (leAt b (0x40 + 4 * (16 * (q % 16) + k)) 4)
    | none => fZero)

/-- A fade of a stage begins, or none: what a request does with no fade running. -/
def State.requestIdle (s : State) (f : BankFlds) (target : Nat) (start : State → State) : State :=
  if s.get f.active = target then s.set f.result 3 else (start (s.setFlag f.fading true)).set f.result 1

/-- A swap request (R258). -/
def State.request (s : State) (f : BankFlds) (target : Nat) (start : State → State) : State :=
  if s.flag f.fading then ((s.setFlag f.queued true).set f.qtarget target).set f.result 2 else s.requestIdle f target start

/-- A fade ends: ACTIVE changes, a queued request is evaluated as a new one, SWAP_DONE is set. -/
def State.fadeDone (s : State) (f : BankFlds) (target : Nat) (start : State → State) : State :=
  let s1 := (s.set f.active target).setFlag f.fading false
  let s2 := if s1.flag f.queued then (s1.setFlag f.queued false).requestIdle f (s1.get f.qtarget) start else s1
  s2.fltIrq Reg.FLT_IRQ.SWAP_DONE

/-- The value that a read of FLT_COEF_DATA returns: the coefficient at the selected place (R257, R263). -/
def State.coefShown (s : State) : F32 :=
  let bank := s.get Reg.FLT_COEF_SEL.BANK
  let i := s.get Reg.FLT_COEF_SEL.INDEX
  if s.flag Reg.FLT_COEF_SEL.KIND then s.kernCoef bank (i / 16) (i % 16)
  else if i < 64 then s.firCoef (s.get Reg.FLT_COEF_SEL.GROUP) bank i else fZero

/-- A FIR fade of a group starts at each lane's next FIR output. -/
def State.firStart (g target : Nat) (s : State) : State :=
  { s with flt := { s.flt with
    groups := aset g { s.fgroup g with fade := some { target := target } } s.flt.groups
    lanes := s.flt.lanes.map fun (e : Nat × FltLane) => if e.1 / 8 = g then (e.1, { e.2 with ffade := 0 }) else e } }

/-- A kernel fade starts at each lane's next output. -/
def State.kernStart (target : Nat) (s : State) : State :=
  { s with flt := { s.flt with kfade := some { target := target }, lanes := s.flt.lanes.map fun (e : Nat × FltLane) => (e.1, { e.2 with fade := 0 }) } }

/-- Outputs a second of a lane: F_out, or M f̂ in tracking mode (R249). -/
def outRate (b : Bytes) (fhat : F32) : Rat :=
  if gTracking b then (gM b : Rat) * (if fVal fhat ≤ 0 then (gFnom b : Rat) else fVal fhat) else (gFout b : Rat)

/-- L of the kernel fade on a lane: outputs whose instants fall within KXFADE_US, at the rate of the fade's first output (log entry 64). -/
def Roast.kernFade (r : Roast) (b : Bytes) (fhat : F32) : Nat := (Rat.floor ((r.kxfade : Rat) * outRate b fhat / 1000000)).toNat

/-- The blended output of a fade: the i-th of L. -/
def fadeMix (i l : Nat) (old new : F32) : F32 :=
  if l ≤ i then new
  else
    let a := roundF ((i : Rat) / (l : Rat))
    fAdd (fMul (fSub fOne a) old) (fMul a new)

/-! ### Synchronising resets (R256) -/

/-- A FIR fade ends at once at a group reset; a queued request applies without a fade (R259). -/
def State.cutFade (s : State) (g : Nat) : State :=
  match (s.fgroup g).fade with
  | none => s
  | some f =>
    let b := firBank g
    let a := if s.flag b.queued then s.get b.qtarget else f.target
    (((s.setFgroup g { s.fgroup g with fade := none }).set b.active a).setFlag b.fading false).setFlag b.queued false |>.fltIrq
      Reg.FLT_IRQ.SWAP_DONE

/-- The first output instant of a grid at or after an instant, with its number: the grid of R249 in fixed mode. -/
def gridFrom (fout : Nat) (t : Tai) : Nat × Tai :=
  let j := (2 * t * fout + secUnit - 1) / (2 * secUnit)
  let at_ (j : Nat) : Tai := (2 * j + 1) * secUnit / (2 * fout)
  if at_ j < t then (j + 1, at_ (j + 1)) else (j, at_ j)

/-- More outputs than a kernel fade has on any lane (R249, R261): a lane that is reset during one starts on its target (R259). -/
def fadeOver : Nat := 10000000

/-- A lane as a reset of its resampler leaves it; outputs from the instant on are taken back. -/
def FltLane.resample (x : FltLane) (b : Bytes) (t settle : Tai) : FltLane :=
  let n := if gTracking b then (0, t) else gridFrom (gFout b) t
  { x with x := [], k := 0, j := n.1, next := n.2, fade := fadeOver, settle := max x.settle (t + settle), gapped := false, outs := x.outs.filter fun o => decide (o.t < t) }

/-- f̂ follows group TRACK_SRC (R249); a reset group's own frequency is SETTLING. -/
def State.track (s : State) (b : Bytes) (g : Nat) : State :=
  let src := s.fgroup (gTrackSrc b)
  let nom := fOfInt (gFnom b)
  let fall := bitAt src.freqFlags 0 || bitAt src.freqFlags 1 || bitAt src.freqFlags 3 || fIsNaN src.freq
  let lo := fSub nom 0x40A00000
  let hi := fAdd nom 0x40A00000
  let v := if fall then nom else if fLt src.freq lo then lo else if fLt hi src.freq then hi else src.freq
  ((s.setFgroup g { s.fgroup g with fhat := v }).setFlag (Reg.FLT_G_STATUS.FREQ_FALLBACK.ix g) fall).setFlag (Reg.FLT_G_STATUS.FREQ_CLAMP.ix g)
    (!fall && (fLt src.freq lo || fLt hi src.freq))

/-- A full reset of a group. -/
def State.fullReset (s : State) (g : Nat) : State :=
  match s.roast.groupRec g with
  | none => s
  | some b =>
    let t := s.time.tai
    let settle := taiCeil (largest b (s.roast.laneSettle b))
    let s1 := (gMembers b).foldl (fun s m =>
      let l := 8 * g + m
      let keep := if s.frozen l then (s.lane l).m else fZero
      ((((s.setLane l (({ m := keep, settle := (s.lane l).settle } : FltLane).resample b t settle)).setFlag (Reg.FLT_L_STATUS.ACQ.ix l) true).set
        (Reg.FLT_L.OFFSET.ix l) keep.toNat).setFlag (Reg.FLT_L_STATUS.GAP.ix l) false).setFlag (Reg.FLT_L_STATUS.FROZEN.ix l) (s.frozen l)) s
    let s2 := s1.cutFade g
    (((s2.setFgroup g { resetAt := t, fhat := fOfInt (gFnom b) }).track b g).setFlag (Reg.FLT_G_STATUS.SETTLING.ix g) true).showSdm

/-- A group whose EN is 1 starts with the chain, with a full reset; any other stands still (R256, R263). -/
def State.groupStart (s : State) (g : Nat) : State :=
  let on := (s.roast.groupRec g).isSome && s.flag (Reg.FLT_G_CTL.EN.ix g)
  let s1 := (s.setFlag (Reg.FLT_G_CTL.BUSY.ix g) on).setFlag (Reg.FLT_G_CTL.PEND.ix g) false
  if on then s1.fullReset g else s1

/-- No group runs once the chain has stopped (R263). -/
def State.groupsStop (s : State) : State :=
  ((List.range 32).foldl (fun s g => (s.setFlag (Reg.FLT_G_CTL.BUSY.ix g) false).setFlag (Reg.FLT_G_CTL.PEND.ix g) false) s).showSdm

/-- The DC blocker and resampler of an SV lane are reset as samples resume after a long gap (R246, R256). -/
def State.gapReset (s : State) (b : Bytes) (l : Nat) : State :=
  let x := s.lane l
  let keep := if s.frozen l then x.m else fZero
  let settle := s.time.tai + taiCeil (s.roast.laneSettle b (l % 8))
  let s1 := s.setLane l { x with x := [], acq := 0, m := keep, fade := fadeOver, settle := max x.settle settle, gapped := true }
  ((s1.setFgroup (l / 8) { s1.fgroup (l / 8) with settling := true }).setFlag (Reg.FLT_L_STATUS.GAP.ix l) false).setFlag
    (Reg.FLT_L_STATUS.ACQ.ix l) true

/-- A step of the time base resets the resampler of every lane at the step instant in the new time, and no other stage (R250): the sample
numbers of SV lanes, which count from the epoch, are taken up anew with the next sample (log entry 125). -/
def State.fltStep (s : State) : State :=
  (List.range 32).foldl (fun s g =>
    match s.roast.groupRec g with
    | none => s
    | some b =>
      if !s.groupRuns g then s
      else
        let settle := taiCeil (largest b fun m => 8 * s.roast.tIn b m)
        let s1 := (gMembers b).foldl (fun s m => s.setLane (8 * g + m) { (s.lane (8 * g + m)).resample b s.time.tai settle with svNext := none, svLast := none }) s
        s1.setFgroup g { s1.fgroup g with resetAt := s.time.tai, settling := true, lastN := none }) s

/-! ### The stages of a lane (R245 to R249) -/

/-- A 48-bit integer. -/
def wrap48 (i : Int) : Int := signedOf 48 (codeOf 48 i)

/-- Five integrators take one bit. -/
def cicBit (st : List Int) (x : Int) : List Int :=
  (st.foldl (fun (a : List Int × Int) i => let v := wrap48 (i + a.2); (a.1 ++ [v], v)) ([], x)).1

/-- Five combs of differential delay 1: the new memories and the output. -/
def cicComb (st : List Int) (x : Int) : List Int × Int :=
  st.foldl (fun (a : List Int × Int) d => (a.1 ++ [a.2], wrap48 (a.2 - d))) ([], x)

/-- Flags of the samples a stage uses, joined. -/
def orFlags (xs : List Nat) : Nat := xs.foldl Nat.lor 0

/-- The DC blocker (R248). -/
def dcBlock (a k acq : Nat) (m : F32) (freeze : Bool) (x : F32) : Nat × F32 × F32 :=
  if freeze then (acq, m, fSub x m)
  else if acq < 2 ^ a then
    let m1 := fAdd m (fDiv (fSub x m) (fOfInt (acq + 1)))
    (acq + 1, m1, fSub x m1)
  else
    let m1 := fAdd m (fMul (fSub x m) (roundF (pow2 (-(k : Int)))))
    (acq, m1, fSub x m1)

/-- A sample enters a lane at its DC blocker. -/
def State.laneInput (s : State) (b : Bytes) (l : Nat) (x : FltSample) : State :=
  let a := s.lane l
  let d := dcBlock (gA b) (gK b) a.acq a.m (s.frozen l) x.v
  let xs := a.x ++ [{ x with v := d.2.2 }]
  (((s.setLane l { a with acq := d.1, m := d.2.1, x := xs.drop (xs.length - 64) }).set (Reg.FLT_L.OFFSET.ix l) d.2.1.toNat).setFlag
    (Reg.FLT_L_STATUS.ACQ.ix l) (decide (d.1 < 2 ^ gA b))).setFlag (Reg.FLT_L_STATUS.FROZEN.ix l) (s.frozen l)

/-- The FIR output at a CIC output (R247, R258). -/
def State.firOutput (s : State) (b : Bytes) (g l : Nat) : State :=
  let a := s.lane l
  let act := s.get (firBank g).active
  let y (bank : Nat) : F32 := dotWide ((List.range 64).map (s.firCoef g bank)) (a.cic.map (·.v))
  let fade := (s.fgroup g).fade
  let v := match fade with
    | none => y act
    | some f => fadeMix (a.ffade + 1) (gXfade b) (y act) (y f.target)
  let d := taiCeil (gDelay b * (gR b : Rat) * s.roast.modPeriod b (l % 8))
  let t := ((a.cic.head?.map (·.t)).getD 0) - d
  let s1 := if fade.isSome then s.setLane l { a with ffade := a.ffade + 1 } else s
  s1.laneInput b l { t := t, v := v, flags := orFlags (a.cic.map (·.flags)) }

/-- A CIC output of an SDM lane from its last R bits and the instant of the edge that sampled the newest (R245). -/
def State.cicOutput (s : State) (b : Bytes) (l : Nat) (bits : List Bool) (edge : Tai) : State :=
  let a := s.lane l
  let integ := bits.foldl (fun st x => cicBit st (if x then 1 else -1)) a.integ
  let c := cicComb a.comb ((integ.getLast?).getD 0)
  let v := roundF ((c.2 : Rat) / ((gR b ^ 5 : Nat) : Rat))
  let ones := (bits.filter id).length
  let bad := decide (100 * ones < 8 * gR b) || decide (92 * gR b < 100 * ones)
  let delay : Rat := (5 / 2 : Rat) * ((gR b : Rat) - 1) * s.roast.modPeriod b (l % 8) * (secUnit : Rat) + (gSkew b (l % 8) : Rat) * 65536 / 1000
  let t := (Rat.floor ((edge : Rat) - delay)).toNat
  let cic := ({ t := t, v := v, flags := 2 * b2n bad } : FltSample) :: a.cic
  let full := decide (gD b ≤ a.phase + 1)
  let s1 := s.setLane l { a with integ := integ, comb := c.1, cic := cic.take 64, phase := if full then 0 else a.phase + 1 }
  let s2 := s1.setFlag (Reg.FLT_L_STATUS.OVR.ix l) bad
  let s3 := if bad then (s2.count (Reg.FLT_L.FAULTS.ix l)).fltIrq Reg.FLT_IRQ.SDM_OVR else s2
  if full then s3.firOutput b (l / 8) l else s3

/-- Missing samples before a sample that has come: fill a short gap, or reset after a long one (R246). -/
def State.svFill (s : State) (b : Bytes) (l run : Nat) (x : FltSample) : State :=
  if run = 0 then s
  else if 2 < run then s.gapReset b l
  else
    match (s.lane l).svLast with
    | none => s
    | some p =>
      let pv := p.v
      (List.range run).foldl (fun s i =>
        let w := roundF (((i + 1 : Nat) : Rat) / ((run + 1 : Nat) : Rat))
        s.laneInput b l { t := p.t + (x.t - p.t) * (i + 1) / (run + 1), v := fAdd pv (fMul w (fSub x.v pv)), flags := 16 }) s

/-- A sample of an SV channel reaches its lane: number, instant, value, flags; late or repeated ones are missing (R246). -/
def State.svSample (s : State) (b : Bytes) (l q : Nat) (x : FltSample) (stamp : Tai) : State :=
  let a := s.lane l
  let next := a.svNext.getD q
  if x.t + gSvWait b * usUnit < stamp ∨ q < next then s
  else
    let new := q - next
    let run := a.miss + new
    let s1 := s.count (Reg.FLT_L.FAULTS.ix l) (new + b2n (bitAt x.flags 1 || bitAt x.flags 4))
    let s2 := if 0 < new ∧ a.miss = 0 then s1.fltIrq Reg.FLT_IRQ.SV_GAP else s1
    let s3 := s2.svFill b l run x
    let s4 := s3.laneInput b l x
    s4.setLane l { s4.lane l with svNext := some (q + 1), miss := 0, svLast := some x }

/-- A sample has not come by its instant plus SV_WAIT. -/
def State.svMissed (s : State) (b : Bytes) (l : Nat) : State :=
  let a := s.lane l
  match a.svNext with
  | none => s
  | some q =>
    let n := a.miss + 1
    let rate := s.roast.svRate (gSrc b (l % 8))
    let hole (i : Nat) : FltSample := { t := i * secUnit / rate, v := fNaN, flags := 2 }
    let holes := if n < 3 then [] else if n = 3 then [hole (q - 2), hole (q - 1), hole q] else [hole q]
    let xs := a.x ++ holes
    let s1 := (s.setLane l { a with svNext := some (q + 1), miss := n, x := xs.drop (xs.length - 64) }).count (Reg.FLT_L.FAULTS.ix l)
    (if n = 1 then s1.fltIrq Reg.FLT_IRQ.SV_GAP else s1).setFlag (Reg.FLT_L_STATUS.GAP.ix l) (decide (2 < n))

/-! ### The resampler (R249) -/

/-- The inputs of the output at an instant: the 16 samples x[i-7] to x[i+8], oldest first, with the stamps around the instant; none
while they are not all available. A place before the first input is empty. -/
def FltLane.taps (a : FltLane) : Option (List (Option FltSample) × Option (Tai × Tai)) :=
  let before := (a.x.filter fun x => decide (x.t ≤ a.next)).length
  if a.x.length < before + 8 then none
  else
    let at_ (k : Nat) : Option FltSample := if k + before < 8 then none else a.x[k + before - 8]?
    some ((List.range 16).map at_,
      match at_ 7, at_ 8 with
      | some p, some q => some (p.t, q.t)
      | _, _ => none)

/-- The value of an output with a kernel bank. -/
def State.resampled (s : State) (bank : Nat) (a : FltLane) (xs : List (Option FltSample)) (span : Option (Tai × Tai)) : F32 :=
  match span with
  | none => if a.gapped then fNaN else fZero
  | some (t0, t1) =>
    let mu : Rat := ((a.next - t0 : Nat) : Rat) / ((max 1 (t1 - t0) : Nat) : Rat)
    let p := min 255 (Rat.floor (256 * mu)).toNat
    let lam := roundF (256 * mu - (p : Rat))
    (List.range 16).foldl (fun y j =>
      let x : F32 := match (xs[j]?).getD none with
        | some e => e.v
        | none => if a.gapped then fNaN else fZero
      let c := fAdd (fMul (fSub fOne lam) (s.kernCoef bank p j)) (fMul lam (s.kernCoef bank (p + 1) j))
      fAdd y (fMul x c)) fZero

/-- The next output of a lane, once its inputs are available. -/
def State.laneOutput (s : State) (b : Bytes) (l : Nat) : Option (State × FltOut) :=
  let a := s.lane l
  match a.taps with
  | none => none
  | some (xs, span) =>
    let act := s.get Reg.FLT_KBANK.ACTIVE
    let n := if a.fade = 0 then s.roast.kernFade b (s.fgroup (l / 8)).fhat else a.fadeL
    let v := match s.flt.kfade with
      | none => s.resampled act a xs span
      | some f =>
        if n ≤ a.fade + 1 then s.resampled f.target a xs span
        else fadeMix (a.fade + 1) n (s.resampled act a xs span) (s.resampled f.target a xs span)
    let used := xs.filterMap id
    let flags := Nat.lor (orFlags (used.map (·.flags)) % 8)
      (b2n (decide (a.next < a.settle)) + 2 * b2n (a.gapped && (span.isNone || xs.any Option.isNone)))
    let o : FltOut := { k := a.k, j := a.j, t := a.next, v := v, flags := flags }
    let step : Rat := (secUnit : Rat) / outRate b (s.fgroup (l / 8)).fhat
    let next := if gTracking b then a.next + (Rat.floor step).toNat else (2 * a.j + 3) * secUnit / (2 * gFout b)
    some (s.setLane l { a with k := a.k + 1, j := a.j + 1, next := next, fade := a.fade + 1, fadeL := n, outs := (o :: a.outs).take 8192 }, o)

/-- SETTLING of a group follows its latest output sample, and SETTLE_END marks the first that is not. -/
def State.settleShow (s : State) (g : Nat) (o : FltOut) : State :=
  let now := bitAt o.flags 0
  let s1 := s.setFlag (Reg.FLT_G_STATUS.SETTLING.ix g) now
  if (s1.fgroup g).settling && !now then (s1.setFgroup g { s1.fgroup g with settling := false }).fltIrq Reg.FLT_IRQ.SETTLE_END else s1

/-! ### The compare units (R260) -/

/-- A unit. -/
def State.unit (s : State) (u : Nat) : CmpUnit := (alookup u s.flt.units).getD {}

/-- An evaluation of a unit at an instant. -/
def State.cmpEval (s : State) (b : Bytes) (v : F32) (t : Tai) : State :=
  let u := leAt b 1 1 % 32
  let x := s.unit u
  let thr : F32 := BitVec.ofNat 32 (leAt b 8 4)
  let hyst : F32 := BitVec.ofNat 32 (leAt b 0xC 4)
  let high := leAt b 4 1 == 0
  let hit := if x.on then (if high then fLt v (fSub thr hyst) else fLt (fAdd thr hyst) v) else (if high then fLt thr v else fLt v thr)
  let n := if hit then x.count + 1 else 0
  let flip := hit && decide (leAt b 5 1 ≤ n)
  let y : CmpUnit := if flip then { on := !x.on, count := 0 } else { x with count := n }
  let s1 := { s with flt := { s.flt with units := aset u y s.flt.units } }
  if flip then
    (((s1.putBit Reg.FLT_CMP_STATE.STATE u y.on).putBit Reg.FLT_CMP_EDGE.EDGE u true).fltIrq Reg.FLT_IRQ.CMP).log (evCode 12 0) 0
      (evIndex u ++ leBytes 1 (b2n y.on) ++ taiBytes t)
  else s1

/-- Whether a sample cannot be evaluated. -/
def FltOut.bad (o : FltOut) : Bool := bitAt o.flags 0 || bitAt o.flags 1 || fIsNaN o.v

/-- The units that watch a lane take its new output. -/
def State.cmpUnits (s : State) (g : Bytes) (l : Nat) (o : FltOut) : State :=
  ((s.roast.recs 0x19).filter fun b => leAt b 0 1 == 5 && leAt b 2 1 == l).foldl (fun s b =>
    if leAt b 3 1 = 0 then (if o.bad then s else s.cmpEval b o.v o.t)
    else
      let n := gPerCycle g
      let win := (s.lane l).outs.take n
      if (o.k + 1) % max 1 (n / 2) ≠ 0 ∨ win.length < n ∨ win.any FltOut.bad then s
      else s.cmpEval b (fSqrt (fDiv (sumWide (win.map fun w => fMul w.v w.v)) (fOfInt n))) o.t) s

/-! ### What follows an output -/

/-- The decimator of the sub-synchronous watches (R339). -/
def State.decimate (s : State) (b : Bytes) (l : Nat) (o : FltOut) : State :=
  let m := max 1 (gFout b / 1200)
  let head := s.roast.recAt 0x32 0
  if gTracking b || o.j % m != m - 1 || !((s.roast.recs 0x32).any fun r => leAt r 0 1 == 2 && leAt r 1 1 == l) then s
  else
    let win := (s.lane l).outs.take 64
    let v := dotWide ((List.range 64).map fun i => BitVec.ofNat 32 (leAt head (0x40 + 4 * i) 4)) (win.map (·.v))
    let bad := decide (win.length < 64) || win.any fun w => decide (w.flags ≠ 0) || fIsNaN w.v
    let old := (alookup l s.osc.samples).getD []
    { s with osc := { s.osc with samples := aset l (((o.j / m, v, bad) :: old).take 1024) s.osc.samples } }

/-- One output of a lane with everything it drives; the state as it was while its inputs are not available. -/
def State.resamplerOutput (s : State) (b : Bytes) (l : Nat) : State :=
  match s.laneOutput b l with
  | none => s
  | some (s1, o) =>
    (((s1.settleShow (l / 8) o).waveStore l { t := o.t, v := o.v, flags := o.flags }).decimate b l o).cmpUnits b l o

/-! ### The estimator (R251 to R253) -/

/-- Seconds between two instants, rounded to binary32. -/
def secsF (a b : Rat) : F32 := roundF ((a - b) / (secUnit : Rat))

/-- cexp(j·x). -/
def cisF (x : F32) : Cpx := { re := Config.cosF x, im := Config.sinF x }
/-- Complex sum and product in binary32. -/
def fcAdd (a b : Cpx) : Cpx := { re := fAdd a.re b.re, im := fAdd a.im b.im }
/-- Complex product in binary32. -/
def fcMul (a b : Cpx) : Cpx :=
  { re := fSub (fMul a.re b.re) (fMul a.im b.im), im := fAdd (fMul a.re b.im) (fMul a.im b.re) }
/-- A real multiple in binary32. -/
def fcScale (a : F32) (b : Cpx) : Cpx := { re := fMul a b.re, im := fMul a b.im }

/-- Insertion of an output by its distance from an instant. -/
def nearInsert (t : Rat) (o : FltOut) : List FltOut → List FltOut
  | [] => [o]
  | p :: r => if ((o.t : Rat) - t).abs < ((p.t : Rat) - t).abs then o :: p :: r else p :: nearInsert t o r

/-- The N outputs nearest an instant, oldest first: of the outputs within a span around it, the nearest N. -/
def FltLane.window (a : FltLane) (n : Nat) (t : Rat) : List FltOut :=
  let after := (a.outs.reverse.filter fun o => decide (t ≤ (o.t : Rat))).take n
  let before := (a.outs.filter fun o => decide ((o.t : Rat) < t)).take n
  let near := ((before ++ after).foldl (fun l o => nearInsert t o l) []).take n
  (before.reverse ++ after).filter fun o => near.contains o

/-- w[k]: 1 for class P, Hann at the sample centres for class M (log entry 65). -/
def winWeight (hann : Bool) (n k : Nat) : F32 := if hann then roundF ((1 - Config.cosTurn (2 * k + 1) (2 * n)) / 2) else fOne

/-- The phasor of a lane at an instant, uncorrected and corrected by G at a frequency, with its flags: bit 3 for NaN. -/
def FltLane.phasor (a : FltLane) (b : Bytes) (f0 fprev : F32) (t : Rat) : Cpx × Nat :=
  let n := gN b
  let xs := a.window n t
  let acc := ((List.range xs.length).zip xs).foldl (fun (e : Cpx × F32 × Cpx) p =>
    let w := winWeight (gHann b) n p.1
    let dt := secsF (p.2.t : Rat) t
    let ph := fMul (fMul fTwoPi f0) dt
    let pg := fMul (fMul fTwoPi (fSub fprev f0)) dt
    (fcAdd e.1 (fcScale (fMul w p.2.v) (cisF (fNegate ph))), fAdd e.2.1 w, fcAdd e.2.2 (fcScale w (cisF pg)))) (cZero, fZero, cZero)
  let g := if fprev = f0 then fOne else fDiv (cAbs acc.2.2) acc.2.1
  let k := fDiv (fDiv 0x3FB504F3 acc.2.1) g
  let x := fcScale k acc.1
  let fl := orFlags (xs.map (·.flags))
  let nan := xs.isEmpty || cIsNaN x
  (if nan then cNaN else x, fl + 8 * b2n nan)

/-- X1 at an instant (R252). -/
def State.x1 (s : State) (b : Bytes) (g : Nat) (f0 fprev : F32) (t : Rat) : Cpx × Nat :=
  let ps := (gFreqSrc b).map fun m => (s.lane (8 * g + m)).phasor b f0 fprev t
  match ps with
  | [p] => p
  | [p, q, r] =>
    let al : Cpx := { re := 0xBF000000, im := 0x3F5DB3D7 }
    let v := fcAdd p.1 (fcAdd (fcMul al q.1) (fcMul (cConj al) r.1))
    ({ re := fDiv v.re 0x40400000, im := fDiv v.im 0x40400000 }, orFlags [p.2, q.2, r.2])
  | _ => (cNaN, 10)

/-- What the estimator gives at a reporting instant: members' phasors, frequency, ROCOF, each with its flags. -/
structure Estimate where
  members : List (Cpx × Nat)
  f : F32 × Nat
  rocof : F32 × Nat
  deriving DecidableEq, Repr

/-- The estimate of a group at t_n. -/
def State.estimate (s : State) (b : Bytes) (g : Nat) (t : Tai) : Estimate :=
  let x := s.fgroup g
  let f0 := if gTracking b then x.fhat else fOfInt (gFnom b)
  let fprev := if x.lastN.isNone || fIsNaN x.freq then f0 else x.freq
  let t0 : Rat := (secUnit : Rat) / (fVal f0)
  let p (k : Nat) : Cpx × Nat := s.x1 b g f0 fprev ((t : Rat) - (k : Rat) * t0)
  let a := p 0
  let c := p 1
  let d := p 2
  let freq (u v : Cpx) : F32 := fAdd f0 (fDiv (fMul (fWrap (fSub (cArg u) (cArg v))) f0) fTwoPi)
  let f := freq a.1 c.1
  let f1 := freq c.1 d.1
  let roc := fMul (fSub f f1) f0
  { members := (gMembers b).map fun m => (s.lane (8 * g + m)).phasor b f0 fprev (t : Rat)
    f := (f, Nat.lor a.2 c.2), rocof := (roc, orFlags [a.2, c.2, d.2]) }

/-- Whether every window of the group at t_n is complete: half of N outputs stand after it. -/
def State.estReady (s : State) (b : Bytes) (g : Nat) (t : Tai) : Bool :=
  (gMembers b).all fun m => decide (gN b ≤ 2 * ((s.lane (8 * g + m)).outs.filter fun o => decide (t ≤ o.t)).length)

/-- TSU_QUALITY as the last tick at or before an instant left it (R233). -/
def State.tqAt (s : State) (t : Tai) : Nat :=
  match s.flt.tq.find? fun e => decide (e.1 ≤ t) with
  | some e => e.2
  | none => (s.flt.tq.getLast?.map (·.2)).getD 0

/-- The quality word of a local output (R233). -/
def localQuality (flags tq : Nat) : Nat :=
  1 + 2 * b2n (bitAt flags 0 || bitAt flags 1) + 4 * b2n (bitAt flags 2) + Nat.land tq 0x1F08 + 2 ^ 13 * b2n (bitAt flags 3)

/-- A slot value of a local output. -/
def localSlot (v : Cpx) (flags tq : Nat) : SlotVal :=
  let nan := bitAt flags 3 || cIsNaN v
  { v := if nan then cNaN else v, q := localQuality (if nan then Nat.lor flags 8 else flags) tq }

/-- The writes of a group's outputs under a template (R228, R242). -/
def estWrites (tpl : Bytes) (e : Estimate) (tq : Nat) : List (Nat × SlotVal) :=
  let ph := ((List.range e.members.length).zip e.members).map fun p =>
    let en := tplEntry tpl p.1
    let sc := fVal (entScale en)
    let v := if cFinite p.2.1 then rotated (fVal p.2.1.re * sc) (fVal p.2.1.im * sc) (fVal (entOffset en)) else cNaN
    (entSlot en, localSlot v p.2.2 tq)
  ph ++ (if tplFreqSlot tpl = 0xFFFF then [] else [(tplFreqSlot tpl, localSlot { re := e.f.1, im := fZero } e.f.2 tq)]) ++
    (if tplRocofSlot tpl = 0xFFFF then [] else [(tplRocofSlot tpl, localSlot { re := e.rocof.1, im := fZero } e.rocof.2 tq)])

/-- The group keeps its frequency, and f̂ moves on. -/
def State.noteEstimate (s : State) (b : Bytes) (g n : Nat) (e : Estimate) : State :=
  ((s.setFgroup g { s.fgroup g with freq := e.f.1, freqFlags := e.f.2, lastN := some n }).set (Reg.FLT_G.FREQ.ix g) e.f.1.toNat).track b g

/-! ### Commands that end here -/

/-- CIC_OUTPUT (R244, R245): the lane, the R bits since its last output, oldest first, and the instant of the edge that sampled the
newest. -/
def execCicOutput (l : Nat) (bits : List Bool) (edge : Tai) (s : State) : Out :=
  .next (
    match s.roast.groupRec (l / 8) with
    | some b =>
      if l < 256 ∧ s.groupRuns (l / 8) ∧ l % 8 ∈ gMembers b ∧ gKind b (l % 8) = 1 ∧ bits.length = gR b then
        (s.moveTo edge).cicOutput b l bits edge
      else s
    | none => s)

/-- SV_WAIT_EXPIRY (R246): at t the lane's next sample is overdue. -/
def execSvWaitExpiry (l : Nat) (t : Tai) (s : State) : Out :=
  .next (
    let s := s.moveTo t
    match s.roast.groupRec (l / 8), (s.lane l).svNext with
    | some b, some q =>
      if l < 256 ∧ s.groupRuns (l / 8) ∧ l % 8 ∈ gMembers b ∧ gKind b (l % 8) = 2 ∧
          q * secUnit / s.roast.svRate (gSrc b (l % 8)) + gSvWait b * usUnit ≤ t then s.svMissed b l
      else s
    | _, _ => s)

/-- RESAMPLER_OUTPUT (R249). -/
def execResamplerOutput (l : Nat) (s : State) : Out :=
  .next (
    match s.roast.groupRec (l / 8) with
    | some b => if l < 256 ∧ s.groupRuns (l / 8) ∧ l % 8 ∈ gMembers b then s.resamplerOutput b l else s
    | none => s)

/-- FLT_SYNC (R256): ignored unless the group runs. -/
def execFltSync (who : Requester) (g : Nat) (s : State) : Out :=
  .next (s.open_ who (Reg.FLT_G_CTL.SYNC.ix (g % 32)).base fun s => if s.groupRuns (g % 32) then s.fullReset (g % 32) else s)

/-- Every group whose EN is 1 starts with a full reset (FLT_CTL). -/
def State.chainStart (s : State) : State :=
  ((List.range 32).foldl State.groupStart s).showSdm

/-- FLT_CHAIN_ENABLE (R106, R263). -/
def execFltChainEnable (who : Requester) (en : Bool) (s : State) : Out :=
  .next (s.open_ who Reg.FLT_CTL.EN.base fun s => s.enWrite .filter en State.chainStart id)

/-- FLT_GROUP_ENABLE (R106, R263): ignored for a group that is not configured. -/
def execFltGroupEnable (who : Requester) (g : Nat) (en : Bool) (s : State) : Out :=
  .next (s.open_ who (Reg.FLT_G_CTL.EN.ix (g % 32)).base fun s =>
    if (s.roast.groupRec (g % 32)).isNone then s
    else s.enWrite (.filterGroup (g % 32)) en (fun s => if s.groupRuns (g % 32) then s.fullReset (g % 32) else s) id)

/-- A FIR fade has given its L outputs on every sigma-delta lane of a group. -/
def State.firFaded (s : State) (b : Bytes) (g : Nat) : Bool :=
  let ms := (gMembers b).filter fun m => gKind b m == 1
  !ms.isEmpty && ms.all fun m => decide (max 1 (gXfade b) ≤ (s.lane (8 * g + m)).ffade)

/-- A group's FIR fade has given its L outputs. -/
def State.firEnd (s : State) (g : Nat) : State :=
  match (s.fgroup g).fade, s.roast.groupRec g with
  | some f, some b =>
    if s.firFaded b g then
      let q := s.get (firBank g).qtarget
      (s.setFgroup g { s.fgroup g with fade := none }).fadeDone (firBank g) f.target (State.firStart g q)
    else s
  | _, _ => s

/-- The kernel fade has given its outputs on every running lane. -/
def State.kernEnd (s : State) : State :=
  match s.flt.kfade with
  | none => s
  | some f =>
    let done := (List.range 32).all fun g => match s.roast.groupRec g with
      | some b => !s.groupRuns g || (gMembers b).all fun m => decide (max 1 (s.lane (8 * g + m)).fadeL ≤ (s.lane (8 * g + m)).fade)
      | none => true
    if done then
      let q := s.get Reg.FLT_KBANK.QTARGET
      { s with flt := { s.flt with kfade := none } }.fadeDone kBank f.target (State.kernStart q)
    else s

/-- FIR_BANK_SWAP_REQUEST (R258): guarded. A fade whose last output is out ends before the request is evaluated (R259). -/
def execFirBankSwapRequest (who : Requester) (g target : Nat) (s : State) : Out :=
  .next (s.guarded who (firBank (g % 32)).active.base fun s =>
    (s.firEnd (g % 32)).request (firBank (g % 32)) (target % 2) (State.firStart (g % 32) (target % 2)))

/-- KERNEL_BANK_SWAP_REQUEST (R258): guarded; a fade that is over ends first (R259). -/
def execKernelBankSwapRequest (who : Requester) (target : Nat) (s : State) : Out :=
  .next (s.guarded who Reg.FLT_KBANK.ACTIVE.base fun s => s.kernEnd.request kBank (target % 2) (State.kernStart (target % 2)))

/-- FADE_END (R258): of a group's FIR banks, or of the kernel banks. -/
def execFadeEnd (g : Option Nat) (s : State) : Out :=
  .next (match g with | some g => s.firEnd (g % 32) | none => s.kernEnd)

/-- Whether a bank may not be written (R257). -/
def State.bankHeld (s : State) (f : BankFlds) (bank : Nat) : Bool :=
  s.get f.active == bank || s.flag f.fading || (s.flag f.queued && s.get f.qtarget == bank)

/-- FLT_COEF_WRITE (R257): guarded. -/
def execFltCoefWrite (who : Requester) (v : Nat) (s : State) : Out :=
  .next (s.guarded who Reg.FLT_COEF_DATA.DATA.base fun s =>
    let g := s.get Reg.FLT_COEF_SEL.GROUP
    let kern := s.flag Reg.FLT_COEF_SEL.KIND
    let bank := s.get Reg.FLT_COEF_SEL.BANK
    let i := s.get Reg.FLT_COEF_SEL.INDEX
    let s0 := s.set Reg.FLT_COEF_DATA.DATA v
    let s1 :=
      if s0.bankHeld (if kern then kBank else firBank g) bank then s0.fltIrq Reg.FLT_IRQ.COEF_REFUSED
      else if kern then { s0 with flt := { s0.flt with edits := aset (4096 + bank * 4096 + i) (BitVec.ofNat 32 v) s0.flt.edits } }
      else if i < 64 then { s0 with flt := { s0.flt with edits := aset ((2 * g + bank) * 64 + i) (BitVec.ofNat 32 v) s0.flt.edits } }
      else s0
    if s1.flag Reg.FLT_COEF_SEL.AUTOINC then s1.set Reg.FLT_COEF_SEL.INDEX (i + 1) else s1)

/-! ### Roast swap (R262) -/

/-- Records of a type in the FILTER section that name a group, in order. -/
def Roast.fltRecs (r : Roast) (type : Nat) : List Bytes := (r.recs 0x19).filter fun b => leAt b 0 1 == type

/-- Two sets of records are the same, whatever their order. -/
def sameRecs (xs ys : List Bytes) : Bool := xs.length == ys.length && xs.all ys.contains && ys.all xs.contains

/-- Whether a group keeps running across a swap. -/
def groupKept (old new : Roast) (g : Nat) : Bool :=
  old.groupRec g == new.groupRec g && sameRecs ((old.fltRecs 3).filter fun b => leAt b 1 1 == g) ((new.fltRecs 3).filter fun b => leAt b 1 1 == g) &&
  sameRecs (old.fltRecs 4) (new.fltRecs 4)

/-- Lanes of absent members read 0 (R263). -/
def State.clearAbsent (s : State) (g : Nat) : State :=
  let ms := match s.roast.groupRec g with
    | some b => gMembers b
    | none => []
  ((List.range 8).filter fun m => !ms.contains m).foldl (fun s m =>
    let l := 8 * g + m
    (((((s.set (Reg.FLT_L.OFFSET.ix l) 0).setFlag (Reg.FLT_L_STATUS.OVR.ix l) false).setFlag (Reg.FLT_L_STATUS.ACQ.ix l) false).setFlag
      (Reg.FLT_L_STATUS.GAP.ix l) false).setFlag (Reg.FLT_L_STATUS.FROZEN.ix l) false).set (Reg.FLT_L.FAULTS.ix l) 0) s

/-- The filter chain at the close of slice D; the new roast is already the active one. -/
def State.carryFlt (s : State) (old new : Roast) : State :=
  let kern := sameRecs (old.fltRecs 4) (new.fltRecs 4)
  let kept := (List.range 32).filter fun g => (new.groupRec g).isSome && groupKept old new g
  let keepEdit (e : Nat × F32) : Bool := if e.1 < 4096 then kept.contains (e.1 / 128) else kern
  let units := (new.fltRecs 5).filterMap fun b => if (old.fltRecs 5).contains b then
      (alookup (leAt b 1 1) s.flt.units).map fun u => (leAt b 1 1, u) else none
  let s1 := { s with flt := { s.flt with edits := s.flt.edits.filter keepEdit, units := units, kfade := if kern then s.flt.kfade else none } }
  let s2 := s1.set Reg.FLT_CMP_STATE.STATE ((units.filter fun u => u.2.on).foldl (fun a u => setBit a (u.1 % 32) true) 0)
  let s3 := if kern then s2 else
    ((s2.set Reg.FLT_KBANK.ACTIVE 0).setFlag Reg.FLT_KBANK.FADING false).setFlag Reg.FLT_KBANK.QUEUED false
  ((List.range 32).foldl (fun s g =>
    if kept.contains g then s
    else
      let s4 := { s with flt := { s.flt with groups := aerase g s.flt.groups } }
      let b := firBank g
      let s5 := (((s4.set b.active 0).setFlag b.fading false).setFlag b.queued false).clearAbsent g
      if s5.blockRuns .filter then s5.groupStart g else s5) s3).showFlt

end Sys2Proof.Machine
end

