-- ==== Sys2Proof/Machine/Energy.lean ====
section
/-! DEFINITION. Energy metering and custody records (R411 to R438): cycles, correction, accumulators, bridging, demand, pulses, billing
intervals, saves of the totals, and the residual across a power cut. -/

namespace Sys2Proof.Machine

/-! ### The NRG_ELEMENT section (R437) -/

/-- The TYPE 1 record. -/
def Roast.nrgHead (r : Roast) : Bytes := ((r.recs 0x68).find? fun b => leAt b 0 1 == 1).getD []
/-- The record of element e. -/
def Roast.nrgRec (r : Roast) (e : Nat) : Option Bytes := (r.recs 0x68).find? fun b => leAt b 0 1 == 2 && leAt b 1 1 == e
/-- The lane of member i. -/
def nLane (b : Bytes) (i : Nat) : Nat := 8 * leAt b 2 1 + leAt b (4 + i) 1
/-- A binary32 field. -/
def fieldF (b : Bytes) (off : Nat) : F32 := BitVec.ofNat 32 (leAt b off 4)
/-- DEM_SUB in minutes. -/
def Roast.demSub (r : Roast) : Nat := max 1 (leAt r.nrgHead 2 1)
/-- DEM_NSUB. -/
def Roast.demNsub (r : Roast) : Nat := max 1 (leAt r.nrgHead 3 1)
/-- S_MAX in VA. -/
def nSmax (b : Bytes) : Rat := 3 * fVal (fieldF b 0xC) * fVal (fieldF b 0x14)

/-- An interrupt of the engine. -/
def State.nrgIrq (s : State) (f : Fld) : State := s.irq f Reg.NRG_IRQ_MASK.MASK 88
/-- An element. -/
def State.elem (s : State) (e : Nat) : NrgElem := (alookup e s.nrg.elems).getD {}
/-- An element replaced. -/
def State.setElem (s : State) (e : Nat) (x : NrgElem) : State := { s with nrg := { s.nrg with elems := aset e x s.nrg.elems } }

/-! ### Correction (R414) -/

/-- Breakpoint k of current member i: x, G, A. -/
def nPoint (b : Bytes) (i k : Nat) : F32 × F32 × F32 :=
  (fieldF b (0x60 + 204 * i + 12 * k), fieldF b (0x64 + 204 * i + 12 * k), fieldF b (0x68 + 204 * i + 12 * k))

/-- Gain and phase of a current member at a loading. -/
def nCurrent (b : Bytes) (i : Nat) (l : F32) : F32 × F32 :=
  match (List.range 16).find? fun k => fLt l (nPoint b i (k + 1)).1 with
  | some k =>
    let p := nPoint b i k
    let q := nPoint b i (k + 1)
    let w := eDiv (eMinus l p.1) (eMinus q.1 p.1)
    (ePlus p.2.1 (eMul w (eMinus q.2.1 p.2.1)), ePlus p.2.2 (eMul w (eMinus q.2.2 p.2.2)))
  | none => (nPoint b i 16).2

/-- The corrected quantities of a phase: P', Q', S', V' and I' RMS, the gain of the current member. -/
structure PhaseCycle where
  p : F32
  q : F32
  s : F32
  i : F32
  gi : F32

/-- Mean of a list under R309. -/
def eMean (xs : List F32) : F32 := eDiv (eSum xs) (fOfInt xs.length)

/-- Cosine and sine of a correction angle: within 2 units in the last place, far inside R413 (log entry 5). -/
def nearCos (a : F32) : F32 := if fFinite a then fNear (cosQ (fVal a)) else fNaN
/-- Sine. -/
def nearSin (a : F32) : F32 := if fFinite a then fNear (sinQ (fVal a)) else fNaN

/-- A phase over one cycle: v, v a quarter cycle earlier, i. -/
def nPhase (b : Bytes) (ph : Nat) (v vq i : List F32) : PhaseCycle :=
  let vr := eSqrt (eMean (v.map fun x => eMul x x))
  let ir := eSqrt (eMean (i.map fun x => eMul x x))
  let p := eMean ((v.zip i).map fun e => eMul e.1 e.2)
  let q := eMean ((vq.zip i).map fun e => eMul e.1 e.2)
  let gv := fieldF b (0x30 + 8 * ph)
  let av := fieldF b (0x34 + 8 * ph)
  let c := nCurrent b ph (eDiv (eMul 0x42C80000 ir) (fieldF b 0x10))
  let a := eMinus c.2 av
  let g := eMul gv c.1
  let co := nearCos a
  let si := nearSin a
  let ii := eMul c.1 ir
  { p := eMul g (eSum [eMul p co, fNegate (eMul q si)]), q := eMul g (eSum [eMul p si, eMul q co])
    s := eMul (eMul gv vr) ii, i := ii, gi := c.1 }

/-! ### Accumulation (R415, R416) -/

/-- W·s / 3.6 in 2^-32 of the unit, rounded once. -/
def energyInc (w : F32) (dt : Rat) : Nat := roundEvenNat ((fVal (fAbs w)) * dt * 10 / 36 * 4294967296)

/-- The seven increments at one level. -/
def levelIncs (p q s : F32) (dt : Rat) : List Nat :=
  let pp := !fNeg p || fIsZero p
  let qp := !fNeg q || fIsZero q
  let ip := energyInc p dt
  let iq := energyInc q dt
  [if pp then ip else 0, if pp then 0 else ip, if pp && qp then iq else 0, if !pp && qp then iq else 0, if !pp && !qp then iq else 0,
    if pp && !qp then iq else 0, energyInc s dt]

/-- The 28 increments of an element. -/
def CyclePower.incs (c : CyclePower) (dt : Rat) : List Nat :=
  let at_ (l : List F32) (k : Nat) : F32 := (l[k]?).getD fZero
  ((List.range 3).flatMap fun k => levelIncs (at_ c.p k) (at_ c.q k) (at_ c.s k) dt) ++ levelIncs (eSum c.p) (eSum c.q) (eSum c.s) dt

/-- The integer part of an accumulator. -/
def State.accInt (s : State) (i : Nat) : Nat := ((s.nrg.acc[i]?).getD 0) / 2 ^ 32 % 2 ^ 64

/-- Registers of an element's accumulators (R416, R417). -/
def State.showAcc (s : State) (e : Nat) : State :=
  (List.range 28).foldl (fun s i =>
    let v := s.accInt (28 * e + i)
    let s1 := s.set (Reg.NRG.E.ix3 e (i / 7) (i % 7)) v
    if 21 ≤ i then s1.set (Reg.NRG.LEG.ix2 e (i - 21)) (v / 1000) else s1) s

/-- A crossing's instant and whether it can start a pulse at once. -/
def State.pulseFree (s : State) (k : Nat) : Bool :=
  let p := (alookup k s.nrg.pulses).getD {}
  p.until_.isNone && s.get (Reg.NRG_PLS.BACKLOG.ix k) == 0 &&
  (match p.started with | some t => decide (t * s.roast.plsMax k + 100 * secUnit ≤ s.time.elapsed * s.roast.plsMax k) | none => true) &&
  (match p.ended with | some t => decide (t + 500 * usUnit ≤ s.time.elapsed) | none => true)

/-- One crossing of output k (R421, R393). -/
def State.crossing (s : State) (k : Nat) : State :=
  let p := (alookup k s.nrg.pulses).getD {}
  let s0 := { s with nrg := { s.nrg with pulses := aset k { p with cross := some s.time.elapsed, crossBefore := p.cross } s.nrg.pulses } }
  if 65535 ≤ s.get (Reg.NRG_PLS.BACKLOG.ix k) then
    let e := s.get (Reg.NRG_PLS.ELEMENT.ix k)
    let s1 := ((s0.setFlag (Reg.NRG_PLS.OVF.ix k) true).count (Reg.NRG.PLS_LOST.ix k)).nrgIrq Reg.NRG_IRQ.PLS_OVF
    { s1 with nrg := { s1.nrg with elemFlags := modAt (fun f => Nat.lor f 4) e s1.nrg.elemFlags } }
  else
    let s1 := s0.set (Reg.NRG_PLS.BACKLOG.ix k) (s.get (Reg.NRG_PLS.BACKLOG.ix k) + 1)
    if s.pulseFree k then s1 else (s1.count (Reg.SAU.PLS_DEFER_CNT.ix k)).irq Reg.SAU_IRQ.PLS_DEFER Reg.SAU_IRQ_MASK.MASK 73

/-- The pulse outputs after element e's accumulators moved from `old`; whatever the state, the 65,537th crossing at once finds the backlog
full. -/
def State.crossings (s : State) (e : Nat) (old : List Nat) : State :=
  (List.range 8).foldl (fun s k =>
    if !s.flag (Reg.NRG_PLS.EN.ix k) || s.get (Reg.NRG_PLS.ELEMENT.ix k) != e then s
    else
      let i := 28 * e + 7 * s.get (Reg.NRG_PLS.LEVEL.ix k) + min 6 (s.get (Reg.NRG_PLS.QTY.ix k))
      let c := max 1 (s.get (Reg.NRG_PLS.CONST.ix k))
      let n := s.accInt i / c - ((old[i]?).getD 0) / 2 ^ 32 / c
      ((List.range (min n 65537)).foldl (fun s _ => s.crossing k) s).count (Reg.NRG.PLS_LOST.ix k) (n - 65537)) s

/-- Wraps of the legacy registers (R417). -/
def State.noteWraps (s : State) (e : Nat) (old : List Nat) : State :=
  (List.range 7).foldl (fun s q =>
    let i := 28 * e + 21 + q
    let n := s.accInt i / 1000 / 2 ^ 32 - ((old[i]?).getD 0) / 2 ^ 32 / 1000 / 2 ^ 32
    if n = 0 then s
    else
      let w := (List.range 4).foldl (fun w set => aset (set, 7 * e + q) (min 15 ((alookup (set, 7 * e + q) w).getD 0 + n)) w) s.nrg.wraps
      let s1 := { s with nrg := { s.nrg with wraps := w } }
      s1.set (Reg.NRG.WRAPCNT.ix e) (setAt (min 15 (bitsOf (s1.get (Reg.NRG.WRAPCNT.ix e)) (4 * q) 4 + n)) q
        ((List.range 7).map fun j => bitsOf (s1.get (Reg.NRG.WRAPCNT.ix e)) (4 * j) 4) |>.foldr (fun x a => x + 16 * a) 0)) s

/-- An element adds energy. -/
def State.addEnergy (s : State) (e : Nat) (c : CyclePower) (dt : Rat) : State :=
  let inc := c.incs dt
  let old := s.nrg.acc
  let acc := (List.range 112).map fun i =>
    (old[i]?).getD 0 + (if 28 * e ≤ i ∧ i < 28 * e + 28 then (inc[i - 28 * e]?).getD 0 else 0)
  (({ s with nrg := { s.nrg with acc := acc } }.showAcc e).crossings e old).noteWraps e old

/-- Flags of the interval and of an element in it. -/
def State.nrgFlag (s : State) (bit : Nat) : State := { s with nrg := { s.nrg with flags := setBit s.nrg.flags bit true } }
/-- A flag of an element in the interval. -/
def State.elemFlag (s : State) (e bit : Nat) : State :=
  { s with nrg := { s.nrg with elemFlags := modAt (fun f => setBit f bit true) e s.nrg.elemFlags } }

/-! ### Bridging (R418) -/

/-- Time for which nothing is accumulated. -/
def State.gapTime (s : State) (e : Nat) (d : Tai) : State :=
  if d = 0 then s
  else
    let x := s.elem e
    let g := x.gapRest + d
    let s1 := ((s.setElem e { x with gapRest := g % msUnit }).count (Reg.NRG.GAP_MS.ix e) (g / msUnit)).set (Reg.NRG.INST.ix2 e 3) 4
    (s1.nrgFlag 11).elemFlag e 1

/-- Time filled with the power of the last good cycle. -/
def State.bridgeWith (s : State) (e : Nat) (c : CyclePower) (d : Tai) : State :=
  if d = 0 then s
  else
    let dt : Rat := (d : Rat) / (secUnit : Rat)
    let s1 := s.addEnergy e c dt
    let x := s1.elem e
    let m := x.bridgedRest + ((c.incs dt)[21]?).getD 0
    let s2 := ((s1.setElem e { x with bridgedRest := m % 2 ^ 32, bridged := x.bridged + d }).count (Reg.NRG.BRIDGED.ix e) (m / 2 ^ 32)).set
      (Reg.NRG.INST.ix2 e 3) 2
    (s2.nrgFlag 10).elemFlag e 0

/-- A stretch of time without a good cycle: bridged up to BRIDGE_MAX_MS since the last good cycle, a gap beyond. -/
def State.bridge (s : State) (e : Nat) (b : Bytes) (d : Tai) : State :=
  let x := s.elem e
  match x.lastGood with
  | some c =>
    if x.everGood then
      let left := leAt b 0x18 4 * msUnit - x.bridged
      (s.bridgeWith e c (min d left)).gapTime e (d - min d left)
    else s.gapTime e d
  | none => s.gapTime e d

/-! ### Peaks and over-current (R420) -/

/-- The largest |G·x| of some outputs, with the output. -/
def peakOf (g : F32) (xs : List FltOut) : Option (F32 × Tai) :=
  xs.foldl (fun best o =>
    let v := fAbs (eMul g o.v)
    match best with
    | some w => if fLt w.1 v then some (v, o.t) else best
    | none => if fIsNaN v then none else some (v, o.t)) none

/-- A half cycle of one lane. -/
def State.peak (s : State) (e i : Nat) (g thr : F32) (xs : List FltOut) : State :=
  match peakOf g xs with
  | none => s
  | some (v, t) =>
    if !fLt thr v then s
    else
      let s1 := if 3 ≤ i then s.putBit Reg.NRG_EVT_STATE.PEAK (3 * e + (i - 3)) true else s
      ((s1.nrgIrq Reg.NRG_IRQ.PEAK).log (evCode 19 0) 0 (evIndex e ++ evIndex i ++ leBytes 4 v.toNat ++ taiBytes t)).elemFlag e 3

/-- OC of the three phases at a good cycle. -/
def State.overCurrent (s : State) (e : Nat) (b : Bytes) (i : List F32) : State :=
  let x := s.elem e
  let n := max 1 (leAt b 0x28 2)
  let hist := (i :: x.oc).take n
  let thr := fieldF b 0x24
  let now := (List.range 3).map fun ph =>
    let was := (x.ocOn[ph]?).getD false
    if hist.length < n then was
    else
      let v := eSqrt (eMean (hist.map fun h => let y := (h[ph]?).getD fZero; eMul y y))
      if was then !fLt v (eMul 0x3F733333 thr) else fLt thr v
  let s1 := s.setElem e { x with oc := hist, ocOn := now }
  (List.range 3).foldl (fun s ph =>
    let on := (now[ph]?).getD false
    let s2 := s.putBit Reg.NRG_EVT_STATE.OC (3 * e + ph) on
    if on && !((x.ocOn[ph]?).getD false) then ((s2.nrgIrq Reg.NRG_IRQ.OC).log (evCode 19 1) 0 []).elemFlag e 4 else s2) s1

/-! ### A cycle (R412) -/

/-- The outputs of a lane with ordinals from a to b. -/
def FltLane.run (x : FltLane) (a b : Nat) : List FltOut := (x.outs.filter fun o => decide (a ≤ o.k) && decide (o.k < b)).reverse

/-- The next cycle of an element where its outputs are there: the six lanes' outputs, voltages with a quarter cycle before them, the
instants of its first output, its last, and the next cycle's first. -/
structure CycleIn where
  lanes : List (List FltOut)
  quarter : List (List F32)
  t0 : Tai
  last : Tai
  t1 : Tai
  n : Nat
  epoch : Tai
  /-- every output is there -/
  whole : Bool

/-- The next cycle. -/
def State.nextCycle (s : State) (e : Nat) (b : Bytes) : Option CycleIn :=
  let g := leAt b 2 1
  match s.roast.groupRec g with
  | none => none
  | some gr =>
    let m := gM gr
    let epoch := (s.fgroup g).resetAt
    let x := s.elem e
    let n := if x.epoch = some epoch then x.cyc else 0
    let k := n * m
    let at_ (i : Nat) : FltLane := s.lane (nLane b i)
    if !((List.range 6).all fun i => (at_ i).outs.any fun o => o.k == k + m) then none
    else
      let lanes := (List.range 6).map fun i => (at_ i).run k (k + m)
      let quarter := (List.range 3).map fun i =>
        ((List.range m).map fun j => if k + j < m / 4 then fZero else
          (((at_ i).outs.find? fun o => o.k == k + j - m / 4).map (·.v)).getD fZero)
      let one := (lanes[0]?).getD []
      some { lanes := lanes, quarter := quarter, t0 := ((one.head?).map (·.t)).getD 0, last := ((one.getLast?).map (·.t)).getD 0
             t1 := (((at_ 0).outs.find? fun o => o.k == k + m).map (·.t)).getD 0, n := n, epoch := epoch
             whole := lanes.all fun l => l.length == m }

/-- Whether a cycle is good. -/
def CycleIn.good (c : CycleIn) : Bool := c.whole && c.lanes.all fun l => l.all fun o => o.flags == 0 && !fIsNaN o.v

/-- Half cycles of the six lanes. -/
def State.peaks (s : State) (e : Nat) (b : Bytes) (gi : List F32) (c : CycleIn) : State :=
  (List.range 6).foldl (fun s i =>
    let xs := (c.lanes[i]?).getD []
    let h := xs.length / 2
    let g := if i < 3 then fieldF b (0x30 + 8 * i) else (gi[i - 3]?).getD fOne
    let thr := fieldF b (if i < 3 then 0x1C else 0x20)
    (s.peak e i g thr (xs.take h)).peak e i g thr (xs.drop h)) s

/-- A cycle that is there is accounted for. -/
def State.doCycle (s : State) (e : Nat) (b : Bytes) (c : CycleIn) : State :=
  let x := s.elem e
  let wait := if x.lastEnd < c.t0 then c.t0 - x.lastEnd else 0
  let s1 := s.bridge e b wait
  let vs (i : Nat) : List F32 := ((c.lanes[i]?).getD []).map (·.v)
  let phs := (List.range 3).map fun ph => nPhase b ph (vs ph) ((c.quarter[ph]?).getD []) (vs (3 + ph))
  let s2 := s1.peaks e b (phs.map (·.gi)) c
  let dt := c.t1 - c.t0
  let pw : CyclePower := { p := phs.map (·.p), q := phs.map (·.q), s := phs.map (·.s) }
  let s3 :=
    if c.good then
      let a := s2.addEnergy e pw ((dt : Rat) / (secUnit : Rat))
      let a1 := a.setElem e { a.elem e with lastGood := some pw, bridged := 0, everGood := true }
      (a1.set (Reg.NRG.INST.ix2 e 3) 1).overCurrent e b (phs.map (·.i))
    else s2.bridge e b dt
  let s4 := ((s3.set (Reg.NRG.INST.ix2 e 0) (eSum pw.p).toNat).set (Reg.NRG.INST.ix2 e 1) (eSum pw.q).toNat).set
    (Reg.NRG.INST.ix2 e 2) (eSum pw.s).toNat
  let s5 := if s4.flag Reg.TSU_STATUS.TIME_VALID then s4 else s4.nrgFlag 1
  s5.setElem e { s5.elem e with epoch := some c.epoch, cyc := c.n + 1, lastEnd := max c.t1 x.lastEnd }

/-! ### Billing intervals and custody records (R424 to R428) -/

/-- The boundary that follows a UTC second, for an interval length in minutes. -/
def nextBound (soc minutes : Nat) : Nat := (soc / (60 * max 1 minutes) + 1) * (60 * max 1 minutes)

/-- Whether the interval contains a leap. -/
def State.leapIn (s : State) : Bool := match s.backup.leapAt with
  | some t => decide (s.nrg.startTai < t) && decide (t ≤ s.time.tai)
  | none => false

/-- TAI instant of a boundary. -/
def State.boundTai (s : State) (soc : Nat) : Tai := ((soc : Int) + s.utcOffset).toNat * secUnit

/-- The record's bytes before its signature (R426). -/
def State.recordBody (s : State) (flags endSoc dur : Nat) (prev : Bytes) : Bytes :=
  let elem (e : Nat) : Bytes :=
    padTo 0x38 ((List.range 7).flatMap fun q => leBytes 8 (s.accInt (28 * e + 21 + q))) ++
      leBytes 4 ((s.nrg.maxDem[e]?).getD fZero).toNat ++ leBytes 4 ((s.nrg.elemFlags[e]?).getD 0)
  let els := (List.range 4).foldl (fun a e => a + 2 ^ e * b2n (s.roast.nrgRec e).isSome) 0
  let head := ascii "MZ7416CR" ++ leBytes 8 (s.nrg.recSeq + 1) ++ leBytes 4 flags ++ leBytes 1 s.nrg.minutes ++
    leBytes 1 els ++ leBytes 2 s.boot.casId ++ leBytes 8 s.nrg.startSoc ++ leBytes 8 endSoc ++ leBytes 8 dur ++ leBytes 4 s.roast.tag
  padTo 0x1C0 (padTo 0x180 (padTo 0x40 head ++ prev ++ (List.range 4).flatMap elem) ++ s.nrg.bounds.flatMap (leBytes 8))

/-- REC_SEQ of a record. -/
def recordSeq (b : Bytes) : Nat := leAt b 8 8

/-- A record is signed and written; the oldest of 1,024 makes room (R427). -/
def State.storeRecord (s : State) (body : Bytes) : State :=
  let sig := match s.slotValue 9 with
    | some k => Config.ed25519Sign k (signedText "MZ7416 custody v1" body)
    | none => List.replicate 64 0
  let r := body ++ sig
  let old := (s.nvs.custody[1023]?).map recordSeq
  let s1 := { s with nvs := { s.nvs with custody := (r :: s.nvs.custody).take 1024 }
                     nrg := { s.nrg with recSeq := recordSeq r, prev := Config.sha512 r, pendFlags := 0, bounds := List.replicate 4 0 } }
  let s2 := (s1.set Reg.NRG_REC_LAST.SEQ (recordSeq r)).nrgIrq Reg.NRG_IRQ.RECORD
  match old with
  | some q =>
    if s.get Reg.NRG_REC_ACK.SEQ < q then
      let s3 := (s2.count Reg.NRG.RECORDS_LOST).log (evCode 19 3) 0 []
      { s3 with nrg := { s3.nrg with pendFlags := 2 ^ 13 } }
    else s2
  | none => s2

/-- The maximum demands start anew (R419). -/
def State.clearMaxDem (s : State) : State :=
  (List.range 4).foldl (fun s e => s.set (Reg.NRG.DEM.ix2 e 3) 0) { s with nrg := { s.nrg with maxDem := List.replicate 4 fZero } }

/-- The interval in progress closes with a record; the next one begins at `startSoc`. -/
def State.closeInterval (s : State) (endSoc : Nat) (endTai : Tai) (startSoc : Nat) (more nextFlags : Nat) : State :=
  let back : Int := (s.time.tai : Int) - (endTai : Int)
  let endEl : Int := (s.time.elapsed : Int) - back
  let dur := (endEl - s.nrg.startEl).toNat / nsUnit
  let iv := s.get Reg.NRG_CFG.INTERVAL_MIN
  let chain := s.keys.newChain || s.nrg.recSeq == 0 || s.nrg.prev == List.replicate 64 0
  let prev := if chain then List.replicate 64 0 else s.nrg.prev
  let flags := orFlags [s.nrg.flags, more, s.nrg.pendFlags, 8 * b2n s.leapIn, 2 * b2n (!s.flag Reg.TSU_STATUS.TIME_VALID), 2 ^ 14 * b2n chain,
    2 ^ 15 * b2n (s.flag Reg.SEC_STATUS.ROOT_SUBST)]
  let s1 := { s with keys := { s.keys with newChain := false } }.storeRecord (s.recordBody flags endSoc dur prev)
  { s1 with nrg := { s1.nrg with
      startSoc := startSoc, startTai := endTai, startEl := endEl, endSoc := nextBound startSoc iv, minutes := iv, passedBy := false
      flags := nextFlags, elemFlags := List.replicate 4 0 } }.clearMaxDem

/-- The interval closes at its boundary; a step that moved past it closes it now. -/
def State.closeBound (s : State) : State :=
  let now := s.soc s.time.tai
  let stepped := s.nrg.passedBy
  let iv := s.get Reg.NRG_CFG.INTERVAL_MIN
  let start := if stepped then nextBound now iv - 60 * max 1 iv else s.nrg.endSoc
  let at_ := if stepped then s.time.tai else min s.time.tai (s.boundTai s.nrg.endSoc)
  s.closeInterval s.nrg.endSoc at_ start 0 0

/-- The next cycle of an element, if it is there and its last output falls before a boundary, is accounted for. -/
def State.drainOne (s : State) (e bound : Nat) : Option State :=
  match s.roast.nrgRec e with
  | none => none
  | some b => match s.nextCycle e b with
    | some c => if s.soc c.last < bound then some (s.doCycle e b c) else none
    | none => none

/-- An element's cycles that end before a boundary. -/
def State.drain (e bound : Nat) : Nat → State → State
  | 0, s => s
  | n + 1, s => match s.drainOne e bound with | some t => State.drain e bound n t | none => s

/-- The four elements' cycles that end before a boundary. -/
def State.drainAll (s : State) (bound : Nat) : State := (List.range 4).foldl (fun s e => State.drain e bound 64 s) s

/-- A boundary has passed, and every configured element whose group runs has an output at or after it, or 100 ms have passed. -/
def State.boundReady (s : State) (bound : Nat) : Bool :=
  decide (bound ≤ s.soc s.time.tai) && (decide (s.boundTai bound + 100 * msUnit ≤ s.time.tai) ||
    (List.range 4).all fun e => match s.roast.nrgRec e with
    | some b => !s.groupRuns (leAt b 2 1) || (s.lane (nLane b 0)).outs.any fun o => decide (bound ≤ s.soc o.t)
    | none => true)

/-! ### Demand (R419) -/

/-- The end of a demand sub-interval: quantities 0, 1 and 6 at the total level. -/
def State.demandEnd (s : State) : State :=
  let n := s.roast.demNsub
  let marks := s.nrg.marks.take n
  let base := marks.getLast?
  let ended := max (s.time.elapsed - (s.time.tai - s.boundTai s.nrg.demEnd)) ((marks.head?.map (·.1)).getD 0)
  let len : Rat := if n ≤ marks.length then ((n * s.roast.demSub * 60 : Nat) : Rat)
    else match base with
      | some m => ((ended - m.1 : Nat) : Rat) / (secUnit : Rat)
      | none => 0
  let dem (e q : Nat) : F32 :=
    let i := 28 * e + 21 + q
    let was := match base with | some m => (m.2[i]?).getD 0 | none => 0
    if len ≤ 0 then fZero else roundF ((((s.nrg.acc[i]?).getD 0 - was : Nat) : Rat) / 4294967296 * 36 / 10 / len)
  let s1 := (List.range 4).foldl (fun s e =>
    let d := dem e 0
    let top := (s.nrg.maxDem[e]?).getD fZero
    let mx := if fLt top d then d else top
    let s2 := (((s.set (Reg.NRG.DEM.ix2 e 0) d.toNat).set (Reg.NRG.DEM.ix2 e 1) (dem e 1).toNat).set (Reg.NRG.DEM.ix2 e 2) (dem e 6).toNat).set
      (Reg.NRG.DEM.ix2 e 3) mx.toNat
    { s2 with nrg := { s2.nrg with maxDem := setAt mx e s2.nrg.maxDem } }) s
  { s1 with nrg := { s1.nrg with
      marks := ((ended, s.nrg.acc) :: s.nrg.marks).take (n + 1), demEnd := nextBound (s.soc s.time.tai) s.roast.demSub } }

/-- A sub-interval ends once every cycle that belongs to it has been accounted for. -/
def State.passDemand (s : State) : State := if s.boundReady s.nrg.demEnd then (s.drainAll s.nrg.demEnd).demandEnd else s

/-- A boundary closes once every cycle that belongs to the interval has been accounted for, and the demand of a sub-interval that ends with it
has been taken into the interval's maximum. -/
def State.passBound (s : State) : State :=
  if s.boundReady s.nrg.endSoc && !s.nrg.deciding then
    let s1 := if s.nrg.demEnd ≤ s.nrg.endSoc then s.passDemand else s
    (s1.drainAll s.nrg.endSoc).closeBound
  else s

/-- METERING_CYCLE (R412): a cycle that ends at or after a boundary waits until the boundary has been passed. -/
def execMeteringCycle (e : Nat) (s : State) : Out :=
  .next (
    if !s.blockRuns .energy then s
    else match s.roast.nrgRec e with
      | none => s
      | some b => match s.nextCycle e b with
        | none => s
        | some c =>
          if e ≥ 4 then s
          else
            let s1 := if s.nrg.deciding || decide (s.soc c.last < s.nrg.endSoc) then s else s.passBound
            let s2 := if s1.soc c.last < s1.nrg.demEnd then s1 else s1.passDemand
            if (s2.nrg.deciding || decide (s2.soc c.last < s2.nrg.endSoc)) && decide (s2.soc c.last < s2.nrg.demEnd) then s2.doCycle e b c
            else s2)

/-- BILLING_BOUNDARY (R424). -/
def execBillingBoundary (t : Tai) (s : State) : Out :=
  .next (let s := s.moveTo t; if s.blockRuns .energy then s.passBound else s)

/-- CUSTODY_RECORD_LATCH (R428). -/
def execCustodyRecordLatch (who : Requester) (s : State) : Out :=
  .next (
    let q := s.get (Reg.NRG_REC_SEL.SEQ.of who)
    let b := (s.nvs.custody.find? fun r => recordSeq r == q).getD []
    (List.range 128).foldl (fun s k => s.set ((Reg.NRG_REC.WORD.ix k).of who) (leAt b (4 * k) 4)) s)

/-- DEMAND_SUBINTERVAL_END (R419). -/
def execDemandSubintervalEnd (t : Tai) (s : State) : Out :=
  .next (let s := s.moveTo t; if s.blockRuns .energy then s.passDemand else s)

/-! ### Pulses (R421 to R423) -/

/-- PULSE_START (R422): the width is WIDTH or half the expected spacing. -/
def execPulseStart (k : Nat) (t : Tai) (s : State) : Out :=
  .next (
    let s := s.moveTo t
    let p := (alookup k s.nrg.pulses).getD {}
    let b := s.get (Reg.NRG_PLS.BACKLOG.ix k)
    let max_ := s.roast.plsMax k
    let gapOk := (match p.started with | some u => decide (u * max_ + 100 * secUnit ≤ s.time.elapsed * max_) | none => true) &&
      (match p.ended with | some u => decide (u + 500 * usUnit ≤ s.time.elapsed) | none => true)
    if 8 ≤ k ∨ !s.operating ∨ !s.blockRuns .energy ∨ !s.flag (Reg.NRG_PLS.EN.ix k) ∨ b = 0 ∨ p.until_.isSome ∨ !gapOk ∨ max_ = 0 then s
    else
      let least : Tai := 100 * secUnit / max_
      let wide := clampN 1 200 (s.get (Reg.NRG_PLS.WIDTH.ix k)) * msUnit
      let w := if 2 ≤ b then min wide (least / 2)
        else match p.cross, p.crossBefore with
          | some x, some y => min wide (max least (x - y) / 2)
          | _, _ => wide
      let s1 := { s with nrg := { s.nrg with pulses := aset k { p with started := some s.time.elapsed, until_ := some (s.time.elapsed + w) } s.nrg.pulses }
                         pins := { s.pins with plsLow := setBit s.pins.plsLow k true } }
      s1.set (Reg.NRG_PLS.BACKLOG.ix k) (b - 1))

/-- PULSE_END (R422). -/
def execPulseEnd (k : Nat) (t : Tai) (s : State) : Out :=
  .next (
    let s := s.moveTo t
    let p := (alookup k s.nrg.pulses).getD {}
    match p.until_ with
    | none => s
    | some u =>
      if 8 ≤ k ∨ s.time.elapsed < u then s
      else
        { s with nrg := { s.nrg with pulses := aset k { p with until_ := none, ended := some s.time.elapsed } s.nrg.pulses }
                 pins := { s.pins with plsLow := setBit s.pins.plsLow k false } }.count (Reg.NRG.PLS_EMIT.ix k))

/-- Pulses cut short go back to their backlogs, and the pins are released (R60, R423). -/
def State.cutPulses (s : State) : State :=
  let s1 := s.nrg.pulses.foldl (fun (s : State) e =>
    if e.2.until_.isSome then
      let b := s.get (Reg.NRG_PLS.BACKLOG.ix e.1)
      { s with nrg := { s.nrg with pulses := aset e.1 { e.2 with until_ := none, ended := some s.time.elapsed } s.nrg.pulses } }.set
        (Reg.NRG_PLS.BACKLOG.ix e.1) (min 65535 (b + 1))
    else s) s
  { s1 with pins := { s1.pins with plsLow := 0 } }

/-! ### Saves (R429, R431) -/

/-- The eight backlogs. -/
def State.backlogs (s : State) : List Nat := (List.range 8).map fun k => s.get (Reg.NRG_PLS.BACKLOG.ix k)

/-- What a save holds now. -/
def State.nrgSnapshot (s : State) : NrgSave :=
  { ints := (List.range 112).map s.accInt, backlogs := s.backlogs, startTai := s.nrg.startTai, startSoc := s.nrg.startSoc
    flags := s.nrg.flags, recSeq := s.nrg.recSeq, prev := s.nrg.prev }

/-- A save starts, or is skipped while one is in progress. -/
def State.startSave (s : State) : State :=
  if s.nrg.saving.isSome then s.count Reg.NRG.SAVE_SKIP
  else
    { s with nrg := { s.nrg with
        saving := some s.nrgSnapshot, seq := s.nrg.seq + 1, snapPrev := s.nrg.snapNow, snapNow := s.nrg.acc } }.setFlag Reg.NRG_STATUS.SAVING true

/-- TOTALS_SAVE (R429): due at each TAI second that is a multiple of SAVE_S. -/
def execTotalsSave (t : Tai) (s : State) : Out :=
  .next (
    let s := s.moveTo t
    if s.blockRuns .energy && s.time.tai == t && t % secUnit == 0 && t / secUnit % max 10 (s.get Reg.NRG_SAVE.SAVE_S) == 0 &&
        s.nrg.savedAt != some t then ({ s with nrg := { s.nrg with savedAt := some t } }).startSave
    else s)

/-- NRG_SAVE_NOW (R431): guarded. -/
def execNrgSaveNow (who : Requester) (s : State) : Out :=
  .next (s.guarded who Reg.NRG_SAVE.NOW.base fun s => if s.blockRuns .energy then s.startSave else s)

/-- TOTALS_SAVE_COMPLETE (R429): `bad` lists copies (0 A, 1 B, 2 C) that failed their readback twice. -/
def execTotalsSaveComplete (bad : List Nat) (s : State) : Out :=
  .next (
    match s.nrg.saving with
    | none => s
    | some d =>
      let cs := (List.range 3).map fun i => ({ seq := s.nrg.seq, ok := !bad.contains i, d := d } : TotalsCopy)
      let n := ((List.range 3).filter fun i => bad.contains i).length
      let s1 := { s with nvs := { s.nvs with totals := cs }, nrg := { s.nrg with saving := none } }
      let s2 := (s1.setFlag Reg.NRG_STATUS.SAVING false).set Reg.NRG_SAVE_SEQ.SEQ s.nrg.seq
      let s3 := (List.range n).foldl (fun s _ => ((s.count Reg.NRG.SAVE_FAIL).log (evCode 19 4) 0 []).nrgIrq Reg.NRG_IRQ.SAVE_FAIL) s2
      if s.nrg.clearStore ∧ n = 0 then
        { s3 with nrg := { s3.nrg with clearStore := false }
                  backup := { s3.backup with bank0 := {}, bank1 := {}, push := {} } }
      else s3)

/-- A reset cuts a save off: of the copies, some are written, the one being written is torn; which, the spec leaves open (log entry 1). -/
def State.cutSave (s : State) : State :=
  match s.nrg.saving with
  | none => s
  | some d =>
    let n := s.freeVal 2
    let new : TotalsCopy := { seq := s.nrg.seq, ok := true, d := d }
    let cs := (List.range 3).map fun i => if i < n then new else if i = n then { new with ok := false } else (s.nvs.totals[i]?).getD {}
    { s with nvs := { s.nvs with totals := cs }, nrg := { s.nrg with saving := none } }.tookFree

/-! ### The residual store (R432, R433) -/

/-- What a bank or a push holds now. -/
def State.residualNow (s : State) : ResidualBank :=
  let since (old : List Nat) : List Nat := (List.range 112).map fun i => (s.nrg.acc[i]?).getD 0 - (old[i]?).getD 0
  { base := s.nrg.seq, ok := true, new := since s.nrg.snapNow, prev := since s.nrg.snapPrev, backlogs := s.backlogs }

/-- The engine pushes into the push area, while it runs or shuts down. -/
def State.nrgPush (s : State) : State :=
  if s.flag Reg.NRG_CTL.BUSY then { s with backup := { s.backup with push := s.residualNow } } else s

/-- RESIDUAL_BANK_WRITE (R432): every 100 ms, the bank not written the previous time. -/
def execResidualBankWrite (s : State) : Out :=
  .next (
    if !s.blockRuns .energy then s
    else if s.backup.bankLast then { s with backup := { s.backup with bank0 := s.residualNow, bankLast := false } }
    else { s with backup := { s.backup with bank1 := s.residualNow, bankLast := true } })

/-- POWER_FAIL_WARNING (R50, R433): a low of `lowNs` on PF_DET_N; between 100 ns and 200 ns its acceptance is free. -/
def execPowerFailWarning (lowNs : Nat) (s : State) : Out :=
  .next (s.glitch lowNs fun s => (s.setFlag Reg.NRG_STATUS.PF_ACTIVE true).nrgPush)

/-- RESIDUAL_PUSH_REPEAT (R433). -/
def execResidualPushRepeat (s : State) : Out := .next (if s.flag Reg.NRG_STATUS.PF_ACTIVE then s.nrgPush else s)

/-- POWER_FAIL_CLEARED (R433): PF_DET_N high for 1 ms starts a save. -/
def execPowerFailCleared (s : State) : Out :=
  .next (
    if s.flag Reg.NRG_STATUS.PF_ACTIVE then
      let s1 := s.setFlag Reg.NRG_STATUS.PF_ACTIVE false
      if s1.blockRuns .energy then s1.startSave else s1
    else s)

/-! ### Restore (R430, R434, R435) -/

/-- The median of three numbers. -/
def median (a b c : Nat) : Nat := max (min a b) (min (max a b) c)

/-- The row of R430 for the intact copies, the contents restored, and s_r. -/
def restoreRow (cs : List TotalsCopy) : Nat × Option NrgSave × Nat :=
  match cs with
  | [a, b, c] =>
    let top := max a.seq (max b.seq c.seq)
    let tops := cs.filter fun x => x.seq == top
    match tops with
    | [x] => (1, some x.d, top)
    | _ =>
      let pairs := if tops.contains a && tops.contains b && a.d == b.d then some a.d
        else if tops.contains a && tops.contains c && a.d == c.d then some a.d
        else if tops.contains b && tops.contains c && b.d == c.d then some b.d else none
      match pairs with
      | some d => (2, some d, top)
      | none =>
        let z (f : NrgSave → List Nat) (i : Nat) : Nat := median (((f a.d)[i]?).getD 0) (((f b.d)[i]?).getD 0) (((f c.d)[i]?).getD 0)
        let first := (tops.head?.map (·.d)).getD {}
        (3, some { first with ints := (List.range 112).map (z (·.ints)), backlogs := (List.range 8).map (z (·.backlogs)) }, top)
  | [a, b] =>
    if a.seq ≠ b.seq then (4, some (if a.seq < b.seq then b.d else a.d), max a.seq b.seq)
    else
      let z (f : NrgSave → List Nat) (i : Nat) : Nat := min (((f a.d)[i]?).getD 0) (((f b.d)[i]?).getD 0)
      (5, some { a.d with ints := (List.range 112).map (z (·.ints)), backlogs := (List.range 8).map (z (·.backlogs)) }, a.seq)
  | [a] => (6, some a.d, a.seq)
  | _ => (7, none, 0)

/-- The newest record of the store with valid MAGIC and signature (R427). -/
def State.newestRecord (s : State) : Option Bytes :=
  s.nvs.custody.find? fun r => r.take 8 == ascii "MZ7416CR" && (match s.slotValue 9 with
    | some k => Config.ed25519Verify (Config.ed25519Public k) (signedText "MZ7416 custody v1" (r.take 0x1C0)) (r.drop 0x1C0)
    | none => false)

/-- The residual source of R434: its code, bank, and time bound in units of 0.1 ms. -/
def State.residualSource (s : State) : Nat × Option ResidualBank × Nat :=
  let last := if s.backup.bankLast then s.backup.bank1 else s.backup.bank0
  let other := if s.backup.bankLast then s.backup.bank0 else s.backup.bank1
  if s.backup.push.ok then (0, some s.backup.push, 1)
  else if last.ok then (1, some last, 1000)
  else if other.ok then (2, some other, 2000)
  else (3, none, 20000 * s.get Reg.NRG_SAVE.SAVE_S)

/-- The relation of R434: code, what is added, the further bound in units of 0.1 ms. -/
def residualRelation (saveS sr : Nat) : Option ResidualBank → Nat × List Nat × Nat
  | none => (0, [], 0)
  | some b =>
    if b.base < sr then (0, [], 0)
    else if b.base = sr then (1, b.new, 0)
    else if b.base = sr + 1 then (2, b.prev, 0)
    else (3, b.prev, 10000 * saveS * (b.base - 1 - sr))

/-- Restore of the totals (R430) and of the residual (R434). The snapshot of the latest save started is told from the totals restored, so
that R_prev of the next one covers the residual added. -/
def State.nrgRestore (s : State) : State :=
  let intact := s.nvs.totals.filter (·.ok)
  let (row, d, sr) := restoreRow intact
  let newest := s.newestRecord
  let disagree := match intact with
    | [] => false
    | a :: rest => rest.any fun b => b != a
  let save := d.getD { recSeq := (newest.map recordSeq).getD 0, prev := (newest.map Config.sha512).getD (List.replicate 64 0) }
  let seqPrev := match newest with
    | some r => (recordSeq r, Config.sha512 r)
    | none => (save.recSeq, List.replicate 64 0)
  let (src, bank, tb) := s.residualSource
  let (rel, add, further) := residualRelation (s.get Reg.NRG_SAVE.SAVE_S) sr bank
  let acc := (List.range 112).map fun i => ((save.ints[i]?).getD 0) * 2 ^ 32 + (add[i]?).getD 0
  let snap := match rel, bank with
    | 0, _ => acc
    | _, some b => (List.range 112).map fun i => (acc[i]?).getD 0 - (b.new[i]?).getD 0
    | _, none => acc
  let bounds := (List.range 4).map fun e => match s.roast.nrgRec e with
    | some b => (Rat.ceil (nSmax b * ((tb + further : Nat) : Rat) / 10000 * 10 / 36)).toNat
    | none => 0
  let flags := orFlags [2 ^ 7 * b2n disagree, 2 ^ 8 * b2n (decide (intact.length < 3)), 2 ^ 9 * b2n intact.isEmpty,
    2 ^ 5 * b2n (add.any fun x => decide (x ≠ 0)), 2 ^ 6 * b2n (decide (src ≠ 0))]
  let s1 := { s with nrg := { s.nrg with
    acc := acc, snapNow := snap, snapPrev := snap, seq := max sr ((bank.map fun (b : ResidualBank) => b.base).getD 0), recSeq := seqPrev.1, prev := seqPrev.2
    startTai := save.startTai, startSoc := save.startSoc, flags := save.flags, pendFlags := flags, bounds := bounds, clearStore := true } }
  let s2 := (List.range 8).foldl (fun s k => s.set (Reg.NRG_PLS.BACKLOG.ix k) (match bank with | some b => (b.backlogs[k]?).getD 0 | none => 0)) s1
  let lost := if bank.isSome then 0 else save.backlogs.sum
  let s3 := if 0 < lost then s2.log (evCode 19 2) 0 (evNum lost) else s2
  let s4 := if disagree then (s3.setFlag Reg.NRG_STATUS.COPY_DISAGREE true).log (evCode 19 5) 0 (leBytes 1 row) else s3
  let s5 := if intact.length < 3 then s4.setFlag Reg.NRG_STATUS.COPY_LOST true else s4
  let s6 := if intact.isEmpty then s5.setFlag Reg.NRG_STATUS.TOTALS_LOST true else s5
  let s7 := ((s6.set Reg.NRG_RESTORE.SOURCE src).set Reg.NRG_RESTORE.RELATION rel).set Reg.NRG_RESTORE.ROW row
  let s8 := (List.range 4).foldl (fun s e => (s.set (Reg.NRG_LOST_BOUND.BOUND.ix e) ((bounds[e]?).getD 0)).showAcc e) s7
  let amounts := (List.range 4).flatMap fun e => evNum (((add[28 * e + 21]?).getD 0 / 2 ^ 32 : Nat) : Int)
  ((s8.set Reg.NRG_REC_LAST.SEQ seqPrev.1).log (evCode 19 6) 0
    (leBytes 1 src ++ leBytes 1 rel ++ amounts ++ bounds.flatMap (leBytes 8))).nrgIrq Reg.NRG_IRQ.RESTORE

/-- An interval of its own begins now. -/
def State.newInterval (s : State) (flags : Nat) : State :=
  let soc := s.soc s.time.tai
  let iv := s.get Reg.NRG_CFG.INTERVAL_MIN
  { s with nrg := { s.nrg with
      startSoc := soc, startTai := s.time.tai, startEl := s.time.elapsed, endSoc := nextBound soc iv, minutes := iv, passedBy := false
      flags := flags, elemFlags := List.replicate 4 0 } }.clearMaxDem

/-- The decision of R435 with valid time. A store with no open interval begins one. -/
def State.nrgDecide (s : State) : State :=
  let iv := s.get Reg.NRG_CFG.INTERVAL_MIN
  let bound := nextBound s.nrg.startSoc iv
  let s0 := { s with nrg := { s.nrg with deciding := false } }
  if s.nrg.startSoc = 0 then s0.newInterval 1
  else
    let s1 := { s0 with nrg := { s0.nrg with startEl := (s.time.elapsed : Int) - ((s.time.tai : Int) - (s.nrg.startTai : Int)), endSoc := bound, minutes := iv } }
    if bound ≤ s.soc s.time.tai then (s1.closeInterval bound (s.boundTai bound) bound 16 0).newInterval 1
    else s1.nrgFlag 4

/-- A start of the engine (R430, R434, R435), with the save that follows. -/
def State.nrgStart (s : State) : State :=
  let ps := s.nrg.pulses.map fun (p : Nat × Pulse) => (p.1, ({ p.2 with cross := none, crossBefore := none } : Pulse))
  let s1 := (({ s with nrg := { wraps := s.nrg.wraps, pulses := ps } }).set Reg.NRG_EVT_STATE.OC 0).nrgRestore
  let s2 := { s1 with nrg := { s1.nrg with
    demEnd := nextBound (s.soc s.time.tai) s.roast.demSub, marks := [(s.time.elapsed, s1.nrg.acc)]
    elems := (List.range 4).map fun e => (e, ({ lastEnd := s.time.tai } : NrgElem)) } }.clearMaxDem
  let s3 := if s2.flag Reg.TSU_STATUS.TIME_VALID then s2.nrgDecide
    else { s2 with nrg := { s2.nrg with deciding := true, flags := Nat.lor s2.nrg.flags 18, startEl := s.time.elapsed, minutes := s.get Reg.NRG_CFG.INTERVAL_MIN } }
  s3.startSave

/-- ENERGY_ENABLE (R106, R433, R438): a shutdown pushes. -/
def execEnergyEnable (who : Requester) (en : Bool) (s : State) : Out :=
  .next (s.open_ who Reg.NRG_CTL.EN.base fun s => s.enWrite .energy en State.nrgStart State.nrgPush)

/-- INTERVAL_RESTART_DECISION (R435). -/
def execIntervalRestartDecision (t : Tai) (s : State) : Out :=
  .next (
    let s := s.moveTo t
    if s.nrg.deciding && s.blockRuns .energy && s.flag Reg.TSU_STATUS.TIME_VALID then s.nrgDecide else s)

/-! ### Steps and swaps (R425, R436) -/

/-- A step of the time base by d: elements' accounted time moves with it, and the interval carries STEP where the step moved past its
boundary or behind its start. -/
def State.nrgStep (s : State) (d : Int) : State :=
  if !s.flag Reg.NRG_CTL.BUSY then s
  else
    let els := s.nrg.elems.map fun (e : Nat × NrgElem) => (e.1, { e.2 with lastEnd := addTai e.2.lastEnd d })
    let now := s.soc s.time.tai
    let passedBy := (s.nrg.passedBy || decide (s.soc (addTai s.time.tai (-d)) < s.nrg.endSoc)) && decide (s.nrg.endSoc ≤ now)
    let s1 := { s with nrg := { s.nrg with elems := els, passedBy := passedBy } }
    if s.nrg.endSoc ≤ now ∨ now < s.nrg.startSoc then s1.nrgFlag 2 else s1

/-- The energy engine at the close of slice D; the new roast and its registers are in force. -/
def State.carryNrg (s : State) (old new : Roast) (oldMin : Nat) : State :=
  if !s.flag Reg.NRG_CTL.BUSY then s
  else
    let key (b : Bytes) : Bytes := slice b 0x3F8 8
    let els := s.nrg.elems.map fun (e : Nat × NrgElem) =>
      let same := match new.nrgRec e.1 with
        | some b => (old.recs 0x68).any fun o => leAt o 0 1 == 2 && key o == key b && leAt o 1 1 == e.1
        | none => false
      if same then e
      else if (old.nrgRec e.1).isNone then (e.1, ({ lastEnd := s.time.tai } : NrgElem))
      else (e.1, ({ lastEnd := e.2.lastEnd, lastGood := e.2.lastGood, everGood := e.2.everGood, bridgedRest := e.2.bridgedRest
                    gapRest := e.2.gapRest } : NrgElem))
    let oc := (List.range 12).foldl (fun v j =>
      if (((els.find? fun (e : Nat × NrgElem) => e.1 == j / 3).bind fun e => e.2.ocOn[j % 3]?).getD false) then v else setBit v j false)
      (s.get Reg.NRG_EVT_STATE.OC)
    let s1 := ({ s with nrg := { s.nrg with elems := els } }.set Reg.NRG_EVT_STATE.OC oc).nrgFlag 12
    if s.get Reg.NRG_CFG.INTERVAL_MIN = oldMin ∨ s.nrg.deciding then s1
    else s1.closeInterval (s.soc s.time.tai) s.time.tai (s.soc s.time.tai) 0 1

end Sys2Proof.Machine
end

