-- ==== Sys2Proof/Machine/AlignCore.lean ====
section
/-! DEFINITION. The aligner's disposition of frames (R264 to R273, R283): slice states, required sets and deadlines, the rows of
R266, first arrival, and the revision journal. -/

namespace Sys2Proof.Machine

/-- An interrupt of the aligner: REVISED, JOURNAL_FULL, FUTURE and STEP_SKIP on vector 40, HOST and HOST_MISS on 41 (R299). -/
def State.alnIrq (s : State) (f : Fld) : State := s.irq f Reg.ALN_IRQ_MASK.MASK (if f.lsb < 4 then 40 else 41)

/-- The aligner has started, and no shutdown of it has completed since. -/
def State.alnUp (s : State) : Bool := s.flag (Block.busy .aligner)

/-- N_next. -/
def State.nextClose (s : State) : Nat := s.get Reg.ALN_NEXT_CLOSE.SLICE

/-- OPEN follows: slices that hold buffers. -/
def State.showOpen (s : State) : State :=
  s.set Reg.ALN_STATUS.OPEN (min 512 (s.aln.slices.filter fun e => decide (1 ≤ e.2.state) && decide (e.2.state ≤ 3)).length)

/-- OCC follows: channel writes in the journal. -/
def State.showJournal (s : State) : State :=
  s.set Reg.ALN_JOURNAL.OCC (s.aln.journal.map fun e => e.2.writes.length).sum

/-- Slice n is one that a forward step passed over whole. -/
def State.inGap (s : State) (n : Nat) : Bool := match s.aln.gap with
  | some (a, b) => decide (a ≤ n) && decide (n < b)
  | none => false

/-- An EMPTY slice becomes COLLECTING (R264). -/
def State.collect (s : State) (n : Nat) : State :=
  match s.slice? n with
  | some _ => s
  | none => if s.inGap n then s else (s.setSlice { n := n }).showOpen

/-! ### Required sets and deadlines (R270, R271, R288): the state is a view of the roast that governs the slice -/

/-- Req(n). -/
def State.required (v : State) (n : Nat) : List Nat :=
  (List.range v.roast.streamCount).filter fun i =>
    v.streamBit Reg.ALN_REQ.REQ i && v.streamDue i n && !v.streamSusp i && recKind (v.recOf i) != 4

/-- The close budget of a class, in µs. -/
def State.budget (v : State) (k : Nat) : Nat := min 250000 (v.get (Reg.ALN_CLOSE_CFG.BUDGET.ix (k % 16)))

/-- B and the class that gives it: the smallest budget of a required class, the lower class where two are equal. -/
def State.strictest (v : State) (n : Nat) : Nat × Nat :=
  match (v.required n).map fun i => recClass (v.recOf i) with
  | [] => let k := leAt (v.roast.recAt 0x13 0) 4 1 % 16; (v.budget k, k)
  | k :: ks => ks.foldl (fun a c =>
      if v.budget c < a.1 ∨ (v.budget c = a.1 ∧ c < a.2) then (v.budget c, c) else a) (v.budget k, k)

/-- d_n. -/
def State.deadline (v : State) (n : Nat) : Tai := deadlineBase v.fs n + (v.strictest n).1 * usUnit

/-- The own close rule of a COLLECTING slice is found met at an instant, with a reason and LAST_REQ_STREAM. -/
def State.meet (s : State) (x : Slice) (t : Tai) (reason last : Nat) : State :=
  if x.state = 1 ∧ x.met.isNone then s.setSlice { x with met := some (t, reason, last) } else s

/-- The instant at which a deadline meets a slice's own rule: the first time-base cycle at or after it (R272), or where it had passed before
the rule was last looked at, in state `before`, that instant. -/
def State.deadlineCycle (before : State) (d : Tai) : Tai := if d ≤ before.time.tai then before.time.tai else before.cycleAt d

/-- The own close rule of slice n as it stands now (R272, R274); `before` is the state in which the rules were last looked at. -/
def State.evalSlice (s before : State) (n : Nat) : State :=
  match s.slice? n with
  | none => s
  | some x =>
    let v := s.view (s.genOf n)
    let req := v.required n
    let c := before.deadlineCycle (v.deadline n)
    if c < s.time.tai then s.meet x c (if req.isEmpty then 3 else 2) 0xFFFF
    else if !req.isEmpty && req.all x.streams.contains then s.meet x s.time.tai 1 0xFFFF
    else if c = s.time.tai then s.meet x c (if req.isEmpty then 3 else 2) 0xFFFF
    else s

/-- COLLECTING slices, in index order. -/
def State.collecting (s : State) : List Nat := ((s.aln.slices.filter fun e => e.2.state == 1).map (·.1)).mergeSort

/-- A slice closes at once with reason SHUTDOWN where it holds a written slot (R276). -/
def State.shutSlice (s : State) (n : Nat) : State :=
  match s.slice? n with
  | none => s
  | some x => if x.slots.isEmpty then s else s.meet x s.time.tai 4 0xFFFF

/-- Every COLLECTING slice's own rule looked at; while a shutdown runs, those that hold a written slot close (R276). -/
def State.evalSlices (s before : State) : State :=
  if s.blockRuns .aligner then s.collecting.foldl (fun s n => s.evalSlice before n) s
  else if s.alnUp then s.collecting.foldl State.shutSlice s
  else s

/-- The own rule of a slice that has met it, looked at again after budgets or the required set changed (R274): still met by its streams, met
by the deadline as it now is where that has passed, or not met. -/
def State.remeet (s : State) (n : Nat) : State :=
  match s.slice? n with
  | none => s
  | some x =>
    match x.met with
    | none => s
    | some m =>
      let v := s.view (s.genOf n)
      let req := v.required n
      let d := v.deadline n
      let full := m.2.1 = 1 ∧ !req.isEmpty ∧ req.all x.streams.contains
      if x.state ≠ 1 ∨ m.2.1 = 4 ∨ (full ∧ m.1 ≤ d) then s
      else if d ≤ s.time.tai then s.setSlice { x with met := some (max m.1 d, if req.isEmpty then 3 else 2, 0xFFFF) }
      else s.setSlice { x with met := none, blocked := false }

/-! ### Writes (R266 to R268) -/

/-- A slot is PRESENT. -/
def Slice.present (x : Slice) (k : Nat) : Bool :=
  match alookup k x.slots with
  | some v => qPresent v.q
  | none => false

/-- A frame's writes under first arrival (R267): the slice, the slots written, whether one was already PRESENT. -/
def Slice.put (x : Slice) (ws : List (Nat × SlotVal)) : Slice × Nat × Bool :=
  ws.foldl (fun a w =>
    if a.1.present w.1 then (a.1, a.2.1, true)
    else ({ a.1 with slots := aset w.1 w.2 a.1.slots }, a.2.1 + 1, a.2.2)) (x, 0, false)

/-- Row 4: the frame enters the open-slice buffer, and a completed required set meets the slice's own rule within 20 ns of the commit
stamp (R272): how much later is a free value (log entry 1). -/
def State.buffer (s : State) (n : Nat) (f : AlnFrame) : State :=
  let x := s.sliceAt n
  let a := x.put f.writes
  let new := f.streams.filter fun i => !x.streams.contains i
  let y := { a.1 with streams := x.streams ++ new.eraseDups, lastStamp := max x.lastStamp f.stamp, dup := x.dup + b2n a.2.2 }
  let s1 := (s.setSlice y).count Reg.ALN.WRITES a.2.1
  let s2 := if a.2.2 then s1.count Reg.ALN.DUPLICATE else s1
  let v := s2.view (s2.genOf n)
  let req := v.required n
  if y.state = 1 ∧ y.met.isNone ∧ !req.isEmpty ∧ req.all y.streams.contains then
    let t := f.stamp + s2.freeVal 21 % (20 * nsUnit + 1)
    let c := s2.cycleAt (v.deadline n)
    if c ≤ t then s2.tookFree.meet y (max c f.stamp) 2 0xFFFF
    else s2.tookFree.meet y t 1 (((new.filter req.contains).getLast?).getD 0xFFFF)
  else s2

/-- The journal with a frame in its place: commit order, an equal stamp behind the earlier ones. -/
def journalIn (n : Nat) (f : AlnFrame) : List (Nat × AlnFrame) → List (Nat × AlnFrame)
  | [] => [(n, f)]
  | e :: r => if f.stamp < e.2.stamp then (n, f) :: e :: r else e :: journalIn n f r

/-- Row 5 (R283): a frame that does not fit is discarded whole. -/
def State.journal (s : State) (n : Nat) (f : AlnFrame) : State :=
  if (s.aln.journal.map fun e => e.2.writes.length).sum + f.writes.length ≤ 8388608 then
    ({ s with aln := { s.aln with journal := journalIn n f s.aln.journal } }.showJournal).count Reg.ALN.REV_ACCEPTED
  else
    let x := s.sliceAt n
    ((s.setSlice { x with flags := setBit x.flags 6 true }).count Reg.ALN.JOURNAL_FULL).alnIrq Reg.ALN_IRQ.JOURNAL_FULL

/-- Rows 4 to 6 for a frame of slice n. -/
def State.place (s : State) (n : Nat) (f : AlnFrame) : State :=
  match s.slice? n with
  | none =>
    if s.nextClose ≤ n ∧ !s.inGap n then (s.collect n).buffer n f else s.count Reg.ALN.TOO_OLD
  | some x =>
    if x.state = 1 ∨ (x.state = 2 ∧ f.stamp ≤ x.closeAt) then s.buffer n f
    else if 2 ≤ x.state ∧ x.state ≤ 4 ∧ f.stamp ≤ x.closeAt + x.window then s.journal n f
    else s.count Reg.ALN.TOO_OLD

/-- A frame reaches the aligner (R265, R266). The caller closes slices afterwards. -/
def State.enterFrame (s : State) (f : AlnFrame) : State :=
  if !s.alnUp then s.count Reg.ALN.TOO_OLD
  else match sliceFor s.fs f.t with
    | none =>
      ((s.count Reg.ALN.OFF_GRID).set Reg.ALN_OFFGRID_LAST.STREAM (f.streams.headD 0)).setFlag Reg.ALN_OFFGRID_LAST.VALID true
    | some n =>
      let b := (s.view (s.genOf n)).recOf (f.streams.headD 0)
      if n % max 1 (recDiv b) ≠ 0 then s.count Reg.ALN.OFF_RATE
      else if s.nextClose + 512 ≤ n then (s.count Reg.ALN.FUTURE).alnIrq Reg.ALN_IRQ.FUTURE
      else
        let v := s.view (s.genOf n)
        let late := (f.streams.map fun i => recClass (v.recOf i) % 16).eraseDups.filter fun k =>
          decide (sliceTime s.fs n + v.budget k * usUnit < f.stamp)
        (late.foldl (fun s k => s.count (Reg.ALN.CLASS_LATE.ix k)) s).place n f

end Sys2Proof.Machine
end

