-- ==== Sys2Proof/Machine/Cascade.lean ====
section
/-! DEFINITION. What ring messages do (R505, R509, R513 to R518): duplicates, presence, shares, arm commands, and takeovers. -/

namespace Sys2Proof.Machine

/-! ### Takeover (R517, R518) -/

/-- No other device holds peer p, and none has announced to take it lately. -/
def State.mayTake (s : State) (p : Nat) : Bool :=
  !((List.range 8).any fun q => s.bit Reg.CAS_PEER.PRESENT q && q != s.casId && bitAt (s.peer q).taken p) &&
  !(s.cas.heard.any fun h => h.1 == p && h.2.1 != s.casId &&
    decide (s.get Reg.ALN_LAST_CLOSE.SLICE < h.2.2 + 2 * s.roast.missSlices))

/-- A TAKEOVER for p: sent on both rings, or turned away with an event. -/
def State.takeover (s : State) (p : Nat) : State :=
  if !bitAt s.roast.standbyFor p || s.bit Reg.CAS_PEER.TAKEN p || s.cas.takes.any (fun e => e.1 == p) then s
  else if !s.mayTake p then s.log (evCode 22 3) 0 (evIndex p)
  else if !s.originates (.takeover p) then s
  else { s with cas := { s.cas with takes := s.cas.takes ++ [(p, none)] } }.originate [0, 1] (s.get Reg.ALN_LAST_CLOSE.SLICE) (.takeover p)

/-- A takeover that has not been applied is abandoned. -/
def State.abandon (s : State) (p : Nat) : State :=
  { s with cas := { s.cas with
      takes := s.cas.takes.filter fun e => e.1 != p
      out := s.cas.out.filter fun o => o.m.body != RingBody.takeover p } }.log (evCode 22 4) 0 (evIndex p)

/-- A peer held is to be released at the next close. -/
def State.releaseLater (s : State) (p : Nat) : State :=
  if s.bit Reg.CAS_PEER.TAKEN p && !s.cas.release.contains p then { s with cas := { s.cas with release := s.cas.release ++ [p] } } else s

/-- CAS_TAKE: guarded. -/
def execCasTake (who : Requester) (mask : Nat) (s : State) : Out :=
  .next (s.guarded who Reg.CAS_TKO_CTL.TAKE.base fun s =>
    if s.roast.has 0x60 then ((List.range 8).filter (bitAt mask)).foldl State.takeover s else s)

/-- CAS_RELEASE: guarded; the bits of the streams stay for software. -/
def execCasRelease (who : Requester) (mask : Nat) (s : State) : Out :=
  .next (s.guarded who Reg.CAS_TKO_CTL.RELEASE.base fun s =>
    ((List.range 8).filter (bitAt mask)).foldl (fun s p => s.putBit Reg.CAS_PEER.TAKEN p false) s)

/-! ### Messages (R505, R509, R514, R516) -/

/-- A presence of peer p. -/
def State.presence (s : State) (p n : Nat) (ok : Bool) (rate taken : Nat) : State :=
  let x := s.peer p
  let s1 := s.setPeer p { x with
    any := (n :: x.any).take 256, healthy := if ok then (n :: x.healthy).take 256 else x.healthy
    quiet := 0, known := true, rate := rate, taken := taken }
  let s2 := s1.putBit Reg.CAS_PEER.PRESENT p true
  let s3 := if ok ∧ s.bit Reg.CAS_PEER.FAILED p then
      ((s2.putBit Reg.CAS_PEER.FAILED p false).putBit Reg.CAS_PEER.BACK p true).casIrq Reg.CAS_IRQ.PEER
    else s2
  if p < s.casId then ((List.range 8).filter (bitAt taken)).foldl State.releaseLater s3 else s3

/-- The TYPE 3 record that takes a share. -/
def State.shareRec (s : State) (p number count : Nat) : Option Bytes :=
  s.roast.shareRecs.find? fun b => leAt b 1 1 == p && leAt b 2 1 == number && leAt b 6 2 == count

/-- A share of peer p: the frame of its stream, or a drop. -/
def State.share (s : State) (p n number : Nat) (slots : List (F32 × F32 × Nat)) (t : Tai) : State :=
  match s.shareRec p number slots.length with
  | none => s.count Reg.CAS.SHARE_DROP
  | some b =>
    if (s.peer p).rate ≠ s.fs then s.count Reg.CAS.SHARE_DROP
    else
      let ws := ((shSlots b).zip slots).filterMap fun (e : Nat × F32 × F32 × Nat) =>
        if qPresent e.2.2.2 then some (e.1, ({ v := { re := e.2.1, im := e.2.2.1 }, q := e.2.2.2 % 2 ^ 14 } : SlotVal)) else none
      (s.count Reg.CAS.SHARE_RX).enterFrame { streams := [shStream b], t := sliceTime s.fs n, stamp := t, writes := ws }

/-- A TAKEOVER by peer p for peer q. -/
def State.heardTakeover (s : State) (p q : Nat) : State :=
  let s1 := { s with cas := { s.cas with heard := ((q, p, s.get Reg.ALN_LAST_CLOSE.SLICE) :: s.cas.heard.filter fun h => h.1 != q || h.2.1 != p) } }
  if p < s.casId then
    (if s1.cas.takes.any (fun e => e.1 == q) then s1.abandon q else s1).releaseLater q
  else s1

/-- How far a sequence number lies after another, in 32 bits. -/
def seqAfter (h q : Nat) : Nat := (q + 2 ^ 32 - h % 2 ^ 32) % 2 ^ 32

/-- A first copy of a message of another device takes effect. -/
def State.ringTakes (s : State) (m : RingMsg) (t : Tai) : State :=
  let x := s.peer m.id
  let x := if x.tag = m.tag then x else { x with tag := m.tag, seq := none, seen := [] }
  if x.seen.contains m.seq then s
  else
    let d := match x.seq with | some h => seqAfter h m.seq | none => 1
    let newer := decide (1 ≤ d) && decide (d < 2 ^ 31)
    let s1 := s.setPeer m.id { x with seq := if newer then some m.seq else x.seq, seen := (m.seq :: x.seen).take 64 }
    let s2 := if newer && decide (1 < d) then s1.count Reg.CAS.SEQ_GAP else s1
    match m.body with
    | .presence ok rate _ _ _ taken => s2.presence m.id m.n ok rate taken
    | .share number slots => s2.share m.id m.n number slots t
    | .arm a d => { s2 with cap := { s2.cap with arms := s2.cap.arms ++ [(a, d)] } }
    | .takeover q => s2.heardTakeover m.id (q % 8)

/-- A message arrives on a ring: E traffic at WEST, W traffic at EAST. -/
def State.ringReceive (s : State) (ring : Nat) (m : RingMsg) (crcOk : Bool) (linkNs : Option Nat) (t : Tai) : State :=
  if !s.roast.has 0x60 then s
  else if !crcOk then s.count Reg.CAS.MSG_BAD
  else
    let s1 := match linkNs with
      | some d => s.set (linkFld (ring == 1)) d
      | none => s
    if m.id = s.casId ∧ m.tag = s.cas.tag then s1
    else if m.id = s.casId then
      (((s1.setFlag Reg.CAS_STATUS.DUP_ID true).log (evCode 22 0) 0 []).casIrq Reg.CAS_IRQ.DUP_ID).ringEmit ring (.ring · m)
    else (s1.ringTakes m t).ringEmit ring (.ring · m)

/-! ### At a close (R509, R516 to R518) -/

/-- Releases and takeovers take effect. -/
def State.casApply (s : State) (n : Nat) (closeAt : Tai) : State :=
  let s1 := s.cas.release.foldl (fun s p =>
    if s.bit Reg.CAS_PEER.TAKEN p then
      (((s.putBit Reg.CAS_PEER.TAKEN p false).tkoBits p false).log (evCode 22 5) 0 (evIndex p)).casIrq Reg.CAS_IRQ.PEER
    else s) { s with cas := { s.cas with release := [] } }
  let due (e : Nat × Option Tai) : Bool := match e.2 with | some t => decide (t + 200 * usUnit ≤ closeAt) | none => false
  (s1.cas.takes.filter due).foldl (fun s e => ((s.tkoBits e.1 true).putBit Reg.CAS_PEER.TAKEN e.1 true).set Reg.CAS_TKO_SLICE.SLICE n)
    { s1 with cas := { s1.cas with takes := s1.cas.takes.filter fun e => !due e } }

/-- Peer p at the close of slice n: failed, or no longer present. -/
def State.peerClose (s : State) (n p : Nat) : State :=
  let x := s.peer p
  if !x.known then s
  else
    let k := s.roast.missSlices
    let s1 := s.setPeer p { x with quiet := x.quiet + 1 }
    let s2 := if k ≤ x.quiet + 1 then s1.putBit Reg.CAS_PEER.PRESENT p false else s1
    let failed := (List.range k).all fun j => decide (n < j) || !x.healthy.contains (n - j)
    if failed ∧ !s.bit Reg.CAS_PEER.FAILED p then
      let s3 := ((s2.putBit Reg.CAS_PEER.FAILED p true).casIrq Reg.CAS_IRQ.PEER).log (evCode 22 2) 0 (evIndex p)
      if s3.roast.autoTakeover && bitAt s3.roast.standbyFor p then s3.takeover p else s3
    else s2

/-- The device's presence for slice n. -/
def State.sendPresence (s : State) (n : Nat) : State :=
  s.originate [0, 1] n (.presence s.pins.devOk s.fs s.roast.tag (s.get Reg.CAS_STATUS.LANES_E) (s.get Reg.CAS_STATUS.LANES_W)
    (s.get Reg.CAS_PEER.TAKEN))

/-- The cascade at the close of slice n. -/
def State.casClose (s : State) (n : Nat) (closeAt : Tai) : State :=
  if !s.roast.has 0x60 then s
  else
    let s1 := s.casApply n closeAt
    (((List.range 8).filter (· != s.casId)).foldl (fun s p => s.peerClose n p) s1).sendPresence n

/-- The shares of slice n, once substitution has settled it (R513). -/
def State.sendShares (s : State) (x : Slice) : State :=
  ((s.roast.recs 0x60).filter fun b => leAt b 0 1 == 2).foldl (fun s b =>
    let rings := match leAt b 3 1 with | 0 => [0] | 1 => [1] | _ => [0, 1]
    s.originate rings x.n (.share (leAt b 1 1) ((shSource b).map fun k => ((x.slot k).v.re, (x.slot k).v.im, (x.slot k).q)))) s

end Sys2Proof.Machine
end

