-- ==== Sys2Proof/Machine/SectionRules.lean ====
section
/-! DEFINITION. The field rules of the roast's sections (detail code 9), section by section as their chapters state them, with the
budgets (detail code 11) and the verification they belong to (R134). Cross-references are checked only where a field's own rule states
them (R137, log entry 84). -/

namespace Sys2Proof.Machine

/-! ### Means -/

/-- A field of n bytes lies from lo to hi. -/
def fieldIn (b : Bytes) (off n lo hi : Nat) : Bool := decide (lo ≤ leAt b off n) && decide (leAt b off n ≤ hi)
/-- Every byte outside the listed spans (offset, size) is 0. -/
def onlyIn (b : Bytes) (spans : List (Nat × Nat)) : Bool :=
  (List.range b.length).all fun i => leAt b i 1 == 0 || spans.any fun s => decide (s.1 ≤ i) && decide (i < s.1 + s.2)
/-- No value occurs twice. -/
def distinct (l : List Nat) : Bool := l.eraseDups.length == l.length
/-- The records of a TYPE. -/
def ofType (rs : List Bytes) (t : Nat) : List Bytes := rs.filter fun b => leAt b 0 1 == t
/-- The TYPE bytes run through the listed types, each from lo to hi times, and nothing else follows. -/
def typeRuns : List (Nat × Nat × Nat) → List Nat → Bool
  | [], l => l.isEmpty
  | (t, lo, hi) :: r, l =>
    let n := (l.takeWhile (· == t)).length
    decide (lo ≤ n) && decide (n ≤ hi) && typeRuns r (l.drop n)
/-- Every TYPE is listed and occurs from lo to hi times. -/
def typeCounts (ts : List (Nat × Nat × Nat)) (rs : List Bytes) : Bool :=
  (rs.all fun b => ts.any fun t => t.1 == leAt b 0 1) &&
  ts.all fun t => decide (t.2.1 ≤ (ofType rs t.1).length) && decide ((ofType rs t.1).length ≤ t.2.2)
/-- The TYPE bytes of records. -/
def typeBytes (rs : List Bytes) : List Nat := rs.map fun b => leAt b 0 1
/-- A binary32 field. -/
def ruleF (b : Bytes) (off : Nat) : F32 := BitVec.ofNat 32 (leAt b off 4)
/-- Greater than 0. -/
def fPos (a : F32) : Bool := fLt fZero a
/-- At least 0. -/
def fNonneg (a : F32) : Bool := fLe fZero a
/-- The RECORD_SIZE that a section's chapter gives it. -/
def recSizeOf : Nat → Nat
  | 0x01 => 64 | 0x02 => 16 | 0x10 => 64 | 0x11 => 1024 | 0x12 => 16 | 0x13 => 64 | 0x14 => 32 | 0x15 => 256
  | 0x18 => 64 | 0x19 => 2048 | 0x20 => 32 | 0x21 => 4096 | 0x22 => 32 | 0x30 => 1024 | 0x31 => 64 | 0x32 => 512
  | 0x40 => 32 | 0x41 => 256 | 0x50 => 64 | 0x51 => 64 | 0x52 => 256 | 0x58 => 64 | 0x60 => 4096 | 0x68 => 1024 | 0x70 => 4096
  | _ => 0
/-- Every section of a known kind has its chapter's RECORD_SIZE. -/
def Roast.recSizesOk (r : Roast) : Bool := r.secs.all fun x => recSizeOf x.kind == 0 || x.recSize == recSizeOf x.kind

/-- CARRY_SALT of a section (R124). -/
def Roast.salt (r : Roast) (kind : Nat) : Nat := match r.sec? kind 0 with
  | some x => x.salt
  | none => 0
/-- The carry key over bytes of a record: the first 8 bytes of SHA-512 over CARRY_SALT followed by them (R226). -/
def Roast.carryKey (r : Roast) (kind : Nat) (bs : Bytes) : Bytes := (Config.sha512 (leBytes 8 (r.salt kind) ++ bs)).take 8
/-- CARRY_KEY at an offset of a record obeys its rule. -/
def Roast.keyOk (r : Roast) (kind : Nat) (b : Bytes) (off : Nat) (bs : Bytes) : Bool := slice b off 8 == r.carryKey kind bs
/-- The bytes that R226 takes of a record; the keys of publications and output streams are formed 'As in R226' over the same bytes. -/
def keyed226 (b : Bytes) : Bytes := slice b 0 3 ++ slice b 8 24

/-- The values of RATE_DIV, each dividing SLICE_RATE exactly. -/
def Roast.divOk (r : Roast) (d : Nat) : Bool := decide (d ∈ [1, 2, 3, 4, 5, 6, 8, 10, 12, 24]) && r.rate % d == 0

/-! ### Ingest (R226, R228, R229, R541) -/

/-- A stream record. -/
def Roast.streamOk (r : Roast) (b : Bytes) : Bool :=
  fieldIn b 0 1 1 5 && fieldIn b 1 1 0 (if recKind b ≤ 2 then 31 else 0) &&
  (if recBlock b = 0 then fieldIn b 2 1 1 32 else recNblock b == 0) && decide (recFlags b < 8) &&
  (if recKind b = 5 then recPorts b == 0 else decide (recPorts b < 128)) && decide (recClass b ≤ 15) && r.divOk (recDiv b) &&
  (recKind b != 3 && recKind b != 5 || recId b == 0) && decide (recGroup b ≤ (if recKind b = 4 then 15 else 31) ∨ recKind b < 4) &&
  !(recKind b == 4 && bitAt (recFlags b) 0) && onlyIn b [(0, 7), (8, 24), (0x20, 4), (0x38, 8)] && r.keyOk 0x10 b 0x38 (keyed226 b)

/-- The blocks of every group stand in order. -/
def streamGroupsOk (rs : List Bytes) : Bool :=
  (List.range rs.length).all fun i =>
    let b := (rs[i]?).getD []
    if recBlock b = 0 then (List.range (recNblock b)).all fun j => recBlock ((rs[i + j]?).getD [255, 255]) == j
    else
      let f := (rs[i - recBlock b]?).getD [255, 255]
      decide (recBlock b ≤ i) && recBlock f == 0 && decide (recBlock b < recNblock f)

/-- A TYPE 1 template's fields lie in their ranges (R228, R229). -/
def tplFieldsOk (t : Bytes) : Bool :=
  decide (tplFormat t < 16) && decide (tplPh t ≤ 32) && decide (tplAn t ≤ 8) && decide (tplDg t ≤ 16) &&
  decide (tplPh t + tplAn t + tplDg t ≤ 56) && decide (leAt t 5 1 ≤ 1) && decide (1 ≤ tplTimeBase t ∧ tplTimeBase t < 2 ^ 24) &&
  ((List.range (tplPh t + tplAn t + tplDg t)).all fun i => decide (entUnit (tplEntry t i) ≤ 3))

/-- A template of any TYPE. -/
def tplOk (t : Bytes) : Bool :=
  fieldIn t 0 1 1 5 && decide (tplPh t ≤ 32 ∧ tplAn t ≤ 8 ∧ tplDg t ≤ 16) && decide (leAt t 5 1 ≤ 1) &&
  (tplType t != 1 || tplFieldsOk t) && ((tplType t != 2 && tplType t != 4) || fieldIn t 0x13 1 1 60) &&
  (tplType t != 3 || (fieldIn t 3 1 1 8 && fieldIn t 0x12 1 1 6)) &&
  (List.range (min 60 (tplEntries t))).all fun i =>
    let e := tplEntry t i
    decide (entUnit e ≤ 3) && decide (entSlot e ≤ (if tplType t = 4 then 32767 else if tplType t = 3 then 7 else 65535))

/-- A stream that takes shares in place of a template (R514). -/
def takesShares (b : Bytes) : Bool := recKind b == 2 && recPorts b == 0

/-- DATA_RATE of a stream's template equals SLICE_RATE / RATE_DIV; a sampled-value template's is its own rate (log entry 63). -/
def Roast.dataRateOk (r : Roast) (b : Bytes) : Bool :=
  takesShares b || recKind b == 4 || tplRate (r.recAt 0x11 (recTpl b)) * recDiv b == r.rate

/-- The slots assigned to stream i, each with the UNIT its assigning entry gives it, where one does. -/
def Roast.assigned (r : Roast) (i : Nat) : List (Nat × Option Nat) :=
  let b := r.recAt 0x10 i
  let t := r.recAt 0x11 (recTpl b)
  if recKind b = 4 then []
  else if takesShares b then ((r.shareRecs.filter fun x => shStream x == i).flatMap shSlots).map fun k => (k, none)
  else (tplSlots t).map fun k =>
    (k, (((List.range (tplEntries t)).map (tplEntry t)).find? fun e => entSlot e == k).map entUnit)

/-- CHANNEL_MAP. -/
def Roast.channelsOk (r : Roast) : Bool :=
  let rs := r.recs 0x12
  let as := (List.range r.streamCount).map fun i => (i, r.assigned i)
  rising (rs.map fun b => leAt b 0 4) && distinct (as.flatMap fun e => (e.2.map (·.1)).eraseDups) &&
  (rs.all fun b =>
    fieldIn b 0 4 0 65535 && fieldIn b 4 2 0 8191 && fieldIn b 6 1 0 3 && fieldIn b 7 1 1 5 && onlyIn b [(0, 8)] &&
    (r.assigned (leAt b 4 2)).any fun a => a.1 == leAt b 0 4 && (a.2.isNone || a.2 == some (leAt b 6 1))) &&
  as.all fun e => e.2.all fun a => rs.any fun b => leAt b 0 4 == a.1

/-- The ingest sections. -/
def Roast.ingestOk (r : Roast) : Bool :=
  let ss := r.recs 0x10
  ss.all r.streamOk && streamGroupsOk ss && (r.recs 0x11).all tplOk && decide ((ofType (r.recs 0x11) 4).length ≤ 4096) &&
  ss.all r.dataRateOk && r.channelsOk

/-! ### The aligner (R269, R270, R275, R278, R295) -/

/-- WAIT_CLASS. -/
def Roast.waitOk (r : Roast) : Bool :=
  let rs := r.recs 0x13
  rs.length == 17 && fieldIn (r.recAt 0x13 0) 0 4 0 2000 && fieldIn (r.recAt 0x13 0) 4 1 0 15 &&
  (rs.drop 1).all fun b => fieldIn b 0 4 0 250000

/-- A slot whose CHANNEL_MAP record says digital word. -/
def Roast.digitalSlot (r : Roast) (k : Nat) : Bool := (r.recs 0x12).any fun b => leAt b 0 4 == k && leAt b 7 1 == 5

/-- CARRY_KEY of the stream that owns a slot; none where no CHANNEL_MAP record names the slot. -/
def Roast.ownerKey (r : Roast) (k : Nat) : Option Bytes :=
  ((r.recs 0x12).find? fun b => leAt b 0 4 == k).map fun b => slice (r.recAt 0x10 (leAt b 4 2)) 0x38 8

/-- SUBSTITUTION. -/
def Roast.substOk (r : Roast) : Bool :=
  let rs := r.recs 0x14
  rising (rs.map fun b => leAt b 0 4) && rs.all fun b =>
    fieldIn b 0 4 0 65535 && fieldIn b 4 1 1 3 && (leAt b 4 1 == 1 || !r.digitalSlot (leAt b 0 4)) && fieldIn b 5 1 0 1 &&
    fieldIn b 6 2 1 4095 && (if leAt b 4 1 = 3 then decide (leAt b 8 4 < r.lseRows) else leAt b 8 4 == 0xFFFFFFFF) &&
    match r.ownerKey (leAt b 0 4) with
    | some k => r.keyOk 0x14 b 0x18 (slice b 0 4 ++ k)
    | none => true

/-- MACp_MAXLEN.LEN as a roast's REGINIT gives it. -/
def Roast.maxLen (r : Roast) (p : Nat) : Nat :=
  let f := Reg.MAC_MAXLEN.LEN.ix p
  match ((r.recs 0x02).map regInitOf).find? fun x => x.offset == f.base with
  | some x => Reg.MAC_MAXLEN.LEN.stores (Nat.land x.value x.load % 2 ^ 14)
  | none => Reg.MAC_MAXLEN.LEN.stores 0

/-- The octets of an output stream's frame. -/
def Roast.outFrameLen (r : Roast) (b : Bytes) : Nat :=
  16 + ((List.range (leAt b 0xA 2)).map fun i =>
    let k := r.recAt 0x15 (leAt b 0xC 4 + i)
    10 + 8 * leAt k 1 1 + 4 * leAt k 2 1 + 2 * leAt k 3 1).sum

/-- A TYPE 1 record of OUTPUT_STREAM. -/
def Roast.ostreamOk (r : Roast) (b : Bytes) : Bool :=
  let n := r.outFrameLen b
  let extra := 4 + 14 + (if leAt b 0x1E 2 = 0xFFFF then 0 else 4) + (if leAt b 4 1 = 0 then 20 else 40) + 8
  fieldIn b 1 1 0 15 && fieldIn b 2 1 0 5 && fieldIn b 3 1 0 6 && fieldIn b 4 1 0 2 && r.divOk (leAt b 5 1) &&
  decide (leAt b 6 1 = 14 ∨ leAt b 6 1 = 15) && fieldIn b 7 1 0 63 && fieldIn b 0xA 2 1 2048 && fieldIn b 0x10 4 0 250000 &&
  fieldIn b 0x14 4 1 16777215 && fieldIn b 0x18 1 0 1 && fieldIn b 0x26 1 0 63 && r.keyOk 0x15 b 0xF8 (keyed226 b) &&
  ((List.range (leAt b 0xA 2)).all fun i => leAt (r.recAt 0x15 (leAt b 0xC 4 + i)) 0 1 == 2) &&
  (if leAt b 4 1 = 2 then decide (n ≤ 65535) else decide (n + extra ≤ r.maxLen (leAt b 2 1)))

/-- OUTPUT_STREAM. -/
def Roast.outputsOk (r : Roast) : Bool :=
  let rs := r.recs 0x15
  typeCounts [(1, 0, 16), (2, 0, 32768)] rs && (ofType rs 1).all r.ostreamOk && distinct ((ofType rs 1).map fun b => leAt b 1 1) &&
  (ofType rs 2).all fun b => fieldIn b 1 1 0 32 && fieldIn b 2 1 0 8 && fieldIn b 3 1 0 16 && decide (leAt b 1 1 + leAt b 2 1 + leAt b 3 1 ≤ 56)

/-- R275: every REQUIRED local group's phasors come within the strictest budget of the REQUIRED streams. -/
def Roast.requiredOk (r : Roast) : Bool :=
  let req := (r.recs 0x10).filter fun b => bitAt (recFlags b) 0
  let least := (req.map fun b => leAt (r.recAt 0x13 (1 + recClass b)) 0 4).foldl min 250000
  (req.filter fun b => recKind b == 5).all fun b => match r.groupRec (recGroup b) with
    | some g => decide (r.groupLatency g ≤ (least : Rat) / 1000000)
    | none => true

/-! ### FILTER (R243, R249, R254, R261) -/

/-- A lane of a configured group. -/
def Roast.laneConfigured (r : Roast) (l : Nat) : Bool := match r.groupRec (l / 8) with
  | some g => decide (l % 8 < leAt g 2 1)
  | none => false

/-- A member of a TYPE 2 record. -/
def Roast.memberOk (r : Roast) (b : Bytes) (m : Nat) : Bool :=
  fieldIn b (0x20 + 8 * m) 1 1 2 && decide (gSrc b m ≤ (if gKind b m = 1 then 23 else 15)) && decide (gChan b m ≤ 7) &&
  decide (gClk b m ≤ 3) && (gKind b m != 1 || r.sdmDiv (gClk b m) != 0) &&
  decide ((gPerCycle b * (if gTracking b then gFnom b + 5 else gFnom b) : Nat) * (5 / 4 : Rat) * r.tIn b m ≤ 1)

/-- A TYPE 2 record. -/
def Roast.filterGroupOk (r : Roast) (b : Bytes) : Bool :=
  let stream := (r.groupStream (leAt b 1 1)).map (r.recAt 0x10)
  let clks := ((gMembers b).filter fun m => gKind b m == 1).map (gClk b)
  fieldIn b 1 1 0 31 && fieldIn b 2 1 1 8 && fieldIn b 3 1 0 1 && fieldIn b 4 1 0 1 && fieldIn b 5 1 0 (if gTracking b then 3 else 2) &&
  fieldIn b 6 1 0 1 && (!gHann b || fieldIn b 7 1 2 12) && fieldIn b 8 2 16 256 && decide (leAt b 0xA 1 ∈ [1, 2, 4, 8]) &&
  fieldIn b 0xB 1 0 1 && fNonneg (ruleF b 0xC) && decide (gDelay b ≤ 63) && (leAt b 0xB 1 == 1 || decide (gDelay b = 63 / 2)) &&
  fieldIn b 0x10 1 8 24 && fieldIn b 0x11 1 4 10 && fieldIn b 0x14 4 0 10000 &&
  decide ((gFreqSrc b).length = 1 ∨ (gFreqSrc b).length = 3) && ((gFreqSrc b).all fun m => decide (m < leAt b 2 1)) &&
  decide (gTrackSrc b ≤ 31) && (r.groupRec (gTrackSrc b)).isSome && (gMembers b).all (r.memberOk b) &&
  decide (clks.eraseDups.length ≤ 1) && onlyIn b [(0, 0x1A), (0x20, 8 * leAt b 2 1), (0x60, 8)] && r.keyOk 0x19 b 0x60 (slice b 1 0x5F) &&
  match stream with
  | some x =>
    leAt (r.recAt 0x11 (recTpl x)) 5 1 == leAt b 3 1 &&
    decide (r.groupLatency b * (r.rate : Rat) ≤ ((if gHann b then 5 else 2) * recDiv x : Nat))
  | none => true

/-- The sources of a group's lanes, SDM inputs as 0 to 23 and SV channels from 24 on. -/
def laneSources (b : Bytes) : List Nat :=
  (gMembers b).map fun m => if gKind b m = 1 then gSrc b m else 24 + 8 * gSrc b m + gChan b m

/-- FILTER. A source feeds at most one lane (R242). -/
def Roast.filterOk (r : Roast) : Bool :=
  let rs := r.recs 0x19
  let gs := ofType rs 2
  let h := r.recAt 0x19 0
  typeCounts [(1, 1, 1), (2, 0, 32), (3, 0, 64), (4, 32, 32), (5, 0, 32)] rs && leAt h 0 1 == 1 &&
  ((List.range 4).all fun k => decide (r.sdmDiv k ∈ [0, 40, 50, 64, 80, 100, 125, 128, 160, 200])) && fieldIn h 8 4 0 10000000 &&
  onlyIn h [(0, 1), (4, 8)] && gs.all r.filterGroupOk && distinct (gs.map fun b => leAt b 1 1) &&
  distinct (gs.flatMap laneSources) &&
  ((ofType rs 3).all fun b => (r.groupRec (leAt b 1 1)).isSome && fieldIn b 2 1 0 1 && onlyIn b [(0, 3), (0x40, 256)]) &&
  ((ofType rs 4).all fun b => fieldIn b 1 1 0 1 && fieldIn b 2 1 0 15 && onlyIn b [(0, 3), (0x40, 1024)]) &&
  distinct ((ofType rs 4).map fun b => leAt b 1 2) && distinct ((ofType rs 5).map fun b => leAt b 1 1) &&
  (ofType rs 5).all fun b =>
    fieldIn b 1 1 0 31 && r.laneConfigured (leAt b 2 1) && fieldIn b 3 1 0 1 && fieldIn b 4 1 0 1 && fieldIn b 5 1 1 255 &&
    fNonneg (ruleF b 0xC) && onlyIn b [(0, 6), (8, 8)]

/-! ### The estimator (R321) -/

/-- LSE_MODEL. -/
def Roast.lseModelOk (r : Roast) : Bool :=
  let rs := r.recs 0x20
  let n := r.lseNodes
  let m := r.lseRows
  let g := r.lseGroups
  let rows := (List.range m).map r.lseRow
  let rowOk (b : Bytes) : Bool :=
    fieldIn b 0 4 0 65535 && decide (leAt b 4 2 < n) &&
    (if leAt b 6 2 = 0xFFFF then zeros (slice b 0x10 8) else decide (leAt b 6 2 < n) && leAt b 6 2 != leAt b 4 2) &&
    decide (leAt b 0x18 1 < g ∨ leAt b 0x18 1 = 0xFF) && decide (leAt b 0x19 1 < 4) && onlyIn b [(0, 0x1A)]
  decide (1 ≤ n ∧ n ≤ 16384 ∧ 1 ≤ m ∧ m ≤ 65536 ∧ g ≤ 32) && rs.length == 1 + n + m + g && onlyIn (r.recAt 0x20 0) [(4, 9)] &&
  ((List.range n).all fun j =>
    onlyIn (r.lseNode j) [(0, 8), (0x18, 8)] && r.keyOk 0x20 (r.lseNode j) 0x18 (slice (r.lseNode j) 0 8 ++ leBytes 4 j)) && rows.all rowOk &&
  (List.range g).all fun k =>
    decide (1 ≤ r.lseMin k ∧ r.lseMin k ≤ (rows.filter fun b => leAt b 0x18 1 == k).length) &&
    onlyIn (r.recAt 0x20 (1 + n + m + k)) [(0, 4)]

/-- A descriptor of a factor variant. -/
def descOk (d : Bytes) (nnode nwave : Nat) : Bool :=
  let diag := leAt d 7 1 == 1
  fieldIn d 6 1 1 (if diag then 31 else 32) && decide (leAt d 4 2 + leAt d 6 1 ≤ nnode) && fieldIn d 7 1 0 1 &&
  (if diag then leAt d 8 2 == leAt d 6 1 else decide (leAt d 8 2 * leAt d 6 1 ≤ 512)) && fieldIn d 0xA 1 0 15 &&
  decide (leAt d 0xC 4 < nwave) && leAt d 0xB 1 == 0

/-- An LSE_FACTOR instance. -/
def Roast.factorOk (r : Roast) (rs : List Bytes) : Bool :=
  let f : Factor := { recs := rs, bad := [], first := 0 }
  decide (1 ≤ f.nval ∧ f.nval ≤ 46875 ∧ f.nrowl ≤ 1024 ∧ 1 ≤ f.nwave ∧ f.nwave ≤ f.nval) && f.ndesc == ceilDiv f.nval 256 &&
  f.nchan == ceilDiv r.lseRows 512 && rs.length == f.structure_ + f.nval && onlyIn (f.rec_ 0) [(0, 0x14), (0x800, 2048)] &&
  ((List.range (256 * f.ndesc)).all fun t => if t < f.nval then descOk (f.desc t) r.lseNodes f.nwave else zeros (f.desc t)) &&
  ((List.range (512 * f.nchan)).all fun i => decide (i < r.lseRows) || (f.weight i == 0 && f.omega i == 0)) &&
  ((List.range (2048 * f.nrowl)).all fun e => decide (f.rowEntry e < r.lseNodes)) &&
  (List.range r.lseRows).all fun i => fNonneg (f.weight i) && fNonneg (f.omega i)

/-- LSE_VARIANT_LUT. -/
def Roast.lutOk (r : Roast) : Bool :=
  let rs := r.recs 0x22
  let last := (rs.getLast?).getD []
  decide (1 ≤ rs.length ∧ rs.length ≤ 256) && leAt last 0 4 == 0 && leAt last 8 4 == 0 && rs.all fun b =>
    within (leAt b 4 4) (leAt b 0 4) && within (leAt b 0xC 4) (leAt b 8 4) && fieldIn b 0x10 1 0 7 &&
    (r.sec? 0x21 (leAt b 0x10 1)).isSome && fieldIn b 0x11 1 0 1 && onlyIn b [(0, 0x12)]

/-- The estimator's sections. -/
def Roast.estimatorOk (r : Roast) : Bool :=
  r.lseModelOk && ((List.range 8).all fun v => (r.sec? 0x21 v).isNone || r.factorOk (r.recs 0x21 v)) && r.lutOk

/-! ### The oscillation engine (R339, R340, R347 to R349) -/

/-- A watch record. -/
def Roast.watchOk (r : Roast) (b : Bytes) : Bool :=
  leAt b 0 1 == 2 && fieldIn b 1 1 1 4 && fieldIn b 2 1 1 64 && fieldIn b 3 1 0 3 &&
  onlyIn b ([(0, 4), (8, 8)] ++ (List.range (leAt b 2 1)).flatMap fun t => [(0x40 + 12 * t, 1), (0x42 + 12 * t, 10)]) &&
  onlyIn b ([(0, 0x40)] ++ (List.range 64).flatMap fun t => [(0x40 + 12 * t, 1), (0x42 + 12 * t, 4), (0x48 + 12 * t, 4)]) &&
  r.keyOk 0x30 b 8 (slice b 1 3 ++ slice b 0x40 768) && (List.range (leAt b 2 1)).all fun t =>
    fieldIn b (0x40 + 12 * t) 1 1 7 && (decide (5 ≤ leAt b (0x40 + 12 * t) 1) || leAt b (0x44 + 12 * t) 2 == 0) &&
    fFinite (ruleF b (0x48 + 12 * t))

/-- A band record. -/
def Roast.bandOk (r : Roast) (b : Bytes) : Bool :=
  let fs := r.rate
  leAt b 0 1 == 3 && fieldIn b 4 1 1 240 && fs % max 1 (leAt b 4 1) == 0 && decide (leAt b 5 1 < leAt b 4 1) &&
  fieldIn b 6 1 2 16 && fieldIn b 7 1 0 4 && fieldIn b 8 1 0 1 &&
  fLe (roundF (9 / 10)) (ruleF b 0xC) && fLt (ruleF b 0xC) fOne && fLe fHalf (ruleF b 0x10) && fLt (ruleF b 0x10) fOne &&
  fPos (ruleF b 0x14) && fLt (ruleF b 0x14) (ruleF b 0x18) && fPos (ruleF b 0x1C) && fLt (ruleF b 0x1C) (ruleF b 0x20) &&
  fFinite (ruleF b 0x20) && decide (fVal (ruleF b 0x20) * (5 * leAt b 4 1 : Nat) < (2 * fs : Nat)) &&
  ([0x24, 0x28, 0x2C].all fun o => fNonneg (ruleF b o) && fLe (ruleF b o) fOne) && fNonneg (ruleF b 0x30) && fNonneg (ruleF b 0x34) &&
  decide (2 * (leAt b 6 1 + leAt b 7 1) ≤ leAt b 0x38 2) && fieldIn b 0x3A 2 1 1000 && decide (1 ≤ leAt b 0x3C 2 ∧ 1 ≤ leAt b 0x3E 2) &&
  onlyIn b [(0, 9), (0xC, 0x8C)] && r.keyOk 0x30 b 0x90 (slice (r.recAt 0x30 (1 + bandWatch b)) 8 8 ++ slice b 1 0x8F)

/-- OSC_WATCH. -/
def Roast.watchesOk (r : Roast) : Bool :=
  let h := r.recAt 0x30 0
  let rs := r.recs 0x30
  let ws := (rs.drop 1).take r.nwatch
  let bs := (rs.drop 1).drop r.nwatch
  let order := (List.range ws.length).flatMap fun w => (List.range (leAt ((ws[w]?).getD []) 1 1)).map fun b => (w, b)
  leAt h 0 1 == 1 && decide (1 ≤ r.nwatch ∧ r.nwatch ≤ 1024 ∧ 1 ≤ r.nband ∧ r.nband ≤ 4096) &&
  decide (1 ≤ r.updateSlots ∧ r.updateSlots ≤ 4096 ∧ r.slowSlots < r.updateSlots) && onlyIn h [(0, 1), (4, 16), (0x18, 8)] &&
  rs.length == 1 + r.nwatch + r.nband && ws.all r.watchOk && bs.all r.bandOk &&
  bs.map (fun b => (bandWatch b, leAt b 1 1)) == order

/-- OSC_FLOW. -/
def Roast.flowsOk (r : Roast) : Bool :=
  let cs := r.corridorRecs
  let ms := r.monitorRecs
  typeRuns [(1, 0, 128), (2, 0, 512)] (typeBytes (r.recs 0x31)) && distinct (cs.map fun b => leAt b 1 1) &&
  (cs.all fun b =>
    fieldIn b 1 1 0 127 && fieldIn b 2 1 1 (min 16 (ms.filter fun m => leAt m 1 1 == leAt b 1 1).length) &&
    decide (1 ≤ leAt b 4 2 ∧ 1 ≤ leAt b 6 2) && onlyIn b [(0, 3), (4, 4), (0x38, 8)] && r.keyOk 0x31 b 0x38 (slice b 1 7)) &&
  ms.all fun b =>
    (leAt b 1 1 == 0xFF || cs.any fun c => leAt c 1 1 == leAt b 1 1) &&
    (r.bandRecs.any fun x => bandWatch x.2 == leAt b 6 2 && leAt x.2 1 1 == leAt b 8 1 &&
      r.keyOk 0x31 b 0x38 (slice x.2 0x90 8 ++ slice b 1 0x13)) && fieldIn b 9 1 10 255 &&
    fPos (ruleF b 0x10) && onlyIn b [(0, 10), (0xC, 8), (0x38, 8)]

/-- OSC_SUBSYNC. -/
def Roast.subSyncOk (r : Roast) : Bool :=
  let h := r.recAt 0x32 0
  typeRuns [(1, 1, 1), (2, 0, 256)] (typeBytes (r.recs 0x32)) && fieldIn h 4 4 1 100000 && onlyIn h [(0, 1), (4, 4), (0x40, 256)] &&
  1200 % max 1 r.rate == 0 && distinct (r.subRecs.map fun b => leAt b 1 1) && r.subRecs.all fun b =>
    let w := leAt b 2 1
    fieldIn b 2 1 1 2 && fieldIn b 6 1 1 64 && decide (5 * w ≤ leAt b 4 2 ∧ leAt b 4 2 + leAt b 6 1 ≤ 55 * w + 1) &&
    fNonneg (ruleF b 8) && decide (1 ≤ leAt b 0xC 2 ∧ 1 ≤ leAt b 0xE 2) && onlyIn b [(0, 3), (4, 3), (8, 8), (0x38, 8)] &&
    r.keyOk 0x32 b 0x38 (slice h 4 0x13C ++ slice b 1 0xF) &&
    r.laneConfigured (leAt b 1 1) &&
    match r.groupRec (leAt b 1 1 / 8) with
    | some g => !gTracking g &&
        decide (largest g (r.laneDelay g) + 63 / (2 * gFout g : Nat) + 1 / 1000 ≤ (r.subLag : Rat) / 1000000)
    | none => false

/-! ### Topology and islands (R351, R352, R354, R362, R371, R372) -/

/-- A device record. -/
def Roast.deviceOk (r : Roast) (b : Bytes) : Bool :=
  let srcOk (kind : Nat) (o : Nat) : Bool :=
    (kind != 2 || fieldIn b o 4 0 32767) && (kind != 3 || fieldIn b o 4 0 65535) && fieldIn b (o + 4) 2 0 1023
  leAt b 0 1 == 3 && fieldIn b 1 1 0 3 && decide (leAt b 2 1 ∈ [0, 2, 3]) && fieldIn b 3 1 0 31 && decide (bitsOf (leAt b 3 1) 2 2 ≤ 2) &&
  decide (devA b < r.nnode ∧ devB b < r.nnode ∧ devA b ≠ devB b) && srcOk (leAt b 1 1) 8 && srcOk (leAt b 2 1) 0x10 &&
  onlyIn b [(0, 0xE), (0x10, 6), (0x18, 8)] && r.keyOk 0x40 b 0x18 (slice b 1 0x15)

/-- A class record. -/
def Roast.classOk (r : Roast) (b : Bytes) : Bool :=
  let kind := leAt b 1 1
  leAt b 0 1 == 4 && fieldIn b 1 1 1 3 && fieldIn b 2 1 (if kind = 2 then 2 else 1) (if kind = 1 then 8 else if kind = 2 then 2 else 1) &&
  fieldIn b 3 1 0 1 && onlyIn b [(0, 4), (4, 3 * leAt b 2 1)] && (List.range (leAt b 2 1)).all fun i =>
    decide (leAt b (4 + 3 * i) 2 < (if kind = 1 then r.nsw else r.nnode)) && fieldIn b (6 + 3 * i) 1 0 (if kind = 1 then 1 else 0)

/-- A node record. -/
def nodeOk (b : Bytes) : Bool :=
  let flags := leAt b 1 1
  leAt b 0 1 == 2 && decide (flags < 32) && (if bitAt flags 1 then fPos (ruleF b 8) else leAt b 4 2 == 0) &&
  (bitAt flags 2 || leAt b 6 2 == 0) && fNonneg (ruleF b 0xC) && onlyIn b [(0, 2), (4, 12)]

/-- TOPO_GRAPH. -/
def Roast.graphOk (r : Roast) : Bool :=
  let h := r.topoHead
  decide (1 ≤ r.nnode ∧ r.nnode ≤ 16384 ∧ r.nsw ≤ 32768 ∧ r.nclass ≤ 32 ∧ r.refNode < r.nnode) &&
  decide (1 ≤ r.islandMin ∧ r.islandMin ≤ 16384) && onlyIn h [(0, 1), (4, 9), (0xE, 6)] &&
  typeRuns [(1, 1, 1), (2, r.nnode, r.nnode), (3, r.nsw, r.nsw), (4, r.nclass, r.nclass)] (typeBytes (r.recs 0x40)) &&
  ((ofType (r.recs 0x40) 2).all nodeOk) && ((ofType (r.recs 0x40) 3).all r.deviceOk) && (ofType (r.recs 0x40) 4).all r.classOk

/-- ISL_AREA. -/
def Roast.areasOk (r : Roast) : Bool :=
  let rs := r.recs 0x41
  typeRuns [(1, 0, 64), (2, 0, 256)] (typeBytes rs) && distinct ((ofType rs 1).map fun b => leAt b 1 1) &&
  ((ofType rs 1).all fun b =>
    fieldIn b 1 1 0 63 && fieldIn b 2 1 1 16 && fieldIn b 3 1 1 (leAt b 2 1) && fieldIn b 4 1 0 3 && decide (leAt b 6 2 < r.nnode) &&
    ((List.range (leAt b 2 1)).all fun i => fPos (ruleF b (0x14 + 8 * i))) &&
    onlyIn b ([(0, 5), (6, 4)] ++ (List.range (leAt b 2 1)).flatMap fun i => [(0x10 + 8 * i, 2), (0x14 + 8 * i, 4)])) &&
  (ofType rs 2).all fun b =>
    (match r.areaRec (leAt b 1 1), r.areaRec (leAt b 2 1) with
    | some x, some y => r.keyOk 0x41 b 0xF8 (slice x 1 0x8F ++ slice y 1 0x8F ++ slice b 1 0xF)
    | _, _ => false) && leAt b 1 1 != leAt b 2 1 && fPos (ruleF b 4) && fPos (ruleF b 8) &&
    decide (1 ≤ leAt b 0xC 2 ∧ 1 ≤ leAt b 0xE 2) && onlyIn b [(0, 3), (4, 12), (0xF8, 8)]

/-! ### Alarms and the Saucer (R374 to R376, R378, R381, R394) -/

/-- A term record. -/
def Roast.alarmTermOk (r : Roast) (b : Bytes) : Bool :=
  let kind := leAt b 0 1
  fieldIn b 0 1 1 14 && fieldIn b 1 1 0 4 && fieldIn b 2 1 0 31 && decide (termInvalidAs b ≤ 2) &&
  decide (leAt b 4 4 ≤ (if kind ≤ 4 then 65535 else if kind = 6 then 8 else 2 ^ 32)) &&
  decide (leAt b 8 4 ≤ (if kind = 3 then 65535 else if kind = 4 then 15 else if kind = 10 then 6 else if kind = 12 then 1 else 2 ^ 32)) &&
  fFinite (ruleF b 0xC) && fNonneg (ruleF b 0x10) && decide (1 ≤ leAt b 0x14 2 ∧ 1 ≤ leAt b 0x16 2) &&
  onlyIn b [(0, 3), (4, 20), (0x38, 8)] && r.keyOk 0x50 b 0x38 (slice b 0 0x18)

/-- What the carry key of a rule takes of input i: the input's CARRY_KEY and its NOT bit, in a byte (log entry 117). -/
def Roast.inputKey (r : Roast) (b : Bytes) (i : Nat) : Bytes :=
  let w := leAt b (4 + 2 * i) 2
  slice (r.recAt (if bitAt w 15 then 0x51 else 0x50) (w % 4096)) 0x38 8 ++ leBytes 1 (bitsOf w 14 1)

/-- A rule record with its index. -/
def Roast.alarmRuleOk (r : Roast) (k : Nat) (b : Bytes) : Bool :=
  fieldIn b 0 1 1 16 && fieldIn b 1 1 1 (leAt b 0 1) && fieldIn b 2 1 1 2 && fieldIn b 3 1 0 1 &&
  onlyIn b [(0, 4), (4, 2 * leAt b 0 1), (0x38, 8)] && r.keyOk 0x51 b 0x38 (slice b 0 4 ++ (List.range (leAt b 0 1)).flatMap (r.inputKey b)) &&
  (List.range (leAt b 0 1)).all fun i =>
    let w := leAt b (4 + 2 * i) 2
    bitsOf w 12 2 == 0 &&
    if bitAt w 15 then decide (w % 4096 < k) && (leAt b 2 1 == 2 || leAt (r.recAt 0x51 (w % 4096)) 2 1 == 1)
    else leAt b 2 1 == 2 || termPass (r.recAt 0x50 (w % 4096)) == 1

/-- An ASCII field padded with zeros. -/
def asciiOk (bs : Bytes) : Bool := bs.all (fun x => decide (x.toNat < 128)) && zeros (bs.dropWhile (· != 0))

/-- A publication record. -/
def Roast.publicationOk (r : Roast) (b : Bytes) : Bool :=
  r.keyOk 0x52 b 0xF8 (keyed226 b) &&
  fieldIn b 1 1 0 15 && fieldIn b 2 1 1 2 && fieldIn b 3 1 0 5 && fieldIn b 4 2 1 1000 && fieldIn b 6 2 (leAt b 4 2) 60000 &&
  fieldIn b 8 2 1 256 && (leAt b 2 1 == 2 || (fieldIn b 0x10 1 0 1 && asciiOk (slice b 0x40 64) && asciiOk (slice b 0x80 64) &&
    asciiOk (slice b 0xC0 56))) &&
  (leAt b 0x11 1 == 4 || (leAt b 0x11 1 == 6 && leAt b 2 1 == 2)) && fieldIn b 0x1E 1 0 63 && fieldIn b 0x1F 1 1 255

/-- A mapping record. -/
def Roast.mappingOk (r : Roast) (b : Bytes) : Bool :=
  let kind := leAt b 1 1
  fieldIn b 1 1 1 5 && decide (mapRule b < (r.recs 0x51).length) &&
  fieldIn b 4 2 0 (if kind ≤ 2 then 15 else if kind = 5 then 63 else 0) && fieldIn b 8 1 0 15 && onlyIn b [(0, 9)] &&
  (kind != 2 || match r.pubRec (mapTarget b) with | some p => decide (leAt b 6 2 < leAt p 8 2) | none => false)

/-- The alarm sections. -/
def Roast.alarmsOk (r : Roast) : Bool :=
  let os := r.recs 0x52
  let maps := ofType os 2
  decide ((r.recs 0x50).length ≤ 2048 ∧ (r.recs 0x51).length ≤ 512) && (r.recs 0x50).all r.alarmTermOk &&
  ((List.range (r.recs 0x51).length).all fun k => r.alarmRuleOk k (r.recAt 0x51 k)) &&
  typeRuns [(1, 0, 16), (2, 0, 4096)] (typeBytes os) && (ofType os 1).all r.publicationOk && distinct ((ofType os 1).map fun b => leAt b 1 1) &&
  maps.all r.mappingOk && distinct ((ofType os 2 |>.filter fun b => leAt b 1 1 == 1).map mapTarget) &&
  distinct ((maps.filter fun b => leAt b 1 1 == 2).map fun b => 65536 * mapTarget b + leAt b 6 2)

/-- SAU_LIMITS. -/
def Roast.limitsOk (r : Roast) : Bool :=
  let rs := r.recs 0x58
  typeCounts [(1, 1, 1), (2, 0, 56), (3, 0, 256)] rs &&
  ((ofType rs 1).all fun b => ((List.range 8).all fun k => fieldIn b (4 + 2 * k) 2 1 50000) && onlyIn b [(0, 1), (4, 16)]) &&
  ((ofType rs 2).all fun b =>
    fieldIn b 1 1 0 6 && fieldIn b 2 1 0 (if leAt b 1 1 = 6 then 6 else 7) && fieldIn b 8 4 (r.maxLen (leAt b 1 1)) 16777216 &&
    onlyIn b [(0, 3), (4, 8)]) &&
  distinct ((ofType rs 2).map fun b => leAt b 1 2) &&
  (ofType rs 3).all fun b =>
    fieldIn b 1 1 0 127 && decide (leAt b 0x11 1 ∈ [0, 4, 6]) && decide (leAt b 0x12 2 ≤ leAt b 0x14 2) &&
    fieldIn b 0x28 1 0 (if leAt b 0x11 1 = 4 then 32 else 128) && onlyIn b [(0, 0x29)]

/-! ### Capture, energy and the cascade (R402 to R404, R410, R411, R424, R437, R521) -/

/-- The worst-case record size of a profile. -/
def Roast.recordSize (r : Roast) (b : Bytes) : Nat :=
  let lanes := (List.range 256).filter (profLane b)
  let samples (l : Nat) : Nat := match r.groupRec (l / 8) with
    | some g => gPerCycle g * (if gTracking g then gFnom g + 5 else gFnom g) * (leAt b 4 2 + leAt b 6 2) / 1000 + 1
    | none => 0
  8192 + 8 * (lanes.map samples).sum + (profReachPre b + profReachPost b + 1) * (8 + 8 * ceilDiv (10 * leAt b 0xC 2) 8)

/-- CAP_CFG. -/
def Roast.captureOk (r : Roast) : Bool :=
  let rs := r.recs 0x70
  let h := r.capHead
  let ps := ofType rs 2
  typeCounts [(1, 1, 1), (2, 0, 16), (3, 0, 73)] rs && decide (r.capSlots ∈ [1, 2, 4, 8, 16, 32, 64]) && fieldIn h 2 1 0 1 &&
  decide (r.armMaster ≤ 7 ∨ r.armMaster = 0xFF) && fieldIn h 4 1 0 15 && fieldIn h 5 1 0 15 && onlyIn h [(0, 6)] &&
  distinct (ps.map fun b => leAt b 1 1) &&
  (ps.all fun b =>
    fieldIn b 1 1 0 15 && fieldIn b 2 1 0 1 && fieldIn b 4 2 0 4000 && fieldIn b 6 2 0 4000 && fieldIn b 8 2 0 13200 &&
    fieldIn b 0xA 2 0 1200 && fieldIn b 0xC 2 0 1024 && ((List.range 256).all fun l => !profLane b l || r.laneConfigured l) &&
    onlyIn b [(0, 3), (4, 10), (0x20, 32), (0x800, 2 * leAt b 0xC 2)] && decide (r.recordSize b * r.capSlots ≤ 1792 * 1048576)) &&
  distinct ((ofType rs 3).map fun b => leAt b 1 1) &&
  (ofType rs 3).all fun b => fieldIn b 1 1 0 72 && (r.capProfile (leAt b 2 1)).isSome && fieldIn b 3 1 0 15 && onlyIn b [(0, 4)]

/-- The interval lengths of R424. -/
def intervals : List Nat := [1, 2, 3, 4, 5, 6, 10, 12, 15, 20, 30, 60]

/-- The breakpoints of a current member: x_0 is 0, they rise strictly, and x_16 is at most 200. -/
def breakpointsOk (b : Bytes) (i : Nat) : Bool :=
  let x (k : Nat) : F32 := ruleF b (0x60 + 204 * i + 12 * k)
  fIsZero (x 0) && ((List.range 16).all fun k => fLt (x k) (x (k + 1))) && fLe (x 16) (fOfInt 200)

/-- NRG_ELEMENT. -/
def Roast.energyOk (r : Roast) : Bool :=
  let rs := r.recs 0x68
  let h := r.nrgHead
  typeRuns [(1, 1, 1), (2, 1, 4)] (typeBytes rs) && decide (leAt h 1 1 ∈ intervals) && decide (leAt h 2 1 ∈ intervals) &&
  fieldIn h 3 1 1 15 && fieldIn h 4 2 10 3600 && onlyIn h [(0, 6)] && distinct ((ofType rs 2).map fun b => leAt b 1 1) &&
  (ofType rs 2).all fun b =>
    fieldIn b 1 1 0 3 && ([0xC, 0x10, 0x14, 0x1C, 0x20, 0x24].all fun o => fPos (ruleF b o)) && fLe (ruleF b 0x10) (ruleF b 0x14) &&
    fieldIn b 0x18 4 0 60000 && fieldIn b 0x28 2 1 255 && ((List.range 3).all (breakpointsOk b)) &&
    onlyIn b [(0, 3), (4, 6), (0xC, 30), (0x30, 24), (0x60, 612), (0x3F8, 8)] && r.keyOk 0x68 b 0x3F8 (slice b 1 0x3F7) &&
    match r.groupRec (leAt b 2 1) with
    | some g => gTracking g && (List.range 6).all fun i => decide (leAt b (4 + i) 1 < leAt g 2 1)
    | none => false

/-- CAS_SHARE on the device whose cascade ID is `own`. -/
def Roast.cascadeOk (r : Roast) (own : Nat) : Bool :=
  let rs := r.recs 0x60
  let h := ((ofType rs 1)[0]?).getD []
  typeCounts [(1, 1, 1), (2, 0, 64), (3, 0, 448), (4, 0, 8)] rs && decide (leAt h 1 1 ≤ 7 ∨ leAt h 1 1 = 0xFF) && !bitAt (leAt h 2 1) own &&
  fieldIn h 3 1 0 1 && fieldIn h 4 2 1 8 && fieldIn h 6 2 2 255 && fieldIn h 8 4 1 1000000 && onlyIn h [(0, 12)] &&
  distinct ((ofType rs 2).map fun b => leAt b 1 1) && distinct ((ofType rs 3).map fun b => leAt b 1 2) &&
  ((ofType rs 2).all fun b =>
    fieldIn b 1 1 0 63 && fieldIn b 3 1 0 2 && fieldIn b 4 2 1 2040 && onlyIn b [(0, 6), (0x10, 2 * leAt b 4 2)]) &&
  ((ofType rs 3).all fun b =>
    fieldIn b 1 1 0 7 && leAt b 1 1 != own && fieldIn b 2 1 0 63 && takesShares (r.recAt 0x10 (leAt b 4 2)) && fieldIn b 6 2 1 2040 &&
    onlyIn b [(0, 3), (4, 4), (0x10, 2 * leAt b 6 2)]) &&
  (ofType rs 4).all fun b =>
    bitAt (leAt h 2 1) (leAt b 1 1) && fieldIn b 4 2 1 2040 && onlyIn b [(0, 6), (0x10, 2 * leAt b 4 2)] &&
    (List.range (leAt b 4 2)).all fun i => fieldIn b (0x10 + 2 * i) 2 0 8191

/-- Every section present obeys its chapter's rules, on the device whose cascade ID is `own`. -/
def Roast.sectionsOk (r : Roast) (own : Nat) : Bool :=
  r.recSizesOk && r.timeOk && (!r.has 0x10 || (r.ingestOk && r.waitOk && r.substOk && r.requiredOk)) && (!r.has 0x15 || r.outputsOk) &&
  (!r.has 0x19 || r.filterOk) && (!r.has 0x20 || r.estimatorOk) && (!r.has 0x30 || r.watchesOk) && (!r.has 0x31 || r.flowsOk) &&
  (!r.has 0x32 || r.subSyncOk) && (!r.has 0x40 || r.graphOk) && (!r.has 0x41 || r.areasOk) && (!r.has 0x50 || r.alarmsOk) &&
  (!r.has 0x58 || r.limitsOk) && (!r.has 0x70 || r.captureOk) && (!r.has 0x68 || r.energyOk) && (!r.has 0x60 || r.cascadeOk own)

/-! ### Budgets (R129, R131, R317, R529) -/

/-- SHED_RANK: 1 for engine 0, 2 for engine 3 (or 0 when it has no SLOW band), 0 for every other (R529). -/
def Roast.budgetRankOk (r : Roast) (e rank : Nat) : Bool :=
  if e = 0 then rank == 1
  else if e = 3 then rank == 2 || (rank == 0 && !(r.bandRecs.any fun x => bandSlow x.2))
  else rank == 0

/-- The Carafe reads of a slice that R30 allows the LSE: 389 MB for each of its two solves. -/
def lseCarafe : Nat := 2 * 389000000

/-- The budget checks of one engine. The time an engine has is WINDOW_US less its start; a window that ends before its start leaves less
than none. The LSE has at most 8 fallback slots and the reads of R30 (R131, R317; log entry 118). -/
def Roast.budgetOk1 (r : Roast) (e : Nat) : Bool :=
  let b := r.recAt 0x01 e
  let t := budWindow b - engineStart e
  r.budgetRankOk e (budRank b) &&
  if r.configured e then
    decide (engineStart e ≤ budWindow b) && decide (budHandshakes b ≤ 900 * t) && decide (leAt b 0x10 8 ≤ engineRate e * t) &&
    decide (budWindow b ≤ engineBound e) && decide (1 ≤ budFallback b) &&
    (e != 4 || (decide (budFallback b ≤ 8) && decide (leAt b 0x10 8 ≤ lseCarafe)))
  else budHandshakes b == 0

/-- The budget checks (detail code 11). DESIGN CHOICE (log entry 119): a BUDGET section with another number or order of records, a
WINDOW_US above the bound of R26, no FALLBACK_SLOTS for a configured engine and handshakes of an unconfigured one fail here too; R129
names no code for them. -/
def Roast.budgetsOk (r : Roast) : Bool :=
  (r.recs 0x01).length == 9 && (List.range 9).all fun e => leAt (r.recAt 0x01 e) 0 1 == e && r.budgetOk1 e

/-! ### Verification (R134) -/

/-- Whether all tiles of an image are at hand; those of a HOST_TILES image come at step 8 (R120). -/
def Image.complete (im : Image) : Bool := decide (im.tileCount ≤ im.tiles.length)

/-- Check 9 on the sections: what their chapters and R137 refuse, and padding that is not 0 (R125; log entry 120). -/
def Image.rulesOk (im : Image) (own : Nat) : Bool := im.loaded.sectionsOk own && im.padded

/-- The checks 1 to 10 of R134 in order: the detail code of the first that fails. A host buffer that ends before its signature block is
shorter than the image requires (code 15). -/
def State.verifyImage (s : State) (host : Bool) (im : Image) : Option Nat :=
  if !im.check1 then some 1
  else if leAt im.head 8 2 ≠ 3 then some 2
  else if !im.check3 (s.get Reg.HIF_ID.STEPPING) then some 3
  else if host && decide (im.head.length < im.sigOffset + 256) then some 15
  else if !s.keyAuthorised im.sigBlock then some 4
  else if !im.signed then some 5
  else if leAt im.head 0x20 4 < s.get Reg.CFG_ROAST_FLOOR.SVN then some 6
  else if !im.check7 then some 7
  else if !im.check8 then some 8
  else if !im.check9 || (im.complete && !im.rulesOk (s.get Reg.CAS_STATUS.ID)) then some 9
  else if im.hostTiles == im.fitsFlash then some 10
  else none

end Sys2Proof.Machine
end

