-- ==== Sys2Proof/Machine/Swap.lean ====
section
/-! DEFINITION. Applying a committed transaction (R111 to R113), loading and discarding a shadow roast (R134, R138, R143, R144), live
swaps (R145 to R150), and the scrubber's repairs (R142). -/

namespace Sys2Proof.Machine

/-- All ones in a 64-bit field. -/
def ones64 : Nat := 2 ^ 64 - 1

/-! ### The commit (R111 to R113) -/

/-- Every staged value takes effect and the transaction ends APPLIED; a scan in progress is discarded (R117). -/
def State.txnApply (s : State) : State :=
  let ref := (alookup Reg.CFG_CRC_COMMIT.REF.base s.cfg.staged).isSome
  let s1 := s.cfg.staged.foldl (fun s e => s.applyStaged e.1 e.2) s
  let s2 := if ref then s1.setFlag Reg.CFG_CRC_STATUS.REF_VALID true else s1
  (s2.absentBits.dropScan).txnEnd 1

/-! ### Swap requests (R145, R150) -/

/-- A swap request ends (R145, R150). -/
def State.swapEnd (s : State) (result : Nat) : State :=
  ((s.set Reg.CFG_SWAP_RESULT.STATE 0).set Reg.CFG_SWAP_RESULT.RESULT result).setFlag Reg.CFG_SWAP_RESULT.DONE true

/-- Slices that hold a written channel. -/
def State.writtenSlices (s : State) : List Nat := (s.aln.slices.filter fun e => !e.2.slots.isEmpty).map (·.1)

/-- An open slice at or above D holds a written channel. -/
def State.openFrom (s : State) (d : Nat) : Bool :=
  s.aln.slices.any fun e => decide (d ≤ e.1) && decide (e.2.state ≤ 3) && !e.2.slots.isEmpty

/-- LANE_EN of a roast (R122). -/
def Roast.laneWord (r : Roast) : Nat := leAt r.header 0x2C 4

/-- SHED_US that a roast's REGINIT gives PACE_THR, in ns; 0 where it does not cover the field. -/
def Roast.shedNs (r : Roast) : Int :=
  let f := Reg.PACE_THR.SHED_US
  match ((r.recs 0x02).map regInitOf).find? fun x => x.offset == f.base && within (f.wordMask 0) x.load with
  | some x => 1000 * bitsOf x.value f.lsb f.width
  | none => 0

/-- The margin condition: the latest certified slice's margin with the shadow's BUDGET counts. DESIGN CHOICE (log entry 121): the windows
are the shadow's too, for R145 does not say whose WINDOW_US the recomputed margin takes. -/
def State.swapMargin (s : State) : Bool :=
  let r := s.otherRoast
  match s.pace.lastCert with
  | none => false
  | some xs =>
    match sliceMargin (xs.map fun x => x.margin (budWindow (r.recAt 0x01 x.e)) (s.expected r s.shedRanks x.e)) with
    | some m => decide (r.shedNs ≤ m)
    | none => false

/-- A request judged: accepted, or ended with the result of the first condition that fails. DESIGN CHOICE (log entry 122): the D that
AUTO chose stands in CFG_SWAP_SLICE only where the request is accepted; R145 does not say it for a refused one. -/
def State.swapJudge (s : State) : State :=
  let now := sliceOf s.fs s.roasts.swapAsked
  let d := if s.flag Reg.CFG_SWAP_CTL.AUTO then s.writtenSlices.foldl (fun m n => max m (n + 2)) (now + 2) else s.get Reg.CFG_SWAP_SLICE.SLICE
  if s.get Reg.CFG_ROAST_STATUS.SHADOW ≠ 2 then s.swapEnd 3
  else if s.otherRoast.rate ≠ s.fs ∨ s.otherRoast.laneWord ≠ s.roast.laneWord then s.swapEnd 4
  else if d ≤ now ∨ now + 16777216 < d ∨ s.openFrom d then s.swapEnd 2
  else if !s.swapMargin then s.swapEnd 5
  else
    let s1 := { s with roasts := { s.roasts with swapD := d }, ing := { s.ing with shadowSusp := [] } }
    ((s1.set Reg.CFG_SWAP_SLICE.SLICE d).set Reg.CFG_SWAP_RESULT.STATE 2).set Reg.CFG_SWAP_RESULT.RESULT 0

/-- A held request is judged once no transaction is committing (R113). -/
def State.swapUnhold (s : State) : State :=
  if s.get Reg.CFG_SWAP_RESULT.STATE = 1 ∧ s.get Reg.CFG_TXN_STATUS.STATE ≠ 2 then (s.set Reg.CFG_SWAP_RESULT.STATE 0).swapJudge else s

/-- REQUEST. -/
def State.swapRequest (s : State) : State :=
  if s.get Reg.CFG_SWAP_RESULT.STATE = 2 ∧ s.get Reg.CFG_ROAST_STATUS.SHADOW ≠ 2 then
    (s.set Reg.CFG_SWAP_RESULT.RESULT 3).setFlag Reg.CFG_SWAP_RESULT.DONE true
  else if s.get Reg.CFG_SWAP_RESULT.STATE ≠ 0 then (s.set Reg.CFG_SWAP_RESULT.RESULT 6).setFlag Reg.CFG_SWAP_RESULT.DONE true
  else
    let s1 := { s with roasts := { s.roasts with swapAsked := s.time.tai } }
    if s.get Reg.CFG_TXN_STATUS.STATE = 2 then (s1.set Reg.CFG_SWAP_RESULT.STATE 1).set Reg.CFG_SWAP_RESULT.RESULT 0
    else s1.swapJudge

/-- SWAP_REQUEST: guarded; D and AUTO stand in the registers that the command writes. -/
def execSwapRequest (who : Requester) (d : Nat) (auto : Bool) (s : State) : Out :=
  .next (s.guarded who Reg.CFG_SWAP_CTL.REQUEST.base fun s =>
    ((s.set Reg.CFG_SWAP_SLICE.SLICE d).setFlag Reg.CFG_SWAP_CTL.AUTO auto).swapRequest)

/-- CANCEL (R150). -/
def State.swapCancel (s : State) : State :=
  match s.get Reg.CFG_SWAP_RESULT.STATE with
  | 1 => s.swapEnd 7
  | 2 => if s.openFrom s.roasts.swapD then s else s.swapEnd 7
  | _ => s

/-- SWAP_CANCEL: guarded. -/
def execSwapCancel (who : Requester) (s : State) : Out := .next (s.guarded who Reg.CFG_SWAP_CTL.CANCEL.base State.swapCancel)

/-! ### TXN_COMMIT -/

/-- TXN_COMMIT (R111): guarded. A commit in the cycle of the timeout ends in rollback (R110); an accepted one freezes ELAPSED. -/
def execTxnCommit (who : Requester) (t : Tai) (s : State) : Out :=
  .next ((s.moveTo t).guarded who Reg.CFG_TXN_COMMIT.GO.base fun s =>
    if !s.mayStage who then s.hifErr who Reg.HIF_ERR.NO_TXN Reg.CFG_TXN_COMMIT.GO.base
    else if s.cfg.beginAt + 1000 * msUnit ≤ s.time.elapsed then s.txnTick.txnEnd 3
    else if s.flag Reg.CFG_TXN_STATUS.OVERFLOW then s.txnEnd 7
    else if s.swapPending then s.set Reg.CFG_TXN_STATUS.RESULT 6
    else if s.blockRuns .aligner then
      let s1 := { s.txnTick with cfg := { s.cfg with commitAt := s.time.tai } }
      (s1.set Reg.CFG_TXN_STATUS.STATE 2).set Reg.CFG_TXN_APPLY_SLICE.SLICE s.nextClose
    else s.txnTick.txnApply.set Reg.CFG_TXN_APPLY_SLICE.SLICE ones64)

/-- A committing transaction at the close of slice n (R112). -/
def State.txnClose (s : State) (n : Nat) (closeAt : Tai) : State :=
  if s.get Reg.CFG_TXN_STATUS.STATE ≠ 2 then s
  else if s.cfg.commitAt + 20 * usUnit ≤ closeAt then (s.txnApply.set Reg.CFG_TXN_APPLY_SLICE.SLICE n)
  else s.set Reg.CFG_TXN_APPLY_SLICE.SLICE (n + 1)

/-- The aligner stopped before slice m closed (R112). -/
def State.txnStopped (s : State) : State :=
  if s.get Reg.CFG_TXN_STATUS.STATE ≠ 2 then s
  else (s.txnApply.set Reg.CFG_TXN_APPLY_SLICE.SLICE ones64).swapUnhold

/-! ### Loading (R134, R138, R143, R144) -/

/-- The checks of a load in the order of R134: the detail code of the first that fails. `host` says whether the source is a host buffer;
`api` is the API number check 17 compares with, where it runs. -/
def State.loadFails (s : State) (host : Bool) (d : LoadReport) (api : Option Nat) : Option Nat :=
  if d.flashErr then some 16
  else if d.dmaErr then some 15
  else match s.verifyImage host d.image with
    | some c => some c
    | none =>
      let r := d.image.loaded
      if !d.image.complete then some 15
      else if !r.budgetsOk then some 11
      else if !d.image.digestsOk then some 12
      else if !regInitSectionOk (r.recs 0x02) then some 13
      else if !d.image.tilesGood then some 14
      else match api with
        | some a => if leAt r.header 0x24 2 ≤ a ∧ a ≤ leAt r.header 0x26 2 then none else some 17
        | none => none

/-- SERIAL of a roast. -/
def Roast.serial (r : Roast) : Nat := leAt r.header 0x18 8
/-- SVN of a roast. -/
def Roast.svn (r : Roast) : Nat := leAt r.header 0x20 4

/-- CFG_ROAST_ACTIVE follows the active roast. -/
def State.showActive (s : State) : State :=
  ((s.set Reg.CFG_ROAST_ACTIVE.SERIAL s.roast.serial).set Reg.CFG_ROAST_ACTIVE.SVN s.roast.svn).set Reg.CFG_ROAST_ACTIVE.TAG s.roast.tag

/-- CFG_ROAST_SHADOW follows the roast in the other region. -/
def State.showShadow (s : State) : State :=
  ((s.set Reg.CFG_ROAST_SHADOW.SERIAL s.otherRoast.serial).set Reg.CFG_ROAST_SHADOW.SVN s.otherRoast.svn).set
    Reg.CFG_ROAST_SHADOW.TAG s.otherRoast.tag

/-- A region emptied, with what was known of its tiles. -/
def State.emptyRegion (s : State) (r : Nat) : State :=
  let s1 := s.setRegion r none
  { s1 with roasts := { s1.roasts with
      bad := s1.roasts.bad.filter fun c => c.region != r
      repairQueue := s1.roasts.repairQueue.filter fun e => e.1 != r } }.repairHead

/-- LOAD. -/
def State.roastLoad (s : State) (src : Nat) : State :=
  let sh := s.get Reg.CFG_ROAST_STATUS.SHADOW
  let s1 := s.set Reg.CFG_ROAST_CTL.SRC src
  if sh = 1 ∨ sh = 4 ∨ s.swapPending ∨ src % 4 = 3 then s1.setFlag Reg.CFG_ROAST_STATUS.CTL_REFUSED true
  else
    let s2 := s1.emptyRegion (1 - s.activeRegion)
    { s2 with roasts := { s2.roasts with shadowSrc := src % 4 } }.set Reg.CFG_ROAST_STATUS.SHADOW 1

/-- ROAST_LOAD: guarded. -/
def execRoastLoad (who : Requester) (src : Nat) (s : State) : Out :=
  .next (s.guarded who Reg.CFG_ROAST_CTL.LOAD.base fun s => s.roastLoad src)

/-- SHADOW_LOAD_DONE (R143). -/
def execShadowLoadDone (d : LoadReport) (s : State) : Out :=
  .next (
    if s.get Reg.CFG_ROAST_STATUS.SHADOW ≠ 1 then s
    else match s.loadFails (s.roasts.shadowSrc == 2) d (some (s.get Reg.CFG_FW_API.API)) with
      | some c => ((s.set Reg.CFG_ROAST_STATUS.SHADOW 3).set Reg.CFG_ROAST_STATUS.ERROR c).vector 1
      | none => (((s.setRegion (1 - s.activeRegion) (some d.image.loaded)).set Reg.CFG_ROAST_STATUS.SHADOW 2).showShadow).vector 1)

/-- DISCARD (R144). -/
def State.roastDiscard (s : State) : State :=
  if s.swapPending then s
  else match s.get Reg.CFG_ROAST_STATUS.SHADOW with
    | 1 => ((s.set Reg.CFG_ROAST_STATUS.SHADOW 3).set Reg.CFG_ROAST_STATUS.ERROR 0).vector 1
    | 2 => (s.emptyRegion (1 - s.activeRegion)).set Reg.CFG_ROAST_STATUS.SHADOW 0
    | 3 => (s.emptyRegion (1 - s.activeRegion)).set Reg.CFG_ROAST_STATUS.SHADOW 0
    | 4 => s.setFlag Reg.CFG_ROAST_STATUS.CTL_REFUSED true
    | _ => s

/-- ROAST_DISCARD: guarded. -/
def execRoastDiscard (who : Requester) (s : State) : Out :=
  .next (s.guarded who Reg.CFG_ROAST_CTL.DISCARD.base State.roastDiscard)

/-- RAISE_FLOOR (R136). -/
def State.raiseFloor (s : State) : State :=
  let f := max (max (s.get Reg.CFG_ROAST_FLOOR.SVN) s.nvs.roastFloor) s.roast.svn
  { s with nvs := { s.nvs with roastFloor := f } }.set Reg.CFG_ROAST_FLOOR.SVN f

/-- RAISE_FLOOR: guarded. -/
def execRaiseFloor (who : Requester) (s : State) : Out :=
  .next (s.guarded who Reg.CFG_ROAST_CTL.RAISE_FLOOR.base State.raiseFloor)

/-! ### The swap (R147 to R149) -/

/-- What the engine of a stage takes over from the old roast's records (R148). -/
def State.carryStage (s : State) (k : Nat) : State :=
  let old := s.otherRoast
  let new := s.roast
  match k with
  | 0 =>
    let nr := new.recs 0x14
    let m := (List.range nr.length).filterMap fun i =>
      let b := (nr[i]?).getD []
      (carriedFrom (old.recs 0x14) (fun b => slice b 0x18 8) b).bind fun j =>
        (alookup (leAt (old.recAt 0x14 j) 0 4) s.aln.measured).map fun v => (leAt b 0 4, v)
    { s with aln := { s.aln with measured := m } }
  | 2 => s.carryTopo old new
  | 3 => s.carryPairs old new
  | 4 => (s.carryOsc old new).showOsc
  | 5 => s.carryLse old new
  | _ => s

/-- A stage's engine takes over, where it has not yet. -/
def State.carryNow (s : State) (k : Nat) : State :=
  if k ∈ s.roasts.carry then { s with roasts := { s.roasts with carry := s.roasts.carry.filter (· != k) } }.carryStage k else s

/-- The keys of IEC 61850-90-5 streams after a swap: a carried stream's under its new number; those of a stream that is not carried under
8,192 plus its old one, for frames below D (log entry 72). -/
def carryKeys (old new : Roast) (keys : List (Nat × SpduKeys)) : List (Nat × SpduKeys) :=
  let src (i : Nat) : Option Nat := carriedFrom (old.recs 0x10) recKey (new.recAt 0x10 i)
  keys.flatMap fun (e : Nat × SpduKeys) =>
    match (List.range new.streamCount).filter fun i => recKind (new.recAt 0x10 i) == 3 && src i == some e.1 with
    | [] => if e.1 < 8192 then [(8192 + e.1, e.2)] else []
    | is => is.map fun i => (i, e.2)

/-- Registers that follow the roast after it loads or swaps in. -/
def State.showRoast (s : State) : State :=
  ((((((s.showActive.showFlt).showAlm).showGm (bitAt (leAt s.roast.timeGlobal 0x1D 1) 0)).showSlots).showOsc).showRounds)

/-- The end of the revision windows of the slices below D. -/
def State.windowsEnd (s : State) (d : Nat) : Tai :=
  (s.aln.slices.filter fun e => decide (e.1 < d) && decide (2 ≤ e.2.state) && decide (e.2.state ≤ 4)).foldl
    (fun m e => max m (e.2.closeAt + e.2.window)) 0

/-- STAGED follows the staging places in use (R241). -/
def State.showStaged (s : State) : State := s.set Reg.ING_TPL_STATUS.STAGED s.ing.staged.length

/-- The swap at the close of slice n (R147): every effect in that cycle. Engines whose stages still work on slices below D take their
state over when they reach D. -/
def State.swapIn (s : State) (n : Nat) : State :=
  let old := s.roast
  let new := s.otherRoast
  let min0 := s.get Reg.NRG_CFG.INTERVAL_MIN
  let oldEn := s.words256 Reg.ING_EN.EN
  let oldSusp := s.words256 Reg.ING_SUSP.SUSP
  let busy (k : Nat) : Bool := s.runs.any fun r => !r.has k
  let s1 := s.swapRegs
  let s2 := { s1 with
    ing := { s1.ing with
      oldEn := oldEn, oldSusp := oldSusp, oldTpl := s.ing.liveTpl, oldRec := s.ing.liveRec
      oldResume := s.ing.resume, resume := [], staged := [], keys := carryKeys old new s.ing.keys }
    roasts := { s1.roasts with
      activeSlot := s.roasts.shadowSrc, shadowSrc := if s.flag Reg.CFG_ROAST_STATUS.ACTIVE_SRC then 2 else s.roasts.activeSlot
      sramBad := s1.sramLoad s1.activeRegion, retireD := n, retireEnd := s.windowsEnd n
      carry := [0, 2, 3, 4, 5] }
    pace := { s1.pace with lastCert := none } }
  let s3 := (((s2.set Reg.CFG_ROAST_STATUS.SHADOW 4).setFlag Reg.CFG_ROAST_STATUS.ACTIVE_SRC (s.roasts.shadowSrc == 2)).set
    Reg.CFG_SWAP_DONE_SLICE.SLICE n).swapEnd 1
  let s4 := (((((s3.cutBuckets new).capFlag 4).carryFlt old new).carryNrg old new min0).carryRefs old new s.timeErr).showRoast
  let s5 := ([0, 2, 3, 4, 5].filter fun k => !busy k).foldl State.carryNow s4
  (((s5.showShadow).showStaged).tileHealth.adopt).vector 1

/-- RETIRING_END (R149). -/
def execRetiringEnd (t : Tai) (s : State) : Out :=
  .next (
    let s := s.moveTo t
    if s.get Reg.CFG_ROAST_STATUS.SHADOW ≠ 4 ∨ (s.runs.any fun r => decide (r.n < s.roasts.retireD)) ∨ s.time.tai < s.roasts.retireEnd then s
    else
      let s1 := (s.roasts.carry.foldl State.carryNow s).emptyRegion (1 - s.activeRegion)
      ({ s1 with ing := { s1.ing with
        oldEn := [], oldSusp := [], oldTpl := [], oldRec := [], oldResume := [], keys := s1.ing.keys.filter fun e => decide (e.1 < 8192) } }.set Reg.CFG_ROAST_STATUS.SHADOW 0).showShadow.tileHealth)

/-! ### Scrubbing and repair (R142) -/

/-- Tile copies that the scrubber reads in a pass. -/
def State.scrubTotal (s : State) : Nat :=
  let tiles (r : Option Roast) : Nat := ((r.getD {}).secs.map (·.tileCount)).sum
  2 * (tiles s.roasts.region0 + tiles s.roasts.region1)

/-- A scrubber read counts toward a pass over both regions. -/
def State.scrubbed (s : State) : State :=
  if s.scrubTotal ≤ s.roasts.scrubReads + 1 then
    { s with roasts := { s.roasts with scrubReads := 0 } }.count Reg.CFG_TILE_FAULT.PASSES
  else { s with roasts := { s.roasts with scrubReads := s.roasts.scrubReads + 1 } }

/-- SCRUB_TILE_READ: what the check of a copy found; a bad copy with a good twin is rewritten, a tile with none waits for repair. -/
def execScrubTileRead (region copy tile : Nat) (good : Bool) (s : State) : Out :=
  .next (
    let region := region % 2
    let copy := copy % 2
    let x := ((s.region region).getD {}).sectionOf tile
    match x with
    | none => s
    | some i =>
      let s1 := s.scrubbed
      (if good then s1.markCopy region copy tile false
      else if !s1.copyBad region (1 - copy) tile then (s1.markCopy region copy tile false).count Reg.CFG_TILE_FAULT.REPAIRED
      else (s1.markCopy region copy tile true).queueRepair region i).tileHealth)

/-- A section's bad tiles rewritten in both copies from tiles whose digest matches; answers none where it does not match. -/
def State.repairFrom (s : State) (region sect : Nat) (tiles : List Bytes) : Option State :=
  match (((s.region region).getD {}).secs)[sect]? with
  | none => none
  | some x =>
    if Config.sha512 tiles.flatten ≠ x.digest then none
    else
      let bad := x.tiles.filter fun t => s.copyBad region 0 t || s.copyBad region 1 t
      let s1 := bad.foldl (fun s t => ((s.markCopy region 0 t false).markCopy region 1 t false).count Reg.CFG_TILE_FAULT.REPAIRED 2) s
      let s2 := { s1 with roasts := { s1.roasts with
        repairQueue := s1.roasts.repairQueue.filter (· != (region, sect))
        sramBad := if region = s.activeRegion then s1.roasts.sramBad.filter fun t => !x.tiles.contains t else s1.roasts.sramBad } }
      some (s2.repairHead.tileHealth)

/-- FLASH_SECTION_REREAD: the section at the head of the queue, where its roast came from flash; the report holds its tiles. -/
def execFlashSectionReread (d : LoadReport) (s : State) : Out :=
  .next (
    match s.roasts.repairQueue with
    | [] => s
    | (region, sect) :: _ =>
      if s.regionHost region || d.flashErr then s else (s.repairFrom region sect d.image.tiles).getD s)

/-- REPAIR_REQ_REMINDER. -/
def execRepairReqReminder (s : State) : Out := .next (if s.flag Reg.CFG_ROAST_STATUS.REPAIR_REQ then s.vector 1 else s)

/-- REPAIR_GO: guarded. -/
def execRepairGo (who : Requester) (s : State) : Out :=
  .next (s.guarded who Reg.CFG_REPAIR_GO.GO.base fun s =>
    if s.flag Reg.CFG_ROAST_STATUS.REPAIR_REQ then { s with roasts := { s.roasts with repairBusy := true } } else s)

/-- REPAIR_DELIVERY_DONE: REPAIR_REQ stays 1 where the digest did not match. -/
def execRepairDeliveryDone (d : LoadReport) (s : State) : Out :=
  .next (
    if !s.roasts.repairBusy then s
    else
      let s1 := { s with roasts := { s.roasts with repairBusy := false } }
      match s1.roasts.repairQueue with
      | [] => s1
      | (region, sect) :: _ => if d.dmaErr then s1 else (s1.repairFrom region sect d.image.tiles).getD s1)

end Sys2Proof.Machine
end

