-- ==== Sys2Proof/Machine/Close.lean ====
section
/-! DEFINITION. Closing slices (R264, R270 to R277, R287, R290, R291, R531): what the close of a slice does in its time-base cycle,
closes in index order with the hold of a full queue, the aligner's start and shutdown, and the treatment of a time step. -/

namespace Sys2Proof.Machine

/-- SYSTEM sources as they stand (R377), bit by source. -/
def State.sysWord (s : State) : Nat :=
  b2n (s.flag Reg.CFG_CRC_STATUS.MISMATCH) + 2 * b2n s.nvs.logFull + 4 * b2n (!s.flag Reg.TSU_STATUS.TIME_VALID) +
  8 * b2n (s.flag Reg.TSU_STATUS.HOLDOVER) + 16 * b2n (s.flag Reg.TSU_QUALITY.SYNC_ERR) +
  32 * b2n (s.pace.judged && !s.flag Reg.PACE_STATUS.CERTIFIED) + 64 * b2n (!s.bit Reg.BOOT_HEALTH.COND 4) +
  128 * b2n s.sau.refused + 256 * b2n (!s.bit Reg.BOOT_HEALTH.COND 7)

/-- TIME_QUALITY of a header (R290). -/
def State.timeWord (s : State) : Nat :=
  s.get Reg.TSU_QUALITY.TQ + 16 * s.get Reg.TSU_QUALITY.STAT_TQ + 256 * s.get Reg.TSU_QUALITY.UNLOCKED +
  1024 * s.get Reg.TSU_QUALITY.SYNC_ERR + 2048 * s.get Reg.TSU_STATUS.HOLDOVER

/-- Status codes of the streams at a close (R291); `v` is the view of the slice. -/
def State.statusAt (v : State) (x : Slice) : List (Nat × Nat) :=
  (List.range v.roast.streamCount).filterMap fun i =>
    if !v.streamOn i then none
    else some (i, if !v.streamDue i x.n then 1 else if x.streams.contains i then 2 else if v.streamSusp i then 5 else 3)

/-- What a header says of the writes at or before C_n (R273, R290): counted again once the crossing latency has passed. -/
def State.facts (s : State) (x : Slice) : Slice :=
  let t : Int := (x.lastStamp : Int) - sliceTime s.fs x.n
  { x with
    reqPresent := (x.req.filter x.streams.contains).length, streamsPresent := x.streams.length
    slotsPresent := (x.slots.filter fun e => qPresent e.2.q).length
    lastArrival := if x.streams.isEmpty then 0 else Int.tdiv t usUnit
    status := x.status.map fun e => if (e.2 = 3 ∨ e.2 = 5) ∧ x.streams.contains e.1 then (e.1, 2) else e }

/-- N_next moves past an index and those above it that have closed before (R264). -/
def State.advance (s : State) : Nat → Nat → State
  | 0, n => s.set Reg.ALN_NEXT_CLOSE.SLICE n
  | k + 1, n => match s.slice? n with
    | some x => if x.state = 1 then s.set Reg.ALN_NEXT_CLOSE.SLICE n else State.advance s k (n + 1)
    | none =>
      match s.aln.gap with
      | some (a, b) => if a ≤ n ∧ n < b then State.advance s k b else s.set Reg.ALN_NEXT_CLOSE.SLICE n
      | none => s.set Reg.ALN_NEXT_CLOSE.SLICE n

/-- The counter of a close reason. -/
def closeCounter : Nat → Fld
  | 1 => Reg.ALN.CLOSE_PRESENT
  | 2 => Reg.ALN.CLOSE_DEADLINE
  | _ => Reg.ALN.CLOSE_OTHER

/-- The header of a slice that closes: its view as it stood, reason, LAST_REQ_STREAM, C_n, HELD. -/
def State.closing (s : State) (x : Slice) (reason last : Nat) (closeAt : Tai) (held : Bool) : Slice :=
  let v := s.view (s.genOf x.n)
  let req := v.required x.n
  let b := v.strictest x.n
  s.facts { x with
    state := 2, closeAt := closeAt, reason := reason, req := req, reqSet := req.length, cls := b.2, bUs := b.1, lastReq := last
    flags := x.flags + b2n (held && !bitAt x.flags 0) + 2 * b2n (s.aln.step.isSome && !bitAt x.flags 1) +
      16 * b2n (!s.flag Reg.TSU_STATUS.TIME_VALID)
    step := (s.aln.step).getD x.step, quality := s.timeWord, tsuErr := s.get Reg.TSU_ERR_NS.ERR, status := v.statusAt x }

/-- The schedule takes the closed slice; stages of engines that are not configured have left it (R126). -/
def State.enterSchedule (s : State) (x : Slice) (sys : Nat) (heldBack : Bool) : State :=
  let run : Run := {
    n := x.n, closeAt := x.closeAt, region := s.activeRegion, regs := s.regs, points := s.ing.points, sys := sys, shed := s.shedRanks
    outputs := (List.range 16).filter fun k => s.flag (Reg.ALN_OSTREAM.EN.ix k), heldBack := heldBack
    done := s.roast.absentStages.map fun k => { stage := k, start := x.closeAt, stop := x.closeAt, state := 0 } }
  ({ s with runs := s.runs ++ [run] }.sweepRuns)

/-- The close of slice n at C_n (R112, R147, R272, R286, R290, R405, R517, R533). -/
def State.closeSlice (s : State) (x : Slice) (reason last : Nat) (closeAt : Tai) (held : Bool) : State :=
  let s1 := s.moveTo closeAt
  let y := s1.closing x reason last closeAt held
  let sys := s1.sysWord
  let s2 := ({ s1.setSlice y with aln := { (s1.setSlice y).aln with lastClose := closeAt, step := none } }).count (closeCounter reason)
  let s3 := (s2.set Reg.ALN_LAST_CLOSE.SLICE x.n).advance 15000 (x.n + 1)
  let s4 := if s3.get Reg.CFG_TXN_STATUS.STATE = 2 then
      let a := s3.txnClose x.n closeAt
      if a.get Reg.CFG_TXN_STATUS.STATE = 2 then a else a.collecting.foldl State.remeet a
    else s3
  let swap := s4.swapPending && decide (s4.roasts.swapD ≤ x.n)
  let s5 := if swap then s4.swapIn x.n else s4.swapUnhold
  let z := s5.sliceAt x.n
  let s6 := s5.setSlice { z with
    flags := z.flags + 8 * b2n swap, window := min 2000 (s5.get Reg.ALN_REV_WINDOW.MS) * msUnit, tag := s5.roast.tag
    shed := 2 ^ s5.shedRanks - 1 }
  let s7 := ((s6.casClose x.n closeAt).armsApply).retireUnits
  ((s7.enterSchedule (s7.sliceAt x.n) sys x.blocked).showOpen).showQueue

/-! ### Closes in order (R272, R531) -/

/-- Every rank is shed at once, because a close finds the queue full (R530). -/
def State.shedAll (s : State) : State :=
  (List.range 3).foldl (fun s _ => if s.shedRanks < 3 then s.setShed (s.shedRanks + 1) 0 else s) s

/-- While a shutdown runs, slices that returned to EMPTY are passed over (R276). -/
def State.passEmpty (s : State) : State :=
  if s.blockRuns .aligner then s
  else match s.collecting with
    | n :: _ => s.set Reg.ALN_NEXT_CLOSE.SLICE (max n s.nextClose)
    | [] => s

/-- The slices that may close now, in index order, each after its own rule is met; a close that finds the queue full is held (R29, R531). -/
def State.closeMet (before : State) : Nat → State → State
  | 0, s => s
  | k + 1, s0 =>
    let s := s0.passEmpty
    match s.slice? s.nextClose with
    | none => s
    | some x =>
      match x.met with
      | none => s
      | some m =>
        if x.state ≠ 1 then s
        else if 4 ≤ s.behind then (s.shedAll).setSlice { x with blocked := true }
        else
          let c := if x.blocked then max s.time.tai (max m.1 s.aln.lastClose) else max m.1 s.aln.lastClose
          State.closeMet before k ((s.closeSlice x m.2.1 m.2.2 c (decide (m.1 < s.aln.lastClose) || x.blocked)).evalSlices before)

/-- Own rules looked at, and every close that follows. `before` is the state in which they were last looked at. -/
def State.closes (s before : State) : State :=
  if s.alnUp then State.closeMet s 1024 (s.evalSlices before) else s

/-- A command at an instant: time moves there, the closes up to it take place, the effect follows, and the closes it causes. -/
def State.atInstant (s : State) (t : Tai) (f : State → State) : State :=
  let s1 := (s.moveTo t).closes s
  (f s1).closes s1

/-! ### Start and shutdown (R276, R277) -/

/-- A start of the aligner: N_next is one more than the slice index of the instant; the estimator's and the oscillation engine's states
start again. -/
def State.alnStart (s : State) : State :=
  let n := sliceOf s.fs s.time.tai + 1
  let s1 := { s with
    aln := { s.aln with slices := s.aln.slices.filter fun e => e.2.state != 1, lastClose := s.time.tai, step := none, gap := none }
    lse := { s.lse with prior := [] }, osc := { s.osc with resets := s.osc.resets ++ [n] } }
  (s1.advance 15000 n).showOpen

/-- A slice as a shutdown finds it: it closes where it holds a written slot, whatever its own rule, and returns to EMPTY where it does not. -/
def State.shutOrDrop (s : State) (n : Nat) : State :=
  match s.slice? n with
  | none => s
  | some x => if x.slots.isEmpty then s.dropSlice n else s.setSlice { x with met := some (s.time.tai, 4, 0xFFFF) }

/-- A shutdown closes every COLLECTING slice that holds a written slot, in index order with reason SHUTDOWN, and drops the others (R276). -/
def State.alnStop (s : State) : State :=
  let s1 := (s.collecting.foldl State.shutOrDrop s).showOpen
  (State.closeMet s1 1024 s1).txnStopped

/-- ALIGNER_ENABLE. -/
def execAlignerEnable (who : Requester) (en : Bool) (s : State) : Out :=
  .next (s.open_ who Reg.ALN_CTL.EN.base fun s => (s.enWrite .aligner en State.alnStart State.alnStop))

/-! ### Time steps (R287) -/

/-- A slice with no written slot whose instant a forward step passed over is SKIPPED: a header alone, no schedule; band updates it would have carried are
missing (R328). -/
def State.skipSlice (s : State) (x : Slice) : State :=
  let r := (s.view (s.genOf x.n)).roast
  let y := { x with state := 6, reason := 0, closeAt := s.time.tai, met := none, tag := r.tag, wseq := (s.aln.slices.foldl (fun w e =>
    if e.1 % 14400 = x.n % 14400 ∧ e.1 ≠ x.n then max w e.2.wseq else w) x.wseq) + 2 }
  let s1 := { s with aln := { s.aln with slices := s.aln.slices.filter fun e => e.1 % 14400 != x.n % 14400 || e.1 == x.n } }
  let s2 := (s1.setSlice y).count Reg.OSC.BAND_MISSING (r.bandUpdates x.n (x.n + 1))
  (({ s2 with osc := { s2.osc with resets := s2.osc.resets ++ [x.n + 1] } }.advance 15000 s2.nextClose).alnIrq Reg.ALN_IRQ.STEP_SKIP).showOpen

/-- One slice after a forward step from `old`: skipped, to be closed with STEP, or left to its deadline. Answers whether it was left. -/
def State.stepSlice (s : State) (old : Tai) (d : Int) (n : Nat) : State × Bool :=
  match s.slice? n with
  | none => (s, true)
  | some x =>
    if x.state ≠ 1 then (s, false)
    else
      let v := s.view (s.genOf n)
      if s.time.tai < v.deadline n then (s, true)
      else if x.slots.isEmpty ∧ old < sliceTime s.fs n ∧ sliceTime s.fs n ≤ s.time.tai then (s.skipSlice x, false)
      else
        let t := match x.met with
          | some m => m.1
          | none => s.time.tai
        (s.setSlice { x with flags := setBit x.flags 1 true, step := d, met := some (t, if (v.required n).isEmpty then 3 else 2, 0xFFFF) }, false)

/-- Slices from n on, in index order, until one is left to its deadline. -/
def State.stepRun (old : Tai) (d : Int) : Nat → Nat → State → State
  | 0, _, s => s
  | k + 1, n, s =>
    let opened := decide ((8 * n - 1) * secUnit ≤ 8 * s.time.tai * s.fs)
    if !opened then s
    else
      let a := (s.collect n).stepSlice old d n
      if a.2 then a.1 else State.stepRun old d k (n + 1) a.1

/-- Band updates that slices from a to b - 1 would have carried, under the roast that governs each (R328). -/
def State.updatesMissed (s : State) (a b : Nat) : Nat :=
  if s.swapPending then
    let m := min b (max a s.roasts.swapD)
    s.roast.bandUpdates a m + s.otherRoast.bandUpdates m b
  else s.roast.bandUpdates a b

/-- Slices that a forward step passes over whole: the first 512 from N_next on, which alone can hold buffers, are treated one by one; those
after them up to the last 15,000 are SKIPPED, and as later skipped slices take their history positions at once, they leave no trace but the
band updates they would have carried. -/
def State.stepFar (s : State) (old : Tai) (d : Int) : State :=
  let a := s.nextClose + 512
  let b := sliceOf s.fs s.time.tai - 15000
  if b ≤ a then s
  else
    let s1 := State.stepRun old d 512 s.nextClose s
    let s2 := { s1 with aln := { s1.aln with gap := some (a, b) } }.count Reg.OSC.BAND_MISSING (s.updatesMissed a b)
    s2.advance 15000 s2.nextClose

/-- The first slice that a forward step has not treated yet. -/
def State.stepFrom (s : State) : Nat := match s.aln.gap with
  | some (_, b) => max b s.nextClose
  | none => s.nextClose

/-- Instants of the aligner and of the schedule that count intervals, told in the new time. -/
def State.stepTimes (s : State) (d : Int) : State :=
  let mv (t : Tai) : Tai := addTai t d
  { s with
    cfg := { s.cfg with commitAt := mv s.cfg.commitAt }
    aln := { s.aln with
      lastClose := mv s.aln.lastClose, step := some d
      slices := s.aln.slices.map fun (e : Nat × Slice) =>
        if e.2.state = 1 then (e.1, { e.2 with met := e.2.met.map fun (m : Tai × Nat × Nat) => (mv m.1, m.2) }) else e }
    runs := s.runs.map fun (r : Run) => { r with
      closeAt := mv r.closeAt, done := r.done.map fun (x : StageDone) => { x with start := mv x.start, stop := mv x.stop } } }

/-- A time step as the aligner treats it (R287). After a backward step deadlines are compared in the new time, also for a slice that had met
its own and waits. -/
def State.alnStep (s : State) (d : Int) : State :=
  let s1 := s.stepTimes d
  if !s1.blockRuns .aligner then s1
  else if 0 < d then
    let old := addTai s1.time.tai (-d)
    let s2 := s1.stepFar old d
    (State.stepRun old d 15600 s2.stepFrom s2).closes s2
  else (s1.collecting.foldl State.remeet s1).closes s1

/-! ### SLICE_OPEN and SLICE_DEADLINE -/

/-- Suspensions that a resume at slice R ends when slice n ≥ R opens (R238). -/
def State.resumeAt (s : State) (n : Nat) : State :=
  (s.ing.resume.filter fun e => decide (e.2 ≤ n) && s.streamSusp e.1).foldl (fun s e =>
    (s.groupOf e.1).foldl (fun s i => s.putStreamBit Reg.ING_SUSP.SUSP i false) s) s

/-- Slices up to index `top` become COLLECTING. -/
def State.openTo (s : State) (top : Nat) : State :=
  (List.range 512).foldl (fun s k => if s.nextClose + k ≤ top then (s.collect (s.nextClose + k)).resumeAt (s.nextClose + k) else s) s

/-- SLICE_OPEN (R264): every slice whose t_n − T_s/8 has come, below N_next + 512. -/
def execSliceOpen (t : Tai) (s : State) : Out :=
  .next (s.atInstant t fun s =>
    if s.blockRuns .aligner then s.openTo ((8 * s.time.tai * s.fs + secUnit) / (8 * secUnit)) else s)

/-- SLICE_DEADLINE (R271, R272): every deadline that has come by the first time-base cycle at or after the instant. -/
def execSliceDeadline (t : Tai) (s : State) : Out := .next (s.atInstant (s.cycleAt t) id)

/-- RING_MESSAGE_RECEIVE (R509): a share can complete a slice's required set, so closes follow. -/
def execRingMessageReceive (ring : Nat) (m : RingMsg) (crcOk : Bool) (linkNs : Option Nat) (t : Tai) (s : State) : Out :=
  .next (s.atInstant t fun s => s.ringReceive (ring % 2) m crcOk linkNs t)

end Sys2Proof.Machine
end

