-- ==== Sys2Proof/Machine/Ingest.lean ====
section
/-! DEFINITION. The stream parser (R221 to R240): frame checks and matching, conversion, sampled values, IEC 61850-90-5 and GOOSE,
suspension and re-templating, unclaimed sources; and the estimates of local groups on their way to the aligner (R251). -/

namespace Sys2Proof.Machine

/-- An interrupt of the parser: vector 22 (R241). -/
def State.ingIrq (s : State) (f : Fld) : State := s.irq f Reg.ING_IRQ_MASK.MASK 22

/-- What became of a packet. -/
inductive Fate where
  /-- its results are committed -/
  | used
  /-- handed on to the receive ring -/
  | handed
  /-- discarded: the parser issues Dregs -/
  | dropped
  deriving DecidableEq, Repr

/-! ### Which tables a frame meets (R146, R149, R239) -/

/-- The generations whose tables are held now. -/
def State.gens (s : State) : List Gen :=
  if s.swapPending then [.active, .shadow] else if s.get Reg.CFG_ROAST_STATUS.SHADOW = 4 then [.old, .active] else [.active]

/-- A frame's record, generation, time and slice index: of R16, or off the grid of R15. -/
structure Claim where
  gen : Gen
  first : Nat
  t : Tai
  n : Nat
  deriving DecidableEq, Repr

/-- A frame matched in every table held; the one that governs its slice claims it. -/
def State.claim (s : State) (find : State → Option Nat) (time : State → Nat → Tai) : Option Claim :=
  s.gens.findSome? fun g =>
    let v := s.view g
    (find v).bind fun f =>
      let t := time v f
      let n := (sliceFor s.fs t).getD (sliceOf s.fs t)
      if s.genOf n = g then some { gen := g, first := f, t := t, n := n } else none

/-- First records of groups that are enabled, of a kind, on a source. -/
def State.firsts (v : State) (kind src : Nat) : List Nat :=
  (List.range v.roast.streamCount).filter fun i =>
    let b := v.recOf i
    recKind b == kind && recBlock b == 0 && bitAt (recPorts b) src && v.streamOn i

/-- MATCH_SRC and IPV6 of a record. -/
def recSrcOk (b : Bytes) (v6 : Bool) (addr : Bytes) : Bool :=
  !bitAt (recFlags b) 1 || (bitAt (recFlags b) 2 == v6 && slice (recAddr b) 0 (if v6 then 16 else 4) == addr)

/-! ### Suspension (R237, R239) -/

/-- A group is suspended, with no resume awaited. -/
def State.suspended (s : State) (f : Nat) : Bool := s.streamSusp f && !s.ing.resume.any fun e => e.1 == f

/-- A group of a generation is suspended at once, unless it is already. -/
def State.suspend (s : State) (g : Gen) (f : Nat) : State :=
  let v := s.view g
  if v.suspended f then s
  else
    let is := v.groupOf f
    match g with
    | .active =>
      let s1 := is.foldl (fun s i => s.putStreamBit Reg.ING_SUSP.SUSP i true)
        { s with ing := { s.ing with resume := s.ing.resume.filter fun e => e.1 != f } }
      (s1.ingIrq Reg.ING_IRQ.SUSPEND).log (evCode 11 0) 0 (evIndex f)
    | .shadow =>
      let s1 := { s with ing := { s.ing with shadowSusp := s.ing.shadowSusp ++ is } }
      (s1.ingIrq Reg.ING_IRQ.SUSPEND).log (evCode 11 0) 0 (evIndex f)
    | .old =>
      let s1 := { s with ing := { s.ing with
          oldSusp := is.foldl (fun w i => modAt (fun x => setBit x (i % 32) true) (i / 32) w) s.ing.oldSusp
          oldResume := s.ing.oldResume.filter fun e => e.1 != f } }
      (s1.ingIrq Reg.ING_IRQ.SUSPEND).log (evCode 11 0) 0 (evIndex f)

/-- Check 6: suspended, or below the group's resume slice. -/
def State.barred (v : State) (f n : Nat) : Bool :=
  match v.ing.resume.find? fun e => e.1 == f with
  | some e => decide (n < e.2)
  | none => v.streamSusp f

/-- A frame at or above the resume slice ends the suspension. -/
def State.resumed (s : State) (g : Gen) (f : Nat) : State :=
  if g = .active ∧ s.streamSusp f then (s.groupOf f).foldl (fun s i => s.putStreamBit Reg.ING_SUSP.SUSP i false) s else s

/-! ### Hand-on and unclaimed sources (R223, R240) -/

/-- A frame handed on to FWD_RING of its arrival port. -/
def State.handOn (s : State) (k : IngPacket) (bufs : List Nat) : State :=
  let c := s.cfgPort k.port
  s.rxDeliver c (s.get (Reg.MAC_CLASS_CFG.FWD_RING.ix c))
    { cls := 1, lanB := k.lanB, vid := k.vid, pcp := k.pcp, tagged := k.tagged, stamp := k.stamp } bufs k.data

/-- Level of a source's token bucket: one token is 1 s of time. -/
def State.fwdLevel (s : State) (src : Nat) : Nat :=
  let full := s.get Reg.ING_FWD_LIMIT.BURST * secUnit
  match alookup src s.ing.buckets with
  | none => full
  | some (l, at_) => min full (l + s.get Reg.ING_FWD_LIMIT.RATE * (s.time.elapsed - at_))

/-- A frame handed on within its source's rate limit. -/
def State.handLimited (s : State) (src : Nat) (k : IngPacket) (bufs : List Nat) : State × Fate :=
  let l := s.fwdLevel src
  let put (v : Nat) : State := { s with ing := { s.ing with buckets := aset src (v, s.time.elapsed) s.ing.buckets } }
  if secUnit ≤ l then ((put (l - secUnit)).handOn k bufs, .handed)
  else ((put l).count (Reg.ING.FWD_LIMITED.ix src), .dropped)

/-- A source ID enters the next free ING_UNCLAIMED_IDn, where it is new. -/
def State.noteSource (s : State) (src kind key addr : Nat) : State :=
  let same (n : Nat) : Bool :=
    s.flag (Reg.ING_UNCLAIMED_ID.VALID.ix n) && s.get (Reg.ING_UNCLAIMED_ID.KEY.ix n) == key % 65536 &&
    s.get (Reg.ING_UNCLAIMED_ID.SOURCE.ix n) == src && s.get (Reg.ING_UNCLAIMED_ID.KIND.ix n) == kind &&
    s.get (Reg.ING_UNCLAIMED_ID.ADDR.ix n) == addr % 2 ^ 32
  if (List.range 8).any same then s
  else match (List.range 8).find? fun n => !s.flag (Reg.ING_UNCLAIMED_ID.VALID.ix n) with
    | none => s
    | some n =>
      (((((s.set (Reg.ING_UNCLAIMED_ID.KEY.ix n) key).set (Reg.ING_UNCLAIMED_ID.SOURCE.ix n) src).set
        (Reg.ING_UNCLAIMED_ID.KIND.ix n) kind).set (Reg.ING_UNCLAIMED_ID.ADDR.ix n) addr).setFlag
        (Reg.ING_UNCLAIMED_ID.VALID.ix n) true).ingIrq Reg.ING_IRQ.UNCLAIMED_NEW

/-- An unclaimed frame. -/
def State.unclaimed (s : State) (src kind key : Nat) (addr : Bytes) (k : IngPacket) (bufs : List Nat) : State × Fate :=
  let s1 := (s.count (Reg.ING.UNCLAIMED_CNT.ix src)).noteSource src kind key (beVal (addr.drop (addr.length - 4)))
  (s1.log (evCode 11 1) src []).handLimited src k bufs

/-! ### Times (R231) -/

/-- The offsets to try at a receive stamp: the one in force at the stamp, and within 2 s after a leap the one before it. -/
def State.offsetsAt (s : State) (stamp : Tai) : List Int :=
  let now := s.offsetAt stamp
  match s.backup.leapAt with
  | none => [now]
  | some a => if a ≤ stamp ∧ stamp ≤ a + 2 * secUnit then [now, now - (if s.backup.leapDel then -1 else 1)] else [now]

/-- UTC seconds and a part of a second as TAI: of two candidates the one nearer the receive stamp. -/
def State.taiOfUtc (s : State) (stamp : Tai) (soc : Nat) (sub : Tai) : Tai :=
  let at_ (o : Int) : Tai := ((soc : Int) + o).toNat * secUnit + sub
  let far (t : Tai) : Nat := ((t : Int) - stamp).natAbs
  match s.offsetsAt stamp with
  | [a, b] => if far (at_ b) < far (at_ a) then at_ b else at_ a
  | a :: _ => at_ a
  | [] => at_ (s.offsetAt stamp)

/-- A fraction of a second in units of 1/base as nanoseconds, halves rounded up. -/
def fracNs (frac base : Nat) : Nat := if base = 0 then 0 else (2 * frac * 1000000000 + base) / (2 * base)

/-! ### Values (R232, R233) -/

/-- A number read from a frame. -/
inductive Field where
  | missing
  | val (q : Rat)
  | inf (neg : Bool)
  deriving DecidableEq, Repr

/-- A 16-bit field, signed or not; 0x8000 is missing data. -/
def int16Field (signed : Bool) (v : Nat) : Field :=
  if v = 0x8000 then .missing else .val (if signed then (signedOf 16 v : Rat) else (v : Rat))

/-- A binary32 field; a NaN is missing data. -/
def floatField (v : Nat) : Field :=
  let a : F32 := BitVec.ofNat 32 v
  if fIsNaN a then .missing else if fIsInf a then .inf (fNeg a) else .val (fVal a)

/-- A phasor of two fields; `unit` turns the angle field into radians. An infinite field gives NaN (log entry 67). -/
def phasorVal (polar : Bool) (unit : Rat) (e : Bytes) (x y : Field) : Cpx × Bool :=
  match x, y with
  | .missing, _ => (cNaN, true)
  | _, .missing => (cNaN, true)
  | .val a, .val b =>
    let sc := fVal (entScale e)
    let off := fVal (entOffset e)
    (if polar then rotated (a * sc) 0 (b * unit + off) else rotated (a * sc) (b * sc) off, false)
  | _, _ => (cNaN, false)

/-- An analogue value. -/
def analogVal (e : Bytes) (x : Field) : Cpx × Bool :=
  match x with
  | .missing => (cNaN, true)
  | .val q => ({ re := fNear (q * fVal (entScale e) + fVal (entOffset e)), im := fZero }, false)
  | .inf neg => ({ re := fMul (fInf neg) (entScale e), im := fZero }, false)

/-- A digital word: v in [15:0], MASK[15:0] above it, second word 0. -/
def digitalVal (e : Bytes) (v : Nat) : Cpx := { re := BitVec.ofNat 32 (v % 65536 + 65536 * (entMask e % 65536)), im := fZero }

/-- A frequency or ROCOF of a float field. -/
def floatHz (v : Nat) : Cpx × Bool :=
  let a : F32 := BitVec.ofNat 32 v
  if fIsNaN a then (cNaN, true) else ({ re := a, im := fZero }, false)

/-- TQ derived from the FRACSEC time-quality code. -/
def tqOfCode (c : Nat) : Nat := if c = 15 then 7 else statTq (some (pow10 c))
where
  /-- 10^(c − 10) s in nanoseconds. -/
  pow10 (c : Nat) : Rat := if c = 0 then 1 / 10 else ((10 ^ (c - 1) : Nat) : Rat)

/-- The quality word of a C37.118 block, without MISSING_VALUE. -/
def c37Quality (stat tqCode : Nat) : Nat :=
  let d := bitsOf stat 14 2
  1 + 2 * b2n (d == 1 || d == 3) + 4 * b2n (d == 2) + 8 * bitsOf stat 13 1 + 16 * bitsOf stat 12 1 + 32 * bitsOf stat 11 1 +
    64 * bitsOf stat 10 1 + 128 * bitsOf stat 9 1 + 256 * bitsOf stat 4 2 +
    1024 * (if bitsOf stat 6 3 = 0 then tqOfCode tqCode else bitsOf stat 6 3)

/-- A slot value with its quality word. -/
def slotVal (q : Nat) (v : Cpx × Bool) : SlotVal := { v := v.1, q := q + 2 ^ 13 * b2n v.2 }

/-- The channel writes of one C37.118 block (R228, R230). -/
def blockWrites (t b : Bytes) (tqCode : Nat) : List (Nat × SlotVal) :=
  let f := tplFormat t
  let q := c37Quality (beAt b 0 2) tqCode
  let wp := if bitAt f 1 then 8 else 4
  let wf := if bitAt f 3 then 4 else 2
  let wa := if bitAt f 2 then 4 else 2
  let ph := (List.range (tplPh t)).map fun i =>
    let e := tplEntry t i
    let o := 2 + i * wp
    let v := if bitAt f 1 then phasorVal (bitAt f 0) 1 e (floatField (beAt b o 4)) (floatField (beAt b (o + 4) 4))
      else phasorVal (bitAt f 0) (1 / 10000) e (int16Field (!bitAt f 0) (beAt b o 2)) (int16Field true (beAt b (o + 2) 2))
    (entSlot e, slotVal q v)
  let of := 2 + tplPh t * wp
  let fr : Cpx × Bool := if bitAt f 3 then floatHz (beAt b of 4)
    else ({ re := fNear ((tplFnom t : Rat) + (signedOf 16 (beAt b of 2) : Rat) / 1000), im := fZero }, false)
  let ro : Cpx × Bool := if bitAt f 3 then floatHz (beAt b (of + 4) 4)
    else ({ re := fNear ((signedOf 16 (beAt b (of + 2) 2) : Rat) / 100), im := fZero }, false)
  let oa := of + 2 * wf
  let an := (List.range (tplAn t)).map fun i =>
    let e := tplEntry t (tplPh t + i)
    let v := if bitAt f 2 then floatField (beAt b (oa + i * wa) 4) else int16Field true (beAt b (oa + i * wa) 2)
    (entSlot e, slotVal q (analogVal e v))
  let od := oa + tplAn t * wa
  let dg := (List.range (tplDg t)).map fun i =>
    let e := tplEntry t (tplPh t + tplAn t + i)
    (entSlot e, slotVal q (digitalVal e (beAt b (od + 2 * i) 2), false))
  ph ++ (if tplFreqSlot t = 0xFFFF then [] else [(tplFreqSlot t, slotVal q fr)]) ++
    (if tplRocofSlot t = 0xFFFF then [] else [(tplRocofSlot t, slotVal q ro)]) ++ an ++ dg

/-- The writes of a frame's blocks, from the first block on. -/
def frameWrites (tqCode : Nat) : List Bytes → Bytes → List (Nat × SlotVal)
  | [], _ => []
  | t :: ts, b => blockWrites t b tqCode ++ frameWrites tqCode ts (b.drop (blockLen t))

/-! ### C37.118 frames (R225) -/

/-- Where a C37.118 frame came from: source, kind of record it may match, UDP port, family and address. -/
structure C37Src where
  src : Nat
  kind : Nat
  udp : Nat
  v6 : Bool
  addr : Bytes

/-- The record a C37.118 frame matches (R227). An injected frame brings no source address, so none equals that of a record with MATCH_SRC
(log entry 87). -/
def State.findC37 (v : State) (c : C37Src) (idcode : Nat) : Option Nat :=
  (v.firsts c.kind c.src).find? fun i =>
    let b := v.recOf i
    recId b == idcode && (c.kind == 2 || recUdp b == c.udp) && recSrcOk b c.v6 c.addr

/-- CFGCNT of each PMU of a CFG-2 frame, from the offset of its first PMU. -/
def cfg2Counts (b : Bytes) : Nat → Nat → List Nat
  | 0, _ => []
  | n + 1, o =>
    let ph := beAt b (o + 20) 2
    let an := beAt b (o + 22) 2
    let dg := beAt b (o + 24) 2
    let e := o + 26 + 16 * (ph + an + 16 * dg) + 4 * (ph + an + dg)
    beAt b (e + 2) 2 :: cfg2Counts b n (e + 4)

/-- The templates of a group. -/
def State.groupTpls (v : State) (f : Nat) : List Bytes := (v.groupOf f).map v.tplOf

/-- Whether a CFG-2 frame carries for a block another CFGCNT than its live template. -/
def State.cfgChanged (v : State) (f : Nat) (b : Bytes) : Bool :=
  let ts := v.groupTpls f
  ((cfg2Counts b (min ts.length (beAt b 18 2)) 20).zip ts).any fun e => e.1 != tplCfgcnt e.2

/-- The checks of R225 and what follows from them. -/
def State.c37 (s : State) (c : C37Src) (b : Bytes) (k : IngPacket) (bufs : List Nat) : State × Fate :=
  let type := beAt b 1 1 / 16 % 8
  let ver := beAt b 1 1 % 16
  if b.isEmpty ∨ beAt b 0 1 ≠ 0xAA ∨ !(ver == 1 || ver == 2) ∨ 5 < type then (s.count (Reg.ING.PROTO_ERR.ix c.src), .dropped)
  else if beAt b 2 2 ≠ b.length ∨ b.length < 4 then (s.count (Reg.ING.FMT_ERR.ix c.src), .dropped)
  else if chk (b.take (b.length - 2)) ≠ beAt b (b.length - 2) 2 then (s.count (Reg.ING.CHK_ERR.ix c.src), .dropped)
  else
    let frac := beAt b 10 4 % 2 ^ 24
    let base (v : State) (f : Nat) : Nat := tplTimeBase (v.tplOf f)
    let time (v : State) (f : Nat) : Tai := s.taiOfUtc k.stamp (beAt b 6 4) (fracNs frac (base v f) * nsUnit)
    match s.claim (fun v => v.findC37 c (beAt b 4 2)) time with
    | none => s.unclaimed c.src c.kind (beAt b 4 2) c.addr k bufs
    | some m =>
      let v := s.view m.gen
      if type ≠ 0 then
        let s1 := if type = 3 ∧ v.cfgChanged m.first b then s.suspend m.gen m.first else s
        (s1.handOn k bufs, .handed)
      else if v.barred m.first m.n then (s.count (Reg.ING.SUSP_DROP.ix c.src), .dropped)
      else
        let s1 := s.resumed m.gen m.first
        let ts := v.groupTpls m.first
        if b.length ≠ 16 + (ts.map blockLen).sum then ((s1.suspend m.gen m.first).count (Reg.ING.SUSP_DROP.ix c.src), .dropped)
        else if ts.any fun t => decide (tplTimeBase t ≤ frac) then (s1.count (Reg.ING.FMT_ERR.ix c.src), .dropped)
        else
          let f : AlnFrame :=
            { streams := v.groupOf m.first, t := m.t, stamp := s.time.tai, writes := frameWrites (beAt b 10 1 % 16) ts (b.drop 14) }
          ((s1.count (Reg.ING.FRAMES.ix c.src)).enterFrame f, .used)

/-! ### BER (log entry 66) -/

/-- A BER element's contents and what follows it: tag, contents, rest. -/
def berHead (b : Bytes) : Option (Nat × Bytes × Bytes) :=
  let l := beAt b 1 1
  let h := if l < 128 then 2 else 2 + l % 128
  let n := if l < 128 then l else beAt b 2 (l % 128)
  if b.length < h ∨ b.length < h + n ∨ l = 128 then none else some (beAt b 0 1, slice b h n, b.drop (h + n))

/-- The elements of a constructed value; at most one for each of its bytes. -/
def berItems : Nat → Bytes → List (Nat × Bytes)
  | 0, _ => []
  | n + 1, b => if b.isEmpty then [] else match berHead b with
    | some (t, v, r) => (t, v) :: berItems n r
    | none => []

/-- The elements of a value whose outer tag is given; none where the tag differs. -/
def berOf (tag : Nat) (b : Bytes) : Option (List (Nat × Bytes)) :=
  match berHead b with
  | some (t, v, _) => if t = tag then some (berItems v.length v) else none
  | none => none

/-- An element by tag. -/
def berAt (tag : Nat) (xs : List (Nat × Bytes)) : Option Bytes := (xs.find? fun e => e.1 == tag).map (·.2)

/-- An unsigned element, 0 where it is absent. -/
def berNum (tag : Nat) (xs : List (Nat × Bytes)) : Nat := ((berAt tag xs).map beVal).getD 0

/-- The ASDUs of an SV APDU: their number as noASDU gives it, and their elements. -/
def svAsdus (apdu : Bytes) : Option (Nat × List (List (Nat × Bytes))) :=
  (berOf 0x60 apdu).bind fun xs =>
    (berAt 0xA2 xs).map fun q => (berNum 0x80 xs, ((berItems q.length q).filter fun e => e.1 == 0x30).map fun e => berItems e.2.length e.2)

/-! ### Sampled values (R234) -/

/-- The record an SV frame matches (R227): APPID, SESSION, a group destination (log entry 68), the source address. -/
def State.findSv (v : State) (src appid session : Nat) (data : Bytes) : Option Nat :=
  (v.firsts 4 src).find? fun i =>
    let b := v.recOf i
    recId b == appid && recSession b == session && isGroup data && (!bitAt (recFlags b) 1 || slice (recAddr b) 0 6 == srcOf data)

/-- The number of a sample counted from the epoch: smpCnt and the whole second that puts it from 999 ms before to 1 ms after the stamp. -/
def svNumber (rate cnt : Nat) (stamp : Tai) : Nat := (stamp + msUnit - cnt * secUnit / rate) / secUnit * rate + cnt

/-- The lanes that take channel `ch` of SV group `grp`. -/
def State.svLanes (s : State) (grp ch : Nat) : List (Nat × Bytes) :=
  (List.range 32).flatMap fun g =>
    match s.roast.groupRec g with
    | some b => if s.groupRuns g then
        ((gMembers b).filter fun m => gKind b m == 2 && gSrc b m == grp && gChan b m == ch).map fun m => (8 * g + m, b) else []
    | none => []

/-- One ASDU's samples enter their lanes. -/
def State.svAsdu (s : State) (t : Bytes) (grp rate : Nat) (stamp : Tai) (xs : List (Nat × Bytes)) : State :=
  let q := svNumber rate (berNum 0x82 xs) stamp
  let data := (berAt 0x87 xs).getD []
  let unsync := berNum 0x85 xs == 0
  (List.range (tplAn t)).foldl (fun s i =>
    let e := tplEntry t i
    let w := beAt data (8 * i + 4) 4
    let v := fNear ((signedOf 32 (beAt data (8 * i) 4) : Rat) * (if entUnit e = 1 then 1 / 1000 else 1 / 100) * fVal (entScale e))
    let flags := 2 * b2n (w % 4 == 1 || unsync) + 4 * b2n (bitAt w 11) + 16 * b2n (w % 4 == 3)
    (s.svLanes grp (entSlot e)).foldl (fun s l => s.svSample l.2 l.1 q { t := q * secUnit / rate, v := v, flags := flags } stamp) s) s

/-- An SV frame. One that no record matches fails a condition of R234 and is unclaimed (R240). -/
def State.svFrame (s : State) (src : Nat) (k : IngPacket) (bufs : List Nat) : State × Fate :=
  let appid := beAt k.data 14 2
  let pdu := svAsdus (k.data.drop 22)
  let asdus := (pdu.map (·.2)).getD []
  let session := crc32c ((berAt 0x80 (asdus.headD [])).getD [])
  let grpOf (v : State) (f : Nat) : Nat := recGroup (v.recOf f)
  let time (v : State) (f : Nat) : Tai :=
    let r := v.roast.svRate (grpOf v f)
    svNumber r (berNum 0x82 (asdus.headD [])) k.stamp * secUnit / r
  match s.claim (fun v => v.findSv src appid session k.data) time with
  | none => (s.count (Reg.ING.FMT_ERR.ix src)).unclaimed src 4 appid (srcOf k.data) k bufs
  | some m =>
    let v := s.view m.gen
    let t := v.tplOf m.first
    let rate := v.roast.svRate (grpOf v m.first)
    let ok (xs : List (Nat × Bytes)) : Bool :=
      berNum 0x83 xs == tplConfrev t && decide (berNum 0x82 xs < rate) && decide (8 * tplAn t ≤ ((berAt 0x87 xs).getD []).length)
    if v.barred m.first m.n then (s.count (Reg.ING.SUSP_DROP.ix src), .dropped)
    else if (pdu.map (·.1)).getD 0 ≠ tplNasdu t ∨ asdus.length ≠ tplNasdu t ∨ !asdus.all ok then
      (s.count (Reg.ING.FMT_ERR.ix src), .dropped)
    else (asdus.foldl (fun s xs => s.svAsdu t (grpOf v m.first) rate k.stamp xs) s, .used)

/-! ### GOOSE (R236) -/

/-- A subscription's identity: DEST_MAC, APPID, GOCB_CRC. -/
def gooseKey (dest : Bytes) (appid crc : Nat) : Nat := (beVal dest * 65536 + appid) * 2 ^ 32 + crc
/-- The identity a TYPE 4 template names. -/
def tplGooseKey (t : Bytes) : Nat := gooseKey (slice t 0x20 6) (leAt t 0x18 2) (leAt t 0x1C 4)
/-- The subscriptions of a roast. -/
def Roast.gooseTpls (r : Roast) : List Bytes := (r.recs 0x11).filter fun t => tplType t == 4

/-- A point as the latest delivery left it. -/
def State.point (s : State) (i : Nat) : GoosePoint := (alookup i s.ing.points).getD {}
/-- A point delivered. A closed slice whose status step is still to come takes a delivery up to its C_n (R353). -/
def State.setPoint (s : State) (i : Nat) (p : GoosePoint) : State :=
  { s with
    ing := { s.ing with points := aset i p s.ing.points }
    runs := s.runs.map fun r => if !r.has 2 && decide (s.time.tai ≤ r.closeAt) then { r with points := aset i p r.points } else r }

/-- Every point of a subscription changed. -/
def State.eachPoint (s : State) (t : Bytes) (f : GoosePoint → GoosePoint) : State :=
  (List.range (tplNelem t)).foldl (fun s i => s.setPoint (entSlot (tplEntry t i)) (f (s.point (entSlot (tplEntry t i))))) s

/-- A position: BOOLEAN, or Dbpos as a bit string of two bits. -/
def goosePos (e : Nat × Bytes) : Option Nat :=
  if e.1 = 0x83 ∧ e.2.length = 1 then some (if beVal e.2 = 0 then 1 else 2)
  else if e.1 = 0x84 ∧ e.2.length = 2 ∧ beAt e.2 0 1 = 6 then some (beAt e.2 1 1 / 64)
  else none

/-- A quality: a bit string of 13 bits; validity and test. -/
def gooseQuality (e : Nat × Bytes) : Option (Nat × Bool) :=
  if e.1 = 0x84 ∧ e.2.length = 3 ∧ beAt e.2 0 1 = 3 then some (beAt e.2 1 1 / 64, bitAt (beAt e.2 2 1) 4) else none

/-- What an entry reads of allData: position, validity, test; none where it cannot be read. -/
def gooseEntry (e : Bytes) (all : List (Nat × Bytes)) : Option (Nat × Nat × Bool) :=
  let i := entElem e % 128
  (all[i]?.bind goosePos).bind fun p =>
    if bitAt (entElem e) 7 then (all[i + 1]?.bind gooseQuality).map fun q => (p, q.1, q.2) else some (p, 0, false)

/-- A GOOSE frame. -/
def State.gooseFrame (s : State) (src : Nat) (k : IngPacket) (bufs : List Nat) : State × Fate :=
  let appid := beAt k.data 14 2
  let xs := (berOf 0x61 (k.data.drop 22)).getD []
  let key := gooseKey (dstOf k.data) appid (crc32c ((berAt 0x80 xs).getD []))
  match s.roast.gooseTpls.find? fun t => tplGooseKey t == key with
  | none => s.unclaimed src 6 appid (srcOf k.data) k bufs
  | some t =>
    let s1 := { s with ing := { s.ing with subs := aset key { rx := k.stamp, ttl := berNum 0x81 xs } s.ing.subs } }
    if berNum 0x88 xs ≠ tplConfrev t ∨ berNum 0x89 xs ≠ 0 then
      ((s1.eachPoint t fun p => { p with mismatch := true, stale := false, rx := k.stamp }).count (Reg.ING.FMT_ERR.ix src), .dropped)
    else
      let all := (berAt 0xAB xs).getD []
      let items := berItems all.length all
      let es := (List.range (tplNelem t)).map fun i => (entSlot (tplEntry t i), gooseEntry (tplEntry t i) items)
      let s2 := es.foldl (fun s e =>
        let r := e.2.getD (3, 0, false)
        s.setPoint e.1 { pos := r.1, validity := r.2.1, test := r.2.2, stNum := berNum 0x85 xs, evT := berNum 0x84 xs, rx := k.stamp }) s1
      (if es.any fun e => e.2.isNone then s2.count (Reg.ING.FMT_ERR.ix src) else s2, .used)

/-- GOOSE_STALE: subscriptions with no frame for twice the last timeAllowedToLive, timed from the last receive stamp. -/
def execGooseStale (t : Tai) (s : State) : Out :=
  .next (s.atInstant t fun s =>
    s.roast.gooseTpls.foldl (fun s tpl =>
      match alookup (tplGooseKey tpl) s.ing.subs with
      | some u =>
        if !u.stale && decide (u.rx + 2 * u.ttl * msUnit ≤ s.time.tai) then
          let s1 := s.eachPoint tpl fun p => { p with stale := true }
          { s1 with ing := { s1.ing with subs := aset (tplGooseKey tpl) { u with stale := true } s1.ing.subs } }
        else s
      | none => s) s)

/-! ### IEC 61850-90-5 (R235, log entry 61) -/

/-- Whether a datagram is a well-formed SPDU: its lengths agree and its session identifier is one of the standard's. -/
def spduOk (d : Bytes) : Bool :=
  let u := beAt d 28 4
  decide (34 ≤ d.length) && beAt d 0 2 == 0x0140 && beAt d 3 1 == 0x18 && beAt d 4 2 == 0x8016 && beAt d 6 4 == 24 + u &&
  decide (34 + u ≤ d.length) && d.length == 34 + u + beAt d (33 + u) 1 && beAt d (32 + u) 1 == 0x85 &&
  decide (beAt d 2 1 ∈ [0xA0, 0xA1, 0xA2, 0xA3])

/-- The number of bytes of the tag that a signature algorithm names. -/
def spduTag : Nat → Option Nat
  | 1 => some 10
  | 2 => some 16
  | 3 => some 32
  | _ => none

/-- Where the keys of a stream of a generation are held: by stream of the active roast; those of a retiring roast's streams that were not
carried stand from 8,192 up. -/
def State.keyIndex (s : State) (g : Gen) (i : Nat) : Option Nat :=
  match g with
  | .active => some i
  | .shadow => carriedFrom (s.roast.recs 0x10) recKey (s.otherRoast.recAt 0x10 i)
  | .old => some (((List.range s.roast.streamCount).find? fun j =>
      carriedFrom (s.otherRoast.recs 0x10) recKey (s.roast.recAt 0x10 j) == some i).getD (8192 + i))

/-- A stream's keys. -/
def State.spduKeys (s : State) (g : Gen) (i : Nat) : SpduKeys :=
  match s.keyIndex g i with
  | some j => (alookup j s.ing.keys).getD {}
  | none => {}

/-- A stream's keys replaced. -/
def State.setSpduKeys (s : State) (g : Gen) (i : Nat) (x : SpduKeys) : State :=
  match s.keyIndex g i with
  | some j => { s with ing := { s.ing with keys := aset j x s.ing.keys } }
  | none => s

/-- The key that a key ID names among a stream's: the key, and whether it is NEXT. -/
def SpduKeys.key? (x : SpduKeys) (id : Nat) : Option (Bytes × Bool) :=
  match x.cur, x.next with
  | some (i, v), n => if i = id then some (v, false) else match n with
    | some (j, w) => if j = id then some (w, true) else none
    | none => none
  | none, some (j, w) => if j = id then some (w, true) else none
  | none, none => none

/-- The SPDU number is new (R235). -/
def SpduKeys.fresh (x : SpduKeys) (num : Nat) : Bool :=
  (match x.highest with | some h => decide (h < num + 64) | none => true) && !x.seen.contains num

/-- The keys after an SPDU is accepted. -/
def SpduKeys.took (x : SpduKeys) (num : Nat) (isNext : Bool) : SpduKeys :=
  let y := if isNext then { x with cur := x.next, next := none } else x
  { y with highest := some (max num (x.highest.getD 0)), seen := (num :: x.seen).take 64 }

/-- The record of generation g that an SPDU matches (R227). -/
def State.findSpdu (s v : State) (g : Gen) (c : C37Src) (id : Nat) : Option Nat :=
  (v.firsts 3 c.src).find? fun i =>
    let b := v.recOf i
    recUdp b == c.udp && recSrcOk b c.v6 c.addr && ((s.spduKeys g i).key? id).isSome

/-- The writes of an ASDU under a TYPE 2 template; the quality bits that the spec does not state are a free value (log entry 69). -/
def spduWrites (t data : Bytes) (q : Nat) : List (Nat × SlotVal) :=
  (List.range (tplNelem t)).map fun i =>
    let e := tplEntry t i
    let o := 4 * entElem e
    let v : Cpx × Bool :=
      if entUnit e ≤ 1 then phasorVal (bitAt (tplFormat t) 0) 1 e (floatField (beAt data o 4)) (floatField (beAt data (o + 4) 4))
      else if entUnit e = 3 then (digitalVal e (beAt data o 4), false)
      else if entSlot e = tplFreqSlot t ∨ entSlot e = tplRocofSlot t then floatHz (beAt data o 4)
      else analogVal e (floatField (beAt data o 4))
    (entSlot e, slotVal q v)

/-- One ASDU of an accepted SPDU: the frame that its refrTm dates, and whether it was committed. -/
def State.spduAsdu (s : State) (c : C37Src) (g : Gen) (f : Nat) (stamp : Tai) (xs : List (Nat × Bytes)) : State × Bool :=
  let v := s.view g
  let t := v.tplOf f
  match berAt 0x84 xs with
  | none => (s.count (Reg.ING.FMT_ERR.ix c.src), false)
  | some r =>
    if berNum 0x83 xs ≠ tplConfrev t then (s.count (Reg.ING.FMT_ERR.ix c.src), false)
    else
      let tai := s.taiOfUtc stamp (beAt r 0 4) (fracNs (beAt r 4 3) (2 ^ 24) * nsUnit)
      let n := (sliceFor s.fs tai).getD (sliceOf s.fs tai)
      if v.barred f n then (s.count (Reg.ING.SUSP_DROP.ix c.src), false)
      else
        (s.tookFree.enterFrame { streams := [f], t := tai, stamp := s.time.tai,
                                 writes := spduWrites t ((berAt 0x87 xs).getD []) (1 + 2 * s.freeVal 12) }, true)

/-- The ASDUs in order; whether any was committed. -/
def State.spduAsdus (s : State) (c : C37Src) (g : Gen) (f : Nat) (stamp : Tai) (asdus : List (List (Nat × Bytes))) : State × Bool :=
  asdus.foldl (fun (r : State × Bool) xs => ((r.1.spduAsdu c g f stamp xs).1, r.2 || (r.1.spduAsdu c g f stamp xs).2)) (s, false)

/-- The time that an SPDU's first dated ASDU names. -/
def State.spduTime (s : State) (stamp : Tai) (asdus : List (List (Nat × Bytes))) : Tai :=
  match asdus.findSome? (berAt 0x84) with
  | some r => s.taiOfUtc stamp (beAt r 0 4) (fracNs (beAt r 4 3) (2 ^ 24) * nsUnit)
  | none => stamp

/-- A datagram from a PROTO 1 entry. -/
def State.spduFrame (s : State) (c : C37Src) (d : Bytes) (k : IngPacket) (bufs : List Nat) : State × Fate :=
  if !spduOk d then (s.count (Reg.ING.PROTO_ERR.ix c.src), .dropped)
  else
    let id := beAt d 24 4
    let num := beAt d 10 4
    let u := beAt d 28 4
    let asdus := ((svAsdus (slice d 38 (u - 6))).map (·.2)).getD []
    let n := let t := s.spduTime k.stamp asdus; (sliceFor s.fs t).getD (sliceOf s.fs t)
    let g := s.genOf n
    match s.findSpdu (s.view g) g c id with
    | none =>
      let s1 := ((s.count (Reg.ING.AUTH_FAIL.ix c.src)).set Reg.ING_KEY_STATUS.MISS_ID id).ingIrq Reg.ING_IRQ.KEY_MISS
      s1.unclaimed c.src 3 id c.addr k bufs
    | some f =>
      let x := s.spduKeys g f
      match x.key? id, spduTag (beAt d 23 1) with
      | some (key, isNext), some len =>
        let tag := d.drop (34 + u)
        if beAt d 2 1 ≠ 0xA2 ∨ beAt d 22 1 ≠ 0 ∨ tag.length ≠ len ∨ (Config.hmac key (slice d 2 (30 + u))).take len ≠ tag ∨ !x.fresh num then
          (s.count (Reg.ING.AUTH_FAIL.ix c.src), .dropped)
        else
          let s1 := s.setSpduKeys g f (x.took num isNext)
          let r := s1.spduAsdus c g f k.stamp asdus
          if r.2 then (r.1.count (Reg.ING.FRAMES.ix c.src), .used) else (r.1, .dropped)
      | _, _ => (s.count (Reg.ING.AUTH_FAIL.ix c.src), .dropped)

/-! ### PARSE_PACKET (R222 to R225) -/

/-- A UDP datagram of an ingress queue. -/
def State.udpPacket (s : State) (src : Nat) (k : IngPacket) (bufs : List Nat) : State × Fate :=
  match udpOf k.data with
  | none => (s.count (Reg.ING.PROTO_ERR.ix src), .dropped)
  | some u =>
    let c (kind : Nat) : C37Src := { src := src, kind := kind, udp := u.port k.data, v6 := u.v6, addr := u.src k.data }
    if s.flag (Reg.MAC_STREAM_UDP.PROTO.ix2 (s.cfgPort k.port) k.udpIdx) then s.spduFrame (c 3) (u.payload k.data) k bufs
    else s.c37 (c 1) (u.payload k.data) k bufs

/-- A packet of an ingress queue parsed. -/
def State.queuePacket (s : State) (src : Nat) (k : IngPacket) (bufs : List Nat) : State × Fate :=
  match k.cls with
  | 0 => s.svFrame src k bufs
  | 1 => s.gooseFrame src k bufs
  | _ => s.udpPacket src k bufs

/-- The sources that hold a packet. -/
def State.sourceReady (s : State) (src : Nat) : Bool :=
  if src < 6 then !(s.ingQ src).packets.isEmpty else s.blockRuns (.ring .inj) && s.ringAvail .inj != 0

/-- The packet at the head of queue `src` parsed and removed. A packet whose last word has KIND 3 commits nothing. -/
def State.parseQueue (s : State) (src : Nat) (bufs : List Nat) : State :=
  match (s.ingQ src).packets with
  | [] => s
  | k :: _ =>
    let s1 := s.ingPop src
    if !k.good then s1
    else
      let r := s1.queuePacket src k bufs
      if r.2 = .dropped then r.1.count (Reg.ING_Q.DREGS.ix src) else r.1

/-- The frame at the head of the injection ring parsed, its descriptor completed (R224). Where the words at 0x10 are no valid time (R14),
the receive time is a free value (log entry 124). -/
def State.parseInjected (s : State) (j : InjFrame) (bufs : List Nat) : State :=
  let k : IngPacket := { port := bitsOf j.word 20 3 % 7, stamp := (taiOfBytes j.stamp).getD (s.freeVal 80), cls := 2, data := j.bytes }
  let s := if (taiOfBytes j.stamp).isSome then s else s.tookFree
  let r := s.c37 { src := 6, kind := 2, udp := 0, v6 := false, addr := [] } j.bytes k bufs
  ((r.1.descDone .inj (s.descAt .inj 0) j.word false (r.2 != .used) none).ringTake .inj 1)

/-- PARSE_PACKET: the next source in turn that holds a packet. -/
def execParsePacket (t : Tai) (j : InjFrame) (bufs : List Nat) (s : State) : Out :=
  .next (s.atInstant t fun s =>
    if !s.blockRuns .parser then s
    else
      match ((List.range 7).map fun i => (s.ing.last + 1 + i) % 7).find? s.sourceReady with
      | none => s
      | some src =>
        let s1 := { s with ing := { s.ing with last := src } }
        if src < 6 then s1.parseQueue src bufs else s1.parseInjected j bufs)

/-- PARSER_ENABLE (R106). -/
def execParserEnable (who : Requester) (en : Bool) (s : State) : Out :=
  .next (s.open_ who Reg.ING_CTL.EN.base fun s => s.enWrite .parser en id id)

/-! ### Re-templating (R237, R238, R241) -/

/-- A template command: ignored while one is in progress; its result shows when it completes. -/
def State.tplCommand (s : State) (f : State → State × Nat) : State :=
  if s.flag Reg.ING_TPL_STATUS.BUSY then s
  else
    let r := f s
    { r.1 with ing := { r.1.ing with tplJob := some r.2 } }.setFlag Reg.ING_TPL_STATUS.BUSY true

/-- The stream addressed. -/
def State.tplSel (s : State) : Nat := s.get Reg.ING_TPL_SEL.STREAM

/-- An item staged, in place of an earlier one for the same record. -/
def State.stageItem (x : StagedItem) (s : State) : State × Nat :=
  let rest := s.ing.staged.filter fun y => y.stream != x.stream || y.isRec != x.isRec
  if 32 ≤ rest.length then (s, 9)
  else ({ s with ing := { s.ing with staged := rest ++ [x] } }.showStaged, 1)

/-- The bytes of a buffer of registers. -/
def State.bufBytes (s : State) (f : Fld) (n : Nat) : Bytes := (List.range n).flatMap fun k => leBytes 4 (s.get (f.ix k))

/-- STAGE_TPL. -/
def State.stageTpl (s : State) : State :=
  s.tplCommand (State.stageItem { stream := s.tplSel, isRec := false, image := s.bufBytes Reg.ING_TPL_BUF.DATA 256 })
/-- STAGE_REC. -/
def State.stageRec (s : State) : State :=
  s.tplCommand (State.stageItem { stream := s.firstOf s.tplSel, isRec := true, image := s.bufBytes Reg.ING_REC_BUF.DATA 16 })

/-- A staged image. -/
def State.stagedOf (s : State) (i : Nat) (isRec : Bool) : Option Bytes :=
  (s.ing.staged.find? fun x => x.stream == i && x.isRec == isRec).map (·.image)

/-- A first record with the values that STAGE_REC may change. -/
def newRec (old img : Bytes) : Bytes :=
  let fl := leAt old 3 1 - bitsOf (leAt old 3 1) 1 2 * 2 + bitsOf (leAt img 3 1) 1 2 * 2
  old.take 3 ++ leBytes 1 fl ++ slice img 4 1 ++ slice old 5 3 ++ slice img 8 0x18 ++ old.drop 0x20

/-- Whether two first records could match the same packet (R227). -/
def recsCollide (a b : Bytes) : Bool :=
  let v6 := bitAt (recFlags a) 2
  let addr (x : Bytes) : Bytes := slice (recAddr x) 0 (if v6 then 16 else 4)
  recKind a == recKind b && Nat.land (recPorts a) (recPorts b) != 0 && recId a == recId b && (recKind a == 2 || recUdp a == recUdp b) &&
  (!bitAt (recFlags a) 1 || !bitAt (recFlags b) 1 || (v6 == bitAt (recFlags b) 2 && addr a == addr b))

/-- Every slot a template names, with repeats. -/
def tplNamed (t : Bytes) : List Nat :=
  ((List.range (tplEntries t)).map fun i => entSlot (tplEntry t i)) ++ [tplFreqSlot t, tplRocofSlot t].filter (· != 0xFFFF)

/-- Why a RESUME of the group whose first record is `f` is refused at slice `r`; 0 where it is not. Whether a staged key overflows its
bucket is a free bit (log entry 71). -/
def State.resumeFails (s : State) (f r : Nat) : Nat :=
  let is := s.groupOf f
  let tpls := is.map fun i => (s.stagedOf i false).getD (s.tplOf i)
  let staged := is.filterMap fun i => (s.stagedOf i false).map fun t => (i, t)
  let rec? := (s.stagedOf f true).map (newRec (s.recOf f))
  let named := tpls.flatMap tplNamed
  let others := ((List.range s.roast.streamCount).filter fun i => !is.contains i).flatMap s.slotsOf
  let firsts := (List.range s.roast.streamCount).filter fun i => i != f && recBlock (s.recOf i) == 0
  if recBlock (s.recOf f) ≠ 0 ∨ tpls.any fun t => tplType t != 1 then 3
  else if (staged.any fun e => !tplFieldsOk e.2 || tplRate e.2 * recDiv (s.recOf e.1) != s.fs) ||
      (match rec? with | some b => decide (128 ≤ recPorts b) | none => false) then 4
  else if named.eraseDups.length ≠ named.length ∨ named.any others.contains then 5
  else if 65536 < others.length + named.length then 6
  else match rec? with
    | some b => if firsts.any (fun i => recsCollide b (s.recOf i)) ∨ (4 ≤ firsts.length ∧ s.freeBit) then 7 else resumeSwap s r
    | none => resumeSwap s r
where
  /-- SWAP_PENDING. -/
  resumeSwap (s : State) (r : Nat) : Nat := if s.swapPending ∧ s.roasts.swapD ≤ r then 8 else 0

/-- RESUME. -/
def State.resume (s : State) : State :=
  let f := s.tplSel
  let r := sliceOf s.fs s.time.tai + 2
  s.tplCommand fun s =>
    let s0 := if (s.stagedOf f true).isSome then s.tookFree else s
    match s.resumeFails f r with
    | 0 =>
      let is := s.groupOf f
      let tpl := is.foldl (fun l i => match s.stagedOf i false with | some t => aset i t l | none => l) s.ing.liveTpl
      let recs := match s.stagedOf f true with
        | some b => aset f (newRec (s.recOf f) b) s.ing.liveRec
        | none => s.ing.liveRec
      let s1 := { s0 with ing := { s0.ing with
        liveTpl := tpl, liveRec := recs, staged := s0.ing.staged.filter fun x => !is.contains x.stream
        resume := aset f r s0.ing.resume } }
      (((is.foldl (fun s i => s.putStreamBit Reg.ING_SUSP.SUSP i true) s1).showStaged).set Reg.ING_TPL_RESUME_SLICE.SLICE r, 2)
    | e => (s0, e)

/-- SUSPEND. -/
def State.suspendCmd (s : State) : State := s.tplCommand fun s => (s.suspend .active (s.firstOf s.tplSel), 10)

/-- DISCARD. -/
def State.tplDiscard (s : State) : State :=
  s.tplCommand fun s =>
    let is := s.groupOf (s.firstOf s.tplSel)
    ({ s with ing := { s.ing with staged := s.ing.staged.filter fun x => !is.contains x.stream } }.showStaged, 11)

/-- STAGE_TPL: guarded. -/
def execStageTpl (who : Requester) (s : State) : Out := .next (s.guarded who Reg.ING_TPL_CMD.OP.base State.stageTpl)
/-- STAGE_REC: guarded. -/
def execStageRec (who : Requester) (s : State) : Out := .next (s.guarded who Reg.ING_TPL_CMD.OP.base State.stageRec)
/-- RESUME: guarded. A group's required set changes with its suspension, so closes are looked at. -/
def execResume (who : Requester) (s : State) : Out :=
  .next ((s.guarded who Reg.ING_TPL_CMD.OP.base State.resume).closes s)
/-- SUSPEND: guarded. -/
def execSuspend (who : Requester) (s : State) : Out :=
  .next ((s.guarded who Reg.ING_TPL_CMD.OP.base State.suspendCmd).closes s)
/-- TPL_DISCARD: guarded. -/
def execTplDiscard (who : Requester) (s : State) : Out := .next (s.guarded who Reg.ING_TPL_CMD.OP.base State.tplDiscard)

/-- TEMPLATE_COMMAND_DONE (R241). -/
def execTemplateCommandDone (s : State) : Out :=
  .next (
    match s.ing.tplJob with
    | none => s
    | some r =>
      (({ s with ing := { s.ing with tplJob := none } }.setFlag Reg.ING_TPL_STATUS.BUSY false).set Reg.ING_TPL_STATUS.RESULT r).ingIrq
        Reg.ING_IRQ.TPL_DONE)

/-! ### Keys and unclaimed IDs -/

/-- Loading NEXT from ING_KEY_ID and ING_KEY_DATA, which the load clears. -/
def State.ingKeyLoad (s : State) : State :=
  let i := s.get Reg.ING_KEY_SEL.STREAM
  let key := s.bufBytes Reg.ING_KEY_DATA.KEY 8
  let id := s.get Reg.ING_KEY_ID.ID
  let s1 := (List.range 8).foldl (fun s k => s.set (Reg.ING_KEY_DATA.KEY.ix k) 0) s
  if recKind (s.recOf i) = 3 then s1.setSpduKeys .active i { s1.spduKeys .active i with next := some (id, key) } else s1

/-- Erasing both keys. -/
def State.ingKeyErase (s : State) : State :=
  let i := s.get Reg.ING_KEY_SEL.STREAM
  if recKind (s.recOf i) = 3 then s.setSpduKeys .active i { s.spduKeys .active i with cur := none, next := none } else s

/-- ING_KEY_LOAD_NEXT: guarded. -/
def execIngKeyLoadNext (who : Requester) (s : State) : Out := .next (s.guarded who Reg.ING_KEY_CMD.OP.base State.ingKeyLoad)
/-- ING_KEY_ERASE: guarded. -/
def execIngKeyErase (who : Requester) (s : State) : Out := .next (s.guarded who Reg.ING_KEY_CMD.OP.base State.ingKeyErase)

/-- Every held ID goes. -/
def State.unclaimedClr (s : State) : State :=
  (List.range 8).foldl (fun s n =>
    ((((s.set (Reg.ING_UNCLAIMED_ID.KEY.ix n) 0).set (Reg.ING_UNCLAIMED_ID.SOURCE.ix n) 0).set (Reg.ING_UNCLAIMED_ID.KIND.ix n) 0).set
      (Reg.ING_UNCLAIMED_ID.ADDR.ix n) 0).setFlag (Reg.ING_UNCLAIMED_ID.VALID.ix n) false) s

/-- UNCLAIMED_CLR. -/
def execUnclaimedClr (who : Requester) (s : State) : Out := .next (s.open_ who Reg.ING_UNCLAIMED_CLR.CLR.base State.unclaimedClr)

/-! ### Local groups (R251) -/

/-- PHASOR_ESTIMATE: group g's estimate for its reporting slice n, formed at t once the group's windows are complete. A stream that is not
enabled has its channels discarded. -/
def execPhasorEstimate (g n : Nat) (t : Tai) (s : State) : Out :=
  .next (s.atInstant t fun s =>
    let g := g % 32
    let v := s.view (s.genOf n)
    match s.roast.groupRec g, v.roast.groupStream g with
    | some b, some i =>
      let x := s.fgroup g
      let tn := sliceTime s.fs n
      let after := match x.lastN with | some m => decide (m < n) | none => true
      if s.groupRuns g && n % max 1 (recDiv (v.recOf i)) == 0 && decide (x.resetAt ≤ tn) && after && s.estReady b g tn then
        let e := s.estimate b g tn
        let s1 := if v.streamOn i && !v.streamSusp i then
            s.enterFrame { streams := [i], t := tn, stamp := s.time.tai, writes := estWrites (v.tplOf i) e (s.tqAt tn) }
          else s
        s1.noteEstimate b g n e
      else s
    | _, _ => s)

end Sys2Proof.Machine
end

