-- ==== Sys2Proof/Machine/Stages.lean ====
section
/-! DEFINITION. The stages of the per-slice schedule as commands (R26 to R28): substitution (R278 to R282), the engines, the history write
(R289 to R292), host delivery (R293, R294), revision passes (R284, R285), retirement (R286), output streams (R295 to R298) and the fabric
watchdog (R527). -/

namespace Sys2Proof.Machine

/-- A stage's command at its instant: the engine takes its state over at the first slice of a new roast, works on the slice that is its
turn, and a close that waited for a place follows. -/
def State.stageAt (s : State) (k : Nat) (rep : StageReport) (f : State → Run → State) : State :=
  s.atInstant rep.stop fun s => s.inStage k rep fun s r => f (if r.region = s.activeRegion then s.carryNow k else s) r

/-- The tables and registers as they govern a closed slice. -/
def State.runView (s : State) (r : Run) : State :=
  if r.region = s.activeRegion then s.cfgOf r else (s.view .old).cfgOf r

/-! ### Substitution (R278 to R281) -/

/-- SLOT of a record. -/
def subSlot (b : Bytes) : Nat := leAt b 0 4
/-- POLICY. -/
def subPolicy (b : Bytes) : Nat := leAt b 4 1
/-- FALLBACK. -/
def subFallback (b : Bytes) : Nat := leAt b 5 1
/-- MAX_AGE. -/
def subMaxAge (b : Bytes) : Nat := leAt b 6 2

/-- A substitute: value, age, the policy that gave it. -/
structure Substitute where
  v : Cpx
  age : Nat
  policy : Nat
  deriving DecidableEq, Repr

/-- HOLD. -/
def subHold (n maxAge : Nat) (h : List (Nat × Cpx)) : Option Substitute :=
  match h with
  | (n1, v1) :: _ => if n - n1 ≤ maxAge then some { v := v1, age := n - n1, policy := 1 } else none
  | [] => none

/-- v1 + d (n − n1) / (n1 − n0). -/
def linearStep (v1 d : F32) (k m : Nat) : F32 := sumWide [v1, fDiv (fMul d (fOfInt k)) (fOfInt m)]

/-- LINEAR: a real slot, or a phasor in magnitude and angle. -/
def subLinear (phasor : Bool) (n maxAge : Nat) (h : List (Nat × Cpx)) : Option Substitute :=
  match h with
  | (n1, v1) :: (n0, v0) :: _ =>
    if n - n1 ≤ maxAge ∧ n1 - n0 ≤ maxAge ∧ n0 < n1 then
      let k := n - n1
      let m := n1 - n0
      let v : Cpx :=
        if phasor then
          let mag := linearStep (cAbs v1) (fSub (cAbs v1) (cAbs v0)) k m
          fcScale mag (cisF (linearStep (cArg v1) (fWrap (fSub (cArg v1) (cArg v0))) k m))
        else { re := linearStep v1.re (fSub v1.re v0.re) k m, im := fZero }
      some { v := v, age := k, policy := 2 }
    else none
  | _ => none

/-- The estimate PSEUDO reads for slice n: of the latest slice with a valid result that was complete before the substitution of n began
(R279); the output ring goes on across a swap (R322). -/
def State.pseudoSource (s : State) (r : Run) : Option LseOut :=
  let start := s.stageStart r 0
  let ok (o : LseOut) : Bool :=
    decide (o.n < r.n) && bitAt ((o.words[0]?).getD 0) 16 &&
    (match s.runs.find? fun x => x.n == o.n with
     | some x => match x.at? 5 with
       | some d => decide (d.stop ≤ start)
       | none => false
     | none => true)
  ((s.lse.ring.map (·.2)).filter ok).foldl (fun a o => match a with
    | some p => if p.n < o.n then some o else a
    | none => some o) none

/-- Σ H_ij x_j over a row's nonzeros. -/
def rowValue (b : Bytes) (x : List Cpx) : Option Cpx :=
  let ts := (rowTerms b).map fun t => (t.2, (x[t.1]?).getD cNaN)
  if ts.any fun t => cIsNaN t.2 then none
  else
    some { re := sumWide (ts.flatMap fun t => [fMul t.1.re t.2.re, fNegate (fMul t.1.im t.2.im)])
           im := sumWide (ts.flatMap fun t => [fMul t.1.re t.2.im, fMul t.1.im t.2.re]) }

/-- PSEUDO; a node without an estimate gives no value. -/
def State.subPseudo (s : State) (r : Run) (b : Bytes) : Option Substitute :=
  match s.pseudoSource r with
  | none => none
  | some o =>
    if r.n - o.n ≤ subMaxAge b then
      (rowValue ((s.runRoast r).lseRow (leAt b 8 4)) o.x).map fun v => { v := v, age := r.n - o.n, policy := 3 }
    else none

/-- A record's substitute for slice n. -/
def State.substitute (s : State) (r : Run) (b : Bytes) : Option Substitute :=
  let h := (alookup (subSlot b) s.aln.measured).getD []
  let first := match subPolicy b with
    | 1 => subHold r.n (subMaxAge b) h
    | 2 => subLinear ((s.runRoast r).slotKind (subSlot b) == 1) r.n (subMaxAge b) h
    | _ => s.subPseudo r b
  if first.isSome then first else if subFallback b = 1 then subHold r.n (subMaxAge b) h else none

/-- The quality word of a substituted slot. -/
def Substitute.slot (x : Substitute) : SlotVal := { v := x.v, q := 2 * min 4095 x.age + 2 ^ 14 * x.policy }

/-- The histories after slice n: a slot with a record keeps its two latest measured values. -/
def State.measure (s : State) (x : Slice) (recs : List Bytes) : State :=
  let m := recs.foldl (fun m b =>
    match alookup (subSlot b) x.slots with
    | some v => if qPresent v.q then aset (subSlot b) ((x.n, v.v) :: ((alookup (subSlot b) m).getD []).take 1) m else m
    | none => m) s.aln.measured
  { s with aln := { s.aln with measured := m } }

/-- Slots that are due and absent. -/
def State.absentDue (v : State) (x : Slice) : List Nat :=
  (((List.range v.roast.streamCount).filter fun i => v.streamDue i x.n).flatMap v.slotsOf).eraseDups.filter fun k => !x.present k

/-! ### Output streams (R295 to R298) -/

/-- A slot as an output block sends it: its value, and whether it is a substitute. -/
def outSlot (subst : Bool) (x : Slice) (k : Nat) : Option Cpx × Bool :=
  let v := x.slot k
  if qPresent v.q ∧ qSubst v.q = 0 then (some v.v, false) else if subst ∧ qSubst v.q ≠ 0 then (some v.v, true) else (none, false)

/-- A real value as four bytes. -/
def outReal (o : Option Cpx × Bool) : Bytes := beBytes 4 ((o.1.map (·.re)).getD fNaN).toNat

/-- A phasor as eight bytes. -/
def outPhasor (polar : Bool) (o : Option Cpx × Bool) : Bytes :=
  let v := o.1.getD cNaN
  if polar then beBytes 4 (cAbs v).toNat ++ beBytes 4 (cArg v).toNat else beBytes 4 v.re.toNat ++ beBytes 4 v.im.toNat

/-- STAT of a block (R297). -/
def outStat (x : Slice) (b : Bytes) (listed : List Nat) (sent : Bool) : Nat :=
  match (listed.filter x.present).mergeSort with
  | [] => 2 ^ 15 + 2 ^ 9 * b2n sent
  | k :: _ =>
    let q := (x.slot k).q
    let top := if !x.streams.contains (leAt b 4 2) then 2 else if qError q then 1 else if qTest q then 2 else 0
    2 ^ 14 * top + 2 ^ 13 * bitsOf q 3 1 + 2 ^ 11 * bitsOf q 5 1 + 2 ^ 10 * bitsOf q 6 1 + 2 ^ 9 * b2n sent + 2 ^ 6 * bitsOf q 10 3 +
      2 ^ 4 * bitsOf q 8 2

/-- One block of an output frame. -/
def outBlock (x : Slice) (polar subst : Bool) (b : Bytes) : Bytes :=
  let ph := leAt b 1 1
  let an := leAt b 2 1
  let dg := leAt b 3 1
  let slots := (List.range (ph + an + dg)).map fun i => leAt b (0x10 + 2 * i) 2
  let fr := outSlot subst x (leAt b 8 2)
  let ro := outSlot subst x (leAt b 0xA 2)
  let os := slots.map (outSlot subst x)
  let sent := (fr :: ro :: os).any (·.2)
  beBytes 2 (outStat x b (leAt b 8 2 :: leAt b 0xA 2 :: slots) sent) ++ (os.take ph).flatMap (outPhasor polar) ++ outReal fr ++ outReal ro ++
    ((os.drop ph).take an).flatMap outReal ++
    (os.drop (ph + an)).flatMap fun o => beBytes 2 (((o.1.map fun v => v.re.toNat % 65536)).getD 0)

/-- An output stream's data frame for slice n. -/
def State.outFrame (s : State) (ro : Roast) (x : Slice) (b : Bytes) : Bytes :=
  let sf := s.socFrac (sliceTime ro.rate x.n) (leAt b 0x14 4) (x.quality % 16)
  let blocks := (List.range (leAt b 0xA 2)).flatMap fun i =>
    outBlock x (bitAt (leAt b 6 1) 0) (leAt b 0x18 1 == 1) (ro.recAt 0x15 (leAt b 0xC 4 + i))
  c37Frame (leAt b 8 2) sf.1 sf.2 blocks

/-- An output stream assembles its frame and posts it; a UDP item completes at once. -/
def State.outPost (s : State) (ro : Roast) (x : Slice) (k : Nat) (b : Bytes) : State :=
  let tcp := leAt b 4 1 == 2
  let v6 := leAt b 4 1 == 1
  let data := s.outFrame ro x b
  let ident := (alookup k s.aln.ident).getD 0
  let h : UdpHead :=
    { v6 := v6, dstMac := slice b 0x20 6, srcMac := s.srcMac (leAt b 2 1), tci := leAt b 0x1E 2, dscp := leAt b 0x26 1, ttl := leAt b 0x19 1
      ident := ident, srcIp := ipAt b 0x38 v6, dstIp := ipAt b 0x28 v6, srcPort := leAt b 0x1C 2, dstPort := leAt b 0x1A 2 }
  let s1 := if tcp then s else { s with aln := { s.aln with ident := aset k ((ident + 1) % 65536) s.aln.ident } }
  let f := leAt b 7 1
  match s1.post f (some (k, x.n, if tcp then data else h.frame data, x.closeAt + leAt b 0x10 4 * usUnit)) with
  | (s2, some q) => if tcp then s2 else s2.complete f q
  | (s2, none) => s2.count (Reg.ALN.OUT_DROP.ix k)

/-- Every output frame of a slice. -/
def State.outputs (s : State) (r : Run) : State :=
  let ro := s.runRoast r
  r.outputs.foldl (fun s k =>
    match ro.outRec k with
    | some b => if r.n % max 1 (leAt b 5 1) = 0 then s.outPost ro (s.sliceAt r.n) k b else s
    | none => s) s

/-- The substitution stage. -/
def State.substitution (s : State) (r : Run) (rep : StageReport) : State :=
  let ro := s.runRoast r
  let d := (s.reading r.region 0).section r.region 0x14 0 false
  let s0 := d.s
  let x := s0.facts (s0.sliceAt r.n)
  let all := ro.recs 0x14
  let recs := ((List.range all.length).filter fun i => !ro.recBad d.bad 0x14 i).filterMap fun i => all[i]?
  let subs := ((s0.runView r).absentDue x).map fun k =>
    match (recs.find? fun b => subSlot b == k).bind (s0.substitute r) with
    | some u => (k, u.slot)
    | none => (k, ({ v := cNaN, q := 0x2000 } : SlotVal))
  let done := (subs.filter fun e => qSubst e.2.q != 0).length
  let y := { x with state := 3, subs := subs, subst := done, unsubst := subs.length - done }
  let s1 := (((s0.measure x recs).setSlice y).count Reg.ALN.SUBST done).count Reg.ALN.UNSUBST (subs.length - done)
  let s2 := (s1.tileHealth.stageEnd r 0 rep (if d.bad.isEmpty then 1 else 2)).sendShares y
  if 3 ≤ r.shed then s2 else s2.outputs r

/-- SUBSTITUTION (R280). -/
def execSubstitution (rep : StageReport) (s : State) : Out := .next (s.stageAt 0 rep fun s r => s.substitution r rep)

/-! ### Engines -/

/-- ALARM_PASS_1 (R380). -/
def execAlarmPass1 (rep : StageReport) (s : State) : Out := .next (s.stageAt 1 rep fun s r => s.alarmPass r 1 rep)
/-- TOPOLOGY_ENGINE (R357). -/
def execTopologyEngine (rep : StageReport) (s : State) : Out := .next (s.stageAt 2 rep fun s r => s.topoStage r rep)
/-- ISLAND_ENGINE (R364). -/
def execIslandEngine (rep : StageReport) (s : State) : Out := .next (s.stageAt 3 rep fun s r => s.islandStage r rep)
/-- OSCILLATION_ENGINE (R326). With step 4 shed the engine executes exactly HANDSHAKES − SLOW_HS (R342). -/
def execOscillationEngine (rep : StageReport) (s : State) : Out := .next (s.stageAt 4 rep fun s r => s.oscStage r rep)
/-- LSE_STAGE (R315), with the tests of the sweep units that follow it (R532). -/
def execLseStage (rep : StageReport) (s : State) : Out := .next (s.stageAt 5 rep fun s r => s.lseAndTests r rep)
/-- ALARM_PASS_2 (R380), with the judgement of the slice (R524, R525). -/
def execAlarmPass2 (rep : StageReport) (s : State) : Out := .next (s.stageAt 6 rep fun s r => s.alarmPass2 r rep)
/-- CAPTURE_SLICE_ENTRIES (R401). -/
def execCaptureSliceEntries (rep : StageReport) (s : State) : Out := .next (s.stageAt 8 rep fun s r => s.captureStage r rep)

/-! ### History (R289 to R292) -/

/-- A slice's record takes its history position: an older slice's goes, and WSEQ rises by 2 from where the position stood. -/
def State.takePosition (s : State) (x : Slice) (state : Nat) : State :=
  let p := x.n % 14400
  let w := s.aln.slices.foldl (fun w e => if e.1 % 14400 = p then max w e.2.wseq else w) 0
  let s1 := { s with aln := { s.aln with slices := s.aln.slices.filter fun e => e.1 % 14400 != p || e.1 == x.n } }
  (s1.setSlice { x with state := state, wseq := (w + 2) % 2 ^ 32 }).showOpen

/-- HISTORY_WRITE (R292). -/
def execHistoryWrite (rep : StageReport) (s : State) : Out :=
  .next (s.stageAt 7 rep fun s r => (s.takePosition (s.sliceAt r.n) 4).stageEnd r 7 rep 1)

/-- A 4-bit array as bytes, low nibble first. -/
def nibbles (f : Nat → Nat) (n : Nat) : Bytes := (List.range n).map fun i => BitVec.ofNat 8 (f (2 * i) % 16 + 16 * (f (2 * i + 1) % 16))

/-- The header unit of a slice (R290). -/
def Slice.headerUnit (x : Slice) (fs : Nat) : Bytes :=
  let a := leBytes 8 x.n ++ leBytes 4 x.wseq ++ leBytes 1 x.state ++ leBytes 1 x.reason ++ leBytes 2 x.flags ++ leBytes 4 x.tag ++
    leBytes 4 x.revCount ++ taiBytes (sliceTime fs x.n) ++ taiBytes x.closeAt ++ leBytes 4 x.lastRevMs ++ leBytes 4 0 ++ leBytes 4 x.reqSet ++
    leBytes 4 x.reqPresent ++ leBytes 4 x.streamsPresent ++ leBytes 4 x.slotsPresent ++ leBytes 4 x.subst ++ leBytes 4 x.unsubst ++
    leBytes 4 x.dup ++ leBytes 2 x.cls ++ leBytes 2 x.lastReq ++ leBytes 4 x.bUs ++ leBytes 4 (codeOf 32 x.lastArrival) ++
    leBytes 4 (codeOf 32 (saturate 32 x.margin)) ++ leBytes 4 x.engineState ++ leBytes 1 (b2n x.certified) ++ leBytes 1 x.shed ++
    leBytes 2 x.quality ++ leBytes 4 x.tsuErr ++ leBytes 8 (codeOf 64 x.step)
  padTo 0x400 a ++ nibbles (fun i => (alookup i x.status).getD 0) 4096 ++
    (List.range 8192).map (fun i => BitVec.ofNat 8 ((List.range 8).foldl (fun v j => v + 2 ^ j * b2n (x.revBits.contains (8 * i + j))) 0)) ++
    List.replicate 2048 0

/-- A byte of the slot area of a slice: values at 8 × slot, quality words from 524,288 on (R289). -/
def Slice.slotByte (x : Slice) (o : Nat) : Byte :=
  if o < 524288 then ((cBytes (x.slot (o / 8)).v)[o % 8]?).getD 0
  else ((leBytes 2 (x.slot ((o - 524288) / 2)).q)[o % 2]?).getD 0

/-- The slot area of a slice (R289). -/
def Slice.slotArea (x : Slice) : Bytes := (List.range 655360).map x.slotByte

/-- The region offset of position 0's header unit (R289). -/
def headerBase : Nat := 0x232800000

/-- The region offset of the unused part of slice history (R289). -/
def historyUnused : Nat := 0x23FAF0000

/-! ### Host delivery (R293, R294) -/

/-- Descriptors of the host ring. -/
def State.hostN (s : State) : Nat := 2 ^ clampN 2 10 (s.get Reg.ALN_HOST_RING.SIZE_LOG2)

/-- An event of the host ring, at most once per HOLDOFF µs; one that must wait is raised when the holdoff ends. -/
def State.hostRaise (s : State) : State :=
  let due := match s.aln.hostEv with
    | none => true
    | some (l, _) => decide (l + s.get Reg.ALN_HOST_RING.HOLDOFF * usUnit ≤ s.time.elapsed)
  if due then ({ s with aln := { s.aln with hostEv := some (s.time.elapsed, false) } }).alnIrq Reg.ALN_IRQ.HOST
  else { s with aln := { s.aln with hostEv := s.aln.hostEv.map fun e => (e.1, true) } }

/-- A host-ring event that HOLDOFF kept back. -/
def State.hostLate (s : State) : State :=
  match s.aln.hostEv with
  | some (_, true) => s.hostRaise
  | _ => s

/-- RING_EVENT_HOLDOFF_EXPIRY (R164, R294): of a descriptor ring, or with none of the host ring. -/
def execRingEventHoldoffExpiry (r : Option Ring) (t : Tai) (s : State) : Out :=
  .next (match r with
  | some r => (s.moveTo t).ringLate r
  | none => (s.moveTo t).hostLate)

/-- A slice delivered into the buffer that the descriptor at HEAD names; `buf` is its BUF_ADDR. -/
def State.deliverSlice (s : State) (x : Slice) (final : Bool) (buf : Nat) : State :=
  if !s.blockRuns .hostRing then s
  else
    let n := s.hostN
    let head := s.get Reg.ALN_HOST_RING.HEAD % n
    if (s.get Reg.ALN_HOST_RING.TAIL + n - head) % n = 0 then (s.count Reg.ALN.HOST_MISS).alnIrq Reg.ALN_IRQ.HOST_MISS
    else
      let only := s.flag Reg.ALN_HOST_RING.MODE
      let lse := (alookup (x.n % 512) s.lse.ring).filter fun o => o.n == x.n && bitAt ((o.words[0]?).getD 0) 16
      let s1 := s.emit (.dma buf (x.headerUnit s.fs))
      let s2 := if only then s1 else s1.emit (.dma (buf + 16384) x.slotArea)
      let s3 := match lse with
        | some o => if only then s2 else s2.emit (.dma (buf + 671744) o.bytes)
        | none => s2
      let word := b2n final + 2 * b2n only + 4 * b2n (only || lse.isNone) + 2 ^ 31
      let s4 := s3.emit (.dma (s.get Reg.ALN_HOST_RING.BASE + 32 * head + 8) (leBytes 8 x.n ++ leBytes 4 word ++ leBytes 4 x.wseq))
      let y := s4.sliceAt x.n
      ((s4.setSlice { y with flags := setBit y.flags 5 true }).set Reg.ALN_HOST_RING.HEAD ((head + 1) % n)).hostRaise

/-- SCHEDULE_DONE_NOTICE (R26, R293): the delivery follows, and while rank 3 is shed the slice's output frames (R529). -/
def execScheduleDoneNotice (rep : StageReport) (buf : Nat) (s : State) : Out :=
  .next (s.stageAt 9 rep fun s r =>
    let s1 := s.stageEnd r 9 rep 1
    let s2 := if 3 ≤ r.shed then s1.outputs r else s1
    s2.deliverSlice (s2.sliceAt r.n) false buf)

/-- HOST_RING_ENABLE (R293). -/
def execHostRingEnable (who : Requester) (en : Bool) (s : State) : Out :=
  .next (s.open_ who Reg.ALN_HOST_RING.EN.base fun s => s.enWrite .hostRing en id id)

/-! ### Revisions (R284 to R286) -/

/-- A journalled frame applied to a slice in REVISING. -/
def State.revise (s : State) (n : Nat) (f : AlnFrame) : State :=
  let x := s.sliceAt n
  let a := x.put f.writes
  let s1 := if a.2.2 then s.count Reg.ALN.DUPLICATE else s
  if a.2.1 = 0 then s1
  else
    let fresh := (f.writes.map (·.1)).filter fun k => !x.present k
    let ms := (s.time.tai - x.closeAt) / msUnit
    (s1.setSlice { a.1 with
      revBits := x.revBits ++ fresh.eraseDups.filter fun k => !x.revBits.contains k
      status := f.streams.foldl (fun l i => aset i 4 l) x.status, revCount := x.revCount + 1, flags := setBit x.flags 2 true
      lastRevMs := min ms (2 ^ 32 - 1), dup := x.dup + b2n a.2.2 }).alnIrq Reg.ALN_IRQ.REVISED

/-- The frames that a pass examines: up to 4,096 entry positions, whole frames. -/
def examined : Nat → List (Nat × AlnFrame) → List (Nat × AlnFrame) × List (Nat × AlnFrame)
  | _, [] => ([], [])
  | left, e :: r =>
    if e.2.writes.length ≤ left then
      let a := examined (left - e.2.writes.length) r
      (e :: a.1, a.2)
    else ([], e :: r)

/-- One revision pass: WSEQ rises by 2 at each position it touches. -/
def State.revisionPass (s : State) : State :=
  let a := examined 4096 s.aln.journal
  let ready (e : Nat × AlnFrame) : Bool := match s.slice? e.1 with | some x => x.state == 4 | none => false
  let todo := a.1.filter ready
  let s1 := todo.foldl (fun s e => s.revise e.1 e.2) { s with aln := { s.aln with journal := a.1.filter (fun e => !ready e) ++ a.2 } }
  let touched := (todo.map (·.1)).eraseDups.filter fun n => (s1.sliceAt n).revCount != (s.sliceAt n).revCount
  (touched.foldl (fun s n => let x := s.sliceAt n; s.setSlice { x with wseq := (x.wseq + 2) % 2 ^ 32 }) s1).showJournal

/-- REVISION_PASS (R284): nothing is applied while passes are shed. -/
def execRevisionPass (rep : StageReport) (s : State) : Out :=
  .next (s.stageAt 10 rep fun s r => (if 1 ≤ r.shed then s else s.revisionPass).stageEnd r 10 rep 1)

/-- A slice retires; with REDELIVER set and REVISED it is delivered again. -/
def State.retireSlice (s : State) (x : Slice) (buf : Nat) : State :=
  let y := { x with state := 5 }
  let s1 := s.setSlice y
  if s.flag Reg.ALN_HOST_RING.REDELIVER ∧ bitAt x.flags 2 then s1.deliverSlice y true buf else s1

/-- Slices in REVISING whose window has passed and for which no journal entry remains, in index order. -/
def State.retirable (s : State) : List Slice :=
  ((s.aln.slices.map (·.2)).filter fun x =>
    x.state == 4 && decide (x.closeAt + x.window < s.time.tai) && !(s.aln.journal.any fun e => e.1 == x.n)).mergeSort fun a b => decide (a.n ≤ b.n)

/-- SLICE_RETIRE (R286): `bufs` are the BUF_ADDR of the ring's descriptors from HEAD on, one for each slice that retires. -/
def execSliceRetire (t : Tai) (bufs : List Nat) (s : State) : Out :=
  .next (s.atInstant t fun s =>
    let xs := s.retirable
    ((List.range xs.length).zip xs).foldl (fun s e => s.retireSlice e.2 ((bufs[e.1]?).getD 0)) s)

/-! ### The fabric watchdog (R527) -/

/-- FABRIC_WATCHDOG: stages not complete by C + 3,000 µs are ended; a slice without a history write then goes on to REVISING (log
entry 75). -/
def execFabricWatchdog (t : Tai) (s : State) : Out :=
  .next (s.atInstant t fun s =>
    let late := (s.runs.filter fun r => decide (r.closeAt + 3000 * usUnit ≤ s.time.tai)).map (·.n)
    late.foldl (fun s n => match s.slice? n with
      | some x => if x.state ≤ 3 then (s.setSlice { x with state := 4 }).showOpen else s
      | none => s) (s.watchdogs s.time.tai))

end Sys2Proof.Machine
end

