-- ==== Sys2Proof/Machine/Tick.lean ====
section
/-! DEFINITION. The 1 ms tick as one command (R190, R195, R250, R287, R408, R425), and the end of a block's shutdown (R106). -/

namespace Sys2Proof.Machine

/-! ### TIME_BASE_TICK -/

/-- Instants of the pace monitor told in the new time after a step. -/
def State.paceStep (s : State) (d : Int) : State :=
  { s with pace := { s.pace with
    hotAt := s.pace.hotAt.map fun t => addTai t d
    windows := s.pace.windows.map fun (w : PaceWindow) => { w with t := addTai w.t d } } }

/-- What follows a step applied at this tick: filter chain, energy engine, capture records, pace monitor, aligner. -/
def State.stepFollows (s : State) : State :=
  match s.time.stepped with
  | none => s
  | some d =>
    let s1 := { s with time := { s.time with stepped := none } }
    ((((s1.fltStep).nrgStep d).capFlag 0).paceStep d).alnStep d

/-- The time quality of this tick, for local slots committed until the next (R233). -/
def State.noteTq (s : State) : State :=
  let q := 1024 * s.get Reg.TSU_QUALITY.STAT_TQ + 256 * s.get Reg.TSU_QUALITY.UNLOCKED + 8 * s.get Reg.TSU_QUALITY.SYNC_ERR
  { s with flt := { s.flt with tq := ((s.time.tai, q) :: s.flt.tq).take 1024 } }

/-- An interval in which TIME_VALID is 0 carries TIME_INVALID (R425). -/
def State.nrgInvalid (s : State) : State :=
  if s.flag Reg.NRG_CTL.BUSY && !s.flag Reg.TSU_STATUS.TIME_VALID then s.nrgFlag 1 else s

/-- A 1 ms tick falls at t (R188, R190): a TAI instant whose nanoseconds are a multiple of 1,000,000, not passed and not ticked yet. -/
def State.tickAt (s : State) (t : Tai) : Bool := t % msUnit == 0 && decide (s.time.tai ≤ t) && s.time.lastTick != some t

/-- TIME_BASE_TICK (R195): closes up to the tick, the tick itself, what a step brings, and the registers that count milliseconds. At any other
instant there is no tick. -/
def execTimeBaseTick (t : Tai) (s : State) : Out :=
  .next (
    if !s.tickAt t then s
    else
    let s1 := (s.moveTo t).closes s
    let s2 := s1.timeTick t
    let s3 := if s2.time.stepped.isSome then s2.stepFollows else s2.closes s1
    let s4 := (s3.noteTq).nrgInvalid.txnTick
    if s4.boot.inReset then s4 else s4.count Reg.BOOT_ELAPSED.ELAPSED)

/-! ### BLOCK_SHUTDOWN_COMPLETE (R106, R277) -/

/-- Whether a block that is shutting down can have quiesced: the capture engine when no record is filling, the aligner when every closed
slice has its history written, a port and a transmit ring when no frame of theirs is being sent, fragments included (R186), an ingress
queue when it is empty (R173), the energy engine when the save in progress is done. -/
def State.quiet (s : State) : Block → Bool
  | .port p => (s.port p).cur.isNone && (s.port p).held.isNone
  | .ring (.tx p r) => (s.port p).sending.all fun f => f.src != .ring p r
  | .ring (.ptp p) => (s.port p).sending.all fun f => f.src != .ptp p
  | .ingQueue n => (s.ingQ n).packets.isEmpty
  | .capture => !(s.cap.recs.any fun e => e.2.state == 1)
  | .energy => s.nrg.saving.isNone
  | .aligner => s.collecting.isEmpty && s.runs.all fun r => r.has 7
  | _ => true

/-- The aligner's shutdown completes: the journal is emptied without revising, and what is REVISING retires; `bufs` as for SLICE_RETIRE. -/
def State.alnStopped (bufs : List Nat) (s : State) : State :=
  let s1 := ({ s with aln := { s.aln with journal := [] } }).showJournal
  let xs := ((s1.aln.slices.map (·.2)).filter fun x => x.state == 4).mergeSort fun a b => decide (a.n ≤ b.n)
  (((List.range xs.length).zip xs).foldl (fun s e => s.retireSlice e.2 ((bufs[e.1]?).getD 0)) s1).showOpen

/-- What a block does as its shutdown completes. -/
def State.blockStopped (s : State) (bufs : List Nat) : Block → State
  | .port p => s.portStopped p
  | .filter => s.groupsStop
  | .filterGroup _ => s.showSdm
  | .aligner => s.alnStopped bufs
  | .alarm => s.almStopped
  | .cascade => s.casStopped
  | .ring _ | .ingQueue _ | .parser | .hostRing | .capture | .energy => s

/-- A start that a pending re-enable brings: the same as a start from stopped. -/
def State.blockStart (s : State) : Block → State
  | .port p => s.portStart p
  | .filter => s.chainStart
  | .filterGroup g => if s.groupRuns g then s.fullReset g else s
  | .aligner => s.alnStart
  | .alarm => s.almStart
  | .energy => s.nrgStart
  | .ring _ | .ingQueue _ | .parser | .hostRing | .capture | .cascade => s

/-- BLOCK_SHUTDOWN_COMPLETE. -/
def execBlockShutdownComplete (b : Block) (bufs : List Nat) (s : State) : Out :=
  .next (
    if !s.stopping b || !s.quiet b then s
    else
      let a := (s.blockStopped bufs b).enQuiesced b
      if a.2 then a.1.blockStart b else a.1)

end Sys2Proof.Machine
end

