-- ==== Sys2Proof/Machine/Boot.lean ====
section
/-! DEFINITION. The boot ledger, resets, safe mode, quarantine, health and the watchdog (R50, R53 to R61, R66 to R88, R472 to R474, R492,
R544, R545). What the work of a step finds outside the block is the step's report. -/

namespace Sys2Proof.Machine

/-! ### Ledger entries (R71 to R73) -/

/-- A field of step k's ledger entry. -/
def State.led (s : State) (f : Fld) (k : Nat) : Nat := s.get (f.ix ((k - 1) % 16))
/-- A field of step k's ledger entry written in the backup domain, whose CRC-32C every write renews (R76, R477). -/
def State.setLed (s : State) (f : Fld) (k v : Nat) : State :=
  { s.set (f.ix ((k - 1) % 16)) v with ledger := { s.ledger with copyOk := true } }
/-- Step k's entry as its register reads. -/
def State.ledWord (s : State) (k : Nat) : Nat :=
  s.led Reg.BOOT_LEDGER.OUTCOME k + 16 * s.led Reg.BOOT_LEDGER.ATTEMPTS k + 64 * s.led Reg.BOOT_LEDGER.ALT k +
  128 * s.led Reg.BOOT_LEDGER.STORED k + 256 * s.led Reg.BOOT_LEDGER.DURATION k + 2 ^ 24 * s.led Reg.BOOT_LEDGER.DETAIL k

/-- The sixteen steps. -/
def steps : List Nat := (List.range 16).map (· + 1)

/-- The NVS copy takes every entry as it stands. -/
def State.saveAll (s : State) : State := { s with nvs := { s.nvs with ledger := steps.map s.ledWord, ledgerOk := true } }

/-- From step 3 onward an entry goes to the NVS as well. -/
def State.saveLed (s : State) (k : Nat) : State :=
  if k < 3 then s
  else { s with nvs := { s.nvs with ledger := setAt (s.ledWord k) (k - 1) (s.nvs.ledger ++ List.replicate (16 - s.nvs.ledger.length) 0) } }

/-- Step k's entry from a word of the NVS copy. -/
def State.loadLed (s : State) (k w : Nat) : State :=
  (((((s.setLed Reg.BOOT_LEDGER.OUTCOME k (bitsOf w 0 4)).setLed Reg.BOOT_LEDGER.ATTEMPTS k (bitsOf w 4 2)).setLed
    Reg.BOOT_LEDGER.ALT k (bitsOf w 6 1)).setLed Reg.BOOT_LEDGER.STORED k (bitsOf w 7 1)).setLed
    Reg.BOOT_LEDGER.DURATION k (bitsOf w 8 16)).setLed Reg.BOOT_LEDGER.DETAIL k (bitsOf w 24 8)

/-! ### Slot groups (R71, R73) -/

/-- Steps of the firmware group. -/
def fwSteps : List Nat := [4, 10]
/-- Steps of the roast group. -/
def roastSteps : List Nat := [7, 8, 9]

/-- The slot a group uses in this start: after a failure the other one than it failed on, else the remembered one, else the preferred. -/
def State.groupSlot (s : State) (group : List Nat) (fail good : Option Bool) (pref : Bool) : Bool :=
  match (if group.any fun k => s.led Reg.BOOT_LEDGER.ATTEMPTS k != 0 then fail else none) with
  | some f => !f
  | none => good.getD pref

/-- A step of a group has failed on a slot. -/
def State.noteFail (s : State) (k : Nat) (fwSlot roastSlot : Bool) : State :=
  if k ∈ fwSteps then { s with ledger := { s.ledger with fwFail := some fwSlot } }
  else if k ∈ roastSteps then { s with ledger := { s.ledger with roastFail := some roastSlot } }
  else s

/-- Every step of a group has passed on its slot: it is remembered where it is not the preferred one. -/
def State.notePass (s : State) (k : Nat) : State :=
  let f := s.flag Reg.BOOT_STATUS.FW_SLOT
  let r := s.flag Reg.BOOT_STATUS.ROAST_SLOT
  if k = 10 then { s with ledger := { s.ledger with fwFail := none, fwGood := if f = s.nvs.fwPref then none else some f } }
  else if k = 9 then { s with ledger := { s.ledger with roastFail := none, roastGood := if r = s.nvs.roastPref then none else some r } }
  else s

/-! ### The previous start's entries (R72, R75, R81) -/

/-- One entry decided and closed. -/
def State.closeEntry (s : State) (k : Nat) : State :=
  let o := s.led Reg.BOOT_LEDGER.OUTCOME k
  let wdt := decide (3 ≤ s.get Reg.BOOT_CAUSE.KIND)
  let alt := s.led Reg.BOOT_LEDGER.ALT k == 1
  if o = 1 ∧ wdt then
    ((s.setLed Reg.BOOT_LEDGER.OUTCOME k 7).setLed Reg.BOOT_LEDGER.DETAIL k 0).noteFail k (s.nvs.fwPref != alt) (s.nvs.roastPref != alt)
  else if o = 1 ∨ o = 9 then
    ((s.setLed Reg.BOOT_LEDGER.OUTCOME k 8).setLed Reg.BOOT_LEDGER.DETAIL k 0).setLed Reg.BOOT_LEDGER.ATTEMPTS k
      (s.led Reg.BOOT_LEDGER.ATTEMPTS k - 1)
  else if 2 ≤ o ∧ o ≤ 5 then s.setLed Reg.BOOT_LEDGER.ATTEMPTS k 0
  else s

/-- The remembered slots stand in the entries of their groups until the steps are entered. -/
def State.showMemory (s : State) (k : Nat) : State :=
  if k ∈ fwSteps then s.setLed Reg.BOOT_LEDGER.ALT k (b2n (match s.ledger.fwGood with | some x => x != s.nvs.fwPref | none => false))
  else if k ∈ roastSteps then
    s.setLed Reg.BOOT_LEDGER.ALT k (b2n (match s.ledger.roastGood with | some x => x != s.nvs.roastPref | none => false))
  else s

/-- The processing of R72 for the entries of a list of steps. -/
def State.processLedger (s : State) (ks : List Nat) : State :=
  let s1 := ks.foldl State.closeEntry s
  let s2 := s1.logOwn 4 0 (steps.flatMap fun k => leBytes 4 (s1.ledWord k))
  let s3 := ks.foldl (fun s k => ((s.setLed Reg.BOOT_LEDGER.OUTCOME k 0).setLed Reg.BOOT_LEDGER.DETAIL k 0).showMemory k) s2
  { s3 with boot := { s3.boot with safeStep := steps.find? fun k => s3.led Reg.BOOT_LEDGER.ATTEMPTS k == 3 } }

/-! ### Resets (R56, R60, R85 to R87) -/

/-- Registers, cores, fabric and ports cleared; `keep` where the PCIe link with its configuration space and the Carafe are kept: captures,
history and open buffers stay there (R85). -/
def State.cleared (s : State) (kind : Nat) (keep : Bool) : State :=
  { pending := s.pending, bkp := s.bkp, fuse := s.fuse, freeCount := s.freeCount, out := s.out, ledger := s.ledger
    env := { s.env with link := s.env.link && keep }
    host := { msix0 := if keep then s.host.msix0 else [], msix1 := if keep then s.host.msix1 else [] }
    fuses := s.fuses, nvs := s.nvs, backup := s.backup, boot := { inReset := true, kind := kind }
    pins := { pwrOn := s.pins.pwrOn }, time := { elapsed := s.time.elapsed }, keys := { newChain := s.keys.newChain }
    aln := { kept := if keep then s.aln.kept ++ s.aln.slices else [] }
    cap := { recs := if keep then s.cap.recs else [] } }

/-- A reset begins: pulses cut short, the residual pushed, a save and a journal update cut off, a swap abandoned, then everything cleared. -/
def State.doReset (s : State) (kind step also : Nat) (brown : Bool) : State :=
  let swap := s.get Reg.CFG_SWAP_RESULT.STATE != 0
  let s1 := (((s.cutPulses).nrgPush).cutSave).cutJournal
  let s2 := { s1 with ledger := { s1.ledger with swapAbandoned := s1.ledger.swapAbandoned || swap } }.cleared kind (decide (2 ≤ kind))
  (((s2.set Reg.BOOT_CAUSE.KIND kind).set Reg.BOOT_CAUSE.STEP step).set Reg.BOOT_CAUSE.ALSO also).setFlag Reg.BOOT_CAUSE.BROWNOUT brown

/-- A reset of a kind occurs; `co` where it comes within 1 µs of the one in force: the higher kind governs, the other is recorded. -/
def State.reset_ (s : State) (kind : Nat) (co brown : Bool) : State :=
  let k := s.boot.kind
  let also := s.get Reg.BOOT_CAUSE.ALSO
  if !s.boot.inReset then s.doReset kind 0 0 brown
  else if kind < k then s.doReset kind 0 (if co then setBit also k true else 0) brown
  else if kind = k then (if kind = 0 then s.doReset 0 0 also brown else s)
  else if co then s.set Reg.BOOT_CAUSE.ALSO (setBit also kind true)
  else s

/-- POWER_ON_RESET (R47, R55, R56): at power-up, or for a dip of 2 µs or more; between 1 µs and 2 µs its acceptance is free. -/
def execPowerOnReset (dipNs : Nat) (powerUp : Bool) (rails : Rails) (co : Bool) (s : State) : Out :=
  .next (
    let s0 := { s with
      ledger := { s.ledger with badPowerDown := s.ledger.badPowerDown || !rails.orderly }
      env := { s.env with io18 := rails.io18, io33 := rails.io33, sdMv := rails.sdMv } }
    if powerUp then s0.reset_ 0 co false
    else if dipNs < 1000 then s
    else if dipNs < 2000 then (if s.freeBit then (s0.reset_ 0 co true).tookFree else s.tookFree)
    else s0.reset_ 0 co true)

/-- RESET_N_ASSERT (R50): a low of `lowNs`; between 100 ns and 200 ns its acceptance is free. -/
def execResetNAssert (lowNs : Nat) (co : Bool) (s : State) : Out :=
  .next (s.glitch lowNs fun s => s.reset_ 1 co false)

/-- PERST_N_ASSERT (R85, R101): the PCIe side only, its MSI-X tables among it; owner state ends. -/
def execPerstNAssert (s : State) : Out :=
  .next { s with env := { s.env with perst := true, link := false }, host := { s.host with msix0 := [], msix1 := [] } }.endOwner

/-- PERST_N_RELEASE: the lanes proceed per PCIe Base 4.0. -/
def execPerstNRelease (s : State) : Out := .next { s with env := { s.env with perst := false, link := true } }

/-- HOST_SOFT_RESET (R87, R545): guarded; any other value than the key is ignored. A coincident one comes from a requester that might write
it. -/
def execHostSoftReset (who : Requester) (w : SoftReset) (s : State) : Out :=
  .next (
    if w.key ≠ 0x5AFE0001 then s.guarded who Reg.BOOT_SOFTRST.KEY.base id
    else if s.boot.inReset then (if w.co then s.reset_ 2 true false else s)
    else s.guarded who Reg.BOOT_SOFTRST.KEY.base fun s => s.reset_ 2 false false)

/-! ### Safe mode and quarantine (R79, R473) -/

/-- Blocks with EN, BUSY and PEND, but for descriptor rings, which move nothing while their ports are stopped. -/
def stoppedBlocks : List Block :=
  (List.range 7).map Block.port ++ (List.range 6).map Block.ingQueue ++ (List.range 32).map Block.filterGroup ++
  [.parser, .filter, .aligner, .hostRing, .alarm, .capture, .energy, .cascade]

/-- Every block stops where it stands. -/
def State.stopBlocks (s : State) : State :=
  stoppedBlocks.foldl (fun s b => (s.setFlag b.busy false).setFlag b.pend false) s

/-- The pins of safe mode (R59, R60). -/
def State.safePins (s : State) : State :=
  { s with pins := { pwrOn := s.pins.pwrOn, calibrated := s.pins.calibrated }
           cap := { s.cap with lines := s.cap.lines.map fun (e : Nat × XLine) => (e.1, { e.2 with driven := false }) } }

/-- What safe-mode entry and quarantine have in common (R79): the cores are held in reset (State.coresRun), and step 8 or 12 waits no longer
(R70, R78). -/
def State.stopAll (s : State) (step : Nat) : State :=
  let s1 := ((s.cutPulses).nrgPush).cutSave
  let s2 := ((s1.stopBlocks).showSdm).txnStopped
  let s3 := { s2 with
    runs := [], sch := { s2.sch with cores := [], migration := none }
    boot := { s2.boot with wdtOn := false, released := false, timing := 0 } }
  let s4 := (((((s3.showQueue.safePins).setFlag Reg.BOOT_STATUS.ROAST_REQ false).setFlag Reg.BOOT_STATUS.TIME_WAIT false).set
    Reg.BOOT_STATUS.SAFE_STEP step).health 1 false).avsRequest 800
  s4.log (evCode 2 1) 0 (leBytes 1 step)

/-- Safe mode is entered for a step, 0 for none. -/
def State.enterSafe (s : State) (step : Nat) : State := (s.set Reg.BOOT_STATUS.STATE 2).stopAll step

/-- Quarantine is entered. -/
def State.enterQuarantine (s : State) : State :=
  ((((s.set Reg.BOOT_STATUS.STATE 3).setFlag Reg.SEC_STATUS.QUARANTINE true).dropSecrets).stopAll (s.get Reg.BOOT_STATUS.SAFE_STEP)).health 8
    (!s.flag Reg.SEC_TAMPER_LATCH.VALID)

/-! ### Tamper (R471, R472) -/

/-- A tamper source is sensed: 0 to 3 TAMPERk, 4 the mesh. -/
def State.tamperOn (s : State) (k : Nat) : Bool :=
  if k < 4 then bitAt (s.get Reg.SEC_TAMPER_CFG.EN) k else k == 4 && s.flag Reg.SEC_TAMPER_CFG.MESH_EN

/-- The latch takes the first tamper. -/
def State.latchTamper (s : State) (source phase : Nat) : State :=
  if s.flag Reg.SEC_TAMPER_LATCH.VALID then s.count Reg.SEC.TAMPER_EVENTS
  else
    let s1 := ((s.set Reg.SEC_TAMPER_LATCH.SOURCE (2 ^ source)).set Reg.SEC_TAMPER_LATCH.PHASE phase).setFlag Reg.SEC_TAMPER_LATCH.VALID true
    (((s1.set Reg.SEC_TAMPER_TIME_0.SEC s.backup.sec).set Reg.SEC_TAMPER_TIME_1.SUB s.backup.sub).irq Reg.SEC_IRQ.TAMPER
      Reg.SEC_IRQ_MASK.MASK 104).health 8 false

/-- The step in progress is interrupted, as a tamper during start-up leaves it. -/
def State.interruptStep (s : State) : State :=
  let k := s.get Reg.BOOT_STATUS.STEP
  if s.get Reg.BOOT_STATUS.STATE = 0 ∧ 1 ≤ k then
    let s1 := (s.setLed Reg.BOOT_LEDGER.OUTCOME k 8).setLed Reg.BOOT_LEDGER.ATTEMPTS k (s.led Reg.BOOT_LEDGER.ATTEMPTS k - 1)
    s1.saveLed k
  else s

/-- A tamper with main power: the key operation in progress is withheld, the ledger step interrupted, and quarantine follows. -/
def State.tamper (s : State) (source : Nat) : State :=
  let keyOp := match s.keys.job with
    | some j => j.op == 1 || j.op == 2 || j.op == 5
    | none => false
  let phase := if keyOp then 3 else if s.get Reg.BOOT_STATUS.STATE = 0 then 1 else 0
  let s1 := s.latchTamper source phase
  if s.boot.inReset then s1
  else
    let s2 := match s.keys.job with
      | some j =>
        let used := if j.op = 5 then 8 else j.slot
        if !keyOp then s1
        else if used < 6 then (s1.keyEnd j.who 7 []).refreshShares
        else ((s1.keyEnd j.who 7 []).dropSlot used).refreshShares
      | none => s1
    if s.get Reg.BOOT_STATUS.STATE = 3 then s2 else s2.interruptStep.enterQuarantine

/-- TAMPER_DETECT: a source that is not enabled is not sensed. -/
def execTamperDetect (source : Nat) (s : State) : Out :=
  .next (
    if !s.tamperOn source then s
    else if !s.mainPower then s.latchTamper source 2
    else s.tamper source)

/-! ### Firmware images (R67, R68, R461, R462) -/

/-- PUBKEY. -/
def FwImage.pub (im : FwImage) : Bytes := slice im.header 0x20 32
/-- SVN. -/
def FwImage.svn (im : FwImage) : Nat := leAt im.header 0xC 4
/-- API. -/
def FwImage.api (im : FwImage) : Nat := leAt im.header 0x10 2
/-- The image digest. -/
def FwImage.digest (im : FwImage) : Bytes := Config.sha512 im.header

/-- The signature verifies under the image's own key. -/
def FwImage.signed (im : FwImage) : Bool :=
  Config.ed25519Verify im.pub (signedText "MZ7416 firmware v1" (slice im.header 0 0xC0)) (slice im.header 0xC0 64)

/-- MAGIC, KIND, BODY_LEN and the body digest. -/
def FwImage.wellFormed (im : FwImage) (kind maxBody : Nat) : Bool :=
  decide (im.header.length = 256) && slice im.header 0 8 == ascii "MZ7416FW" && leAt im.header 8 1 == kind &&
  decide (leAt im.header 0x14 4 ≤ maxBody) && leAt im.header 0x14 4 == im.body.length && Config.sha512 im.body == slice im.header 0x40 64

/-- What stage-1 fails under R67 and the codes of R544. -/
def State.stage1Fails (s : State) (flashErr : Bool) (im : FwImage) : Option Nat :=
  if flashErr then some 16
  else if s.nvs.journal.isNone then some 0x21
  else if keyHash im.pub ≠ s.fuses.vendorHash then some 0x22
  else if !im.signed then some 0x23
  else if im.svn < s.fwFloor then some 0x24
  else if !im.wellFormed 1 261888 then some 0x25
  else none

/-- What a main image fails under R68 beside a stage-1 key. -/
def State.mainFails (s : State) (flashErr : Bool) (pub : Bytes) (im : FwImage) : Option Nat :=
  if flashErr then some 16
  else if im.pub ≠ pub ∨ !im.signed then some 0x48
  else if im.svn < s.fwFloor then some 0x49
  else if !im.wellFormed 2 33291008 then some 0x4A
  else none

/-- Check 17 of R134 against a roast. -/
def Roast.apiOk (r : Roast) (api : Nat) : Bool := decide (leAt r.header 0x24 2 ≤ api) && decide (api ≤ leAt r.header 0x26 2)

/-! ### Entering a step -/

/-- Whether step 5 or 6 uses stored parameters at an attempt (R71, R77). -/
def State.storedOk (s : State) (k attempt : Nat) : Bool :=
  match (if k = 5 then s.ledger.train else s.ledger.cal) with
  | none => false
  | some t =>
    decide (attempt = 1) && decide ((s.env.junction - t).natAbs ≤ 30000) && !(k == 5 && s.ledger.badPowerDown) &&
    !s.flag (if k = 5 then Reg.BOOT_CTL.FULL_TRAIN else Reg.BOOT_CTL.FULL_CAL)

/-- The slot of a group is chosen as its first step is entered. -/
def State.pickSlot (s : State) (k : Nat) : State :=
  if k = 4 then s.setFlag Reg.BOOT_STATUS.FW_SLOT (s.groupSlot fwSteps s.ledger.fwFail s.ledger.fwGood s.nvs.fwPref)
  else if k = 7 then s.setFlag Reg.BOOT_STATUS.ROAST_SLOT (s.groupSlot roastSteps s.ledger.roastFail s.ledger.roastGood s.nvs.roastPref)
  else s

/-- ALT of step k: the other slot, or the full procedure. -/
def State.altOf (s : State) (k : Nat) (stored : Bool) : Bool :=
  if k ∈ fwSteps then s.flag Reg.BOOT_STATUS.FW_SLOT != s.nvs.fwPref
  else if k ∈ roastSteps then s.flag Reg.BOOT_STATUS.ROAST_SLOT != s.nvs.roastPref
  else (k == 5 || k == 6) && !stored

/-- Ports of the PTP references of the roast that is being started (R78, R192). -/
def Roast.timePorts (r : Roast) : Nat :=
  ((List.range r.refCount).map fun k => r.refRec (k + 1)).foldl (fun m b => if refKind b = 0 then setBit m (leAt b 2 1) true else m) 0

/-- Step k is entered. At step 7 an abandoned swap is reported (R150); at step 8 the host is asked for the sections (R70); from step 11 on the
watchdog runs (R84); at step 12 the time-reference ports come up in receive-only timing mode (R78). -/
def State.enterStep (s : State) (k : Nat) : State :=
  let s0 := s.pickSlot k
  let a := min 3 (s0.led Reg.BOOT_LEDGER.ATTEMPTS k + 1)
  let stored := (k == 5 || k == 6) && s0.storedOk k a
  let s1 := (((((s0.setLed Reg.BOOT_LEDGER.OUTCOME k 1).setLed Reg.BOOT_LEDGER.ATTEMPTS k a).setLed Reg.BOOT_LEDGER.ALT k
    (b2n (s0.altOf k stored))).setLed Reg.BOOT_LEDGER.STORED k (b2n stored)).setLed Reg.BOOT_LEDGER.DURATION k 0).setLed Reg.BOOT_LEDGER.DETAIL k 0
  let s2 := ({ s1 with boot := { s1.boot with stepMs := s.get Reg.BOOT_ELAPSED.ELAPSED } }.set Reg.BOOT_STATUS.STEP k).saveLed k
  if k = 7 ∧ s2.ledger.swapAbandoned then
    (({ s2 with ledger := { s2.ledger with swapAbandoned := false } }).set Reg.CFG_SWAP_RESULT.RESULT 8).setFlag Reg.CFG_SWAP_RESULT.DONE true
  else if k = 8 then
    let host := (Image.mk s2.boot.head []).hostTiles
    let s3 := s2.setFlag Reg.BOOT_STATUS.ROAST_SRC host
    if host then (s3.setFlag Reg.BOOT_STATUS.ROAST_REQ true).emit (.msix 0 0) else s3
  else if k = 11 then { s2 with boot := { s2.boot with wdtOn := true } }
  else if k = 12 then { s2 with boot := { s2.boot with timing := s2.roast.timePorts } }
  else s2

/-! ### Leaving a step -/

/-- The outcome of step k is written. -/
def State.leaveStep (s : State) (k outcome detail : Nat) : State :=
  (((s.setLed Reg.BOOT_LEDGER.OUTCOME k outcome).setLed Reg.BOOT_LEDGER.DETAIL k detail).setLed Reg.BOOT_LEDGER.DURATION k
    (min 65535 (s.get Reg.BOOT_ELAPSED.ELAPSED - s.boot.stepMs))).saveLed k

/-- Step k fails (R74): a watchdog reset, or safe mode at the third attempt. -/
def State.failStep (s : State) (k outcome detail : Nat) : State :=
  let s1 := (s.leaveStep k outcome detail).noteFail k (s.flag Reg.BOOT_STATUS.FW_SLOT) (s.flag Reg.BOOT_STATUS.ROAST_SLOT)
  if s1.led Reg.BOOT_LEDGER.ATTEMPTS k = 3 then s1.enterSafe k else s1.doReset 4 k 0 false

/-- Step 1 has passed: the fuses' states, the debug decision and the root of this start (R457, R459, R460, R474). -/
def State.fusesSensed (s : State) : State :=
  let f := s.fuses
  let killed := f.killed || (f.tamperKill && s.flag Reg.SEC_TAMPER_LATCH.VALID)
  let lc := f.lifecycle
  let next := s.flag Reg.SEC_STATUS.DEBUG_NEXT
  let open_ := lc == 0 || lc == 1 || lc == 4 || (lc == 2 && next) || (lc == 3 && f.debugAllowed && next)
  let subst := lc != 0 && (open_ || killed)
  let s1 := ({ s with fuses := { f with killed := killed } }.senseFuses).setFlag Reg.SAU_STATUS.GM_FUSE f.gm
  ((((s1.setFlag Reg.SEC_STATUS.DEBUG_OPEN open_).setFlag Reg.SEC_STATUS.DEBUG_NEXT false).setFlag Reg.SEC_STATUS.ROOT_SUBST subst).setFlag
    Reg.SAU_STATUS.TEST_STRAP s.boot.testEn).setFlag Reg.SAU_STATUS.TEST_PERMIT (lc == 1 && s.boot.testEn)

/-- Step 3 has passed: what the NVS holds is read (R72, R76, R136, R485, R496). -/
def State.nvsMounted (s : State) : State :=
  let s1 := ((s.setFlag Reg.BOOT_CTL.FW_PREF s.nvs.fwPref).setFlag Reg.BOOT_CTL.ROAST_PREF s.nvs.roastPref).set Reg.CFG_ROAST_FLOOR.SVN s.nvs.roastFloor
  let s2 := (List.range 128).foldl (fun s k => s.set (Reg.SEC_CERT.CERT.ix k) (leAt s.nvs.cert (4 * k) 4)) s1
  let s3 := if s.backup.crcOk then s2
    else { ((List.range s.nvs.tcomp.length).foldl (fun s k => s.set (Reg.BKP_TCOMP.POINT.ix (k % 32)) ((s.nvs.tcomp[k]?).getD 0)) s2) with
      backup := { s.backup with crcOk := true } }
  let late := steps.drop 3
  let s4 :=
    if !s.boot.useNvs then s3
    else if s.nvs.ledgerOk then
      ((late.foldl (fun s k => s.loadLed k ((s.nvs.ledger[k - 1]?).getD 0)) s3).processLedger late)
    else (late.foldl (fun s k => s.loadLed k 0) s3).log (evCode 2 0) 0 []
  ({ s4 with ledger := { s4.ledger with copyOk := true } }.saveAll).mountLog.showRemap

/-- Step 4 has passed: keys derived, public slots and the tamper configuration from the journal (R462, R463, R465, R471). -/
def State.keysDerived (s : State) (im : FwImage) : State :=
  let s1 := { s with fw := { s.fw with stage1Digest := im.digest, stage1Svn := im.svn, pubkey := im.pub } }.loadPublicSlots
  let s2 := ([8, 9, 10, 11].foldl State.deriveSlot s1).set Reg.SEC_FW_FLOOR.SVN s.fwFloor
  let s3 := match s.nvs.journal with
    | some j => s2.setTamperCfg j.tamperCfg
    | none => s2
  (s3.setFlag Reg.HIF_OWNER.AUTH_REQ (s3.keySlot 4).isSome).setFlag Reg.SEC_STATUS.ENTROPY_OK s3.freeBit |>.tookFree

/-- Step 5 has passed: rows made permanent, parameters of a full training saved (R77, R535). -/
def State.trained (s : State) (repaired : Nat) : State :=
  let n := min repaired s.nvs.remap.length
  let s1 := (({ s with nvs := { s.nvs with remap := s.nvs.remap.drop n } }).count Reg.CRF.PPR_DONE n).showRemap
  if s.led Reg.BOOT_LEDGER.STORED 5 = 1 then s1
  else { s1 with ledger := { s1.ledger with train := some s.env.junction, badPowerDown := false } }.setFlag Reg.BOOT_CTL.FULL_TRAIN false

/-- The serial lanes that LANE_EN of a roast header names, as Pins.calibrated numbers the ports (R122). -/
def lanePorts (laneEn : Nat) : Nat :=
  laneEn % 64 + 128 * b2n (bitsOf laneEn 8 4 != 0) + 256 * b2n (bitsOf laneEn 12 4 != 0)

/-- Step 6 has passed: the lanes that the roast header enables are calibrated. -/
def State.calibrated (s : State) (laneEn : Nat) : State :=
  let s := { s with pins := { s.pins with calibrated := lanePorts laneEn } }
  if s.led Reg.BOOT_LEDGER.STORED 6 = 1 then s
  else { s with ledger := { s.ledger with cal := some s.env.junction } }.setFlag Reg.BOOT_CTL.FULL_CAL false

/-- Step 8 has passed: the roast stands in the Carafe and its registers load (R12, R133, R138). -/
def State.roastLoaded (s : State) (im : Image) : State :=
  let slot := b2n (s.flag Reg.BOOT_STATUS.ROAST_SLOT)
  let s1 := s.setRegion 0 (some im.loaded)
  let s2 := { s1 with roasts := { s1.roasts with activeSlot := slot, sramBad := s1.sramLoad 0 }, boot := { s1.boot with tilesOk := im.tilesGood } }
  (((s2.loadRegs s2.roast).absentBits.setFlag Reg.CFG_ROAST_STATUS.ACTIVE_SRC im.hostTiles).showRoast).utcFromRoast

/-- Blocks that a write of EN left waiting for their ledger step start at it (R66). -/
def State.startWaiting (s : State) (step : Nat) : State :=
  (stoppedBlocks.filter fun b => b.startStep == step).foldl (fun s b =>
    if s.flag b.en && !s.flag b.busy then (s.setFlag b.busy true).blockStart b else s) s

/-- Step 13 has passed: roast-enabled ports run, and the ring ports have their lanes (R152, R506). -/
def State.portsUp (s : State) (r : StepReport) : State :=
  let s0 := { s with boot := { s.boot with timing := 0 } }.startWaiting 13
  let s1 := (List.range 7).foldl (fun s p => if s.roast.laneEn p then s.portEn .sec p true else s) s0
  if s.roast.has 0x60 then
    { ((s1.setLanes true (min 4 r.lanesE)).setLanes false (min 4 r.lanesW)) with
      pins := { s1.pins with txActive := setBit (setBit s1.pins.txActive 7 true) 8 true } }
  else s1

/-- Step 14 has passed: ingest is enabled and the aligner starts with its history and buffers empty (R85, R277, R408). -/
def State.streamsOn (s : State) : State :=
  let s0 := { s with aln := { s.aln with kept := [] } }.startWaiting 14
  let s1 := s0.capHeaders.enWrite .parser true id id
  s1.enWrite .aligner true State.alnStart State.alnStop

/-- Step 16 has passed: the device operates and the pins follow (R59, R61). -/
def State.operate (s : State) : State :=
  ((({ s with boot := { s.boot with released := true } }.set Reg.BOOT_STATUS.STATE 1).setHealth 0 true).devOk).almPins

/-- What follows the pass of step k: quarantine, safe mode, the next step, or operation (R81, R82, R457, R472, R473). -/
def State.afterStep (s : State) (k : Nat) : State :=
  let latched := s.flag Reg.SEC_TAMPER_LATCH.VALID
  if k = 2 ∧ latched ∧ s.get Reg.SEC_TAMPER_LATCH.PHASE = 2 then s.enterQuarantine
  else if k = 3 ∧ s.fuses.lifecycle = 0 then s.enterSafe 0
  else if k = 4 ∧ (latched ∨ s.fuses.killed) then s.enterQuarantine
  else if k = 4 ∧ (s.boot.stay ∨ s.boot.safeStep.isSome) then
    ((if s.boot.stay then s.setFlag Reg.BOOT_CTL.STAY_SAFE false else s)).enterSafe (s.boot.safeStep.getD 0)
  else if k = 16 then s.operate
  else s.enterStep (k + 1)

/-- Step k passes with an outcome. -/
def State.passStep (s : State) (k outcome : Nat) (f : State → State) : State := ((f (s.leaveStep k outcome 0)).notePass k).afterStep k

/-- The outcome of a pass: PASS_STORED, PASS_ALT or PASS. -/
def State.passOutcome (s : State) (k : Nat) : Nat :=
  if s.led Reg.BOOT_LEDGER.STORED k = 1 then 3 else if s.led Reg.BOOT_LEDGER.ALT k = 1 then 4 else 2

/-- The image step 8 loads: the head accepted at step 7, with the tiles that the report delivers. -/
def State.loadImage (s : State) (r : StepReport) : Image := { head := s.boot.head, tiles := r.load.image.tiles }

/-- The loading checks of step 8 (R134). The field rules of sections whose tiles only the host delivers are judged here (log entry 82). -/
def State.step8Fails (s : State) (r : StepReport) : Option Nat :=
  let im := s.loadImage r
  let ro := im.loaded
  if r.load.flashErr || r.flashErr then some 16
  else if r.load.dmaErr then some 15
  else if im.tiles.length < im.tileCount then some 15
  else if !im.rulesOk (s.get Reg.CAS_STATUS.ID) then some 9
  else if !ro.budgetsOk then some 11
  else if !im.digestsOk then some 12
  else if !regInitSectionOk (ro.recs 0x02) then some 13
  else none

/-- A step whose report alone decides it: its DETAIL code where it failed. -/
def reportCode : Nat → Nat
  | 1 => 0x20 | 2 => 0x28 | 3 => 0x30 | 5 => 0x38 | 6 => 0x40 | 11 => 0x50 | 13 => 0x60 | 14 => 0x68
  | _ => 0

/-- VBAT loss as a tamper (R471): step 2 finds the backup domain invalid. -/
def State.vbatTamper (s : State) : Bool :=
  !s.backup.crcOk && (match s.nvs.journal with | some j => bitAt j.tamperCfg 9 | none => false)

/-- The step in progress ends with its report, where it can end now. -/
def State.stepDone (s : State) (k : Nat) (r : StepReport) : State :=
  let pass (f : State → State) : State := s.passStep k (s.passOutcome k) f
  let judge (c : Option Nat) (f : State → State) : State := match c with
    | some d => s.failStep k 6 d
    | none => pass f
  let simple (f : State → State) : State := judge (if r.ok then none else some (reportCode k)) f
  match k with
  | 1 => simple State.fusesSensed
  | 2 => if r.ok ∧ s.vbatTamper then s.tamper 5 else simple id
  | 3 => simple State.nvsMounted
  | 4 => judge (s.stage1Fails r.flashErr r.fw) fun s => s.keysDerived r.fw
  | 5 => simple fun s => s.trained r.repaired
  | 6 => simple fun s => s.calibrated (leAt r.load.image.head 0x2C 4)
  | 7 =>
    let im := r.load.image
    judge (if r.load.flashErr || r.flashErr then some 16 else s.verifyImage false im) fun s => { s with boot := { s.boot with head := im.head } }
  | 8 => if s.flag Reg.BOOT_STATUS.ROAST_REQ then s else judge (s.step8Fails r) fun s => s.roastLoaded (s.loadImage r)
  | 9 => judge (if r.ok && s.boot.tilesOk then none else some 14) id
  | 10 =>
    let c := match s.mainFails r.flashErr s.fw.pubkey r.fw with
      | some c => some c
      | none => if s.roast.apiOk r.fw.api then none else some 17
    judge c fun s => { s with fw := { s.fw with mainDigest := r.fw.digest, mainSvn := r.fw.svn } }.set Reg.CFG_FW_API.API r.fw.api
  | 11 => simple State.showCores
  | 12 =>
    if !r.ok ∨ s.get Reg.TSU_TDC_FAIL.MAP ≠ 0 then s.failStep 12 6 0x58
    else if s.flag Reg.TSU_STATUS.TIME_VALID then pass fun s => s.setFlag Reg.BOOT_STATUS.TIME_WAIT false
    else s
  | 13 => simple fun s => s.portsUp r
  | 14 => simple State.streamsOn
  | 15 =>
    if !s.pace.judged then s
    else judge (if s.flag Reg.PACE_STATUS.CERTIFIED then none else some 0x70) fun s => { s with pace := { s.pace with avsOn := true } }.adopt
  | 16 =>
    if ((List.range 9).drop 1).all fun b => s.bit Reg.BOOT_HEALTH.COND b || s.bit Reg.BOOT_HEALTH_MASK.MASK b then pass id else s
  | _ => s

/-- A ledger step is in progress. -/
def State.booting (s : State) : Bool := !s.boot.inReset && s.get Reg.BOOT_STATUS.STATE == 0 && s.get Reg.BOOT_STATUS.STEP != 0

/-- LEDGER_STEP_COMPLETE. -/
def execLedgerStepComplete (r : StepReport) (s : State) : Out :=
  .next (if s.booting then s.stepDone (s.get Reg.BOOT_STATUS.STEP) r else s)

/-- The internal time set from the calendar clock (R78, R196): UTC, with the offset of TSU_UTC. -/
def State.timeFromCalendar (s : State) : State :=
  let t := ((epoch2000 + s.backup.sec : Nat) : Int) + s.utcOffset
  let now := t.toNat * secUnit + s.backup.sub * secUnit / 32768
  ({ s with time := { s.time with tai := now, ctr := now * 2 ^ 48, lastTick := none } }.setTsu 1).timeQuality

/-- LEDGER_STEP_TIMEOUT (R71, R78): step 12 goes on from the calendar clock, or waits for a reference without limit. -/
def execLedgerStepTimeout (s : State) : Out :=
  .next (
    let k := s.get Reg.BOOT_STATUS.STEP
    if !s.booting then s
    else if k ≠ 12 then s.failStep k 7 0
    else if s.led Reg.BOOT_LEDGER.OUTCOME 12 = 9 then s
    else if s.flag Reg.TSU_STATUS.TIME_VALID then s.passStep 12 2 id
    else if !s.flag Reg.RTC_STATUS.OSF then s.passStep 12 5 State.timeFromCalendar
    else (s.leaveStep 12 9 0).setFlag Reg.BOOT_STATUS.TIME_WAIT true)

/-! ### The start -/

/-- RESET_END (R47 to R49, R57, R72, R76, R100, R459, R505): straps sampled, nonces and the ring tag drawn, the previous ledger processed, step 1
entered. -/
def execResetEnd (casId : Nat) (testEn : Bool) (s : State) : Out :=
  .next (
    if !s.boot.inReset then s
    else
      let s1 := { s with
        boot := { kind := s.boot.kind, inReset := false, casId := casId % 8, testEn := testEn, stay := s.flag Reg.BOOT_CTL.STAY_SAFE
                  useNvs := !s.ledger.copyOk, endedAt := s.time.elapsed }
        cas := { s.cas with tag := s.freeVal 32 }
        env := { s.env with
          link := if s.boot.kind < 2 then !s.env.perst else s.env.link
          io18 := true, io33 := true, sdMv := if s.env.sdMv < 700 then 850 else s.env.sdMv } }.tookFree
      let s2 := ((s1.set Reg.CAS_STATUS.ID (casId % 8)).drawNonce.drawDebugNonce).set Reg.BOOT_HEALTH.COND 0x52
      let s3 := (s2.setHealth 7 (decide (s.env.junction ≤ 110000))).setHealth 8 (!s.flag Reg.SEC_TAMPER_LATCH.VALID)
      let s4 := if s.boot.kind = 0 then s3.backupCatchUp else s3.emit (.avs 800)
      let s5 := if s.ledger.copyOk then s4.processLedger steps else (steps.take 3).foldl (fun s k => s.loadLed k 0) s4
      s5.enterStep 1)

/-- BOOT_ROAST_GO (R70): guarded; ignored unless ROAST_REQ is 1. -/
def execBootRoastGo (who : Requester) (s : State) : Out :=
  .next (s.guarded who Reg.BOOT_ROAST_GO.GO.base fun s => s.setFlag Reg.BOOT_STATUS.ROAST_REQ false)

/-! ### BOOT_CTL (R73, R81, R82) -/

/-- CLEAR_ATTEMPTS. -/
def State.clearAttempts (s : State) : State :=
  let s1 := steps.foldl (fun s k => s.setLed Reg.BOOT_LEDGER.ATTEMPTS k 0) s
  { s1 with nvs := { s1.nvs with ledger := s1.nvs.ledger.map fun w => w - 16 * bitsOf w 4 2 } }
/-- FULL_TRAIN. -/
def State.askTrain (s : State) : State := { s with ledger := { s.ledger with train := none } }.setFlag Reg.BOOT_CTL.FULL_TRAIN true
/-- FULL_CAL. -/
def State.askCal (s : State) : State := { s with ledger := { s.ledger with cal := none } }.setFlag Reg.BOOT_CTL.FULL_CAL true
/-- STAY_SAFE. -/
def State.askSafe (s : State) : State := s.setFlag Reg.BOOT_CTL.STAY_SAFE true
/-- A slot preference: the NVS takes it and the remembered slots are dropped. -/
def State.prefer (s : State) (fw roast : Bool) : State :=
  ({ s with nvs := { s.nvs with fwPref := fw, roastPref := roast }, ledger := { s.ledger with fwGood := none, roastGood := none } }.setFlag
    Reg.BOOT_CTL.FW_PREF fw).setFlag Reg.BOOT_CTL.ROAST_PREF roast

/-- CLEAR_ATTEMPTS: guarded. -/
def execClearAttempts (who : Requester) (s : State) : Out := .next (s.guarded who Reg.BOOT_CTL.CLEAR_ATTEMPTS.base State.clearAttempts)
/-- FULL_TRAIN: guarded. -/
def execFullTrain (who : Requester) (s : State) : Out := .next (s.guarded who Reg.BOOT_CTL.FULL_TRAIN.base State.askTrain)
/-- FULL_CAL: guarded. -/
def execFullCal (who : Requester) (s : State) : Out := .next (s.guarded who Reg.BOOT_CTL.FULL_CAL.base State.askCal)
/-- STAY_SAFE: guarded. -/
def execStaySafe (who : Requester) (s : State) : Out := .next (s.guarded who Reg.BOOT_CTL.STAY_SAFE.base State.askSafe)
/-- SLOT_PREFERENCE_WRITE: guarded. -/
def execSlotPreferenceWrite (who : Requester) (fw roast : Bool) (s : State) : Out :=
  .next (s.guarded who Reg.BOOT_CTL.FW_PREF.base fun s => s.prefer fw roast)

/-! ### The heartbeat (R84) -/

/-- A kick by firmware; host writes are ignored. -/
def State.kick (s : State) (who : Requester) : State :=
  match who with
  | .core _ | .sec => s.health 5 true
  | .pf0 | .pf1 => s

/-- HEARTBEAT_KICK. -/
def execHeartbeatKick (who : Requester) (s : State) : Out :=
  .next (s.open_ who Reg.BOOT_HEARTBEAT.KICK.base fun s => s.kick who)
/-- HEARTBEAT_HALF_EXPIRY. -/
def execHeartbeatHalfExpiry (s : State) : Out := .next (if s.boot.wdtOn then s.health 5 false else s)
/-- WATCHDOG_EXPIRY: `co` where it comes within 1 µs of a reset in force. -/
def execWatchdogExpiry (co : Bool) (s : State) : Out :=
  .next (if s.boot.wdtOn then s.reset_ 3 false false else if s.boot.inReset && co then s.reset_ 3 true false else s)

/-! ### Power-off (R492) -/

/-- BKP_PWR_OFF_REQUEST: guarded; the request starts a save. -/
def execBkpPwrOffRequest (who : Requester) (key : Nat) (s : State) : Out :=
  .next (s.guarded who Reg.BKP_PWR.KEY.base fun s =>
    if key = 0x0FF00001 then
      let s1 := if s.blockRuns .energy then s.startSave else s
      { s1 with backup := { s1.backup with offReq := some s.time.elapsed } }
    else s)

/-- PWR_ON_LOW: once the save has completed and 100 ms have passed. -/
def execPwrOnLow (t : Tai) (s : State) : Out :=
  .next (
    let s := s.moveTo t
    match s.backup.offReq with
    | some a =>
      if s.nrg.saving.isNone ∧ a + 100 * msUnit ≤ s.time.elapsed then
        { s with pins := { s.pins with pwrOn := false }, backup := { s.backup with offReq := none } }
      else s
    | none => s)

/-! ### The image-update service (R537) -/

/-- The flash regions in use: firmware slot A or B, roast slot A or B, by start and end. -/
def State.flashInUse (s : State) : List (Nat × Nat) :=
  let mib := 1048576
  let fw := if s.fw.stage1Digest.isEmpty then []
    else if s.flag Reg.BOOT_STATUS.FW_SLOT then [(32 * mib, 64 * mib)] else [(0, 32 * mib)]
  let ro := if (s.region s.activeRegion).isNone then []
    else match s.roasts.activeSlot with
      | 0 => [(64 * mib, 160 * mib)]
      | 1 => [(160 * mib, 256 * mib)]
      | _ => []
  fw ++ ro

/-- A flash command starts; one written while another runs is ignored (log entry 83). -/
def State.flashStart (s : State) (op : Nat) (slot : Bool) : State :=
  if s.flag Reg.BOOT_FLASH_CMD.BUSY then s
  else
    let a := s.get Reg.BOOT_FLASH_OFS.OFS
    let b := a + s.get Reg.BOOT_FLASH_LEN.LEN
    if op = 1 ∧ (s.flashInUse.any fun x => decide (a < x.2) && decide (x.1 < b)) then s.set Reg.BOOT_FLASH_CMD.RESULT 2
    else ({ s with boot := { s.boot with flash := some (op, slot) } }.setFlag Reg.BOOT_FLASH_CMD.BUSY true).set Reg.BOOT_FLASH_CMD.RESULT 0

/-- FLASH_WRITE: guarded. -/
def execFlashWrite (who : Requester) (s : State) : Out :=
  .next (s.guarded who Reg.BOOT_FLASH_CMD.OP.base fun s => s.flashStart 1 false)
/-- FLASH_CHECK_FIRMWARE: guarded. -/
def execFlashCheckFirmware (who : Requester) (slot : Bool) (s : State) : Out :=
  .next (s.guarded who Reg.BOOT_FLASH_CMD.OP.base fun s => s.flashStart 2 slot)
/-- FLASH_CHECK_ROAST: guarded. -/
def execFlashCheckRoast (who : Requester) (slot : Bool) (s : State) : Out :=
  .next (s.guarded who Reg.BOOT_FLASH_CMD.OP.base fun s => s.flashStart 3 slot)

/-- Whether a roast slot passes R134: the loading checks too where the slot holds the whole image. -/
def State.roastSlotOk (s : State) (d : LoadReport) : Bool :=
  if d.image.hostTiles then (s.verifyImage false d.image).isNone else (s.loadFails false d none).isNone

/-- FLASH_CMD_DONE: the running command's RESULT. -/
def execFlashCmdDone (r : FlashReport) (s : State) : Out :=
  .next (
    match s.boot.flash with
    | none => s
    | some (op, _) =>
      let ok := match op with
        | 2 => (s.stage1Fails false r.stage1).isNone && (s.mainFails false r.stage1.pub r.main).isNone
        | 3 => s.roastSlotOk { r.load with flashErr := false }
        | _ => true
      let res := if r.flashErr then 4 else if ok then 1 else 3
      ({ s with boot := { s.boot with flash := none } }.setFlag Reg.BOOT_FLASH_CMD.BUSY false).set Reg.BOOT_FLASH_CMD.RESULT res)

/-! ### Live firmware update (R538) -/

/-- FW_LIVE_STAGE: guarded; the image of the other slot is checked against the running stage-1, the active roast and a READY shadow. -/
def execFwLiveStage (who : Requester) (im : FwImage) (flashErr : Bool) (s : State) : Out :=
  .next (s.guarded who Reg.BOOT_FW_LIVE.STAGE.base fun s =>
    if s.get Reg.BOOT_FW_LIVE.STATE = 2 then s
    else if (s.mainFails flashErr s.fw.pubkey im).isNone ∧ s.roast.apiOk im.api ∧
        (s.get Reg.CFG_ROAST_STATUS.SHADOW ≠ 2 ∨ s.otherRoast.apiOk im.api) then
      { s with fw := { s.fw with staged := some (im.digest, im.svn, im.api) } }.set Reg.BOOT_FW_LIVE.STATE 1
    else { s with fw := { s.fw with staged := none } }.set Reg.BOOT_FW_LIVE.STATE 3)

/-- FW_LIVE_SWITCH: guarded; refused while no core is SPARE. -/
def execFwLiveSwitch (who : Requester) (s : State) : Out :=
  .next (s.guarded who Reg.BOOT_FW_LIVE.SWITCH.base fun s =>
    if s.get Reg.BOOT_FW_LIVE.STATE = 1 ∧ ((List.range 9).any fun p => s.coreState p == 1) then
      { s with fw := { s.fw with switched := true } }.set Reg.BOOT_FW_LIVE.STATE 2
    else s)

/-- FW_LIVE_COMMIT: guarded. -/
def execFwLiveCommit (who : Requester) (s : State) : Out :=
  .next (s.guarded who Reg.BOOT_FW_LIVE.COMMIT.base fun s =>
    match s.fw.staged with
    | some (d, svn, api) =>
      if s.get Reg.BOOT_FW_LIVE.STATE = 2 then
        ({ s with
          fw := { s.fw with mainDigest := d, mainSvn := svn, staged := none, switched := false }
          sch := { s.sch with cores := s.sch.cores.map fun (e : Nat × Core) => (e.1, { e.2 with newImage := false }) } }.set
          Reg.CFG_FW_API.API api).set Reg.BOOT_FW_LIVE.STATE 0
      else s
    | none => s)

/-- FW_LIVE_ABORT: guarded; before the commit SWITCH is cleared, and the image stays staged. -/
def execFwLiveAbort (who : Requester) (s : State) : Out :=
  .next (s.guarded who Reg.BOOT_FW_LIVE.ABORT.base fun s =>
    if s.get Reg.BOOT_FW_LIVE.STATE = 2 then { s with fw := { s.fw with switched := false } }.set Reg.BOOT_FW_LIVE.STATE 1 else s)

end Sys2Proof.Machine
end

