-- ==== Sys2Proof/Machine/RegWrite.lean ====
section
/-! DEFINITION. Register writes by offset (R90, R95, R97, R99, R105, R108): which words of an access take effect, the fields' access
codes, and the commands of registers whose write is a row of the table of its own. -/

namespace Sys2Proof.Machine

/-- The state a meaning leaves. -/
def State.after (s : State) (m : State → Out) : State := match m s with
  | .next t => t
  | _ => s

/-- The index of the element of a one-dimensional array that stands at an offset. -/
def Fld.indexAt (f : Fld) (a : Nat) : Option Nat := match f.dims with
  | [(n, st)] => (List.range n).find? fun i => f.base + i * st == a
  | _ => if a = f.base then some 0 else none

/-- Every descriptor ring. -/
def allRings : List Ring :=
  ((List.range 7).flatMap fun p => (List.range 4).flatMap fun k => [Ring.rx p k, Ring.tx p k]) ++ (List.range 6).map Ring.ptp ++ [.inj]

/-- Fields that a write does not store as they stand: a register's command takes them. -/
def Fld.commanded (f : Fld) : Bool :=
  f.same Reg.MAC_CTL.EN || f.same Reg.MAC_RXRING.EN || f.same Reg.MAC_TXRING.EN || f.same Reg.PTP_TXRING.EN || f.same Reg.ING_INJ_RING.EN ||
  f.same Reg.ING_Q_CTL.EN || f.same Reg.ING_CTL.EN || f.same Reg.FLT_CTL.EN || f.same Reg.FLT_G_CTL.EN || f.same Reg.ALN_CTL.EN ||
  f.same Reg.ALN_HOST_RING.EN || f.same Reg.ALM_CTL.EN || f.same Reg.CAP_CTL.EN || f.same Reg.NRG_CTL.EN || f.same Reg.CAS_CTL.EN ||
  f.base == Reg.BOOT_CTL.FW_PREF.base || f.base == Reg.CFG_CRC_CTL.SUSPEND.base || f.same Reg.CFG_ROAST_CTL.SRC ||
  f.base == Reg.MACM0_MDIO.GO.base || f.same Reg.TSU_CTL.STEP_GO || f.base == Reg.TSU_UTC.OFFSET.base || f.same Reg.FLT_COEF_DATA.DATA ||
  f.same Reg.ALM_TEST.PIN ||
  f.same Reg.ALM_PIN_MASK.MASK || f.same Reg.ALM_FRAME_MASK.MASK || f.same Reg.SCH_OBJ_CFG.KIND || f.same Reg.RTC_CTL.HOLD ||
  f.same Reg.RTC_STATUS.OSF || f.base == Reg.BKP_CHG.EN.base || f.same Reg.BKP_TCOMP_CTL.SAVE || f.same Reg.EVR_FREEZE.FREEZE

/-- Write-only fields that hold data for a command of another register. -/
def Fld.dataPort (f : Fld) : Bool :=
  f.same Reg.HIF_OWNER_SIG.SIG || f.same Reg.TSU_SAMPLE.OFS || f.same Reg.ING_KEY_ID.ID || f.same Reg.ING_KEY_DATA.KEY ||
  f.same Reg.ALM_KEY_ID.ID || f.same Reg.ALM_KEY_DATA.KEY || f.same Reg.KEY_LABEL.LABEL || f.same Reg.KEY_MSG.MSG

/-- Whether a written field is stored under its access code. -/
def Fld.stored (f : Fld) : Bool := !f.commanded && (decide (f.acc ≠ .wo) || f.dataPort)

/-! ### Commands by register -/

/-- A meaning run where a bit of the written value is set. -/
def State.onBit (s : State) (v k : Nat) (m : State → Out) : State := if bitAt v k then s.after m else s

/-- BOOT_CTL (R73): a write that sets none of its four request bits writes the slot preference. -/
def State.bootCtl (s : State) (who : Requester) (v : Nat) : State :=
  if bitAt v 0 || bitAt v 3 || bitAt v 4 || bitAt v 5 then
    (((s.onBit v 0 (execClearAttempts who)).onBit v 3 (execFullTrain who)).onBit v 4 (execFullCal who)).onBit v 5 (execStaySafe who)
  else s.after (execSlotPreferenceWrite who (bitAt v 1) (bitAt v 2))

/-- HIF_OWNER (R100): a write that sets both bits is a release only. -/
def State.ownerWrite (s : State) (who : Requester) (v : Nat) : State :=
  if bitAt v 1 then s.after (execOwnerRelease who) else s.onBit v 0 (execOwnerClaim who)

/-- CFG_ROAST_CTL (R144): a write of more than one command is ignored whole. -/
def State.roastCtl (s : State) (who : Requester) (v : Nat) : State :=
  let n := b2n (bitAt v 0) + b2n (bitAt v 3) + b2n (bitAt v 4)
  if 1 < n then s.guarded who Reg.CFG_ROAST_CTL.LOAD.base fun s => s.setFlag Reg.CFG_ROAST_STATUS.CTL_REFUSED true
  else
    let s1 := s.guarded who Reg.CFG_ROAST_CTL.LOAD.base fun s => s.set Reg.CFG_ROAST_CTL.SRC (bitsOf v 1 2)
    ((s1.onBit v 0 (execRoastLoad who (bitsOf v 1 2))).onBit v 3 (execRoastDiscard who)).onBit v 4 (execRaiseFloor who)

/-- MACM0_MDIO: with GO the operation starts, without it the fields are stored; ignored while GO is 1 (log entry 41). -/
def State.mdioWord (s : State) (who : Requester) (v : Nat) : State :=
  if bitAt v 12 then s.mdioGo who (bitsOf v 10 2) (bitsOf v 5 5) (bitsOf v 0 5) (bitsOf v 16 16)
  else s.open_ who Reg.MACM0_MDIO.GO.base fun s =>
    if s.flag Reg.MACM0_MDIO.GO then s
    else (((s.set Reg.MACM0_MDIO.OP (bitsOf v 10 2)).set Reg.MACM0_MDIO.PHY (bitsOf v 5 5)).set Reg.MACM0_MDIO.REG (bitsOf v 0 5)).set
      Reg.MACM0_MDIO.DATA (bitsOf v 16 16)

/-- ING_TPL_CMD (R238): one bit per write, otherwise ignored. -/
def State.tplWord (s : State) (who : Requester) (v : Nat) : State :=
  match v % 32 with
  | 1 => s.after (execStageTpl who)
  | 2 => s.after (execStageRec who)
  | 4 => s.after (execResume who)
  | 8 => s.after (execSuspend who)
  | 16 => s.after (execTplDiscard who)
  | _ => s

/-- KEY_CMD (R467): OP, SLOT, PARENT, GEN. -/
def State.keyWord (s : State) (who : Requester) (v : Nat) : State :=
  s.keyStart who (bitsOf v 0 4) (bitsOf v 8 8) (bitsOf v 16 8) (bitsOf v 24 5)

/-- SCH_TCB_CMD. -/
def State.tcbWord (s : State) (who : Requester) (v : Nat) : State :=
  match v % 8 with
  | 1 => s.after (execTcbCreate who)
  | 2 => s.after (execTcbSuspend who)
  | 3 => s.after (execTcbResume who)
  | 4 => s.after (execSetPrio who)
  | 5 => s.after (execTcbFree who)
  | _ => s

/-- SEC_FUSE_CMD (R458): a code of no fuse is one that no lifecycle permits. -/
def State.fuseWord (s : State) (who : Requester) (v : Nat) : State :=
  match v with
  | 0xF05E0001 => s.after (execFuseBlowGm who)
  | 0xF05E0002 => s.after (execFuseBlowTamperKill who)
  | 0xF05E0003 => s.after (execFuseBlowDebugAllowed who)
  | 0xF05E0004 => s.after (execFuseBlowLcDev who)
  | 0xF05E0005 => s.after (execFuseBlowLcProd who)
  | 0xF05E0006 => s.after (execFuseBlowLcRma who)
  | _ => s.blowFuse who [] id

/-- BOOT_FLASH_CMD (R537). -/
def State.flashWord (s : State) (who : Requester) (v : Nat) : State :=
  match v % 4 with
  | 1 => s.after (execFlashWrite who)
  | 2 => s.after (execFlashCheckFirmware who (bitAt v 2))
  | 3 => s.after (execFlashCheckRoast who (bitAt v 2))
  | _ => s

/-- The commands of the HIF, CFG and BOOT windows. STAGE of BOOT_FW_LIVE is left to its own row, which carries the image. -/
def State.hostWord (s : State) (who : Requester) (a v : Nat) : State :=
  if a = Reg.BOOT_CTL.FW_PREF.base then s.bootCtl who v
  else if a = Reg.BOOT_SOFTRST.KEY.base then s.after (execHostSoftReset who { key := v })
  else if a = Reg.BOOT_ROAST_GO.GO.base then s.onBit v 0 (execBootRoastGo who)
  else if a = Reg.BOOT_HEARTBEAT.KICK.base then s.onBit v 0 (execHeartbeatKick who)
  else if a = Reg.BOOT_FLASH_CMD.OP.base then s.flashWord who v
  else if a = Reg.BOOT_FW_LIVE.STAGE.base then
    ((s.onBit v 1 (execFwLiveSwitch who)).onBit v 2 (execFwLiveCommit who)).onBit v 3 (execFwLiveAbort who)
  else if a = Reg.HIF_SNAP.GO.base then s.onBit v 0 (execHifSnap who)
  else if a = Reg.HIF_OWNER.CLAIM.base then s.ownerWrite who v
  else if a = Reg.CFG_TXN_BEGIN.GO.base then s.onBit v 0 (execTxnBegin who)
  else if a = Reg.CFG_TXN_COMMIT.GO.base then s.onBit v 0 (execTxnCommit who s.time.tai)
  else if a = Reg.CFG_TXN_ROLLBACK.GO.base then s.onBit v 0 (execTxnRollback who)
  else if a = Reg.CFG_CRC_CTL.SUSPEND.base then (s.after (execCrcSuspend who (bitAt v 0))).onBit v 1 (execCrcAdopt who)
  else if a = Reg.CFG_ROAST_CTL.LOAD.base then s.roastCtl who v
  else if a = Reg.CFG_SWAP_CTL.REQUEST.base then
    (s.onBit v 0 (execSwapRequest who (s.get Reg.CFG_SWAP_SLICE.SLICE) (bitAt v 1))).onBit v 2 (execSwapCancel who)
  else if a = Reg.CFG_REPAIR_GO.GO.base then s.onBit v 0 (execRepairGo who)
  else if a = Reg.BOOT_HEALTH_MASK.MASK.base then s.devOk
  else s

/-- EN of a port, a ring or a queue. -/
def State.portWord (s : State) (who : Requester) (a v : Nat) : State :=
  match Reg.MAC_CTL.EN.indexAt a, Reg.ING_Q_CTL.EN.indexAt a, Reg.ING_Q_CMD.DREGS.indexAt a, allRings.find? fun r => (Block.ring r).en.base == a with
  | some p, _, _, _ => s.after (execPortEnable who p (bitAt v 0))
  | _, some n, _, _ => s.after (execIngressQueueEnable who n (bitAt v 0))
  | _, _, some n, _ => s.onBit v 0 (execDregs who n (bitAt v 1) { seq := bitsOf v 16 16 })
  | _, _, _, some r => s.after (execRingEnable who r (bitAt v 0))
  | _, _, _, _ =>
    if a = Reg.MACM0_MDIO.GO.base then s.mdioWord who v
    else match Reg.MAC_PREEMPT.EN.indexAt a with
    | some p => s.preemptFollow p
    | none => s

/-- The commands of the time-stamp unit, ingest and the filter chain. -/
def State.inputWord (s : State) (who : Requester) (a v : Nat) : State :=
  if a = Reg.TSU_CTL.STEP_GO.base then s.onBit v 8 (execStepGo who)
  else if a = Reg.TSU_UTC.OFFSET.base then s.utcWrite v
  else if a = Reg.TSU_SAMPLE_GO.REF.base then s.after (execTsuSampleGo who (v % 16) (s.get Reg.TSU_SAMPLE.OFS))
  else if a = Reg.ING_CTL.EN.base then s.after (execParserEnable who (bitAt v 0))
  else if a = Reg.ING_UNCLAIMED_CLR.CLR.base then s.onBit v 0 (execUnclaimedClr who)
  else if a = Reg.ING_TPL_CMD.OP.base then s.tplWord who v
  else if a = Reg.ING_KEY_CMD.OP.base then
    (if v % 4 = 1 then s.after (execIngKeyLoadNext who) else if v % 4 = 2 then s.after (execIngKeyErase who) else s)
  else if a = Reg.FLT_CTL.EN.base then s.after (execFltChainEnable who (bitAt v 0))
  else if a = Reg.FLT_KBANK.REQ.base then s.onBit v 4 (execKernelBankSwapRequest who (b2n (bitAt v 5)))
  else if a = Reg.FLT_COEF_DATA.DATA.base then s.after (execFltCoefWrite who v)
  else match Reg.FLT_G_CTL.EN.indexAt a, Reg.FLT_SDMCLK.EN.indexAt a, (List.range 32).find? fun g => (firBank g).active.base == a with
    | some g, _, _ => (s.after (execFltGroupEnable who g (bitAt v 0))).onBit v 3 (execFltSync who g)
    | _, some _, _ => s.showSdm
    | _, _, some g => s.onBit v 4 (execFirBankSwapRequest who g (b2n (bitAt v 5)))
    | _, _, _ => s

/-- The commands of the aligner, the engines, alarms and capture. -/
def State.sliceWord (s : State) (who : Requester) (a v : Nat) : State :=
  if a = Reg.ALN_CTL.EN.base then s.after (execAlignerEnable who (bitAt v 0))
  else if a = Reg.ALN_HOST_RING.EN.base then s.after (execHostRingEnable who (bitAt v 0))
  else if a = Reg.OSC_CMD.GO.base then s.onBit v 31 (execOscCmd who (bitsOf v 0 2) (bitsOf v 4 12))
  else if a = Reg.ALM_CTL.EN.base then s.after (execAlarmEngineEnable who (bitAt v 0))
  else if a = Reg.ALM_PIN_MASK.MASK.base then s.after (execAlmPinMaskWrite who v)
  else if a = Reg.ALM_TEST.PIN.base then s.after (execAlmTest who v)
  else if a = Reg.ALM_KEY_CMD.OP.base then
    (if v % 4 = 1 then s.after (execAlmKeyLoad who) else if v % 4 = 2 then s.after (execAlmKeyErase who) else s)
  else if a = Reg.CAP_CTL.EN.base then s.after (execCaptureEnable who (bitAt v 0))
  else if a = Reg.CAP_HOST_TRIG.GO.base then s.onBit v 0 (execCapHostTrig who s.time.tai)
  else if a = Reg.CAP_ARM.ARM.base then (if bitsOf v 8 8 = 0 then s else s.armCmd who (bitsOf v 8 4) (bitsOf v 12 4))
  else match Reg.ALM_FRAME_MASK.MASK.indexAt a, Reg.ALM_RULE_ACK.ACK.indexAt a, Reg.ALM_RULE_IRQ.CHG.indexAt a, Reg.CAP_SLOT.HOLD.indexAt a with
    | some j, _, _, _ => s.after (execAlmFrameMaskWrite who j v s.time.tai)
    | _, some j, _, _ => s.after (execAlmRuleAck who j v)
    | _, _, some _, _ => s.setFlag Reg.ALM_IRQ.RULE ((List.range 16).any fun j => s.get (Reg.ALM_RULE_IRQ.CHG.ix j) != 0)
    | _, _, _, some k => (s.onBit v 0 (execCapSlotHold who k)).onBit v 1 (execCapSlotRelease who k)
    | _, _, _, _ => s

/-- The commands of energy, Barista and the security block. RAISE_FLOOR of SEC_FW_CTL and SEC_TAMPER_CLR are left to their own rows,
which carry what the NVS and the tamper pins answer. -/
def State.coreWord (s : State) (who : Requester) (a v : Nat) : State :=
  if a = Reg.NRG_CTL.EN.base then s.after (execEnergyEnable who (bitAt v 0))
  else if a = Reg.NRG_SAVE.NOW.base then s.onBit v 31 (execNrgSaveNow who)
  else if a = Reg.SCH_WAIT.OBJ.base then s.after (execSchWait who (v % 1024))
  else if a = Reg.SCH_SIGNAL.OBJ.base then s.after (execSchSignal who (v % 1024))
  else if a = Reg.SCH_YIELD.GO.base then s.onBit v 0 (execSchYield who)
  else if a = Reg.SCH_EXIT.GO.base then s.onBit v 0 (execSchExit who)
  else if a = Reg.SCH_PARK.GO.base then s.onBit v 0 (execSchPark who)
  else if a = Reg.SCH_TCB_CMD.OP.base then s.tcbWord who v
  else if a = Reg.SCH_OBJ_CFG.KIND.base then s.after (execSchObjCfgWrite who (bitAt v 0))
  else if a = Reg.SCH_MIGRATE.GO.base then s.onBit v 31 (execSchMigrate who (bitsOf v 0 4) (bitsOf v 4 4) (bitAt v 8))
  else if a = Reg.SEC_FW_CTL.BURN_FLOOR.base then s.onBit v 1 (execBurnFloor who)
  else if a = Reg.SEC_FUSE_CMD.CODE.base then s.fuseWord who v
  else if a = Reg.KEY_CMD.OP.base then s.keyWord who v
  else match Reg.SCH_FLOW_DONE.SEQ.indexAt a with
    | some f => s.after (execFlowDone who f (v % 65536))
    | none => s

/-- The commands of the backup domain, the recorder, the cascade and the pace monitor. A calendar command counts no tick of its own. -/
def State.boardWord (s : State) (who : Requester) (a v : Nat) : State :=
  if a = Reg.RTC_CTL.HOLD.base then s.after (if bitAt v 0 then execRtcHold who 0 else execRtcHoldClear who 0)
  else if a = Reg.RTC_STATUS.OSF.base then s.onBit v 0 (execOsfClear who)
  else if a = Reg.BKP_CHG.EN.base then s.after (execBkpChgWrite who v)
  else if a = Reg.BKP_TCOMP_CTL.SAVE.base then s.onBit v 2 (execTcompSave who)
  else if a = Reg.BKP_PWR.KEY.base then s.after (execBkpPwrOffRequest who v)
  else if a = Reg.EVR_FREEZE.FREEZE.base then s.after (execEvrFreeze who (bitAt v 0))
  else if a = Reg.EVR_CLEAR.KEY.base then s.after (execEvrClear who v)
  else if a = Reg.CAS_CTL.EN.base then s.after (execCascadeEnable who (bitAt v 0))
  else if a = Reg.CAS_TKO_CTL.TAKE.base then
    let s1 := if bitsOf v 0 8 = 0 then s else s.after (execCasTake who (bitsOf v 0 8))
    if bitsOf v 8 8 = 0 then s1 else s1.after (execCasRelease who (bitsOf v 8 8))
  else if a = Reg.PACE_CTL.AVS_RETRY.base then s.onBit v 8 (execAvsRetry who)
  else if a = Reg.PACE_SWEEP_CMD.UNIT.base then (s.onBit v 8 (execSweepRetire who (v % 32))).onBit v 9 (execSweepRestore who (v % 32))
  else if a = Reg.PACE_VLIM.VMIN_MV.base then s.set Reg.PACE_VLIM.VMAX_MV (max (s.get Reg.PACE_VLIM.VMIN_MV) (s.get Reg.PACE_VLIM.VMAX_MV))
  else s

/-- What the write of one 32-bit register does beside storing its fields. -/
def State.wordEffect (s : State) (who : Requester) (a v : Nat) : State :=
  let w := a / 0x10000
  if w ≤ 2 then s.hostWord who a v
  else if 8 ≤ w ∧ w ≤ 14 then s.portWord who a v
  else if w = 16 ∨ w = 18 ∨ w = 20 then (s.portWord who a v).inputWord who a v
  else if 22 ≤ w ∧ w ≤ 32 then s.sliceWord who a v
  else if w = 34 ∨ w = 4 ∨ w = 5 then s.coreWord who a v
  else s.boardWord who a v

/-! ### An access -/

/-- Whether a requester's write of a mapped register is let through (R90, R99). -/
def State.mayWrite (s : State) (who : Requester) (a : Nat) : Bool :=
  !(fieldsAt a).isEmpty && !(who == .pf1 && !pf1May a) && (!guardedAt a || s.mayGuard who)

/-- A register that is mapped but not let through sets its error bit and is ignored. -/
def State.refuseWord (s : State) (who : Requester) (a : Nat) : State :=
  if (fieldsAt a).isEmpty || s.mayWrite who a then s
  else s.hifErr who (if who = .pf1 then Reg.HIF_ERR.OBSERVER else Reg.HIF_ERR.GUARD) a

/-- The stored fields of the words of an access take their values, each field once. -/
def State.storeFields (s : State) (who : Requester) (ws : List (Nat × Nat)) : State :=
  ((accessFields ws).filter Fld.stored).foldl (fun s f0 =>
    match s.rawNew who f0 ws with
    | none => s
    | some (f, v) => s.writeField who ((ws.head?.map (·.1)).getD 0) f0 f v) s

/-- A register that a key command reads takes no write while one runs (R466). -/
def State.keyHeld (s : State) (a : Nat) : Bool :=
  s.flag Reg.KEY_STATUS.BUSY && (a == Reg.KEY_ARG.MSG_LEN.base || (Reg.KEY_LABEL.LABEL.indexAt a).isSome || (Reg.KEY_MSG.MSG.indexAt a).isSome)

/-- A write that a rule ignores: a key command's register while one runs (R466), a register of the unused ingress queue (R187), and a per-core
register, which takes none but a core's (R440). -/
def State.ignores (s : State) (who : Requester) (a : Nat) : Bool :=
  s.keyHeld a || s.unusedQueue a || (a == Reg.SCH_WAIT_TIMEOUT.US.base && (match who with | .core _ => false | _ => true))

/-- A write of one atomic access: refused registers set their bits, fields are stored, RWT registers staged, commands carried out. -/
def State.busWrite (s : State) (who : Requester) (ws : List (Nat × Nat)) : State :=
  let ok := ws.filter fun w => s.mayWrite who w.1 && !s.ignores who w.1
  let late := ws.filter fun w => s.mayWrite who w.1 && s.keyHeld w.1
  let s0 := late.foldl (fun s _ => s.count Reg.SEC.KEY_REFUSED) (ws.foldl (fun s w => s.refuseWord who w.1) s)
  let s1 := s0.storeFields who ok
  ok.foldl (fun s w => (if rwtAt w.1 then s.stage who w.1 w.2 else s).wordEffect who w.1 w.2) s1

/-- A 32-bit access, or a 64-bit one: atomic where it is 8-byte aligned, else two in ascending order (R95, R96). -/
def State.accessWrite (s : State) (who : Requester) (addr : Nat) (wide : Bool) (value : Nat) : State :=
  if wide ∧ addr % 8 ≠ 0 then (s.busWrite who (accessWords addr value false)).busWrite who (accessWords (addr + 4) (value / 2 ^ 32) false)
  else s.busWrite who (accessWords addr value wide)

/-- Where BAR4 stands for REGISTER_WRITE: behind the 32 MiB of BAR0 (log entry 109). -/
def bar4Base : Nat := 0x2000000

/-- A dword write of a function's own BAR4 (R89, R90): the MSI-X table takes it; the pending-bit array, which is read-only in the standard,
does not, and the rest of the 16 KiB is unimplemented. No function is behind an internal requester. -/
def State.bar4Word (s : State) (who : Requester) (off v : Nat) : State :=
  match who with
  | .pf0 => if off < 0x1000 then { s with host := { s.host with msix0 := aset off (v % 2 ^ 32) s.host.msix0 } } else s
  | .pf1 => if off < 0x1000 then { s with host := { s.host with msix1 := aset off (v % 2 ^ 32) s.host.msix1 } } else s
  | _ => s

/-- A write of BAR4, dword by dword. -/
def State.bar4Write (s : State) (who : Requester) (off : Nat) (wide : Bool) (value : Nat) : State :=
  (accessWords off value wide).foldl (fun s w => s.bar4Word who w.1 w.2) s

/-- REGISTER_WRITE: a write with a byte enable clear is discarded whole and sets NARROW_WR (R95), whatever stands at its offset and whoever
sends it: neither R97, nor OBSERVER or GUARD, comes into it. DESIGN CHOICE (log entry 108): the spec does not rank these. An offset behind
BAR0 is one of the function's own BAR4. -/
def execRegisterWrite (who : Requester) (addr : Nat) (wide : Bool) (value byteEn : Nat) (s : State) : Out :=
  .next (
    let a := addr / 4 * 4
    let full := if wide then 255 else 15
    if s.silent who then s
    else if bar4Base ≤ a then (if byteEn % (full + 1) = full then s.bar4Write who (a - bar4Base) wide value else s)
    else if byteEn % (full + 1) ≠ full then s.hifErr who Reg.HIF_ERR.NARROW_WR a
    else s.accessWrite who a wide value)

/-- RWT_WRITE (R108): the RWT registers of the access are staged in the open transaction, or discarded with their error bit. -/
def execRwtWrite (who : Requester) (addr : Nat) (wide : Bool) (value : Nat) (s : State) : Out :=
  .next (
    if s.silent who then s
    else (accessWords (addr / 4 * 4) value wide).foldl (fun s w =>
      if !rwtAt w.1 then s
      else if s.mayWrite who w.1 then s.stage who w.1 w.2
      else s.refuseWord who w.1) s)

end Sys2Proof.Machine
end

