-- ==== Sys2Proof/Machine/Dispatch.lean ====
section
/-! DEFINITION. One arm per command: a direct call of its meaning. -/

namespace Sys2Proof.Machine

/-- The effect of a command on everything but the queue. -/
def exec (i : Instr) (s : State) : Host.Outcome State Fault Refusal :=
  match i with
  | .powerOnReset dipNs powerUp rails co => Sys2Proof.Machine.execPowerOnReset dipNs powerUp rails co s
  | .resetNAssert lowNs co => Sys2Proof.Machine.execResetNAssert lowNs co s
  | .perstNAssert => Sys2Proof.Machine.execPerstNAssert s
  | .pcieLinkLoss => Sys2Proof.Machine.execPcieLinkLoss s
  | .pf0FunctionLevelReset => Sys2Proof.Machine.execPf0FunctionLevelReset s
  | .resetEnd casId testEn => Sys2Proof.Machine.execResetEnd casId testEn s
  | .ledgerStepComplete r => Sys2Proof.Machine.execLedgerStepComplete r s
  | .ledgerStepTimeout => Sys2Proof.Machine.execLedgerStepTimeout s
  | .bootRoastGo who => Sys2Proof.Machine.execBootRoastGo who s
  | .clearAttempts who => Sys2Proof.Machine.execClearAttempts who s
  | .fullTrain who => Sys2Proof.Machine.execFullTrain who s
  | .fullCal who => Sys2Proof.Machine.execFullCal who s
  | .staySafe who => Sys2Proof.Machine.execStaySafe who s
  | .slotPreferenceWrite who fw roast => Sys2Proof.Machine.execSlotPreferenceWrite who fw roast s
  | .hostSoftReset who w => Sys2Proof.Machine.execHostSoftReset who w s
  | .heartbeatKick who => Sys2Proof.Machine.execHeartbeatKick who s
  | .heartbeatHalfExpiry => Sys2Proof.Machine.execHeartbeatHalfExpiry s
  | .watchdogExpiry co => Sys2Proof.Machine.execWatchdogExpiry co s
  | .registerWrite who addr wide value byteEn => Sys2Proof.Machine.execRegisterWrite who addr wide value byteEn s
  | .bar0LongWrite who addr words => Sys2Proof.Machine.execBar0LongWrite who addr words s
  | .bar2Write who => Sys2Proof.Machine.execBar2Write who s
  | .hifSnap who => Sys2Proof.Machine.execHifSnap who s
  | .snapshotCopyDone who => Sys2Proof.Machine.execSnapshotCopyDone who s
  | .ownerClaim who => Sys2Proof.Machine.execOwnerClaim who s
  | .ownerVerifyDone => Sys2Proof.Machine.execOwnerVerifyDone s
  | .ownerRelease who => Sys2Proof.Machine.execOwnerRelease who s
  | .txnBegin who => Sys2Proof.Machine.execTxnBegin who s
  | .rwtWrite who addr wide value => Sys2Proof.Machine.execRwtWrite who addr wide value s
  | .txnCommit who t => Sys2Proof.Machine.execTxnCommit who t s
  | .txnRollback who => Sys2Proof.Machine.execTxnRollback who s
  | .txnTimeout => Sys2Proof.Machine.execTxnTimeout s
  | .crcScanStart => Sys2Proof.Machine.execCrcScanStart s
  | .crcScanComplete => Sys2Proof.Machine.execCrcScanComplete s
  | .crcSuspend who on => Sys2Proof.Machine.execCrcSuspend who on s
  | .crcSuspendTimeout => Sys2Proof.Machine.execCrcSuspendTimeout s
  | .crcAdopt who => Sys2Proof.Machine.execCrcAdopt who s
  | .roastLoad who src => Sys2Proof.Machine.execRoastLoad who src s
  | .shadowLoadDone d => Sys2Proof.Machine.execShadowLoadDone d s
  | .roastDiscard who => Sys2Proof.Machine.execRoastDiscard who s
  | .raiseFloor who => Sys2Proof.Machine.execRaiseFloor who s
  | .swapRequest who d auto => Sys2Proof.Machine.execSwapRequest who d auto s
  | .swapCancel who => Sys2Proof.Machine.execSwapCancel who s
  | .retiringEnd t => Sys2Proof.Machine.execRetiringEnd t s
  | .scrubTileRead region copy tile good => Sys2Proof.Machine.execScrubTileRead region copy tile good s
  | .flashSectionReread d => Sys2Proof.Machine.execFlashSectionReread d s
  | .repairReqReminder => Sys2Proof.Machine.execRepairReqReminder s
  | .repairGo who => Sys2Proof.Machine.execRepairGo who s
  | .repairDeliveryDone d => Sys2Proof.Machine.execRepairDeliveryDone d s
  | .frameReceive p f => Sys2Proof.Machine.execFrameReceive p f s
  | .ringEventHoldoffExpiry r t => Sys2Proof.Machine.execRingEventHoldoffExpiry r t s
  | .dregs who n seqMatch mark => Sys2Proof.Machine.execDregs who n seqMatch mark s
  | .txFrameOffer t o => Sys2Proof.Machine.execTxFrameOffer t o s
  | .txFrameComplete p stamp => Sys2Proof.Machine.execTxFrameComplete p stamp s
  | .linkStateChange p l => Sys2Proof.Machine.execLinkStateChange p l s
  | .preemptVerifyTimeout p => Sys2Proof.Machine.execPreemptVerifyTimeout p s
  | .lpiIdleExpiry => Sys2Proof.Machine.execLpiIdleExpiry s
  | .mdioWrite who phy reg data => Sys2Proof.Machine.execMdioWrite who phy reg data s
  | .mdioRead who phy reg data => Sys2Proof.Machine.execMdioRead who phy reg data s
  | .mdioC45Address who phy reg data => Sys2Proof.Machine.execMdioC45Address who phy reg data s
  | .mdioC45Read who phy reg data => Sys2Proof.Machine.execMdioC45Read who phy reg data s
  | .mdioDone data => Sys2Proof.Machine.execMdioDone data s
  | .portEnable who p en => Sys2Proof.Machine.execPortEnable who p en s
  | .ringEnable who r en => Sys2Proof.Machine.execRingEnable who r en s
  | .ingressQueueEnable who n en => Sys2Proof.Machine.execIngressQueueEnable who n en s
  | .parserEnable who en => Sys2Proof.Machine.execParserEnable who en s
  | .blockShutdownComplete b bufs => Sys2Proof.Machine.execBlockShutdownComplete b bufs s
  | .timeBaseTick t => Sys2Proof.Machine.execTimeBaseTick t s
  | .stepGo who => Sys2Proof.Machine.execStepGo who s
  | .tsuSampleGo who k ofs => Sys2Proof.Machine.execTsuSampleGo who k ofs s
  | .ppsInEdge stamp => Sys2Proof.Machine.execPpsInEdge stamp s
  | .irigBFrame f => Sys2Proof.Machine.execIrigBFrame f s
  | .ref10mSecond t y => Sys2Proof.Machine.execRef10mSecond t y s
  | .slewComplete => Sys2Proof.Machine.execSlewComplete s
  | .tdcCalibration ch bins => Sys2Proof.Machine.execTdcCalibration ch bins s
  | .tsuTimeLatch who t => Sys2Proof.Machine.execTsuTimeLatch who t s
  | .leapSecond t => Sys2Proof.Machine.execLeapSecond t s
  | .ppsOutPulse t => Sys2Proof.Machine.execPpsOutPulse t s
  | .ppsOutWidthEnd => Sys2Proof.Machine.execPpsOutWidthEnd s
  | .parsePacket t j bufs => Sys2Proof.Machine.execParsePacket t j bufs s
  | .gooseStale t => Sys2Proof.Machine.execGooseStale t s
  | .stageTpl who => Sys2Proof.Machine.execStageTpl who s
  | .stageRec who => Sys2Proof.Machine.execStageRec who s
  | .resume who => Sys2Proof.Machine.execResume who s
  | .suspend who => Sys2Proof.Machine.execSuspend who s
  | .tplDiscard who => Sys2Proof.Machine.execTplDiscard who s
  | .ingKeyLoadNext who => Sys2Proof.Machine.execIngKeyLoadNext who s
  | .ingKeyErase who => Sys2Proof.Machine.execIngKeyErase who s
  | .unclaimedClr who => Sys2Proof.Machine.execUnclaimedClr who s
  | .cicOutput l bits edge => Sys2Proof.Machine.execCicOutput l bits edge s
  | .svWaitExpiry l t => Sys2Proof.Machine.execSvWaitExpiry l t s
  | .resamplerOutput l => Sys2Proof.Machine.execResamplerOutput l s
  | .phasorEstimate g n t => Sys2Proof.Machine.execPhasorEstimate g n t s
  | .fltSync who g => Sys2Proof.Machine.execFltSync who g s
  | .fltChainEnable who en => Sys2Proof.Machine.execFltChainEnable who en s
  | .fltGroupEnable who g en => Sys2Proof.Machine.execFltGroupEnable who g en s
  | .firBankSwapRequest who g target => Sys2Proof.Machine.execFirBankSwapRequest who g target s
  | .kernelBankSwapRequest who target => Sys2Proof.Machine.execKernelBankSwapRequest who target s
  | .fadeEnd g => Sys2Proof.Machine.execFadeEnd g s
  | .fltCoefWrite who v => Sys2Proof.Machine.execFltCoefWrite who v s
  | .sliceOpen t => Sys2Proof.Machine.execSliceOpen t s
  | .sliceDeadline t => Sys2Proof.Machine.execSliceDeadline t s
  | .substitution r => Sys2Proof.Machine.execSubstitution r s
  | .outputHoldExpiry t => Sys2Proof.Machine.execOutputHoldExpiry t s
  | .alarmPass1 r => Sys2Proof.Machine.execAlarmPass1 r s
  | .alarmPass2 r => Sys2Proof.Machine.execAlarmPass2 r s
  | .topologyEngine r => Sys2Proof.Machine.execTopologyEngine r s
  | .islandEngine r => Sys2Proof.Machine.execIslandEngine r s
  | .oscillationEngine r => Sys2Proof.Machine.execOscillationEngine r s
  | .lseStage r => Sys2Proof.Machine.execLseStage r s
  | .historyWrite r => Sys2Proof.Machine.execHistoryWrite r s
  | .captureSliceEntries r => Sys2Proof.Machine.execCaptureSliceEntries r s
  | .scheduleDoneNotice r buf => Sys2Proof.Machine.execScheduleDoneNotice r buf s
  | .revisionPass r => Sys2Proof.Machine.execRevisionPass r s
  | .sliceRetire t bufs => Sys2Proof.Machine.execSliceRetire t bufs s
  | .fabricWatchdog t => Sys2Proof.Machine.execFabricWatchdog t s
  | .alignerEnable who en => Sys2Proof.Machine.execAlignerEnable who en s
  | .hostRingEnable who en => Sys2Proof.Machine.execHostRingEnable who en s
  | .lseSummaryLatch who => Sys2Proof.Machine.execLseSummaryLatch who s
  | .oscCmd who kind index => Sys2Proof.Machine.execOscCmd who kind index s
  | .oscResultLatch who item => Sys2Proof.Machine.execOscResultLatch who item s
  | .islItemLatch who item => Sys2Proof.Machine.execIslItemLatch who item s
  | .alarmEngineEnable who en => Sys2Proof.Machine.execAlarmEngineEnable who en s
  | .pubRetransmit k t => Sys2Proof.Machine.execPubRetransmit k t s
  | .almPinMaskWrite who v => Sys2Proof.Machine.execAlmPinMaskWrite who v s
  | .almFrameMaskWrite who j v t => Sys2Proof.Machine.execAlmFrameMaskWrite who j v t s
  | .almRuleAck who j v => Sys2Proof.Machine.execAlmRuleAck who j v s
  | .almTest who v => Sys2Proof.Machine.execAlmTest who v s
  | .almTermLatch who => Sys2Proof.Machine.execAlmTermLatch who s
  | .almKeyLoad who => Sys2Proof.Machine.execAlmKeyLoad who s
  | .almKeyErase who => Sys2Proof.Machine.execAlmKeyErase who s
  | .trigInEdge k falling edge => Sys2Proof.Machine.execTrigInEdge k falling edge s
  | .xtrigEdge k edge => Sys2Proof.Machine.execXtrigEdge k edge s
  | .capHostTrig who t => Sys2Proof.Machine.execCapHostTrig who t s
  | .xtrigRelease k t => Sys2Proof.Machine.execXtrigRelease k t s
  | .xtrigStuck k t => Sys2Proof.Machine.execXtrigStuck k t s
  | .xtrigUnstuck k t => Sys2Proof.Machine.execXtrigUnstuck k t s
  | .captureRecordDone r => Sys2Proof.Machine.execCaptureRecordDone r s
  | .capArm who mask => Sys2Proof.Machine.execCapArm who mask s
  | .capDisarm who mask => Sys2Proof.Machine.execCapDisarm who mask s
  | .capSlotHold who k => Sys2Proof.Machine.execCapSlotHold who k s
  | .capSlotRelease who k => Sys2Proof.Machine.execCapSlotRelease who k s
  | .captureEnable who en => Sys2Proof.Machine.execCaptureEnable who en s
  | .meteringCycle e => Sys2Proof.Machine.execMeteringCycle e s
  | .pulseStart k t => Sys2Proof.Machine.execPulseStart k t s
  | .pulseEnd k t => Sys2Proof.Machine.execPulseEnd k t s
  | .demandSubintervalEnd t => Sys2Proof.Machine.execDemandSubintervalEnd t s
  | .billingBoundary t => Sys2Proof.Machine.execBillingBoundary t s
  | .totalsSave t => Sys2Proof.Machine.execTotalsSave t s
  | .totalsSaveComplete bad => Sys2Proof.Machine.execTotalsSaveComplete bad s
  | .nrgSaveNow who => Sys2Proof.Machine.execNrgSaveNow who s
  | .residualBankWrite => Sys2Proof.Machine.execResidualBankWrite s
  | .powerFailWarning lowNs => Sys2Proof.Machine.execPowerFailWarning lowNs s
  | .residualPushRepeat => Sys2Proof.Machine.execResidualPushRepeat s
  | .powerFailCleared => Sys2Proof.Machine.execPowerFailCleared s
  | .energyEnable who en => Sys2Proof.Machine.execEnergyEnable who en s
  | .intervalRestartDecision t => Sys2Proof.Machine.execIntervalRestartDecision t s
  | .custodyRecordLatch who => Sys2Proof.Machine.execCustodyRecordLatch who s
  | .getwork p => Sys2Proof.Machine.execGetwork p s
  | .getworkIdleTimeout p t => Sys2Proof.Machine.execGetworkIdleTimeout p t s
  | .schWait who o => Sys2Proof.Machine.execSchWait who o s
  | .waitTimeout thread t => Sys2Proof.Machine.execWaitTimeout thread t s
  | .schSignal who o => Sys2Proof.Machine.execSchSignal who o s
  | .schYield who => Sys2Proof.Machine.execSchYield who s
  | .schExit who => Sys2Proof.Machine.execSchExit who s
  | .schPark who => Sys2Proof.Machine.execSchPark who s
  | .preemptLate p t => Sys2Proof.Machine.execPreemptLate p t s
  | .tcbCreate who => Sys2Proof.Machine.execTcbCreate who s
  | .tcbSuspend who => Sys2Proof.Machine.execTcbSuspend who s
  | .tcbResume who => Sys2Proof.Machine.execTcbResume who s
  | .setPrio who => Sys2Proof.Machine.execSetPrio who s
  | .tcbFree who => Sys2Proof.Machine.execTcbFree who s
  | .schObjCfgWrite who kind => Sys2Proof.Machine.execSchObjCfgWrite who kind s
  | .flowPost who f => Sys2Proof.Machine.execFlowPost who f s
  | .flowDone who f q => Sys2Proof.Machine.execFlowDone who f q s
  | .flowTake who f => Sys2Proof.Machine.execFlowTake who f s
  | .flowStallExpiry f t => Sys2Proof.Machine.execFlowStallExpiry f t s
  | .schMigrate who a b retain => Sys2Proof.Machine.execSchMigrate who a b retain s
  | .migrationForce => Sys2Proof.Machine.execMigrationForce s
  | .keyDerive who slot parent gen => Sys2Proof.Machine.execKeyDerive who slot parent gen s
  | .keySign who slot => Sys2Proof.Machine.execKeySign who slot s
  | .keyVerify who => Sys2Proof.Machine.execKeyVerify who s
  | .pubkey who slot => Sys2Proof.Machine.execPubkey who slot s
  | .keyAttest who => Sys2Proof.Machine.execKeyAttest who s
  | .erase who slot => Sys2Proof.Machine.execErase who slot s
  | .invalidate who slot gen => Sys2Proof.Machine.execInvalidate who slot gen s
  | .provision who slot => Sys2Proof.Machine.execProvision who slot s
  | .debugReq who => Sys2Proof.Machine.execDebugReq who s
  | .tamperCfg who => Sys2Proof.Machine.execTamperCfg who s
  | .keyCommandDone readback => Sys2Proof.Machine.execKeyCommandDone readback s
  | .keyShareRefresh => Sys2Proof.Machine.execKeyShareRefresh s
  | .fuseBlowGm who => Sys2Proof.Machine.execFuseBlowGm who s
  | .fuseBlowTamperKill who => Sys2Proof.Machine.execFuseBlowTamperKill who s
  | .fuseBlowDebugAllowed who => Sys2Proof.Machine.execFuseBlowDebugAllowed who s
  | .fuseBlowLcDev who => Sys2Proof.Machine.execFuseBlowLcDev who s
  | .fuseBlowLcProd who => Sys2Proof.Machine.execFuseBlowLcProd who s
  | .fuseBlowLcRma who => Sys2Proof.Machine.execFuseBlowLcRma who s
  | .secRaiseFloor who readback => Sys2Proof.Machine.execSecRaiseFloor who readback s
  | .burnFloor who => Sys2Proof.Machine.execBurnFloor who s
  | .tamperDetect source => Sys2Proof.Machine.execTamperDetect source s
  | .secTamperClr who key active => Sys2Proof.Machine.execSecTamperClr who key active s
  | .firstBackupPower => Sys2Proof.Machine.execFirstBackupPower s
  | .vbatBrownOut => Sys2Proof.Machine.execVbatBrownOut s
  | .oscillatorStop => Sys2Proof.Machine.execOscillatorStop s
  | .tempCompPeriod temp => Sys2Proof.Machine.execTempCompPeriod temp s
  | .calendarRangeEnd ticks => Sys2Proof.Machine.execCalendarRangeEnd ticks s
  | .rtcSecLatch who ticks => Sys2Proof.Machine.execRtcSecLatch who ticks s
  | .rtcHold who ticks => Sys2Proof.Machine.execRtcHold who ticks s
  | .rtcHoldClear who ticks => Sys2Proof.Machine.execRtcHoldClear who ticks s
  | .osfClear who => Sys2Proof.Machine.execOsfClear who s
  | .rtcAutoSync t ticks => Sys2Proof.Machine.execRtcAutoSync t ticks s
  | .rtcAlarm ticks => Sys2Proof.Machine.execRtcAlarm ticks s
  | .bkpPwrOffRequest who key => Sys2Proof.Machine.execBkpPwrOffRequest who key s
  | .pwrOnLow t => Sys2Proof.Machine.execPwrOnLow t s
  | .bkpChgWrite who value => Sys2Proof.Machine.execBkpChgWrite who value s
  | .tcompSave who => Sys2Proof.Machine.execTcompSave who s
  | .vbatMeasure mv => Sys2Proof.Machine.execVbatMeasure mv s
  | .logEntryWrite => Sys2Proof.Machine.execLogEntryWrite s
  | .evrFreeze who on => Sys2Proof.Machine.execEvrFreeze who on s
  | .freezeTimeout => Sys2Proof.Machine.execFreezeTimeout s
  | .evrClear who key => Sys2Proof.Machine.execEvrClear who key s
  | .logClearComplete => Sys2Proof.Machine.execLogClearComplete s
  | .evrWindowLatch who through => Sys2Proof.Machine.execEvrWindowLatch who through s
  | .evrCkptLatch who => Sys2Proof.Machine.execEvrCkptLatch who s
  | .tokenReceive ring gen t => Sys2Proof.Machine.execTokenReceive ring gen t s
  | .tokenHoldExpiry ring t => Sys2Proof.Machine.execTokenHoldExpiry ring t s
  | .ringMessageReceive ring m crcOk linkNs t => Sys2Proof.Machine.execRingMessageReceive ring m crcOk linkNs t s
  | .neighbourAbsent east locked => Sys2Proof.Machine.execNeighbourAbsent east locked s
  | .ringUnwrap east => Sys2Proof.Machine.execRingUnwrap east s
  | .laneLoss east => Sys2Proof.Machine.execLaneLoss east s
  | .laneRetrainDone east lanes => Sys2Proof.Machine.execLaneRetrainDone east lanes s
  | .tokenRegenerate ring t => Sys2Proof.Machine.execTokenRegenerate ring t s
  | .casTake who mask => Sys2Proof.Machine.execCasTake who mask s
  | .casRelease who mask => Sys2Proof.Machine.execCasRelease who mask s
  | .cascadeEnable who en => Sys2Proof.Machine.execCascadeEnable who en s
  | .casPpsDrive t => Sys2Proof.Machine.execCasPpsDrive t s
  | .casPpsDriveEnd => Sys2Proof.Machine.execCasPpsDriveEnd s
  | .casPpsEdge stamp => Sys2Proof.Machine.execCasPpsEdge stamp s
  | .casPpsMiss t => Sys2Proof.Machine.execCasPpsMiss t s
  | .replicaWindow t loops => Sys2Proof.Machine.execReplicaWindow t loops s
  | .avsRequestDone => Sys2Proof.Machine.execAvsRequestDone s
  | .avsTimeout t => Sys2Proof.Machine.execAvsTimeout t s
  | .avsRetry who => Sys2Proof.Machine.execAvsRetry who s
  | .sweepRetire who u => Sys2Proof.Machine.execSweepRetire who u s
  | .sweepRestore who u => Sys2Proof.Machine.execSweepRestore who u s
  | .coreCacheError p uncorrectable => Sys2Proof.Machine.execCoreCacheError p uncorrectable s
  | .carafeEccError place row uncorrectable => Sys2Proof.Machine.execCarafeEccError place row uncorrectable s
  | .flashWrite who => Sys2Proof.Machine.execFlashWrite who s
  | .flashCheckFirmware who slot => Sys2Proof.Machine.execFlashCheckFirmware who slot s
  | .flashCheckRoast who slot => Sys2Proof.Machine.execFlashCheckRoast who slot s
  | .flashCmdDone r => Sys2Proof.Machine.execFlashCmdDone r s
  | .fwLiveStage who im flashErr => Sys2Proof.Machine.execFwLiveStage who im flashErr s
  | .fwLiveSwitch who => Sys2Proof.Machine.execFwLiveSwitch who s
  | .fwLiveCommit who => Sys2Proof.Machine.execFwLiveCommit who s
  | .fwLiveAbort who => Sys2Proof.Machine.execFwLiveAbort who s
  | .junctionTemperatureChange temp => Sys2Proof.Machine.execJunctionTemperatureChange temp s
  | .vbatAbsent absent => Sys2Proof.Machine.execVbatAbsent absent s
  | .crystalEdgesResume => Sys2Proof.Machine.execCrystalEdgesResume s
  | .perstNRelease => Sys2Proof.Machine.execPerstNRelease s
  | .rowRemapCopyDone row => Sys2Proof.Machine.execRowRemapCopyDone row s
  | .tcompSaveDone => Sys2Proof.Machine.execTcompSaveDone s
  | .templateCommandDone => Sys2Proof.Machine.execTemplateCommandDone s
  | .duplicateEntryExpiry t => Sys2Proof.Machine.execDuplicateEntryExpiry t s
  | .lpiRxChange on => Sys2Proof.Machine.execLpiRxChange on s
  | .twSysExpiry => Sys2Proof.Machine.execTwSysExpiry s

end Sys2Proof.Machine
end

