-- ==== Sys2Proof/Machine/Pins.lean ====
section
/-! DEFINITION. The state each pin is in (R47, R48, R59): what the supplies, the phase of the start and the blocks make of it. -/

namespace Sys2Proof.Machine

/-- The columns of R59 beside Unpowered. -/
inductive Phase where
  /-- any reset is in force -/
  | reset
  /-- reset has ended and health release has not completed -/
  | boot
  /-- safe mode, and quarantine (R82) -/
  | safe
  /-- health release has completed -/
  | operating
  deriving DecidableEq, Repr

/-- The phase the device is in. -/
def State.phase (s : State) : Phase :=
  if s.boot.inReset then .reset
  else match s.get Reg.BOOT_STATUS.STATE with
    | 0 => .boot
    | 1 => .operating
    | _ => .safe

/-- The rows of R59; serial ports as in Pins.txActive, 0 to 5 F and S, 7 EAST, 8 WEST. -/
inductive Pin where
  | almOut (k : Nat)
  | devOk
  | xtrig (k : Nat)
  | casPps
  | pls (k : Nat)
  | ppsOut
  | sdmClk (k : Nat)
  /-- the RGMII outputs, M0_MDC and M0_MDIO -/
  | m0
  /-- XSPI_CLK and XSPI_IO -/
  | xspi
  | xspiCs
  | xspiReset
  /-- AVS_CLK and AVS_MDATA -/
  | avs
  | tdo
  | tx (port : Nat)
  | rx (port : Nat)
  | pcie
  | pwrOn
  /-- CAS_ID0 to CAS_ID2 and TEST_EN -/
  | strap
  /-- TCK, TMS, TDI, TRST_N -/
  | tapIn
  /-- every other input -/
  | input
  deriving DecidableEq, Repr

/-- What a pin is seen to do. -/
inductive PinState where
  /-- an open-drain output off, a push-pull output off or an input without a pull -/
  | released
  | hiZ
  /-- a serial lane of R47 below 0.70 V: more than 10 kΩ differential and to VSS -/
  | highImpedance
  | low
  | high
  /-- toggling as its unit drives it; high whenever idle -/
  | driven
  | idleHigh
  | squelched
  | active
  | unterminated
  | terminated
  | electricalIdle
  /-- per PCIe Base 4.0 -/
  | perPcie
  /-- an input with its internal pull-down switched in (R48) -/
  | pulledDown
  /-- Hi-Z unless the test access port shifts -/
  | hiZUnlessShifting
  deriving DecidableEq, Repr

/-- VDD_SD stands high enough for the serial lanes to leave high impedance (R47). -/
def State.lanesPowered (s : State) : Bool := decide (700 ≤ s.env.sdMv)

/-- The pull-downs of the straps are switched in: in reset, and until 100 µs after it (R48). -/
def State.strapsPulled (s : State) : Bool := s.boot.inReset || decide (s.time.elapsed < s.boot.endedAt + 100 * usUnit)

/-- An open-drain output that is low only in operation. -/
def State.openDrain (s : State) (isLow : Bool) : PinState := if s.phase = .operating ∧ isLow then .low else .released

/-- A push-pull output that is Hi-Z in reset and safe mode, and in the other phases until it is configured. -/
def State.whenSet (s : State) (set : Bool) (p : PinState) : PinState :=
  if (s.phase = .boot ∨ s.phase = .operating) ∧ set then p else .hiZ

/-- Whether a serial port is enabled: EN or BUSY of its MAC; the ring ports from port bring-up on. -/
def State.laneEnabled (s : State) (p : Nat) : Bool :=
  if p < 6 then s.flag (Reg.MAC_CTL.EN.ix p) || s.flag (Reg.MAC_CTL.BUSY.ix p) else bitAt s.pins.txActive p

/-- A receiver's termination (R47, R59): from calibration on in a start, in operation of an enabled port whose lanes are calibrated. -/
def State.rxPin (s : State) (p : Nat) : PinState :=
  let cal := bitAt s.pins.calibrated p
  match s.phase with
  | .boot => if cal then .terminated else .unterminated
  | .operating => if cal && s.laneEnabled p then .terminated else .unterminated
  | _ => .unterminated

/-- The state of a pin whose bank is powered. -/
def State.poweredPin (s : State) : Pin → PinState
  | .almOut k => s.openDrain (bitAt s.pins.almLow k)
  | .devOk => if s.phase = .operating ∧ s.pins.devOk = true then .released else .low
  | .xtrig k => s.openDrain (bitAt s.pins.xtrigLow k)
  | .casPps => s.openDrain s.pins.casPpsLow
  | .pls k => s.openDrain (bitAt s.pins.plsLow k)
  | .ppsOut => s.whenSet (s.flag Reg.TSU_PPS_OUT.EN) (if s.pins.ppsOut then .high else .low)
  | .sdmClk k => s.whenSet (s.flag (Reg.FLT_SDMCLK.RUN.ix k)) .driven
  | .m0 => if s.phase = .operating then .active else s.whenSet (bitAt s.pins.txActive 6) .active
  | .xspi => if s.phase = .reset then .hiZ else .driven
  | .xspiCs => if s.phase = .reset then .hiZ else .idleHigh
  | .xspiReset => if s.phase = .reset then .hiZ else .high
  | .avs => match s.phase with | .reset => .hiZ | .operating => .driven | _ => .idleHigh
  | .tdo => if s.phase ≠ .reset ∧ s.flag Reg.SEC_STATUS.DEBUG_OPEN = true then .hiZUnlessShifting else .hiZ
  | .tx p => if (s.phase = .boot ∨ s.phase = .operating) ∧ bitAt s.pins.txActive p = true then .active else .squelched
  | .rx p => s.rxPin p
  | .pcie => if s.phase = .reset ∨ s.env.perst then .electricalIdle else .perPcie
  | .pwrOn => if s.pins.pwrOn then .high else .low
  | .strap => if s.strapsPulled then .pulledDown else .hiZ
  | .tapIn => .pulledDown
  | .input => .hiZ

/-- Whether the bank that carries a pin is powered: B33, B18, the serial lanes, the backup bank (R39 to R43). -/
def State.powered (s : State) : Pin → Bool
  | .almOut _ | .devOk | .xtrig _ | .casPps | .pls _ | .ppsOut | .strap => s.env.io33
  | .sdmClk _ | .m0 | .xspi | .xspiCs | .xspiReset | .avs | .tdo | .tapIn => s.env.io18
  | .tx _ | .rx _ | .pcie => s.lanesPowered
  | .pwrOn => !s.env.vbatAbsent || s.mainPower
  | .input => true

/-- The column Unpowered of R59. -/
def unpoweredPin : Pin → PinState
  | .almOut _ | .devOk | .xtrig _ | .casPps | .pls _ => .released
  | .tx _ | .rx _ | .pcie => .highImpedance
  | _ => .hiZ

/-- The state of a pin (R59). -/
def State.pin (s : State) (p : Pin) : PinState := if s.powered p then s.poweredPin p else unpoweredPin p

end Sys2Proof.Machine
end

