-- ==== Sys2Proof/Machine/RegRead.lean ====
section
/-! DEFINITION. What reads answer: a register of BAR0 (R11, R90, R95 to R99, R103, R126), an aperture of BAR2 onto the Carafe's slice history
and capture area (R94, R289, R397, R403), and BAR4 (R89). The table has no command for a read (log entry 15); a read answers a value, and
the one read that moves something is FLT_COEF_DATA's. -/

namespace Sys2Proof.Machine

/-! ### BAR0 -/

/-- A holding copy at its counter's offset plus 0x8000, in the requester's own set (R103). -/
def State.holdWord (s : State) (who : Requester) (addr : Nat) : Nat :=
  if s.readsZero (addr - 0x8000) then 0
  else (fieldsAt (addr - 0x8000)).foldl (fun a p =>
    if p.1.counter then a + s.fieldWord p.1 ({ p.2.1 with base := p.2.1.base + 0x8000 }.inBank (holdBank who.holdSet)) p.2.2 else a) 0

/-- The registers that show an item the requester selected, and the time of its snapshot; none for any other. A host's read of a per-core
register returns 0 (R440). -/
def State.windowWord (s : State) (who : Requester) (addr : Nat) : Option Nat :=
  if addr == Reg.SCH_WAIT_TIMEOUT.US.base && (match who with | .core _ => false | _ => true) then some 0
  else if addr = Reg.KEY_SLOT_INFO.STATE.base then some (s.keySlotInfo who)
  else if addr = Reg.SCH_OBJ_CFG.KIND.base then some (b2n (s.objKind who))
  else if addr = Reg.SCH_OBJ_STATUS.COUNT.base then some ((s.objStatus who).1 + 2 ^ 16 * (s.objStatus who).2)
  else if Reg.SCH_TCB.WORD.base ≤ addr ∧ addr < Reg.SCH_TCB.WORD.base + 16 then some (s.tcbShown who ((addr - Reg.SCH_TCB.WORD.base) / 4))
  else if addr = Reg.FLT_COEF_DATA.DATA.base then some s.coefShown.toNat
  else if Reg.HIF_SNAP_TIME.TIME.base ≤ addr ∧ addr < Reg.HIF_SNAP_TIME.TIME.base + 16 then
    some (s.get ((Reg.HIF_SNAP_TIME.TIME.ix ((addr - Reg.HIF_SNAP_TIME.TIME.base) / 4)).inBank (holdBank who.holdSet)))
  else none

/-- What a requester's read of the doubleword at a BAR0 offset returns: partial byte enables return it whole (R95). -/
def State.read (s : State) (who : Requester) (addr : Nat) : Nat :=
  let a := addr / 4 * 4
  if 0x8000 ≤ a % 0x10000 then s.holdWord who a
  else match s.windowWord who a with
    | some v => if s.readsZero a || (guardedAt a && !s.mayGuard who) then 0 else v
    | none => s.regWord who a

/-- What a read does: an access to FLT_COEF_DATA under AUTOINC moves INDEX on, where the requester may read the register (R99, R263). -/
def State.afterRead (s : State) (who : Requester) (addr : Nat) : State :=
  if addr / 4 * 4 = Reg.FLT_COEF_DATA.DATA.base ∧ s.mayGuard who ∧ s.flag Reg.FLT_COEF_SEL.AUTOINC then
    s.set Reg.FLT_COEF_SEL.INDEX (s.get Reg.FLT_COEF_SEL.INDEX + 1)
  else s

/-- A read of `n` doublewords from an offset: served as 32-bit reads in ascending order where it is longer than two (R96). -/
def State.reads (s : State) (who : Requester) (addr : Nat) : Nat → List Nat × State
  | 0 => ([], s)
  | n + 1 =>
    let r := State.reads (s.afterRead who addr) who (addr + 4) n
    (s.read who addr :: r.1, r.2)

/-! ### BAR2 (R94) -/

/-- The slice whose record stands at a history position: written there, or left by the Carafe over a reset (R85, R289). -/
def State.atPosition (s : State) (p : Nat) : Option Slice :=
  let at? (l : List (Nat × Slice)) : Option Slice := (l.find? fun e => e.1 % 14400 == p && decide (4 ≤ e.2.state)).map (·.2)
  (at? s.aln.slices).or (at? s.aln.kept)

/-- A byte of the slice-history region: slot areas, then header units (R289). None where nothing has been written, or in the unused part: the
spec gives such a byte no content. -/
def State.historyByte (s : State) (off : Nat) : Option Byte :=
  if off < headerBase then (s.atPosition (off / 655360)).map fun x => x.slotByte (off % 655360)
  else if off < historyUnused then
    (s.atPosition ((off - headerBase) / 15360)).map fun x => ((x.headerUnit s.fs)[(off - headerBase) % 15360]?).getD 0
  else none

/-- A sample as a record holds it (R403). -/
def WaveSample.bytes (w : WaveSample) (first : Tai) : Bytes :=
  leBytes 4 w.v.toNat ++ leBytes 4 (w.flags % 16 + 16 * ((w.t - first) / (32 * nsUnit) % 2 ^ 28))

/-- A lane's block. -/
def CapLane.bytes (l : CapLane) : Bytes := l.samples.flatMap fun w => w.bytes ((l.samples.head?.map (·.t)).getD 0)

/-- A slice entry: the index, bit 63 set where the slice is lost, then its contents. -/
def capEntry (e : Nat × Bool × Bytes) : Bytes := leBytes 8 (e.1 + 2 ^ 63 * b2n e.2.1) ++ e.2.2

/-- What stands in a record slot: the header, with its CRC once the record is DONE or ABORTED, the lane blocks, the slice block. -/
def CapRec.bytes (r : CapRec) : Bytes :=
  r.header ++ leBytes 4 r.crc ++ r.lanes.flatMap CapLane.bytes ++ r.slices.flatMap capEntry

/-- A byte of the capture area: of a record slot. None in the wave ring, whose layout the spec does not give, in the slot of a record that
still fills, whose copying it does not time, and where nothing has been written (R397, R398). -/
def State.captureByte (s : State) (off : Nat) : Option Byte :=
  let size := 1792 * 1048576 / max 1 s.roast.capSlots
  let o := off - 256 * 1048576
  if off < 256 * 1048576 then none
  else match alookup (o / size) s.cap.recs with
    | some r => if 2 ≤ r.state then r.bytes[o % size]? else none
    | none => none

/-- What a function's read of a BAR2 byte returns (R94): the byte of the region that the aperture shows, 0 beyond the region's end. -/
def State.bar2Byte (s : State) (who : Requester) (off : Nat) : Option Byte :=
  let k := off / 2 ^ 30 % 4
  let o := s.get ((Reg.HIF_BAR2_AP.START.ix k).of who) * (64 * 1048576) + off % 2 ^ 30
  if s.flag ((Reg.HIF_BAR2_AP.REGION.ix k).of who) then (if 2048 * 1048576 ≤ o then some 0 else s.captureByte o)
  else if 9216 * 1048576 ≤ o then some 0 else s.historyByte o

/-! ### BAR4 (R89) -/

/-- What a function's read of a BAR4 doubleword returns: its MSI-X table; no vector is ever pending (log entry 109), and the rest reads 0. -/
def State.bar4Read (s : State) (who : Requester) (off : Nat) : Nat :=
  match who with
  | .pf0 => (alookup (off / 4 * 4) s.host.msix0).getD 0
  | .pf1 => (alookup (off / 4 * 4) s.host.msix1).getD 0
  | _ => 0

end Sys2Proof.Machine
end

