-- ==== Sys2Proof/Safety.lean ====
section
/-! DEFINITION. What the claims speak of: the parts of the state, what a step leaves alone, and the form that the register files
keep in every step. -/

namespace Sys2Proof.Machine

/-- The parts of the state. `files` is the three register files (main, backup domain, fuse-sensed); every other part is the field
of State of that name. -/
inductive Part where
  | files | locks | free | out | boot | ledger | fw | pins | env | host | cfg | roasts | time | keys | fuses | evr | nvs | backup
  | pace | sch | ports | ing | flt | aln | runs | isl | lse | osc | sau | cap | nrg | alm | cas
  deriving DecidableEq, Repr

/-- Whether a part is the same in two states. -/
def Part.same : Part → State → State → Prop
  | .files, s, t => t.regs = s.regs ∧ t.bkp = s.bkp ∧ t.fuse = s.fuse
  | .locks, s, t => t.locks = s.locks
  | .free, s, t => t.freeCount = s.freeCount
  | .out, s, t => t.out = s.out
  | .boot, s, t => t.boot = s.boot
  | .ledger, s, t => t.ledger = s.ledger
  | .fw, s, t => t.fw = s.fw
  | .pins, s, t => t.pins = s.pins
  | .env, s, t => t.env = s.env
  | .host, s, t => t.host = s.host
  | .cfg, s, t => t.cfg = s.cfg
  | .roasts, s, t => t.roasts = s.roasts
  | .time, s, t => t.time = s.time
  | .keys, s, t => t.keys = s.keys
  | .fuses, s, t => t.fuses = s.fuses
  | .evr, s, t => t.evr = s.evr
  | .nvs, s, t => t.nvs = s.nvs
  | .backup, s, t => t.backup = s.backup
  | .pace, s, t => t.pace = s.pace
  | .sch, s, t => t.sch = s.sch
  | .ports, s, t => t.ports = s.ports
  | .ing, s, t => t.ing = s.ing
  | .flt, s, t => t.flt = s.flt
  | .aln, s, t => t.aln = s.aln
  | .runs, s, t => t.runs = s.runs
  | .isl, s, t => t.isl = s.isl
  | .lse, s, t => t.lse = s.lse
  | .osc, s, t => t.osc = s.osc
  | .sau, s, t => t.sau = s.sau
  | .cap, s, t => t.cap = s.cap
  | .nrg, s, t => t.nrg = s.nrg
  | .alm, s, t => t.alm = s.alm
  | .cas, s, t => t.cas = s.cas

/-- From `s` to `t` nothing changes but, at most, the parts listed; the queue of waiting commands is the same. -/
def Touches (m : List Part) (s t : State) : Prop :=
  t.pending = s.pending ∧ ∀ p : Part, m.contains p = false → p.same s t

/-- The register files are in their canonical form: keys strictly rising (R8: every field one place). -/
def State.filesOk (s : State) : Bool := s.regs.rising && s.bkp.rising && s.fuse.rising

/-- The command ends in a next state, and `P` holds of that state. -/
def Goes (c : Instr) (s : State) (P : State → Prop) : Prop := ∃ t, exec c s = .next t ∧ P t

/-- From `s` to `t` no register field changes but, at most, those listed, and nothing else of the state but, at most, the parts listed;
the queue of waiting commands is the same. -/
def Keeps (fs : List Fld) (ps : List Part) (s t : State) : Prop :=
  t.pending = s.pending ∧ (∀ p : Part, p ≠ .files → ps.contains p = false → p.same s t) ∧
  ∀ g : Fld, (∀ f ∈ fs, g.key ≠ f.key ∨ g.dom ≠ f.dom) → t.get g = s.get g

/-- The requester's accesses take effect (no reset is in force, and a core is out of reset), the register files have their form, and the
requester may reach guarded registers (R99). -/
def Ready (s : State) (who : Requester) : Prop := s.filesOk = true ∧ s.silent who = false ∧ s.mayGuard who = true

/-- The requester's accesses take effect, the register files have their form, and the requester is not the observer function (R90). -/
def MayWrite (s : State) (who : Requester) : Prop := s.filesOk = true ∧ s.silent who = false ∧ who ≠ .pf1

/-- A reset of a kind is in force from `s` (R56, R85): main registers at their reset values but for BOOT_CAUSE, which keeps the kind and
the failed step; the cores, the queues, the roasts and the keys cleared; the fuses, the junction temperature and PERST_N's level as they
were; the PCIe link and the MSI-X tables kept from kind 2 on. -/
def HeldInReset (s : State) (kind step : Nat) (t : State) : Prop :=
  t.regs = [] ∧ t.locks = [] ∧ t.boot.inReset = true ∧ t.boot.kind = kind ∧ t.get Reg.BOOT_CAUSE.KIND = kind ∧
  t.get Reg.BOOT_CAUSE.STEP = step % 32 ∧ t.sch = {} ∧ t.ports = {} ∧ t.roasts = {} ∧ t.runs = [] ∧ t.keys.slots = [] ∧ t.fuses = s.fuses ∧
  t.env.junction = s.env.junction ∧ t.env.perst = s.env.perst ∧ t.env.link = (s.env.link && decide (2 ≤ kind))

/-- An access refused with an error bit of its requester (HIF_ERR): the bit reads 1, and the offset is kept where no bit was set before. -/
def RefusedWith (who : Requester) (f : Fld) (addr : Nat) (s t : State) : Prop :=
  t.get (f.of who) = 1 ∧ (s.hifErrWord who = 0 → t.get (Reg.HIF_ERR_ADDR.OFFSET.of who) = addr % 2 ^ 25) ∧
  Keeps [f.of who, Reg.HIF_ERR_ADDR.OFFSET.of who] [.out] s t

/-- The register fields that accepting an event of a code may change (R495 to R499). -/
def logFields (code : Nat) : List Fld :=
  [Reg.EVR_SUPP.COUNT.ix code, Reg.EVR.ACCEPTED, Reg.EVR.SUPPRESSED, Reg.EVR_STATUS.HOLD, Reg.EVR.HOLD_OVF, Reg.EVR_IRQ.HOLD_OVF,
    Reg.EVR.DROP_FULL]

/-- The register fields that a requester's reading window spans. -/
def windowFields (f : Fld) (who : Requester) (n : Nat) : List Fld := (List.range n).map fun k => (f.ix k).of who

/-- The configuration transaction has ended with a result (R113). -/
def TxnEnded (result : Nat) (s t : State) : Prop :=
  t.get Reg.CFG_TXN_STATUS.STATE = 0 ∧ t.get Reg.CFG_TXN_STATUS.STAGED = 0 ∧ t.get Reg.CFG_TXN_STATUS.OVERFLOW = 0 ∧
  t.get Reg.CFG_TXN_STATUS.RESULT = result ∧ t.get Reg.CFG_TXN_STATUS.DONE = 1 ∧ t.cfg.staged = [] ∧ t.out = .msix 0 0 :: s.out

/-- A swap request has ended with a result (R145). -/
def SwapRefused (result : Nat) (t : State) : Prop :=
  t.get Reg.CFG_SWAP_RESULT.STATE = 0 ∧ t.get Reg.CFG_SWAP_RESULT.RESULT = result ∧ t.get Reg.CFG_SWAP_RESULT.DONE = 1

/-- A bank swap request has been queued behind the fade that runs in `w` (R258). -/
def SwapQueued (f : BankFlds) (target : Nat) (w t : State) : Prop :=
  t.flag f.queued = true ∧ t.get f.qtarget = target ∧ t.get f.result = 2 ∧ Keeps [f.queued, f.qtarget, f.result] [] w t

/-- The command that writes EN of a block. -/
def Block.enable (b : Block) (who : Requester) (en : Bool) : Instr :=
  match b with
  | .port p => .portEnable who p en
  | .ring r => .ringEnable who r en
  | .ingQueue n => .ingressQueueEnable who n en
  | .parser => .parserEnable who en
  | .filter => .fltChainEnable who en
  | .filterGroup g => .fltGroupEnable who g en
  | .aligner => .alignerEnable who en
  | .hostRing => .hostRingEnable who en
  | .alarm => .alarmEngineEnable who en
  | .capture => .captureEnable who en
  | .energy => .energyEnable who en
  | .cascade => .cascadeEnable who en

/-- A stage's command (R26 to R28): at its instant `stop`, once the closes up to it have taken place, the stage leaves the slice whose turn
it is, and `P` holds of the state before, the run and the state after, to which the closes that follow are applied; with no slice ready only
the closes take place. -/
def Leaves (k : Nat) (c : Instr) (stop : Tai) (s : State) (P : State → Run → State → Prop) : Prop :=
  let u := (s.moveTo stop).closes s
  (u.stageRun k stop = none → exec c s = .next (u.closes u)) ∧
  ∀ r, u.stageRun k stop = some r →
    ∃ w, exec c s = .next (w.closes u) ∧ (∀ x ∈ w.runs, x.n = r.n → x.has k = true) ∧ P u r w

/-- Blocks that only turn on and off. -/
def Block.plain : Block → Bool
  | .ring _ | .ingQueue _ | .parser | .hostRing | .capture => true
  | .port _ | .filter | .filterGroup _ | .aligner | .alarm | .energy | .cascade => false

/-- A write of EN of a block that only turns on and off (R106), where it changes EN: BUSY follows a start, PEND a start during a shutdown and
its withdrawal, and nothing else changes. -/
def Switches (c : Instr) (b : Block) (en : Bool) (s : State) : Prop :=
  s.flag b.en ≠ en → Goes c s fun t => t.flag b.en = en ∧ t.flag b.busy = (s.flag b.busy || (en && s.mayStart b)) ∧
    t.flag b.pend = (en && (s.flag b.busy || s.flag b.pend)) ∧ Keeps [b.en, b.busy, b.pend] [] s t

/-- Whether a write of EN reaches the block: a port's lane is in LANE_EN (R152), a ring or queue is in use (R181), a group is configured. -/
def State.takesEnable (s : State) (b : Block) (en : Bool) : Bool :=
  match b with
  | .port p => !en || s.roast.laneEn p
  | .ring r => !s.ringUnused r
  | .ingQueue n => !(n == 5 && s.redMode != 0)
  | .filterGroup g => (s.roast.groupRec g).isSome
  | _ => true

/-- The step in progress cannot pass on this report: its own check fails (R67 to R70, R77 to R79). -/
def State.stepRefuses (s : State) (k : Nat) (r : StepReport) : Bool :=
  if k ∈ [1, 2, 3, 5, 6, 11, 13, 14] then !r.ok
  else match k with
  | 4 => (s.stage1Fails r.flashErr r.fw).isSome
  | 7 => r.load.flashErr || r.flashErr || (s.verifyImage false r.load.image).isSome
  | 8 => !s.flag Reg.BOOT_STATUS.ROAST_REQ && (s.step8Fails r).isSome
  | 9 => !(r.ok && s.boot.tilesOk)
  | 10 => (s.mainFails r.flashErr s.fw.pubkey r.fw).isSome || !s.roast.apiOk r.fw.api
  | 12 => !r.ok || s.get Reg.TSU_TDC_FAIL.MAP != 0
  | 15 => s.pace.judged && !s.flag Reg.PACE_STATUS.CERTIFIED
  | _ => false

/-- A thread is READY in the queues, or RUNNING on a core (R442, R443). -/
def State.runnable (s : State) (x : Nat) : Prop :=
  ((s.tcb x).state = 1 ∧ x ∈ s.sch.ready) ∨ ((s.tcb x).state = 2 ∧ ∃ p, (s.core p).running = some x)

/-- A counter has counted once; it stops at its top. -/
def Counted (f : Fld) (s t : State) : Prop := t.get f = min (s.get f + 1) (2 ^ f.width - 1)

end Sys2Proof.Machine

namespace Sys2Proof

open Sys2Proof.Machine

/-- The parts of the state that a command may change. -/
def Instr.parts (i : Instr) : List Part :=
  match i with
  | .powerOnReset _ _ _ _ | .resetNAssert _ _ | .ledgerStepTimeout | .hostSoftReset _ _ | .watchdogExpiry _
    => [.files, .locks, .free, .out, .boot, .ledger, .fw, .pins, .env, .host, .cfg, .roasts, .time, .keys, .evr, .nvs, .backup, .pace, .sch,
      .ports, .ing, .flt, .aln, .runs, .isl, .lse, .osc, .sau, .cap, .nrg, .alm, .cas]
  | .perstNAssert => [.files, .out, .env, .host, .cfg]
  | .pcieLinkLoss => [.files, .out, .env, .cfg]
  | .pf0FunctionLevelReset | .ownerRelease _ | .txnBegin _ | .rwtWrite _ _ _ _ | .txnRollback _ | .txnTimeout | .crcSuspend _ _
  | .crcAdopt _ => [.files, .out, .cfg]
  | .resetEnd _ _ => [.files, .free, .out, .boot, .ledger, .env, .evr, .nvs, .backup, .cas]
  | .ledgerStepComplete _ | .registerWrite _ _ _ _ _
    => [.files, .locks, .free, .out, .boot, .ledger, .fw, .pins, .env, .host, .cfg, .roasts, .time, .keys, .fuses, .evr, .nvs, .backup, .pace,
      .sch, .ports, .ing, .flt, .aln, .runs, .isl, .lse, .osc, .sau, .cap, .nrg, .alm, .cas]
  | .bootRoastGo _ | .staySafe _ | .bar0LongWrite _ _ _ | .swapCancel _ | .ringEnable _ _ _ | .ingressQueueEnable _ _ _
  | .parserEnable _ _ | .unclaimedClr _ | .hostRingEnable _ _ | .captureEnable _ _ | .osfClear _ | .tcompSave _ | .vbatMeasure _
  | .casRelease _ _ | .cascadeEnable _ _ => [.files, .out]
  | .clearAttempts _ | .slotPreferenceWrite _ _ _ => [.files, .out, .ledger, .nvs]
  | .fullTrain _ | .fullCal _ => [.files, .out, .ledger]
  | .heartbeatKick _ | .almPinMaskWrite _ _ | .almTest _ _ | .secTamperClr _ _ _ => [.files, .out, .pins]
  | .heartbeatHalfExpiry => [.files, .pins]
  | .bar2Write _ => [.files, .free, .out]
  | .hifSnap _ => [.files, .out, .host, .nrg]
  | .snapshotCopyDone _ => [.host]
  | .ownerClaim _ => [.files, .free, .out, .host]
  | .ownerVerifyDone => [.files, .free, .host]
  | .txnCommit _ _ => [.files, .out, .cfg, .time]
  | .crcScanStart => [.cfg]
  | .crcScanComplete => [.files, .out, .pins, .cfg, .evr]
  | .crcSuspendTimeout => [.files, .out, .cfg, .evr]
  | .roastLoad _ _ | .shadowLoadDone _ | .roastDiscard _ | .repairGo _ => [.files, .out, .roasts]
  | .raiseFloor _ | .secRaiseFloor _ _ => [.files, .out, .nvs]
  | .swapRequest _ _ _ => [.files, .out, .roasts, .ing]
  | .retiringEnd _ => [.files, .out, .pins, .roasts, .time, .ing, .aln, .isl, .lse, .osc]
  | .scrubTileRead _ _ _ _ => [.files, .out, .pins, .roasts, .evr]
  | .flashSectionReread _ | .repairDeliveryDone _ => [.files, .out, .pins, .roasts]
  | .repairReqReminder => [.out]
  | .frameReceive _ _ | .txFrameComplete _ _ => [.files, .free, .out, .time, .sch, .ports]
  | .ringEventHoldoffExpiry _ _ => [.files, .out, .time, .sch, .ports, .aln]
  | .dregs _ _ _ _ | .preemptVerifyTimeout _ | .mdioWrite _ _ _ _ | .mdioRead _ _ _ _ | .mdioC45Address _ _ _ _ | .mdioC45Read _ _ _ _
    => [.files, .out, .ports]
  | .txFrameOffer _ _ | .outputHoldExpiry _ => [.files, .free, .out, .time, .evr, .sch, .ports, .sau]
  | .linkStateChange _ _ => [.files, .free, .out, .sch, .ports]
  | .lpiIdleExpiry | .lseSummaryLatch _ | .oscResultLatch _ _ | .islItemLatch _ _ | .almTermLatch _ | .custodyRecordLatch _
  | .vbatBrownOut | .evrWindowLatch _ _ | .evrCkptLatch _ | .ringUnwrap _ | .lpiRxChange _ => [.files]
  | .mdioDone _ | .twSysExpiry => [.files, .ports]
  | .portEnable _ _ _ => [.files, .free, .out, .pins, .sch, .ports]
  | .blockShutdownComplete _ _ => [.files, .free, .out, .pins, .keys, .evr, .nvs, .sch, .ports, .flt, .aln, .lse, .osc, .nrg, .alm, .cas]
  | .timeBaseTick _ | .gooseStale _ | .suspend _ | .sliceOpen _ | .sliceDeadline _ | .topologyEngine _ | .islandEngine _
  | .oscillationEngine _ | .lseStage _ | .historyWrite _ | .captureSliceEntries _ | .revisionPass _ | .sliceRetire _ _
  | .alignerEnable _ _
    => [.files, .locks, .out, .pins, .cfg, .roasts, .time, .keys, .evr, .nvs, .pace, .ing, .flt, .aln, .runs, .isl, .lse, .osc, .sau, .cap,
      .nrg, .cas]
  | .stepGo _ => [.files, .out, .time]
  | .tsuSampleGo _ _ _ => [.files, .out, .pins, .time]
  | .ppsInEdge _ | .irigBFrame _ | .ref10mSecond _ _ => [.files, .pins, .time]
  | .slewComplete | .tsuTimeLatch _ _ => [.files, .time]
  | .tdcCalibration _ _ => [.files, .out, .time, .evr]
  | .leapSecond _ => [.files, .out, .time, .backup]
  | .ppsOutPulse _ | .ppsOutWidthEnd | .casPpsDrive _ => [.pins, .time]
  | .parsePacket _ _ _
    => [.files, .locks, .free, .out, .pins, .cfg, .roasts, .time, .keys, .evr, .nvs, .pace, .sch, .ports, .ing, .flt, .aln, .runs, .isl, .lse,
      .osc, .sau, .cap, .nrg, .cas]
  | .stageTpl _ | .stageRec _ | .tplDiscard _ | .ingKeyLoadNext _ | .ingKeyErase _ | .templateCommandDone => [.files, .out, .ing]
  | .resume _ | .phasorEstimate _ _ _ | .fabricWatchdog _ | .ringMessageReceive _ _ _ _ _
    => [.files, .locks, .free, .out, .pins, .cfg, .roasts, .time, .keys, .evr, .nvs, .pace, .ing, .flt, .aln, .runs, .isl, .lse, .osc, .sau,
      .cap, .nrg, .cas]
  | .cicOutput _ _ _ | .svWaitExpiry _ _ => [.files, .out, .time, .flt]
  | .resamplerOutput _ => [.files, .out, .evr, .flt, .osc, .cap]
  | .fltSync _ _ | .fltChainEnable _ _ | .fltGroupEnable _ _ _ | .firBankSwapRequest _ _ _ | .kernelBankSwapRequest _ _ | .fadeEnd _
  | .fltCoefWrite _ _ => [.files, .out, .flt]
  | .substitution _ | .scheduleDoneNotice _ _
    => [.files, .locks, .out, .pins, .cfg, .roasts, .time, .keys, .evr, .nvs, .pace, .sch, .ing, .flt, .aln, .runs, .isl, .lse, .osc, .sau,
      .cap, .nrg, .cas]
  | .alarmPass1 _ | .alarmPass2 _
    => [.files, .locks, .free, .out, .pins, .cfg, .roasts, .time, .keys, .evr, .nvs, .backup, .pace, .sch, .ports, .ing, .flt, .aln, .runs,
      .isl, .lse, .osc, .sau, .cap, .nrg, .alm, .cas]
  | .oscCmd _ _ _ => [.files, .out, .osc]
  | .alarmEngineEnable _ _ => [.files, .out, .pins, .alm]
  | .pubRetransmit _ _ | .almFrameMaskWrite _ _ _ _ => [.files, .free, .out, .time, .evr, .sch, .ports, .alm]
  | .almRuleAck _ _ _ | .almKeyLoad _ | .almKeyErase _ => [.files, .out, .alm]
  | .trigInEdge _ _ _ | .xtrigEdge _ _ => [.files, .free, .out, .pins, .time, .backup, .cap]
  | .capHostTrig _ _ => [.files, .out, .pins, .time, .backup, .cap]
  | .xtrigRelease _ _ => [.pins, .time, .cap]
  | .xtrigStuck _ _ => [.files, .out, .time, .evr, .cap]
  | .xtrigUnstuck _ _ => [.files, .time, .cap]
  | .captureRecordDone _ => [.files, .free, .out, .time, .cap]
  | .capArm _ _ | .capDisarm _ _ => [.files, .out, .cap, .cas]
  | .capSlotHold _ _ | .capSlotRelease _ _ => [.files, .out, .cap]
  | .meteringCycle _ => [.files, .out, .keys, .evr, .nvs, .nrg]
  | .pulseStart _ _ | .pulseEnd _ _ => [.files, .pins, .time, .nrg]
  | .demandSubintervalEnd _ => [.files, .out, .time, .evr, .nrg]
  | .billingBoundary _ | .intervalRestartDecision _ => [.files, .out, .time, .keys, .evr, .nvs, .nrg]
  | .totalsSave _ => [.files, .time, .nrg]
  | .totalsSaveComplete _ => [.files, .out, .evr, .nvs, .backup, .nrg]
  | .nrgSaveNow _ => [.files, .out, .nrg]
  | .residualBankWrite | .residualPushRepeat => [.backup]
  | .powerFailWarning _ => [.files, .free, .backup]
  | .powerFailCleared => [.files, .nrg]
  | .energyEnable _ _ => [.files, .out, .keys, .evr, .nvs, .backup, .nrg]
  | .getwork _ | .flowPost _ _ | .flowTake _ _ => [.files, .sch]
  | .getworkIdleTimeout _ _ | .waitTimeout _ _ | .preemptLate _ _ => [.files, .time, .sch]
  | .schWait _ _ | .schSignal _ _ | .schYield _ | .schExit _ | .tcbCreate _ | .tcbSuspend _ | .tcbResume _ | .setPrio _ | .tcbFree _
  | .schObjCfgWrite _ _ | .flowDone _ _ _ | .schMigrate _ _ _ _ => [.files, .out, .sch]
  | .schPark _ | .migrationForce => [.files, .out, .evr, .sch]
  | .flowStallExpiry _ _ => [.files, .out, .time, .sch]
  | .keyDerive _ _ _ _ | .keySign _ _ | .keyVerify _ | .pubkey _ _ | .keyAttest _ | .erase _ _ | .invalidate _ _ _ | .provision _ _
  | .debugReq _ | .tamperCfg _ => [.files, .out, .keys]
  | .keyCommandDone _ => [.files, .free, .out, .keys, .nvs]
  | .keyShareRefresh => [.free, .keys]
  | .fuseBlowGm _ | .fuseBlowTamperKill _ | .fuseBlowDebugAllowed _ | .fuseBlowLcDev _ | .fuseBlowLcProd _ | .fuseBlowLcRma _
    => [.files, .out, .fuses, .evr]
  | .burnFloor _ => [.files, .out, .fuses]
  | .tamperDetect _ => [.files, .free, .out, .boot, .ledger, .pins, .cfg, .roasts, .keys, .evr, .nvs, .backup, .pace, .sch, .ing, .runs, .cap, .nrg]
  | .firstBackupPower => [.files, .ledger, .pins, .backup]
  | .oscillatorStop => [.files, .out, .env, .evr, .backup]
  | .tempCompPeriod _ => [.files, .free, .out, .pins, .evr, .backup]
  | .calendarRangeEnd _ | .rtcSecLatch _ _ | .rtcHold _ _ | .rtcHoldClear _ _ | .rtcAlarm _ => [.files, .out, .pins, .evr, .backup]
  | .rtcAutoSync _ _ => [.files, .out, .pins, .time, .evr, .backup]
  | .bkpPwrOffRequest _ _ => [.files, .out, .backup, .nrg]
  | .pwrOnLow _ => [.pins, .time, .backup]
  | .bkpChgWrite _ _ => [.files, .out, .evr, .backup]
  | .logEntryWrite | .logClearComplete => [.files, .out, .evr, .nvs]
  | .evrFreeze _ _ | .freezeTimeout | .evrClear _ _ | .neighbourAbsent _ _ | .laneLoss _ | .laneRetrainDone _ _ => [.files, .out, .evr]
  | .tokenReceive _ _ _ | .tokenRegenerate _ _ | .casPpsEdge _ => [.files, .out, .time, .cas]
  | .tokenHoldExpiry _ _ => [.out, .time, .cas]
  | .casTake _ _ => [.files, .out, .evr, .cas]
  | .casPpsDriveEnd => [.pins]
  | .casPpsMiss _ => [.files, .time, .cas]
  | .replicaWindow _ _ => [.files, .time, .pace]
  | .avsRequestDone => [.files, .pace]
  | .avsTimeout _ => [.files, .out, .time, .evr, .pace]
  | .avsRetry _ | .sweepRetire _ _ | .sweepRestore _ _ => [.files, .out, .pace]
  | .coreCacheError _ _ => [.files, .out, .pace, .sch]
  | .carafeEccError _ _ _ => [.files, .out, .pins, .roasts, .evr, .pace, .aln, .cap]
  | .flashWrite _ | .flashCheckFirmware _ _ | .flashCheckRoast _ _ => [.files, .out, .boot]
  | .flashCmdDone _ => [.files, .boot]
  | .fwLiveStage _ _ _ | .fwLiveSwitch _ | .fwLiveAbort _ => [.files, .out, .fw]
  | .fwLiveCommit _ => [.files, .out, .fw, .sch]
  | .junctionTemperatureChange _ => [.files, .pins, .env, .pace]
  | .vbatAbsent _ => [.files, .env]
  | .crystalEdgesResume | .perstNRelease => [.env]
  | .rowRemapCopyDone _ => [.files, .out, .nvs, .pace]
  | .tcompSaveDone => [.files, .nvs]
  | .duplicateEntryExpiry _ => [.time, .ports]

/-- A command that may change a fuse (R136, R457, R458): the fuse commands, the floor burn, a ledger step, which may blow KILL at step 1,
and a register write of one of those commands. -/
def Instr.blowsFuses (i : Instr) : Bool := i.parts.contains .fuses

/-- The register command of a row that is nothing but the effect of one register write: whether the register is guarded, who writes, and
the register's offset. Rows that are events, and rows whose write does more or less by its own rule, give none. -/
def Instr.register (i : Instr) : Option (Bool × Requester × Nat) :=
  match i with
  | .bootRoastGo who => some (true, who, Reg.BOOT_ROAST_GO.GO.base)
  | .clearAttempts who => some (true, who, Reg.BOOT_CTL.CLEAR_ATTEMPTS.base)
  | .fullTrain who => some (true, who, Reg.BOOT_CTL.FULL_TRAIN.base)
  | .fullCal who => some (true, who, Reg.BOOT_CTL.FULL_CAL.base)
  | .staySafe who => some (true, who, Reg.BOOT_CTL.STAY_SAFE.base)
  | .slotPreferenceWrite who _ _ => some (true, who, Reg.BOOT_CTL.FW_PREF.base)
  | .hostSoftReset who _ => some (true, who, Reg.BOOT_SOFTRST.KEY.base)
  | .heartbeatKick who => some (false, who, Reg.BOOT_HEARTBEAT.KICK.base)
  | .ownerClaim who => some (false, who, Reg.HIF_OWNER.CLAIM.base)
  | .ownerRelease who => some (false, who, Reg.HIF_OWNER.RELEASE.base)
  | .txnBegin who => some (true, who, Reg.CFG_TXN_BEGIN.GO.base)
  | .txnRollback who => some (true, who, Reg.CFG_TXN_ROLLBACK.GO.base)
  | .crcSuspend who _ => some (true, who, Reg.CFG_CRC_CTL.SUSPEND.base)
  | .crcAdopt who => some (true, who, Reg.CFG_CRC_CTL.ADOPT.base)
  | .roastLoad who _ => some (true, who, Reg.CFG_ROAST_CTL.LOAD.base)
  | .roastDiscard who => some (true, who, Reg.CFG_ROAST_CTL.DISCARD.base)
  | .raiseFloor who => some (true, who, Reg.CFG_ROAST_CTL.RAISE_FLOOR.base)
  | .swapRequest who _ _ => some (true, who, Reg.CFG_SWAP_CTL.REQUEST.base)
  | .swapCancel who => some (true, who, Reg.CFG_SWAP_CTL.CANCEL.base)
  | .repairGo who => some (true, who, Reg.CFG_REPAIR_GO.GO.base)
  | .dregs who n _ _ => some (false, who, (Reg.ING_Q_CMD.DREGS.ix n).base)
  | .portEnable who p _ => some (false, who, (Reg.MAC_CTL.EN.ix p).base)
  | .ingressQueueEnable who n _ => some (false, who, (Reg.ING_Q_CTL.EN.ix n).base)
  | .parserEnable who _ => some (false, who, Reg.ING_CTL.EN.base)
  | .stepGo who => some (true, who, Reg.TSU_CTL.STEP_GO.base)
  | .stageTpl who => some (true, who, Reg.ING_TPL_CMD.OP.base)
  | .stageRec who => some (true, who, Reg.ING_TPL_CMD.OP.base)
  | .tplDiscard who => some (true, who, Reg.ING_TPL_CMD.OP.base)
  | .ingKeyLoadNext who => some (true, who, Reg.ING_KEY_CMD.OP.base)
  | .ingKeyErase who => some (true, who, Reg.ING_KEY_CMD.OP.base)
  | .unclaimedClr who => some (false, who, Reg.ING_UNCLAIMED_CLR.CLR.base)
  | .fltSync who g => some (false, who, (Reg.FLT_G_CTL.SYNC.ix (g % 32)).base)
  | .fltChainEnable who _ => some (false, who, Reg.FLT_CTL.EN.base)
  | .fltGroupEnable who g _ => some (false, who, (Reg.FLT_G_CTL.EN.ix (g % 32)).base)
  | .kernelBankSwapRequest who _ => some (true, who, Reg.FLT_KBANK.ACTIVE.base)
  | .fltCoefWrite who _ => some (true, who, Reg.FLT_COEF_DATA.DATA.base)
  | .alignerEnable who _ => some (false, who, Reg.ALN_CTL.EN.base)
  | .hostRingEnable who _ => some (false, who, Reg.ALN_HOST_RING.EN.base)
  | .oscCmd who _ _ => some (true, who, Reg.OSC_CMD.GO.base)
  | .alarmEngineEnable who _ => some (false, who, Reg.ALM_CTL.EN.base)
  | .almPinMaskWrite who _ => some (false, who, Reg.ALM_PIN_MASK.MASK.base)
  | .almRuleAck who j _ => some (false, who, (Reg.ALM_RULE_ACK.ACK.ix (j % 16)).base)
  | .almTest who _ => some (true, who, Reg.ALM_TEST.PIN.base)
  | .almKeyLoad who => some (true, who, Reg.ALM_KEY_CMD.OP.base)
  | .almKeyErase who => some (true, who, Reg.ALM_KEY_CMD.OP.base)
  | .capSlotHold who k => some (true, who, (Reg.CAP_SLOT.HOLD.ix (k % 64)).base)
  | .capSlotRelease who k => some (true, who, (Reg.CAP_SLOT.RELEASE.ix (k % 64)).base)
  | .captureEnable who _ => some (false, who, Reg.CAP_CTL.EN.base)
  | .nrgSaveNow who => some (true, who, Reg.NRG_SAVE.NOW.base)
  | .energyEnable who _ => some (false, who, Reg.NRG_CTL.EN.base)
  | .schObjCfgWrite who _ => some (false, who, Reg.SCH_OBJ_CFG.KIND.base)
  | .flowDone who f _ => some (false, who, (Reg.SCH_FLOW_DONE.SEQ.ix f).base)
  | .schMigrate who _ _ _ => some (true, who, Reg.SCH_MIGRATE.GO.base)
  | .secRaiseFloor who _ => some (true, who, Reg.SEC_FW_CTL.RAISE_FLOOR.base)
  | .burnFloor who => some (true, who, Reg.SEC_FW_CTL.BURN_FLOOR.base)
  | .secTamperClr who _ _ => some (true, who, Reg.SEC_TAMPER_CLR.KEY.base)
  | .rtcHold who _ => some (true, who, Reg.RTC_CTL.HOLD.base)
  | .rtcHoldClear who _ => some (true, who, Reg.RTC_CTL.HOLD.base)
  | .osfClear who => some (true, who, Reg.RTC_STATUS.OSF.base)
  | .bkpPwrOffRequest who _ => some (true, who, Reg.BKP_PWR.KEY.base)
  | .bkpChgWrite who _ => some (true, who, Reg.BKP_CHG.EN.base)
  | .tcompSave who => some (true, who, Reg.BKP_TCOMP_CTL.SAVE.base)
  | .evrFreeze who _ => some (false, who, Reg.EVR_FREEZE.FREEZE.base)
  | .evrClear who _ => some (true, who, Reg.EVR_CLEAR.KEY.base)
  | .casTake who _ => some (true, who, Reg.CAS_TKO_CTL.TAKE.base)
  | .casRelease who _ => some (true, who, Reg.CAS_TKO_CTL.RELEASE.base)
  | .cascadeEnable who _ => some (false, who, Reg.CAS_CTL.EN.base)
  | .avsRetry who => some (true, who, Reg.PACE_CTL.AVS_RETRY.base)
  | .sweepRetire who _ => some (true, who, Reg.PACE_SWEEP_CMD.UNIT.base)
  | .sweepRestore who _ => some (true, who, Reg.PACE_SWEEP_CMD.UNIT.base)
  | .flashWrite who => some (true, who, Reg.BOOT_FLASH_CMD.OP.base)
  | .flashCheckFirmware who _ => some (true, who, Reg.BOOT_FLASH_CMD.OP.base)
  | .flashCheckRoast who _ => some (true, who, Reg.BOOT_FLASH_CMD.OP.base)
  | .fwLiveStage who _ _ => some (true, who, Reg.BOOT_FW_LIVE.STAGE.base)
  | .fwLiveSwitch who => some (true, who, Reg.BOOT_FW_LIVE.SWITCH.base)
  | .fwLiveCommit who => some (true, who, Reg.BOOT_FW_LIVE.COMMIT.base)
  | .fwLiveAbort who => some (true, who, Reg.BOOT_FW_LIVE.ABORT.base)
  | .powerOnReset _ _ _ _ | .resetNAssert _ _ | .perstNAssert | .pcieLinkLoss | .pf0FunctionLevelReset | .resetEnd _ _
  | .ledgerStepComplete _ | .ledgerStepTimeout | .heartbeatHalfExpiry | .watchdogExpiry _ | .registerWrite _ _ _ _ _
  | .bar0LongWrite _ _ _ | .bar2Write _ | .hifSnap _ | .snapshotCopyDone _ | .ownerVerifyDone | .rwtWrite _ _ _ _
  | .txnCommit _ _ | .txnTimeout | .crcScanStart | .crcScanComplete | .crcSuspendTimeout | .shadowLoadDone _ | .retiringEnd _
  | .scrubTileRead _ _ _ _ | .flashSectionReread _ | .repairReqReminder | .repairDeliveryDone _ | .frameReceive _ _
  | .ringEventHoldoffExpiry _ _ | .txFrameOffer _ _ | .txFrameComplete _ _ | .linkStateChange _ _ | .preemptVerifyTimeout _
  | .lpiIdleExpiry | .mdioWrite _ _ _ _ | .mdioRead _ _ _ _ | .mdioC45Address _ _ _ _ | .mdioC45Read _ _ _ _ | .mdioDone _
  | .ringEnable _ _ _ | .blockShutdownComplete _ _ | .timeBaseTick _ | .tsuSampleGo _ _ _ | .ppsInEdge _ | .irigBFrame _
  | .ref10mSecond _ _ | .slewComplete | .tdcCalibration _ _ | .tsuTimeLatch _ _ | .leapSecond _ | .ppsOutPulse _
  | .ppsOutWidthEnd | .parsePacket _ _ _ | .gooseStale _ | .resume _ | .suspend _ | .cicOutput _ _ _ | .svWaitExpiry _ _
  | .resamplerOutput _ | .phasorEstimate _ _ _ | .firBankSwapRequest _ _ _ | .fadeEnd _ | .sliceOpen _ | .sliceDeadline _
  | .substitution _ | .outputHoldExpiry _ | .alarmPass1 _ | .alarmPass2 _ | .topologyEngine _ | .islandEngine _
  | .oscillationEngine _ | .lseStage _ | .historyWrite _ | .captureSliceEntries _ | .scheduleDoneNotice _ _ | .revisionPass _
  | .sliceRetire _ _ | .fabricWatchdog _ | .lseSummaryLatch _ | .oscResultLatch _ _ | .islItemLatch _ _ | .pubRetransmit _ _
  | .almFrameMaskWrite _ _ _ _ | .almTermLatch _ | .trigInEdge _ _ _ | .xtrigEdge _ _ | .capHostTrig _ _ | .xtrigRelease _ _
  | .xtrigStuck _ _ | .xtrigUnstuck _ _ | .captureRecordDone _ | .capArm _ _ | .capDisarm _ _ | .meteringCycle _
  | .pulseStart _ _ | .pulseEnd _ _ | .demandSubintervalEnd _ | .billingBoundary _ | .totalsSave _ | .totalsSaveComplete _
  | .residualBankWrite | .powerFailWarning _ | .residualPushRepeat | .powerFailCleared | .intervalRestartDecision _
  | .custodyRecordLatch _ | .getwork _ | .getworkIdleTimeout _ _ | .schWait _ _ | .waitTimeout _ _ | .schSignal _ _
  | .schYield _ | .schExit _ | .schPark _ | .preemptLate _ _ | .tcbCreate _ | .tcbSuspend _ | .tcbResume _ | .setPrio _
  | .tcbFree _ | .flowPost _ _ | .flowTake _ _ | .flowStallExpiry _ _ | .migrationForce | .keyDerive _ _ _ _ | .keySign _ _
  | .keyVerify _ | .pubkey _ _ | .keyAttest _ | .erase _ _ | .invalidate _ _ _ | .provision _ _ | .debugReq _ | .tamperCfg _
  | .keyCommandDone _ | .keyShareRefresh | .fuseBlowGm _ | .fuseBlowTamperKill _ | .fuseBlowDebugAllowed _ | .fuseBlowLcDev _
  | .fuseBlowLcProd _ | .fuseBlowLcRma _ | .tamperDetect _ | .firstBackupPower | .vbatBrownOut | .oscillatorStop
  | .tempCompPeriod _ | .calendarRangeEnd _ | .rtcSecLatch _ _ | .rtcAutoSync _ _ | .rtcAlarm _ | .pwrOnLow _ | .vbatMeasure _
  | .logEntryWrite | .freezeTimeout | .logClearComplete | .evrWindowLatch _ _ | .evrCkptLatch _ | .tokenReceive _ _ _
  | .tokenHoldExpiry _ _ | .ringMessageReceive _ _ _ _ _ | .neighbourAbsent _ _ | .ringUnwrap _ | .laneLoss _
  | .laneRetrainDone _ _ | .tokenRegenerate _ _ | .casPpsDrive _ | .casPpsDriveEnd | .casPpsEdge _ | .casPpsMiss _
  | .replicaWindow _ _ | .avsRequestDone | .avsTimeout _ | .coreCacheError _ _ | .carafeEccError _ _ _ | .flashCmdDone _
  | .junctionTemperatureChange _ | .vbatAbsent _ | .crystalEdgesResume | .perstNRelease | .rowRemapCopyDone _ | .tcompSaveDone
  | .templateCommandDone | .duplicateEntryExpiry _ | .lpiRxChange _ | .twSysExpiry => none

end Sys2Proof
end

