-- ==== Sys2Proof/Certificates/Slice0/Obligations.lean ====
section
/-! DEFINITION. The statements for the provers. A clause `Goes c s P` says that the command ends in a next state and what holds of it;
`Keeps fs ps s t` is its frame: nothing changes but those register fields and those parts of the state. -/

open Sys2Proof Sys2Proof.Machine

/-! ### The step -/

/-- A step runs the command at the front of the queue on the state with the queue's rest; with none waiting it changes nothing (the
model's choice, log entry 8). -/
def Obligations.StepRunsTheFrontCommand : Prop :=
  (∀ (c : Instr) (rest : List Instr) (s : State), step { s with pending := c :: rest } = exec c { s with pending := rest }) ∧
  ∀ s : State, s.pending = [] → step s = .next s

/-- The state after reset: the reset is in force, main registers stand at their reset values, no command waits, and the register files
have their form. -/
def Obligations.ResetStateIsWellFormed : Prop :=
  State.reset.boot.inReset = true ∧ State.reset.regs = [] ∧ State.reset.pending = [] ∧ State.reset.filesOk = true ∧
  State.reset.get Reg.HIF_ID.STEPPING = 0x21

/-- Every step keeps the register files' form: each register field has one place and one value (R8). -/
def Obligations.EveryStepKeepsTheRegisterFiles : Prop :=
  ∀ s t : State, s.filesOk = true → step s = .next t → t.filesOk = true

/-- The frame of every command: it changes at most the parts of the state that Instr.parts lists, and never the queue. -/
def Obligations.EveryCommandTouchesOnlyItsParts : Prop :=
  ∀ (c : Instr) (s t : State), exec c s = .next t → Touches c.parts s t

/-- No command ends in a fault or a refusal. -/
def Obligations.EveryCommandEndsInANextState : Prop := ∀ (c : Instr) (s : State), ∃ t, exec c s = .next t

/-- Fuses are one-time (R458): only a fuse command, a floor burn, ledger step 1 or a register write of the fuse command changes them. -/
def Obligations.FusesChangeByTheirCommandsOnly : Prop :=
  ∀ (c : Instr) (s t : State), exec c s = .next t → t.fuses ≠ s.fuses → c.blowsFuses = true

/-! ### Who may write -/

/-- A guarded command from a requester that may not reach guarded registers (R99): ignored, HIF_ERR.GUARD set; and its read of a guarded
register returns 0. -/
def Obligations.GuardedCommandsAreRefused : Prop :=
  ∀ (who : Requester) (addr : Nat) (s : State), s.mayGuard who = false →
    (∀ c : Instr, c.register = some (true, who, addr) → s.filesOk = true → s.silent who = false → who ≠ .pf1 →
      Goes c s (RefusedWith who Reg.HIF_ERR.GUARD addr s)) ∧
    (addr % 4 = 0 → addr % 0x10000 < 0x8000 → guardedAt addr = true → s.read who addr = 0)

/-- A command of the observer function (R90): ignored, HIF_ERR.OBSERVER set in its own copy. -/
def Obligations.ObserverCommandsAreRefused : Prop :=
  ∀ (c : Instr) (g : Bool) (addr : Nat) (s : State), c.register = some (g, .pf1, addr) → s.filesOk = true → s.boot.inReset = false →
    Goes c s (RefusedWith .pf1 Reg.HIF_ERR.OBSERVER addr s)

/-- A register command of a requester whose accesses have no effect changes nothing: while a reset is in force (the model's reading, log
entry 80), and of an application core held in reset (R66, R79, R451). The soft reset that coincides with one in force is a reset (R87). -/
def Obligations.NoRegisterCommandActsInReset : Prop :=
  ∀ (c : Instr) (g : Bool) (who : Requester) (addr : Nat) (s : State), c.register = some (g, who, addr) → s.silent who = true →
    (s.boot.inReset = true → c ≠ .hostSoftReset who ⟨0x5AFE0001, true⟩) → exec c s = .next s

/-- Writes that are discarded whole, which is their whole effect: longer than two doublewords (R96), with a byte enable clear (R95), and any
write of BAR2 (R94), whose offset the spec does not give (a free value, log entry 1). A narrow write of BAR4 has no error bit of BAR0
(log entry 109). -/
def Obligations.MalformedWritesAreDiscarded : Prop :=
  ∀ (s : State) (who : Requester), s.filesOk = true → s.silent who = false →
    (∀ addr words, 2 < words → Goes (.bar0LongWrite who addr words) s (RefusedWith who Reg.HIF_ERR.LONG_WR addr s)) ∧
    (∀ addr words, words ≤ 2 → exec (.bar0LongWrite who addr words) s = .next s) ∧
    (∀ addr wide value be, be % (if wide then 256 else 16) ≠ (if wide then 255 else 15) →
      (addr / 4 * 4 < bar4Base → Goes (.registerWrite who addr wide value be) s (RefusedWith who Reg.HIF_ERR.NARROW_WR (addr / 4 * 4) s)) ∧
      (bar4Base ≤ addr / 4 * 4 → exec (.registerWrite who addr wide value be) s = .next s)) ∧
    Goes (.bar2Write who) s fun t => t.get (Reg.HIF_ERR.BAR2_WR.of who) = 1 ∧
      Keeps [Reg.HIF_ERR.BAR2_WR.of who, Reg.HIF_ERR_ADDR.OFFSET.of who] [.out, .free] s t

/-- A write of a plain register takes effect at once (R11, R105), and one of a write-one-to-clear register clears the bits written 1. -/
def Obligations.RegisterWritesTakeEffect : Prop :=
  ∀ (s : State) (who : Requester) (v : Nat), Ready s who →
    Goes (.registerWrite who Reg.BOOT_ROAST_LEN.LEN.base false v 15) s (fun t =>
      t.get Reg.BOOT_ROAST_LEN.LEN = v % 2 ^ 32 ∧ Keeps [Reg.BOOT_ROAST_LEN.LEN] [] s t) ∧
    Goes (.registerWrite who Reg.CFG_TXN_STATUS.DONE.base false (2 ^ Reg.CFG_TXN_STATUS.DONE.lsb) 15) s fun t =>
      t.get Reg.CFG_TXN_STATUS.DONE = 0 ∧ Keeps [Reg.CFG_TXN_STATUS.DONE] [] s t

/-- An RWT write (R107, R108): staged in the requester's open transaction; discarded with NO_TXN where it may not stage, and with
TXN_FULL and OVERFLOW where it would be the 1,025th register. -/
def Obligations.RwtWritesAreStaged : Prop :=
  ∀ (s : State) (who : Requester) (a v : Nat), Ready s who → a % 4 = 0 → rwtAt a = true → s.mayWrite who a = true →
    (s.mayStage who = false → Goes (.rwtWrite who a false v) s (RefusedWith who Reg.HIF_ERR.NO_TXN a s)) ∧
    (s.mayStage who = true → alookup a s.cfg.staged = none → 1024 ≤ s.cfg.staged.length →
      Goes (.rwtWrite who a false v) s fun t => t.get (Reg.HIF_ERR.TXN_FULL.of who) = 1 ∧ t.get Reg.CFG_TXN_STATUS.OVERFLOW = 1 ∧
        t.cfg = s.cfg) ∧
    (s.mayStage who = true → s.cfg.staged.length < 1024 →
      Goes (.rwtWrite who a false v) s fun t => t.cfg.staged = aset a (v % 2 ^ 32) s.cfg.staged ∧
        Keeps [Reg.CFG_TXN_STATUS.STAGED] [.cfg] s t)

/-! ### Start-up and resets -/

/-- Resets that clear registers (R50, R56, R84, R85, R545), at any time that they are accepted; how coinciding ones rank and are recorded
(R87); and the pins while one is in force (R47, R48, R59). Between the two limits of a filter acceptance is free (R50, R56, log entry 1). -/
def Obligations.ResetsClearRegisters : Prop :=
  ∀ s : State, s.filesOk = true →
    (∀ dip up rails co, (up = true ∨ 2000 ≤ dip) → Goes (.powerOnReset dip up rails co) s fun t =>
      HeldInReset s 0 0 t ∧ t.env.io18 = rails.io18 ∧ t.env.io33 = rails.io33 ∧ t.env.sdMv = rails.sdMv ∧ t.mainPower = false) ∧
    (∀ dip rails co, dip < 2000 →
      (dip < 1000 → exec (.powerOnReset dip false rails co) s = .next s) ∧
      (1000 ≤ dip → Goes (.powerOnReset dip false rails co) s fun t => HeldInReset s 0 0 t ∨ t = s.tookFree)) ∧
    (s.boot.inReset = false →
      (∀ low co, 200 ≤ low → Goes (.resetNAssert low co) s (HeldInReset s 1 0)) ∧
      (∀ low co, low < 100 → exec (.resetNAssert low co) s = .next s) ∧
      (∀ low co, 100 ≤ low → low < 200 → Goes (.resetNAssert low co) s fun t => HeldInReset s 1 0 t ∨ t = s.tookFree) ∧
      (∀ who co, s.silent who = false → s.mayGuard who = true → Goes (.hostSoftReset who ⟨0x5AFE0001, co⟩) s (HeldInReset s 2 0)) ∧
      (∀ who key co, key ≠ 0x5AFE0001 → s.mayGuard who = true → exec (.hostSoftReset who ⟨key, co⟩) s = .next s) ∧
      (∀ co, s.boot.wdtOn = true → Goes (.watchdogExpiry co) s (HeldInReset s 3 0))) ∧
    (s.boot.inReset = true → s.boot.wdtOn = false → s.boot.kind ≤ 4 → ∀ c k who co rails,
      (c, k) ∈ [(Instr.powerOnReset 0 true rails co, 0), (.resetNAssert 200 co, 1), (.hostSoftReset who ⟨0x5AFE0001, true⟩, 2),
        (.watchdogExpiry true, 3)] → (k ≤ 1 ∨ co = true) →
      (k < s.boot.kind → Goes c s fun t => HeldInReset s k 0 t ∧
        t.get Reg.BOOT_CAUSE.ALSO = (if co then setBit (s.get Reg.BOOT_CAUSE.ALSO) s.boot.kind true else 0) % 2 ^ 5) ∧
      (s.boot.kind < k → Goes c s fun t => t.boot = s.boot ∧ (co = true →
        t.get Reg.BOOT_CAUSE.ALSO = setBit (s.get Reg.BOOT_CAUSE.ALSO) k true % 2 ^ 5) ∧ Keeps [Reg.BOOT_CAUSE.ALSO] [] s t)) ∧
    (s.boot.inReset = true → s.env.io18 = true → s.env.io33 = true → 700 ≤ s.env.sdMv → ∀ k,
      (∀ p ∈ [Pin.almOut k, .xtrig k, .casPps, .pls k], s.pin p = .released) ∧ s.pin .devOk = .low ∧
      (∀ p ∈ [Pin.ppsOut, .sdmClk k, .m0, .xspi, .xspiCs, .xspiReset, .avs, .tdo], s.pin p = .hiZ) ∧
      s.pin (.tx k) = .squelched ∧ s.pin (.rx k) = .unterminated ∧ s.pin .pcie = .electricalIdle ∧ s.pin .strap = .pulledDown ∧
      s.pin .tapIn = .pulledDown) ∧
    (s.env.sdMv < 700 → ∀ k, s.pin (.tx k) = .highImpedance ∧ s.pin (.rx k) = .highImpedance ∧ s.pin .pcie = .highImpedance)

/-- The end of a reset (R49, R72): straps are sampled and the ledger is in step 1. -/
def Obligations.StartBeginsAtStepOne : Prop :=
  ∀ (s : State) (casId : Nat) (testEn : Bool), s.filesOk = true → s.boot.inReset = true →
    Goes (.resetEnd casId testEn) s fun t =>
      t.boot.inReset = false ∧ t.boot.casId = casId % 8 ∧ t.boot.testEn = testEn ∧ t.get Reg.BOOT_STATUS.STEP = 1 ∧
      t.led Reg.BOOT_LEDGER.OUTCOME 1 = 1

/-- A step whose work is done passes into the next one (R71). -/
def Obligations.LedgerStepEntersTheNext : Prop :=
  ∀ (s : State) (r : StepReport) (k : Nat), s.filesOk = true → s.booting = true → s.get Reg.BOOT_STATUS.STEP = k →
    k ∈ [1, 5, 6, 11, 13] → r.ok = true →
    Goes (.ledgerStepComplete r) s fun t => t.get Reg.BOOT_STATUS.STEP = k + 1 ∧ t.led Reg.BOOT_LEDGER.OUTCOME (k + 1) = 1

/-- A step that fails its own check or runs out of time (R74): with fewer than three attempts a watchdog reset that names the step, at the
third safe mode. Step 12's time limit is no failure (R78). -/
def Obligations.LedgerStepFailureResets : Prop :=
  ∀ (s : State) (k : Nat) (c : Instr), s.filesOk = true → s.booting = true → s.get Reg.BOOT_STATUS.STEP = k → k ≤ 16 →
    (c = .ledgerStepTimeout ∧ k ≠ 12) ∨ (∃ r, c = .ledgerStepComplete r ∧ s.stepRefuses k r = true) →
    (s.led Reg.BOOT_LEDGER.ATTEMPTS k < 3 → Goes c s (HeldInReset s 4 k)) ∧
    (s.led Reg.BOOT_LEDGER.ATTEMPTS k = 3 → Goes c s fun t => t.boot.inReset = false ∧ t.get Reg.BOOT_STATUS.STATE = 2 ∧
      t.get Reg.BOOT_STATUS.SAFE_STEP = k)

/-- BOOT_ROAST_GO and BOOT_CTL (R70, R73, R77, R81, R82), with their frames. -/
def Obligations.BootControlCommands : Prop :=
  ∀ (s : State) (who : Requester), Ready s who →
    Goes (.bootRoastGo who) s (fun t => t.get Reg.BOOT_STATUS.ROAST_REQ = 0 ∧ Keeps [Reg.BOOT_STATUS.ROAST_REQ] [] s t) ∧
    Goes (.clearAttempts who) s (fun t => (∀ k, 1 ≤ k → k ≤ 16 → t.led Reg.BOOT_LEDGER.ATTEMPTS k = 0) ∧
      Keeps ((List.range 16).map fun k => Reg.BOOT_LEDGER.ATTEMPTS.ix k) [.nvs, .ledger] s t) ∧
    Goes (.fullTrain who) s (fun t => t.get Reg.BOOT_CTL.FULL_TRAIN = 1 ∧ t.ledger.train = none ∧
      Keeps [Reg.BOOT_CTL.FULL_TRAIN] [.ledger] s t) ∧
    Goes (.fullCal who) s (fun t => t.get Reg.BOOT_CTL.FULL_CAL = 1 ∧ t.ledger.cal = none ∧ Keeps [Reg.BOOT_CTL.FULL_CAL] [.ledger] s t) ∧
    Goes (.staySafe who) s (fun t => t.get Reg.BOOT_CTL.STAY_SAFE = 1 ∧ Keeps [Reg.BOOT_CTL.STAY_SAFE] [] s t) ∧
    ∀ fw roast, Goes (.slotPreferenceWrite who fw roast) s fun t =>
      t.get Reg.BOOT_CTL.FW_PREF = b2n fw ∧ t.get Reg.BOOT_CTL.ROAST_PREF = b2n roast ∧ t.nvs.fwPref = fw ∧ t.nvs.roastPref = roast ∧
      t.ledger.fwGood = none ∧ t.ledger.roastGood = none ∧ Keeps [Reg.BOOT_CTL.FW_PREF, Reg.BOOT_CTL.ROAST_PREF] [.nvs, .ledger] s t

/-- The heartbeat's condition in BOOT_HEALTH (R83, R84: a kick by firmware, none by a host), the power switch (R492) and PERST_N's release,
with their frames. -/
def Obligations.HeartbeatAndPower : Prop :=
  ∀ s : State, s.filesOk = true → s.boot.inReset = false →
    (∀ who, who = .sec ∨ (∃ k, who = .core k ∧ s.coreUp k = true) → Goes (.heartbeatKick who) s fun t =>
      t.bit Reg.BOOT_HEALTH.COND 5 = true ∧ Keeps [Reg.BOOT_HEALTH.COND] [.pins] s t) ∧
    exec (.heartbeatKick .pf0) s = .next s ∧
    (s.boot.wdtOn = true → Goes .heartbeatHalfExpiry s fun t => t.bit Reg.BOOT_HEALTH.COND 5 = false ∧
      Keeps [Reg.BOOT_HEALTH.COND] [.pins] s t) ∧
    (∀ who, Ready s who → Goes (.bkpPwrOffRequest who 0x0FF00001) s fun t => t.backup.offReq = some s.time.elapsed) ∧
    (∀ t a, s.backup.offReq = some a → s.nrg.saving = none → a + 100 * msUnit ≤ (s.moveTo t).time.elapsed → Goes (.pwrOnLow t) s fun u =>
      u.pins.pwrOn = false ∧ u.backup.offReq = none ∧ Keeps [] [.time, .pins, .backup] s u) ∧
    Goes .perstNRelease s fun t => t.env.perst = false ∧ t.env.link = true ∧ Keeps [] [.env] s t

/-- The image-update service (R537): a command starts where none runs and, for a write, no region in use is met; its end shows RESULT. -/
def Obligations.FlashCommands : Prop :=
  ∀ (s : State) (who : Requester) (slot : Bool), Ready s who →
    (s.get Reg.BOOT_FLASH_CMD.BUSY = 0 →
      Goes (.flashCheckFirmware who slot) s (fun t => t.get Reg.BOOT_FLASH_CMD.BUSY = 1 ∧ t.get Reg.BOOT_FLASH_CMD.RESULT = 0 ∧
        t.boot.flash = some (2, slot) ∧ Keeps [Reg.BOOT_FLASH_CMD.BUSY, Reg.BOOT_FLASH_CMD.RESULT] [.boot] s t) ∧
      Goes (.flashCheckRoast who slot) s (fun t => t.get Reg.BOOT_FLASH_CMD.BUSY = 1 ∧ t.get Reg.BOOT_FLASH_CMD.RESULT = 0 ∧
        t.boot.flash = some (3, slot) ∧ Keeps [Reg.BOOT_FLASH_CMD.BUSY, Reg.BOOT_FLASH_CMD.RESULT] [.boot] s t) ∧
      (s.flashInUse = [] → Goes (.flashWrite who) s fun t => t.get Reg.BOOT_FLASH_CMD.BUSY = 1 ∧ t.get Reg.BOOT_FLASH_CMD.RESULT = 0 ∧
        t.boot.flash = some (1, false) ∧ Keeps [Reg.BOOT_FLASH_CMD.BUSY, Reg.BOOT_FLASH_CMD.RESULT] [.boot] s t)) ∧
    ∀ (r : FlashReport) (op : Nat), s.boot.flash = some (op, slot) → Goes (.flashCmdDone r) s fun t =>
      t.get Reg.BOOT_FLASH_CMD.BUSY = 0 ∧ (r.flashErr = true → t.get Reg.BOOT_FLASH_CMD.RESULT = 4) ∧
      (r.flashErr = false → op = 1 → t.get Reg.BOOT_FLASH_CMD.RESULT = 1) ∧ t.boot.flash = none ∧
      Keeps [Reg.BOOT_FLASH_CMD.BUSY, Reg.BOOT_FLASH_CMD.RESULT] [.boot] s t

/-- Live firmware update (R538): staging, switching, commit and abort. -/
def Obligations.LiveFirmwareUpdate : Prop :=
  ∀ (s : State) (who : Requester), Ready s who →
    (∀ im flashErr ok, s.get Reg.BOOT_FW_LIVE.STATE ≠ 2 →
      ok = ((s.mainFails flashErr s.fw.pubkey im).isNone && s.roast.apiOk im.api &&
        (s.get Reg.CFG_ROAST_STATUS.SHADOW != 2 || s.otherRoast.apiOk im.api)) → Goes (.fwLiveStage who im flashErr) s fun t =>
        t.get Reg.BOOT_FW_LIVE.STATE = (if ok then 1 else 3) ∧
        t.fw.staged = (if ok then some (im.digest, im.svn, im.api) else none) ∧ Keeps [Reg.BOOT_FW_LIVE.STATE] [.fw] s t) ∧
    (s.get Reg.BOOT_FW_LIVE.STATE = 2 → ∀ im flashErr, exec (.fwLiveStage who im flashErr) s = .next s) ∧
    (∀ p, p < 9 → s.get Reg.BOOT_FW_LIVE.STATE = 1 → s.coreState p = 1 → Goes (.fwLiveSwitch who) s fun t =>
      t.get Reg.BOOT_FW_LIVE.STATE = 2 ∧ t.fw.switched = true ∧ Keeps [Reg.BOOT_FW_LIVE.STATE] [.fw] s t) ∧
    (∀ d svn api, s.fw.staged = some (d, svn, api) → s.get Reg.BOOT_FW_LIVE.STATE = 2 → Goes (.fwLiveCommit who) s fun t =>
      t.get Reg.BOOT_FW_LIVE.STATE = 0 ∧ t.get Reg.CFG_FW_API.API = api % 2 ^ Reg.CFG_FW_API.API.width ∧ t.fw.mainDigest = d ∧
      t.fw.mainSvn = svn ∧ t.fw.staged = none ∧ Keeps [Reg.BOOT_FW_LIVE.STATE, Reg.CFG_FW_API.API] [.fw, .sch] s t) ∧
    (s.get Reg.BOOT_FW_LIVE.STATE = 2 → Goes (.fwLiveAbort who) s fun t =>
      t.get Reg.BOOT_FW_LIVE.STATE = 1 ∧ t.fw.switched = false ∧ Keeps [Reg.BOOT_FW_LIVE.STATE] [.fw] s t)

/-! ### The host interface -/

/-- Snapshots (R103): the requester's holding set shows the time of the copy and is busy until the copy is done. -/
def Obligations.SnapshotsTakeTheTime : Prop :=
  ∀ (s : State) (who : Requester), s.filesOk = true → s.silent who = false →
    (who.holdSet ∉ s.host.snapBusy → Goes (.hifSnap who) s fun t => who.holdSet ∈ t.host.snapBusy ∧
      ∀ k, k < 4 → t.get ((Reg.HIF_SNAP_TIME.TIME.ix k).inBank (holdBank who.holdSet)) = taiWord s.time.tai k % 2 ^ 32) ∧
    (who.holdSet ∈ s.host.snapBusy → Goes (.hifSnap who) s (RefusedWith who Reg.HIF_ERR.SNAP_BUSY Reg.HIF_SNAP.GO.base s)) ∧
    Goes (.snapshotCopyDone who) s fun t => who.holdSet ∉ t.host.snapBusy ∧ Keeps [] [.host] s t

/-- Claiming owner state (R100): at once without a provisioned key; with one by a verified signature, and denied within 1 s of a denial. -/
def Obligations.OwnerClaims : Prop :=
  ∀ s : State, s.filesOk = true → s.boot.inReset = false →
    (s.get Reg.HIF_OWNER.STATE ∉ [1, 2] →
      (s.keySlot 4 = none → Goes (.ownerClaim .pf0) s fun t => t.get Reg.HIF_OWNER.STATE = 2) ∧
      (s.keySlot 4 ≠ none → (∀ d, s.host.deniedAt = some d → secUnit ≤ s.time.elapsed - d) → Goes (.ownerClaim .pf0) s fun t =>
        t.get Reg.HIF_OWNER.STATE = 1 ∧ t.host.claimSig = s.claimSignature ∧
        Keeps [Reg.HIF_OWNER.STATE, Reg.HIF_OWNER.AUTH_REQ] [.host] s t) ∧
      (s.keySlot 4 ≠ none → ∀ d, s.host.deniedAt = some d → s.time.elapsed - d < secUnit → Goes (.ownerClaim .pf0) s fun t =>
        t.get Reg.HIF_OWNER.STATE = 3 ∧ t.host.deniedAt = some s.time.elapsed)) ∧
    (s.get Reg.HIF_OWNER.STATE ∈ [1, 2] → exec (.ownerClaim .pf0) s = .next s) ∧
    (∀ pub, s.get Reg.HIF_OWNER.STATE = 1 → s.slotValue 4 = some pub → Goes .ownerVerifyDone s fun t =>
      t.get Reg.HIF_OWNER.STATE = if Config.ed25519Verify pub s.claimMessage s.host.claimSig then 2 else 3)

/-- What ends owner state (R101), and what ends with it: an open transaction of PF0 is rolled back with its result. -/
def Obligations.OwnerStateEnds : Prop :=
  ∀ (s : State) (c : Instr), s.filesOk = true → s.boot.inReset = false → s.get Reg.HIF_OWNER.STATE = 2 →
    c ∈ [.ownerRelease .pf0, .pcieLinkLoss, .pf0FunctionLevelReset, .perstNAssert] → Goes c s fun t =>
      t.get Reg.HIF_OWNER.STATE = 0 ∧ t.flag Reg.CFG_CRC_CTL.SUSPEND = false ∧
      (s.get Reg.CFG_TXN_STATUS.STATE = 1 → s.get Reg.CFG_TXN_STATUS.OWNER = 0 → TxnEnded 4 s t)

/-- The transaction's beginning and ends other than its commit (R107, R109, R110, R113). -/
def Obligations.TransactionsBeginAndRollBack : Prop :=
  ∀ (s : State) (who : Requester), Ready s who →
    (s.get Reg.CFG_TXN_STATUS.STATE = 0 → Goes (.txnBegin who) s fun t => t.get Reg.CFG_TXN_STATUS.STATE = 1 ∧
      t.get Reg.CFG_TXN_STATUS.OWNER = txnOwnerCode who ∧ t.get Reg.CFG_TXN_STATUS.STAGED = 0 ∧ t.cfg.staged = [] ∧
      Keeps [Reg.CFG_TXN_STATUS.STATE, Reg.CFG_TXN_STATUS.OWNER, Reg.CFG_TXN_STATUS.STAGED, Reg.CFG_TXN_STATUS.OVERFLOW,
        Reg.CFG_TXN_STATUS.ELAPSED] [.cfg] s t) ∧
    (s.get Reg.CFG_TXN_STATUS.STATE ≠ 0 → Goes (.txnBegin who) s fun t => t.get Reg.CFG_TXN_STATUS.RESULT = 5 ∧
      Keeps [Reg.CFG_TXN_STATUS.RESULT] [] s t) ∧
    (s.mayStage who = true → Goes (.txnRollback who) s (TxnEnded 2 s)) ∧
    (s.get Reg.CFG_TXN_STATUS.STATE = 1 → Goes .txnTimeout s (TxnEnded 3 s))

/-- The configuration CRC (R114 to R117). -/
def Obligations.ConfigurationCrcScans : Prop :=
  ∀ s : State, s.filesOk = true → s.boot.inReset = false →
    Goes .crcScanStart s (fun t => t.cfg.scan = some s.crcScan ∧ Keeps [] [.cfg] s t) ∧
    (∀ c, s.cfg.scan = some c → Goes .crcScanComplete s fun t => t.cfg.scan = none ∧ t.get Reg.CFG_CRC_LIVE.LIVE = c % 2 ^ 32 ∧
      (s.get Reg.CFG_CRC_CTL.ADOPT = 1 → t.get Reg.CFG_CRC_COMMIT.REF = c % 2 ^ 32 ∧ t.get Reg.CFG_CRC_STATUS.REF_VALID = 1 ∧
        t.get Reg.CFG_CRC_CTL.ADOPT = 0)) ∧
    (∀ who on, Ready s who → Goes (.crcSuspend who on) s fun t => t.flag Reg.CFG_CRC_CTL.SUSPEND = on ∧
      (s.flag Reg.CFG_CRC_CTL.SUSPEND ≠ on → t.cfg.scan = none) ∧ Keeps [Reg.CFG_CRC_CTL.SUSPEND] [.cfg] s t) ∧
    (s.flag Reg.CFG_CRC_CTL.SUSPEND = true → Goes .crcSuspendTimeout s fun t => t.flag Reg.CFG_CRC_CTL.SUSPEND = false ∧ t.cfg.scan = none) ∧
    ∀ who, Ready s who → Goes (.crcAdopt who) s fun t => t.get Reg.CFG_CRC_CTL.ADOPT = 1 ∧ t.cfg.scan = none ∧
      Keeps [Reg.CFG_CRC_CTL.ADOPT] [.cfg] s t

/-! ### The event recorder -/

/-- Writing a record takes as many log positions and sequence numbers as it has entries (R493), and a clear leaves the CLEAR record
alone (R500). -/
def Obligations.LogRecordsTakePositions : Prop :=
  ∀ s : State, s.filesOk = true → s.boot.inReset = false →
    (∀ r rest, s.evr.frozenAt = none → s.evr.clearing = none → s.evr.mounted = true → s.evr.ready = r :: rest → s.nvs.log.length + r.entries < logPositions →
      Goes .logEntryWrite s fun t => t.nvs.log.length = s.nvs.log.length + r.entries ∧ t.nvs.nextSeq = s.nvs.nextSeq + r.entries ∧
        t.nvs.log.take s.nvs.log.length = s.nvs.log) ∧
    (∀ who, Ready s who → s.evr.frozenAt = none → s.evr.clearing = none → Goes (.evrClear who 0xC1EA0001) s fun t =>
      t.get Reg.EVR_STATUS.CLEARING = 1 ∧ t.evr.clearing = some who.code ∧ Keeps [Reg.EVR_STATUS.CLEARING] [.evr] s t) ∧
    (∀ w, s.evr.clearing = some w → Goes .logClearComplete s fun t => t.evr.clearing = none ∧ t.nvs.log.length = 1 ∧
      t.nvs.logFull = false ∧ t.nvs.nextSeq = s.nvs.nextSeq + 1)

/-- Freezing the recorder and its end (R498). -/
def Obligations.LogFreezes : Prop :=
  ∀ s : State, s.filesOk = true → s.boot.inReset = false →
    (∀ who, MayWrite s who → Goes (.evrFreeze who true) s fun t => t.get Reg.EVR_FREEZE.FREEZE = 1 ∧ t.get Reg.EVR_STATUS.FROZEN = 1 ∧
      t.evr.frozenAt.isSome = true ∧ Keeps [Reg.EVR_FREEZE.FREEZE, Reg.EVR_STATUS.FROZEN] [.evr] s t) ∧
    (∀ who, MayWrite s who → s.evr.held = [] → s.evr.lost = 0 → Goes (.evrFreeze who false) s fun t => t.evr.frozenAt = none ∧
      t.get Reg.EVR_FREEZE.FREEZE = 0 ∧ t.get Reg.EVR_STATUS.FROZEN = 0) ∧
    (s.evr.frozenAt.isSome = true → Goes .freezeTimeout s fun t => t.evr.frozenAt = none)

/-- The read windows (R501): the latch takes the entry at the cursor, or the selected checkpoint. -/
def Obligations.LogWindowsLatch : Prop :=
  ∀ (s : State) (who : Requester), s.filesOk = true →
    (∀ through, Goes (.evrWindowLatch who through) s fun t =>
      (∀ k, k < 16 → t.get ((Reg.EVR_WINDOW.WORD.ix k).of who) =
        leAt ((s.nvs.log[s.get (Reg.EVR_CURSOR.POS.of who)]?).getD []) (4 * k) 4 % 2 ^ 32) ∧
      Keeps (Reg.EVR_CURSOR.POS.of who :: windowFields Reg.EVR_WINDOW.WORD who 16) [] s t) ∧
    ∀ c, s.nvs.checkpoints[s.get (Reg.EVR_CKPT_SEL.INDEX.of who)]? = some c → Goes (.evrCkptLatch who) s fun t =>
      (∀ k, k < 64 → t.get ((Reg.EVR_CKPT.WORD.ix k).of who) = leAt c.bytes (4 * k) 4 % 2 ^ 32) ∧
      Keeps (windowFields Reg.EVR_CKPT.WORD who 64) [] s t


/-! ### Transactions, roasts and swaps -/

/-- The commit (R110 to R112): while the aligner runs it waits for the next close; else the staged values take effect at once. A commit
that comes late, after an overflow or while a swap is pending ends as R110 and R113 say. -/
def Obligations.CommitsWaitOrTakeEffect : Prop :=
  ∀ (s u : State) (who : Requester) (t : Tai), Ready s who → u = s.moveTo t → u.mayStage who = true →
    (u.cfg.beginAt + 1000 * msUnit ≤ u.time.elapsed → Goes (.txnCommit who t) s (TxnEnded 3 u)) ∧
    (u.time.elapsed < u.cfg.beginAt + 1000 * msUnit →
      (u.flag Reg.CFG_TXN_STATUS.OVERFLOW = true → Goes (.txnCommit who t) s (TxnEnded 7 u)) ∧
      (u.flag Reg.CFG_TXN_STATUS.OVERFLOW = false →
        (u.swapPending = true → Goes (.txnCommit who t) s fun v => v.get Reg.CFG_TXN_STATUS.RESULT = 6 ∧
          Keeps [Reg.CFG_TXN_STATUS.RESULT] [] u v) ∧
        (u.swapPending = false → u.blockRuns .aligner = true → Goes (.txnCommit who t) s fun v => v.get Reg.CFG_TXN_STATUS.STATE = 2 ∧
          v.get Reg.CFG_TXN_APPLY_SLICE.SLICE = u.nextClose % 2 ^ 64 ∧ v.cfg.commitAt = u.time.tai ∧
          v.get Reg.CFG_TXN_STATUS.ELAPSED = min 1000 ((u.time.elapsed - u.cfg.beginAt) / msUnit) ∧
          Keeps [Reg.CFG_TXN_STATUS.STATE, Reg.CFG_TXN_STATUS.ELAPSED, Reg.CFG_TXN_APPLY_SLICE.SLICE] [.cfg] u v) ∧
        (u.swapPending = false → u.blockRuns .aligner = false → ∀ x, u.cfg.staged = [(Reg.CFG_CRC_COMMIT.REF.base, x)] →
          Goes (.txnCommit who t) s fun v => v.get Reg.CFG_CRC_COMMIT.REF = x % 2 ^ 32 ∧
            v.get Reg.CFG_CRC_STATUS.REF_VALID = 1 ∧ v.get Reg.CFG_TXN_STATUS.STATE = 0 ∧ v.get Reg.CFG_TXN_STATUS.RESULT = 1 ∧ v.get Reg.CFG_TXN_APPLY_SLICE.SLICE = ones64 ∧ v.cfg.staged = [])))

/-- Loading, judging and discarding a shadow roast, and the roast floor (R134, R136, R138, R143, R144). -/
def Obligations.ShadowRoastsLoad : Prop :=
  ∀ (s : State) (who : Requester), Ready s who →
    (∀ src, src % 4 ≠ 3 → s.swapPending = false → s.get Reg.CFG_ROAST_STATUS.SHADOW ∉ [1, 4] → Goes (.roastLoad who src) s fun t =>
      t.get Reg.CFG_ROAST_STATUS.SHADOW = 1 ∧ t.roasts.shadowSrc = src % 4 ∧ t.region (1 - s.activeRegion) = none) ∧
    (∀ src, src % 4 = 3 ∨ s.swapPending = true ∨ s.get Reg.CFG_ROAST_STATUS.SHADOW ∈ [1, 4] → Goes (.roastLoad who src) s fun t =>
      t.get Reg.CFG_ROAST_STATUS.CTL_REFUSED = 1 ∧ Keeps [Reg.CFG_ROAST_CTL.SRC, Reg.CFG_ROAST_STATUS.CTL_REFUSED] [] s t) ∧
    (∀ d, s.get Reg.CFG_ROAST_STATUS.SHADOW = 1 →
      Goes (.shadowLoadDone d) s fun t => t.out = .msix 1 1 :: .msix 0 1 :: s.out ∧
        match s.loadFails (s.roasts.shadowSrc == 2) d (some (s.get Reg.CFG_FW_API.API)) with
        | some c => t.get Reg.CFG_ROAST_STATUS.SHADOW = 3 ∧ t.get Reg.CFG_ROAST_STATUS.ERROR = c % 2 ^ Reg.CFG_ROAST_STATUS.ERROR.width ∧
          Keeps [Reg.CFG_ROAST_STATUS.SHADOW, Reg.CFG_ROAST_STATUS.ERROR] [.out] s t
        | none => t.get Reg.CFG_ROAST_STATUS.SHADOW = 2 ∧ t.region (1 - s.activeRegion) = some d.image.loaded ∧
          t.get Reg.CFG_ROAST_SHADOW.SERIAL = d.image.loaded.serial % 2 ^ 64) ∧
    (s.swapPending = false →
      (s.get Reg.CFG_ROAST_STATUS.SHADOW = 1 → Goes (.roastDiscard who) s fun t => t.get Reg.CFG_ROAST_STATUS.SHADOW = 3 ∧
        t.get Reg.CFG_ROAST_STATUS.ERROR = 0 ∧ t.out = .msix 1 1 :: .msix 0 1 :: s.out) ∧
      (s.get Reg.CFG_ROAST_STATUS.SHADOW ∈ [2, 3] → Goes (.roastDiscard who) s fun t => t.get Reg.CFG_ROAST_STATUS.SHADOW = 0 ∧
        t.region (1 - s.activeRegion) = none) ∧
      (s.get Reg.CFG_ROAST_STATUS.SHADOW = 4 → Goes (.roastDiscard who) s fun t => t.get Reg.CFG_ROAST_STATUS.CTL_REFUSED = 1 ∧
        Keeps [Reg.CFG_ROAST_STATUS.CTL_REFUSED] [] s t)) ∧
    Goes (.raiseFloor who) s fun t => t.nvs.roastFloor = max (max (s.get Reg.CFG_ROAST_FLOOR.SVN) s.nvs.roastFloor) s.roast.svn ∧
      t.get Reg.CFG_ROAST_FLOOR.SVN = t.nvs.roastFloor % 2 ^ 32 ∧ Keeps [Reg.CFG_ROAST_FLOOR.SVN] [.nvs] s t

/-- Swap requests (R145, R150) and the end of a retiring roast (R149). -/
def Obligations.SwapsAreJudged : Prop :=
  ∀ (s : State) (who : Requester), Ready s who →
    (∀ d, d < 2 ^ 64 → s.get Reg.CFG_SWAP_RESULT.STATE = 0 → s.get Reg.CFG_TXN_STATUS.STATE ≠ 2 →
      (s.get Reg.CFG_ROAST_STATUS.SHADOW ≠ 2 → ∀ auto, Goes (.swapRequest who d auto) s (SwapRefused 3)) ∧
      (s.get Reg.CFG_ROAST_STATUS.SHADOW = 2 →
        (s.otherRoast.rate ≠ s.fs ∨ s.otherRoast.laneWord ≠ s.roast.laneWord → ∀ auto, Goes (.swapRequest who d auto) s (SwapRefused 4)) ∧
        (s.otherRoast.rate = s.fs → s.otherRoast.laneWord = s.roast.laneWord →
          (d ≤ sliceOf s.fs s.time.tai ∨ sliceOf s.fs s.time.tai + 16777216 < d ∨ s.openFrom d = true →
            Goes (.swapRequest who d false) s (SwapRefused 2)) ∧
          (sliceOf s.fs s.time.tai < d → d ≤ sliceOf s.fs s.time.tai + 16777216 → s.openFrom d = false →
            (s.swapMargin = false → Goes (.swapRequest who d false) s (SwapRefused 5)) ∧
            (s.swapMargin = true → Goes (.swapRequest who d false) s fun t => t.get Reg.CFG_SWAP_RESULT.STATE = 2 ∧
              t.get Reg.CFG_SWAP_RESULT.RESULT = 0 ∧ t.get Reg.CFG_SWAP_SLICE.SLICE = d ∧ t.roasts.swapD = d ∧
              (s.aln.slices = [] → ∀ x, Goes (.swapRequest who x true) s fun t => t.roasts.swapD = sliceOf s.fs s.time.tai + 2)))))) ∧
    (∀ d auto, s.get Reg.CFG_SWAP_RESULT.STATE = 1 → Goes (.swapRequest who d auto) s fun t => t.get Reg.CFG_SWAP_RESULT.STATE = 1 ∧
      t.get Reg.CFG_SWAP_RESULT.RESULT = 6 ∧ t.get Reg.CFG_SWAP_RESULT.DONE = 1) ∧
    (s.get Reg.CFG_SWAP_RESULT.STATE = 2 → s.openFrom s.roasts.swapD = false → Goes (.swapCancel who) s fun t =>
      t.get Reg.CFG_SWAP_RESULT.STATE = 0 ∧ t.get Reg.CFG_SWAP_RESULT.RESULT = 7 ∧ t.get Reg.CFG_SWAP_RESULT.DONE = 1 ∧
      Keeps [Reg.CFG_SWAP_RESULT.STATE, Reg.CFG_SWAP_RESULT.RESULT, Reg.CFG_SWAP_RESULT.DONE] [] s t) ∧
    ∀ t, s.get Reg.CFG_ROAST_STATUS.SHADOW = 4 → s.roasts.retireEnd ≤ (s.moveTo t).time.tai → (∀ r ∈ s.runs, s.roasts.retireD ≤ r.n) →
      Goes (.retiringEnd t) s fun v => v.get Reg.CFG_ROAST_STATUS.SHADOW = 0 ∧ v.region (1 - s.activeRegion) = none ∧ v.ing.oldEn = [] ∧
        v.ing.oldRec = []

/-- Scrubbing and repair of tiles (R140, R142). -/
def Obligations.TilesAreRepaired : Prop :=
  ∀ s : State, s.filesOk = true →
    (∀ region copy tile good, region < 2 → copy < 2 → (((s.region region).getD {}).sectionOf tile).isSome = true →
      Goes (.scrubTileRead region copy tile good) s fun t =>
        t.copyBad region copy tile = (!good && s.copyBad region (1 - copy) tile) ∧
        (good = false → s.copyBad region (1 - copy) tile = false →
          t.get Reg.CFG_TILE_FAULT.REPAIRED = min (s.get Reg.CFG_TILE_FAULT.REPAIRED + 1) (2 ^ Reg.CFG_TILE_FAULT.REPAIRED.width - 1))) ∧
    (∀ (d : LoadReport) region sect rest x, s.roasts.repairQueue = (region, sect) :: rest →
      (((s.region region).getD {}).secs)[sect]? = some x → Config.sha512 d.image.tiles.flatten = x.digest →
      (d.flashErr = false → s.regionHost region = false → Goes (.flashSectionReread d) s fun t =>
        (region, sect) ∉ t.roasts.repairQueue ∧ ∀ tile ∈ x.tiles, ∀ copy, copy < 2 → t.copyBad region copy tile = false) ∧
      (d.dmaErr = false → s.roasts.repairBusy = true → Goes (.repairDeliveryDone d) s fun t => t.roasts.repairBusy = false ∧
        (region, sect) ∉ t.roasts.repairQueue ∧ ∀ tile ∈ x.tiles, ∀ copy, copy < 2 → t.copyBad region copy tile = false)) ∧
    (s.get Reg.CFG_ROAST_STATUS.REPAIR_REQ = 1 → Goes .repairReqReminder s fun t => t.out = .msix 1 1 :: .msix 0 1 :: s.out ∧
      Keeps [] [.out] s t) ∧
    ∀ who, Ready s who → s.get Reg.CFG_ROAST_STATUS.REPAIR_REQ = 1 → Goes (.repairGo who) s fun t => t.roasts.repairBusy = true ∧
      Keeps [] [.roasts] s t


/-! ### Blocks with EN, BUSY and PEND -/

/-- The table of R106: a write of EN that the block takes, and the end of a shutdown. Before its ledger step a stopped block only takes EN
(R66, log entry 110), and in safe mode and quarantine it takes no write (R79, log entry 81). A block that only turns on and off changes
nothing else: descriptor rings, ingress queues, the parser, the host ring, capture. -/
def Obligations.BlocksFollowTheEnableTable : Prop :=
  ∀ (s : State) (who : Requester) (b : Block) (en : Bool), b.wellFormed = true → MayWrite s who →
    (s.takesEnable b en = true →
      (2 ≤ s.get Reg.BOOT_STATUS.STATE → exec (b.enable who en) s = .next s) ∧
      (s.get Reg.BOOT_STATUS.STATE < 2 →
        (s.flag b.en = en → exec (b.enable who en) s = .next s) ∧
        (s.flag b.en = false → s.flag b.busy = true → en = true → Goes (b.enable who en) s fun t =>
          t.flag b.en = true ∧ t.flag b.pend = true ∧ Keeps [b.en, b.pend] [] s t) ∧
        (s.flag b.en = true → s.flag b.pend = true → en = false → Goes (b.enable who en) s fun t =>
          t.flag b.en = false ∧ t.flag b.pend = false ∧ Keeps [b.en, b.pend] [] s t) ∧
        (s.flag b.en = false → s.flag b.busy = false → s.mayStart b = false → en = true → Goes (b.enable who en) s fun t =>
          t.flag b.en = true ∧ Keeps [b.en] [] s t))) ∧
    (∀ bufs, s.stopping b = true → s.quiet b = true → s.flag b.pend = false → Goes (.blockShutdownComplete b bufs) s fun t =>
      t.flag b.busy = false ∧ (b.plain = true → Keeps [b.busy] [] s t)) ∧
    (∀ bufs, b.plain = true → s.stopping b = true → s.quiet b = true → s.flag b.pend = true → Goes (.blockShutdownComplete b bufs) s fun t =>
      t.flag b.pend = false ∧ t.flag b.busy = true ∧ Keeps [b.pend] [] s t) ∧
    (s.get Reg.BOOT_STATUS.STATE < 2 →
      (∀ r, b = .ring r → s.ringUnused r = false → Switches (.ringEnable who r en) b en s) ∧
      (∀ n, b = .ingQueue n → (n ≠ 5 ∨ s.redMode = 0) → Switches (.ingressQueueEnable who n en) b en s) ∧
      Switches (.parserEnable who en) .parser en s ∧ Switches (.hostRingEnable who en) .hostRing en s ∧
      Switches (.captureEnable who en) .capture en s)

/-- What the blocks that do more at a start or a stop do: ports (R59), the filter chain, the aligner (R276), alarms (R386), energy (R438), the
cascade (R522). -/
def Obligations.EnginesStartAndStop : Prop :=
  ∀ (s : State) (who : Requester), MayWrite s who → s.get Reg.BOOT_STATUS.STATE < 2 →
    (∀ p, p < 7 → s.flag (Block.port p).en = false → s.flag (Block.port p).busy = false → s.roast.laneEn p = true →
      s.mayStart (.port p) = true → Goes (.portEnable who p true) s fun t => t.flag (Block.port p).en = true ∧
        t.flag (Block.port p).busy = true ∧ bitAt t.pins.txActive p = true) ∧
    (∀ p, p < 7 → s.roast.laneEn p = false → Goes (.portEnable who p true) s
      (RefusedWith who Reg.HIF_ERR.LOCKED (Block.port p).en.base s)) ∧
    (∀ p, p < 7 → s.flag (Block.port p).en = true → s.flag (Block.port p).pend = false → Goes (.portEnable who p false) s fun t =>
      t.flag (Block.port p).en = false ∧ Keeps [(Block.port p).en] [] s t) ∧
    (∀ p bufs, p < 7 → s.stopping (.port p) = true → s.quiet (.port p) = true → s.flag (Block.port p).pend = false →
      Goes (.blockShutdownComplete (.port p) bufs) s fun t => t.flag (Block.port p).busy = false ∧ bitAt t.pins.txActive p = false ∧
        Keeps [(Block.port p).busy] [.pins] s t) ∧
    (s.flag Reg.FLT_CTL.EN = true → s.flag Reg.FLT_CTL.PEND = false → Goes (.fltChainEnable who false) s fun t =>
      t.flag Reg.FLT_CTL.EN = false ∧ Keeps [Reg.FLT_CTL.EN] [] s t) ∧
    (∀ g, g < 32 → (s.roast.groupRec g).isSome = true → s.flag Reg.FLT_CTL.EN = false → s.flag Reg.FLT_CTL.BUSY = false →
      s.flag (Block.filterGroup g).en = true → Goes (.fltChainEnable who true) s fun t =>
        (t.fgroup g).resetAt = s.time.tai ∧ t.flag (Block.filterGroup g).busy = true) ∧
    (∀ g, g < 32 → (s.roast.groupRec g).isSome = true → s.blockRuns .filter = true → s.flag (Block.filterGroup g).en = false →
      s.flag (Block.filterGroup g).busy = false → s.flag (Block.filterGroup g).pend = false → Goes (.fltGroupEnable who g true) s fun t =>
        (t.fgroup g).resetAt = s.time.tai ∧ t.flag (Block.filterGroup g).busy = true) ∧
    (∀ g, g < 32 → (s.roast.groupRec g).isSome = true → s.flag (Block.filterGroup g).en = true →
      s.flag (Block.filterGroup g).pend = false → Goes (.fltGroupEnable who g false) s fun t =>
        t.flag (Block.filterGroup g).en = false ∧ Keeps [(Block.filterGroup g).en] [] s t) ∧
    (s.flag Reg.ALN_CTL.EN = false → s.flag Reg.ALN_CTL.BUSY = false → s.mayStart .aligner = true → Goes (.alignerEnable who true) s fun t =>
      t.lse.prior = [] ∧ t.osc.resets = s.osc.resets ++ [sliceOf s.fs s.time.tai + 1] ∧ t.aln.lastClose = s.time.tai ∧ t.aln.step = none ∧
      t.aln.gap = none) ∧
    (s.flag Reg.ALM_CTL.EN = false → s.flag Reg.ALM_CTL.BUSY = false → s.mayStart .alarm = true → Goes (.alarmEngineEnable who true) s fun t =>
      t.alm = { keys := s.alm.keys, region := s.activeRegion }) ∧
    (s.flag Reg.ALM_CTL.EN = true → s.flag Reg.ALM_CTL.PEND = false → Goes (.alarmEngineEnable who false) s fun t =>
      t.flag Reg.ALM_CTL.EN = false ∧ Keeps [Reg.ALM_CTL.EN] [] s t) ∧
    (s.flag Reg.NRG_CTL.EN = false → s.flag Reg.NRG_CTL.BUSY = false → Goes (.energyEnable who true) s fun t =>
      t.nrg.saving.isSome = true) ∧
    (s.flag Reg.NRG_CTL.EN = true → s.flag Reg.NRG_CTL.PEND = false → Goes (.energyEnable who false) s fun t =>
      t.flag Reg.NRG_CTL.EN = false ∧ Keeps [Reg.NRG_CTL.EN] [.backup] s t) ∧
    (∀ en, s.flag Reg.CAS_CTL.EN ≠ en → s.flag Reg.CAS_CTL.BUSY = !en → s.flag Reg.CAS_CTL.PEND = false → (en = true → s.mayStart .cascade = true) →
      Goes (.cascadeEnable who en) s fun t => t.flag Reg.CAS_CTL.EN = en ∧ t.flag Reg.CAS_CTL.BUSY = true ∧
        Keeps [Reg.CAS_CTL.EN, Reg.CAS_CTL.BUSY] [] s t) ∧
    (∀ bufs, s.stopping .cascade = true → s.flag Reg.CAS_CTL.PEND = false → Goes (.blockShutdownComplete .cascade bufs) s fun t =>
      t.flag Reg.CAS_CTL.BUSY = false ∧ t.cas.out = [] ∧ t.cas.token = [])

/-! ### Ports -/

/-- Link state, preemption's verification, low-power idle and MDIO (R176, R177, R185, R186). -/
def Obligations.LinksAndManagement : Prop :=
  ∀ s : State, s.filesOk = true →
    (∀ p l, p < 7 → Goes (.linkStateChange p l) s fun t => t.flag (Reg.MAC_STATUS.LINK.ix p) = l.up ∧
      t.flag (Reg.MAC_STATUS.PCS_LOCK.ix p) = l.pcsLock ∧ t.flag (Reg.MAC_STATUS.FEC_LOCK.ix p) = l.fecLock ∧
      t.flag (Reg.MAC_STATUS.AN_DONE.ix p) = l.anDone ∧
      (s.flag (Reg.MAC_STATUS.LINK.ix p) = l.up → Keeps [Reg.MAC_STATUS.LINK.ix p, Reg.MAC_STATUS.PCS_LOCK.ix p,
        Reg.MAC_STATUS.FEC_LOCK.ix p, Reg.MAC_STATUS.AN_DONE.ix p, Reg.MAC_STATUS.SPEED.ix p] [] s t)) ∧
    (∀ p, p < 7 → s.get (Reg.MAC_STATUS.VERIFY.ix p) = 1 → Goes (.preemptVerifyTimeout p) s fun t =>
      ((s.port p).tries < 3 → t.port p = { s.port p with tries := (s.port p).tries + 1 } ∧ t.out = .mpacket p false :: s.out ∧
        Keeps [] [.ports, .out] s t) ∧
      (3 ≤ (s.port p).tries → t.get (Reg.MAC_STATUS.VERIFY.ix p) = 3)) ∧
    (s.flag Reg.MACM0_EEE.EN = true → 1 ≤ s.get Reg.MACM0_RGMII_CFG.SPEED → (s.port 6).topQueue = none → (s.port 6).cur = none →
      (s.port 6).waking = false → s.flag (Reg.MAC_STATUS.LPI_TX.ix 6) = false → s.portOn 6 = true → Goes .lpiIdleExpiry s fun t =>
        t.flag (Reg.MAC_STATUS.LPI_TX.ix 6) = true ∧ Keeps [Reg.MAC_STATUS.LPI_TX.ix 6, Reg.MAC.EEE_TX_LPI.ix 6] [] s t) ∧
    ((s.port 6).waking = true → s.flag (Reg.MAC_STATUS.LPI_TX.ix 6) = false → Goes .twSysExpiry s fun t => (t.port 6).waking = false) ∧
    (∀ on, on ≠ s.flag (Reg.MAC_STATUS.LPI_RX.ix 6) → Goes (.lpiRxChange on) s fun t => t.flag (Reg.MAC_STATUS.LPI_RX.ix 6) = on ∧
      Keeps [Reg.MAC_STATUS.LPI_RX.ix 6, Reg.MAC.EEE_RX_LPI.ix 6] [] s t) ∧
    (∀ who phy reg data op c, MayWrite s who → s.flag Reg.MACM0_MDIO.GO = false →
      (op, c) ∈ [(0, .mdioWrite who phy reg data), (1, .mdioRead who phy reg data), (2, .mdioC45Address who phy reg data),
        (3, Instr.mdioC45Read who phy reg data)] → Goes c s fun t =>
      t.flag Reg.MACM0_MDIO.GO = true ∧ t.get Reg.MACM0_MDIO.OP = op ∧ t.get Reg.MACM0_MDIO.PHY = phy % 32 ∧
      t.get Reg.MACM0_MDIO.REG = reg % 32 ∧ t.get Reg.MACM0_MDIO.DATA = data % 65536 ∧ t.ports.mdio = some op ∧
      t.out = .mdio op (phy % 32) (reg % 32) (data % 65536) :: s.out) ∧
    ∀ op data, s.ports.mdio = some op → Goes (.mdioDone data) s fun t => t.ports.mdio = none ∧ t.flag Reg.MACM0_MDIO.GO = false ∧
      (op % 2 = 1 → t.get Reg.MACM0_MDIO.DATA = data % 65536) ∧ Keeps [Reg.MACM0_MDIO.GO, Reg.MACM0_MDIO.DATA] [.ports] s t

/-- Frames received (R78, R151, R153 to R156, R158, R160, R177): what a port that receives does with mPackets, with a good frame for a
host-owned ring, and what it drops and counts. A station port is taken without redundancy and without the transparent clock. -/
def Obligations.FramesAreReceived : Prop :=
  ∀ (s u : State) (p k cls : Nat) (f : RxFrame), s.filesOk = true → u = s.moveTo f.stamp → p < 7 →
    (u.portOn p = false → bitAt u.boot.timing p = false → exec (.frameReceive p f) s = .next u) ∧
    (u.portOn p = true ∨ bitAt u.boot.timing p = true →
      (f.kind = .verify → p < 6 → u.flag (Reg.MAC_PREEMPT.EN.ix p) = true → Goes (.frameReceive p f) s fun t =>
        t.out = .mpacket p true :: u.out ∧ Keeps [Reg.MAC.FEC_CORRECTED.ix p, Reg.MAC.FEC_UNCORRECTABLE.ix p] [.out] u t) ∧
      (f.kind = .respond → u.get (Reg.MAC_STATUS.VERIFY.ix p) = 1 → Goes (.frameReceive p f) s fun t =>
        t.get (Reg.MAC_STATUS.VERIFY.ix p) = 2 ∧
        Keeps [Reg.MAC_STATUS.VERIFY.ix p, Reg.MAC.FEC_CORRECTED.ix p, Reg.MAC.FEC_UNCORRECTABLE.ix p] [] u t) ∧
      (f.kind = .data → f.fragments = 0 → f.sfdOk = true →
        (f.assembled = false → Goes (.frameReceive p f) s (Counted (Reg.MAC.RX_ASSY_ERR.ix p) u)) ∧
        (f.assembled = true →
          (f.bytes.length + 4 < 64 ∨ u.get (Reg.MAC_MAXLEN.LEN.ix p) < f.bytes.length + 4 → Goes (.frameReceive p f) s
            (Counted (Reg.MAC.RX_LEN_ERR.ix p) u)) ∧
          (60 ≤ f.bytes.length → f.bytes.length + 4 ≤ u.get (Reg.MAC_MAXLEN.LEN.ix p) →
            (f.fcsOk = false → Goes (.frameReceive p f) s (Counted (Reg.MAC.RX_FCS_ERR.ix p) u)) ∧
            (f.fcsOk = true →
              ((viewOf f.bytes).etype = 0x8808 → Goes (.frameReceive p f) s fun t => Counted (Reg.MAC.RX_PAUSE.ix p) u t ∧
                Counted (Reg.MAC.RX_FRAMES.ix p) u t) ∧
              ((viewOf f.bytes).etype ≠ 0x8808 → (p = 4 ∨ p = 5 → u.redMode = 0 ∧ u.flag Reg.PTP_TC_CTL.EN = false) →
                (u.addrFilter p f.bytes = false → Goes (.frameReceive p f) s fun t => Counted (Reg.MAC.RX_FILT_DROP.ix p) u t ∧
                  Counted (Reg.MAC.RX_FRAMES.ix p) u t) ∧
                (u.addrFilter p f.bytes = true → u.vlanFilter p f.bytes = false → Goes (.frameReceive p f) s fun t =>
                  Counted (Reg.MAC.RX_VLAN_DROP.ix p) u t ∧ Counted (Reg.MAC.RX_FRAMES.ix p) u t) ∧
                (u.addrFilter p f.bytes = true → u.vlanFilter p f.bytes = true → u.classify p f.bytes = .ring k cls → k < 4 →
                  (f.fifoFits = false → Goes (.frameReceive p f) s (Counted (Reg.MAC.RX_FIFO_DROP.ix p) u)) ∧
                  (f.fifoFits = true → u.blockRuns (.ring (.rx p k)) = true →
                    (u.ringAvail (.rx p k) = 0 → Goes (.frameReceive p f) s (Counted (Reg.MAC.RX_NOBUF_DROP.ix p) u)) ∧
                    (u.ringHost (.rx p k) = true → ceilDiv f.bytes.length 2048 ≤ u.ringAvail (.rx p k) →
                      Goes (.frameReceive p f) s fun t => t.get (Ring.rx p k).head =
                        (u.get (Ring.rx p k).head + ceilDiv f.bytes.length 2048) % u.ringN (.rx p k) ∧
                        Counted (Reg.MAC.RX_FRAMES.ix p) u t)))))))))

/-- Ring events, Dregs, and the duplicate table (R164, R171, R172, R184, R187). -/
def Obligations.RingEventsAndDregs : Prop :=
  ∀ s : State, s.filesOk = true →
    (∀ r t l, alookup r s.ports.ringEv = some (l, true) → l + s.get r.holdoff * usUnit ≤ (s.moveTo t).time.elapsed →
      Goes (.ringEventHoldoffExpiry (some r) t) s fun v => alookup r v.ports.ringEv = some ((s.moveTo t).time.elapsed, false)) ∧
    (∀ t l, s.aln.hostEv = some (l, true) → l + s.get Reg.ALN_HOST_RING.HOLDOFF * usUnit ≤ (s.moveTo t).time.elapsed →
      Goes (.ringEventHoldoffExpiry none t) s fun v => v.aln.hostEv = some ((s.moveTo t).time.elapsed, false) ∧
        v.get Reg.ALN_IRQ.HOST = 1 ∧ Keeps [Reg.ALN_IRQ.HOST] [.time, .aln, .out] s v) ∧
    (∀ who n m seq arr, MayWrite s who → n < 6 →
      (n = 5 → s.redMode ≠ 0 → exec (.dregs who n m ⟨seq, arr⟩) s = .next s) ∧
      (n ≠ 5 ∨ s.redMode = 0 →
        (∀ k rest, (s.ingQ n).packets = k :: rest →
          ((m = false ∨ k.seq = seq % 65536) → Goes (.dregs who n m ⟨seq, arr⟩) s fun t => (t.ingQ n).packets = rest ∧
            t.get (Reg.ING_Q_PTR.RP.ix n) = (s.get (Reg.ING_Q_PTR.RP.ix n) + k.words) % (2 * s.ingCap n) ∧
            Counted (Reg.ING_Q.DREGS.ix n) s t) ∧
          (m = true → k.seq ≠ seq % 65536 → Goes (.dregs who n m ⟨seq, arr⟩) s fun t =>
            t.flag (Reg.ING_Q_STATUS.DREGS_IGN.ix n) = true ∧ Keeps [Reg.ING_Q_STATUS.DREGS_IGN.ix n] [] s t)) ∧
        ((s.ingQ n).packets = [] →
          (arr = none → Goes (.dregs who n m ⟨seq, arr⟩) s fun t => t.flag (Reg.ING_Q_STATUS.DREGS_IGN.ix n) = true ∧
            Keeps [Reg.ING_Q_STATUS.DREGS_IGN.ix n] [] s t) ∧
          (∀ w, arr = some w → (m = false ∨ (s.ingQ n).nextSeq = seq % 65536) → s.blockRuns (.ingQueue n) = true → (s.ingQ n).cut = false →
            Goes (.dregs who n m ⟨seq, arr⟩) s fun t => (t.ingQ n).packets = [] ∧ (t.ingQ n).cut = true ∧
              t.get (Reg.ING_Q_PTR.RP.ix n) = (s.get (Reg.ING_Q_PTR.RP.ix n) + w) % (2 * s.ingCap n) ∧
              t.get (Reg.ING_Q_PTR.WP.ix n) = (s.get (Reg.ING_Q_PTR.WP.ix n) + w) % (2 * s.ingCap n) ∧
              Counted (Reg.ING_Q.DREGS.ix n) s t)))) ∧
    ∀ t, Goes (.duplicateEntryExpiry t) s fun v =>
      (∀ e, e ∈ v.ports.dup ↔ e ∈ s.ports.dup ∧ (s.moveTo t).dupAlive e = true) ∧ Keeps [] [.time, .ports] s v

/-- Frames sent (R174, R180, R388 to R391, R298): a frame that the Saucer lets pass enters its queue, one that it refuses is counted, and
the frame in transmission leaves. -/
def Obligations.FramesAreSent : Prop :=
  (∀ (s u : State) (t : Tai) (p k q w : Nat) (bs : Bytes) (f : TxFrame), s.filesOk = true → u = s.moveTo t → p < 7 → k < 4 →
    q = u.get (Reg.MAC_TXRING.QUEUE.ix2 p k) → q < 7 →
    f = { src := .ring p k, bytes := bs.take (w % 2 ^ 14), tsReq := bitAt w 16, oneStep := false
          descAddr := u.descAt (.tx p k) 0, descWord := w } → u.paired p f = false →
    u.blockRuns (.ring (.tx p k)) = true → u.ringAvail (.tx p k) ≠ 0 → u.blockRuns (.port p) = true → u.hasRoom p q = true →
    (q < (u.port p).queues.length → u.flag (Reg.MAC_STATUS.LINK.ix p) = true → u.saucerReason p q (w % 2 ^ 14) f = none →
      Goes (.txFrameOffer t (.ring (.tx p k) bs w)) s fun v =>
        v.get (Ring.tx p k).head = (u.get (Ring.tx p k).head + 1) % u.ringN (.tx p k) ∧ f ∈ (v.port p).all ∧
        alookup (p, q) v.sau.buckets = some (u.bucketLevel p q - bucketCost (w % 2 ^ 14) * secUnit, u.time.elapsed)) ∧
    (∀ r, u.saucerReason p q (w % 2 ^ 14) f = some r → Goes (.txFrameOffer t (.ring (.tx p k) bs w)) s fun v =>
      Counted (Reg.SAU.REFUSE.ix2 p r) u v ∧ v.sau.refused = true ∧ v.port p = u.port p)) ∧
  (∀ (s u : State) (t : Tai) (k p q : Nat) (x : Nat × Nat × Bytes × Tai) (b : Bytes) (f : TxFrame), s.filesOk = true → u = s.moveTo t →
    x.1 = k → k < 16 → u.sch.outHeld = [x] → u.roast.outRec k = some b → x.2.2.2 ≤ u.time.tai → p = leAt b 2 1 → q = leAt b 3 1 → p < 7 →
    q < 8 → f = { src := .ostream k, bytes := x.2.2.1 } → u.txRoom p q f = true → u.saucerReason p q x.2.2.1.length f = none →
    Goes (.outputHoldExpiry t) s (fun v => v.sch.outHeld = [] ∧ Counted (Reg.ALN.OUT_SENT.ix k) u v) ∧
    Goes (.txFrameOffer t (.output k)) s fun v => v.sch.outHeld = [] ∧ Counted (Reg.ALN.OUT_SENT.ix k) u v) ∧
  ∀ (s u : State) (t : Tai) (p q code : Nat) (f : TxFrame), s.filesOk = true → u = s.moveTo t → p < 7 → (u.port p).cur = some (q, f) →
    Goes (.txFrameComplete p ⟨t, code⟩) s fun v =>
      .frame p q (padTo 60 (u.egressBytes p f (u.txStamp p f (if p < 6 then u.tdcStamp (13 + 2 * p) t code else t)))) ∈ v.out


/-! ### The time base -/

/-- The tick and steps (R188, R190, R195), the end of a slew (R200), and the requester's time latch (R191). While the aligner is stopped no
slice closes at the tick; any other instant is no tick. -/
def Obligations.TicksApplySteps : Prop :=
  ∀ (s u : State) (t : Tai), s.filesOk = true → u = s.moveTo t →
    (s.tickAt t = false → exec (.timeBaseTick t) s = .next s) ∧
    (s.tickAt t = true → u.alnUp = false → u.time.servoStep = none →
      (∀ d, u.time.hostStep = some d → Goes (.timeBaseTick t) s fun v => v.time.tai = addTai u.time.tai d ∧ v.time.hostStep = none ∧
        v.time.stepped = none ∧ v.time.lastTick = some v.time.tai) ∧
      (u.time.hostStep = none → u.time.stepped = none → Goes (.timeBaseTick t) s fun v => v.time.tai = u.time.tai ∧
        v.time.lastTick = some t ∧ (u.boot.inReset = false → Counted Reg.BOOT_ELAPSED.ELAPSED u v))) ∧
    (∀ who, Ready s who → Goes (.stepGo who) s fun v => v.time.hostStep = some (s.getInt Reg.TSU_STEP.STEP) ∧
      v.flag Reg.TSU_CTL.STEP_GO = true ∧ Keeps [Reg.TSU_CTL.STEP_GO] [.time] s v) ∧
    (s.time.slew = 0 ∨ 0 < s.slewRate → Goes .slewComplete s fun v => v.time.slew = 0 ∧ v.flag Reg.TSU_STATUS.SLEW = false ∧
      v.time.cycles = s.time.cycles + ceilDiv s.time.slew.natAbs (81920 * s.slewRate) ∧ Keeps [Reg.TSU_STATUS.SLEW] [.time] s v) ∧
    (s.time.slew ≠ 0 → s.slewRate = 0 → exec .slewComplete s = .next s) ∧
    ∀ who, Goes (.tsuTimeLatch who t) s fun v =>
      (∀ k, k < 4 → v.get ((Reg.TSU_TIME.TIME.ix k).of who) = taiWord (u.time.ctr / 2 ^ 48) k % 2 ^ 32) ∧
      Keeps (windowFields Reg.TSU_TIME.TIME who 4) [.time] s v

/-- Samples of references that are not selected (R193, R194, R197, R201): history and age, and nothing else. -/
def Obligations.ReferencesAreSampled : Prop :=
  ∀ (s u : State) (t : Tai) (k : Nat), s.filesOk = true → u = s.moveTo t → 1 ≤ k → k < 8 → k ≠ u.selected →
    (u.roast.refOfKind 2 = some k → ∀ code, Goes (.ppsInEdge ⟨t, code⟩) s fun v =>
      v.refHist k = (u.refHist k).take (u.roast.refRec k) u.time.elapsed
        (toSecond ((u.tdcStamp 0 t code : Int) - refComp (u.roast.refRec k))) ∧
      v.get (Reg.TSU_REF.AGE.ix (k - 1)) = 0 ∧ Keeps [Reg.TSU_REF.LAST.ix (k - 1), Reg.TSU_REF.AGE.ix (k - 1)] [.time] s v) ∧
    (u.roast.refOfKind 1 = some k → ∀ (f : IrigFrame) (tod : Nat × Nat × Bool), f.stamp = t →
      tod = (f.utc u.calYear, f.sod, (f.ext && f.leapPending && f.leapDel) || u.get Reg.TSU_UTC.PENDING == 2) →
      (f.parityOk = false ∨ (∃ l, (u.refHist k).lastTod = some l ∧ irigFollows l (f.utc u.calYear) f.sod = false) →
        Goes (.irigBFrame f) s fun v => v.refHist k = { u.refHist k with lastTod := some tod } ∧ Keeps [] [.time] s v) ∧
      (f.parityOk = true → f.ext = false → bitAt (leAt (u.roast.refRec k) 5 1) 2 = false →
        (∀ l, (u.refHist k).lastTod = some l → irigFollows l (f.utc u.calYear) f.sod = true) → Goes (.irigBFrame f) s fun v =>
          v.get (Reg.TSU_REF.AGE.ix (k - 1)) = 0 ∧ (v.refHist k).lastTod = some tod ∧
          Keeps [Reg.TSU_REF.LAST.ix (k - 1), Reg.TSU_REF.AGE.ix (k - 1)] [.time] s v)) ∧
    (u.roast.refOfKind 3 = some k → u.tsu = 3 → ∀ y, Goes (.ref10mSecond t y) s fun v =>
      v.time.ref10m = (y :: u.time.ref10m).take 1000 ∧ v.get (Reg.TSU_REF.AGE.ix (k - 1)) = 0) ∧
    ∀ who ofs, MayWrite s who → k ≠ s.selected → k ≤ s.roast.refCount → refKind (s.roast.refRec k) = 0 →
      Goes (.tsuSampleGo who k ofs) s fun v => v.get Reg.TSU_SAMPLE.OFS = ofs % 2 ^ 64 ∧ v.get (Reg.TSU_REF.AGE.ix (k - 1)) = 0 ∧
        Keeps [Reg.TSU_SAMPLE.OFS, Reg.TSU_REF.LAST.ix (k - 1), Reg.TSU_REF.AGE.ix (k - 1)] [.time] s v

/-- TDC calibration (R202, R203), leap seconds (R217) and the PPS output (R219). -/
def Obligations.LeapsAndPulses : Prop :=
  ∀ (s u : State) (t : Tai), s.filesOk = true → u = s.moveTo t →
    (∀ ch bins, ch < 32 → (∀ h ∈ bins, 4096 ≤ h ∧ h ≤ 32768) → Goes (.tdcCalibration ch bins) s fun v =>
      alookup ch v.time.tdcTab = some (tdcTable 0 bins) ∧ v.bit Reg.TSU_TDC_FAIL.MAP ch = false ∧
      Keeps [Reg.TSU_TDC_CALS.COUNT, Reg.TSU_TDC_FAIL.MAP] [.time] s v) ∧
    (∀ ch bins, ch < 32 → (∃ h ∈ bins, h < 4096 ∨ 32768 < h) → Goes (.tdcCalibration ch bins) s fun v =>
      v.bit Reg.TSU_TDC_FAIL.MAP ch = true ∧ v.time = s.time) ∧
    (∀ del, u.leapDue (t - 1) = some (t, del) → u.time.leapHeld = 0 → -30000 ≤ u.utcOffset → u.utcOffset ≤ 30000 →
      Goes (.leapSecond t) s fun v => v.utcOffset = u.utcOffset + (if del then -1 else 1) ∧
        v.get Reg.TSU_UTC.PENDING = 0 ∧ v.get Reg.TSU_UTC.OCCURRED = 1 ∧ v.backup.leapAt = some t ∧ v.backup.leapDel = del) ∧
    (t % secUnit ≠ 0 ∨ u.time.tai ≠ t ∨ u.pinsLive = false ∨ u.flag Reg.TSU_PPS_OUT.EN = false ∨
      (u.tsu < 2 ∧ u.flag Reg.TSU_PPS_OUT.FREE = false) → exec (.ppsOutPulse t) s = .next u) ∧
    (t % secUnit = 0 → u.time.tai = t → u.pinsLive = true → u.flag Reg.TSU_PPS_OUT.EN = true →
      (2 ≤ u.tsu ∨ u.flag Reg.TSU_PPS_OUT.FREE = true) → Goes (.ppsOutPulse t) s fun v => v.pins.ppsOut = true ∧
        v.time.ppsUntil = some (u.time.elapsed + clampN 1 200 (u.get Reg.TSU_PPS_OUT.WIDTH) * msUnit) ∧ Keeps [] [.time, .pins] s v) ∧
    (∀ x, s.time.ppsUntil = some x → Goes .ppsOutWidthEnd s fun v => v.pins.ppsOut = false ∧ v.time.ppsUntil = none ∧
      v.time.elapsed = max s.time.elapsed x ∧ Keeps [] [.time, .pins] s v) ∧
    (s.time.ppsUntil = none → exec .ppsOutWidthEnd s = .next s)

/-! ### The cascade -/

/-- Lanes, wraps and tokens (R506 to R512). -/
def Obligations.RingsWrapAndPassTokens : Prop :=
  ∀ s : State, s.filesOk = true → s.roast.has 0x60 = true →
    (∀ east locked, Goes (.neighbourAbsent east locked) s fun t => t.flag (wrapFld east) = true ∧
      (locked = false → t.get (lanesFld east) = 0)) ∧
    (∀ east, Goes (.laneLoss east) s fun t => t.flag (wrapFld east) = true ∧ t.get (lanesFld east) = 0) ∧
    (∀ east lanes, Goes (.laneRetrainDone east lanes) s fun t => t.get (lanesFld east) = min 4 lanes) ∧
    (∀ east, s.get (lanesFld east) ≠ 0 → Goes (.ringUnwrap east) s fun t => t.flag (wrapFld east) = false ∧ Keeps [wrapFld east] [] s t) ∧
    (∀ ring gen t, ring < 2 → (alookup ring s.cas.gens).getD 0 ≤ gen → Goes (.tokenReceive ring gen t) s fun v =>
      alookup ring v.cas.gens = some gen ∧ alookup ring v.cas.seenAt = some (s.moveTo t).time.elapsed ∧
      (s.cas.out = [] → alookup ring v.cas.token = none)) ∧
    (∀ ring gen t, ring < 2 → alookup ring s.cas.token = some gen → Goes (.tokenHoldExpiry ring t) s fun v =>
      alookup ring v.cas.token = none ∧ Keeps [] [.time, .cas, .out] s v) ∧
    ∀ (ring : Nat) (t : Tai), ring < 2 → s.operating = true →
      (alookup ring s.cas.seenAt).getD 0 + 2 * s.rotation + 10 * usUnit ≤ (s.moveTo t).time.elapsed →
      (∀ p, p < s.casId → s.bit Reg.CAS_PEER.PRESENT p = false) → alookup ring s.cas.token = none → Goes (.tokenRegenerate ring t) s
        fun v => alookup ring v.cas.gens = some ((alookup ring s.cas.gens).getD 0 + 1)

/-- Takeovers (R517, R518), messages (R505, R509) and CAS_PPS (R519). -/
def Obligations.CascadeCommands : Prop :=
  ∀ (s u : State) (t : Tai), s.filesOk = true → u = s.moveTo t →
    (∀ who p, Ready s who → s.roast.has 0x60 = true → p < 8 → bitAt s.roast.standbyFor p = true → s.bit Reg.CAS_PEER.TAKEN p = false →
      s.cas.takes = [] → s.mayTake p = true → s.originates (.takeover p) = true → Goes (.casTake who (2 ^ p)) s fun v =>
        v.cas.takes = [(p, none)] ∧ v.cas.seq = (s.cas.seq + 1) % 2 ^ 32 ∧ Keeps [] [.cas] s v) ∧
    (∀ who mask, Ready s who → Goes (.casRelease who mask) s fun v =>
      (∀ p, p < 8 → v.bit Reg.CAS_PEER.TAKEN p = (s.bit Reg.CAS_PEER.TAKEN p && !bitAt mask p)) ∧ Keeps [Reg.CAS_PEER.TAKEN] [] s v) ∧
    (∀ ring m link, u.alnUp = false → u.roast.has 0x60 = true → Goes (.ringMessageReceive ring m false link t) s fun v =>
      Counted Reg.CAS.MSG_BAD u v ∧ Keeps [Reg.CAS.MSG_BAD] [.time] s v) ∧
    (∀ ring m ok rate tag le lw taken, u.alnUp = false → u.roast.has 0x60 = true → m.id < 8 → m.id ≠ u.casId →
      m.body = .presence ok rate tag le lw taken → (u.peer m.id).tag ≠ m.tag → Goes (.ringMessageReceive ring m true none t) s fun v =>
        v.bit Reg.CAS_PEER.PRESENT m.id = true ∧ (v.peer m.id).known = true ∧ (v.peer m.id).quiet = 0) ∧
    (t % secUnit = 0 → u.operating = true → u.roast.has 0x60 = true → u.roast.ppsMaster = u.casId → u.flag Reg.TSU_STATUS.TIME_VALID = true →
      Goes (.casPpsDrive t) s fun v => v.pins.casPpsLow = true ∧ Keeps [] [.time, .pins] s v) ∧
    (t % secUnit ≠ 0 ∨ u.roast.ppsMaster ≠ u.casId ∨ u.flag Reg.TSU_STATUS.TIME_VALID = false → exec (.casPpsDrive t) s = .next u) ∧
    Goes .casPpsDriveEnd s (fun v => v.pins.casPpsLow = false ∧ Keeps [] [.pins] s v) ∧
    (∀ code, Goes (.casPpsEdge ⟨t, code⟩) s fun v => v.cas.ppsAt = u.time.elapsed ∧ v.cas.ppsMissed = false) ∧
    (u.cas.ppsMissed = false → 2 * u.cas.ppsAt + 3 * secUnit ≤ 2 * u.time.elapsed → Goes (.casPpsMiss t) s fun v =>
      v.cas.ppsMissed = true ∧ Counted Reg.CAS.PPS_MISS u v ∧
      Keeps [Reg.CAS.PPS_MISS] [.time, .cas] s v)


/-! ### Ingest -/

/-- Parsing (R222 to R225) and stale subscriptions, with the aligner stopped so that nothing closes: the head packet of the source in turn
leaves its queue, and a subscription that is overdue is stale. -/
def Obligations.PacketsAreParsed : Prop :=
  ∀ (s u : State) (t : Tai), s.filesOk = true → u = s.moveTo t → u.alnUp = false →
    (∀ j bufs src k rest, u.blockRuns .parser = true →
      ((List.range 7).map fun i => (u.ing.last + 1 + i) % 7).find? u.sourceReady = some src → src < 6 → (u.ingQ src).packets = k :: rest →
      Goes (.parsePacket t j bufs) s fun v => (v.ingQ src).packets = rest ∧ (k.good = false → v.ing.last = src)) ∧
    Goes (.gooseStale t) s fun v => ∀ tpl ∈ u.roast.gooseTpls, ∀ x, alookup (tplGooseKey tpl) v.ing.subs = some x →
      u.time.tai < x.rx + 2 * x.ttl * msUnit ∨ x.stale = true

/-- Re-templating (R237, R238, R241): each command starts where none is in progress, and shows its result when it completes. -/
def Obligations.TemplateCommands : Prop :=
  ∀ (s : State) (who : Requester), Ready s who → s.flag Reg.ING_TPL_STATUS.BUSY = false →
    (s.ing.staged.length < 32 → Goes (.stageTpl who) s fun t => t.flag Reg.ING_TPL_STATUS.BUSY = true ∧ t.ing.tplJob = some 1 ∧
      { stream := s.tplSel, isRec := false, image := s.bufBytes Reg.ING_TPL_BUF.DATA 256 } ∈ t.ing.staged ∧
      Keeps [Reg.ING_TPL_STATUS.STAGED, Reg.ING_TPL_STATUS.BUSY] [.ing] s t) ∧
    (s.ing.staged.length < 32 → Goes (.stageRec who) s fun t => t.flag Reg.ING_TPL_STATUS.BUSY = true ∧ t.ing.tplJob = some 1 ∧
      { stream := s.firstOf s.tplSel, isRec := true, image := s.bufBytes Reg.ING_REC_BUF.DATA 16 } ∈ t.ing.staged ∧
      Keeps [Reg.ING_TPL_STATUS.STAGED, Reg.ING_TPL_STATUS.BUSY] [.ing] s t) ∧
    Goes (.tplDiscard who) s (fun t => t.flag Reg.ING_TPL_STATUS.BUSY = true ∧ t.ing.tplJob = some 11 ∧
      (∀ x ∈ t.ing.staged, x.stream ∉ s.groupOf (s.firstOf s.tplSel)) ∧
      Keeps [Reg.ING_TPL_STATUS.STAGED, Reg.ING_TPL_STATUS.BUSY] [.ing] s t) ∧
    (s.alnUp = false →
      Goes (.suspend who) s (fun t => t.flag Reg.ING_TPL_STATUS.BUSY = true ∧ t.ing.tplJob = some 10) ∧
      (s.resumeFails s.tplSel (sliceOf s.fs s.time.tai + 2) = 0 → Goes (.resume who) s fun t => t.ing.tplJob = some 2 ∧
        alookup s.tplSel t.ing.resume = some (sliceOf s.fs s.time.tai + 2))) ∧
    ∀ r, s.ing.tplJob = some r → Goes .templateCommandDone s fun t => t.ing.tplJob = none ∧ t.flag Reg.ING_TPL_STATUS.BUSY = false ∧
      t.get Reg.ING_TPL_STATUS.RESULT = r % 2 ^ Reg.ING_TPL_STATUS.RESULT.width

/-- Stream keys (R235) and unclaimed IDs: what the commands load and clear; a stream of another kind has no keys. -/
def Obligations.IngestKeys : Prop :=
  ∀ (s : State) (who : Requester), Ready s who →
    (recKind (s.recOf (s.get Reg.ING_KEY_SEL.STREAM)) = 3 → Goes (.ingKeyLoadNext who) s fun t =>
      (∀ k, k < 8 → t.get (Reg.ING_KEY_DATA.KEY.ix k) = 0) ∧
      (t.spduKeys .active (s.get Reg.ING_KEY_SEL.STREAM)).next = some (s.get Reg.ING_KEY_ID.ID, s.bufBytes Reg.ING_KEY_DATA.KEY 8) ∧
      Keeps ((List.range 8).map fun k => Reg.ING_KEY_DATA.KEY.ix k) [.ing] s t) ∧
    (recKind (s.recOf (s.get Reg.ING_KEY_SEL.STREAM)) = 3 → Goes (.ingKeyErase who) s fun t =>
      (t.spduKeys .active (s.get Reg.ING_KEY_SEL.STREAM)).cur = none ∧ (t.spduKeys .active (s.get Reg.ING_KEY_SEL.STREAM)).next = none ∧
      Keeps [] [.ing] s t) ∧
    (recKind (s.recOf (s.get Reg.ING_KEY_SEL.STREAM)) ≠ 3 → exec (.ingKeyErase who) s = .next s ∧ Goes (.ingKeyLoadNext who) s fun t =>
      (∀ k, k < 8 → t.get (Reg.ING_KEY_DATA.KEY.ix k) = 0) ∧ Keeps ((List.range 8).map fun k => Reg.ING_KEY_DATA.KEY.ix k) [] s t) ∧
    ∀ w, MayWrite s w → Goes (.unclaimedClr w) s fun t => (∀ n, n < 8 → t.flag (Reg.ING_UNCLAIMED_ID.VALID.ix n) = false) ∧
      Keeps ((List.range 8).flatMap fun n => [Reg.ING_UNCLAIMED_ID.KEY.ix n, Reg.ING_UNCLAIMED_ID.SOURCE.ix n,
        Reg.ING_UNCLAIMED_ID.KIND.ix n, Reg.ING_UNCLAIMED_ID.ADDR.ix n, Reg.ING_UNCLAIMED_ID.VALID.ix n]) [] s t

/-! ### The filter chain -/

/-- Banks and fades (R257 to R259). A fade whose last output is out has ended when a request is evaluated. -/
def Obligations.BanksFade : Prop :=
  ∀ (s : State) (who : Requester) (target : Nat), Ready s who → target < 2 →
    (∀ w, w = s.kernEnd →
      (w.flag kBank.fading = true → Goes (.kernelBankSwapRequest who target) s (SwapQueued kBank target w)) ∧
      (w.flag kBank.fading = false → w.get kBank.active = target → Goes (.kernelBankSwapRequest who target) s fun t =>
        t.get kBank.result = 3 ∧ Keeps [kBank.result] [] w t) ∧
      (w.flag kBank.fading = false → w.get kBank.active ≠ target → Goes (.kernelBankSwapRequest who target) s fun t =>
        t.flag kBank.fading = true ∧ t.get kBank.result = 1 ∧ t.flt.kfade = some { target := target } ∧
        Keeps [kBank.fading, kBank.result] [.flt] w t)) ∧
    (∀ g w, g < 32 → w = s.firEnd g →
      (w.flag (firBank g).fading = true → Goes (.firBankSwapRequest who g target) s (SwapQueued (firBank g) target w)) ∧
      (w.flag (firBank g).fading = false → w.get (firBank g).active = target → Goes (.firBankSwapRequest who g target) s fun t =>
        t.get (firBank g).result = 3 ∧ Keeps [(firBank g).result] [] w t) ∧
      (w.flag (firBank g).fading = false → w.get (firBank g).active ≠ target → Goes (.firBankSwapRequest who g target) s fun t =>
        t.flag (firBank g).fading = true ∧ t.get (firBank g).result = 1 ∧ (t.fgroup g).fade = some { target := target } ∧
        Keeps [(firBank g).fading, (firBank g).result] [.flt] w t)) ∧
    (∀ g f b, g < 32 → (s.fgroup g).fade = some f → s.roast.groupRec g = some b → s.firFaded b g = true →
      s.flag (firBank g).queued = false → Goes (.fadeEnd (some g)) s fun t => (t.fgroup g).fade = none ∧
        t.get (firBank g).active = f.target % 2 ∧ t.flag (firBank g).fading = false) ∧
    (∀ f, s.flt.kfade = some f → (∀ g, g < 32 → s.groupRuns g = false) → s.flag Reg.FLT_KBANK.QUEUED = false →
      Goes (.fadeEnd none) s fun t => t.flt.kfade = none ∧ t.get Reg.FLT_KBANK.ACTIVE = f.target % 2 ∧
        t.flag Reg.FLT_KBANK.FADING = false) ∧
    ∀ v kern bank i, kern = s.flag Reg.FLT_COEF_SEL.KIND → bank = s.get Reg.FLT_COEF_SEL.BANK → i = s.get Reg.FLT_COEF_SEL.INDEX →
      Goes (.fltCoefWrite who v) s fun t => t.get Reg.FLT_COEF_DATA.DATA = v % 2 ^ 32 ∧
        (s.bankHeld (if kern then kBank else firBank (s.get Reg.FLT_COEF_SEL.GROUP)) bank = true → t.flt = s.flt) ∧
        (s.bankHeld (if kern then kBank else firBank (s.get Reg.FLT_COEF_SEL.GROUP)) bank = false →
          (kern = true → alookup (4096 + bank * 4096 + i) t.flt.edits = some (BitVec.ofNat 32 v)) ∧
          (kern = false → i < 64 →
            alookup ((2 * s.get Reg.FLT_COEF_SEL.GROUP + bank) * 64 + i) t.flt.edits = some (BitVec.ofNat 32 v)))

/-- Samples through a lane (R244 to R246, R249), a synchronising reset (R256) and the estimate of a group (R251). -/
def Obligations.LanesTakeSamples : Prop :=
  ∀ (s u : State) (t : Tai) (l : Nat) (b : Bytes), s.filesOk = true → u = s.moveTo t → l < 256 → s.roast.groupRec (l / 8) = some b →
    s.groupRuns (l / 8) = true → l % 8 ∈ gMembers b →
    (∀ bits, gKind b (l % 8) = 1 → bits.length = gR b → (u.lane l).phase + 1 < gD b → Goes (.cicOutput l bits t) s fun v =>
      (v.lane l).phase = (u.lane l).phase + 1 ∧
      (v.lane l).integ = bits.foldl (fun st x => cicBit st (if x then 1 else -1)) (u.lane l).integ ∧
      (v.lane l).cic.length = min 64 ((u.lane l).cic.length + 1)) ∧
    (∀ q, gKind b (l % 8) = 2 → (u.lane l).svNext = some q →
      q * secUnit / s.roast.svRate (gSrc b (l % 8)) + gSvWait b * usUnit ≤ t → Goes (.svWaitExpiry l t) s fun v =>
        (v.lane l).svNext = some (q + 1) ∧ (v.lane l).miss = (u.lane l).miss + 1) ∧
    (∀ s1 o, s.laneOutput b l = some (s1, o) → Goes (.resamplerOutput l) s fun v => (v.lane l).k = (s.lane l).k + 1 ∧
      (v.lane l).outs = (o :: (s.lane l).outs).take 8192) ∧
    (∀ who, MayWrite s who → Goes (.fltSync who (l / 8)) s fun v => (v.fgroup (l / 8)).resetAt = s.time.tai) ∧
    ∀ g n i, g = l / 8 → u.alnUp = false → (u.view (u.genOf n)).roast.groupStream g = some i →
      n % max 1 (recDiv ((u.view (u.genOf n)).recOf i)) = 0 → (u.fgroup g).resetAt ≤ sliceTime u.fs n → (u.fgroup g).lastN = none →
      u.estReady b g (sliceTime u.fs n) = true → Goes (.phasorEstimate g n t) s fun v => (v.fgroup g).lastN = some n ∧
        (v.fgroup g).freq = (u.estimate b g (sliceTime u.fs n)).f.1


/-! ### The slice schedule -/

/-- Each stage leaves the slice whose turn it is (R26 to R28), with its effect on that slice: substitution closes the slice's slots (R280),
the passes and engines name the slice they worked on last (R380, R357, R364, R326, R323), pass 2 judges the slice (R524), the history
write opens its revision window (R292), capture takes the slice into every record that spans it (R401), the notice delivers it (R293) and a
revision pass examines the journal (R284). -/
def Obligations.StagesLeaveTheirSlices : Prop :=
  ∀ (s : State) (rep : StageReport) (buf : Nat), s.filesOk = true →
    Leaves 0 (.substitution rep) rep.stop s (fun u r w => (u.sliceAt r.n).n = r.n → (w.sliceAt r.n).state = 3) ∧
    Leaves 1 (.alarmPass1 rep) rep.stop s (fun u r w =>
      (u.blockRuns .alarm = true → w.get Reg.ALM_LAST_SLICE.SLICE = r.n % 2 ^ 64) ∧ (u.blockRuns .alarm = false → w.alm = u.alm)) ∧
    Leaves 2 (.topologyEngine rep) rep.stop s (fun u r w => (u.sliceAt r.n).n = r.n → w.isl.topoSlice = some r.n) ∧
    Leaves 3 (.islandEngine rep) rep.stop s (fun _ r w =>
      w.isl.islSlice = some r.n ∧ w.get Reg.ISL_LAST_SLICE.SLICE = r.n % 2 ^ 64) ∧
    Leaves 4 (.oscillationEngine rep) rep.stop s (fun _ r w =>
      w.get Reg.OSC_LAST_SLICE.SLICE = r.n % 2 ^ 64 ∧ w.flag Reg.OSC_STATUS.SHED = decide (2 ≤ r.shed)) ∧
    Leaves 5 (.lseStage rep) rep.stop s (fun _ r w =>
      w.get Reg.LSE_LAST_SLICE.SLICE = r.n % 2 ^ 64 ∧ (alookup (r.n % 512) w.lse.ring).isSome = true) ∧
    Leaves 6 (.alarmPass2 rep) rep.stop s (fun u r w => (∀ x ∈ u.runs, x.n = r.n → x.has 8 = false) → w.pace.judged = true) ∧
    Leaves 7 (.historyWrite rep) rep.stop s (fun u r w => (u.sliceAt r.n).n = r.n → (w.sliceAt r.n).state = 4) ∧
    Leaves 8 (.captureSliceEntries rep) rep.stop s (fun u r w => ∀ e ∈ u.filling, alookup e.1 u.cap.recs = some e.2 →
      e.2.spans r.n = true → ∃ y, alookup e.1 w.cap.recs = some y ∧ y.slices.any (fun z => z.1 == r.n) = true) ∧
    Leaves 9 (.scheduleDoneNotice rep buf) rep.stop s (fun u _ w =>
      u.blockRuns .hostRing = true →
      (u.get Reg.ALN_HOST_RING.TAIL + u.hostN - u.get Reg.ALN_HOST_RING.HEAD % u.hostN) % u.hostN ≠ 0 →
      w.get Reg.ALN_HOST_RING.HEAD = (u.get Reg.ALN_HOST_RING.HEAD % u.hostN + 1) % u.hostN) ∧
    Leaves 10 (.revisionPass rep) rep.stop s (fun u r w =>
      w.aln.journal = if 1 ≤ r.shed then u.aln.journal else u.revisionPass.aln.journal)

/-- A slice opens 1/8 of a period before its time (R264, R238), closes in the time-base cycle of its deadline (R270 to R272), and retires once
its window has passed and the journal holds nothing for it (R286); the fabric watchdog ends what is late (R527). Closes that are due take place
before a command's effect and after it. -/
def Obligations.SlicesOpenCloseAndRetire : Prop :=
  ∀ (s u : State) (t : Tai) (bufs : List Nat), s.filesOk = true →
    (u = (s.moveTo t).closes s → ∃ w : State, exec (.sliceRetire t bufs) s = .next (w.closes u) ∧
      ∀ x ∈ u.retirable, (w.slice? x.n).map (·.state) = some 5) ∧
    (u = (s.moveTo t).closes s → (u.runs.map (·.n)).Nodup → ∃ w : State, exec (.fabricWatchdog t) s = .next (w.closes u) ∧
      ∀ r ∈ u.runs, r.closeAt + 3000 * usUnit ≤ u.time.tai → (∀ x ∈ w.runs, x.n ≠ r.n) ∧
        ∀ y, w.slice? r.n = some y → y.n = r.n → 4 ≤ y.state) ∧
    (u = (s.moveTo t).closes s → ∃ w : State, exec (.sliceOpen t) s = .next (w.closes u) ∧
      (u.blockRuns .aligner = false → w = u) ∧
      (u.blockRuns .aligner = true → ∀ n, u.nextClose ≤ n → n < u.nextClose + 512 →
        (∀ x, u.slice? n = some x → w.slice? n = some x) ∧
        (u.slice? n = none → 8 * n * secUnit ≤ 8 * u.time.tai * u.fs + secUnit → u.inGap n = false → w.slice? n = some { n := n }) ∧
        (u.slice? n = none → 8 * u.time.tai * u.fs + secUnit < 8 * n * secUnit → w.slice? n = none))) ∧
    (u = (s.moveTo (s.cycleAt t)).closes s → exec (.sliceDeadline t) s = .next (u.closes u)) ∧
    (u = s.moveTo (s.cycleAt t) → u.blockRuns .aligner = true → u.genOf u.nextClose = .active →
      ∀ x, u.aln.slices = [(u.nextClose, x)] → x.n = u.nextClose → x.state = 1 → x.met = none → x.blocked = false →
        s.deadlineCycle (u.deadline u.nextClose) ≤ u.time.tai →
        ((u.required u.nextClose).isEmpty = true ∨ (u.required u.nextClose).all x.streams.contains = false) →
        u.swapPending = false → u.runs = [] → u.get Reg.CFG_TXN_STATUS.STATE = 0 →
        u.roast.has 0x60 = false → u.cap.arms = [] → u.pace.retire = [] → Goes (.sliceDeadline t) s fun v =>
          (v.slice? u.nextClose).map (fun y => (y.state, y.reason, y.closeAt)) =
            some (2, (if (u.required u.nextClose).isEmpty then 3 else 2),
              max (s.deadlineCycle (u.deadline u.nextClose)) u.aln.lastClose) ∧
          v.get Reg.ALN_LAST_CLOSE.SLICE = u.nextClose % 2 ^ 64)

/-! ### Windows -/

/-- Reading windows (R323, R350, R373, R395, R428): word 0's read latches every word of the item that the requester selected. -/
def Obligations.WindowsLatch : Prop :=
  ∀ (s : State) (who : Requester), s.filesOk = true →
    (∀ c f n ws, (c, f, n, ws) ∈ [
        (Instr.lseSummaryLatch who, Reg.LSE_SUM.WORD, 12, ((alookup (s.get (Reg.LSE_SUM_SEL.SLICE.of who) % 512) s.lse.ring).map
          LseOut.summary).getD (List.replicate 12 0)),
        (.oscResultLatch who .band, Reg.OSC_BAND.WORD, 8, s.oscWords who .band),
        (.oscResultLatch who .flow, Reg.OSC_FLOW.WORD, 4, s.oscWords who .flow),
        (.oscResultLatch who .subsync, Reg.OSC_SS.WORD, 5, s.oscWords who .subsync)] →
      Goes c s fun t => (∀ k, k < n → t.get ((f.ix k).of who) = (ws[k]?).getD 0 % 2 ^ 32) ∧ Keeps (windowFields f who n) [] s t) ∧
    (∀ item n, (if item = .dev ∨ item = .node then s.isl.topoSlice else s.isl.islSlice) = some n → Goes (.islItemLatch who item) s fun t =>
      t.get ((item.word.ix 0).of who) = n % 2 ^ 32 ∧ t.get ((item.word.ix 1).of who) = n / 2 ^ 32 % 2 ^ 32 ∧
      (∀ k w, (s.islWords who item)[k]? = some w → t.get ((item.word.ix (2 + k)).of who) = w % 2 ^ 32) ∧
      Keeps (windowFields item.word who (2 + (s.islWords who item).length)) [] s t) ∧
    (∀ item, (if item = .dev ∨ item = .node then s.isl.topoSlice else s.isl.islSlice) = none → Goes (.islItemLatch who item) s fun t =>
      (∀ k, k < 2 + (s.islWords who item).length → t.get ((item.word.ix k).of who) = 0) ∧
      Keeps (windowFields item.word who (2 + (s.islWords who item).length)) [] s t) ∧
    (∀ m, m = s.term (s.get (Reg.ALM_TERM_SEL.TERM.of who)) → Goes (.almTermLatch who) s fun t =>
      t.get ((Reg.ALM_TERM.WORD.ix 0).of who) = m.n % 2 ^ 32 ∧ t.get ((Reg.ALM_TERM.WORD.ix 1).of who) = m.n / 2 ^ 32 % 2 ^ 32 ∧
      t.get ((Reg.ALM_TERM.WORD.ix 2).of who) = m.x.toNat ∧
      bitAt (t.get ((Reg.ALM_TERM.WORD.ix 3).of who)) 0 = m.on ∧ bitAt (t.get ((Reg.ALM_TERM.WORD.ix 3).of who)) 1 = m.valid ∧
      Keeps (windowFields Reg.ALM_TERM.WORD who 5) [] s t) ∧
    Goes (.custodyRecordLatch who) s fun t => (∀ k, k < 128 → t.get ((Reg.NRG_REC.WORD.ix k).of who) =
        leAt ((s.nvs.custody.find? fun r => recordSeq r == s.get (Reg.NRG_REC_SEL.SEQ.of who)).getD []) (4 * k) 4) ∧
      Keeps (windowFields Reg.NRG_REC.WORD who 128) [] s t

/-! ### Alarms and commands to the engines -/

/-- The alarm engine's registers (R379, R382 to R384) and OSC_CMD (R345). -/
def Obligations.AlarmCommands : Prop :=
  ∀ (s : State) (who : Requester), Ready s who →
    (∀ v, v < 2 ^ 16 → MayWrite s who → Goes (.almPinMaskWrite who v) s fun t => t.get Reg.ALM_PIN_MASK.MASK = v ∧
      Keeps [Reg.ALM_PIN_MASK.MASK, Reg.ALM_PIN_OUT.OUT, Reg.ALM_STATUS.TEST_ACTIVE] [.pins] s t) ∧
    (∀ j v t, j < 16 → v < 2 ^ 32 → MayWrite s who → Goes (.almFrameMaskWrite who j v t) s fun x =>
      x.get (Reg.ALM_FRAME_MASK.MASK.ix j) = v ∧ (s.blockRuns .alarm = false → Keeps [Reg.ALM_FRAME_MASK.MASK.ix j] [.time] s x)) ∧
    (∀ j v, j < 16 → MayWrite s who → Goes (.almRuleAck who j v) s fun t =>
      (∀ i, i < 32 → bitAt v i = true → 32 * j + i ∈ t.alm.acks) ∧ (∀ k ∈ s.alm.acks, k ∈ t.alm.acks) ∧ Keeps [] [.alm] s t) ∧
    (∀ v, v < 2 ^ 16 → (v = 0 ∨ s.flag Reg.SAU_STATUS.TEST_PERMIT = true → Goes (.almTest who v) s fun t => t.get Reg.ALM_TEST.PIN = v ∧
        Keeps [Reg.ALM_TEST.PIN, Reg.ALM_PIN_OUT.OUT, Reg.ALM_STATUS.TEST_ACTIVE] [.pins] s t) ∧
      (v ≠ 0 → s.flag Reg.SAU_STATUS.TEST_PERMIT = false → Goes (.almTest who v) s fun t =>
        t.get Reg.SAU.TEST_REFUSED = min (s.get Reg.SAU.TEST_REFUSED + 1) (2 ^ 64 - 1) ∧ Keeps [Reg.SAU.TEST_REFUSED] [] s t)) ∧
    Goes (.almKeyLoad who) s (fun t => t.flag (Reg.ALM_PUB.KEYED.ix (s.get Reg.ALM_KEY_SEL.PUB)) = true ∧
      (∀ i, i < 8 → t.get (Reg.ALM_KEY_DATA.KEY.ix i) = 0) ∧ alookup (s.get Reg.ALM_KEY_SEL.PUB) t.alm.keys =
        some (s.get Reg.ALM_KEY_ID.ID, (List.range 8).flatMap fun i => leBytes 4 (s.get (Reg.ALM_KEY_DATA.KEY.ix i))) ∧
      Keeps (Reg.ALM_PUB.KEYED.ix (s.get Reg.ALM_KEY_SEL.PUB) :: (List.range 8).map fun i => Reg.ALM_KEY_DATA.KEY.ix i) [.alm] s t) ∧
    Goes (.almKeyErase who) s (fun t => t.flag (Reg.ALM_PUB.KEYED.ix (s.get Reg.ALM_KEY_SEL.PUB)) = false ∧
      alookup (s.get Reg.ALM_KEY_SEL.PUB) t.alm.keys = none ∧ Keeps [Reg.ALM_PUB.KEYED.ix (s.get Reg.ALM_KEY_SEL.PUB)] [.alm] s t) ∧
    (∀ kind i, kind < 4 → i < 4096 → Goes (.oscCmd who kind i) s fun t => t.osc.cmd = some (kind, i) ∧
      t.flag Reg.OSC_CMD_STATUS.PENDING = true ∧ Keeps [Reg.OSC_CMD_STATUS.PENDING] [.osc] s t) ∧
    ∀ k t u, k < 16 → u = s.moveTo t →
      ((u.pub k).next = none ∨ u.blockRuns .alarm = false → exec (.pubRetransmit k t) s = .next u) ∧
      ∀ x b, (u.pub k).next = some x → u.blockRuns .alarm = true → u.almRoast.pubRec k = some b →
        (u.time.tai < x → exec (.pubRetransmit k t) s = .next u) ∧
        (x ≤ u.time.tai → Goes (.pubRetransmit k t) s fun v =>
          (v.pub k).next = if u.noKey k b then none else some (x + pubInterval b ((u.pub k).j + 1) * msUnit))

/-! ### Captures -/

/-- Triggers (R399 to R401), XTRIG lines (R50, R405 to R407), arming (R405), slots and the end of a record (R402). A level held for 200 ns or more
passes the filter of TRIG_IN and XTRIG; one held for less than 100 ns does nothing. -/
def Obligations.CaptureCommands : Prop :=
  ∀ (s u : State) (who : Requester) (t : Tai) (ns code : Nat), Ready s who → u = s.moveTo t →
    (∀ c k stamp src b, (c = .capHostTrig who t ∧ k = 72 ∧ stamp = u.time.tai) ∨
        (∃ i f, i < 4 ∧ 200 ≤ ns ∧ bitAt (leAt u.roast.capHead 4 1) i = f ∧ c = .trigInEdge i f ⟨ns, t, code⟩ ∧ k = 64 + i ∧
          stamp = u.tdcStamp (1 + i) t code) →
      u.roast.capSource k = some src → u.blockRuns .capture = true → u.roast.capProfile (leAt src 2 1) = some b →
      (u.filling = [] →
        (∀ slot, u.takeSlot = some slot → Goes c s fun v =>
          (alookup slot v.cap.recs).map (fun r => (r.t0, r.nT, r.seq, r.prof)) = some (stamp, sliceOf u.fs stamp, u.backup.capSeq, b)) ∧
        (u.takeSlot = none → Goes c s fun v => Counted Reg.CAP.REFUSED_NOSLOT u v ∧ v.cap.recs = u.cap.recs)) ∧
      ∀ n r, u.filling = [(n, r)] → bitAt (leAt b 2 1) 0 = false → r.profile = leAt b 1 1 → stamp ≤ r.t0 + profPost r.prof →
        Goes c s fun v => alookup n v.cap.recs =
          some (r.merge { source := k, own := false, n := sliceOf u.fs stamp, t := stamp }) ∧ Counted Reg.CAP.MERGED u v) ∧
    (∀ k, k < 4 →
      (∀ f, ns < 100 ∨ (200 ≤ ns ∧ bitAt (leAt u.roast.capHead 4 1) k ≠ f) → exec (.trigInEdge k f ⟨ns, t, code⟩) s = .next u) ∧
      (ns < 100 ∨ (200 ≤ ns ∧ (u.xline k).stuck = true) → exec (.xtrigEdge k ⟨ns, t, code⟩) s = .next u) ∧
      (200 ≤ ns → (u.xline k).stuck = false →
        Goes (.xtrigEdge k ⟨ns, t, code⟩) s (fun v => (v.xline k).since = some u.time.elapsed) ∧
        (u.bit Reg.CAP_ARM.ARMED k = true → u.blockRuns .capture = true → u.roast.autoRearm k = false →
          Goes (.xtrigEdge k ⟨ns, t, code⟩) s fun v => v.bit Reg.CAP_ARM.ARMED k = false ∧ Counted Reg.CAP.XTRIG_SEEN u v)) ∧
      ((u.xline k).drivenAt + 2 * usUnit ≤ u.time.elapsed + 50 * nsUnit → Goes (.xtrigRelease k t) s fun v =>
        (v.xline k).driven = false ∧ bitAt v.pins.xtrigLow k = false ∧ Keeps [] [.time, .cap, .pins] s v) ∧
      (u.time.elapsed + 50 * nsUnit < (u.xline k).drivenAt + 2 * usUnit → exec (.xtrigRelease k t) s = .next u) ∧
      (∀ f, (u.xline k).since = some f → f + 10 * msUnit < u.time.elapsed → (u.xline k).stuck = false → Goes (.xtrigStuck k t) s fun v =>
        (v.xline k).stuck = true ∧ v.bit Reg.CAP_STATUS.STUCK k = true) ∧
      ((u.xline k).stuck = true → Goes (.xtrigUnstuck k t) s fun v => (v.xline k).stuck = false ∧ (v.xline k).since = none ∧
        v.bit Reg.CAP_STATUS.STUCK k = false ∧ Keeps [Reg.CAP_STATUS.STUCK] [.time, .cap] s v) ∧
      ((u.xline k).stuck = false → exec (.xtrigUnstuck k t) s = .next u)) ∧
    (∀ mask, mask < 16 →
      (s.roast.armMaster = 0xFF ∨ s.roast.armMaster = s.casId →
        Goes (.capArm who mask) s (fun v => v.cap.arms = s.cap.arms ++ [(mask, 0)]) ∧
        Goes (.capDisarm who mask) s fun v => v.cap.arms = s.cap.arms ++ [(0, mask)]) ∧
      (s.roast.armMaster ≠ 0xFF → s.roast.armMaster ≠ s.casId → ∀ c, c = .capArm who mask ∨ c = .capDisarm who mask →
        Goes c s (RefusedWith who Reg.HIF_ERR.LOCKED Reg.CAP_ARM.ARM.base s))) ∧
    (∀ k r, k < 64 → k < s.roast.capSlots → alookup k s.cap.recs = some r → 2 ≤ r.state →
      Goes (.capSlotHold who k) s (fun v => alookup k v.cap.recs = some { r with held := true } ∧ v.flag (Reg.CAP_SLOT.HELD.ix k) = true) ∧
      Goes (.capSlotRelease who k) s fun v => alookup k v.cap.recs = none ∧ v.get (Reg.CAP_SLOT.STATE.ix k) = 0) ∧
    ∀ (r : CapReport) x, r.t = t → alookup r.slot u.cap.recs = some x → x.state = 1 →
      (u.capReady x = true → Goes (.captureRecordDone r) s fun v => (alookup r.slot v.cap.recs).map (·.state) = some 2) ∧
      (u.capReady x = false → exec (.captureRecordDone r) s = .next u)


/-! ### Energy -/

/-- Cycles (R412), billing intervals (R424, R427, R435) and demand (R419), pulses (R422), saves (R429, R431) and the residual (R432, R433): each
takes place where it is due, and waits where it is not. -/
def Obligations.EnergyCommands : Prop :=
  ∀ (s u : State) (who : Requester) (t : Tai), Ready s who → u = s.moveTo t →
    (∀ e b, s.blockRuns .energy = true → e < 4 → s.roast.nrgRec e = some b →
      (s.nextCycle e b = none → exec (.meteringCycle e) s = .next s) ∧
      ∀ c, s.nextCycle e b = some c → s.soc c.last < s.nrg.demEnd →
        (s.nrg.deciding = true ∨ s.soc c.last < s.nrg.endSoc → Goes (.meteringCycle e) s fun v =>
          (v.elem e).cyc = c.n + 1 ∧ (v.elem e).epoch = some c.epoch) ∧
        (s.nrg.deciding = false → s.nrg.endSoc ≤ s.soc c.last → s.boundReady s.nrg.endSoc = false →
          exec (.meteringCycle e) s = .next s)) ∧
    (u.blockRuns .energy = true →
      (u.boundReady u.nrg.endSoc = true → u.nrg.deciding = false → Goes (.billingBoundary t) s fun v =>
        v.nvs.custody.length = min 1024 (u.nvs.custody.length + 1) ∧ v.nrg.flags = 0 ∧ v.nrg.recSeq = (u.nrg.recSeq + 1) % 2 ^ 64) ∧
      (u.boundReady u.nrg.endSoc = false ∨ u.nrg.deciding = true → exec (.billingBoundary t) s = .next u) ∧
      (u.boundReady u.nrg.demEnd = true → ∀ w, w = u.drainAll u.nrg.demEnd → Goes (.demandSubintervalEnd t) s fun v =>
        v.nrg.demEnd = nextBound (w.soc w.time.tai) w.roast.demSub ∧ (v.nrg.marks.head?).map (·.2) = some w.nrg.acc ∧
        Keeps ((List.range 16).map fun i => Reg.NRG.DEM.ix2 (i / 4) (i % 4)) [.nrg] w v) ∧
      (u.boundReady u.nrg.demEnd = false → exec (.demandSubintervalEnd t) s = .next u) ∧
      (u.nrg.deciding = true → u.flag Reg.TSU_STATUS.TIME_VALID = true → Goes (.intervalRestartDecision t) s fun v =>
        v.nrg.deciding = false ∧ (u.nrg.startSoc = 0 → v.nrg.startSoc = u.soc u.time.tai ∧ v.nrg.startTai = u.time.tai ∧ v.nrg.flags = 1)) ∧
      (u.nrg.deciding = false ∨ u.flag Reg.TSU_STATUS.TIME_VALID = false → exec (.intervalRestartDecision t) s = .next u)) ∧
    (∀ k p, k < 8 → p = (alookup k u.nrg.pulses).getD {} →
      (u.operating = true → u.blockRuns .energy = true → u.flag (Reg.NRG_PLS.EN.ix k) = true → 0 < u.get (Reg.NRG_PLS.BACKLOG.ix k) →
        0 < u.roast.plsMax k → p.until_ = none →
        (∀ x, p.started = some x → x * u.roast.plsMax k + 100 * secUnit ≤ u.time.elapsed * u.roast.plsMax k) →
        (∀ x, p.ended = some x → x + 500 * usUnit ≤ u.time.elapsed) → Goes (.pulseStart k t) s fun v =>
          v.get (Reg.NRG_PLS.BACKLOG.ix k) = u.get (Reg.NRG_PLS.BACKLOG.ix k) - 1 ∧ bitAt v.pins.plsLow k = true ∧
          Keeps [Reg.NRG_PLS.BACKLOG.ix k] [.time, .nrg, .pins] s v) ∧
      (u.operating = false ∨ u.blockRuns .energy = false ∨ u.flag (Reg.NRG_PLS.EN.ix k) = false ∨
        u.get (Reg.NRG_PLS.BACKLOG.ix k) = 0 → exec (.pulseStart k t) s = .next u) ∧
      ∀ x, p.until_ = some x →
        (x ≤ u.time.elapsed → Goes (.pulseEnd k t) s fun v =>
          bitAt v.pins.plsLow k = false ∧ v.get (Reg.NRG.PLS_EMIT.ix k) = min (u.get (Reg.NRG.PLS_EMIT.ix k) + 1) (2 ^ 64 - 1) ∧
          Keeps [Reg.NRG.PLS_EMIT.ix k] [.time, .nrg, .pins] s v) ∧
        (u.time.elapsed < x → exec (.pulseEnd k t) s = .next u)) ∧
    (s.nrg.saving = none →
      (u.blockRuns .energy = true → u.time.tai = t → t % secUnit = 0 → t / secUnit % max 10 (u.get Reg.NRG_SAVE.SAVE_S) = 0 →
        u.nrg.savedAt ≠ some t → Goes (.totalsSave t) s fun v =>
          v.nrg.saving = some u.nrgSnapshot ∧ v.nrg.seq = u.nrg.seq + 1 ∧ v.flag Reg.NRG_STATUS.SAVING = true ∧
          Keeps [Reg.NRG_STATUS.SAVING] [.time, .nrg] s v) ∧
      (s.blockRuns .energy = true →
        Goes (.nrgSaveNow who) s (fun v => v.nrg.saving = some s.nrgSnapshot ∧ v.nrg.seq = s.nrg.seq + 1 ∧
          v.flag Reg.NRG_STATUS.SAVING = true ∧ Keeps [Reg.NRG_STATUS.SAVING] [.nrg] s v) ∧
        (s.flag Reg.NRG_STATUS.PF_ACTIVE = true → Goes .powerFailCleared s fun v => v.flag Reg.NRG_STATUS.PF_ACTIVE = false ∧
          v.nrg.saving = some s.nrgSnapshot ∧ Keeps [Reg.NRG_STATUS.SAVING, Reg.NRG_STATUS.PF_ACTIVE] [.nrg] s v))) ∧
    (s.nrg.saving.isSome = true → s.blockRuns .energy = true → Goes (.nrgSaveNow who) s fun v =>
      Counted Reg.NRG.SAVE_SKIP s v ∧ Keeps [Reg.NRG.SAVE_SKIP] [] s v) ∧
    (s.flag Reg.NRG_STATUS.PF_ACTIVE = false → exec .powerFailCleared s = .next s ∧ exec .residualPushRepeat s = .next s) ∧
    (∀ d bad, s.nrg.saving = some d → Goes (.totalsSaveComplete bad) s fun v => v.nrg.saving = none ∧
      v.flag Reg.NRG_STATUS.SAVING = false ∧ v.get Reg.NRG_SAVE_SEQ.SEQ = s.nrg.seq % 2 ^ Reg.NRG_SAVE_SEQ.SEQ.width ∧
      v.nvs.totals = ((List.range 3).map fun i => { seq := s.nrg.seq, ok := !bad.contains i, d := d }) ∧
      (bad = [] → if s.nrg.clearStore then v.backup.bank0 = {} ∧ v.backup.bank1 = {} ∧ v.backup.push = {}
        else Keeps [Reg.NRG_STATUS.SAVING, Reg.NRG_SAVE_SEQ.SEQ] [.nvs, .nrg] s v)) ∧
    (s.blockRuns .energy = true → Goes .residualBankWrite s fun v => v.backup.bankLast = !s.backup.bankLast ∧
      (if s.backup.bankLast then v.backup.bank0 else v.backup.bank1) = s.residualNow ∧ Keeps [] [.backup] s v) ∧
    (s.blockRuns .energy = false → exec .residualBankWrite s = .next s) ∧
    (∀ ns, (200 ≤ ns → s.flag Reg.NRG_CTL.BUSY = true → Goes (.powerFailWarning ns) s fun v =>
        v.flag Reg.NRG_STATUS.PF_ACTIVE = true ∧ v.backup.push = s.residualNow ∧ Keeps [Reg.NRG_STATUS.PF_ACTIVE] [.backup] s v) ∧
      (ns < 100 → exec (.powerFailWarning ns) s = .next s)) ∧
    (s.flag Reg.NRG_STATUS.PF_ACTIVE = true → s.flag Reg.NRG_CTL.BUSY = true → Goes .residualPushRepeat s fun v =>
      v.backup.push = s.residualNow ∧ Keeps [] [.backup] s v)

/-! ### Pace and the Carafe -/

/-- Replica loops (R523), the AVS loop's answers (R528), sweep units (R532, R533), core and Carafe errors (R534 to R536), and the junction
temperature (R83). -/
def Obligations.PaceAndCarafe : Prop :=
  ∀ (s u : State) (who : Requester) (t : Tai), Ready s who → u = s.moveTo t →
    (∀ loops, Goes (.replicaWindow t loops) s fun v => v.pace.windows.head?.map (fun w => (w.t, w.rate)) =
        some (t, lowest (((List.range 8).map (regionRate loops)).filterMap id)) ∧
      ∀ k, k < 8 → v.flag (Reg.PACE_RATE.VALID.ix k) = (regionRate loops k).isSome ∧
        ∀ r, regionRate loops k = some r → v.get (Reg.PACE_RATE.MHS.ix k) = r / 1000000) ∧
    (∀ mv a, s.pace.avsReq = some (mv, a) → mv < 2 ^ 10 →
      Goes .avsRequestDone s (fun v => v.pace.avsReq = none ∧ v.get Reg.PACE_STATUS.VCORE_MV = mv ∧
        v.flag Reg.PACE_STATUS.AVS_BUSY = false ∧ Keeps [Reg.PACE_STATUS.VCORE_MV, Reg.PACE_STATUS.AVS_BUSY] [.pace] s v) ∧
      (a + msUnit ≤ u.time.elapsed → Goes (.avsTimeout t) s fun v => v.pace.avsReq = none ∧ v.pace.avsFailReq = some mv ∧
        v.flag Reg.PACE_STATUS.AVS_FAIL = true ∧ v.flag Reg.PACE_STATUS.AVS_BUSY = false)) ∧
    (∀ mv, s.pace.avsFailReq = some mv → Goes (.avsRetry who) s fun v => v.flag Reg.PACE_STATUS.AVS_FAIL = false ∧
      v.pace.avsReq = some (mv, s.time.elapsed) ∧ v.out = .avs mv :: s.out ∧
      Keeps [Reg.PACE_STATUS.AVS_FAIL, Reg.PACE_STATUS.AVS_BUSY] [.out, .pace] s v) ∧
    (∀ x, x < 18 →
      (s.unitState x = 1 → Goes (.sweepRetire who x) s fun v => v.unitState x = 3 ∧ Keeps [Reg.PACE_SWEEP_STATE.STATE] [] s v) ∧
      (s.unitState x = 0 → x ∉ s.pace.retire →
        (s.spareUnit.isSome = true → Goes (.sweepRetire who x) s fun v => x ∈ v.pace.retire ∧ Keeps [] [.pace] s v) ∧
        (s.spareUnit = none → Goes (.sweepRetire who x) s fun v => v.flag Reg.PACE_STATUS.NO_SPARE = true ∧
          Keeps [Reg.PACE_STATUS.NO_SPARE] [] s v)) ∧
      (s.unitState x ∉ [0, 1] → exec (.sweepRetire who x) s = .next s) ∧
      (s.unitState x = 3 → alookup x s.pace.passes = none → Goes (.sweepRestore who x) s fun v => alookup x v.pace.passes = some 0 ∧
        Keeps [] [.pace] s v) ∧
      (s.unitState x ≠ 3 → exec (.sweepRestore who x) s = .next s)) ∧
    (∀ p, (alookup p s.pace.cacheErrs = none → Goes (.coreCacheError p false) s fun v =>
        alookup p v.pace.cacheErrs = some [s.time.elapsed] ∧ Keeps [] [.pace] s v) ∧
      ∀ e, (e = true ∨ ∃ a b, alookup p s.pace.cacheErrs = some [a, b] ∧ s.time.elapsed < a + 3600 * secUnit ∧
          s.time.elapsed < b + 3600 * secUnit) →
        ((∀ q, q < 9 → s.coreState q ≠ 1) → Goes (.coreCacheError p e) s fun v => v.flag Reg.PACE_IRQ.CORE_FAULT = true) ∧
        (∀ q, q < 9 → s.coreState q = 1 → (∀ r, r < q → s.coreState r ≠ 1) →
          (s.flag Reg.PACE_CTL.AUTO_CORE = true → p < 9 → s.coreState p = 0 → s.sch.migration = none →
            Goes (.coreCacheError p e) s fun v => v.sch.migration.map (fun m => (m.fromCore, m.toCore, m.retain)) = some (p, q, false) ∧
              v.coreState p = 2) ∧
          (s.flag Reg.PACE_CTL.AUTO_CORE = false → Goes (.coreCacheError p e) s fun v =>
            alookup p v.pace.cacheErrs = some [] ∧ Keeps [] [.pace] s v))) ∧
    (∀ row place,
      (alookup row s.pace.rowErrs = none → Goes (.carafeEccError place row false) s fun v => Counted Reg.CRF.CE s v ∧
        alookup row v.pace.rowErrs = some [s.time.elapsed] ∧ Keeps [Reg.CRF.CE] [.pace] s v) ∧
      (row ∉ s.nvs.remap → s.nvs.remap.length + s.pace.remapping.length < 4096 → ∀ l, alookup row s.pace.rowErrs = some l →
        7 ≤ (l.filter fun x => decide (s.time.elapsed < x + 86400 * secUnit)).length → Goes (.carafeEccError place row false) s fun v =>
          Counted Reg.CRF.CE s v ∧ row ∈ v.pace.remapping) ∧
      Goes (.carafeEccError place row true) s (fun v => Counted Reg.CRF.UE s v ∧ v.flag Reg.CRF_IRQ.UE = true ∧
        (place = .heap → Output.busError ∈ v.out) ∧
        (row ∉ s.nvs.remap → s.nvs.remap.length + s.pace.remapping.length < 4096 → row ∈ v.pace.remapping)) ∧
      (row ∈ s.pace.remapping → Goes (.rowRemapCopyDone row) s fun v => row ∈ v.nvs.remap ∧ row ∉ v.pace.remapping ∧
        Counted Reg.CRF.REMAPS s v)) ∧
    ∀ temp, Goes (.junctionTemperatureChange temp) s fun v => v.env.junction = temp ∧
      v.bit Reg.BOOT_HEALTH.COND 7 = decide (temp ≤ 110000)

/-! ### Barista -/

/-- Threads get work, yield, wait and are woken (R442 to R447), core by core; a core held in reset does nothing (R66, R79), and the host and the
security core have no thread to act on (R440). -/
def Obligations.ThreadsRunAndWait : Prop :=
  ∀ (s u : State) (p : Nat) (t : Tai), s.filesOk = true → p < 9 → u = s.moveTo t →
    (s.coreUp p = false → ∀ o c, c ∈ [Instr.getwork p, .schYield (.core p), .schExit (.core p), .schWait (.core p) o,
      .schSignal (.core p) o, .flowPost (.core p) o, .flowTake (.core p) o] → exec c s = .next s) ∧
    (∀ who o, who = .pf0 ∨ who = .sec → ∀ c, c ∈ [Instr.schYield who, .schExit who, .schPark who, .schWait who o,
      .flowPost who o, .flowTake who o] → exec c s = .next s) ∧
    (s.silent (.core p) = false → ∀ x, (s.core p).running = some x → x < 256 →
      Goes (.getwork p) s (fun v => v.get (Reg.SCH_GETWORK.THREAD.of (.core p)) = x ∧ v.get (Reg.SCH_GETWORK.VALID.of (.core p)) = 1 ∧
        v.get (Reg.SCH_GETWORK.REASON.of (.core p)) = 4 ∧ v.sch = s.sch) ∧
      ((s.tcb x).suspend = false → Goes (.schYield (.core p)) s (fun v => v.runnable x) ∧
        Goes (.schExit (.core p)) s fun v => (v.tcb x).state = 0 ∧ (v.core p).running = none ∧
          v.get (Reg.SCH_SELF.THREAD.of (.core p)) = 0) ∧
      ((s.tcb x).suspend = true → ∀ c, c = .schYield (.core p) ∨ c = .schExit (.core p) → Goes c s fun v => (v.tcb x).state = 4 ∧
        (v.core p).running = none) ∧
      ∀ o, (0 < (s.obj o).count → Goes (.schWait (.core p) o) s fun v => (v.obj o).count = (s.obj o).count - 1 ∧
          v.get (Reg.SCH_SELF.LAST.of (.core p)) = 1 ∧ Keeps [Reg.SCH_SELF.LAST.of (.core p)] [.sch] s v) ∧
        ((s.obj o).count = 0 → s.get (Reg.SCH_WAIT_TIMEOUT.US.of (.core p)) = 0 → Goes (.schWait (.core p) o) s fun v =>
          v.get (Reg.SCH_SELF.LAST.of (.core p)) = 2 ∧ Keeps [Reg.SCH_SELF.LAST.of (.core p)] [] s v) ∧
        ((s.obj o).count = 0 → s.get (Reg.SCH_WAIT_TIMEOUT.US.of (.core p)) ≠ 0 → (s.tcb x).suspend = false →
          Goes (.schWait (.core p) o) s fun v => (v.tcb x).state = 3 ∧ (o, x) ∈ v.sch.waiting ∧ (v.core p).running = none) ∧
        ((s.obj o).count = 0 → s.get (Reg.SCH_WAIT_TIMEOUT.US.of (.core p)) ≠ 0 → (s.tcb x).suspend = true →
          Goes (.schWait (.core p) o) s fun v => (v.tcb x).state = 4 ∧ (v.core p).running = none)) ∧
    (s.silent (.core p) = false → (s.core p).running = none →
      (∀ o c, c ∈ [Instr.schYield (.core p), .schExit (.core p), .schWait (.core p) o] → exec c s = .next s) ∧
      (s.coreState p = 2 → Goes (.getwork p) s fun v => v.get (Reg.SCH_GETWORK.VALID.of (.core p)) = 0 ∧
        v.get (Reg.SCH_GETWORK.REASON.of (.core p)) = 5 ∧ v.sch = s.sch) ∧
      (s.coreState p ≠ 2 →
        (∀ k x, s.logical p = some k → s.pickWork k = some x → Goes (.getwork p) s fun v => (v.core p).running = some x ∧
          (v.tcb x).state = 2 ∧ v.get (Reg.SCH_GETWORK.VALID.of (.core p)) = 1) ∧
        ((∀ k, s.logical p = some k → s.pickWork k = none) → Goes (.getwork p) s fun v =>
          (v.core p).stalled = some s.time.elapsed ∧ Keeps [] [.sch] s v))) ∧
    ((u.core p).stalled = none → exec (.getworkIdleTimeout p t) s = .next u) ∧
    ((u.core p).preempt = none → exec (.preemptLate p t) s = .next u) ∧
    (∀ a, (u.core p).stalled = some a → u.get Reg.SCH_CFG.IDLE_US ≠ 0 → u.get Reg.SCH_CFG.IDLE_US * usUnit ≤ u.time.elapsed - a →
      Goes (.getworkIdleTimeout p t) s fun v => (v.core p).stalled = none ∧ v.get (Reg.SCH_GETWORK.VALID.of (.core p)) = 0 ∧
        v.get (Reg.SCH_GETWORK.REASON.of (.core p)) = 0) ∧
    (∀ a x, (u.core p).preempt = some (a, x, false) → 50 * usUnit < u.time.elapsed - a → Goes (.preemptLate p t) s fun v =>
      Counted Reg.SCH.PREEMPT_LATE u v ∧ (v.core p).preempt = some (a, x, true) ∧ Keeps [Reg.SCH.PREEMPT_LATE] [.time, .sch] s v) ∧
    (∀ x a, (u.tcb x).state = 3 → (u.tcb x).until_ = some a → a ≤ u.time.elapsed → Goes (.waitTimeout x t) s fun v => v.runnable x) ∧
    (∀ x, (u.tcb x).state ≠ 3 → exec (.waitTimeout x t) s = .next u) ∧
    (s.silent (.core p) = false → ∀ o, (∀ x, s.wakes o = some x → Goes (.schSignal (.core p) o) s fun v => v.runnable x ∧ ∀ e ∈ v.sch.waiting, e.2 ≠ x) ∧
      (s.wakes o = none →
        ((s.obj o).count < (if (s.obj o).sem then 65535 else 1) → Goes (.schSignal (.core p) o) s fun v =>
          (v.obj o).count = (s.obj o).count + 1 ∧ Keeps [] [.sch] s v) ∧
        ((if (s.obj o).sem then 65535 else 1) ≤ (s.obj o).count → Goes (.schSignal (.core p) o) s fun v =>
          Counted Reg.SCH.SIG_ABSORBED s v ∧ Keeps [Reg.SCH.SIG_ABSORBED] [] s v)))

/-- Thread commands (R441, R442, R444), which the host may not give, ordered flows (R449, R450) and migration (R451, R452). -/
def Obligations.ThreadCommandsAndFlows : Prop :=
  ∀ (s u : State) (who : Requester) (t : Tai) (x : Nat), MayWrite s who → u = s.moveTo t →
    (who = .pf0 → ∀ c, c ∈ [Instr.tcbCreate who, .tcbResume who, .setPrio who, .tcbSuspend who, .tcbFree who] → exec c s = .next s) ∧
    (who ≠ .pf0 → x = s.get (Reg.SCH_TCB_SEL.THREAD.of who) →
      (∀ c, (c = .tcbCreate who ∧ ((s.tcb x).state ≠ 0 ∨ bitsOf (s.get (Reg.SCH_TCB.WORD.ix 2)) 8 8 = 0)) ∨
          (c = .tcbResume who ∧ (s.tcb x).state ≠ 4) ∨ (c = .setPrio who ∧ (s.tcb x).state = 0) ∨
          (c = .tcbSuspend who ∧ (s.tcb x).state ∉ [1, 2, 3]) ∨ (c = .tcbFree who ∧ (s.tcb x).state ∉ [4, 5]) →
        Goes c s fun v => v.get Reg.SCH_TCB_CMD.RESULT = 2 ∧ Keeps [Reg.SCH_TCB_CMD.RESULT] [] s v) ∧
      ((s.tcb x).state = 0 → bitsOf (s.get (Reg.SCH_TCB.WORD.ix 2)) 8 8 ≠ 0 → Goes (.tcbCreate who) s fun v =>
        v.get Reg.SCH_TCB_CMD.RESULT = 1 ∧ v.runnable x ∧ (v.tcb x).prio = bitsOf (s.get (Reg.SCH_TCB.WORD.ix 2)) 0 5) ∧
      ((s.tcb x).state = 4 → Goes (.tcbResume who) s fun v => v.get Reg.SCH_TCB_CMD.RESULT = 1 ∧ v.runnable x) ∧
      ((s.tcb x).state ≠ 0 → Goes (.setPrio who) s fun v => v.get Reg.SCH_TCB_CMD.RESULT = 1 ∧
        (v.tcb x).prio = bitsOf (s.get (Reg.SCH_TCB.WORD.ix 2)) 0 5) ∧
      ((s.tcb x).state ∈ [1, 2, 3] → Goes (.tcbSuspend who) s fun v => v.get Reg.SCH_TCB_CMD.RESULT = 1 ∧ (v.tcb x).suspend = true ∧
        Keeps [Reg.SCH_TCB_CMD.RESULT] [.sch] s v) ∧
      ((s.tcb x).state ∈ [4, 5] → Goes (.tcbFree who) s fun v => v.get Reg.SCH_TCB_CMD.RESULT = 1 ∧ (v.tcb x).state = 0 ∧
        Keeps [Reg.SCH_TCB_CMD.RESULT] [.sch] s v)) ∧
    (∀ kind, (∀ e ∈ s.sch.waiting, e.1 ≠ s.get (Reg.SCH_OBJ_SEL.OBJ.of who)) → Goes (.schObjCfgWrite who kind) s fun v =>
      v.obj (s.get (Reg.SCH_OBJ_SEL.OBJ.of who)) = { sem := kind, count := 0 } ∧ Keeps [] [.sch] s v) ∧
    ((∃ e ∈ s.sch.waiting, e.1 = s.get (Reg.SCH_OBJ_SEL.OBJ.of who)) → ∀ kind, exec (.schObjCfgWrite who kind) s = .next s) ∧
    (∀ f p, f < 64 → (s.roast.flowStream f).isSome = true → s.silent (.core p) = false → Goes (.flowPost (.core p) f) s fun v =>
      v.get ((Reg.SCH_FLOW_POST.OK.ix f).of (.core p)) = 0 ∧
      Keeps [(Reg.SCH_FLOW_POST.SEQ.ix f).of (.core p), (Reg.SCH_FLOW_POST.OK.ix f).of (.core p)] [] s v) ∧
    (∀ f, f < 64 → s.roast.flowStream f = none →
      (∀ p, s.silent (.core p) = false → (s.flow f).items.length < 256 → (s.flow f).next < 65536 → Goes (.flowPost (.core p) f) s fun v =>
        v.get ((Reg.SCH_FLOW_POST.SEQ.ix f).of (.core p)) = (s.flow f).next ∧ v.get ((Reg.SCH_FLOW_POST.OK.ix f).of (.core p)) = 1 ∧
        (v.flow f).next = ((s.flow f).next + 1) % 65536 ∧ (v.flow f).items.length = (s.flow f).items.length + 1 ∧
        Keeps [(Reg.SCH_FLOW_POST.SEQ.ix f).of (.core p), (Reg.SCH_FLOW_POST.OK.ix f).of (.core p)] [.sch] s v) ∧
      (∀ p, s.silent (.core p) = false → 256 ≤ (s.flow f).items.length → Goes (.flowPost (.core p) f) s fun v => v.get ((Reg.SCH_FLOW_POST.OK.ix f).of (.core p)) = 0 ∧
        Counted Reg.SCH.POST_FULL s v ∧ v.sch = s.sch) ∧
      (∀ q, (∀ i ∈ (s.flow f).items, i.seq ≠ q) → Goes (.flowDone who f q) s fun v => Counted Reg.SCH.LATE_DONE s v ∧
        Keeps [Reg.SCH.LATE_DONE] [] s v) ∧
      (∀ i, (s.flow f).items = [i] → Goes (.flowDone who f i.seq) s (fun v => (v.flow f).items = [] ∧
          (v.flow f).released = (s.flow f).released ++ [(i.seq, 1)]) ∧
        (u.get (Reg.SCH_FLOW_CFG.STALL_US.ix f) ≠ 0 → u.get (Reg.SCH_FLOW_CFG.STALL_US.ix f) * usUnit < u.time.elapsed - i.posted →
          Goes (.flowStallExpiry f t) s fun v => (v.flow f).items = [] ∧ (v.flow f).released = (s.flow f).released ++ [(i.seq, 2)] ∧
            Counted Reg.SCH.ABANDONED s v)) ∧
      ∀ p q st rest, s.silent (.core p) = false → (s.flow f).released = (q, st) :: rest → Goes (.flowTake (.core p) f) s fun v => (v.flow f).released = rest ∧
        v.get ((Reg.SCH_FLOW_TAKE.SEQ.ix f).of (.core p)) = q % 65536 ∧ v.get ((Reg.SCH_FLOW_TAKE.STATUS.ix f).of (.core p)) = st % 4 ∧
        Keeps [(Reg.SCH_FLOW_TAKE.SEQ.ix f).of (.core p), (Reg.SCH_FLOW_TAKE.STATUS.ix f).of (.core p)] [.sch] s v) ∧
    (∀ a b retain, Ready s who →
      (a < 9 → b < 9 → s.coreState a = 0 → s.coreState b = 1 → s.sch.migration = none → Goes (.schMigrate who a b retain) s fun v =>
        v.sch.migration = some { fromCore := a, toCore := b, retain := retain, at_ := s.time.elapsed } ∧ v.coreState a = 2 ∧
        v.get Reg.SCH_CORE_STATUS.RESULT = 0) ∧
      (s.coreState a ≠ 0 ∨ s.coreState b ≠ 1 ∨ s.sch.migration.isSome = true → Goes (.schMigrate who a b retain) s fun v =>
        v.get Reg.SCH_CORE_STATUS.RESULT = 2 ∧ Keeps [Reg.SCH_CORE_STATUS.RESULT] [] s v)) ∧
    ∀ m k, s.sch.migration = some m → s.logical m.fromCore = some k → k < 8 → m.fromCore < 9 → m.toCore < 9 → m.fromCore ≠ m.toCore →
      (s.silent (.core m.fromCore) = false → (s.core m.fromCore).running = none → Goes (.schPark (.core m.fromCore)) s fun v => v.sch.migration = none ∧ v.physical k = m.toCore ∧
        v.coreState m.toCore = 0 ∧ v.coreState m.fromCore = (if m.retain then 1 else 3) ∧ v.get Reg.SCH_CORE_STATUS.RESULT = 1) ∧
      Goes .migrationForce s fun v => v.sch.migration = none ∧ v.physical k = m.toCore ∧ v.coreState m.toCore = 0 ∧
        v.coreState m.fromCore = 3 ∧ v.get Reg.SCH_CORE_STATUS.RESULT = 3 ∧ Counted Reg.SCH.FORCED s v ∧
        ∀ y, (s.core m.fromCore).running = some y → s.sch.waiting = [] → (v.tcb y).state = 5


/-! ### Keys, fuses, tampers -/

/-- The key store's commands (R463 to R467): a write while one runs is counted and ignored; one that its requester may not issue ends
DENIED; any other runs until KEY_COMMAND_DONE, which answers by the command's own rule. New shares leave every slot's value (R465). -/
def Obligations.KeyCommands : Prop :=
  ∀ (s : State) (who : Requester) (a b g : Nat), MayWrite s who →
    (∀ c op slot parent gen, (c, op, slot, parent, gen) ∈ [(Instr.keyDerive who a b g, 1, a % 256, b % 256, g % 32),
        (.keySign who a, 2, a % 256, 0, 0), (.keyVerify who, 3, 0, 0, 0), (.pubkey who a, 4, a % 256, 0, 0), (.keyAttest who, 5, 0, 0, 0),
        (.erase who a, 6, a % 256, 0, 0), (.invalidate who a g, 7, a % 256, 0, g % 32), (.provision who a, 8, a % 256, 0, 0),
        (.debugReq who, 9, 0, 0, 0), (.tamperCfg who, 10, 0, 0, 0)] →
      (s.flag Reg.KEY_STATUS.BUSY = true → Goes c s fun v => Counted Reg.SEC.KEY_REFUSED s v ∧ Keeps [Reg.SEC.KEY_REFUSED] [] s v) ∧
      (s.flag Reg.KEY_STATUS.BUSY = false → s.keyMayIssue who op slot = true → Goes c s fun v => v.flag Reg.KEY_STATUS.BUSY = true ∧
        v.get Reg.KEY_STATUS.RESULT = 2 ∧ v.keys.job.map (fun j => (j.op, j.slot, j.parent, j.gen, j.who)) =
          some (op, slot, parent, gen, who) ∧
        Keeps [Reg.KEY_STATUS.BUSY, Reg.KEY_STATUS.RESULT, Reg.KEY_STATUS.REQUESTER] [.keys] s v) ∧
      (s.flag Reg.KEY_STATUS.BUSY = false → s.keyMayIssue who op slot = false → Goes c s fun v => v.get Reg.KEY_STATUS.RESULT = 3 ∧
        v.flag Reg.KEY_STATUS.BUSY = false ∧ v.flag Reg.SEC_IRQ.KEY_DONE = true ∧ v.keys.slots = s.keys.slots)) ∧
    (∀ rb, s.keys.job = none → exec (.keyCommandDone rb) s = .next s) ∧
    (∀ j rb, s.keys.job = some j →
      Goes (.keyCommandDone rb) s (fun v => v.keys.job = none ∧ v.flag Reg.KEY_STATUS.BUSY = false) ∧
      (∀ k, j.op = 1 → j.parent = 11 ∨ 16 ≤ j.parent → s.keySlot j.parent = some k → k.derive = true → k.depth < 8 → 16 ≤ j.slot →
        s.keySlot j.slot = none → 1 ≤ j.labelLen → j.labelLen ≤ 32 → Goes (.keyCommandDone rb) s fun v =>
          v.get Reg.KEY_STATUS.RESULT = 1 ∧
          (v.keySlot j.slot).map (fun x => (x.value, x.sign, x.derive, x.parent, x.gen, x.depth)) =
            some (Config.hkdf (ascii "MZ7416 child") k.value (j.label.take j.labelLen ++ leBytes 4 (s.gGen j.gen)) 32,
              j.uSign, j.uDerive, j.parent, j.gen, k.depth + 1)) ∧
      (∀ k, j.op = 2 → 16 ≤ j.slot → s.keySlot j.slot = some k → k.sign = true → j.msgLen ≤ 1024 → Goes (.keyCommandDone rb) s fun v =>
        v.get Reg.KEY_STATUS.RESULT = 1 ∧ ∀ i, i < 16 → v.get ((Reg.KEY_OUT.OUT.ix i).of j.who) =
          leAt (Config.ed25519Sign k.value (j.msg.take j.msgLen)) (4 * i) 4) ∧
      (j.op = 3 → 64 ≤ j.msgLen → j.msgLen ≤ 1024 → Goes (.keyCommandDone rb) s fun v => v.get Reg.KEY_STATUS.RESULT =
        if Config.ed25519Verify j.label ((j.msg.take j.msgLen).drop 64) (j.msg.take 64) then 1 else 6) ∧
      (∀ k, j.op = 4 → 16 ≤ j.slot → s.flag Reg.SEC_STATUS.QUARANTINE = false → s.keySlot j.slot = some k → k.sign = true →
        Goes (.keyCommandDone rb) s fun v => v.get Reg.KEY_STATUS.RESULT = 1 ∧ ∀ i, i < 8 →
          v.get ((Reg.KEY_OUT.OUT.ix i).of j.who) = leAt (Config.ed25519Public k.value) (4 * i) 4) ∧
      (j.op = 6 → Goes (.keyCommandDone rb) s fun v =>
        v.get Reg.KEY_STATUS.RESULT = (if j.slot < 16 then 4 else 1) ∧ (16 ≤ j.slot → v.keySlot j.slot = none)) ∧
      (∀ r, s.nvs.journal = some r →
        (rb = false → (j.op = 7 ∧ j.slot ∈ [8, 11, 0xFF]) ∨ (j.op = 8 ∧ j.slot ≤ 4) ∨ j.op = 10 → Goes (.keyCommandDone rb) s fun v =>
          v.get Reg.KEY_STATUS.RESULT = 8 ∧ v.nvs.journal = some r) ∧
        (rb = true →
          (j.op = 7 → j.slot = 8 → Goes (.keyCommandDone rb) s fun v => v.get Reg.KEY_STATUS.RESULT = 1 ∧
            v.nvs.journal.map (·.gId) = some (r.gId + 1)) ∧
          (j.op = 7 → j.slot = 11 → Goes (.keyCommandDone rb) s fun v => v.get Reg.KEY_STATUS.RESULT = 1 ∧
            v.nvs.journal.map (·.gSeal) = some (r.gSeal + 1) ∧ ∀ i, 16 ≤ i → v.keySlot i = none) ∧
          (j.op = 7 → j.slot = 0xFF → Goes (.keyCommandDone rb) s fun v => v.get Reg.KEY_STATUS.RESULT = 1 ∧
            ∀ i k, 16 ≤ i → v.keySlot i = some k → k.gen ≠ j.gen) ∧
          (j.op = 8 → j.slot ≤ 4 → Goes (.keyCommandDone rb) s fun v => v.get Reg.KEY_STATUS.RESULT = 1 ∧
            (v.keySlot j.slot).map (·.value) = (if (j.msg.take 32).all (· == 0) then none else some (j.msg.take 32)) ∧
            v.flag Reg.HIF_OWNER.AUTH_REQ = (v.keySlot 4).isSome) ∧
          (j.op = 10 → Goes (.keyCommandDone rb) s fun v => v.get Reg.KEY_STATUS.RESULT = 1 ∧
            v.nvs.journal.map (·.tamperCfg) = some (leVal (j.msg.take 4) % 2 ^ 10) ∧
            v.get Reg.SEC_TAMPER_CFG.EN = leVal (j.msg.take 4) % 16)))) ∧
    Goes .keyShareRefresh s fun v => (∀ i, (alookup i v.keys.slots).map (fun k => { k with mask := 0 }) =
      (alookup i s.keys.slots).map fun k => { k with mask := 0 }) ∧ Keeps [] [.free, .keys] s v

/-- Fuse codes in the lifecycles that permit them (R458), the floors (R462), the tamper latch and the response to a tamper
(R471 to R474). -/
def Obligations.FusesAndTamper : Prop :=
  ∀ (s : State) (who : Requester), Ready s who →
    (∀ c lcs f, (c, lcs, f) ∈ [(Instr.fuseBlowGm who, [2, 3], { s.fuses with gm := true }),
        (.fuseBlowTamperKill who, [2, 3], { s.fuses with tamperKill := true }),
        (.fuseBlowDebugAllowed who, [1, 2], { s.fuses with debugAllowed := true }), (.fuseBlowLcDev who, [1], { s.fuses with lcDev := true }),
        (.fuseBlowLcProd who, [2], { s.fuses with lcProd := true }), (.fuseBlowLcRma who, [2, 3], { s.fuses with lcRma := true })] →
      (s.get Reg.SEC_STATUS.LIFECYCLE ∈ lcs → Goes c s fun v => v.fuses = f ∧ v.get Reg.SEC_STATUS.LIFECYCLE = s.get Reg.SEC_STATUS.LIFECYCLE) ∧
      (s.get Reg.SEC_STATUS.LIFECYCLE ∉ lcs → Goes c s fun v => Counted Reg.SEC.KEY_REFUSED s v ∧ Keeps [Reg.SEC.KEY_REFUSED] [] s v)) ∧
    (s.get Reg.SEC_STATUS.LIFECYCLE ∈ [2, 3] → Goes (.burnFloor who) s fun v =>
      v.fuses = { s.fuses with fwSvn := max s.fuses.fwSvn (min s.fw.stage1Svn 64) } ∧ Keeps [] [.fuses] s v) ∧
    (s.get Reg.SEC_STATUS.LIFECYCLE ∉ [2, 3] → exec (.burnFloor who) s = .next s) ∧
    (s.nvs.journal = none → ∀ rb, exec (.secRaiseFloor who rb) s = .next s) ∧
    (∀ r, s.nvs.journal = some r →
      (r.fwFloor < s.fw.stage1Svn →
        Goes (.secRaiseFloor who true) s (fun v => v.nvs.journal.map (·.fwFloor) = some s.fw.stage1Svn ∧
          Counted Reg.SEC.JOURNAL_WRITES s v ∧ Keeps [Reg.SEC.JOURNAL_WRITES, Reg.SEC_FW_FLOOR.SVN] [.nvs] s v) ∧
        Goes (.secRaiseFloor who false) s fun v => v.nvs.journal = some r ∧ v.flag Reg.SEC_IRQ.JOURNAL = true) ∧
      (s.fw.stage1Svn ≤ r.fwFloor → ∀ rb, exec (.secRaiseFloor who rb) s = .next s)) ∧
    (∀ active,
      (s.fuses.killed = false → active = false → Goes (.secTamperClr who 0x7A4D0001 active) s fun v =>
        v.flag Reg.SEC_TAMPER_LATCH.VALID = false ∧ v.bit Reg.BOOT_HEALTH.COND 8 = true) ∧
      (∀ key, key ≠ 0x7A4D0001 ∨ active = true ∨ s.fuses.killed = true → exec (.secTamperClr who key active) s = .next s)) ∧
    ∀ k, (s.tamperOn k = false → exec (.tamperDetect k) s = .next s) ∧
      (s.tamperOn k = true →
        (s.flag Reg.SEC_TAMPER_LATCH.VALID = false → Goes (.tamperDetect k) s fun v => v.flag Reg.SEC_TAMPER_LATCH.VALID = true ∧
          v.get Reg.SEC_TAMPER_LATCH.SOURCE = 2 ^ k) ∧
        (s.flag Reg.SEC_TAMPER_LATCH.VALID = true → Goes (.tamperDetect k) s (Counted Reg.SEC.TAMPER_EVENTS s)) ∧
        (s.get Reg.BOOT_STATUS.STATE ≠ 3 → Goes (.tamperDetect k) s fun v =>
          v.get Reg.BOOT_STATUS.STATE = 3 ∧ v.flag Reg.SEC_STATUS.QUARANTINE = true ∧ v.runs = [] ∧ v.sch.cores = [] ∧
          v.boot.released = false ∧ ∀ e ∈ v.keys.slots, e.1 < 6) ∧
        (∀ j, s.keys.job = some j → j.op ∈ [1, 2, 5] → Goes (.tamperDetect k) s fun v =>
          v.get Reg.KEY_STATUS.RESULT = 7 ∧ v.keys.job = none))

/-! ### The calendar and the backup domain -/

/-- The calendar clock, its compensation, supply and charger (R476 to R492). A command that names crystal ticks acts after they are
counted: `w` is the state they lead to. -/
def Obligations.CalendarCommands : Prop :=
  ∀ (s w : State) (who : Requester) (ticks now : Nat), Ready s who → now = s.backup.sec * tickHz + s.backup.sub → w = s.calTicks ticks →
    (s.counting = false → w = s) ∧
    (s.counting = true → s.flag Reg.BKP_TCOMP_CTL.EN = false →
      (s.flag Reg.RTC_CTL.HOLD = true → w.backup.sec = s.backup.sec ∧ w.backup.sub = s.backup.sub ∧
        w.get Reg.RTC_HOLD_ELAPSED.TICKS = min (s.get Reg.RTC_HOLD_ELAPSED.TICKS + ticks) (2 ^ Reg.RTC_HOLD_ELAPSED.TICKS.width - 1)) ∧
      (s.flag Reg.RTC_CTL.HOLD = false → s.flag Reg.RTC_CTL.AUTO_SYNC = false → s.backup.leapSecond = false →
        (now + ticks < calendarEnd * tickHz → w.backup.sec * tickHz + w.backup.sub = now + ticks ∧ w.backup.sub < tickHz) ∧
        (s.flag Reg.RTC_CTL.ALARM_EN = true → s.alarmDate.ok = true → now < s.alarmDate.secs * tickHz →
          s.alarmDate.secs * tickHz ≤ now + ticks → Goes (.rtcAlarm ticks) s
          fun v => v.flag Reg.RTC_STATUS.ALARM = true ∧ v.flag Reg.RTC_IRQ.ALARM = true ∧
            (s.flag Reg.RTC_CTL.WAKE_EN = true → v.pins.pwrOn = true)) ∧
        (calendarEnd * tickHz ≤ now + ticks → Goes (.calendarRangeEnd ticks) s fun v => v.backup.running = false ∧
          v.backup.sec = calendarEnd - 1 ∧ v.flag Reg.RTC_STATUS.RANGE_END = true ∧ v.flag Reg.RTC_STATUS.OSF = true))) ∧
    exec (.rtcAlarm ticks) s = .next w ∧ exec (.calendarRangeEnd ticks) s = .next w ∧
    Goes (.rtcSecLatch who ticks) s (fun v => v.get (Reg.RTC_SEC.SEC.of who) = (dateOf w.backup.sec).sec ∧
      v.get (Reg.RTC_SEC.SUBSEC.of who) = w.backup.sub % 2 ^ 15 ∧ v.get (Reg.RTC_TIME.MIN.of who) = (dateOf w.backup.sec).min ∧
      v.get (Reg.RTC_TIME.HOUR.of who) = (dateOf w.backup.sec).hour ∧
      v.get (Reg.RTC_DATE.WEEKDAY.of who) = weekday w.backup.sec ∧ v.get (Reg.RTC_DATE.YEAR.of who) = (dateOf w.backup.sec).year % 2 ^ 9 ∧
      Keeps ([Reg.RTC_SEC.SUBSEC, Reg.RTC_SEC.SEC, Reg.RTC_TIME.MIN, Reg.RTC_TIME.HOUR, Reg.RTC_DATE.DAY, Reg.RTC_DATE.MONTH,
        Reg.RTC_DATE.WEEKDAY, Reg.RTC_DATE.YEAR].map fun f => f.of who) [] w v) ∧
    (w.flag Reg.RTC_CTL.HOLD = false → exec (.rtcHoldClear who ticks) s = .next w ∧
      Goes (.rtcHold who ticks) s fun v => v.flag Reg.RTC_CTL.HOLD = true ∧
        v.get Reg.RTC_HOLD_ELAPSED.TICKS = 0 ∧ Keeps [Reg.RTC_CTL.HOLD, Reg.RTC_HOLD_ELAPSED.TICKS] [] w v) ∧
    (w.flag Reg.RTC_CTL.HOLD = true → exec (.rtcHold who ticks) s = .next w ∧
      (w.staged.ok = true → Goes (.rtcHoldClear who ticks) s fun v => v.flag Reg.RTC_CTL.HOLD = false ∧ v.backup.sec = w.staged.secs ∧
        v.backup.sub = 0 ∧ v.backup.running = true ∧ v.flag Reg.RTC_STATUS.SET_SINCE_OSF = true ∧
        Keeps [Reg.RTC_CTL.HOLD, Reg.RTC_STATUS.SET_SINCE_OSF, Reg.RTC_STATUS.RANGE_END, Reg.RTC_STATUS.DATE_INVALID] [.backup] w v) ∧
      (w.staged.ok = false → Goes (.rtcHoldClear who ticks) s fun v => v.flag Reg.RTC_CTL.HOLD = true ∧
        v.flag Reg.RTC_STATUS.DATE_INVALID = true ∧ Keeps [Reg.RTC_STATUS.DATE_INVALID, Reg.RTC_IRQ.DATE_INVALID] [.out] w v)) ∧
    (∀ t : Nat,
      (∀ q : Nat, s.flag Reg.RTC_CTL.AUTO_SYNC = true → s.flag Reg.RTC_CTL.HOLD = false → s.get Reg.TSU_STATUS.STATE = 3 →
        t % secUnit = 0 → ((t / secUnit : Nat) : Int) = q + s.getInt Reg.TSU_UTC.OFFSET + (epoch2000 : Nat) → q < calendarEnd →
        q % 86400 % (60 * if s.get Reg.RTC_CTL.SYNC_MIN = 0 then 60 else s.get Reg.RTC_CTL.SYNC_MIN) = 0 →
        Goes (.rtcAutoSync t ticks) s fun v => v.backup.sec = q ∧ v.backup.sub = 0 ∧ v.backup.running = true ∧
          v.flag Reg.RTC_STATUS.SET_SINCE_OSF = true ∧ v.flag Reg.RTC_IRQ.SYNC = true) ∧
      (s.flag Reg.RTC_CTL.AUTO_SYNC = false ∨ s.flag Reg.RTC_CTL.HOLD = true ∨ s.get Reg.TSU_STATUS.STATE ≠ 3 →
        exec (.rtcAutoSync t ticks) s = .next ((s.moveTo t).calTicks ticks))) ∧
    (∀ temp : Int, -32768 ≤ temp → temp < 32768 → Goes (.tempCompPeriod temp) s fun v => v.getInt Reg.BKP_TEMP.TEMP = temp ∧
      v.backup.pos = 0 ∧ (s.flag Reg.BKP_TCOMP_CTL.EN = false → v.backup.trim = 0)) ∧
    (s.flag Reg.RTC_STATUS.SET_SINCE_OSF = true → Goes (.osfClear who) s fun v => v.flag Reg.RTC_STATUS.OSF = false ∧
      Keeps [Reg.RTC_STATUS.OSF] [] s v) ∧
    (s.flag Reg.RTC_STATUS.SET_SINCE_OSF = false → exec (.osfClear who) s = .next s) ∧
    Goes (.tcompSave who) s (fun v => v.flag Reg.BKP_TCOMP_CTL.SAVE = true ∧ Keeps [Reg.BKP_TCOMP_CTL.SAVE] [] s v) ∧
    (s.flag Reg.BKP_TCOMP_CTL.SAVE = true → Goes .tcompSaveDone s fun v => v.flag Reg.BKP_TCOMP_CTL.SAVE = false ∧
      v.nvs.tcomp = (List.range 32).map (fun k => s.get (Reg.BKP_TCOMP.POINT.ix k)) ∧ Keeps [Reg.BKP_TCOMP_CTL.SAVE] [.nvs] s v) ∧
    Goes .oscillatorStop s (fun v => v.env.crystal = false ∧ v.flag Reg.RTC_STATUS.OSF = true ∧
      v.flag Reg.RTC_STATUS.SET_SINCE_OSF = false ∧ v.flag Reg.RTC_IRQ.OSF = true) ∧
    Goes .crystalEdgesResume s (fun v => v.env.crystal = true ∧ Keeps [] [.env] s v) ∧
    Goes .firstBackupPower s (fun v => v.bkp = initialBackup ∧ v.flag Reg.RTC_STATUS.OSF = true ∧ v.pins.pwrOn = true ∧ v.regs = s.regs) ∧
    exec .vbatBrownOut s = .next s ∧
    (∀ r, r.filesOk = true → r.mainPower = false → Goes .vbatBrownOut r (fun v => v.flag Reg.RTC_STATUS.OSF = true ∧
        v.flag Reg.RTC_STATUS.SET_SINCE_OSF = false ∧ Keeps [Reg.RTC_STATUS.OSF, Reg.RTC_STATUS.SET_SINCE_OSF] [] r v) ∧
      ∀ absent mv, exec (.vbatAbsent absent) r = .next { r with env := { r.env with vbatAbsent := absent } } ∧
        exec (.vbatMeasure mv) r = .next r) ∧
    (∀ absent, Goes (.vbatAbsent absent) s fun v => v.env.vbatAbsent = absent ∧ v.flag Reg.BKP_STATUS.VBAT_OK = !absent ∧
      Keeps [Reg.BKP_STATUS.VBAT_OK] [.env] s v) ∧
    (∀ mv, mv < 4096 → Goes (.vbatMeasure mv) s fun v => v.get Reg.BKP_VBAT.MV = mv ∧
      v.flag Reg.BKP_STATUS.VBAT_OK = decide (1650 ≤ mv) ∧ v.flag Reg.BKP_STATUS.VBAT_LOW = decide (mv < 2000) ∧
      Keeps [Reg.BKP_VBAT.MV, Reg.BKP_STATUS.VBAT_OK, Reg.BKP_STATUS.VBAT_LOW, Reg.RTC_IRQ.VBAT_LOW] [.out] s v) ∧
    ∀ w, (bitAt w 8 = false → Goes (.bkpChgWrite who w) s fun v => v.flag Reg.BKP_CHG.EN = false ∧
        v.flag Reg.BKP_STATUS.CHG_ON = false ∧ v.get Reg.BKP_CHG.CELL = bitsOf w 5 3 ∧ v.backup.chgFirst = none) ∧
      (bitAt w 8 = true → bitsOf w 24 8 ≠ 0xC5 → Goes (.bkpChgWrite who w) s fun v => v.flag Reg.BKP_STATUS.CHG_REFUSED = true ∧
        v.flag Reg.BKP_CHG.EN = s.flag Reg.BKP_CHG.EN) ∧
      (bitAt w 8 = true → bitsOf w 24 8 = 0xC5 → bitsOf w 5 3 = 0 → Goes (.bkpChgWrite who w) s fun v => v.backup.chgFirst = none ∧
        Keeps [] [.backup] s v) ∧
      (bitAt w 8 = true → bitsOf w 24 8 = 0xC5 → bitsOf w 5 3 ≠ 0 →
        ((∀ x r t, s.backup.chgFirst = some (x, r, t) → x ≠ w ∨ r ≠ who ∨ 10 * msUnit < s.time.elapsed - t) →
          Goes (.bkpChgWrite who w) s fun v => v.backup.chgFirst = some (w, who, s.time.elapsed) ∧ Keeps [] [.backup] s v) ∧
        ∀ t, s.backup.chgFirst = some (w, who, t) → s.time.elapsed - t ≤ 10 * msUnit →
          (chgPermitted (bitsOf w 5 3) (bitsOf w 0 2) = true → Goes (.bkpChgWrite who w) s fun v =>
            v.flag Reg.BKP_CHG.EN = true ∧ v.flag Reg.BKP_STATUS.CHG_ON = true ∧ v.get Reg.BKP_CHG.TARGET = bitsOf w 0 2) ∧
          (chgPermitted (bitsOf w 5 3) (bitsOf w 0 2) = false → Goes (.bkpChgWrite who w) s fun v =>
            v.flag Reg.BKP_STATUS.CHG_REFUSED = true ∧ v.flag Reg.BKP_CHG.EN = s.flag Reg.BKP_CHG.EN))
end

