-- ==== Sys2Proof/Laws/Frame.lean ====
section
/-! SUPPORT. How a state moves: the relation between a state and what an operation makes of it that every operation's law is stated
in, and how such moves compose. -/

namespace Sys2Proof.Machine

set_option Elab.async false

/-- The move from `s` to `t` touches at most the parts `m` and keeps the register files' form. -/
structure Moves (m : List Part) (s t : State) : Prop where
  touches : Touches m s t
  files : s.filesOk = true → t.filesOk = true

/-- Every part of the first list is in the second. -/
def sub (a b : List Part) : Bool := a.all fun p => b.contains p

theorem Part.same_refl (p : Part) (s : State) : p.same s s := by cases p <;> simp [Part.same]

theorem Part.same_trans {p : Part} {s t u : State} (h : p.same s t) (k : p.same t u) : p.same s u := by
  cases p <;> simp_all [Part.same]

theorem Moves.refl (m : List Part) (s : State) : Moves m s s := ⟨⟨rfl, fun p _ => p.same_refl s⟩, id⟩

theorem sub_contains {a b : List Part} (h : sub a b = true) {p : Part} (hp : b.contains p = false) : a.contains p = false := by
  cases hc : a.contains p with
  | false => rfl
  | true =>
    have := List.all_eq_true.mp h p (by simpa using hc)
    simp_all

theorem sub_trans {a b c : List Part} (h : sub a b = true) (k : sub b c = true) : sub a c = true := by
  simp only [sub, List.all_eq_true] at *
  intro p hp
  exact k p (by simpa using h p hp)

/-- A further move of a kind the list allows. -/
theorem Moves.step {m m' : List Part} {s u t : State} (h : Moves m' u t) (hs : sub m' m = true) (h0 : Moves m s u) : Moves m s t :=
  ⟨⟨h.touches.1.trans h0.touches.1, fun p hp => Part.same_trans (h0.touches.2 p hp) (h.touches.2 p (sub_contains hs hp))⟩,
    fun k => h.files (h0.files k)⟩

/-- A further move of the same kind. -/
theorem Moves.trans {m : List Part} {s u t : State} (h0 : Moves m s u) (h : Moves m u t) : Moves m s t :=
  ⟨⟨h.touches.1.trans h0.touches.1, fun p hp => Part.same_trans (h0.touches.2 p hp) (h.touches.2 p hp)⟩,
    fun k => h.files (h0.files k)⟩

/-- Fields of the state other than the register files are replaced: each one that differs is in the list. -/
theorem Moves.upd {m : List Part} {s u : State} {a0 a1 a2 a3 a4 a5 a6 a7 a8 a9 a10 a11 a12 a13 a14 a15 a16 a17 a18 a19 a20 a21 a22 a23 a24 a25 a26 a27 a28 a29 a30 a31 a32 a33 a34 a35}
    (h0 : a0 = u.pending) (h1 : a1 = u.regs) (h2 : a2 = u.bkp) (h3 : a3 = u.fuse) (h : Moves m s u)
    (h4 : m.contains .locks = true ∨ a4 = u.locks := by first | exact .inl rfl | with_reducible exact .inr rfl)
    (h5 : m.contains .free = true ∨ a5 = u.freeCount := by first | exact .inl rfl | with_reducible exact .inr rfl)
    (h6 : m.contains .out = true ∨ a6 = u.out := by first | exact .inl rfl | with_reducible exact .inr rfl)
    (h7 : m.contains .boot = true ∨ a7 = u.boot := by first | exact .inl rfl | with_reducible exact .inr rfl)
    (h8 : m.contains .ledger = true ∨ a8 = u.ledger := by first | exact .inl rfl | with_reducible exact .inr rfl)
    (h9 : m.contains .fw = true ∨ a9 = u.fw := by first | exact .inl rfl | with_reducible exact .inr rfl)
    (h10 : m.contains .pins = true ∨ a10 = u.pins := by first | exact .inl rfl | with_reducible exact .inr rfl)
    (h11 : m.contains .env = true ∨ a11 = u.env := by first | exact .inl rfl | with_reducible exact .inr rfl)
    (h12 : m.contains .host = true ∨ a12 = u.host := by first | exact .inl rfl | with_reducible exact .inr rfl)
    (h13 : m.contains .cfg = true ∨ a13 = u.cfg := by first | exact .inl rfl | with_reducible exact .inr rfl)
    (h14 : m.contains .roasts = true ∨ a14 = u.roasts := by first | exact .inl rfl | with_reducible exact .inr rfl)
    (h15 : m.contains .time = true ∨ a15 = u.time := by first | exact .inl rfl | with_reducible exact .inr rfl)
    (h16 : m.contains .keys = true ∨ a16 = u.keys := by first | exact .inl rfl | with_reducible exact .inr rfl)
    (h17 : m.contains .fuses = true ∨ a17 = u.fuses := by first | exact .inl rfl | with_reducible exact .inr rfl)
    (h18 : m.contains .evr = true ∨ a18 = u.evr := by first | exact .inl rfl | with_reducible exact .inr rfl)
    (h19 : m.contains .nvs = true ∨ a19 = u.nvs := by first | exact .inl rfl | with_reducible exact .inr rfl)
    (h20 : m.contains .backup = true ∨ a20 = u.backup := by first | exact .inl rfl | with_reducible exact .inr rfl)
    (h21 : m.contains .pace = true ∨ a21 = u.pace := by first | exact .inl rfl | with_reducible exact .inr rfl)
    (h22 : m.contains .sch = true ∨ a22 = u.sch := by first | exact .inl rfl | with_reducible exact .inr rfl)
    (h23 : m.contains .ports = true ∨ a23 = u.ports := by first | exact .inl rfl | with_reducible exact .inr rfl)
    (h24 : m.contains .ing = true ∨ a24 = u.ing := by first | exact .inl rfl | with_reducible exact .inr rfl)
    (h25 : m.contains .flt = true ∨ a25 = u.flt := by first | exact .inl rfl | with_reducible exact .inr rfl)
    (h26 : m.contains .aln = true ∨ a26 = u.aln := by first | exact .inl rfl | with_reducible exact .inr rfl)
    (h27 : m.contains .runs = true ∨ a27 = u.runs := by first | exact .inl rfl | with_reducible exact .inr rfl)
    (h28 : m.contains .isl = true ∨ a28 = u.isl := by first | exact .inl rfl | with_reducible exact .inr rfl)
    (h29 : m.contains .lse = true ∨ a29 = u.lse := by first | exact .inl rfl | with_reducible exact .inr rfl)
    (h30 : m.contains .osc = true ∨ a30 = u.osc := by first | exact .inl rfl | with_reducible exact .inr rfl)
    (h31 : m.contains .sau = true ∨ a31 = u.sau := by first | exact .inl rfl | with_reducible exact .inr rfl)
    (h32 : m.contains .cap = true ∨ a32 = u.cap := by first | exact .inl rfl | with_reducible exact .inr rfl)
    (h33 : m.contains .nrg = true ∨ a33 = u.nrg := by first | exact .inl rfl | with_reducible exact .inr rfl)
    (h34 : m.contains .alm = true ∨ a34 = u.alm := by first | exact .inl rfl | with_reducible exact .inr rfl)
    (h35 : m.contains .cas = true ∨ a35 = u.cas := by first | exact .inl rfl | with_reducible exact .inr rfl)
    : Moves m s ⟨a0, a1, a2, a3, a4, a5, a6, a7, a8, a9, a10, a11, a12, a13, a14, a15, a16, a17, a18, a19, a20, a21, a22, a23, a24, a25, a26, a27, a28, a29, a30, a31, a32, a33, a34, a35⟩ := by
  subst h0 h1 h2 h3
  refine h.trans ⟨⟨rfl, fun p hp => ?_⟩, fun k => by simpa [State.filesOk] using k⟩
  cases p <;> first | exact ⟨rfl, rfl, rfl⟩ | skip
  · exact h4.resolve_left (by rw [hp]; exact Bool.false_ne_true)
  · exact h5.resolve_left (by rw [hp]; exact Bool.false_ne_true)
  · exact h6.resolve_left (by rw [hp]; exact Bool.false_ne_true)
  · exact h7.resolve_left (by rw [hp]; exact Bool.false_ne_true)
  · exact h8.resolve_left (by rw [hp]; exact Bool.false_ne_true)
  · exact h9.resolve_left (by rw [hp]; exact Bool.false_ne_true)
  · exact h10.resolve_left (by rw [hp]; exact Bool.false_ne_true)
  · exact h11.resolve_left (by rw [hp]; exact Bool.false_ne_true)
  · exact h12.resolve_left (by rw [hp]; exact Bool.false_ne_true)
  · exact h13.resolve_left (by rw [hp]; exact Bool.false_ne_true)
  · exact h14.resolve_left (by rw [hp]; exact Bool.false_ne_true)
  · exact h15.resolve_left (by rw [hp]; exact Bool.false_ne_true)
  · exact h16.resolve_left (by rw [hp]; exact Bool.false_ne_true)
  · exact h17.resolve_left (by rw [hp]; exact Bool.false_ne_true)
  · exact h18.resolve_left (by rw [hp]; exact Bool.false_ne_true)
  · exact h19.resolve_left (by rw [hp]; exact Bool.false_ne_true)
  · exact h20.resolve_left (by rw [hp]; exact Bool.false_ne_true)
  · exact h21.resolve_left (by rw [hp]; exact Bool.false_ne_true)
  · exact h22.resolve_left (by rw [hp]; exact Bool.false_ne_true)
  · exact h23.resolve_left (by rw [hp]; exact Bool.false_ne_true)
  · exact h24.resolve_left (by rw [hp]; exact Bool.false_ne_true)
  · exact h25.resolve_left (by rw [hp]; exact Bool.false_ne_true)
  · exact h26.resolve_left (by rw [hp]; exact Bool.false_ne_true)
  · exact h27.resolve_left (by rw [hp]; exact Bool.false_ne_true)
  · exact h28.resolve_left (by rw [hp]; exact Bool.false_ne_true)
  · exact h29.resolve_left (by rw [hp]; exact Bool.false_ne_true)
  · exact h30.resolve_left (by rw [hp]; exact Bool.false_ne_true)
  · exact h31.resolve_left (by rw [hp]; exact Bool.false_ne_true)
  · exact h32.resolve_left (by rw [hp]; exact Bool.false_ne_true)
  · exact h33.resolve_left (by rw [hp]; exact Bool.false_ne_true)
  · exact h34.resolve_left (by rw [hp]; exact Bool.false_ne_true)
  · exact h35.resolve_left (by rw [hp]; exact Bool.false_ne_true)

/-- The first part of a pair that an operation answers. -/
theorem Moves.fst {α : Type} {m : List Part} {s t : State} {q : State × α} {a : α} (h : q = (t, a)) (hm : Moves m s q.1) :
    Moves m s t := by subst h; exact hm

/-- A meaning's move is of a kind a longer list allows. -/
theorem Moves.outs {m m' : List Part} {s : State} {o : Out} (h : ∃ t, o = .next t ∧ Moves m' s t) (hs : sub m' m = true) :
    ∃ t, o = .next t ∧ Moves m s t := by
  obtain ⟨t, ht, hm⟩ := h
  exact ⟨t, ht, Moves.step hm hs (Moves.refl _ _)⟩

theorem Moves.idl {m : List Part} {s u : State} (h : Moves m s u) : Moves m s (id u) := h

/-- An operation that may answer nothing, with a fallback. -/
theorem Moves.getD {m : List Part} {s v : State} {o : Option State} (h : ∀ t, o = some t → Moves m s t) (h0 : Moves m s v) :
    Moves m s (o.getD v) := by
  cases o with
  | none => exact h0
  | some t => exact h t rfl

/-- A fold of moves. -/
theorem Moves.foldl {α : Type} {m : List Part} {s u : State} {f : State → α → State} {l : List α}
    (hf : ∀ v a, Moves m v (f v a)) (h : Moves m s u) : Moves m s (l.foldl f u) := by
  induction l generalizing u with
  | nil => exact h
  | cons a l ih => exact ih (h.trans (hf u a))

/-- A fold of moves that carries a result along. -/
theorem Moves.foldlFst {α β : Type} {m : List Part} {s : State} {f : State × β → α → State × β} {l : List α} {q : State × β}
    (hf : ∀ v a, Moves m v.1 (f v a).1) (h : Moves m s q.1) : Moves m s (l.foldl f q).1 := by
  induction l generalizing q with
  | nil => exact h
  | cons a l ih => exact ih (h.trans (hf q a))

theorem Moves.ite {m : List Part} {s a b : State} {c : Prop} [Decidable c] (ha : Moves m s a) (hb : Moves m s b) :
    Moves m s (if c then a else b) := by split <;> assumption

theorem Moves.iteFst {α : Type} {m : List Part} {s : State} {a b : State × α} {c : Prop} [Decidable c] (ha : Moves m s a.1)
    (hb : Moves m s b.1) : Moves m s (if c then a else b).1 := by split <;> assumption

/-- The state of an answer that an operation may give. -/
theorem Moves.optFst {α : Type} {m : List Part} {s t : State} {o : Option (State × α)} {a : α} (h : o = some (t, a))
    (hm : ∀ q, o = some q → Moves m s q.1) : Moves m s t := hm _ h

/-- Whatever an operation that may answer nothing answers, it moves so. -/
def OptMoves (m : List Part) (s : State) (o : Option State) : Prop := ∀ t, o = some t → Moves m s t

theorem OptMoves.none {m : List Part} {s : State} : OptMoves m s .none := fun _ h => by cases h

theorem OptMoves.some {m : List Part} {s t : State} (h : Moves m s t) : OptMoves m s (.some t) := fun _ k => by cases k; exact h

theorem OptMoves.ite {m : List Part} {s : State} {a b : Option State} {c : Prop} [Decidable c] (ha : OptMoves m s a)
    (hb : OptMoves m s b) : OptMoves m s (if c then a else b) := by split <;> assumption

/-! ### The register files -/

theorem RegFile.rising_tail {e : Nat × Nat} {r : RegFile} (h : RegFile.rising (e :: r) = true) : r.rising = true := by
  cases r with
  | nil => rfl
  | cons e' r => simp [RegFile.rising] at h; exact h.2

/-- Keys of a rising file lie above its head's. -/
theorem RegFile.rising_cons {k v : Nat} {r : RegFile} (h : r.rising = true) (hk : ∀ e ∈ r.head?, k < e.1) :
    RegFile.rising ((k, v) :: r) = true := by
  cases r with
  | nil => rfl
  | cons e r => simp [RegFile.rising]; exact ⟨hk e (by simp), h⟩

theorem RegFile.rising_head {k v : Nat} {r : RegFile} (h : RegFile.rising ((k, v) :: r) = true) : ∀ e ∈ r, k < e.1 := by
  induction r generalizing k v with
  | nil => simp
  | cons e r ih =>
    obtain ⟨k', v'⟩ := e
    simp [RegFile.rising] at h
    intro e he
    rcases List.mem_cons.mp he with rfl | he
    · exact h.1
    · exact lt_trans h.1 (ih h.2 e he)

theorem RegFile.rising_of {k v : Nat} {r : RegFile} (h : r.rising = true) (hk : ∀ e ∈ r, k < e.1) :
    RegFile.rising ((k, v) :: r) = true :=
  RegFile.rising_cons h fun e he => hk e (List.mem_of_head? he)

theorem RegFile.rising_filter {r : RegFile} (p : Nat × Nat → Bool) (h : r.rising = true) :
    RegFile.rising (r.filter p) = true := by
  induction r with
  | nil => rfl
  | cons e r ih =>
    obtain ⟨k, v⟩ := e
    rw [List.filter_cons]
    split
    · exact RegFile.rising_of (ih (RegFile.rising_tail h)) fun e he => RegFile.rising_head h e (List.mem_of_mem_filter he)
    · exact ih (RegFile.rising_tail h)

theorem RegFile.erase_mem {k : Nat} {r : RegFile} : ∀ e ∈ RegFile.erase k r, e ∈ r := by
  induction r with
  | nil => simp [RegFile.erase]
  | cons e r ih =>
    obtain ⟨k', v⟩ := e
    intro e he
    rw [RegFile.erase] at he
    split at he
    · exact List.mem_cons_of_mem _ he
    · split at he
      · exact he
      · rcases List.mem_cons.mp he with rfl | he
        · exact List.mem_cons_self
        · exact List.mem_cons_of_mem _ (ih e he)

theorem RegFile.rising_erase {k : Nat} {r : RegFile} (h : r.rising = true) : (RegFile.erase k r).rising = true := by
  induction r with
  | nil => rfl
  | cons e r ih =>
    obtain ⟨k', v⟩ := e
    rw [RegFile.erase]
    split
    · exact RegFile.rising_tail h
    · split
      · exact h
      · exact RegFile.rising_of (ih (RegFile.rising_tail h)) fun e he => RegFile.rising_head h e (RegFile.erase_mem e he)

theorem RegFile.insert_mem {k v : Nat} {r : RegFile} : ∀ e ∈ RegFile.insert k v r, e.1 = k ∨ e ∈ r := by
  induction r with
  | nil => simp [RegFile.insert]
  | cons e r ih =>
    obtain ⟨k', v'⟩ := e
    intro e he
    rw [RegFile.insert] at he
    split at he
    · rcases List.mem_cons.mp he with rfl | he
      · exact .inl rfl
      · exact .inr (List.mem_cons_of_mem _ he)
    · split at he
      · rcases List.mem_cons.mp he with rfl | he
        · exact .inl rfl
        · exact .inr he
      · rcases List.mem_cons.mp he with rfl | he
        · exact .inr List.mem_cons_self
        · rcases ih e he with h | h
          · exact .inl h
          · exact .inr (List.mem_cons_of_mem _ h)

theorem RegFile.rising_insert {k v : Nat} {r : RegFile} (h : r.rising = true) : (RegFile.insert k v r).rising = true := by
  induction r with
  | nil => rfl
  | cons e r ih =>
    obtain ⟨k', v'⟩ := e
    rw [RegFile.insert]
    split
    · subst_vars
      exact RegFile.rising_of (RegFile.rising_tail h) (RegFile.rising_head h)
    · split
      · rename_i hne hlt
        exact RegFile.rising_of h fun e he => by
          rcases List.mem_cons.mp he with rfl | he
          · exact hlt
          · exact lt_trans hlt (RegFile.rising_head h e he)
      · rename_i hne hnl
        exact RegFile.rising_of (ih (RegFile.rising_tail h)) fun e he => by
          rcases RegFile.insert_mem e he with h' | he
          · omega
          · exact RegFile.rising_head h e he

/-- A write keeps a register file's form. -/
theorem RegFile.rising_set {d k v : Nat} {r : RegFile} (h : r.rising = true) : (RegFile.set d k v r).rising = true := by
  unfold RegFile.set
  split
  · exact RegFile.rising_erase h
  · exact RegFile.rising_insert h

theorem RegFile.rising_foldl {α : Type} {f : RegFile → α → RegFile} {l : List α} {r : RegFile}
    (hf : ∀ r a, r.rising = true → (f r a).rising = true) (h : r.rising = true) : (l.foldl f r).rising = true := by
  induction l generalizing r with
  | nil => exact h
  | cons a l ih => exact ih (hf r a h)

/-- Writing a register field touches the register files only. -/
theorem moves_set (s : State) (f : Fld) (v : Nat) : Moves [.files] s (s.set f v) := by
  unfold State.set
  split <;>
    exact ⟨⟨rfl, fun p hp => by cases p <;> first | rfl | exact absurd hp (by decide)⟩, fun h => by
      simp only [State.filesOk, Bool.and_eq_true] at h ⊢
      simp [h, RegFile.rising_set]⟩

end Sys2Proof.Machine
end

