-- ==== Sys2Proof/Laws/State.lean ====
section
/-! SUPPORT. Reading the state after an update: every register field through a write of one, and through the update of any other
field of the state; the structure's fields through a register write. -/

namespace Sys2Proof.Machine

set_option Elab.async false

/-! ### The register file -/

theorem RegFile.get_erase_ne {d k j : Nat} {r : RegFile} (h : j ≠ k) : RegFile.get d j (RegFile.erase k r) = RegFile.get d j r := by
  induction r with
  | nil => rfl
  | cons e r ih =>
    obtain ⟨k', v⟩ := e
    rw [RegFile.erase]
    split
    · subst_vars; simp [RegFile.get, h]
    · split
      · rfl
      · simp [RegFile.get, ih]

theorem RegFile.get_insert {d k v j : Nat} {r : RegFile} :
    RegFile.get d j (RegFile.insert k v r) = if j = k then v else RegFile.get d j r := by
  induction r with
  | nil => simp [RegFile.insert, RegFile.get]
  | cons e r ih =>
    obtain ⟨k', v'⟩ := e
    rw [RegFile.insert]
    split
    · subst_vars; simp only [RegFile.get]; split <;> rfl
    · split
      · rfl
      · simp only [RegFile.get, ih]
        split <;> split <;> first | rfl | omega

theorem RegFile.get_none {d k : Nat} {r : RegFile} (h : ∀ e ∈ r, k < e.1) : RegFile.get d k r = d := by
  induction r with
  | nil => rfl
  | cons e r ih =>
    obtain ⟨k', v⟩ := e
    have := h _ List.mem_cons_self
    rw [RegFile.get, if_neg (by omega), ih fun e he => h e (List.mem_cons_of_mem _ he)]

theorem RegFile.get_erase {d k : Nat} {r : RegFile} (h : r.rising = true) : RegFile.get d k (RegFile.erase k r) = d := by
  induction r with
  | nil => rfl
  | cons e r ih =>
    obtain ⟨k', v⟩ := e
    rw [RegFile.erase]
    split
    · subst_vars; exact RegFile.get_none (RegFile.rising_head h)
    · split
      · exact RegFile.get_none fun e he => by
          rcases List.mem_cons.mp he with rfl | he
          · assumption
          · exact lt_trans ‹_› (RegFile.rising_head h e he)
      · rw [RegFile.get, if_neg (by assumption), ih (RegFile.rising_tail h)]

theorem RegFile.get_set {d k v : Nat} {r : RegFile} (h : r.rising = true) : RegFile.get d k (RegFile.set d k v r) = v := by
  unfold RegFile.set
  split
  · subst_vars; exact RegFile.get_erase h
  · rw [RegFile.get_insert, if_pos rfl]

theorem RegFile.get_set_ne {d d' k v j : Nat} {r : RegFile} (h : j ≠ k) : RegFile.get d' j (RegFile.set d k v r) = RegFile.get d' j r := by
  unfold RegFile.set
  split
  · exact RegFile.get_erase_ne h
  · rw [RegFile.get_insert, if_neg h]

/-! ### Register fields -/

/-- A field reads back what was written, reduced to its width. -/
theorem State.get_set {s : State} {f : Fld} {v : Nat} (h : s.filesOk = true) : (s.set f v).get f = v % 2 ^ f.width := by
  simp only [State.filesOk, Bool.and_eq_true] at h
  unfold State.set State.get
  cases hd : f.dom <;> simp only [State.file] <;> exact RegFile.get_set (by simp [h])

/-- A field at another place reads as before. -/
theorem State.get_set_ne {s : State} {f g : Fld} {v : Nat} (h : f.key ≠ g.key ∨ f.dom ≠ g.dom) : (s.set f v).get g = s.get g := by
  unfold State.set State.get
  cases hf : f.dom <;> cases hg : g.dom <;> simp only [State.file] <;>
    (rw [hf, hg] at h; simp only [ne_eq, not_true_eq_false, or_false] at h) <;>
    exact RegFile.get_set_ne (Ne.symm h)

theorem State.filesOk_set {s : State} {f : Fld} {v : Nat} (h : s.filesOk = true) : (s.set f v).filesOk = true := (moves_set s f v).files h

/-- A field through the update of anything but the register files. -/
@[simp] theorem State.get_upd (s : State) (a0 a4 a5 a6 a7 a8 a9 a10 a11 a12 a13 a14 a15 a16 a17 a18 a19 a20 a21 a22 a23 a24 a25 a26 a27 a28 a29 a30 a31 a32 a33 a34 a35) (f : Fld) :
    State.get ⟨a0, s.regs, s.bkp, s.fuse, a4, a5, a6, a7, a8, a9, a10, a11, a12, a13, a14, a15, a16, a17, a18, a19, a20, a21, a22, a23, a24, a25, a26, a27, a28, a29, a30, a31, a32, a33, a34, a35⟩ f = s.get f := by
  unfold State.get State.file; cases f.dom <;> rfl

@[simp] theorem State.filesOk_upd (s : State) (a0 a4 a5 a6 a7 a8 a9 a10 a11 a12 a13 a14 a15 a16 a17 a18 a19 a20 a21 a22 a23 a24 a25 a26 a27 a28 a29 a30 a31 a32 a33 a34 a35) :
    State.filesOk ⟨a0, s.regs, s.bkp, s.fuse, a4, a5, a6, a7, a8, a9, a10, a11, a12, a13, a14, a15, a16, a17, a18, a19, a20, a21, a22, a23, a24, a25, a26, a27, a28, a29, a30, a31, a32, a33, a34, a35⟩ = s.filesOk := rfl

/-! ### The fields of the structure through a register write -/

@[simp] theorem State.set_pending (s : State) (f : Fld) (v : Nat) : (s.set f v).pending = s.pending := by unfold State.set; split <;> rfl
@[simp] theorem State.set_locks (s : State) (f : Fld) (v : Nat) : (s.set f v).locks = s.locks := by unfold State.set; split <;> rfl
@[simp] theorem State.set_freeCount (s : State) (f : Fld) (v : Nat) : (s.set f v).freeCount = s.freeCount := by unfold State.set; split <;> rfl
@[simp] theorem State.set_out (s : State) (f : Fld) (v : Nat) : (s.set f v).out = s.out := by unfold State.set; split <;> rfl
@[simp] theorem State.set_boot (s : State) (f : Fld) (v : Nat) : (s.set f v).boot = s.boot := by unfold State.set; split <;> rfl
@[simp] theorem State.set_ledger (s : State) (f : Fld) (v : Nat) : (s.set f v).ledger = s.ledger := by unfold State.set; split <;> rfl
@[simp] theorem State.set_fw (s : State) (f : Fld) (v : Nat) : (s.set f v).fw = s.fw := by unfold State.set; split <;> rfl
@[simp] theorem State.set_pins (s : State) (f : Fld) (v : Nat) : (s.set f v).pins = s.pins := by unfold State.set; split <;> rfl
@[simp] theorem State.set_env (s : State) (f : Fld) (v : Nat) : (s.set f v).env = s.env := by unfold State.set; split <;> rfl
@[simp] theorem State.set_host (s : State) (f : Fld) (v : Nat) : (s.set f v).host = s.host := by unfold State.set; split <;> rfl
@[simp] theorem State.set_cfg (s : State) (f : Fld) (v : Nat) : (s.set f v).cfg = s.cfg := by unfold State.set; split <;> rfl
@[simp] theorem State.set_roasts (s : State) (f : Fld) (v : Nat) : (s.set f v).roasts = s.roasts := by unfold State.set; split <;> rfl
@[simp] theorem State.set_time (s : State) (f : Fld) (v : Nat) : (s.set f v).time = s.time := by unfold State.set; split <;> rfl
@[simp] theorem State.set_keys (s : State) (f : Fld) (v : Nat) : (s.set f v).keys = s.keys := by unfold State.set; split <;> rfl
@[simp] theorem State.set_fuses (s : State) (f : Fld) (v : Nat) : (s.set f v).fuses = s.fuses := by unfold State.set; split <;> rfl
@[simp] theorem State.set_evr (s : State) (f : Fld) (v : Nat) : (s.set f v).evr = s.evr := by unfold State.set; split <;> rfl
@[simp] theorem State.set_nvs (s : State) (f : Fld) (v : Nat) : (s.set f v).nvs = s.nvs := by unfold State.set; split <;> rfl
@[simp] theorem State.set_backup (s : State) (f : Fld) (v : Nat) : (s.set f v).backup = s.backup := by unfold State.set; split <;> rfl
@[simp] theorem State.set_pace (s : State) (f : Fld) (v : Nat) : (s.set f v).pace = s.pace := by unfold State.set; split <;> rfl
@[simp] theorem State.set_sch (s : State) (f : Fld) (v : Nat) : (s.set f v).sch = s.sch := by unfold State.set; split <;> rfl
@[simp] theorem State.set_ports (s : State) (f : Fld) (v : Nat) : (s.set f v).ports = s.ports := by unfold State.set; split <;> rfl
@[simp] theorem State.set_ing (s : State) (f : Fld) (v : Nat) : (s.set f v).ing = s.ing := by unfold State.set; split <;> rfl
@[simp] theorem State.set_flt (s : State) (f : Fld) (v : Nat) : (s.set f v).flt = s.flt := by unfold State.set; split <;> rfl
@[simp] theorem State.set_aln (s : State) (f : Fld) (v : Nat) : (s.set f v).aln = s.aln := by unfold State.set; split <;> rfl
@[simp] theorem State.set_runs (s : State) (f : Fld) (v : Nat) : (s.set f v).runs = s.runs := by unfold State.set; split <;> rfl
@[simp] theorem State.set_isl (s : State) (f : Fld) (v : Nat) : (s.set f v).isl = s.isl := by unfold State.set; split <;> rfl
@[simp] theorem State.set_lse (s : State) (f : Fld) (v : Nat) : (s.set f v).lse = s.lse := by unfold State.set; split <;> rfl
@[simp] theorem State.set_osc (s : State) (f : Fld) (v : Nat) : (s.set f v).osc = s.osc := by unfold State.set; split <;> rfl
@[simp] theorem State.set_sau (s : State) (f : Fld) (v : Nat) : (s.set f v).sau = s.sau := by unfold State.set; split <;> rfl
@[simp] theorem State.set_cap (s : State) (f : Fld) (v : Nat) : (s.set f v).cap = s.cap := by unfold State.set; split <;> rfl
@[simp] theorem State.set_nrg (s : State) (f : Fld) (v : Nat) : (s.set f v).nrg = s.nrg := by unfold State.set; split <;> rfl
@[simp] theorem State.set_alm (s : State) (f : Fld) (v : Nat) : (s.set f v).alm = s.alm := by unfold State.set; split <;> rfl
@[simp] theorem State.set_cas (s : State) (f : Fld) (v : Nat) : (s.set f v).cas = s.cas := by unfold State.set; split <;> rfl

end Sys2Proof.Machine
end

