-- ==== Sys2Proof/Laws/Keeps.lean ====
section
/-! SUPPORT. What keeps the rest of the state: the relation Keeps through each shared operation, and reading a field after writes. -/

namespace Sys2Proof.Machine

set_option Elab.async false

theorem Keeps.refl (fs : List Fld) (ps : List Part) (s : State) : Keeps fs ps s s := ⟨rfl, fun p _ _ => p.same_refl s, fun _ _ => rfl⟩

theorem Keeps.trans {fs : List Fld} {ps : List Part} {s u t : State} (h : Keeps fs ps s u) (k : Keeps fs ps u t) : Keeps fs ps s t :=
  ⟨k.1.trans h.1, fun p hp hc => Part.same_trans (h.2.1 p hp hc) (k.2.1 p hp hc), fun g hg => (k.2.2 g hg).trans (h.2.2 g hg)⟩

/-- More may be allowed to change. -/
theorem Keeps.mono {fs gs : List Fld} {ps qs : List Part} {s t : State} (h : Keeps fs ps s t) (hf : ∀ f ∈ fs, f ∈ gs)
    (hp : ∀ p, qs.contains p = false → ps.contains p = false) : Keeps gs qs s t :=
  ⟨h.1, fun p k kc => h.2.1 p k (hp p kc), fun g k => h.2.2 g fun f m => k f (hf f m)⟩

/-- A further write of a listed field. -/
theorem Keeps.set {fs : List Fld} {ps : List Part} {s u : State} {f : Fld} {v : Nat} (hf : f ∈ fs) (h : Keeps fs ps s u) :
    Keeps fs ps s (u.set f v) := by
  refine h.trans ⟨by simp, fun p hp _ => ?_, fun g hg => State.get_set_ne ?_⟩
  · cases p <;> first | exact absurd rfl hp | simp [Part.same]
  · rcases hg f hf with k | k
    · exact .inl (Ne.symm k)
    · exact .inr (Ne.symm k)

theorem Keeps.setFlag {fs : List Fld} {ps : List Part} {s u : State} {f : Fld} {b : Bool} (hf : f ∈ fs) (h : Keeps fs ps s u) :
    Keeps fs ps s (u.setFlag f b) := h.set hf

theorem Keeps.setInt {fs : List Fld} {ps : List Part} {s u : State} {f : Fld} {i : Int} (hf : f ∈ fs) (h : Keeps fs ps s u) :
    Keeps fs ps s (u.setInt f i) := h.set hf

/-- A move that leaves the register files alone. -/
theorem Keeps.moves {fs : List Fld} {ps m : List Part} {s u t : State} (k : Moves m u t) (hm : m.all (fun p => p != .files && ps.contains p) = true)
    (h : Keeps fs ps s u) : Keeps fs ps s t := by
  have key : ∀ p, ps.contains p = false ∨ p = .files → m.contains p = false := fun p hp => by
    cases hc : m.contains p with
    | false => rfl
    | true =>
      have := List.all_eq_true.mp hm p (by simpa using hc)
      rcases hp with hp | hp <;> simp_all
  refine h.trans ⟨k.touches.1, fun p _ hc => k.touches.2 p (key p (.inl hc)), fun g _ => ?_⟩
  obtain ⟨h1, h2, h3⟩ := k.touches.2 .files (key .files (.inr rfl))
  unfold State.get State.file
  cases g.dom <;> simp [h1, h2, h3]

theorem get_moves {m : List Part} {u t : State} (k : Moves m u t) (hm : m.contains .files = false) (g : Fld) : t.get g = u.get g := by
  obtain ⟨h1, h2, h3⟩ := k.touches.2 .files hm
  unfold State.get State.file
  cases g.dom <;> simp [h1, h2, h3]

/-- Parts other than the register files are replaced: each one that differs is in the list. -/
theorem Keeps.upd {fs : List Fld} {m : List Part} {s u : State} {a0 a1 a2 a3 a4 a5 a6 a7 a8 a9 a10 a11 a12 a13 a14 a15 a16 a17 a18 a19 a20 a21 a22 a23 a24 a25 a26 a27 a28 a29 a30 a31 a32 a33 a34 a35}
    (h0 : a0 = u.pending) (h1 : a1 = u.regs) (h2 : a2 = u.bkp) (h3 : a3 = u.fuse) (h : Keeps fs m s u)
    (h4 : m.contains .locks = true ∨ a4 = u.locks := by first | exact .inl rfl | with_reducible exact .inr rfl)
    (h5 : m.contains .free = true ∨ a5 = u.freeCount := by first | exact .inl rfl | with_reducible exact .inr rfl)
    (h6 : m.contains .out = true ∨ a6 = u.out := by first | exact .inl rfl | with_reducible exact .inr rfl)
    (h7 : m.contains .boot = true ∨ a7 = u.boot := by first | exact .inl rfl | with_reducible exact .inr rfl)
    (h8 : m.contains .ledger = true ∨ a8 = u.ledger := by first | exact .inl rfl | with_reducible exact .inr rfl)
    (h9 : m.contains .fw = true ∨ a9 = u.fw := by first | exact .inl rfl | with_reducible exact .inr rfl)
    (h10 : m.contains .pins = true ∨ a10 = u.pins := by first | exact .inl rfl | with_reducible exact .inr rfl)
    (h11 : m.contains .env = true ∨ a11 = u.env := by first | exact .inl rfl | with_reducible exact .inr rfl)
    (h12 : m.contains .host = true ∨ a12 = u.host := by first | exact .inl rfl | with_reducible exact .inr rfl)
    (h13 : m.contains .cfg = true ∨ a13 = u.cfg := by first | exact .inl rfl | with_reducible exact .inr rfl)
    (h14 : m.contains .roasts = true ∨ a14 = u.roasts := by first | exact .inl rfl | with_reducible exact .inr rfl)
    (h15 : m.contains .time = true ∨ a15 = u.time := by first | exact .inl rfl | with_reducible exact .inr rfl)
    (h16 : m.contains .keys = true ∨ a16 = u.keys := by first | exact .inl rfl | with_reducible exact .inr rfl)
    (h17 : m.contains .fuses = true ∨ a17 = u.fuses := by first | exact .inl rfl | with_reducible exact .inr rfl)
    (h18 : m.contains .evr = true ∨ a18 = u.evr := by first | exact .inl rfl | with_reducible exact .inr rfl)
    (h19 : m.contains .nvs = true ∨ a19 = u.nvs := by first | exact .inl rfl | with_reducible exact .inr rfl)
    (h20 : m.contains .backup = true ∨ a20 = u.backup := by first | exact .inl rfl | with_reducible exact .inr rfl)
    (h21 : m.contains .pace = true ∨ a21 = u.pace := by first | exact .inl rfl | with_reducible exact .inr rfl)
    (h22 : m.contains .sch = true ∨ a22 = u.sch := by first | exact .inl rfl | with_reducible exact .inr rfl)
    (h23 : m.contains .ports = true ∨ a23 = u.ports := by first | exact .inl rfl | with_reducible exact .inr rfl)
    (h24 : m.contains .ing = true ∨ a24 = u.ing := by first | exact .inl rfl | with_reducible exact .inr rfl)
    (h25 : m.contains .flt = true ∨ a25 = u.flt := by first | exact .inl rfl | with_reducible exact .inr rfl)
    (h26 : m.contains .aln = true ∨ a26 = u.aln := by first | exact .inl rfl | with_reducible exact .inr rfl)
    (h27 : m.contains .runs = true ∨ a27 = u.runs := by first | exact .inl rfl | with_reducible exact .inr rfl)
    (h28 : m.contains .isl = true ∨ a28 = u.isl := by first | exact .inl rfl | with_reducible exact .inr rfl)
    (h29 : m.contains .lse = true ∨ a29 = u.lse := by first | exact .inl rfl | with_reducible exact .inr rfl)
    (h30 : m.contains .osc = true ∨ a30 = u.osc := by first | exact .inl rfl | with_reducible exact .inr rfl)
    (h31 : m.contains .sau = true ∨ a31 = u.sau := by first | exact .inl rfl | with_reducible exact .inr rfl)
    (h32 : m.contains .cap = true ∨ a32 = u.cap := by first | exact .inl rfl | with_reducible exact .inr rfl)
    (h33 : m.contains .nrg = true ∨ a33 = u.nrg := by first | exact .inl rfl | with_reducible exact .inr rfl)
    (h34 : m.contains .alm = true ∨ a34 = u.alm := by first | exact .inl rfl | with_reducible exact .inr rfl)
    (h35 : m.contains .cas = true ∨ a35 = u.cas := by first | exact .inl rfl | with_reducible exact .inr rfl)
    : Keeps fs m s ⟨a0, a1, a2, a3, a4, a5, a6, a7, a8, a9, a10, a11, a12, a13, a14, a15, a16, a17, a18, a19, a20, a21, a22, a23, a24, a25, a26, a27, a28, a29, a30, a31, a32, a33, a34, a35⟩ := by
  subst h0 h1 h2 h3
  have k : Moves m u _ := Moves.upd rfl rfl rfl rfl (Moves.refl m u) h4 h5 h6 h7 h8 h9 h10 h11 h12 h13 h14 h15 h16 h17 h18 h19 h20 h21 h22 h23 h24 h25 h26 h27 h28 h29 h30 h31 h32 h33 h34 h35
  exact h.trans ⟨k.touches.1, fun p _ hc => k.touches.2 p hc, fun g _ => State.get_upd ..⟩

theorem Keeps.count {fs : List Fld} {ps : List Part} {s u : State} {f : Fld} {n : Nat} (hf : f ∈ fs) (h : Keeps fs ps s u) :
    Keeps fs ps s (u.count f n) := h.set hf

theorem Keeps.putBit {fs : List Fld} {ps : List Part} {s u : State} {f : Fld} {k : Nat} {b : Bool} (hf : f ∈ fs) (h : Keeps fs ps s u) :
    Keeps fs ps s (u.putBit f k b) := h.set hf

theorem Keeps.emit {fs : List Fld} {ps : List Part} {s u : State} {o : Output} (hp : ps.contains .out = true) (h : Keeps fs ps s u) :
    Keeps fs ps s (u.emit o) := Keeps.upd rfl rfl rfl rfl h (h6 := .inl hp)

theorem Keeps.vector {fs : List Fld} {ps : List Part} {s u : State} {v : Nat} (hp : ps.contains .out = true) (h : Keeps fs ps s u) :
    Keeps fs ps s (u.vector v) := (h.emit hp).emit hp

theorem Keeps.ite {fs : List Fld} {ps : List Part} {s u v : State} {c : Prop} [Decidable c] (h : Keeps fs ps s u) (k : Keeps fs ps s v) :
    Keeps fs ps s (if c then u else v) := by split <;> assumption

theorem Keeps.irq {fs : List Fld} {ps : List Part} {s u : State} {f m : Fld} {v : Nat} (hf : f ∈ fs) (hp : ps.contains .out = true)
    (h : Keeps fs ps s u) : Keeps fs ps s (u.irq f m v) := Keeps.ite ((h.set hf).vector hp) (h.set hf)

theorem Keeps.irqBit {fs : List Fld} {ps : List Part} {s u : State} {f m : Fld} {k v : Nat} (hf : f ∈ fs) (hp : ps.contains .out = true)
    (h : Keeps fs ps s u) : Keeps fs ps s (u.irqBit f m k v) := Keeps.ite ((h.putBit hf).vector hp) (h.putBit hf)

theorem Keeps.foldl {α : Type} {fs : List Fld} {ps : List Part} {s u : State} {f : State → α → State} {l : List α}
    (hf : ∀ v, ∀ a ∈ l, Keeps fs ps v (f v a)) (h : Keeps fs ps s u) : Keeps fs ps s (l.foldl f u) := by
  induction l generalizing u with
  | nil => exact h
  | cons a l ih => exact ih (fun v b hb => hf v b (List.mem_cons_of_mem _ hb)) (h.trans (hf u a (by simp)))

theorem Keeps.health {fs : List Fld} {ps : List Part} {s u : State} {k : Nat} {b : Bool} (hf : Reg.BOOT_HEALTH.COND ∈ fs)
    (hp : ps.contains .pins = true) (h : Keeps fs ps s u) : Keeps fs ps s (u.health k b) := by
  unfold State.health State.devOk State.setHealth
  exact Keeps.upd rfl rfl rfl rfl (h.putBit hf) (h10 := .inl hp)

theorem Keeps.logReady {fs : List Fld} {ps : List Part} {s u : State} {r : LogRec} (hf : Reg.EVR.DROP_FULL ∈ fs)
    (hp : ps.contains .evr = true) (h : Keeps fs ps s u) : Keeps fs ps s (u.logReady r) := by
  unfold State.logReady
  exact Keeps.ite (h.count hf) (Keeps.upd rfl rfl rfl rfl h (h18 := .inl hp))

theorem Keeps.logPut {fs : List Fld} {ps : List Part} {s u : State} {r : LogRec} {c : Nat} (hf : ∀ f ∈ logFields c, f ∈ fs)
    (hp : ps.contains .evr = true) (ho : ps.contains .out = true) (h : Keeps fs ps s u) : Keeps fs ps s (u.logPut r) := by
  unfold State.logPut
  refine Keeps.ite (Keeps.ite ?_ ?_) (h.logReady (hf _ (by simp [logFields])) hp)
  · exact Keeps.set (hf _ (by simp [logFields])) (Keeps.upd rfl rfl rfl rfl h (h18 := .inl hp))
  · exact Keeps.irq (hf _ (by simp [logFields])) ho (Keeps.count (hf _ (by simp [logFields])) (Keeps.upd rfl rfl rfl rfl h (h18 := .inl hp)))

/-- One of the recorder's own codes: no bucket moves. -/
theorem Keeps.logOwn {fs : List Fld} {ps : List Part} {s u : State} {c src : Nat} {d : Bytes} {k : Nat} (hf : ∀ f ∈ logFields k, f ∈ fs)
    (hp : ps.contains .evr = true) (ho : ps.contains .out = true) (h : Keeps fs ps s u) : Keeps fs ps s (u.logOwn c src d) :=
  (h.logPut hf hp ho).count (hf _ (by simp [logFields]))

/-- An event accepted or suppressed. -/
theorem Keeps.log {fs : List Fld} {ps : List Part} {s u : State} {c src : Nat} {d : Bytes} (hf : ∀ f ∈ logFields c, f ∈ fs)
    (hp : ps.contains .evr = true) (ho : ps.contains .out = true) (h : Keeps fs ps s u) : Keeps fs ps s (u.log c src d) := by
  unfold State.log
  refine Keeps.ite ?_ ?_
  · exact Keeps.count (hf _ (by simp [logFields])) (Keeps.logPut hf hp ho
      (Keeps.set (hf _ (by simp [logFields])) (Keeps.upd rfl rfl rfl rfl h (h18 := .inl hp))))
  · exact Keeps.count (hf _ (by simp [logFields])) (Keeps.count (hf _ (by simp [logFields]))
      (Keeps.upd rfl rfl rfl rfl h (h18 := .inl hp)))

/-- A field outside the list reads as before. -/
theorem Keeps.get {fs : List Fld} {ps : List Part} {s t : State} (h : Keeps fs ps s t) {g : Fld}
    (hg : ∀ f ∈ fs, g.key ≠ f.key ∨ g.dom ≠ f.dom) : t.get g = s.get g := h.2.2 g hg

theorem Ready.guarded {s : State} {who : Requester} (h : Ready s who) (a : Nat) (f : State → State) : s.guarded who a f = f s := by
  simp [State.guarded, h.2.1, h.2.2]

theorem MayWrite.open_ {s : State} {who : Requester} (h : MayWrite s who) (a : Nat) (f : State → State) : s.open_ who a f = f s := by
  simp [State.open_, h.2.1, h.2.2]

/-! ### Places of array elements -/

/-- The place of element `i` of an array. -/
theorem Fld.key_ix {f : Fld} {n st : Nat} {ds : List (Nat × Nat)} (h : f.dims = (n, st) :: ds) (i : Nat) :
    (f.ix i).key = f.key + 8 * (i * st) := by
  unfold Fld.ix; rw [h]; simp only [Fld.key]; omega

/-- Element `i` of two arrays of one stride: distinct where the first elements are. -/
theorem Fld.ix_ne {f g : Fld} (i : Nat) (h : f.key ≠ g.key) (hd : f.dims.head? = g.dims.head?) : (f.ix i).key ≠ (g.ix i).key := by
  cases hf : f.dims with
  | nil =>
    cases hg : g.dims with
    | nil => simpa [Fld.ix, hf, hg] using h
    | cons y ys => simp [hf, hg] at hd
  | cons x xs =>
    cases hg : g.dims with
    | nil => simp [hf, hg] at hd
    | cons y ys =>
      obtain ⟨n, st⟩ := x
      simp only [hf, hg, List.head?_cons, Option.some.injEq] at hd
      rw [Fld.key_ix hf, Fld.key_ix (hd ▸ hg)]
      omega

/-- A field below an array is none of its elements. -/
theorem Fld.ix_above {f g : Fld} (i : Nat) (h : g.key < f.key) : g.key ≠ (f.ix i).key := by
  cases hf : f.dims with
  | nil => simp only [Fld.ix, hf]; omega
  | cons x xs => obtain ⟨n, st⟩ := x; rw [Fld.key_ix hf]; omega

/-- Distinct elements of one array stand apart. -/
theorem Fld.ix_inj {f : Fld} {i j n st : Nat} {ds : List (Nat × Nat)} (h : f.dims = (n, st) :: ds) (hs : 0 < st) (hij : i ≠ j) :
    (f.ix i).key ≠ (f.ix j).key := by
  rw [Fld.key_ix h, Fld.key_ix h]
  intro k
  have : i * st = j * st := by omega
  exact hij (Nat.eq_of_mul_eq_mul_right hs this)

@[simp] theorem Fld.ix_dom (f : Fld) (i : Nat) : (f.ix i).dom = f.dom := by unfold Fld.ix; split <;> rfl
@[simp] theorem Fld.ix_width (f : Fld) (i : Nat) : (f.ix i).width = f.width := by unfold Fld.ix; split <;> rfl

end Sys2Proof.Machine
end

