-- ==== Sys2Proof/Laws/Moves1.lean ====
section
/-! SUPPORT. What each operation can touch, part 1 of 4, in the order in which operations call each other: one law for each one,
which later proofs cite and which its own proof rests on alone. -/

set_option maxRecDepth 4000
set_option linter.unusedTactic false
set_option linter.unreachableTactic false

namespace Sys2Proof.Machine

set_option Elab.async false

theorem moves_count (s : State) (f : Fld) (n : Nat) : Moves [.files] s (State.count s f n) := by
  unfold State.count
  try dsimp only
  repeat' first | exact Eq.refl true | with_reducible (first
    | exact Moves.refl _ _ | assumption | apply Moves.step (moves_set ..))

theorem moves_emit (s : State) (o : Output) : Moves [.out] s (State.emit s o) := by
  unfold State.emit
  try dsimp only
  repeat' first | exact Eq.refl true | with_reducible (first
    | exact Moves.refl _ _ | assumption | refine Moves.upd rfl rfl rfl rfl ?_)

theorem moves_vector (s : State) (v : Nat) : Moves [.out] s (State.vector s v) := by
  unfold State.vector
  try dsimp only
  repeat' first | exact Eq.refl true | with_reducible (first
    | exact Moves.refl _ _ | assumption | apply Moves.step (moves_emit ..))

theorem moves_irq (s : State) (f : Fld) (m : Fld) (vec : Nat) : Moves [.files, .out] s (State.irq s f m vec) := by
  unfold State.irq
  try dsimp only
  repeat' first | exact Eq.refl true | with_reducible (first
    | exact Moves.refl _ _ | assumption | apply Moves.step (moves_vector ..) | apply Moves.step (moves_set ..)
    | refine Moves.ite ?_ ?_)

theorem moves_logReady (s : State) (r : LogRec) : Moves [.files, .evr] s (State.logReady s r) := by
  unfold State.logReady
  try dsimp only
  repeat' first | exact Eq.refl true | with_reducible (first
    | exact Moves.refl _ _ | assumption | apply Moves.step (moves_count ..) | refine Moves.ite ?_ ?_
    | refine Moves.upd rfl rfl rfl rfl ?_)

theorem moves_logPut (s : State) (r : LogRec) : Moves [.files, .out, .evr] s (State.logPut s r) := by
  unfold State.logPut
  try dsimp only
  repeat' first | exact Eq.refl true | with_reducible (first
    | exact Moves.refl _ _ | assumption | apply Moves.step (moves_set ..) | apply Moves.step (moves_irq ..)
    | apply Moves.step (moves_count ..) | apply Moves.step (moves_logReady ..) | refine Moves.ite ?_ ?_
    | refine Moves.upd rfl rfl rfl rfl ?_)

theorem moves_log (s : State) (code : Nat) (source : Nat) (data : Bytes) : Moves [.files, .out, .evr] s (State.log s code source data) := by
  unfold State.log
  try dsimp only
  repeat' first | exact Eq.refl true | with_reducible (first
    | exact Moves.refl _ _ | assumption | apply Moves.step (moves_count ..) | apply Moves.step (moves_logPut ..)
    | apply Moves.step (moves_set ..) | refine Moves.ite ?_ ?_ | refine Moves.upd rfl rfl rfl rfl ?_)

theorem moves_abandon (s : State) (p : Nat) : Moves [.files, .out, .evr, .cas] s (State.abandon s p) := by
  unfold State.abandon
  try dsimp only
  repeat' first | exact Eq.refl true | with_reducible (first
    | exact Moves.refl _ _ | assumption | apply Moves.step (moves_log ..) | refine Moves.upd rfl rfl rfl rfl ?_)

theorem moves_putBit (s : State) (f : Fld) (k : Nat) (b : Bool) : Moves [.files] s (State.putBit s f k b) := by
  unfold State.putBit
  try dsimp only
  repeat' first | exact Eq.refl true | with_reducible (first
    | exact Moves.refl _ _ | assumption | apply Moves.step (moves_set ..))

theorem moves_putStreamBit (s : State) (f : Fld) (i : Nat) (b : Bool) : Moves [.files] s (State.putStreamBit s f i b) := by
  unfold State.putStreamBit
  try dsimp only
  repeat' first | exact Eq.refl true | with_reducible (first
    | exact Moves.refl _ _ | assumption | apply Moves.step (moves_putBit ..))

theorem moves_absentBits (s : State) : Moves [.files] s (State.absentBits s) := by
  unfold State.absentBits
  try dsimp only
  repeat' first | exact Eq.refl true | with_reducible (first
    | exact Moves.refl _ _ | assumption | apply Moves.step (moves_putStreamBit ..) | apply Moves.step (moves_set ..)
    | refine Moves.foldl (fun _ _ => ?_) ?_ | refine Moves.foldlFst (fun _ _ => ?_) ?_ | refine Moves.ite ?_ ?_)

theorem moves_hifErr (s : State) (who : Requester) (f : Fld) (addr : Nat) : Moves [.files, .out] s (State.hifErr s who f addr) := by
  unfold State.hifErr
  try dsimp only
  repeat' first | exact Eq.refl true | with_reducible (first
    | exact Moves.refl _ _ | assumption | apply Moves.step (moves_set ..) | apply Moves.step (moves_emit ..)
    | refine Moves.ite ?_ ?_ | split)

theorem moves_refuseWord (s : State) (who : Requester) (a : Nat) : Moves [.files, .out] s (State.refuseWord s who a) := by
  unfold State.refuseWord
  try dsimp only
  repeat' first | exact Eq.refl true | with_reducible (first
    | exact Moves.refl _ _ | assumption | apply Moves.step (moves_hifErr ..) | refine Moves.ite ?_ ?_)

theorem moves_writeField (s : State) (who : Requester) (addr : Nat) (f0 : Fld) (f : Fld) (v : Nat) : Moves [.files, .out] s (State.writeField s who addr f0 f v) := by
  unfold State.writeField
  try dsimp only
  repeat' first | exact Eq.refl true | with_reducible (first
    | exact Moves.refl _ _ | assumption | apply Moves.step (moves_set ..) | apply Moves.step (moves_hifErr ..)
    | refine Moves.ite ?_ ?_ | split)

theorem moves_storeFields (s : State) (who : Requester) (ws : List (Nat × Nat)) : Moves [.files, .out] s (State.storeFields s who ws) := by
  unfold State.storeFields
  try dsimp only
  repeat' first | exact Eq.refl true | with_reducible (first
    | exact Moves.refl _ _ | assumption | apply Moves.step (moves_writeField ..) | refine Moves.foldl (fun _ _ => ?_) ?_
    | refine Moves.foldlFst (fun _ _ => ?_) ?_ | split)

theorem moves_after {m : List Part} {s u : State} {f : State → Out} (hf : ∀ v, ∃ t, f v = .next t ∧ Moves m v t) (h : Moves m s u) :
    Moves m s (u.after f) := by
  obtain ⟨t, ht, hm⟩ := hf u
  unfold State.after
  rw [ht]
  exact h.trans hm

theorem moves_onBit {m : List Part} {s u : State} {v k : Nat} {f : State → Out} (hf : ∀ v, ∃ t, f v = .next t ∧ Moves m v t)
    (h : Moves m s u) : Moves m s (u.onBit v k f) := by
  unfold State.onBit
  exact Moves.ite (moves_after hf h) h

theorem moves_guarded {m : List Part} {s u : State} {who : Requester} {addr : Nat} {f : State → State}
    (hs : sub [.files, .out] m = true) (hf : ∀ v, Moves m v (f v)) (h : Moves m s u) : Moves m s (u.guarded who addr f) := by
  unfold State.guarded
  refine Moves.ite h (Moves.ite (h.trans (hf u)) (Moves.ite ?_ ?_)) <;> exact Moves.step (moves_hifErr ..) hs h

theorem moves_setLed (s : State) (f : Fld) (k : Nat) (v : Nat) : Moves [.files, .ledger] s (State.setLed s f k v) := by
  unfold State.setLed
  try dsimp only
  repeat' first | exact Eq.refl true | with_reducible (first
    | exact Moves.refl _ _ | assumption | apply Moves.step (moves_set ..) | refine Moves.upd rfl rfl rfl rfl ?_)

theorem moves_clearAttempts (s : State) : Moves [.files, .ledger, .nvs] s (State.clearAttempts s) := by
  unfold State.clearAttempts
  try dsimp only
  repeat' first | exact Eq.refl true | with_reducible (first
    | exact Moves.refl _ _ | assumption | apply Moves.step (moves_setLed ..) | refine Moves.foldl (fun _ _ => ?_) ?_
    | refine Moves.foldlFst (fun _ _ => ?_) ?_ | refine Moves.upd rfl rfl rfl rfl ?_)

theorem moves_execClearAttempts (who : Requester) (s : State) : ∃ nx : State, execClearAttempts who s = .next nx ∧ Moves [.files, .out, .ledger, .nvs] s nx := by
  unfold execClearAttempts
  refine ⟨_, rfl, ?_⟩
  try dsimp only
  repeat' first | exact Eq.refl true | with_reducible (first
    | exact Moves.refl _ _ | assumption | apply moves_guarded | apply Moves.step (moves_clearAttempts ..) | intro _)

theorem moves_setFlag (s : State) (f : Fld) (b : Bool) : Moves [.files] s (State.setFlag s f b) := by
  unfold State.setFlag
  try dsimp only
  repeat' first | exact Eq.refl true | with_reducible (first
    | exact Moves.refl _ _ | assumption | apply Moves.step (moves_set ..))

theorem moves_askTrain (s : State) : Moves [.files, .ledger] s (State.askTrain s) := by
  unfold State.askTrain
  try dsimp only
  repeat' first | exact Eq.refl true | with_reducible (first
    | exact Moves.refl _ _ | assumption | apply Moves.step (moves_setFlag ..) | refine Moves.upd rfl rfl rfl rfl ?_)

theorem moves_execFullTrain (who : Requester) (s : State) : ∃ nx : State, execFullTrain who s = .next nx ∧ Moves [.files, .out, .ledger] s nx := by
  unfold execFullTrain
  refine ⟨_, rfl, ?_⟩
  try dsimp only
  repeat' first | exact Eq.refl true | with_reducible (first
    | exact Moves.refl _ _ | assumption | apply moves_guarded | apply Moves.step (moves_askTrain ..) | intro _)

theorem moves_askCal (s : State) : Moves [.files, .ledger] s (State.askCal s) := by
  unfold State.askCal
  try dsimp only
  repeat' first | exact Eq.refl true | with_reducible (first
    | exact Moves.refl _ _ | assumption | apply Moves.step (moves_setFlag ..) | refine Moves.upd rfl rfl rfl rfl ?_)

theorem moves_execFullCal (who : Requester) (s : State) : ∃ nx : State, execFullCal who s = .next nx ∧ Moves [.files, .out, .ledger] s nx := by
  unfold execFullCal
  refine ⟨_, rfl, ?_⟩
  try dsimp only
  repeat' first | exact Eq.refl true | with_reducible (first
    | exact Moves.refl _ _ | assumption | apply moves_guarded | apply Moves.step (moves_askCal ..) | intro _)

theorem moves_askSafe (s : State) : Moves [.files] s (State.askSafe s) := by
  unfold State.askSafe
  try dsimp only
  repeat' first | exact Eq.refl true | with_reducible (first
    | exact Moves.refl _ _ | assumption | apply Moves.step (moves_setFlag ..))

theorem moves_execStaySafe (who : Requester) (s : State) : ∃ nx : State, execStaySafe who s = .next nx ∧ Moves [.files, .out] s nx := by
  unfold execStaySafe
  refine ⟨_, rfl, ?_⟩
  try dsimp only
  repeat' first | exact Eq.refl true | with_reducible (first
    | exact Moves.refl _ _ | assumption | apply moves_guarded | apply Moves.step (moves_askSafe ..) | intro _)

theorem moves_prefer (s : State) (fw : Bool) (roast : Bool) : Moves [.files, .ledger, .nvs] s (State.prefer s fw roast) := by
  unfold State.prefer
  try dsimp only
  repeat' first | exact Eq.refl true | with_reducible (first
    | exact Moves.refl _ _ | assumption | apply Moves.step (moves_setFlag ..) | refine Moves.upd rfl rfl rfl rfl ?_)

theorem moves_execSlotPreferenceWrite (who : Requester) (fw : Bool) (roast : Bool) (s : State) : ∃ nx : State, execSlotPreferenceWrite who fw roast s = .next nx ∧ Moves [.files, .out, .ledger, .nvs] s nx := by
  unfold execSlotPreferenceWrite
  refine ⟨_, rfl, ?_⟩
  try dsimp only
  repeat' first | exact Eq.refl true | with_reducible (first
    | exact Moves.refl _ _ | assumption | apply moves_guarded | apply Moves.step (moves_prefer ..) | intro _)

theorem moves_bootCtl (s : State) (who : Requester) (v : Nat) : Moves [.files, .out, .ledger, .nvs] s (State.bootCtl s who v) := by
  unfold State.bootCtl
  try dsimp only
  repeat' first | exact Eq.refl true | with_reducible (first
    | exact Moves.refl _ _ | assumption | apply moves_onBit | apply moves_after | apply Moves.outs (moves_execClearAttempts ..)
    | apply Moves.outs (moves_execFullTrain ..) | apply Moves.outs (moves_execFullCal ..)
    | apply Moves.outs (moves_execStaySafe ..) | apply Moves.outs (moves_execSlotPreferenceWrite ..) | refine Moves.ite ?_ ?_
    | intro _ | split)

theorem moves_keyOut_keyOutClear (s : State) (w : Requester) : Moves [.files] s (State.keyOut.keyOutClear s w) := by
  unfold State.keyOut.keyOutClear
  try dsimp only
  repeat' first | exact Eq.refl true | with_reducible (first
    | exact Moves.refl _ _ | assumption | apply Moves.step (moves_set ..) | refine Moves.foldl (fun _ _ => ?_) ?_
    | refine Moves.foldlFst (fun _ _ => ?_) ?_)

theorem moves_keyOut (s : State) (who : Requester) (bs : Bytes) : Moves [.files] s (State.keyOut s who bs) := by
  unfold State.keyOut
  try dsimp only
  repeat' first | exact Eq.refl true | with_reducible (first
    | exact Moves.refl _ _ | assumption | apply Moves.step (moves_keyOut_keyOutClear ..) | apply Moves.step (moves_set ..)
    | refine Moves.foldl (fun _ _ => ?_) ?_ | refine Moves.foldlFst (fun _ _ => ?_) ?_ | split)

theorem moves_keyEnd (s : State) (who : Requester) (result : Nat) (bs : Bytes) : Moves [.files, .out, .keys] s (State.keyEnd s who result bs) := by
  unfold State.keyEnd
  try dsimp only
  repeat' first | exact Eq.refl true | with_reducible (first
    | exact Moves.refl _ _ | assumption | apply Moves.step (moves_keyOut ..) | apply Moves.step (moves_irq ..)
    | apply Moves.step (moves_count ..) | apply Moves.step (moves_setFlag ..) | apply Moves.step (moves_set ..)
    | refine Moves.upd rfl rfl rfl rfl ?_)

theorem moves_journalPut (s : State) (j : JournalRec) (readback : Bool) : Moves [.files, .out, .nvs] s (State.journalPut s j readback) := by
  unfold State.journalPut
  try dsimp only
  repeat' first | exact Eq.refl true | with_reducible (first
    | exact Moves.refl _ _ | assumption | apply Moves.step (moves_count ..) | apply Moves.step (moves_irq ..)
    | refine Moves.ite ?_ ?_ | refine Moves.upd rfl rfl rfl rfl ?_)

theorem moves_putSlot (s : State) (i : Nat) (k : KeySlot) : Moves [.keys] s (State.putSlot s i k) := by
  unfold State.putSlot
  try dsimp only
  repeat' first | exact Eq.refl true | with_reducible (first
    | exact Moves.refl _ _ | assumption | refine Moves.upd rfl rfl rfl rfl ?_)

theorem moves_deriveSlot (s : State) (i : Nat) : Moves [.keys] s (State.deriveSlot s i) := by
  unfold State.deriveSlot
  try dsimp only
  repeat' first | exact Eq.refl true | with_reducible (first
    | exact Moves.refl _ _ | assumption | apply Moves.step (moves_putSlot ..) | refine Moves.ite ?_ ?_)

theorem moves_dropSlot (s : State) (i : Nat) : Moves [.keys] s (State.dropSlot s i) := by
  unfold State.dropSlot
  try dsimp only
  repeat' first | exact Eq.refl true | with_reducible (first
    | exact Moves.refl _ _ | assumption | refine Moves.upd rfl rfl rfl rfl ?_)

theorem moves_keyInvalidateDone (s : State) (j : KeyJob) (readback : Bool) : Moves [.files, .out, .keys, .nvs] s (State.keyInvalidateDone s j readback) := by
  unfold State.keyInvalidateDone
  try dsimp only
  repeat' first | exact Eq.refl true | with_reducible (first
    | exact Moves.refl _ _ | assumption | apply Moves.step (moves_keyEnd ..) | apply Moves.step (moves_journalPut ..)
    | apply Moves.step (moves_deriveSlot ..) | apply Moves.step (moves_dropSlot ..) | refine Moves.foldl (fun _ _ => ?_) ?_
    | refine Moves.foldlFst (fun _ _ => ?_) ?_ | refine Moves.ite ?_ ?_
    | (refine Moves.upd rfl rfl rfl rfl ?_; first | exact Moves.refl _ _ | assumption | apply Moves.step (moves_keyEnd ..) | apply Moves.step (moves_journalPut ..) | apply Moves.step (moves_deriveSlot ..) | apply Moves.step (moves_dropSlot ..) | refine Moves.foldl (fun _ _ => ?_) ?_ | refine Moves.foldlFst (fun _ _ => ?_) ?_ | refine Moves.ite ?_ ?_ | split)
    | split)

theorem moves_keyProvisionDone (s : State) (j : KeyJob) (readback : Bool) : Moves [.files, .out, .keys, .nvs] s (State.keyProvisionDone s j readback) := by
  unfold State.keyProvisionDone
  try dsimp only
  repeat' first | exact Eq.refl true | with_reducible (first
    | exact Moves.refl _ _ | assumption | apply Moves.step (moves_keyEnd ..) | apply Moves.step (moves_journalPut ..)
    | apply Moves.step (moves_dropSlot ..) | apply Moves.step (moves_putSlot ..) | apply Moves.step (moves_setFlag ..)
    | refine Moves.ite ?_ ?_ | split)

theorem moves_setTamperCfg (s : State) (v : Nat) : Moves [.files] s (State.setTamperCfg s v) := by
  unfold State.setTamperCfg
  try dsimp only
  repeat' first | exact Eq.refl true | with_reducible (first
    | exact Moves.refl _ _ | assumption | apply Moves.step (moves_set ..))

theorem moves_keyTamperCfgDone (s : State) (j : KeyJob) (readback : Bool) : Moves [.files, .out, .keys, .nvs] s (State.keyTamperCfgDone s j readback) := by
  unfold State.keyTamperCfgDone
  try dsimp only
  repeat' first | exact Eq.refl true | with_reducible (first
    | exact Moves.refl _ _ | assumption | apply Moves.step (moves_keyEnd ..) | apply Moves.step (moves_journalPut ..)
    | apply Moves.step (moves_setTamperCfg ..) | refine Moves.ite ?_ ?_ | split)

theorem moves_tookFree (s : State) : Moves [.free] s (State.tookFree s) := by
  unfold State.tookFree
  try dsimp only
  repeat' first | exact Eq.refl true | with_reducible (first
    | exact Moves.refl _ _ | assumption | refine Moves.upd rfl rfl rfl rfl ?_)

theorem moves_cutJournal (s : State) : Moves [.files, .free, .out, .keys, .nvs] s s.cutJournal := by
  unfold State.cutJournal
  dsimp only
  split
  · exact Moves.refl _ _
  · refine Moves.ite ?_ (Moves.step (moves_tookFree ..) rfl (Moves.refl _ _))
    exact Moves.upd (u := s.tookFree) rfl rfl rfl rfl (Moves.step (moves_tookFree ..) rfl (Moves.refl _ _))

theorem moves_cutSave (s : State) : Moves [.free, .nvs, .nrg] s (State.cutSave s) := by
  unfold State.cutSave
  try dsimp only
  repeat' first | exact Eq.refl true | with_reducible (first
    | exact Moves.refl _ _ | assumption | apply Moves.step (moves_tookFree ..) | refine Moves.ite ?_ ?_
    | (refine Moves.upd rfl rfl rfl rfl ?_; first | exact Moves.refl _ _ | assumption | apply Moves.step (moves_tookFree ..) | refine Moves.ite ?_ ?_ | split)
    | split)

theorem moves_nrgPush (s : State) : Moves [.backup] s (State.nrgPush s) := by
  unfold State.nrgPush
  try dsimp only
  repeat' first | exact Eq.refl true | with_reducible (first
    | exact Moves.refl _ _ | assumption | refine Moves.ite ?_ ?_ | refine Moves.upd rfl rfl rfl rfl ?_)

theorem moves_cutPulses (s : State) : Moves [.files, .pins, .nrg] s (State.cutPulses s) := by
  unfold State.cutPulses
  try dsimp only
  repeat' first | exact Eq.refl true | with_reducible (first
    | exact Moves.refl _ _ | assumption | apply Moves.step (moves_set ..) | refine Moves.foldl (fun _ _ => ?_) ?_
    | refine Moves.foldlFst (fun _ _ => ?_) ?_ | refine Moves.ite ?_ ?_ | refine Moves.upd rfl rfl rfl rfl ?_)

theorem moves_cleared (s : State) (kind : Nat) (carafe : Bool) : Moves [.files, .locks, .boot, .fw, .pins, .env, .host, .cfg, .roasts, .time, .keys, .evr, .pace, .sch, .ports, .ing, .flt, .aln, .runs, .isl, .lse, .osc, .sau, .cap, .nrg, .alm, .cas] s (s.cleared kind carafe) :=
  ⟨⟨rfl, fun p hp => by cases p <;> first | exact rfl | exact absurd hp (by decide)⟩, fun h => by
    simp only [State.filesOk, Bool.and_eq_true] at h ⊢
    simp [State.cleared, h, RegFile.rising]⟩

theorem moves_doReset (s : State) (kind : Nat) (step : Nat) (also : Nat) (brown : Bool) : Moves [.files, .locks, .free, .out, .boot, .ledger, .fw, .pins, .env, .host, .cfg, .roasts, .time, .keys, .evr, .nvs, .backup, .pace, .sch, .ports, .ing, .flt, .aln, .runs, .isl, .lse, .osc, .sau, .cap, .nrg, .alm, .cas] s (State.doReset s kind step also brown) := by
  unfold State.doReset
  try dsimp only
  repeat' first | exact Eq.refl true | with_reducible (first
    | exact Moves.refl _ _ | assumption | apply Moves.step (moves_cutJournal ..) | apply Moves.step (moves_cutSave ..)
    | apply Moves.step (moves_nrgPush ..) | apply Moves.step (moves_cutPulses ..) | apply Moves.step (moves_cleared ..)
    | apply Moves.step (moves_setFlag ..) | apply Moves.step (moves_set ..) | refine Moves.upd rfl rfl rfl rfl ?_)

theorem moves_reset_ (s : State) (kind : Nat) (co : Bool) (brown : Bool) : Moves [.files, .locks, .free, .out, .boot, .ledger, .fw, .pins, .env, .host, .cfg, .roasts, .time, .keys, .evr, .nvs, .backup, .pace, .sch, .ports, .ing, .flt, .aln, .runs, .isl, .lse, .osc, .sau, .cap, .nrg, .alm, .cas] s (State.reset_ s kind co brown) := by
  unfold State.reset_
  try dsimp only
  repeat' first | exact Eq.refl true | with_reducible (first
    | exact Moves.refl _ _ | assumption | apply Moves.step (moves_doReset ..) | apply Moves.step (moves_set ..)
    | refine Moves.ite ?_ ?_)

theorem moves_execHostSoftReset (who : Requester) (w : SoftReset) (s : State) : ∃ nx : State, execHostSoftReset who w s = .next nx ∧ Moves [.files, .locks, .free, .out, .boot, .ledger, .fw, .pins, .env, .host, .cfg, .roasts, .time, .keys, .evr, .nvs, .backup, .pace, .sch, .ports, .ing, .flt, .aln, .runs, .isl, .lse, .osc, .sau, .cap, .nrg, .alm, .cas] s nx := by
  unfold execHostSoftReset
  refine ⟨_, rfl, ?_⟩
  try dsimp only
  repeat' first | exact Eq.refl true | with_reducible (first
    | exact Moves.refl _ _ | assumption | apply moves_guarded | apply Moves.step (moves_reset_ ..) | apply Moves.idl
    | refine Moves.ite ?_ ?_ | intro _)

theorem moves_execBootRoastGo (who : Requester) (s : State) : ∃ nx : State, execBootRoastGo who s = .next nx ∧ Moves [.files, .out] s nx := by
  unfold execBootRoastGo
  refine ⟨_, rfl, ?_⟩
  try dsimp only
  repeat' first | exact Eq.refl true | with_reducible (first
    | exact Moves.refl _ _ | assumption | apply moves_guarded | apply Moves.step (moves_setFlag ..) | intro _)

theorem moves_open_ {m : List Part} {s u : State} {who : Requester} {addr : Nat} {f : State → State}
    (hs : sub [.files, .out] m = true) (hf : ∀ v, Moves m v (f v)) (h : Moves m s u) : Moves m s (u.open_ who addr f) := by
  unfold State.open_
  exact Moves.ite h (Moves.ite (Moves.step (moves_hifErr ..) hs h) (h.trans (hf u)))

theorem moves_devOk (s : State) : Moves [.pins] s (State.devOk s) := by
  unfold State.devOk
  try dsimp only
  repeat' first | exact Eq.refl true | with_reducible (first
    | exact Moves.refl _ _ | assumption | refine Moves.upd rfl rfl rfl rfl ?_)

theorem moves_setHealth (s : State) (k : Nat) (b : Bool) : Moves [.files] s (State.setHealth s k b) := by
  unfold State.setHealth
  try dsimp only
  repeat' first | exact Eq.refl true | with_reducible (first
    | exact Moves.refl _ _ | assumption | apply Moves.step (moves_putBit ..))

theorem moves_health (s : State) (k : Nat) (b : Bool) : Moves [.files, .pins] s (State.health s k b) := by
  unfold State.health
  try dsimp only
  repeat' first | exact Eq.refl true | with_reducible (first
    | exact Moves.refl _ _ | assumption | apply Moves.step (moves_devOk ..) | apply Moves.step (moves_setHealth ..))

theorem moves_kick (s : State) (who : Requester) : Moves [.files, .pins] s (State.kick s who) := by
  unfold State.kick
  try dsimp only
  repeat' first | exact Eq.refl true | with_reducible (first
    | exact Moves.refl _ _ | assumption | apply Moves.step (moves_health ..) | split)

theorem moves_execHeartbeatKick (who : Requester) (s : State) : ∃ nx : State, execHeartbeatKick who s = .next nx ∧ Moves [.files, .out, .pins] s nx := by
  unfold execHeartbeatKick
  refine ⟨_, rfl, ?_⟩
  try dsimp only
  repeat' first | exact Eq.refl true | with_reducible (first
    | exact Moves.refl _ _ | assumption | apply moves_open_ | apply Moves.step (moves_kick ..) | intro _)

theorem moves_flashStart (s : State) (op : Nat) (slot : Bool) : Moves [.files, .boot] s (State.flashStart s op slot) := by
  unfold State.flashStart
  try dsimp only
  repeat' first | exact Eq.refl true | with_reducible (first
    | exact Moves.refl _ _ | assumption | apply Moves.step (moves_set ..) | apply Moves.step (moves_setFlag ..)
    | refine Moves.ite ?_ ?_ | refine Moves.upd rfl rfl rfl rfl ?_)

theorem moves_execFlashWrite (who : Requester) (s : State) : ∃ nx : State, execFlashWrite who s = .next nx ∧ Moves [.files, .out, .boot] s nx := by
  unfold execFlashWrite
  refine ⟨_, rfl, ?_⟩
  try dsimp only
  repeat' first | exact Eq.refl true | with_reducible (first
    | exact Moves.refl _ _ | assumption | apply moves_guarded | apply Moves.step (moves_flashStart ..) | intro _)

theorem moves_execFlashCheckFirmware (who : Requester) (slot : Bool) (s : State) : ∃ nx : State, execFlashCheckFirmware who slot s = .next nx ∧ Moves [.files, .out, .boot] s nx := by
  unfold execFlashCheckFirmware
  refine ⟨_, rfl, ?_⟩
  try dsimp only
  repeat' first | exact Eq.refl true | with_reducible (first
    | exact Moves.refl _ _ | assumption | apply moves_guarded | apply Moves.step (moves_flashStart ..) | intro _)

theorem moves_execFlashCheckRoast (who : Requester) (slot : Bool) (s : State) : ∃ nx : State, execFlashCheckRoast who slot s = .next nx ∧ Moves [.files, .out, .boot] s nx := by
  unfold execFlashCheckRoast
  refine ⟨_, rfl, ?_⟩
  try dsimp only
  repeat' first | exact Eq.refl true | with_reducible (first
    | exact Moves.refl _ _ | assumption | apply moves_guarded | apply Moves.step (moves_flashStart ..) | intro _)

theorem moves_flashWord (s : State) (who : Requester) (v : Nat) : Moves [.files, .out, .boot] s (State.flashWord s who v) := by
  unfold State.flashWord
  try dsimp only
  repeat' first | exact Eq.refl true | with_reducible (first
    | exact Moves.refl _ _ | assumption | apply moves_after | apply Moves.outs (moves_execFlashWrite ..)
    | apply Moves.outs (moves_execFlashCheckFirmware ..) | apply Moves.outs (moves_execFlashCheckRoast ..) | intro _ | split)

theorem moves_execFwLiveSwitch (who : Requester) (s : State) : ∃ nx : State, execFwLiveSwitch who s = .next nx ∧ Moves [.files, .out, .fw] s nx := by
  unfold execFwLiveSwitch
  refine ⟨_, rfl, ?_⟩
  try dsimp only
  repeat' first | exact Eq.refl true | with_reducible (first
    | exact Moves.refl _ _ | assumption | apply moves_guarded | apply Moves.step (moves_set ..) | refine Moves.ite ?_ ?_ | intro _
    | refine Moves.upd rfl rfl rfl rfl ?_)

theorem moves_execFwLiveCommit (who : Requester) (s : State) : ∃ nx : State, execFwLiveCommit who s = .next nx ∧ Moves [.files, .out, .fw, .sch] s nx := by
  unfold execFwLiveCommit
  refine ⟨_, rfl, ?_⟩
  try dsimp only
  repeat' first | exact Eq.refl true | with_reducible (first
    | exact Moves.refl _ _ | assumption | apply moves_guarded | apply Moves.step (moves_set ..) | refine Moves.ite ?_ ?_ | intro _
    | (refine Moves.upd rfl rfl rfl rfl ?_; first | exact Moves.refl _ _ | assumption | apply moves_guarded | apply Moves.step (moves_set ..) | refine Moves.ite ?_ ?_ | split)
    | split)

theorem moves_execFwLiveAbort (who : Requester) (s : State) : ∃ nx : State, execFwLiveAbort who s = .next nx ∧ Moves [.files, .out, .fw] s nx := by
  unfold execFwLiveAbort
  refine ⟨_, rfl, ?_⟩
  try dsimp only
  repeat' first | exact Eq.refl true | with_reducible (first
    | exact Moves.refl _ _ | assumption | apply moves_guarded | apply Moves.step (moves_set ..) | refine Moves.ite ?_ ?_ | intro _
    | refine Moves.upd rfl rfl rfl rfl ?_)

theorem moves_snapWraps (s : State) (set : Nat) : Moves [.files, .nrg] s (State.snapWraps s set) := by
  unfold State.snapWraps
  try dsimp only
  repeat' first | exact Eq.refl true | with_reducible (first
    | exact Moves.refl _ _ | assumption | apply Moves.step (moves_set ..) | refine Moves.foldl (fun _ _ => ?_) ?_
    | refine Moves.foldlFst (fun _ _ => ?_) ?_ | refine Moves.upd rfl rfl rfl rfl ?_)

theorem moves_execHifSnap (who : Requester) (s : State) : ∃ nx : State, execHifSnap who s = .next nx ∧ Moves [.files, .out, .host, .nrg] s nx := by
  unfold execHifSnap
  refine ⟨_, rfl, ?_⟩
  dsimp only
  refine Moves.ite (Moves.refl _ _) (Moves.ite (Moves.step (moves_hifErr ..) rfl (Moves.refl _ _)) ?_)
  refine Moves.foldl (fun _ _ => Moves.step (moves_set ..) rfl (Moves.refl _ _)) (Moves.step (moves_snapWraps ..) rfl ?_)
  refine ⟨⟨rfl, fun p hp => by cases p <;> first | exact rfl | exact absurd hp (by decide)⟩, fun h => ?_⟩
  simp only [State.filesOk, Bool.and_eq_true] at h ⊢
  exact ⟨⟨RegFile.rising_foldl (fun _ _ => RegFile.rising_insert) (RegFile.rising_filter _ h.1.1), h.1.2⟩, h.2⟩

theorem moves_dropScan (s : State) : Moves [.cfg] s (State.dropScan s) := by
  unfold State.dropScan
  try dsimp only
  repeat' first | exact Eq.refl true | with_reducible (first
    | exact Moves.refl _ _ | assumption | refine Moves.upd rfl rfl rfl rfl ?_)

theorem moves_setSuspend (s : State) (on : Bool) : Moves [.files, .cfg] s (State.setSuspend s on) := by
  unfold State.setSuspend
  try dsimp only
  repeat' first | exact Eq.refl true | with_reducible (first
    | exact Moves.refl _ _ | assumption | apply Moves.step (moves_dropScan ..) | apply Moves.step (moves_setFlag ..)
    | refine Moves.ite ?_ ?_ | refine Moves.upd rfl rfl rfl rfl ?_)

theorem moves_txnEnd (s : State) (result : Nat) : Moves [.files, .out, .cfg] s (State.txnEnd s result) := by
  unfold State.txnEnd
  try dsimp only
  repeat' first | exact Eq.refl true | with_reducible (first
    | exact Moves.refl _ _ | assumption | apply Moves.step (moves_emit ..) | apply Moves.step (moves_setFlag ..)
    | apply Moves.step (moves_set ..) | refine Moves.upd rfl rfl rfl rfl ?_)

theorem moves_endOwner (s : State) : Moves [.files, .out, .cfg] s (State.endOwner s) := by
  unfold State.endOwner
  try dsimp only
  repeat' first | exact Eq.refl true | with_reducible (first
    | exact Moves.refl _ _ | assumption | apply Moves.step (moves_setSuspend ..) | apply Moves.step (moves_set ..)
    | apply Moves.step (moves_txnEnd ..) | refine Moves.ite ?_ ?_)

theorem moves_execOwnerRelease (who : Requester) (s : State) : ∃ nx : State, execOwnerRelease who s = .next nx ∧ Moves [.files, .out, .cfg] s nx := by
  unfold execOwnerRelease
  refine ⟨_, rfl, ?_⟩
  try dsimp only
  repeat' first | exact Eq.refl true | with_reducible (first
    | exact Moves.refl _ _ | assumption | apply moves_open_ | apply Moves.step (moves_endOwner ..) | refine Moves.ite ?_ ?_
    | intro _)

theorem moves_drawNonce (s : State) : Moves [.files, .free] s (State.drawNonce s) := by
  unfold State.drawNonce
  try dsimp only
  repeat' first | exact Eq.refl true | with_reducible (first
    | exact Moves.refl _ _ | assumption | apply Moves.step (moves_tookFree ..) | apply Moves.step (moves_set ..)
    | refine Moves.foldl (fun _ _ => ?_) ?_ | refine Moves.foldlFst (fun _ _ => ?_) ?_)

theorem moves_denyClaim (s : State) : Moves [.files, .free, .host] s (State.denyClaim s) := by
  unfold State.denyClaim
  try dsimp only
  repeat' first | exact Eq.refl true | with_reducible (first
    | exact Moves.refl _ _ | assumption | apply Moves.step (moves_set ..) | apply Moves.step (moves_drawNonce ..)
    | refine Moves.upd rfl rfl rfl rfl ?_)

theorem moves_execOwnerClaim (who : Requester) (s : State) : ∃ nx : State, execOwnerClaim who s = .next nx ∧ Moves [.files, .free, .out, .host] s nx := by
  unfold execOwnerClaim
  refine ⟨_, rfl, ?_⟩
  try dsimp only
  repeat' first | exact Eq.refl true | with_reducible (first
    | exact Moves.refl _ _ | assumption | apply moves_open_ | apply Moves.step (moves_setFlag ..)
    | apply Moves.step (moves_set ..) | apply Moves.step (moves_drawNonce ..) | apply Moves.step (moves_denyClaim ..)
    | refine Moves.ite ?_ ?_ | intro _
    | (refine Moves.upd rfl rfl rfl rfl ?_; first | exact Moves.refl _ _ | assumption | apply moves_open_ | apply Moves.step (moves_setFlag ..) | apply Moves.step (moves_set ..) | apply Moves.step (moves_drawNonce ..) | apply Moves.step (moves_denyClaim ..) | refine Moves.ite ?_ ?_ | split)
    | split)

theorem moves_ownerWrite (s : State) (who : Requester) (v : Nat) : Moves [.files, .free, .out, .host, .cfg] s (State.ownerWrite s who v) := by
  unfold State.ownerWrite
  try dsimp only
  repeat' first | exact Eq.refl true | with_reducible (first
    | exact Moves.refl _ _ | assumption | apply moves_after | apply moves_onBit | apply Moves.outs (moves_execOwnerRelease ..)
    | apply Moves.outs (moves_execOwnerClaim ..) | refine Moves.ite ?_ ?_ | intro _ | split)

theorem moves_execTxnBegin (who : Requester) (s : State) : ∃ nx : State, execTxnBegin who s = .next nx ∧ Moves [.files, .out, .cfg] s nx := by
  unfold execTxnBegin
  refine ⟨_, rfl, ?_⟩
  try dsimp only
  repeat' first | exact Eq.refl true | with_reducible (first
    | exact Moves.refl _ _ | assumption | apply moves_guarded | apply Moves.step (moves_set ..)
    | apply Moves.step (moves_setFlag ..) | refine Moves.ite ?_ ?_ | intro _ | refine Moves.upd rfl rfl rfl rfl ?_)

theorem moves_moveTo (s : State) (t : Tai) : Moves [.time] s (State.moveTo s t) := by
  unfold State.moveTo
  try dsimp only
  repeat' first | exact Eq.refl true | with_reducible (first
    | exact Moves.refl _ _ | assumption | refine Moves.ite ?_ ?_ | refine Moves.upd rfl rfl rfl rfl ?_)

theorem moves_txnTick (s : State) : Moves [.files] s (State.txnTick s) := by
  unfold State.txnTick
  try dsimp only
  repeat' first | exact Eq.refl true | with_reducible (first
    | exact Moves.refl _ _ | assumption | apply Moves.step (moves_set ..) | refine Moves.ite ?_ ?_)

theorem moves_applyStaged (s : State) (addr : Nat) (v : Nat) : Moves [.files] s (State.applyStaged s addr v) := by
  unfold State.applyStaged
  try dsimp only
  repeat' first | exact Eq.refl true | with_reducible (first
    | exact Moves.refl _ _ | assumption | apply Moves.step (moves_set ..) | refine Moves.foldl (fun _ _ => ?_) ?_
    | refine Moves.foldlFst (fun _ _ => ?_) ?_ | refine Moves.ite ?_ ?_)

theorem moves_txnApply (s : State) : Moves [.files, .out, .cfg] s (State.txnApply s) := by
  unfold State.txnApply
  try dsimp only
  repeat' first | exact Eq.refl true | with_reducible (first
    | exact Moves.refl _ _ | assumption | apply Moves.step (moves_applyStaged ..) | apply Moves.step (moves_setFlag ..)
    | apply Moves.step (moves_txnEnd ..) | apply Moves.step (moves_dropScan ..) | apply Moves.step (moves_absentBits ..)
    | refine Moves.foldl (fun _ _ => ?_) ?_ | refine Moves.foldlFst (fun _ _ => ?_) ?_ | refine Moves.ite ?_ ?_)

theorem moves_execTxnCommit (who : Requester) (t : Tai) (s : State) : ∃ nx : State, execTxnCommit who t s = .next nx ∧ Moves [.files, .out, .cfg, .time] s nx := by
  unfold execTxnCommit
  refine ⟨_, rfl, ?_⟩
  try dsimp only
  repeat' first | exact Eq.refl true | with_reducible (first
    | exact Moves.refl _ _ | assumption | apply moves_guarded | apply Moves.step (moves_moveTo ..)
    | apply Moves.step (moves_hifErr ..) | apply Moves.step (moves_txnEnd ..) | apply Moves.step (moves_txnTick ..)
    | apply Moves.step (moves_set ..) | apply Moves.step (moves_txnApply ..) | refine Moves.ite ?_ ?_ | intro _
    | refine Moves.upd rfl rfl rfl rfl ?_)

theorem moves_execTxnRollback (who : Requester) (s : State) : ∃ nx : State, execTxnRollback who s = .next nx ∧ Moves [.files, .out, .cfg] s nx := by
  unfold execTxnRollback
  refine ⟨_, rfl, ?_⟩
  try dsimp only
  repeat' first | exact Eq.refl true | with_reducible (first
    | exact Moves.refl _ _ | assumption | apply moves_guarded | apply Moves.step (moves_txnEnd ..)
    | apply Moves.step (moves_hifErr ..) | refine Moves.ite ?_ ?_ | intro _)

theorem moves_execCrcSuspend (who : Requester) (on : Bool) (s : State) : ∃ nx : State, execCrcSuspend who on s = .next nx ∧ Moves [.files, .out, .cfg] s nx := by
  unfold execCrcSuspend
  refine ⟨_, rfl, ?_⟩
  try dsimp only
  repeat' first | exact Eq.refl true | with_reducible (first
    | exact Moves.refl _ _ | assumption | apply moves_guarded | apply Moves.step (moves_setSuspend ..) | intro _)

theorem moves_adopt (s : State) : Moves [.files, .cfg] s (State.adopt s) := by
  unfold State.adopt
  try dsimp only
  repeat' first | exact Eq.refl true | with_reducible (first
    | exact Moves.refl _ _ | assumption | apply Moves.step (moves_dropScan ..) | apply Moves.step (moves_setFlag ..))

theorem moves_execCrcAdopt (who : Requester) (s : State) : ∃ nx : State, execCrcAdopt who s = .next nx ∧ Moves [.files, .out, .cfg] s nx := by
  unfold execCrcAdopt
  refine ⟨_, rfl, ?_⟩
  try dsimp only
  repeat' first | exact Eq.refl true | with_reducible (first
    | exact Moves.refl _ _ | assumption | apply moves_guarded | apply Moves.step (moves_adopt ..) | intro _)

theorem moves_setRegion (s : State) (r : Nat) (x : Option Roast) : Moves [.roasts] s (State.setRegion s r x) := by
  unfold State.setRegion
  try dsimp only
  repeat' first | exact Eq.refl true | with_reducible (first
    | exact Moves.refl _ _ | assumption | refine Moves.ite ?_ ?_ | refine Moves.upd rfl rfl rfl rfl ?_)

theorem moves_repairHead (s : State) : Moves [.files, .out] s (State.repairHead s) := by
  unfold State.repairHead
  try dsimp only
  repeat' first | exact Eq.refl true | with_reducible (first
    | exact Moves.refl _ _ | assumption | apply Moves.step (moves_setFlag ..) | apply Moves.step (moves_vector ..)
    | apply Moves.step (moves_set ..) | refine Moves.ite ?_ ?_ | split)

theorem moves_emptyRegion (s : State) (r : Nat) : Moves [.files, .out, .roasts] s (State.emptyRegion s r) := by
  unfold State.emptyRegion
  try dsimp only
  repeat' first | exact Eq.refl true | with_reducible (first
    | exact Moves.refl _ _ | assumption | apply Moves.step (moves_setRegion ..) | apply Moves.step (moves_repairHead ..)
    | refine Moves.upd rfl rfl rfl rfl ?_)

theorem moves_roastLoad (s : State) (src : Nat) : Moves [.files, .out, .roasts] s (State.roastLoad s src) := by
  unfold State.roastLoad
  try dsimp only
  repeat' first | exact Eq.refl true | with_reducible (first
    | exact Moves.refl _ _ | assumption | apply Moves.step (moves_set ..) | apply Moves.step (moves_setFlag ..)
    | apply Moves.step (moves_emptyRegion ..) | refine Moves.ite ?_ ?_ | refine Moves.upd rfl rfl rfl rfl ?_)

theorem moves_execRoastLoad (who : Requester) (src : Nat) (s : State) : ∃ nx : State, execRoastLoad who src s = .next nx ∧ Moves [.files, .out, .roasts] s nx := by
  unfold execRoastLoad
  refine ⟨_, rfl, ?_⟩
  try dsimp only
  repeat' first | exact Eq.refl true | with_reducible (first
    | exact Moves.refl _ _ | assumption | apply moves_guarded | apply Moves.step (moves_roastLoad ..) | intro _)

theorem moves_roastDiscard (s : State) : Moves [.files, .out, .roasts] s (State.roastDiscard s) := by
  unfold State.roastDiscard
  try dsimp only
  repeat' first | exact Eq.refl true | with_reducible (first
    | exact Moves.refl _ _ | assumption | apply Moves.step (moves_vector ..) | apply Moves.step (moves_set ..)
    | apply Moves.step (moves_emptyRegion ..) | apply Moves.step (moves_setFlag ..) | refine Moves.ite ?_ ?_ | split)

theorem moves_execRoastDiscard (who : Requester) (s : State) : ∃ nx : State, execRoastDiscard who s = .next nx ∧ Moves [.files, .out, .roasts] s nx := by
  unfold execRoastDiscard
  refine ⟨_, rfl, ?_⟩
  try dsimp only
  repeat' first | exact Eq.refl true | with_reducible (first
    | exact Moves.refl _ _ | assumption | apply moves_guarded | apply Moves.step (moves_roastDiscard ..) | intro _)

theorem moves_raiseFloor (s : State) : Moves [.files, .nvs] s (State.raiseFloor s) := by
  unfold State.raiseFloor
  try dsimp only
  repeat' first | exact Eq.refl true | with_reducible (first
    | exact Moves.refl _ _ | assumption | apply Moves.step (moves_set ..) | refine Moves.upd rfl rfl rfl rfl ?_)

theorem moves_execRaiseFloor (who : Requester) (s : State) : ∃ nx : State, execRaiseFloor who s = .next nx ∧ Moves [.files, .out, .nvs] s nx := by
  unfold execRaiseFloor
  refine ⟨_, rfl, ?_⟩
  try dsimp only
  repeat' first | exact Eq.refl true | with_reducible (first
    | exact Moves.refl _ _ | assumption | apply moves_guarded | apply Moves.step (moves_raiseFloor ..) | intro _)

theorem moves_roastCtl (s : State) (who : Requester) (v : Nat) : Moves [.files, .out, .roasts, .nvs] s (State.roastCtl s who v) := by
  unfold State.roastCtl
  try dsimp only
  repeat' first | exact Eq.refl true | with_reducible (first
    | exact Moves.refl _ _ | assumption | apply moves_guarded | apply Moves.step (moves_setFlag ..)
    | apply Moves.step (moves_set ..) | apply moves_onBit | apply Moves.outs (moves_execRoastLoad ..)
    | apply Moves.outs (moves_execRoastDiscard ..) | apply Moves.outs (moves_execRaiseFloor ..) | refine Moves.ite ?_ ?_ | intro _)

theorem moves_swapEnd (s : State) (result : Nat) : Moves [.files] s (State.swapEnd s result) := by
  unfold State.swapEnd
  try dsimp only
  repeat' first | exact Eq.refl true | with_reducible (first
    | exact Moves.refl _ _ | assumption | apply Moves.step (moves_setFlag ..) | apply Moves.step (moves_set ..))

theorem moves_swapJudge (s : State) : Moves [.files, .roasts, .ing] s (State.swapJudge s) := by
  unfold State.swapJudge
  try dsimp only
  repeat' first | exact Eq.refl true | with_reducible (first
    | exact Moves.refl _ _ | assumption | apply Moves.step (moves_swapEnd ..) | apply Moves.step (moves_set ..)
    | refine Moves.foldl (fun _ _ => ?_) ?_ | refine Moves.foldlFst (fun _ _ => ?_) ?_ | refine Moves.ite ?_ ?_
    | refine Moves.upd rfl rfl rfl rfl ?_)

theorem moves_swapRequest (s : State) : Moves [.files, .roasts, .ing] s (State.swapRequest s) := by
  unfold State.swapRequest
  try dsimp only
  repeat' first | exact Eq.refl true | with_reducible (first
    | exact Moves.refl _ _ | assumption | apply Moves.step (moves_setFlag ..) | apply Moves.step (moves_set ..)
    | apply Moves.step (moves_swapJudge ..) | refine Moves.ite ?_ ?_ | refine Moves.upd rfl rfl rfl rfl ?_)

theorem moves_execSwapRequest (who : Requester) (d : Nat) (auto : Bool) (s : State) : ∃ nx : State, execSwapRequest who d auto s = .next nx ∧ Moves [.files, .out, .roasts, .ing] s nx := by
  unfold execSwapRequest
  refine ⟨_, rfl, ?_⟩
  try dsimp only
  repeat' first | exact Eq.refl true | with_reducible (first
    | exact Moves.refl _ _ | assumption | apply moves_guarded | apply Moves.step (moves_swapRequest ..)
    | apply Moves.step (moves_setFlag ..) | apply Moves.step (moves_set ..) | intro _)

theorem moves_swapCancel (s : State) : Moves [.files] s (State.swapCancel s) := by
  unfold State.swapCancel
  try dsimp only
  repeat' first | exact Eq.refl true | with_reducible (first
    | exact Moves.refl _ _ | assumption | apply Moves.step (moves_swapEnd ..) | refine Moves.ite ?_ ?_ | split)

theorem moves_execSwapCancel (who : Requester) (s : State) : ∃ nx : State, execSwapCancel who s = .next nx ∧ Moves [.files, .out] s nx := by
  unfold execSwapCancel
  refine ⟨_, rfl, ?_⟩
  try dsimp only
  repeat' first | exact Eq.refl true | with_reducible (first
    | exact Moves.refl _ _ | assumption | apply moves_guarded | apply Moves.step (moves_swapCancel ..) | intro _)

theorem moves_execRepairGo (who : Requester) (s : State) : ∃ nx : State, execRepairGo who s = .next nx ∧ Moves [.files, .out, .roasts] s nx := by
  unfold execRepairGo
  refine ⟨_, rfl, ?_⟩
  try dsimp only
  repeat' first | exact Eq.refl true | with_reducible (first
    | exact Moves.refl _ _ | assumption | apply moves_guarded | refine Moves.ite ?_ ?_ | intro _
    | refine Moves.upd rfl rfl rfl rfl ?_)

theorem moves_hostWord (s : State) (who : Requester) (a : Nat) (v : Nat) : Moves [.files, .locks, .free, .out, .boot, .ledger, .fw, .pins, .env, .host, .cfg, .roasts, .time, .keys, .evr, .nvs, .backup, .pace, .sch, .ports, .ing, .flt, .aln, .runs, .isl, .lse, .osc, .sau, .cap, .nrg, .alm, .cas] s (State.hostWord s who a v) := by
  unfold State.hostWord
  try dsimp only
  repeat' first | exact Eq.refl true | with_reducible (first
    | exact Moves.refl _ _ | assumption | apply Moves.step (moves_bootCtl ..) | apply moves_after | apply moves_onBit
    | apply Moves.step (moves_flashWord ..) | apply Moves.step (moves_ownerWrite ..) | apply Moves.step (moves_roastCtl ..)
    | apply Moves.step (moves_devOk ..) | apply Moves.outs (moves_execHostSoftReset ..)
    | apply Moves.outs (moves_execBootRoastGo ..) | apply Moves.outs (moves_execHeartbeatKick ..)
    | apply Moves.outs (moves_execFwLiveSwitch ..) | apply Moves.outs (moves_execFwLiveCommit ..)
    | apply Moves.outs (moves_execFwLiveAbort ..) | apply Moves.outs (moves_execHifSnap ..)
    | apply Moves.outs (moves_execTxnBegin ..) | apply Moves.outs (moves_execTxnCommit ..)
    | apply Moves.outs (moves_execTxnRollback ..) | apply Moves.outs (moves_execCrcSuspend ..)
    | apply Moves.outs (moves_execCrcAdopt ..) | apply Moves.outs (moves_execSwapRequest ..)
    | apply Moves.outs (moves_execSwapCancel ..) | apply Moves.outs (moves_execRepairGo ..) | refine Moves.ite ?_ ?_ | intro _
    | split)

theorem moves_enFields (s : State) (b : Block) (v : Bool) : Moves [.files] s (State.enFields s b v) := by
  unfold State.enFields
  try dsimp only
  repeat' first | exact Eq.refl true | with_reducible (first
    | exact Moves.refl _ _ | assumption | apply Moves.step (moves_setFlag ..) | refine Moves.ite ?_ ?_)

theorem moves_enWrite {m : List Part} {s u : State} {b : Block} {v : Bool} {start stop : State → State}
    (hs : sub [.files] m = true) (hf : ∀ v, Moves m v (start v)) (hg : ∀ v, Moves m v (stop v)) (h : Moves m s u) :
    Moves m s (u.enWrite b v start stop) := by
  unfold State.enWrite
  have h1 : Moves m s (u.enFields b v) := Moves.step (moves_enFields ..) hs h
  refine Moves.ite h (Moves.ite (Moves.step (moves_setFlag ..) hs h) ?_)
  split
  · exact h1
  · exact h1.trans (hf _)
  · exact h1.trans (hg _)

theorem moves_setPort (s : State) (p : Nat) (x : Port) : Moves [.ports] s (State.setPort s p x) := by
  unfold State.setPort
  try dsimp only
  repeat' first | exact Eq.refl true | with_reducible (first
    | exact Moves.refl _ _ | assumption | refine Moves.upd rfl rfl rfl rfl ?_)

theorem moves_startFrom (s : State) (p : Nat) (q : Nat) : Moves [.files, .ports] s (State.startFrom s p q) := by
  unfold State.startFrom
  try dsimp only
  repeat' first | exact Eq.refl true | with_reducible (first
    | exact Moves.refl _ _ | assumption | apply Moves.step (moves_setFlag ..) | apply Moves.step (moves_setPort ..)
    | refine Moves.ite ?_ ?_ | split)

theorem moves_startTx (s : State) (p : Nat) : Moves [.files, .ports] s (State.startTx s p) := by
  unfold State.startTx
  try dsimp only
  repeat' first | exact Eq.refl true | with_reducible (first
    | exact Moves.refl _ _ | assumption | apply Moves.step (moves_startFrom ..) | apply Moves.step (moves_count ..)
    | apply Moves.step (moves_setPort ..) | refine Moves.ite ?_ ?_ | split)

theorem moves_pubDrop (s : State) (f : TxFrame) : Moves [.files, .out] s (State.pubDrop s f) := by
  unfold State.pubDrop
  try dsimp only
  repeat' first | exact Eq.refl true | with_reducible (first
    | exact Moves.refl _ _ | assumption | apply Moves.step (moves_irq ..) | split)

theorem moves_ringWrite (s : State) (r : Ring) (addr : Nat) (bs : Bytes) : Moves [.out] s (State.ringWrite s r addr bs) := by
  unfold State.ringWrite
  try dsimp only
  repeat' first | exact Eq.refl true | with_reducible (first
    | exact Moves.refl _ _ | assumption | apply Moves.step (moves_emit ..) | refine Moves.ite ?_ ?_)

theorem moves_irqBit (s : State) (f : Fld) (m : Fld) (k : Nat) (vec : Nat) : Moves [.files, .out] s (State.irqBit s f m k vec) := by
  unfold State.irqBit
  try dsimp only
  repeat' first | exact Eq.refl true | with_reducible (first
    | exact Moves.refl _ _ | assumption | apply Moves.step (moves_vector ..) | apply Moves.step (moves_putBit ..)
    | refine Moves.ite ?_ ?_)

theorem moves_macIrq (s : State) (p : Nat) (f : Fld) (k : Nat) : Moves [.files, .out] s (State.macIrq s p f k) := by
  unfold State.macIrq
  try dsimp only
  repeat' first | exact Eq.refl true | with_reducible (first
    | exact Moves.refl _ _ | assumption | apply Moves.step (moves_irqBit ..))

theorem moves_setTcb (s : State) (t : Nat) (b : Tcb) : Moves [.sch] s (State.setTcb s t b) := by
  unfold State.setTcb
  try dsimp only
  repeat' first | exact Eq.refl true | with_reducible (first
    | exact Moves.refl _ _ | assumption | refine Moves.upd rfl rfl rfl rfl ?_)

theorem moves_setCore (s : State) (p : Nat) (c : Core) : Moves [.sch] s (State.setCore s p c) := by
  unfold State.setCore
  try dsimp only
  repeat' first | exact Eq.refl true | with_reducible (first
    | exact Moves.refl _ _ | assumption | refine Moves.upd rfl rfl rfl rfl ?_)

theorem moves_answerWork (s : State) (p : Nat) (thread : Nat) (valid : Bool) (reason : Nat) (obj : Nat) : Moves [.files] s (State.answerWork s p thread valid reason obj) := by
  unfold State.answerWork
  try dsimp only
  repeat' first | exact Eq.refl true | with_reducible (first
    | exact Moves.refl _ _ | assumption | apply Moves.step (moves_set ..) | apply Moves.step (moves_setFlag ..))

theorem moves_unpreempt (s : State) (p : Nat) : Moves [.files, .sch] s (State.unpreempt s p) := by
  unfold State.unpreempt
  try dsimp only
  repeat' first | exact Eq.refl true | with_reducible (first
    | exact Moves.refl _ _ | assumption | apply Moves.step (moves_setFlag ..) | apply Moves.step (moves_setCore ..))

theorem moves_handOut (s : State) (p : Nat) (t : Nat) : Moves [.files, .sch] s (State.handOut s p t) := by
  unfold State.handOut
  try dsimp only
  repeat' first | exact Eq.refl true | with_reducible (first
    | exact Moves.refl _ _ | assumption | apply Moves.step (moves_setTcb ..) | apply Moves.step (moves_setCore ..)
    | apply Moves.step (moves_count ..) | apply Moves.step (moves_set ..) | apply Moves.step (moves_answerWork ..)
    | apply Moves.step (moves_unpreempt ..) | refine Moves.foldl (fun _ _ => ?_) ?_ | refine Moves.foldlFst (fun _ _ => ?_) ?_
    | (refine Moves.upd rfl rfl rfl rfl ?_; first | exact Moves.refl _ _ | assumption | apply Moves.step (moves_setTcb ..) | apply Moves.step (moves_setCore ..) | apply Moves.step (moves_count ..) | apply Moves.step (moves_set ..) | apply Moves.step (moves_answerWork ..) | apply Moves.step (moves_unpreempt ..) | refine Moves.foldl (fun _ _ => ?_) ?_ | refine Moves.foldlFst (fun _ _ => ?_) ?_ | split)
    | split)

theorem moves_raisePreempt (s : State) (p : Nat) (t : Option Nat) : Moves [.files, .sch] s (State.raisePreempt s p t) := by
  unfold State.raisePreempt
  try dsimp only
  repeat' first | exact Eq.refl true | with_reducible (first
    | exact Moves.refl _ _ | assumption | apply Moves.step (moves_setFlag ..) | apply Moves.step (moves_setCore ..)
    | refine Moves.ite ?_ ?_)

theorem moves_makeReady (s : State) (t : Nat) (reason : Nat) (obj : Nat) : Moves [.files, .sch] s (State.makeReady s t reason obj) := by
  unfold State.makeReady
  try dsimp only
  repeat' first | exact Eq.refl true | with_reducible (first
    | exact Moves.refl _ _ | assumption | apply Moves.step (moves_setTcb ..) | apply Moves.step (moves_handOut ..)
    | apply Moves.step (moves_raisePreempt ..)
    | (refine Moves.upd rfl rfl rfl rfl ?_; first | exact Moves.refl _ _ | assumption | apply Moves.step (moves_setTcb ..) | apply Moves.step (moves_handOut ..) | apply Moves.step (moves_raisePreempt ..) | split)
    | split)

theorem moves_setObj (s : State) (o : Nat) (x : WaitObj) : Moves [.sch] s (State.setObj s o x) := by
  unfold State.setObj
  try dsimp only
  repeat' first | exact Eq.refl true | with_reducible (first
    | exact Moves.refl _ _ | assumption | refine Moves.upd rfl rfl rfl rfl ?_)

theorem moves_objSignal (s : State) (o : Nat) : Moves [.files, .sch] s (State.objSignal s o) := by
  unfold State.objSignal
  try dsimp only
  repeat' first | exact Eq.refl true | with_reducible (first
    | exact Moves.refl _ _ | assumption | apply Moves.step (moves_makeReady ..) | apply Moves.step (moves_setObj ..)
    | apply Moves.step (moves_count ..) | refine Moves.ite ?_ ?_
    | (refine Moves.upd rfl rfl rfl rfl ?_; first | exact Moves.refl _ _ | assumption | apply Moves.step (moves_makeReady ..) | apply Moves.step (moves_setObj ..) | apply Moves.step (moves_count ..) | refine Moves.ite ?_ ?_ | split)
    | split)

theorem moves_ringRaise (s : State) (r : Ring) : Moves [.files, .out, .sch] s (State.ringRaise s r) := by
  unfold State.ringRaise
  try dsimp only
  repeat' first | exact Eq.refl true | with_reducible (first
    | exact Moves.refl _ _ | assumption | apply Moves.step (moves_macIrq ..) | apply Moves.step (moves_vector ..)
    | apply Moves.step (moves_objSignal ..) | apply Moves.step (moves_emit ..) | refine Moves.ite ?_ ?_ | split)

theorem moves_ringEvent (s : State) (r : Ring) : Moves [.files, .out, .sch, .ports] s (State.ringEvent s r) := by
  unfold State.ringEvent
  try dsimp only
  repeat' first | exact Eq.refl true | with_reducible (first
    | exact Moves.refl _ _ | assumption | apply Moves.step (moves_ringRaise ..) | refine Moves.ite ?_ ?_
    | (refine Moves.upd rfl rfl rfl rfl ?_; first | exact Moves.refl _ _ | assumption | apply Moves.step (moves_ringRaise ..) | refine Moves.ite ?_ ?_ | split)
    | split)

theorem moves_descDone (s : State) (r : Ring) (addr : Nat) (word : Nat) (linkDrop : Bool) (refused : Bool) (stamp : Option Tai) : Moves [.files, .out, .sch, .ports] s (State.descDone s r addr word linkDrop refused stamp) := by
  unfold State.descDone
  try dsimp only
  repeat' first | exact Eq.refl true | with_reducible (first
    | exact Moves.refl _ _ | assumption | apply Moves.step (moves_ringWrite ..) | apply Moves.step (moves_ringEvent ..)
    | refine Moves.ite ?_ ?_ | split)

theorem moves_frameDone (s : State) (f : TxFrame) (linkDrop : Bool) (refused : Bool) (stamp : Option Tai) : Moves [.files, .out, .sch, .ports] s (State.frameDone s f linkDrop refused stamp) := by
  unfold State.frameDone
  try dsimp only
  repeat' first | exact Eq.refl true | with_reducible (first
    | exact Moves.refl _ _ | assumption | apply Moves.step (moves_descDone ..) | refine Moves.ite ?_ ?_ | split)

theorem moves_linkDropFrame (s : State) (p : Nat) (f : TxFrame) : Moves [.files, .out, .sch, .ports] s (State.linkDropFrame s p f) := by
  unfold State.linkDropFrame
  try dsimp only
  repeat' first | exact Eq.refl true | with_reducible (first
    | exact Moves.refl _ _ | assumption | apply Moves.step (moves_pubDrop ..) | apply Moves.step (moves_frameDone ..)
    | apply Moves.step (moves_count ..))

theorem moves_preempt (s : State) (p : Nat) : Moves [.files, .free, .ports] s (State.preempt s p) := by
  unfold State.preempt
  try dsimp only
  repeat' first | exact Eq.refl true | with_reducible (first
    | exact Moves.refl _ _ | assumption | apply Moves.step (moves_tookFree ..) | apply Moves.step (moves_count ..)
    | apply Moves.step (moves_setPort ..) | refine Moves.ite ?_ ?_ | split)

theorem moves_enqueue (s : State) (p : Nat) (q : Nat) (f : TxFrame) : Moves [.files, .free, .out, .sch, .ports] s (State.enqueue s p q f) := by
  unfold State.enqueue
  try dsimp only
  repeat' first | exact Eq.refl true | with_reducible (first
    | exact Moves.refl _ _ | assumption | apply Moves.step (moves_linkDropFrame ..) | apply Moves.step (moves_setPort ..)
    | apply Moves.step (moves_preempt ..) | apply Moves.step (moves_startTx ..) | refine Moves.ite ?_ ?_)

theorem moves_hsrDrain (s : State) (p : Nat) : Moves [.files, .free, .out, .sch, .ports] s (State.hsrDrain s p) := by
  unfold State.hsrDrain
  try dsimp only
  repeat' first | exact Eq.refl true | with_reducible (first
    | exact Moves.refl _ _ | assumption | apply Moves.step (moves_enqueue ..) | apply Moves.step (moves_setPort ..)
    | refine Moves.foldl (fun _ _ => ?_) ?_ | refine Moves.foldlFst (fun _ _ => ?_) ?_ | refine Moves.ite ?_ ?_)

theorem moves_flushLink (s : State) (p : Nat) : Moves [.files, .free, .out, .sch, .ports] s (State.flushLink s p) := by
  unfold State.flushLink
  try dsimp only
  repeat' first | exact Eq.refl true | with_reducible (first
    | exact Moves.refl _ _ | assumption | apply Moves.step (moves_hsrDrain ..) | apply Moves.step (moves_linkDropFrame ..)
    | apply Moves.step (moves_setPort ..) | refine Moves.foldl (fun _ _ => ?_) ?_ | refine Moves.foldlFst (fun _ _ => ?_) ?_)

theorem moves_portStart (s : State) (p : Nat) : Moves [.files, .free, .out, .pins, .sch, .ports] s (State.portStart s p) := by
  unfold State.portStart
  try dsimp only
  repeat' first | exact Eq.refl true | with_reducible (first
    | exact Moves.refl _ _ | assumption | apply Moves.step (moves_startTx ..) | apply Moves.step (moves_flushLink ..)
    | refine Moves.ite ?_ ?_ | refine Moves.upd rfl rfl rfl rfl ?_)

theorem moves_portEn (s : State) (who : Requester) (p : Nat) (en : Bool) : Moves [.files, .free, .out, .pins, .sch, .ports] s (State.portEn s who p en) := by
  unfold State.portEn
  try dsimp only
  repeat' first | exact Eq.refl true | with_reducible (first
    | exact Moves.refl _ _ | assumption | apply Moves.step (moves_hifErr ..) | apply moves_enWrite
    | apply Moves.step (moves_portStart ..) | apply Moves.idl | refine Moves.ite ?_ ?_ | intro _)

theorem moves_execPortEnable (who : Requester) (p : Nat) (en : Bool) (s : State) : ∃ nx : State, execPortEnable who p en s = .next nx ∧ Moves [.files, .free, .out, .pins, .sch, .ports] s nx := by
  unfold execPortEnable
  refine ⟨_, rfl, ?_⟩
  try dsimp only
  repeat' first | exact Eq.refl true | with_reducible (first
    | exact Moves.refl _ _ | assumption | apply moves_open_ | apply Moves.step (moves_portEn ..) | intro _)

theorem moves_ingEn (s : State) (n : Nat) (en : Bool) : Moves [.files] s (State.ingEn s n en) := by
  unfold State.ingEn
  try dsimp only
  repeat' first | exact Eq.refl true | with_reducible (first
    | exact Moves.refl _ _ | assumption | apply moves_enWrite | apply Moves.idl | refine Moves.ite ?_ ?_ | intro _)

theorem moves_execIngressQueueEnable (who : Requester) (n : Nat) (en : Bool) (s : State) : ∃ nx : State, execIngressQueueEnable who n en s = .next nx ∧ Moves [.files, .out] s nx := by
  unfold execIngressQueueEnable
  refine ⟨_, rfl, ?_⟩
  try dsimp only
  repeat' first | exact Eq.refl true | with_reducible (first
    | exact Moves.refl _ _ | assumption | apply moves_open_ | apply Moves.step (moves_ingEn ..) | intro _)

theorem moves_ingShow (s : State) (n : Nat) : Moves [.files, .out] s (State.ingShow s n) := by
  unfold State.ingShow
  try dsimp only
  repeat' first | exact Eq.refl true | with_reducible (first
    | exact Moves.refl _ _ | assumption | apply Moves.step (moves_set ..) | apply Moves.step (moves_vector ..)
    | apply Moves.step (moves_setFlag ..) | refine Moves.ite ?_ ?_ | split)

theorem moves_ingRead (s : State) (n : Nat) (words : Nat) : Moves [.files] s (State.ingRead s n words) := by
  unfold State.ingRead
  try dsimp only
  repeat' first | exact Eq.refl true | with_reducible (first
    | exact Moves.refl _ _ | assumption | apply Moves.step (moves_set ..))

theorem moves_setIngQ (s : State) (n : Nat) (q : IngQueue) : Moves [.ports] s (State.setIngQ s n q) := by
  unfold State.setIngQ
  try dsimp only
  repeat' first | exact Eq.refl true | with_reducible (first
    | exact Moves.refl _ _ | assumption | refine Moves.upd rfl rfl rfl rfl ?_)

theorem moves_ingPop (s : State) (n : Nat) : Moves [.files, .out, .ports] s (State.ingPop s n) := by
  unfold State.ingPop
  try dsimp only
  repeat' first | exact Eq.refl true | with_reducible (first
    | exact Moves.refl _ _ | assumption | apply Moves.step (moves_ingShow ..) | apply Moves.step (moves_ingRead ..)
    | apply Moves.step (moves_setIngQ ..) | split)

theorem moves_ingWrite (s : State) (n : Nat) (words : Nat) : Moves [.files] s (State.ingWrite s n words) := by
  unfold State.ingWrite
  try dsimp only
  repeat' first | exact Eq.refl true | with_reducible (first
    | exact Moves.refl _ _ | assumption | apply Moves.step (moves_set ..))

theorem moves_dregsArriving (s : State) (n : Nat) (words : Nat) : Moves [.files, .out, .ports] s (State.dregsArriving s n words) := by
  unfold State.dregsArriving
  try dsimp only
  repeat' first | exact Eq.refl true | with_reducible (first
    | exact Moves.refl _ _ | assumption | apply Moves.step (moves_ingShow ..) | apply Moves.step (moves_ingWrite ..)
    | apply Moves.step (moves_setIngQ ..) | apply Moves.step (moves_count ..) | apply Moves.step (moves_ingRead ..))

theorem moves_dregs (s : State) (n : Nat) (seqMatch : Bool) (m : DregsMark) : Moves [.files, .out, .ports] s (State.dregs s n seqMatch m) := by
  unfold State.dregs
  try dsimp only
  repeat' first | exact Eq.refl true | with_reducible (first
    | exact Moves.refl _ _ | assumption | apply Moves.step (moves_setFlag ..) | apply Moves.step (moves_count ..)
    | apply Moves.step (moves_ingPop ..) | apply Moves.step (moves_dregsArriving ..) | refine Moves.ite ?_ ?_ | split)

theorem moves_execDregs (who : Requester) (n : Nat) (seqMatch : Bool) (mark : DregsMark) (s : State) : ∃ nx : State, execDregs who n seqMatch mark s = .next nx ∧ Moves [.files, .out, .ports] s nx := by
  unfold execDregs
  refine ⟨_, rfl, ?_⟩
  try dsimp only
  repeat' first | exact Eq.refl true | with_reducible (first
    | exact Moves.refl _ _ | assumption | apply moves_open_ | apply Moves.step (moves_dregs ..) | refine Moves.ite ?_ ?_ | intro _)

theorem moves_ringEn (s : State) (r : Ring) (en : Bool) : Moves [.files] s (State.ringEn s r en) := by
  unfold State.ringEn
  try dsimp only
  repeat' first | exact Eq.refl true | with_reducible (first
    | exact Moves.refl _ _ | assumption | apply moves_enWrite | apply Moves.idl | refine Moves.ite ?_ ?_ | intro _)

theorem moves_execRingEnable (who : Requester) (r : Ring) (en : Bool) (s : State) : ∃ nx : State, execRingEnable who r en s = .next nx ∧ Moves [.files, .out] s nx := by
  unfold execRingEnable
  refine ⟨_, rfl, ?_⟩
  try dsimp only
  repeat' first | exact Eq.refl true | with_reducible (first
    | exact Moves.refl _ _ | assumption | apply moves_open_ | apply Moves.step (moves_ringEn ..) | intro _)

theorem moves_mdioGo (s : State) (who : Requester) (op : Nat) (phy : Nat) (reg : Nat) (data : Nat) : Moves [.files, .out, .ports] s (State.mdioGo s who op phy reg data) := by
  unfold State.mdioGo
  try dsimp only
  repeat' first | exact Eq.refl true | with_reducible (first
    | exact Moves.refl _ _ | assumption | apply moves_open_ | apply Moves.step (moves_set ..) | apply Moves.step (moves_emit ..)
    | apply Moves.step (moves_setFlag ..) | refine Moves.ite ?_ ?_ | intro _ | refine Moves.upd rfl rfl rfl rfl ?_)

theorem moves_mdioWord (s : State) (who : Requester) (v : Nat) : Moves [.files, .out, .ports] s (State.mdioWord s who v) := by
  unfold State.mdioWord
  try dsimp only
  repeat' first | exact Eq.refl true | with_reducible (first
    | exact Moves.refl _ _ | assumption | apply Moves.step (moves_mdioGo ..) | apply moves_open_ | apply Moves.step (moves_set ..)
    | refine Moves.ite ?_ ?_ | intro _)

theorem moves_verifyStart (s : State) (p : Nat) : Moves [.files, .out, .ports] s (State.verifyStart s p) := by
  unfold State.verifyStart
  try dsimp only
  repeat' first | exact Eq.refl true | with_reducible (first
    | exact Moves.refl _ _ | assumption | apply Moves.step (moves_emit ..) | apply Moves.step (moves_setPort ..)
    | apply Moves.step (moves_set ..))

theorem moves_preemptFollow (s : State) (p : Nat) : Moves [.files, .out, .ports] s (State.preemptFollow s p) := by
  unfold State.preemptFollow
  try dsimp only
  repeat' first | exact Eq.refl true | with_reducible (first
    | exact Moves.refl _ _ | assumption | apply Moves.step (moves_set ..) | apply Moves.step (moves_verifyStart ..)
    | refine Moves.ite ?_ ?_)

theorem moves_portWord (s : State) (who : Requester) (a : Nat) (v : Nat) : Moves [.files, .free, .out, .pins, .sch, .ports] s (State.portWord s who a v) := by
  unfold State.portWord
  try dsimp only
  repeat' first | exact Eq.refl true | with_reducible (first
    | exact Moves.refl _ _ | assumption | apply moves_after | apply moves_onBit | apply Moves.step (moves_mdioWord ..)
    | apply Moves.step (moves_preemptFollow ..) | apply Moves.outs (moves_execPortEnable ..)
    | apply Moves.outs (moves_execIngressQueueEnable ..) | apply Moves.outs (moves_execDregs ..)
    | apply Moves.outs (moves_execRingEnable ..) | refine Moves.ite ?_ ?_ | intro _ | split)

theorem moves_execStepGo (who : Requester) (s : State) : ∃ nx : State, execStepGo who s = .next nx ∧ Moves [.files, .out, .time] s nx := by
  unfold execStepGo
  refine ⟨_, rfl, ?_⟩
  try dsimp only
  repeat' first | exact Eq.refl true | with_reducible (first
    | exact Moves.refl _ _ | assumption | apply moves_guarded | apply Moves.step (moves_setFlag ..) | intro _
    | refine Moves.upd rfl rfl rfl rfl ?_)

theorem moves_setInt (s : State) (f : Fld) (i : Int) : Moves [.files] s (State.setInt s f i) := by
  unfold State.setInt
  try dsimp only
  repeat' first | exact Eq.refl true | with_reducible (first
    | exact Moves.refl _ _ | assumption | apply Moves.step (moves_set ..))

theorem moves_setOffset (s : State) (o : Int) : Moves [.files, .time, .backup] s (State.setOffset s o) := by
  unfold State.setOffset
  try dsimp only
  repeat' first | exact Eq.refl true | with_reducible (first
    | exact Moves.refl _ _ | assumption | apply Moves.step (moves_setInt ..) | refine Moves.upd rfl rfl rfl rfl ?_)

theorem moves_setPending (s : State) (v : Nat) : Moves [.files, .time] s (State.setPending s v) := by
  unfold State.setPending
  try dsimp only
  repeat' first | exact Eq.refl true | with_reducible (first
    | exact Moves.refl _ _ | assumption | apply Moves.step (moves_set ..) | refine Moves.ite ?_ ?_
    | (refine Moves.upd rfl rfl rfl rfl ?_; first | exact Moves.refl _ _ | assumption | apply Moves.step (moves_set ..) | refine Moves.ite ?_ ?_ | split)
    | split)

theorem moves_utcWrite (s : State) (v : Nat) : Moves [.files, .time, .backup] s (State.utcWrite s v) := by
  unfold State.utcWrite
  try dsimp only
  repeat' first | exact Eq.refl true | with_reducible (first
    | exact Moves.refl _ _ | assumption | apply Moves.step (moves_setOffset ..) | apply Moves.step (moves_setPending ..)
    | refine Moves.ite ?_ ?_)

theorem moves_setRefHist (s : State) (k : Nat) (h : RefHist) : Moves [.time] s (State.setRefHist s k h) := by
  unfold State.setRefHist
  try dsimp only
  repeat' first | exact Eq.refl true | with_reducible (first
    | exact Moves.refl _ _ | assumption | refine Moves.upd rfl rfl rfl rfl ?_)

theorem moves_timeQuality (s : State) : Moves [.files, .pins] s (State.timeQuality s) := by
  unfold State.timeQuality
  try dsimp only
  repeat' first | exact Eq.refl true | with_reducible (first
    | exact Moves.refl _ _ | assumption | apply Moves.step (moves_set ..) | apply Moves.step (moves_setFlag ..)
    | apply Moves.step (moves_health ..) | refine Moves.ite ?_ ?_ | split)

theorem moves_setTsu (s : State) (st : Nat) : Moves [.files] s (State.setTsu s st) := by
  unfold State.setTsu
  try dsimp only
  repeat' first | exact Eq.refl true | with_reducible (first
    | exact Moves.refl _ _ | assumption | apply Moves.step (moves_setFlag ..) | apply Moves.step (moves_set ..))

theorem moves_endSlew (s : State) : Moves [.files, .time] s (State.endSlew s) := by
  unfold State.endSlew
  try dsimp only
  repeat' first | exact Eq.refl true | with_reducible (first
    | exact Moves.refl _ _ | assumption | apply Moves.step (moves_setFlag ..) | refine Moves.upd rfl rfl rfl rfl ?_)

theorem moves_startSlew (s : State) (d : Int) : Moves [.files, .time] s (State.startSlew s d) := by
  unfold State.startSlew
  try dsimp only
  repeat' first | exact Eq.refl true | with_reducible (first
    | exact Moves.refl _ _ | assumption | apply Moves.step (moves_setFlag ..) | refine Moves.upd rfl rfl rfl rfl ?_)

theorem moves_setFreq (s : State) (f : Int) : Moves [.files] s (State.setFreq s f) := by
  unfold State.setFreq
  try dsimp only
  repeat' first | exact Eq.refl true | with_reducible (first
    | exact Moves.refl _ _ | assumption | apply Moves.step (moves_set ..))

theorem moves_servo (s : State) (o : Int) (tau : Rat) : Moves [.files, .time] s (State.servo s o tau) := by
  unfold State.servo
  try dsimp only
  repeat' first | exact Eq.refl true | with_reducible (first
    | exact Moves.refl _ _ | assumption | apply Moves.step (moves_endSlew ..) | apply Moves.step (moves_startSlew ..)
    | apply Moves.step (moves_setFreq ..) | refine Moves.ite ?_ ?_ | refine Moves.upd rfl rfl rfl rfl ?_)

theorem moves_selectedSample (s : State) (o : Int) (tau : Rat) : Moves [.files, .time] s (State.selectedSample s o tau) := by
  unfold State.selectedSample
  try dsimp only
  repeat' first | exact Eq.refl true | with_reducible (first
    | exact Moves.refl _ _ | assumption | apply Moves.step (moves_setInt ..) | apply Moves.step (moves_setTsu ..)
    | apply Moves.step (moves_endSlew ..) | apply Moves.step (moves_servo ..) | refine Moves.ite ?_ ?_
    | refine Moves.upd rfl rfl rfl rfl ?_)

theorem moves_refSample (s : State) (k : Nat) (o : Int) (tau : Rat) : Moves [.files, .pins, .time] s (State.refSample s k o tau) := by
  unfold State.refSample
  try dsimp only
  repeat' first | exact Eq.refl true | with_reducible (first
    | exact Moves.refl _ _ | assumption | apply Moves.step (moves_set ..) | apply Moves.step (moves_setInt ..)
    | apply Moves.step (moves_setRefHist ..) | apply Moves.step (moves_timeQuality ..)
    | apply Moves.step (moves_selectedSample ..) | refine Moves.ite ?_ ?_)

theorem moves_sampleGo (s : State) (who : Requester) (k : Nat) : Moves [.files, .out, .pins, .time] s (State.sampleGo s who k) := by
  unfold State.sampleGo
  try dsimp only
  repeat' first | exact Eq.refl true | with_reducible (first
    | exact Moves.refl _ _ | assumption | apply moves_open_ | apply Moves.step (moves_refSample ..) | refine Moves.ite ?_ ?_
    | intro _ | split)

theorem moves_execTsuSampleGo (who : Requester) (k : Nat) (ofs : Nat) (s : State) : ∃ nx : State, execTsuSampleGo who k ofs s = .next nx ∧ Moves [.files, .out, .pins, .time] s nx := by
  unfold execTsuSampleGo
  refine ⟨_, rfl, ?_⟩
  try dsimp only
  repeat' first | exact Eq.refl true | with_reducible (first
    | exact Moves.refl _ _ | assumption | apply Moves.step (moves_sampleGo ..) | apply moves_open_
    | apply Moves.step (moves_set ..) | intro _)

theorem moves_execParserEnable (who : Requester) (en : Bool) (s : State) : ∃ nx : State, execParserEnable who en s = .next nx ∧ Moves [.files, .out] s nx := by
  unfold execParserEnable
  refine ⟨_, rfl, ?_⟩
  try dsimp only
  repeat' first | exact Eq.refl true | with_reducible (first
    | exact Moves.refl _ _ | assumption | apply moves_open_ | apply moves_enWrite | apply Moves.idl | intro _)

theorem moves_unclaimedClr (s : State) : Moves [.files] s (State.unclaimedClr s) := by
  unfold State.unclaimedClr
  try dsimp only
  repeat' first | exact Eq.refl true | with_reducible (first
    | exact Moves.refl _ _ | assumption | apply Moves.step (moves_setFlag ..) | apply Moves.step (moves_set ..)
    | refine Moves.foldl (fun _ _ => ?_) ?_ | refine Moves.foldlFst (fun _ _ => ?_) ?_)

theorem moves_execUnclaimedClr (who : Requester) (s : State) : ∃ nx : State, execUnclaimedClr who s = .next nx ∧ Moves [.files, .out] s nx := by
  unfold execUnclaimedClr
  refine ⟨_, rfl, ?_⟩
  try dsimp only
  repeat' first | exact Eq.refl true | with_reducible (first
    | exact Moves.refl _ _ | assumption | apply moves_open_ | apply Moves.step (moves_unclaimedClr ..) | intro _)

theorem moves_tplCommand {m : List Part} {s u : State} {f : State → State × Nat}
    (hs : sub [.files, .ing] m = true) (hf : ∀ v, Moves m v (f v).1) (h : Moves m s u) : Moves m s (u.tplCommand f) := by
  unfold State.tplCommand
  refine Moves.ite h (Moves.step (moves_setFlag ..) (sub_trans rfl hs) ?_)
  refine Moves.trans (h.trans (hf u)) ?_
  exact Moves.step (m' := [.ing]) (Moves.upd rfl rfl rfl rfl (Moves.refl _ _)) (sub_trans rfl hs) (Moves.refl _ _)

theorem moves_showStaged (s : State) : Moves [.files] s (State.showStaged s) := by
  unfold State.showStaged
  try dsimp only
  repeat' first | exact Eq.refl true | with_reducible (first
    | exact Moves.refl _ _ | assumption | apply Moves.step (moves_set ..))

theorem moves_stageItem (x : StagedItem) (s : State) : Moves [.files, .ing] s (State.stageItem x s).1 := by
  unfold State.stageItem
  try dsimp only
  repeat' first | exact Eq.refl true | with_reducible (first
    | exact Moves.refl _ _ | assumption | apply Moves.step (moves_showStaged ..) | refine Moves.ite ?_ ?_
    | refine Moves.iteFst ?_ ?_ | refine Moves.upd rfl rfl rfl rfl ?_)

theorem moves_stageTpl (s : State) : Moves [.files, .ing] s (State.stageTpl s) := by
  unfold State.stageTpl
  try dsimp only
  repeat' first | exact Eq.refl true | with_reducible (first
    | exact Moves.refl _ _ | assumption | apply moves_tplCommand | apply Moves.step (moves_stageItem ..) | intro _)

theorem moves_execStageTpl (who : Requester) (s : State) : ∃ nx : State, execStageTpl who s = .next nx ∧ Moves [.files, .out, .ing] s nx := by
  unfold execStageTpl
  refine ⟨_, rfl, ?_⟩
  try dsimp only
  repeat' first | exact Eq.refl true | with_reducible (first
    | exact Moves.refl _ _ | assumption | apply moves_guarded | apply Moves.step (moves_stageTpl ..) | intro _)

theorem moves_stageRec (s : State) : Moves [.files, .ing] s (State.stageRec s) := by
  unfold State.stageRec
  try dsimp only
  repeat' first | exact Eq.refl true | with_reducible (first
    | exact Moves.refl _ _ | assumption | apply moves_tplCommand | apply Moves.step (moves_stageItem ..) | intro _)

theorem moves_execStageRec (who : Requester) (s : State) : ∃ nx : State, execStageRec who s = .next nx ∧ Moves [.files, .out, .ing] s nx := by
  unfold execStageRec
  refine ⟨_, rfl, ?_⟩
  try dsimp only
  repeat' first | exact Eq.refl true | with_reducible (first
    | exact Moves.refl _ _ | assumption | apply moves_guarded | apply Moves.step (moves_stageRec ..) | intro _)

theorem moves_passEmpty (s : State) : Moves [.files] s (State.passEmpty s) := by
  unfold State.passEmpty
  try dsimp only
  repeat' first | exact Eq.refl true | with_reducible (first
    | exact Moves.refl _ _ | assumption | apply Moves.step (moves_set ..) | refine Moves.ite ?_ ?_ | split)

theorem moves_setSlice (s : State) (x : Slice) : Moves [.aln] s (State.setSlice s x) := by
  unfold State.setSlice
  try dsimp only
  repeat' first | exact Eq.refl true | with_reducible (first
    | exact Moves.refl _ _ | assumption | refine Moves.upd rfl rfl rfl rfl ?_)

theorem moves_paceIrq (s : State) (f : Fld) : Moves [.files, .out] s (State.paceIrq s f) := by
  unfold State.paceIrq
  try dsimp only
  repeat' first | exact Eq.refl true | with_reducible (first
    | exact Moves.refl _ _ | assumption | apply Moves.step (moves_irq ..))

theorem moves_setShed (s : State) (k : Nat) (n : Nat) : Moves [.files, .out, .evr, .aln, .runs] s (State.setShed s k n) := by
  unfold State.setShed
  try dsimp only
  repeat' first | exact Eq.refl true | with_reducible (first
    | exact Moves.refl _ _ | assumption | apply Moves.step (moves_log ..) | apply Moves.step (moves_paceIrq ..)
    | apply Moves.step (moves_setFlag ..) | apply Moves.step (moves_set ..) | apply Moves.step (moves_setSlice ..)
    | refine Moves.foldl (fun _ _ => ?_) ?_ | refine Moves.foldlFst (fun _ _ => ?_) ?_ | refine Moves.ite ?_ ?_
    | (refine Moves.upd rfl rfl rfl rfl ?_; first | exact Moves.refl _ _ | assumption | apply Moves.step (moves_log ..) | apply Moves.step (moves_paceIrq ..) | apply Moves.step (moves_setFlag ..) | apply Moves.step (moves_set ..) | apply Moves.step (moves_setSlice ..) | refine Moves.foldl (fun _ _ => ?_) ?_ | refine Moves.foldlFst (fun _ _ => ?_) ?_ | refine Moves.ite ?_ ?_ | split)
    | split)

theorem moves_shedAll (s : State) : Moves [.files, .out, .evr, .aln, .runs] s (State.shedAll s) := by
  unfold State.shedAll
  try dsimp only
  repeat' first | exact Eq.refl true | with_reducible (first
    | exact Moves.refl _ _ | assumption | apply Moves.step (moves_setShed ..) | refine Moves.foldl (fun _ _ => ?_) ?_
    | refine Moves.foldlFst (fun _ _ => ?_) ?_ | refine Moves.ite ?_ ?_)

theorem moves_meet (s : State) (x : Slice) (t : Tai) (reason : Nat) (last : Nat) : Moves [.aln] s (State.meet s x t reason last) := by
  unfold State.meet
  try dsimp only
  repeat' first | exact Eq.refl true | with_reducible (first
    | exact Moves.refl _ _ | assumption | apply Moves.step (moves_setSlice ..) | refine Moves.ite ?_ ?_)

theorem moves_evalSlice (s : State) (before : State) (n : Nat) : Moves [.aln] s (State.evalSlice s before n) := by
  unfold State.evalSlice
  try dsimp only
  repeat' first | exact Eq.refl true | with_reducible (first
    | exact Moves.refl _ _ | assumption | apply Moves.step (moves_meet ..) | refine Moves.ite ?_ ?_ | split)

theorem moves_shutSlice (s : State) (n : Nat) : Moves [.aln] s (State.shutSlice s n) := by
  unfold State.shutSlice
  try dsimp only
  repeat' first | exact Eq.refl true | with_reducible (first
    | exact Moves.refl _ _ | assumption | apply Moves.step (moves_meet ..) | refine Moves.ite ?_ ?_ | split)

theorem moves_evalSlices (s : State) (before : State) : Moves [.aln] s (State.evalSlices s before) := by
  unfold State.evalSlices
  try dsimp only
  repeat' first | exact Eq.refl true | with_reducible (first
    | exact Moves.refl _ _ | assumption | apply Moves.step (moves_evalSlice ..) | apply Moves.step (moves_shutSlice ..)
    | refine Moves.foldl (fun _ _ => ?_) ?_ | refine Moves.foldlFst (fun _ _ => ?_) ?_ | refine Moves.ite ?_ ?_)

theorem moves_advance (s : State) (k n : Nat) : Moves [.files] s (s.advance k n) := by
  induction k generalizing n with
  | zero => exact moves_set ..
  | succ k ih =>
    unfold State.advance
    split
    · split
      · exact moves_set ..
      · exact ih _
    · split
      · exact Moves.ite (ih _) (moves_set ..)
      · exact moves_set ..

theorem moves_txnClose (s : State) (n : Nat) (closeAt : Tai) : Moves [.files, .out, .cfg] s (State.txnClose s n closeAt) := by
  unfold State.txnClose
  try dsimp only
  repeat' first | exact Eq.refl true | with_reducible (first
    | exact Moves.refl _ _ | assumption | apply Moves.step (moves_set ..) | apply Moves.step (moves_txnApply ..)
    | refine Moves.ite ?_ ?_)

theorem moves_remeet (s : State) (n : Nat) : Moves [.aln] s (State.remeet s n) := by
  unfold State.remeet
  try dsimp only
  repeat' first | exact Eq.refl true | with_reducible (first
    | exact Moves.refl _ _ | assumption | apply Moves.step (moves_setSlice ..) | refine Moves.ite ?_ ?_ | split)

theorem moves_tkoBits (s : State) (p : Nat) (b : Bool) : Moves [.files] s (State.tkoBits s p b) := by
  unfold State.tkoBits
  try dsimp only
  repeat' first | exact Eq.refl true | with_reducible (first
    | exact Moves.refl _ _ | assumption | apply Moves.step (moves_putStreamBit ..) | apply Moves.step (moves_absentBits ..)
    | apply Moves.step (moves_setFlag ..) | refine Moves.foldl (fun _ _ => ?_) ?_ | refine Moves.foldlFst (fun _ _ => ?_) ?_
    | refine Moves.ite ?_ ?_ | split)

theorem moves_tkoAll (s : State) : Moves [.files] s (State.tkoAll s) := by
  unfold State.tkoAll
  try dsimp only
  repeat' first | exact Eq.refl true | with_reducible (first
    | exact Moves.refl _ _ | assumption | apply Moves.step (moves_tkoBits ..) | refine Moves.foldl (fun _ _ => ?_) ?_
    | refine Moves.foldlFst (fun _ _ => ?_) ?_ | refine Moves.ite ?_ ?_)

theorem moves_carryEnables (s : State) (old : Roast) (new : Roast) (en : List Nat) : Moves [.files] s (State.carryEnables s old new en) := by
  unfold State.carryEnables
  try dsimp only
  repeat' first | exact Eq.refl true | with_reducible (first
    | exact Moves.refl _ _ | assumption | apply Moves.step (moves_putStreamBit ..) | refine Moves.foldl (fun _ _ => ?_) ?_
    | refine Moves.foldlFst (fun _ _ => ?_) ?_ | split)

theorem moves_loadSections (s : State) (r : Roast) : Moves [.files] s (State.loadSections s r) := by
  unfold State.loadSections
  try dsimp only
  repeat' first | exact Eq.refl true | with_reducible (first
    | exact Moves.refl _ _ | assumption | apply Moves.step (moves_set ..) | refine Moves.foldl (fun _ _ => ?_) ?_
    | refine Moves.foldlFst (fun _ _ => ?_) ?_ | refine Moves.ite ?_ ?_ | split)

theorem moves_regInit1 (s : State) (r : RegInit) : Moves [.files, .locks] s (State.regInit1 s r) := by
  unfold State.regInit1
  try dsimp only
  repeat' first | exact Eq.refl true | with_reducible (first
    | exact Moves.refl _ _ | assumption | apply Moves.step (moves_set ..) | refine Moves.foldl (fun _ _ => ?_) ?_
    | refine Moves.foldlFst (fun _ _ => ?_) ?_ | refine Moves.ite ?_ ?_ | refine Moves.upd rfl rfl rfl rfl ?_)

theorem moves_regInit (s : State) (recs : List Bytes) : Moves [.files, .locks] s (s.regInit recs) := by
  unfold State.regInit
  refine Moves.foldl (fun _ _ => Moves.step (moves_regInit1 ..) rfl (Moves.refl _ _)) ?_
  refine ⟨⟨rfl, fun p hp => by cases p <;> first | exact rfl | exact absurd hp (by decide)⟩, fun h => ?_⟩
  simp only [State.filesOk, Bool.and_eq_true] at h ⊢
  exact ⟨⟨RegFile.rising_filter _ h.1.1, h.1.2⟩, h.2⟩

theorem moves_loadRegs (s : State) (r : Roast) : Moves [.files, .locks] s (State.loadRegs s r) := by
  unfold State.loadRegs
  try dsimp only
  repeat' first | exact Eq.refl true | with_reducible (first
    | exact Moves.refl _ _ | assumption | apply Moves.step (moves_loadSections ..) | apply Moves.step (moves_regInit ..)
    | apply Moves.step (moves_putStreamBit ..) | apply Moves.step (moves_set ..) | refine Moves.foldl (fun _ _ => ?_) ?_
    | refine Moves.foldlFst (fun _ _ => ?_) ?_ | refine Moves.ite ?_ ?_)

theorem moves_setWords256 (s : State) (f : Fld) (ws : List Nat) : Moves [.files] s (State.setWords256 s f ws) := by
  unfold State.setWords256
  try dsimp only
  repeat' first | exact Eq.refl true | with_reducible (first
    | exact Moves.refl _ _ | assumption | apply Moves.step (moves_set ..) | refine Moves.foldl (fun _ _ => ?_) ?_
    | refine Moves.foldlFst (fun _ _ => ?_) ?_)

theorem moves_swapRegs (s : State) : Moves [.files, .locks, .ing] s (State.swapRegs s) := by
  unfold State.swapRegs
  try dsimp only
  repeat' first | exact Eq.refl true | with_reducible (first
    | exact Moves.refl _ _ | assumption | apply Moves.step (moves_set ..) | apply Moves.step (moves_absentBits ..)
    | apply Moves.step (moves_tkoAll ..) | apply Moves.step (moves_carryEnables ..) | apply Moves.step (moves_loadRegs ..)
    | apply Moves.step (moves_setWords256 ..) | apply Moves.step (moves_putStreamBit ..) | refine Moves.foldl (fun _ _ => ?_) ?_
    | refine Moves.foldlFst (fun _ _ => ?_) ?_ | refine Moves.upd rfl rfl rfl rfl ?_)

theorem moves_showRounds (s : State) : Moves [.files] s (State.showRounds s) := by
  unfold State.showRounds
  try dsimp only
  repeat' first | exact Eq.refl true | with_reducible (first
    | exact Moves.refl _ _ | assumption | apply Moves.step (moves_set ..) | refine Moves.ite ?_ ?_)

theorem moves_showOsc (s : State) : Moves [.files] s (State.showOsc s) := by
  unfold State.showOsc
  try dsimp only
  repeat' first | exact Eq.refl true | with_reducible (first
    | exact Moves.refl _ _ | assumption | apply Moves.step (moves_set ..) | refine Moves.ite ?_ ?_)

theorem moves_showSlots (s : State) : Moves [.files] s (State.showSlots s) := by
  unfold State.showSlots
  try dsimp only
  repeat' first | exact Eq.refl true | with_reducible (first
    | exact Moves.refl _ _ | assumption | apply Moves.step (moves_set ..) | apply Moves.step (moves_setFlag ..)
    | refine Moves.foldl (fun _ _ => ?_) ?_ | refine Moves.foldlFst (fun _ _ => ?_) ?_ | refine Moves.ite ?_ ?_)

theorem moves_showGm (s : State) (allowed : Bool) : Moves [.files] s (State.showGm s allowed) := by
  unfold State.showGm
  try dsimp only
  repeat' first | exact Eq.refl true | with_reducible (first
    | exact Moves.refl _ _ | assumption | apply Moves.step (moves_setFlag ..))

theorem moves_showAlm (s : State) : Moves [.files] s (State.showAlm s) := by
  unfold State.showAlm
  try dsimp only
  repeat' first | exact Eq.refl true | with_reducible (first
    | exact Moves.refl _ _ | assumption | apply Moves.step (moves_set ..) | apply Moves.step (moves_setFlag ..)
    | refine Moves.foldl (fun _ _ => ?_) ?_ | refine Moves.foldlFst (fun _ _ => ?_) ?_)

theorem moves_showSdm (s : State) : Moves [.files] s (State.showSdm s) := by
  unfold State.showSdm
  try dsimp only
  repeat' first | exact Eq.refl true | with_reducible (first
    | exact Moves.refl _ _ | assumption | apply Moves.step (moves_set ..) | apply Moves.step (moves_setFlag ..)
    | refine Moves.foldl (fun _ _ => ?_) ?_ | refine Moves.foldlFst (fun _ _ => ?_) ?_)

theorem moves_showFlt (s : State) : Moves [.files] s (State.showFlt s) := by
  unfold State.showFlt
  try dsimp only
  repeat' first | exact Eq.refl true | with_reducible (first
    | exact Moves.refl _ _ | assumption | apply Moves.step (moves_showSdm ..) | apply Moves.step (moves_set ..)
    | apply Moves.step (moves_setFlag ..) | refine Moves.foldl (fun _ _ => ?_) ?_ | refine Moves.foldlFst (fun _ _ => ?_) ?_
    | split)

theorem moves_showActive (s : State) : Moves [.files] s (State.showActive s) := by
  unfold State.showActive
  try dsimp only
  repeat' first | exact Eq.refl true | with_reducible (first
    | exact Moves.refl _ _ | assumption | apply Moves.step (moves_set ..))

theorem moves_showRoast (s : State) : Moves [.files] s (State.showRoast s) := by
  unfold State.showRoast
  try dsimp only
  repeat' first | exact Eq.refl true | with_reducible (first
    | exact Moves.refl _ _ | assumption | apply Moves.step (moves_showRounds ..) | apply Moves.step (moves_showOsc ..)
    | apply Moves.step (moves_showSlots ..) | apply Moves.step (moves_showGm ..) | apply Moves.step (moves_showAlm ..)
    | apply Moves.step (moves_showFlt ..) | apply Moves.step (moves_showActive ..))

theorem moves_carryRefs (s : State) (old : Roast) (new : Roast) (err : Option Rat) : Moves [.files, .time] s (State.carryRefs s old new err) := by
  unfold State.carryRefs
  try dsimp only
  repeat' first | exact Eq.refl true | with_reducible (first
    | exact Moves.refl _ _ | assumption | apply Moves.step (moves_setFlag ..) | apply Moves.step (moves_set ..)
    | refine Moves.foldl (fun _ _ => ?_) ?_ | refine Moves.foldlFst (fun _ _ => ?_) ?_ | refine Moves.ite ?_ ?_
    | (refine Moves.upd rfl rfl rfl rfl ?_; first | exact Moves.refl _ _ | assumption | apply Moves.step (moves_setFlag ..) | apply Moves.step (moves_set ..) | refine Moves.foldl (fun _ _ => ?_) ?_ | refine Moves.foldlFst (fun _ _ => ?_) ?_ | refine Moves.ite ?_ ?_ | split)
    | split)

theorem moves_nrgFlag (s : State) (bit : Nat) : Moves [.nrg] s (State.nrgFlag s bit) := by
  unfold State.nrgFlag
  try dsimp only
  repeat' first | exact Eq.refl true | with_reducible (first
    | exact Moves.refl _ _ | assumption | refine Moves.upd rfl rfl rfl rfl ?_)

end Sys2Proof.Machine
end

