-- ==== Sys2Proof/Laws/Moves2.lean ====
section
/-! SUPPORT. What each operation can touch, part 2 of 4, in the order in which operations call each other: one law for each one,
which later proofs cite and which its own proof rests on alone. -/

set_option maxRecDepth 4000
set_option linter.unusedTactic false
set_option linter.unreachableTactic false

namespace Sys2Proof.Machine

set_option Elab.async false

theorem moves_nrgIrq (s : State) (f : Fld) : Moves [.files, .out] s (State.nrgIrq s f) := by
  unfold State.nrgIrq
  try dsimp only
  repeat' first | exact Eq.refl true | with_reducible (first
    | exact Moves.refl _ _ | assumption | apply Moves.step (moves_irq ..))

theorem moves_storeRecord (s : State) (body : Bytes) : Moves [.files, .out, .evr, .nvs, .nrg] s (State.storeRecord s body) := by
  unfold State.storeRecord
  try dsimp only
  repeat' first | exact Eq.refl true | with_reducible (first
    | exact Moves.refl _ _ | assumption | apply Moves.step (moves_nrgIrq ..) | apply Moves.step (moves_set ..)
    | apply Moves.step (moves_log ..) | apply Moves.step (moves_count ..) | refine Moves.ite ?_ ?_
    | (refine Moves.upd rfl rfl rfl rfl ?_; first | exact Moves.refl _ _ | assumption | apply Moves.step (moves_nrgIrq ..) | apply Moves.step (moves_set ..) | apply Moves.step (moves_log ..) | apply Moves.step (moves_count ..) | refine Moves.ite ?_ ?_ | split)
    | split)

theorem moves_clearMaxDem (s : State) : Moves [.files, .nrg] s (State.clearMaxDem s) := by
  unfold State.clearMaxDem
  try dsimp only
  repeat' first | exact Eq.refl true | with_reducible (first
    | exact Moves.refl _ _ | assumption | apply Moves.step (moves_set ..) | refine Moves.foldl (fun _ _ => ?_) ?_
    | refine Moves.foldlFst (fun _ _ => ?_) ?_ | refine Moves.upd rfl rfl rfl rfl ?_)

theorem moves_closeInterval (s : State) (endSoc : Nat) (endTai : Tai) (startSoc : Nat) (more : Nat) (nextFlags : Nat) : Moves [.files, .out, .keys, .evr, .nvs, .nrg] s (State.closeInterval s endSoc endTai startSoc more nextFlags) := by
  unfold State.closeInterval
  try dsimp only
  repeat' first | exact Eq.refl true | with_reducible (first
    | exact Moves.refl _ _ | assumption | apply Moves.step (moves_storeRecord ..) | apply Moves.step (moves_clearMaxDem ..)
    | refine Moves.ite ?_ ?_ | refine Moves.upd rfl rfl rfl rfl ?_)

theorem moves_carryNrg (s : State) (old : Roast) (new : Roast) (oldMin : Nat) : Moves [.files, .out, .keys, .evr, .nvs, .nrg] s (State.carryNrg s old new oldMin) := by
  unfold State.carryNrg
  try dsimp only
  repeat' first | exact Eq.refl true | with_reducible (first
    | exact Moves.refl _ _ | assumption | apply Moves.step (moves_nrgFlag ..) | apply Moves.step (moves_set ..)
    | apply Moves.step (moves_closeInterval ..) | refine Moves.foldl (fun _ _ => ?_) ?_ | refine Moves.foldlFst (fun _ _ => ?_) ?_
    | refine Moves.ite ?_ ?_
    | (refine Moves.upd rfl rfl rfl rfl ?_; first | exact Moves.refl _ _ | assumption | apply Moves.step (moves_nrgFlag ..) | apply Moves.step (moves_set ..) | apply Moves.step (moves_closeInterval ..) | refine Moves.foldl (fun _ _ => ?_) ?_ | refine Moves.foldlFst (fun _ _ => ?_) ?_ | refine Moves.ite ?_ ?_ | split)
    | split)

theorem moves_clearAbsent (s : State) (g : Nat) : Moves [.files] s (State.clearAbsent s g) := by
  unfold State.clearAbsent
  try dsimp only
  repeat' first | exact Eq.refl true | with_reducible (first
    | exact Moves.refl _ _ | assumption | apply Moves.step (moves_set ..) | apply Moves.step (moves_setFlag ..)
    | refine Moves.foldl (fun _ _ => ?_) ?_ | refine Moves.foldlFst (fun _ _ => ?_) ?_ | split)

theorem moves_setLane (s : State) (l : Nat) (x : FltLane) : Moves [.flt] s (State.setLane s l x) := by
  unfold State.setLane
  try dsimp only
  repeat' first | exact Eq.refl true | with_reducible (first
    | exact Moves.refl _ _ | assumption | refine Moves.upd rfl rfl rfl rfl ?_)

theorem moves_fltIrq (s : State) (f : Fld) : Moves [.files, .out] s (State.fltIrq s f) := by
  unfold State.fltIrq
  try dsimp only
  repeat' first | exact Eq.refl true | with_reducible (first
    | exact Moves.refl _ _ | assumption | apply Moves.step (moves_irq ..))

theorem moves_setFgroup (s : State) (g : Nat) (x : FltGroup) : Moves [.flt] s (State.setFgroup s g x) := by
  unfold State.setFgroup
  try dsimp only
  repeat' first | exact Eq.refl true | with_reducible (first
    | exact Moves.refl _ _ | assumption | refine Moves.upd rfl rfl rfl rfl ?_)

theorem moves_cutFade (s : State) (g : Nat) : Moves [.files, .out, .flt] s (State.cutFade s g) := by
  unfold State.cutFade
  try dsimp only
  repeat' first | exact Eq.refl true | with_reducible (first
    | exact Moves.refl _ _ | assumption | apply Moves.step (moves_fltIrq ..) | apply Moves.step (moves_setFlag ..)
    | apply Moves.step (moves_set ..) | apply Moves.step (moves_setFgroup ..) | refine Moves.ite ?_ ?_ | split)

theorem moves_track (s : State) (b : Bytes) (g : Nat) : Moves [.files, .flt] s (State.track s b g) := by
  unfold State.track
  try dsimp only
  repeat' first | exact Eq.refl true | with_reducible (first
    | exact Moves.refl _ _ | assumption | apply Moves.step (moves_setFlag ..) | apply Moves.step (moves_setFgroup ..)
    | refine Moves.ite ?_ ?_)

theorem moves_fullReset (s : State) (g : Nat) : Moves [.files, .out, .flt] s (State.fullReset s g) := by
  unfold State.fullReset
  try dsimp only
  repeat' first | exact Eq.refl true | with_reducible (first
    | exact Moves.refl _ _ | assumption | apply Moves.step (moves_setFlag ..) | apply Moves.step (moves_set ..)
    | apply Moves.step (moves_setLane ..) | apply Moves.step (moves_cutFade ..) | apply Moves.step (moves_showSdm ..)
    | apply Moves.step (moves_track ..) | apply Moves.step (moves_setFgroup ..) | refine Moves.foldl (fun _ _ => ?_) ?_
    | refine Moves.foldlFst (fun _ _ => ?_) ?_ | refine Moves.ite ?_ ?_ | split)

theorem moves_groupStart (s : State) (g : Nat) : Moves [.files, .out, .flt] s (State.groupStart s g) := by
  unfold State.groupStart
  try dsimp only
  repeat' first | exact Eq.refl true | with_reducible (first
    | exact Moves.refl _ _ | assumption | apply Moves.step (moves_setFlag ..) | apply Moves.step (moves_fullReset ..)
    | refine Moves.ite ?_ ?_)

theorem moves_carryFlt (s : State) (old : Roast) (new : Roast) : Moves [.files, .out, .flt] s (State.carryFlt s old new) := by
  unfold State.carryFlt
  try dsimp only
  repeat' first | exact Eq.refl true | with_reducible (first
    | exact Moves.refl _ _ | assumption | apply Moves.step (moves_set ..) | apply Moves.step (moves_setFlag ..)
    | apply Moves.step (moves_showFlt ..) | apply Moves.step (moves_clearAbsent ..) | apply Moves.step (moves_groupStart ..)
    | refine Moves.foldl (fun _ _ => ?_) ?_ | refine Moves.foldlFst (fun _ _ => ?_) ?_ | refine Moves.ite ?_ ?_
    | refine Moves.upd rfl rfl rfl rfl ?_)

theorem moves_capFlag (s : State) (k : Nat) : Moves [.cap] s (State.capFlag s k) := by
  unfold State.capFlag
  try dsimp only
  repeat' first | exact Eq.refl true | with_reducible (first
    | exact Moves.refl _ _ | assumption | refine Moves.ite ?_ ?_ | refine Moves.upd rfl rfl rfl rfl ?_)

theorem moves_cutBuckets (s : State) (new : Roast) : Moves [.sau] s (State.cutBuckets s new) := by
  unfold State.cutBuckets
  try dsimp only
  repeat' first | exact Eq.refl true | with_reducible (first
    | exact Moves.refl _ _ | assumption | refine Moves.upd rfl rfl rfl rfl ?_)

theorem moves_carryTopo (s : State) (old : Roast) (new : Roast) : Moves [.isl] s (State.carryTopo s old new) := by
  unfold State.carryTopo
  try dsimp only
  repeat' first | exact Eq.refl true | with_reducible (first
    | exact Moves.refl _ _ | assumption | refine Moves.upd rfl rfl rfl rfl ?_)

theorem moves_carryPairs (s : State) (old : Roast) (new : Roast) : Moves [.files, .isl] s (State.carryPairs s old new) := by
  unfold State.carryPairs
  try dsimp only
  repeat' first | exact Eq.refl true | with_reducible (first
    | exact Moves.refl _ _ | assumption | apply Moves.step (moves_set ..) | refine Moves.foldl (fun _ _ => ?_) ?_
    | refine Moves.foldlFst (fun _ _ => ?_) ?_ | refine Moves.upd rfl rfl rfl rfl ?_)

theorem moves_carryOsc (s : State) (old : Roast) (new : Roast) : Moves [.files, .osc] s (State.carryOsc s old new) := by
  unfold State.carryOsc
  try dsimp only
  repeat' first | exact Eq.refl true | with_reducible (first
    | exact Moves.refl _ _ | assumption | apply Moves.step (moves_set ..) | refine Moves.foldl (fun _ _ => ?_) ?_
    | refine Moves.foldlFst (fun _ _ => ?_) ?_ | refine Moves.ite ?_ ?_ | refine Moves.upd rfl rfl rfl rfl ?_)

theorem moves_carryLse (s : State) (old : Roast) (new : Roast) : Moves [.lse] s (State.carryLse s old new) := by
  unfold State.carryLse
  try dsimp only
  repeat' first | exact Eq.refl true | with_reducible (first
    | exact Moves.refl _ _ | assumption | refine Moves.upd rfl rfl rfl rfl ?_)

theorem moves_carryStage (s : State) (k : Nat) : Moves [.files, .aln, .isl, .lse, .osc] s (State.carryStage s k) := by
  unfold State.carryStage
  try dsimp only
  repeat' first | exact Eq.refl true | with_reducible (first
    | exact Moves.refl _ _ | assumption | apply Moves.step (moves_carryTopo ..) | apply Moves.step (moves_carryPairs ..)
    | apply Moves.step (moves_showOsc ..) | apply Moves.step (moves_carryOsc ..) | apply Moves.step (moves_carryLse ..)
    | (refine Moves.upd rfl rfl rfl rfl ?_; first | exact Moves.refl _ _ | assumption | apply Moves.step (moves_carryTopo ..) | apply Moves.step (moves_carryPairs ..) | apply Moves.step (moves_showOsc ..) | apply Moves.step (moves_carryOsc ..) | apply Moves.step (moves_carryLse ..) | split)
    | split)

theorem moves_carryNow (s : State) (k : Nat) : Moves [.files, .roasts, .aln, .isl, .lse, .osc] s (State.carryNow s k) := by
  unfold State.carryNow
  try dsimp only
  repeat' first | exact Eq.refl true | with_reducible (first
    | exact Moves.refl _ _ | assumption | apply Moves.step (moves_carryStage ..) | refine Moves.ite ?_ ?_
    | refine Moves.upd rfl rfl rfl rfl ?_)

theorem moves_tileHealth (s : State) : Moves [.files, .pins] s (State.tileHealth s) := by
  unfold State.tileHealth
  try dsimp only
  repeat' first | exact Eq.refl true | with_reducible (first
    | exact Moves.refl _ _ | assumption | apply Moves.step (moves_health ..))

theorem moves_showShadow (s : State) : Moves [.files] s (State.showShadow s) := by
  unfold State.showShadow
  try dsimp only
  repeat' first | exact Eq.refl true | with_reducible (first
    | exact Moves.refl _ _ | assumption | apply Moves.step (moves_set ..))

theorem moves_swapIn (s : State) (n : Nat) : Moves [.files, .locks, .out, .pins, .cfg, .roasts, .time, .keys, .evr, .nvs, .pace, .ing, .flt, .aln, .isl, .lse, .osc, .sau, .cap, .nrg] s (State.swapIn s n) := by
  unfold State.swapIn
  try dsimp only
  repeat' first | exact Eq.refl true | with_reducible (first
    | exact Moves.refl _ _ | assumption | apply Moves.step (moves_swapRegs ..) | apply Moves.step (moves_swapEnd ..)
    | apply Moves.step (moves_set ..) | apply Moves.step (moves_setFlag ..) | apply Moves.step (moves_showRoast ..)
    | apply Moves.step (moves_carryRefs ..) | apply Moves.step (moves_carryNrg ..) | apply Moves.step (moves_carryFlt ..)
    | apply Moves.step (moves_capFlag ..) | apply Moves.step (moves_cutBuckets ..) | apply Moves.step (moves_carryNow ..)
    | apply Moves.step (moves_vector ..) | apply Moves.step (moves_adopt ..) | apply Moves.step (moves_tileHealth ..)
    | apply Moves.step (moves_showStaged ..) | apply Moves.step (moves_showShadow ..) | refine Moves.foldl (fun _ _ => ?_) ?_
    | refine Moves.foldlFst (fun _ _ => ?_) ?_ | refine Moves.ite ?_ ?_ | refine Moves.upd rfl rfl rfl rfl ?_)

theorem moves_swapUnhold (s : State) : Moves [.files, .roasts, .ing] s (State.swapUnhold s) := by
  unfold State.swapUnhold
  try dsimp only
  repeat' first | exact Eq.refl true | with_reducible (first
    | exact Moves.refl _ _ | assumption | apply Moves.step (moves_swapJudge ..) | apply Moves.step (moves_set ..)
    | refine Moves.ite ?_ ?_)

theorem moves_setUnit (s : State) (u : Nat) (v : Nat) : Moves [.files] s (State.setUnit s u v) := by
  unfold State.setUnit
  try dsimp only
  repeat' first | exact Eq.refl true | with_reducible (first
    | exact Moves.refl _ _ | assumption | apply Moves.step (moves_set ..))

theorem moves_retireUnits (s : State) : Moves [.files, .pace] s (State.retireUnits s) := by
  unfold State.retireUnits
  try dsimp only
  repeat' first | exact Eq.refl true | with_reducible (first
    | exact Moves.refl _ _ | assumption | apply Moves.step (moves_set ..) | apply Moves.step (moves_setUnit ..)
    | apply Moves.step (moves_setFlag ..) | refine Moves.foldl (fun _ _ => ?_) ?_ | refine Moves.foldlFst (fun _ _ => ?_) ?_
    | (refine Moves.upd rfl rfl rfl rfl ?_; first | exact Moves.refl _ _ | assumption | apply Moves.step (moves_set ..) | apply Moves.step (moves_setUnit ..) | apply Moves.step (moves_setFlag ..) | refine Moves.foldl (fun _ _ => ?_) ?_ | refine Moves.foldlFst (fun _ _ => ?_) ?_ | split)
    | split)

theorem moves_armsApply (s : State) : Moves [.files, .cap] s (State.armsApply s) := by
  unfold State.armsApply
  try dsimp only
  repeat' first | exact Eq.refl true | with_reducible (first
    | exact Moves.refl _ _ | assumption | apply Moves.step (moves_set ..) | refine Moves.foldl (fun _ _ => ?_) ?_
    | refine Moves.foldlFst (fun _ _ => ?_) ?_ | refine Moves.upd rfl rfl rfl rfl ?_)

theorem moves_casIrq (s : State) (f : Fld) : Moves [.files, .out] s (State.casIrq s f) := by
  unfold State.casIrq
  try dsimp only
  repeat' first | exact Eq.refl true | with_reducible (first
    | exact Moves.refl _ _ | assumption | apply Moves.step (moves_irq ..))

theorem moves_casApply (s : State) (n : Nat) (closeAt : Tai) : Moves [.files, .out, .evr, .cas] s (State.casApply s n closeAt) := by
  unfold State.casApply
  try dsimp only
  repeat' first | exact Eq.refl true | with_reducible (first
    | exact Moves.refl _ _ | assumption | apply Moves.step (moves_casIrq ..) | apply Moves.step (moves_log ..)
    | apply Moves.step (moves_tkoBits ..) | apply Moves.step (moves_putBit ..) | apply Moves.step (moves_set ..)
    | refine Moves.foldl (fun _ _ => ?_) ?_ | refine Moves.foldlFst (fun _ _ => ?_) ?_ | refine Moves.ite ?_ ?_
    | (refine Moves.upd rfl rfl rfl rfl ?_; first | exact Moves.refl _ _ | assumption | apply Moves.step (moves_casIrq ..) | apply Moves.step (moves_log ..) | apply Moves.step (moves_tkoBits ..) | apply Moves.step (moves_putBit ..) | apply Moves.step (moves_set ..) | refine Moves.foldl (fun _ _ => ?_) ?_ | refine Moves.foldlFst (fun _ _ => ?_) ?_ | refine Moves.ite ?_ ?_ | split)
    | split)

theorem moves_originate (s : State) (rings : List Nat) (n : Nat) (b : RingBody) : Moves [.cas] s (State.originate s rings n b) := by
  unfold State.originate
  try dsimp only
  repeat' first | exact Eq.refl true | with_reducible (first
    | exact Moves.refl _ _ | assumption | refine Moves.ite ?_ ?_ | refine Moves.upd rfl rfl rfl rfl ?_)

theorem moves_sendPresence (s : State) (n : Nat) : Moves [.cas] s (State.sendPresence s n) := by
  unfold State.sendPresence
  try dsimp only
  repeat' first | exact Eq.refl true | with_reducible (first
    | exact Moves.refl _ _ | assumption | apply Moves.step (moves_originate ..))

theorem moves_setPeer (s : State) (p : Nat) (x : Peer) : Moves [.cas] s (State.setPeer s p x) := by
  unfold State.setPeer
  try dsimp only
  repeat' first | exact Eq.refl true | with_reducible (first
    | exact Moves.refl _ _ | assumption | refine Moves.upd rfl rfl rfl rfl ?_)

theorem moves_takeover (s : State) (p : Nat) : Moves [.files, .out, .evr, .cas] s (State.takeover s p) := by
  unfold State.takeover
  try dsimp only
  repeat' first | exact Eq.refl true | with_reducible (first
    | exact Moves.refl _ _ | assumption | apply Moves.step (moves_log ..) | apply Moves.step (moves_originate ..)
    | refine Moves.ite ?_ ?_ | refine Moves.upd rfl rfl rfl rfl ?_)

theorem moves_peerClose (s : State) (n : Nat) (p : Nat) : Moves [.files, .out, .evr, .cas] s (State.peerClose s n p) := by
  unfold State.peerClose
  try dsimp only
  repeat' first | exact Eq.refl true | with_reducible (first
    | exact Moves.refl _ _ | assumption | apply Moves.step (moves_setPeer ..) | apply Moves.step (moves_putBit ..)
    | apply Moves.step (moves_log ..) | apply Moves.step (moves_casIrq ..) | apply Moves.step (moves_takeover ..)
    | refine Moves.ite ?_ ?_)

theorem moves_casClose (s : State) (n : Nat) (closeAt : Tai) : Moves [.files, .out, .evr, .cas] s (State.casClose s n closeAt) := by
  unfold State.casClose
  try dsimp only
  repeat' first | exact Eq.refl true | with_reducible (first
    | exact Moves.refl _ _ | assumption | apply Moves.step (moves_casApply ..) | apply Moves.step (moves_sendPresence ..)
    | apply Moves.step (moves_peerClose ..) | refine Moves.foldl (fun _ _ => ?_) ?_ | refine Moves.foldlFst (fun _ _ => ?_) ?_
    | refine Moves.ite ?_ ?_)

theorem moves_showQueue (s : State) : Moves [.files] s (State.showQueue s) := by
  unfold State.showQueue
  try dsimp only
  repeat' first | exact Eq.refl true | with_reducible (first
    | exact Moves.refl _ _ | assumption | apply Moves.step (moves_setFlag ..) | apply Moves.step (moves_set ..))

theorem moves_showOpen (s : State) : Moves [.files] s (State.showOpen s) := by
  unfold State.showOpen
  try dsimp only
  repeat' first | exact Eq.refl true | with_reducible (first
    | exact Moves.refl _ _ | assumption | apply Moves.step (moves_set ..))

theorem moves_sweepRuns (s : State) : Moves [.files, .runs] s (State.sweepRuns s) := by
  unfold State.sweepRuns
  try dsimp only
  repeat' first | exact Eq.refl true | with_reducible (first
    | exact Moves.refl _ _ | assumption | apply Moves.step (moves_showQueue ..) | refine Moves.upd rfl rfl rfl rfl ?_)

theorem moves_enterSchedule (s : State) (x : Slice) (sys : Nat) (heldBack : Bool) : Moves [.files, .runs] s (State.enterSchedule s x sys heldBack) := by
  unfold State.enterSchedule
  try dsimp only
  repeat' first | exact Eq.refl true | with_reducible (first
    | exact Moves.refl _ _ | assumption | apply Moves.step (moves_sweepRuns ..) | refine Moves.upd rfl rfl rfl rfl ?_)

theorem moves_closeSlice (s : State) (x : Slice) (reason : Nat) (last : Nat) (closeAt : Tai) (held : Bool) : Moves [.files, .locks, .out, .pins, .cfg, .roasts, .time, .keys, .evr, .nvs, .pace, .ing, .flt, .aln, .runs, .isl, .lse, .osc, .sau, .cap, .nrg, .cas] s (State.closeSlice s x reason last closeAt held) := by
  unfold State.closeSlice
  try dsimp only
  repeat' first | exact Eq.refl true | with_reducible (first
    | exact Moves.refl _ _ | assumption | apply Moves.step (moves_moveTo ..) | apply Moves.step (moves_count ..)
    | apply Moves.step (moves_setSlice ..) | apply Moves.step (moves_advance ..) | apply Moves.step (moves_set ..)
    | apply Moves.step (moves_txnClose ..) | apply Moves.step (moves_remeet ..) | apply Moves.step (moves_swapIn ..)
    | apply Moves.step (moves_swapUnhold ..) | apply Moves.step (moves_retireUnits ..) | apply Moves.step (moves_armsApply ..)
    | apply Moves.step (moves_casClose ..) | apply Moves.step (moves_showQueue ..) | apply Moves.step (moves_showOpen ..)
    | apply Moves.step (moves_enterSchedule ..) | refine Moves.foldl (fun _ _ => ?_) ?_ | refine Moves.foldlFst (fun _ _ => ?_) ?_
    | refine Moves.ite ?_ ?_ | refine Moves.upd rfl rfl rfl rfl ?_)

theorem moves_closeMet (before : State) (k : Nat) (s : State) : Moves [.files, .locks, .out, .pins, .cfg, .roasts, .time, .keys, .evr, .nvs, .pace, .ing, .flt, .aln, .runs, .isl, .lse, .osc, .sau, .cap, .nrg, .cas] s (State.closeMet before k s) := by
  induction k generalizing s with
  | zero => exact Moves.refl _ _
  | succ k ih =>
    unfold State.closeMet
    dsimp only
    have h : Moves [.files, .locks, .out, .pins, .cfg, .roasts, .time, .keys, .evr, .nvs, .pace, .ing, .flt, .aln, .runs, .isl, .lse, .osc, .sau, .cap, .nrg, .cas] s s.passEmpty := Moves.step (moves_passEmpty ..) rfl (Moves.refl _ _)
    split
    · exact h
    · split
      · exact h
      · refine Moves.ite h (Moves.ite ?_ (Moves.trans ?_ (ih _)))
        · exact Moves.step (moves_setSlice ..) rfl (Moves.step (moves_shedAll ..) rfl h)
        · exact Moves.step (moves_evalSlices ..) rfl (Moves.step (moves_closeSlice ..) rfl h)

theorem moves_closes (s : State) (before : State) : Moves [.files, .locks, .out, .pins, .cfg, .roasts, .time, .keys, .evr, .nvs, .pace, .ing, .flt, .aln, .runs, .isl, .lse, .osc, .sau, .cap, .nrg, .cas] s (State.closes s before) := by
  unfold State.closes
  try dsimp only
  repeat' first | exact Eq.refl true | with_reducible (first
    | exact Moves.refl _ _ | assumption | apply Moves.step (moves_closeMet ..) | apply Moves.step (moves_evalSlices ..)
    | refine Moves.ite ?_ ?_)

theorem moves_resume (s : State) : Moves [.files, .free, .ing] s (State.resume s) := by
  unfold State.resume
  try dsimp only
  repeat' first | exact Eq.refl true | with_reducible (first
    | exact Moves.refl _ _ | assumption | apply moves_tplCommand | apply Moves.step (moves_tookFree ..)
    | apply Moves.step (moves_set ..) | apply Moves.step (moves_showStaged ..) | apply Moves.step (moves_putStreamBit ..)
    | refine Moves.foldl (fun _ _ => ?_) ?_ | refine Moves.foldlFst (fun _ _ => ?_) ?_ | refine Moves.ite ?_ ?_ | intro _
    | (refine Moves.upd rfl rfl rfl rfl ?_; first | exact Moves.refl _ _ | assumption | apply moves_tplCommand | apply Moves.step (moves_tookFree ..) | apply Moves.step (moves_set ..) | apply Moves.step (moves_showStaged ..) | apply Moves.step (moves_putStreamBit ..) | refine Moves.foldl (fun _ _ => ?_) ?_ | refine Moves.foldlFst (fun _ _ => ?_) ?_ | refine Moves.ite ?_ ?_ | split)
    | split)

theorem moves_execResume (who : Requester) (s : State) : ∃ nx : State, execResume who s = .next nx ∧ Moves [.files, .locks, .free, .out, .pins, .cfg, .roasts, .time, .keys, .evr, .nvs, .pace, .ing, .flt, .aln, .runs, .isl, .lse, .osc, .sau, .cap, .nrg, .cas] s nx := by
  unfold execResume
  refine ⟨_, rfl, ?_⟩
  try dsimp only
  repeat' first | exact Eq.refl true | with_reducible (first
    | exact Moves.refl _ _ | assumption | apply Moves.step (moves_closes ..) | apply moves_guarded
    | apply Moves.step (moves_resume ..) | intro _)

theorem moves_ingIrq (s : State) (f : Fld) : Moves [.files, .out] s (State.ingIrq s f) := by
  unfold State.ingIrq
  try dsimp only
  repeat' first | exact Eq.refl true | with_reducible (first
    | exact Moves.refl _ _ | assumption | apply Moves.step (moves_irq ..))

theorem moves_suspend (s : State) (g : Gen) (f : Nat) : Moves [.files, .out, .evr, .ing] s (State.suspend s g f) := by
  unfold State.suspend
  try dsimp only
  repeat' first | exact Eq.refl true | with_reducible (first
    | exact Moves.refl _ _ | assumption | apply Moves.step (moves_putStreamBit ..) | apply Moves.step (moves_log ..)
    | apply Moves.step (moves_ingIrq ..) | refine Moves.foldl (fun _ _ => ?_) ?_ | refine Moves.foldlFst (fun _ _ => ?_) ?_
    | refine Moves.ite ?_ ?_
    | (refine Moves.upd rfl rfl rfl rfl ?_; first | exact Moves.refl _ _ | assumption | apply Moves.step (moves_putStreamBit ..) | apply Moves.step (moves_log ..) | apply Moves.step (moves_ingIrq ..) | refine Moves.foldl (fun _ _ => ?_) ?_ | refine Moves.foldlFst (fun _ _ => ?_) ?_ | refine Moves.ite ?_ ?_ | split)
    | split)

theorem moves_suspendCmd (s : State) : Moves [.files, .out, .evr, .ing] s (State.suspendCmd s) := by
  unfold State.suspendCmd
  try dsimp only
  repeat' first | exact Eq.refl true | with_reducible (first
    | exact Moves.refl _ _ | assumption | apply moves_tplCommand | apply Moves.step (moves_suspend ..) | intro _)

theorem moves_execSuspend (who : Requester) (s : State) : ∃ nx : State, execSuspend who s = .next nx ∧ Moves [.files, .locks, .out, .pins, .cfg, .roasts, .time, .keys, .evr, .nvs, .pace, .ing, .flt, .aln, .runs, .isl, .lse, .osc, .sau, .cap, .nrg, .cas] s nx := by
  unfold execSuspend
  refine ⟨_, rfl, ?_⟩
  try dsimp only
  repeat' first | exact Eq.refl true | with_reducible (first
    | exact Moves.refl _ _ | assumption | apply Moves.step (moves_closes ..) | apply moves_guarded
    | apply Moves.step (moves_suspendCmd ..) | intro _)

theorem moves_tplDiscard (s : State) : Moves [.files, .ing] s (State.tplDiscard s) := by
  unfold State.tplDiscard
  try dsimp only
  repeat' first | exact Eq.refl true | with_reducible (first
    | exact Moves.refl _ _ | assumption | apply moves_tplCommand | apply Moves.step (moves_showStaged ..) | intro _
    | refine Moves.upd rfl rfl rfl rfl ?_)

theorem moves_execTplDiscard (who : Requester) (s : State) : ∃ nx : State, execTplDiscard who s = .next nx ∧ Moves [.files, .out, .ing] s nx := by
  unfold execTplDiscard
  refine ⟨_, rfl, ?_⟩
  try dsimp only
  repeat' first | exact Eq.refl true | with_reducible (first
    | exact Moves.refl _ _ | assumption | apply moves_guarded | apply Moves.step (moves_tplDiscard ..) | intro _)

theorem moves_tplWord (s : State) (who : Requester) (v : Nat) : Moves [.files, .locks, .free, .out, .pins, .cfg, .roasts, .time, .keys, .evr, .nvs, .pace, .ing, .flt, .aln, .runs, .isl, .lse, .osc, .sau, .cap, .nrg, .cas] s (State.tplWord s who v) := by
  unfold State.tplWord
  try dsimp only
  repeat' first | exact Eq.refl true | with_reducible (first
    | exact Moves.refl _ _ | assumption | apply moves_after | apply Moves.outs (moves_execStageTpl ..)
    | apply Moves.outs (moves_execStageRec ..) | apply Moves.outs (moves_execResume ..) | apply Moves.outs (moves_execSuspend ..)
    | apply Moves.outs (moves_execTplDiscard ..) | intro _ | split)

theorem moves_setSpduKeys (s : State) (g : Gen) (i : Nat) (x : SpduKeys) : Moves [.ing] s (State.setSpduKeys s g i x) := by
  unfold State.setSpduKeys
  try dsimp only
  repeat' first | exact Eq.refl true | with_reducible (first
    | exact Moves.refl _ _ | assumption | (refine Moves.upd rfl rfl rfl rfl ?_; first | exact Moves.refl _ _ | assumption | split)
    | split)

theorem moves_ingKeyLoad (s : State) : Moves [.files, .ing] s (State.ingKeyLoad s) := by
  unfold State.ingKeyLoad
  try dsimp only
  repeat' first | exact Eq.refl true | with_reducible (first
    | exact Moves.refl _ _ | assumption | apply Moves.step (moves_set ..) | apply Moves.step (moves_setSpduKeys ..)
    | refine Moves.foldl (fun _ _ => ?_) ?_ | refine Moves.foldlFst (fun _ _ => ?_) ?_ | refine Moves.ite ?_ ?_)

theorem moves_execIngKeyLoadNext (who : Requester) (s : State) : ∃ nx : State, execIngKeyLoadNext who s = .next nx ∧ Moves [.files, .out, .ing] s nx := by
  unfold execIngKeyLoadNext
  refine ⟨_, rfl, ?_⟩
  try dsimp only
  repeat' first | exact Eq.refl true | with_reducible (first
    | exact Moves.refl _ _ | assumption | apply moves_guarded | apply Moves.step (moves_ingKeyLoad ..) | intro _)

theorem moves_ingKeyErase (s : State) : Moves [.ing] s (State.ingKeyErase s) := by
  unfold State.ingKeyErase
  try dsimp only
  repeat' first | exact Eq.refl true | with_reducible (first
    | exact Moves.refl _ _ | assumption | apply Moves.step (moves_setSpduKeys ..) | refine Moves.ite ?_ ?_)

theorem moves_execIngKeyErase (who : Requester) (s : State) : ∃ nx : State, execIngKeyErase who s = .next nx ∧ Moves [.files, .out, .ing] s nx := by
  unfold execIngKeyErase
  refine ⟨_, rfl, ?_⟩
  try dsimp only
  repeat' first | exact Eq.refl true | with_reducible (first
    | exact Moves.refl _ _ | assumption | apply moves_guarded | apply Moves.step (moves_ingKeyErase ..) | intro _)

theorem moves_chainStart (s : State) : Moves [.files, .out, .flt] s (State.chainStart s) := by
  unfold State.chainStart
  try dsimp only
  repeat' first | exact Eq.refl true | with_reducible (first
    | exact Moves.refl _ _ | assumption | apply Moves.step (moves_showSdm ..) | apply Moves.step (moves_groupStart ..)
    | refine Moves.foldl (fun _ _ => ?_) ?_ | refine Moves.foldlFst (fun _ _ => ?_) ?_)

theorem moves_execFltChainEnable (who : Requester) (en : Bool) (s : State) : ∃ nx : State, execFltChainEnable who en s = .next nx ∧ Moves [.files, .out, .flt] s nx := by
  unfold execFltChainEnable
  refine ⟨_, rfl, ?_⟩
  try dsimp only
  repeat' first | exact Eq.refl true | with_reducible (first
    | exact Moves.refl _ _ | assumption | apply moves_open_ | apply moves_enWrite | apply Moves.step (moves_chainStart ..)
    | apply Moves.idl | intro _)

theorem moves_requestIdle {m : List Part} {s u : State} {f : BankFlds} {target : Nat} {start : State → State}
    (hs : sub [.files] m = true) (hf : ∀ v, Moves m v (start v)) (h : Moves m s u) : Moves m s (u.requestIdle f target start) := by
  unfold State.requestIdle
  refine Moves.ite (Moves.step (moves_set ..) hs h) (Moves.step (moves_set ..) hs (Moves.trans ?_ (hf _)))
  exact Moves.step (moves_setFlag ..) hs h

theorem moves_request {m : List Part} {s u : State} {f : BankFlds} {target : Nat} {start : State → State}
    (hs : sub [.files] m = true) (hf : ∀ v, Moves m v (start v)) (h : Moves m s u) : Moves m s (u.request f target start) := by
  unfold State.request
  refine Moves.ite (Moves.step (moves_set ..) hs (Moves.step (moves_set ..) hs (Moves.step (moves_setFlag ..) hs h))) ?_
  exact moves_requestIdle hs hf h

theorem moves_fadeDone {m : List Part} {s u : State} {f : BankFlds} {target : Nat} {start : State → State}
    (hs : sub [.files, .out] m = true) (hf : ∀ v, Moves m v (start v)) (h : Moves m s u) : Moves m s (u.fadeDone f target start) := by
  have hr : sub [.files] m = true := sub_trans rfl hs
  unfold State.fadeDone
  dsimp only
  refine Moves.step (moves_fltIrq ..) hs ?_
  have h1 : Moves m s ((u.set f.active target).setFlag f.fading false) :=
    Moves.step (moves_setFlag ..) hr (Moves.step (moves_set ..) hr h)
  exact Moves.ite (moves_requestIdle hr hf (Moves.step (moves_setFlag ..) hr h1)) h1

theorem moves_kernStart (target : Nat) (s : State) : Moves [.flt] s (State.kernStart target s) := by
  unfold State.kernStart
  try dsimp only
  repeat' first | exact Eq.refl true | with_reducible (first
    | exact Moves.refl _ _ | assumption | refine Moves.upd rfl rfl rfl rfl ?_)

theorem moves_kernEnd (s : State) : Moves [.files, .out, .flt] s (State.kernEnd s) := by
  unfold State.kernEnd
  try dsimp only
  repeat' first | exact Eq.refl true | with_reducible (first
    | exact Moves.refl _ _ | assumption | apply moves_fadeDone | apply Moves.step (moves_kernStart ..) | refine Moves.ite ?_ ?_
    | intro _
    | (refine Moves.upd rfl rfl rfl rfl ?_; first | exact Moves.refl _ _ | assumption | apply moves_fadeDone | apply Moves.step (moves_kernStart ..) | refine Moves.ite ?_ ?_ | split)
    | split)

theorem moves_execKernelBankSwapRequest (who : Requester) (target : Nat) (s : State) : ∃ nx : State, execKernelBankSwapRequest who target s = .next nx ∧ Moves [.files, .out, .flt] s nx := by
  unfold execKernelBankSwapRequest
  refine ⟨_, rfl, ?_⟩
  try dsimp only
  repeat' first | exact Eq.refl true | with_reducible (first
    | exact Moves.refl _ _ | assumption | apply moves_guarded | apply moves_request | apply Moves.step (moves_kernEnd ..)
    | apply Moves.step (moves_kernStart ..) | intro _)

theorem moves_execFltCoefWrite (who : Requester) (v : Nat) (s : State) : ∃ nx : State, execFltCoefWrite who v s = .next nx ∧ Moves [.files, .out, .flt] s nx := by
  unfold execFltCoefWrite
  refine ⟨_, rfl, ?_⟩
  try dsimp only
  repeat' first | exact Eq.refl true | with_reducible (first
    | exact Moves.refl _ _ | assumption | apply moves_guarded | apply Moves.step (moves_set ..)
    | apply Moves.step (moves_fltIrq ..) | refine Moves.ite ?_ ?_ | intro _ | refine Moves.upd rfl rfl rfl rfl ?_)

theorem moves_execFltGroupEnable (who : Requester) (g : Nat) (en : Bool) (s : State) : ∃ nx : State, execFltGroupEnable who g en s = .next nx ∧ Moves [.files, .out, .flt] s nx := by
  unfold execFltGroupEnable
  refine ⟨_, rfl, ?_⟩
  try dsimp only
  repeat' first | exact Eq.refl true | with_reducible (first
    | exact Moves.refl _ _ | assumption | apply moves_open_ | apply moves_enWrite | apply Moves.step (moves_fullReset ..)
    | apply Moves.idl | refine Moves.ite ?_ ?_ | intro _)

theorem moves_execFltSync (who : Requester) (g : Nat) (s : State) : ∃ nx : State, execFltSync who g s = .next nx ∧ Moves [.files, .out, .flt] s nx := by
  unfold execFltSync
  refine ⟨_, rfl, ?_⟩
  try dsimp only
  repeat' first | exact Eq.refl true | with_reducible (first
    | exact Moves.refl _ _ | assumption | apply moves_open_ | apply Moves.step (moves_fullReset ..) | refine Moves.ite ?_ ?_
    | intro _)

theorem moves_firStart (g : Nat) (target : Nat) (s : State) : Moves [.flt] s (State.firStart g target s) := by
  unfold State.firStart
  try dsimp only
  repeat' first | exact Eq.refl true | with_reducible (first
    | exact Moves.refl _ _ | assumption | refine Moves.ite ?_ ?_ | refine Moves.upd rfl rfl rfl rfl ?_)

theorem moves_firEnd (s : State) (g : Nat) : Moves [.files, .out, .flt] s (State.firEnd s g) := by
  unfold State.firEnd
  try dsimp only
  repeat' first | exact Eq.refl true | with_reducible (first
    | exact Moves.refl _ _ | assumption | apply moves_fadeDone | apply Moves.step (moves_setFgroup ..)
    | apply Moves.step (moves_firStart ..) | refine Moves.ite ?_ ?_ | intro _ | split)

theorem moves_execFirBankSwapRequest (who : Requester) (g : Nat) (target : Nat) (s : State) : ∃ nx : State, execFirBankSwapRequest who g target s = .next nx ∧ Moves [.files, .out, .flt] s nx := by
  unfold execFirBankSwapRequest
  refine ⟨_, rfl, ?_⟩
  try dsimp only
  repeat' first | exact Eq.refl true | with_reducible (first
    | exact Moves.refl _ _ | assumption | apply moves_guarded | apply moves_request | apply Moves.step (moves_firEnd ..)
    | apply Moves.step (moves_firStart ..) | intro _)

theorem moves_inputWord (s : State) (who : Requester) (a : Nat) (v : Nat) : Moves [.files, .locks, .free, .out, .pins, .cfg, .roasts, .time, .keys, .evr, .nvs, .backup, .pace, .ing, .flt, .aln, .runs, .isl, .lse, .osc, .sau, .cap, .nrg, .cas] s (State.inputWord s who a v) := by
  unfold State.inputWord
  try dsimp only
  repeat' first | exact Eq.refl true | with_reducible (first
    | exact Moves.refl _ _ | assumption | apply moves_onBit | apply Moves.step (moves_utcWrite ..) | apply moves_after
    | apply Moves.step (moves_tplWord ..) | apply Moves.step (moves_showSdm ..) | apply Moves.outs (moves_execStepGo ..)
    | apply Moves.outs (moves_execTsuSampleGo ..) | apply Moves.outs (moves_execParserEnable ..)
    | apply Moves.outs (moves_execUnclaimedClr ..) | apply Moves.outs (moves_execIngKeyLoadNext ..)
    | apply Moves.outs (moves_execIngKeyErase ..) | apply Moves.outs (moves_execFltChainEnable ..)
    | apply Moves.outs (moves_execKernelBankSwapRequest ..) | apply Moves.outs (moves_execFltCoefWrite ..)
    | apply Moves.outs (moves_execFltGroupEnable ..) | apply Moves.outs (moves_execFltSync ..)
    | apply Moves.outs (moves_execFirBankSwapRequest ..) | refine Moves.ite ?_ ?_ | intro _ | split)

theorem moves_alnStart (s : State) : Moves [.files, .aln, .lse, .osc] s (State.alnStart s) := by
  unfold State.alnStart
  try dsimp only
  repeat' first | exact Eq.refl true | with_reducible (first
    | exact Moves.refl _ _ | assumption | apply Moves.step (moves_showOpen ..) | apply Moves.step (moves_advance ..)
    | refine Moves.upd rfl rfl rfl rfl ?_)

theorem moves_dropSlice (s : State) (n : Nat) : Moves [.aln] s (State.dropSlice s n) := by
  unfold State.dropSlice
  try dsimp only
  repeat' first | exact Eq.refl true | with_reducible (first
    | exact Moves.refl _ _ | assumption | refine Moves.upd rfl rfl rfl rfl ?_)

theorem moves_shutOrDrop (s : State) (n : Nat) : Moves [.aln] s (State.shutOrDrop s n) := by
  unfold State.shutOrDrop
  try dsimp only
  repeat' first | exact Eq.refl true | with_reducible (first
    | exact Moves.refl _ _ | assumption | apply Moves.step (moves_dropSlice ..) | apply Moves.step (moves_setSlice ..)
    | refine Moves.ite ?_ ?_ | split)

theorem moves_txnStopped (s : State) : Moves [.files, .out, .cfg, .roasts, .ing] s (State.txnStopped s) := by
  unfold State.txnStopped
  try dsimp only
  repeat' first | exact Eq.refl true | with_reducible (first
    | exact Moves.refl _ _ | assumption | apply Moves.step (moves_swapUnhold ..) | apply Moves.step (moves_set ..)
    | apply Moves.step (moves_txnApply ..) | refine Moves.ite ?_ ?_)

theorem moves_alnStop (s : State) : Moves [.files, .locks, .out, .pins, .cfg, .roasts, .time, .keys, .evr, .nvs, .pace, .ing, .flt, .aln, .runs, .isl, .lse, .osc, .sau, .cap, .nrg, .cas] s (State.alnStop s) := by
  unfold State.alnStop
  try dsimp only
  repeat' first | exact Eq.refl true | with_reducible (first
    | exact Moves.refl _ _ | assumption | apply Moves.step (moves_showOpen ..) | apply Moves.step (moves_shutOrDrop ..)
    | apply Moves.step (moves_txnStopped ..) | apply Moves.step (moves_closeMet ..) | refine Moves.foldl (fun _ _ => ?_) ?_
    | refine Moves.foldlFst (fun _ _ => ?_) ?_)

theorem moves_execAlignerEnable (who : Requester) (en : Bool) (s : State) : ∃ nx : State, execAlignerEnable who en s = .next nx ∧ Moves [.files, .locks, .out, .pins, .cfg, .roasts, .time, .keys, .evr, .nvs, .pace, .ing, .flt, .aln, .runs, .isl, .lse, .osc, .sau, .cap, .nrg, .cas] s nx := by
  unfold execAlignerEnable
  refine ⟨_, rfl, ?_⟩
  try dsimp only
  repeat' first | exact Eq.refl true | with_reducible (first
    | exact Moves.refl _ _ | assumption | apply moves_open_ | apply moves_enWrite | apply Moves.step (moves_alnStart ..)
    | apply Moves.step (moves_alnStop ..) | intro _)

theorem moves_execHostRingEnable (who : Requester) (en : Bool) (s : State) : ∃ nx : State, execHostRingEnable who en s = .next nx ∧ Moves [.files, .out] s nx := by
  unfold execHostRingEnable
  refine ⟨_, rfl, ?_⟩
  try dsimp only
  repeat' first | exact Eq.refl true | with_reducible (first
    | exact Moves.refl _ _ | assumption | apply moves_open_ | apply moves_enWrite | apply Moves.idl | intro _)

theorem moves_execOscCmd (who : Requester) (kind : Nat) (index : Nat) (s : State) : ∃ nx : State, execOscCmd who kind index s = .next nx ∧ Moves [.files, .out, .osc] s nx := by
  unfold execOscCmd
  refine ⟨_, rfl, ?_⟩
  try dsimp only
  repeat' first | exact Eq.refl true | with_reducible (first
    | exact Moves.refl _ _ | assumption | apply moves_guarded | apply Moves.step (moves_setFlag ..) | intro _
    | refine Moves.upd rfl rfl rfl rfl ?_)

theorem moves_almLevels (s : State) (on : Bool) : Moves [.files, .pins] s (State.almLevels s on) := by
  unfold State.almLevels
  try dsimp only
  repeat' first | exact Eq.refl true | with_reducible (first
    | exact Moves.refl _ _ | assumption | apply Moves.step (moves_setFlag ..) | apply Moves.step (moves_set ..)
    | refine Moves.foldl (fun _ _ => ?_) ?_ | refine Moves.foldlFst (fun _ _ => ?_) ?_ | refine Moves.ite ?_ ?_
    | refine Moves.upd rfl rfl rfl rfl ?_)

theorem moves_almPins (s : State) : Moves [.files, .pins] s (State.almPins s) := by
  unfold State.almPins
  try dsimp only
  repeat' first | exact Eq.refl true | with_reducible (first
    | exact Moves.refl _ _ | assumption | apply Moves.step (moves_almLevels ..))

theorem moves_showAlmStates (s : State) : Moves [.files] s (State.showAlmStates s) := by
  unfold State.showAlmStates
  try dsimp only
  repeat' first | exact Eq.refl true | with_reducible (first
    | exact Moves.refl _ _ | assumption | apply Moves.step (moves_set ..) | refine Moves.foldl (fun _ _ => ?_) ?_
    | refine Moves.foldlFst (fun _ _ => ?_) ?_)

theorem moves_almStart (s : State) : Moves [.files, .pins, .alm] s (State.almStart s) := by
  unfold State.almStart
  try dsimp only
  repeat' first | exact Eq.refl true | with_reducible (first
    | exact Moves.refl _ _ | assumption | apply Moves.step (moves_almPins ..) | apply Moves.step (moves_showAlmStates ..)
    | apply Moves.step (moves_showAlm ..) | refine Moves.upd rfl rfl rfl rfl ?_)

theorem moves_execAlarmEngineEnable (who : Requester) (en : Bool) (s : State) : ∃ nx : State, execAlarmEngineEnable who en s = .next nx ∧ Moves [.files, .out, .pins, .alm] s nx := by
  unfold execAlarmEngineEnable
  refine ⟨_, rfl, ?_⟩
  try dsimp only
  repeat' first | exact Eq.refl true | with_reducible (first
    | exact Moves.refl _ _ | assumption | apply moves_open_ | apply moves_enWrite | apply Moves.step (moves_almStart ..)
    | apply Moves.idl | intro _)

theorem moves_execAlmPinMaskWrite (who : Requester) (v : Nat) (s : State) : ∃ nx : State, execAlmPinMaskWrite who v s = .next nx ∧ Moves [.files, .out, .pins] s nx := by
  unfold execAlmPinMaskWrite
  refine ⟨_, rfl, ?_⟩
  try dsimp only
  repeat' first | exact Eq.refl true | with_reducible (first
    | exact Moves.refl _ _ | assumption | apply moves_open_ | apply Moves.step (moves_almPins ..)
    | apply Moves.step (moves_set ..) | intro _)

theorem moves_execAlmTest (who : Requester) (v : Nat) (s : State) : ∃ nx : State, execAlmTest who v s = .next nx ∧ Moves [.files, .out, .pins] s nx := by
  unfold execAlmTest
  refine ⟨_, rfl, ?_⟩
  try dsimp only
  repeat' first | exact Eq.refl true | with_reducible (first
    | exact Moves.refl _ _ | assumption | apply moves_guarded | apply Moves.step (moves_count ..)
    | apply Moves.step (moves_almPins ..) | apply Moves.step (moves_set ..) | refine Moves.ite ?_ ?_ | intro _)

theorem moves_execAlmKeyLoad (who : Requester) (s : State) : ∃ nx : State, execAlmKeyLoad who s = .next nx ∧ Moves [.files, .out, .alm] s nx := by
  unfold execAlmKeyLoad
  refine ⟨_, rfl, ?_⟩
  try dsimp only
  repeat' first | exact Eq.refl true | with_reducible (first
    | exact Moves.refl _ _ | assumption | apply moves_guarded | apply Moves.step (moves_setFlag ..)
    | apply Moves.step (moves_set ..) | refine Moves.foldl (fun _ _ => ?_) ?_ | refine Moves.foldlFst (fun _ _ => ?_) ?_ | intro _
    | refine Moves.upd rfl rfl rfl rfl ?_)

theorem moves_execAlmKeyErase (who : Requester) (s : State) : ∃ nx : State, execAlmKeyErase who s = .next nx ∧ Moves [.files, .out, .alm] s nx := by
  unfold execAlmKeyErase
  refine ⟨_, rfl, ?_⟩
  try dsimp only
  repeat' first | exact Eq.refl true | with_reducible (first
    | exact Moves.refl _ _ | assumption | apply moves_guarded | apply Moves.step (moves_setFlag ..) | intro _
    | refine Moves.upd rfl rfl rfl rfl ?_)

theorem moves_execCaptureEnable (who : Requester) (en : Bool) (s : State) : ∃ nx : State, execCaptureEnable who en s = .next nx ∧ Moves [.files, .out] s nx := by
  unfold execCaptureEnable
  refine ⟨_, rfl, ?_⟩
  try dsimp only
  repeat' first | exact Eq.refl true | with_reducible (first
    | exact Moves.refl _ _ | assumption | apply moves_open_ | apply moves_enWrite | apply Moves.idl | intro _)

theorem moves_setXline (s : State) (k : Nat) (x : XLine) : Moves [.cap] s (State.setXline s k x) := by
  unfold State.setXline
  try dsimp only
  repeat' first | exact Eq.refl true | with_reducible (first
    | exact Moves.refl _ _ | assumption | refine Moves.upd rfl rfl rfl rfl ?_)

theorem moves_fire (s : State) (mask : Nat) : Moves [.files, .pins, .cap] s (State.fire s mask) := by
  unfold State.fire
  try dsimp only
  repeat' first | exact Eq.refl true | with_reducible (first
    | exact Moves.refl _ _ | assumption | apply Moves.step (moves_count ..) | apply Moves.step (moves_setXline ..)
    | refine Moves.foldl (fun _ _ => ?_) ?_ | refine Moves.foldlFst (fun _ _ => ?_) ?_ | refine Moves.ite ?_ ?_
    | refine Moves.upd rfl rfl rfl rfl ?_)

theorem moves_setCap (s : State) (k : Nat) (r : CapRec) : Moves [.cap] s (State.setCap s k r) := by
  unfold State.setCap
  try dsimp only
  repeat' first | exact Eq.refl true | with_reducible (first
    | exact Moves.refl _ _ | assumption | refine Moves.upd rfl rfl rfl rfl ?_)

theorem moves_capIrq (s : State) (f : Fld) : Moves [.files, .out] s (State.capIrq s f) := by
  unfold State.capIrq
  try dsimp only
  repeat' first | exact Eq.refl true | with_reducible (first
    | exact Moves.refl _ _ | assumption | apply Moves.step (moves_irq ..))

theorem moves_capLost (s : State) (slices : Nat) (wave : Nat) : Moves [.files, .out] s (State.capLost s slices wave) := by
  unfold State.capLost
  try dsimp only
  repeat' first | exact Eq.refl true | with_reducible (first
    | exact Moves.refl _ _ | assumption | apply Moves.step (moves_count ..) | apply Moves.step (moves_capIrq ..)
    | refine Moves.ite ?_ ?_)

theorem moves_openRec (s : State) (k : Nat) (b : Bytes) (t : CapTrig) : Moves [.files, .out, .backup, .cap] s (State.openRec s k b t) := by
  unfold State.openRec
  try dsimp only
  repeat' first | exact Eq.refl true | with_reducible (first
    | exact Moves.refl _ _ | assumption | apply Moves.step (moves_showSlots ..) | apply Moves.step (moves_capLost ..)
    | apply Moves.step (moves_setCap ..) | refine Moves.upd rfl rfl rfl rfl ?_)

theorem moves_capTrigger (s : State) (source : Nat) (t : Tai) (n : Nat) (own : Bool) : Moves [.files, .out, .pins, .backup, .cap] s (State.capTrigger s source t n own).1 := by
  unfold State.capTrigger
  try dsimp only
  repeat' first | exact Eq.refl true | with_reducible (first
    | exact Moves.refl _ _ | assumption | apply Moves.step (moves_fire ..) | apply Moves.step (moves_count ..)
    | apply Moves.step (moves_setCap ..) | apply Moves.step (moves_capIrq ..) | apply Moves.step (moves_openRec ..)
    | refine Moves.ite ?_ ?_ | refine Moves.iteFst ?_ ?_ | split)

theorem moves_trigAt (s : State) (source : Nat) (t : Tai) : Moves [.files, .out, .pins, .backup, .cap] s (State.trigAt s source t) := by
  unfold State.trigAt
  try dsimp only
  repeat' first | exact Eq.refl true | with_reducible (first
    | exact Moves.refl _ _ | assumption | apply Moves.step (moves_capTrigger ..))

theorem moves_execCapHostTrig (who : Requester) (t : Tai) (s : State) : ∃ nx : State, execCapHostTrig who t s = .next nx ∧ Moves [.files, .out, .pins, .time, .backup, .cap] s nx := by
  unfold execCapHostTrig
  refine ⟨_, rfl, ?_⟩
  try dsimp only
  repeat' first | exact Eq.refl true | with_reducible (first
    | exact Moves.refl _ _ | assumption | apply moves_guarded | apply Moves.step (moves_moveTo ..)
    | apply Moves.step (moves_trigAt ..) | intro _)

theorem moves_armCmd (s : State) (who : Requester) (arm : Nat) (disarm : Nat) : Moves [.files, .out, .cap, .cas] s (State.armCmd s who arm disarm) := by
  unfold State.armCmd
  try dsimp only
  repeat' first | exact Eq.refl true | with_reducible (first
    | exact Moves.refl _ _ | assumption | apply moves_guarded | apply Moves.step (moves_originate ..)
    | apply Moves.step (moves_hifErr ..) | refine Moves.ite ?_ ?_ | intro _ | refine Moves.upd rfl rfl rfl rfl ?_)

theorem moves_setPub (s : State) (k : Nat) (x : PubMem) : Moves [.alm] s (State.setPub s k x) := by
  unfold State.setPub
  try dsimp only
  repeat' first | exact Eq.refl true | with_reducible (first
    | exact Moves.refl _ _ | assumption | refine Moves.upd rfl rfl rfl rfl ?_)

theorem moves_enqueue7 (s : State) (p : Nat) (f : TxFrame) : Moves [.files, .free, .out, .evr, .sch, .ports] s (State.enqueue7 s p f) := by
  unfold State.enqueue7
  try dsimp only
  repeat' first | exact Eq.refl true | with_reducible (first
    | exact Moves.refl _ _ | assumption | apply Moves.step (moves_enqueue ..) | apply Moves.step (moves_pubDrop ..)
    | apply Moves.step (moves_frameDone ..) | apply Moves.step (moves_log ..) | apply Moves.step (moves_count ..)
    | refine Moves.ite ?_ ?_)

theorem moves_enqueueAlarm (s : State) (p : Nat) (k : Nat) (f : TxFrame) : Moves [.files, .free, .out, .evr, .sch, .ports] s (State.enqueueAlarm s p k f) := by
  unfold State.enqueueAlarm
  try dsimp only
  repeat' first | exact Eq.refl true | with_reducible (first
    | exact Moves.refl _ _ | assumption | apply Moves.step (moves_setPort ..) | apply Moves.step (moves_count ..)
    | apply Moves.step (moves_enqueue7 ..) | refine Moves.ite ?_ ?_ | split)

theorem moves_pubSend (s : State) (k : Nat) (b : Bytes) (from_ : Tai) : Moves [.files, .free, .out, .evr, .sch, .ports, .alm] s (State.pubSend s k b from_) := by
  unfold State.pubSend
  try dsimp only
  repeat' first | exact Eq.refl true | with_reducible (first
    | exact Moves.refl _ _ | assumption | apply Moves.step (moves_irq ..) | apply Moves.step (moves_count ..)
    | apply Moves.step (moves_setPub ..) | apply Moves.step (moves_tookFree ..) | apply Moves.step (moves_set ..)
    | apply Moves.step (moves_enqueueAlarm ..) | refine Moves.ite ?_ ?_ | refine Moves.upd rfl rfl rfl rfl ?_)

theorem moves_pubCheck (s : State) (t : Tai) (k : Nat) : Moves [.files, .free, .out, .evr, .sch, .ports, .alm] s (State.pubCheck s t k) := by
  unfold State.pubCheck
  try dsimp only
  repeat' first | exact Eq.refl true | with_reducible (first
    | exact Moves.refl _ _ | assumption | apply Moves.step (moves_pubSend ..) | apply Moves.step (moves_setPub ..)
    | refine Moves.ite ?_ ?_ | split)

theorem moves_pubsCheck (s : State) (t : Tai) : Moves [.files, .free, .out, .evr, .sch, .ports, .alm] s (State.pubsCheck s t) := by
  unfold State.pubsCheck
  try dsimp only
  repeat' first | exact Eq.refl true | with_reducible (first
    | exact Moves.refl _ _ | assumption | apply Moves.step (moves_pubCheck ..) | refine Moves.foldl (fun _ _ => ?_) ?_
    | refine Moves.foldlFst (fun _ _ => ?_) ?_)

theorem moves_execAlmFrameMaskWrite (who : Requester) (j : Nat) (v : Nat) (t : Tai) (s : State) : ∃ nx : State, execAlmFrameMaskWrite who j v t s = .next nx ∧ Moves [.files, .free, .out, .time, .evr, .sch, .ports, .alm] s nx := by
  unfold execAlmFrameMaskWrite
  refine ⟨_, rfl, ?_⟩
  try dsimp only
  repeat' first | exact Eq.refl true | with_reducible (first
    | exact Moves.refl _ _ | assumption | apply moves_open_ | apply Moves.step (moves_moveTo ..) | apply Moves.step (moves_set ..)
    | apply Moves.step (moves_pubsCheck ..) | refine Moves.ite ?_ ?_ | intro _)

theorem moves_execAlmRuleAck (who : Requester) (j : Nat) (v : Nat) (s : State) : ∃ nx : State, execAlmRuleAck who j v s = .next nx ∧ Moves [.files, .out, .alm] s nx := by
  unfold execAlmRuleAck
  refine ⟨_, rfl, ?_⟩
  try dsimp only
  repeat' first | exact Eq.refl true | with_reducible (first
    | exact Moves.refl _ _ | assumption | apply moves_open_ | intro _ | refine Moves.upd rfl rfl rfl rfl ?_)

theorem moves_execCapSlotHold (who : Requester) (k : Nat) (s : State) : ∃ nx : State, execCapSlotHold who k s = .next nx ∧ Moves [.files, .out, .cap] s nx := by
  unfold execCapSlotHold
  refine ⟨_, rfl, ?_⟩
  try dsimp only
  repeat' first | exact Eq.refl true | with_reducible (first
    | exact Moves.refl _ _ | assumption | apply moves_guarded | apply Moves.step (moves_showSlots ..)
    | apply Moves.step (moves_setCap ..) | refine Moves.ite ?_ ?_ | intro _ | split)

theorem moves_execCapSlotRelease (who : Requester) (k : Nat) (s : State) : ∃ nx : State, execCapSlotRelease who k s = .next nx ∧ Moves [.files, .out, .cap] s nx := by
  unfold execCapSlotRelease
  refine ⟨_, rfl, ?_⟩
  try dsimp only
  repeat' first | exact Eq.refl true | with_reducible (first
    | exact Moves.refl _ _ | assumption | apply moves_guarded | apply Moves.step (moves_showSlots ..) | refine Moves.ite ?_ ?_
    | intro _
    | (refine Moves.upd rfl rfl rfl rfl ?_; first | exact Moves.refl _ _ | assumption | apply moves_guarded | apply Moves.step (moves_showSlots ..) | refine Moves.ite ?_ ?_ | split)
    | split)

theorem moves_sliceWord (s : State) (who : Requester) (a : Nat) (v : Nat) : Moves [.files, .locks, .free, .out, .pins, .cfg, .roasts, .time, .keys, .evr, .nvs, .backup, .pace, .sch, .ports, .ing, .flt, .aln, .runs, .isl, .lse, .osc, .sau, .cap, .nrg, .alm, .cas] s (State.sliceWord s who a v) := by
  unfold State.sliceWord
  try dsimp only
  repeat' first | exact Eq.refl true | with_reducible (first
    | exact Moves.refl _ _ | assumption | apply moves_after | apply moves_onBit | apply Moves.step (moves_armCmd ..)
    | apply Moves.step (moves_setFlag ..) | apply Moves.outs (moves_execAlignerEnable ..)
    | apply Moves.outs (moves_execHostRingEnable ..) | apply Moves.outs (moves_execOscCmd ..)
    | apply Moves.outs (moves_execAlarmEngineEnable ..) | apply Moves.outs (moves_execAlmPinMaskWrite ..)
    | apply Moves.outs (moves_execAlmTest ..) | apply Moves.outs (moves_execAlmKeyLoad ..)
    | apply Moves.outs (moves_execAlmKeyErase ..) | apply Moves.outs (moves_execCaptureEnable ..)
    | apply Moves.outs (moves_execCapHostTrig ..) | apply Moves.outs (moves_execAlmFrameMaskWrite ..)
    | apply Moves.outs (moves_execAlmRuleAck ..) | apply Moves.outs (moves_execCapSlotHold ..)
    | apply Moves.outs (moves_execCapSlotRelease ..) | refine Moves.ite ?_ ?_ | intro _ | split)

theorem moves_showAcc (s : State) (e : Nat) : Moves [.files] s (State.showAcc s e) := by
  unfold State.showAcc
  try dsimp only
  repeat' first | exact Eq.refl true | with_reducible (first
    | exact Moves.refl _ _ | assumption | apply Moves.step (moves_set ..) | refine Moves.foldl (fun _ _ => ?_) ?_
    | refine Moves.foldlFst (fun _ _ => ?_) ?_ | refine Moves.ite ?_ ?_)

theorem moves_nrgRestore (s : State) : Moves [.files, .out, .evr, .nrg] s (State.nrgRestore s) := by
  unfold State.nrgRestore
  try dsimp only
  repeat' first | exact Eq.refl true | with_reducible (first
    | exact Moves.refl _ _ | assumption | apply Moves.step (moves_set ..) | apply Moves.step (moves_log ..)
    | apply Moves.step (moves_setFlag ..) | apply Moves.step (moves_showAcc ..) | apply Moves.step (moves_nrgIrq ..)
    | refine Moves.foldl (fun _ _ => ?_) ?_ | refine Moves.foldlFst (fun _ _ => ?_) ?_ | refine Moves.ite ?_ ?_
    | (refine Moves.upd rfl rfl rfl rfl ?_; first | exact Moves.refl _ _ | assumption | apply Moves.step (moves_set ..) | apply Moves.step (moves_log ..) | apply Moves.step (moves_setFlag ..) | apply Moves.step (moves_showAcc ..) | apply Moves.step (moves_nrgIrq ..) | refine Moves.foldl (fun _ _ => ?_) ?_ | refine Moves.foldlFst (fun _ _ => ?_) ?_ | refine Moves.ite ?_ ?_ | split)
    | split)

theorem moves_newInterval (s : State) (flags : Nat) : Moves [.files, .nrg] s (State.newInterval s flags) := by
  unfold State.newInterval
  try dsimp only
  repeat' first | exact Eq.refl true | with_reducible (first
    | exact Moves.refl _ _ | assumption | apply Moves.step (moves_clearMaxDem ..) | refine Moves.upd rfl rfl rfl rfl ?_)

theorem moves_nrgDecide (s : State) : Moves [.files, .out, .keys, .evr, .nvs, .nrg] s (State.nrgDecide s) := by
  unfold State.nrgDecide
  try dsimp only
  repeat' first | exact Eq.refl true | with_reducible (first
    | exact Moves.refl _ _ | assumption | apply Moves.step (moves_newInterval ..) | apply Moves.step (moves_closeInterval ..)
    | apply Moves.step (moves_nrgFlag ..) | refine Moves.ite ?_ ?_ | refine Moves.upd rfl rfl rfl rfl ?_)

theorem moves_startSave (s : State) : Moves [.files, .nrg] s (State.startSave s) := by
  unfold State.startSave
  try dsimp only
  repeat' first | exact Eq.refl true | with_reducible (first
    | exact Moves.refl _ _ | assumption | apply Moves.step (moves_count ..) | apply Moves.step (moves_setFlag ..)
    | refine Moves.ite ?_ ?_ | refine Moves.upd rfl rfl rfl rfl ?_)

theorem moves_nrgStart (s : State) : Moves [.files, .out, .keys, .evr, .nvs, .nrg] s (State.nrgStart s) := by
  unfold State.nrgStart
  try dsimp only
  repeat' first | exact Eq.refl true | with_reducible (first
    | exact Moves.refl _ _ | assumption | apply Moves.step (moves_nrgRestore ..) | apply Moves.step (moves_set ..)
    | apply Moves.step (moves_clearMaxDem ..) | apply Moves.step (moves_nrgDecide ..) | apply Moves.step (moves_startSave ..)
    | refine Moves.ite ?_ ?_ | refine Moves.upd rfl rfl rfl rfl ?_)

theorem moves_execEnergyEnable (who : Requester) (en : Bool) (s : State) : ∃ nx : State, execEnergyEnable who en s = .next nx ∧ Moves [.files, .out, .keys, .evr, .nvs, .backup, .nrg] s nx := by
  unfold execEnergyEnable
  refine ⟨_, rfl, ?_⟩
  try dsimp only
  repeat' first | exact Eq.refl true | with_reducible (first
    | exact Moves.refl _ _ | assumption | apply moves_open_ | apply moves_enWrite | apply Moves.step (moves_nrgStart ..)
    | apply Moves.step (moves_nrgPush ..) | intro _)

theorem moves_execNrgSaveNow (who : Requester) (s : State) : ∃ nx : State, execNrgSaveNow who s = .next nx ∧ Moves [.files, .out, .nrg] s nx := by
  unfold execNrgSaveNow
  refine ⟨_, rfl, ?_⟩
  try dsimp only
  repeat' first | exact Eq.refl true | with_reducible (first
    | exact Moves.refl _ _ | assumption | apply moves_guarded | apply Moves.step (moves_startSave ..) | refine Moves.ite ?_ ?_
    | intro _)

theorem moves_perCore {m : List Part} {s u : State} {who : Requester} {addr : Nat} {f : Nat → State → State}
    (hs : sub [.files, .out] m = true) (hf : ∀ p v, Moves m v (f p v)) (h : Moves m s u) : Moves m s (u.perCore who addr f) := by
  unfold State.perCore
  refine moves_open_ hs (fun v => ?_) h
  split
  · exact hf _ v
  · exact Moves.refl _ _

theorem moves_giveUp (s : State) (p : Nat) : Moves [.files, .sch] s (State.giveUp s p) := by
  unfold State.giveUp
  try dsimp only
  repeat' first | exact Eq.refl true | with_reducible (first
    | exact Moves.refl _ _ | assumption | apply Moves.step (moves_set ..) | apply Moves.step (moves_unpreempt ..)
    | apply Moves.step (moves_setCore ..))

theorem moves_suspendNow (s : State) (t : Nat) : Moves [.sch] s (State.suspendNow s t) := by
  unfold State.suspendNow
  try dsimp only
  repeat' first | exact Eq.refl true | with_reducible (first
    | exact Moves.refl _ _ | assumption | apply Moves.step (moves_setTcb ..))

theorem moves_execSchWait (who : Requester) (o : Nat) (s : State) : ∃ nx : State, execSchWait who o s = .next nx ∧ Moves [.files, .out, .sch] s nx := by
  unfold execSchWait
  refine ⟨_, rfl, ?_⟩
  try dsimp only
  repeat' first | exact Eq.refl true | with_reducible (first
    | exact Moves.refl _ _ | assumption | apply moves_perCore | apply Moves.step (moves_set ..)
    | apply Moves.step (moves_setObj ..) | apply Moves.step (moves_giveUp ..) | apply Moves.step (moves_suspendNow ..)
    | apply Moves.step (moves_setTcb ..) | refine Moves.ite ?_ ?_ | intro _
    | (refine Moves.upd rfl rfl rfl rfl ?_; first | exact Moves.refl _ _ | assumption | apply moves_perCore | apply Moves.step (moves_set ..) | apply Moves.step (moves_setObj ..) | apply Moves.step (moves_giveUp ..) | apply Moves.step (moves_suspendNow ..) | apply Moves.step (moves_setTcb ..) | refine Moves.ite ?_ ?_ | split)
    | split)

theorem moves_execSchSignal (who : Requester) (o : Nat) (s : State) : ∃ nx : State, execSchSignal who o s = .next nx ∧ Moves [.files, .out, .sch] s nx := by
  unfold execSchSignal
  refine ⟨_, rfl, ?_⟩
  try dsimp only
  repeat' first | exact Eq.refl true | with_reducible (first
    | exact Moves.refl _ _ | assumption | apply moves_perCore | apply Moves.step (moves_objSignal ..) | intro _)

theorem moves_execSchYield (who : Requester) (s : State) : ∃ nx : State, execSchYield who s = .next nx ∧ Moves [.files, .out, .sch] s nx := by
  unfold execSchYield
  refine ⟨_, rfl, ?_⟩
  try dsimp only
  repeat' first | exact Eq.refl true | with_reducible (first
    | exact Moves.refl _ _ | assumption | apply moves_perCore | apply Moves.step (moves_giveUp ..)
    | apply Moves.step (moves_suspendNow ..) | apply Moves.step (moves_makeReady ..) | refine Moves.ite ?_ ?_ | intro _ | split)

theorem moves_execSchExit (who : Requester) (s : State) : ∃ nx : State, execSchExit who s = .next nx ∧ Moves [.files, .out, .sch] s nx := by
  unfold execSchExit
  refine ⟨_, rfl, ?_⟩
  try dsimp only
  repeat' first | exact Eq.refl true | with_reducible (first
    | exact Moves.refl _ _ | assumption | apply moves_perCore | apply Moves.step (moves_giveUp ..)
    | apply Moves.step (moves_suspendNow ..) | apply Moves.step (moves_setTcb ..) | refine Moves.ite ?_ ?_ | intro _ | split)

theorem moves_setCoreState (s : State) (p : Nat) (x : Nat) : Moves [.files] s (State.setCoreState s p x) := by
  unfold State.setCoreState
  try dsimp only
  repeat' first | exact Eq.refl true | with_reducible (first
    | exact Moves.refl _ _ | assumption | apply Moves.step (moves_set ..))

theorem moves_showCores (s : State) : Moves [.files] s (State.showCores s) := by
  unfold State.showCores
  try dsimp only
  repeat' first | exact Eq.refl true | with_reducible (first
    | exact Moves.refl _ _ | assumption | apply Moves.step (moves_set ..) | refine Moves.foldl (fun _ _ => ?_) ?_
    | refine Moves.foldlFst (fun _ _ => ?_) ?_)

theorem moves_migrated (s : State) (m : Migration) (fromState : Nat) (result : Nat) : Moves [.files, .out, .evr, .sch] s (State.migrated s m fromState result) := by
  unfold State.migrated
  try dsimp only
  repeat' first | exact Eq.refl true | with_reducible (first
    | exact Moves.refl _ _ | assumption | apply Moves.step (moves_giveUp ..) | apply Moves.step (moves_set ..)
    | apply Moves.step (moves_setCore ..) | apply Moves.step (moves_setCoreState ..) | apply Moves.step (moves_log ..)
    | apply Moves.step (moves_irq ..) | apply Moves.step (moves_showCores ..) | apply Moves.step (moves_handOut ..)
    | refine Moves.ite ?_ ?_
    | (refine Moves.upd rfl rfl rfl rfl ?_; first | exact Moves.refl _ _ | assumption | apply Moves.step (moves_giveUp ..) | apply Moves.step (moves_set ..) | apply Moves.step (moves_setCore ..) | apply Moves.step (moves_setCoreState ..) | apply Moves.step (moves_log ..) | apply Moves.step (moves_irq ..) | apply Moves.step (moves_showCores ..) | apply Moves.step (moves_handOut ..) | refine Moves.ite ?_ ?_ | split)
    | split)

theorem moves_execSchPark (who : Requester) (s : State) : ∃ nx : State, execSchPark who s = .next nx ∧ Moves [.files, .out, .evr, .sch] s nx := by
  unfold execSchPark
  refine ⟨_, rfl, ?_⟩
  try dsimp only
  repeat' first | exact Eq.refl true | with_reducible (first
    | exact Moves.refl _ _ | assumption | apply moves_perCore | apply Moves.step (moves_migrated ..) | refine Moves.ite ?_ ?_
    | intro _ | split)

theorem moves_tcbCommand {m : List Part} {s u : State} {who : Requester} {f : State → Nat → Option State}
    (hs : sub [.files, .out] m = true) (hf : ∀ v k, OptMoves m v (f v k)) (h : Moves m s u) : Moves m s (u.tcbCommand who f) := by
  have hr : sub [.files] m = true := sub_trans rfl hs
  unfold State.tcbCommand
  refine moves_open_ hs (fun v => ?_) h
  refine Moves.ite (Moves.refl _ _) ?_
  split
  · rename_i t ht
    exact Moves.step (moves_set ..) hr (hf _ _ _ ht)
  · exact Moves.step (moves_set ..) hr (Moves.refl _ _)

theorem moves_execTcbCreate (who : Requester) (s : State) : ∃ nx : State, execTcbCreate who s = .next nx ∧ Moves [.files, .out, .sch] s nx := by
  unfold execTcbCreate
  refine ⟨_, rfl, ?_⟩
  try dsimp only
  repeat' first | exact Eq.refl true | with_reducible (first
    | exact Moves.refl _ _ | assumption | apply moves_tcbCommand | apply Moves.step (moves_makeReady ..)
    | apply Moves.step (moves_setTcb ..) | refine Moves.ite ?_ ?_ | exact OptMoves.none | refine OptMoves.some ?_
    | refine OptMoves.ite ?_ ?_ | intro _)

theorem moves_execTcbSuspend (who : Requester) (s : State) : ∃ nx : State, execTcbSuspend who s = .next nx ∧ Moves [.files, .out, .sch] s nx := by
  unfold execTcbSuspend
  refine ⟨_, rfl, ?_⟩
  try dsimp only
  repeat' first | exact Eq.refl true | with_reducible (first
    | exact Moves.refl _ _ | assumption | apply moves_tcbCommand | apply Moves.step (moves_setTcb ..) | refine Moves.ite ?_ ?_
    | exact OptMoves.none | refine OptMoves.some ?_ | refine OptMoves.ite ?_ ?_ | intro _)

theorem moves_execTcbResume (who : Requester) (s : State) : ∃ nx : State, execTcbResume who s = .next nx ∧ Moves [.files, .out, .sch] s nx := by
  unfold execTcbResume
  refine ⟨_, rfl, ?_⟩
  try dsimp only
  repeat' first | exact Eq.refl true | with_reducible (first
    | exact Moves.refl _ _ | assumption | apply moves_tcbCommand | apply Moves.step (moves_makeReady ..) | refine Moves.ite ?_ ?_
    | exact OptMoves.none | refine OptMoves.some ?_ | refine OptMoves.ite ?_ ?_ | intro _)

theorem moves_execSetPrio (who : Requester) (s : State) : ∃ nx : State, execSetPrio who s = .next nx ∧ Moves [.files, .out, .sch] s nx := by
  unfold execSetPrio
  refine ⟨_, rfl, ?_⟩
  try dsimp only
  repeat' first | exact Eq.refl true | with_reducible (first
    | exact Moves.refl _ _ | assumption | apply moves_tcbCommand | apply Moves.step (moves_setTcb ..)
    | apply Moves.step (moves_makeReady ..) | refine Moves.ite ?_ ?_ | exact OptMoves.none | refine OptMoves.some ?_
    | refine OptMoves.ite ?_ ?_ | intro _)

theorem moves_execTcbFree (who : Requester) (s : State) : ∃ nx : State, execTcbFree who s = .next nx ∧ Moves [.files, .out, .sch] s nx := by
  unfold execTcbFree
  refine ⟨_, rfl, ?_⟩
  try dsimp only
  repeat' first | exact Eq.refl true | with_reducible (first
    | exact Moves.refl _ _ | assumption | apply moves_tcbCommand | apply Moves.step (moves_setTcb ..) | refine Moves.ite ?_ ?_
    | exact OptMoves.none | refine OptMoves.some ?_ | refine OptMoves.ite ?_ ?_ | intro _)

theorem moves_tcbWord (s : State) (who : Requester) (v : Nat) : Moves [.files, .out, .sch] s (State.tcbWord s who v) := by
  unfold State.tcbWord
  try dsimp only
  repeat' first | exact Eq.refl true | with_reducible (first
    | exact Moves.refl _ _ | assumption | apply moves_after | apply Moves.outs (moves_execTcbCreate ..)
    | apply Moves.outs (moves_execTcbSuspend ..) | apply Moves.outs (moves_execTcbResume ..)
    | apply Moves.outs (moves_execSetPrio ..) | apply Moves.outs (moves_execTcbFree ..) | intro _ | split)

theorem moves_execSchObjCfgWrite (who : Requester) (kind : Bool) (s : State) : ∃ nx : State, execSchObjCfgWrite who kind s = .next nx ∧ Moves [.files, .out, .sch] s nx := by
  unfold execSchObjCfgWrite
  refine ⟨_, rfl, ?_⟩
  try dsimp only
  repeat' first | exact Eq.refl true | with_reducible (first
    | exact Moves.refl _ _ | assumption | apply moves_open_ | apply Moves.step (moves_setObj ..) | refine Moves.ite ?_ ?_
    | intro _)

theorem moves_migrate (s : State) (a : Nat) (b : Nat) (retain : Bool) : Moves [.files, .sch] s (State.migrate s a b retain) := by
  unfold State.migrate
  try dsimp only
  repeat' first | exact Eq.refl true | with_reducible (first
    | exact Moves.refl _ _ | assumption | apply Moves.step (moves_setCore ..) | apply Moves.step (moves_set ..)
    | apply Moves.step (moves_setCoreState ..) | apply Moves.step (moves_answerWork ..) | apply Moves.step (moves_raisePreempt ..)
    | refine Moves.ite ?_ ?_ | refine Moves.upd rfl rfl rfl rfl ?_)

theorem moves_execSchMigrate (who : Requester) (a : Nat) (b : Nat) (retain : Bool) (s : State) : ∃ nx : State, execSchMigrate who a b retain s = .next nx ∧ Moves [.files, .out, .sch] s nx := by
  unfold execSchMigrate
  refine ⟨_, rfl, ?_⟩
  try dsimp only
  repeat' first | exact Eq.refl true | with_reducible (first
    | exact Moves.refl _ _ | assumption | apply moves_guarded | apply Moves.step (moves_migrate ..) | intro _)

theorem moves_execBurnFloor (who : Requester) (s : State) : ∃ nx : State, execBurnFloor who s = .next nx ∧ Moves [.files, .out, .fuses] s nx := by
  unfold execBurnFloor
  refine ⟨_, rfl, ?_⟩
  try dsimp only
  repeat' first | exact Eq.refl true | with_reducible (first
    | exact Moves.refl _ _ | assumption | apply moves_guarded | refine Moves.ite ?_ ?_ | intro _
    | refine Moves.upd rfl rfl rfl rfl ?_)

theorem moves_blowFuse (s : State) (who : Requester) (lifecycles : List Nat) (f : Fuses → Fuses) : Moves [.files, .out, .fuses, .evr] s (State.blowFuse s who lifecycles f) := by
  unfold State.blowFuse
  try dsimp only
  repeat' first | exact Eq.refl true | with_reducible (first
    | exact Moves.refl _ _ | assumption | apply moves_guarded | apply Moves.step (moves_log ..)
    | apply Moves.step (moves_count ..) | refine Moves.ite ?_ ?_ | intro _ | refine Moves.upd rfl rfl rfl rfl ?_)

theorem moves_execFuseBlowGm (who : Requester) (s : State) : ∃ nx : State, execFuseBlowGm who s = .next nx ∧ Moves [.files, .out, .fuses, .evr] s nx := by
  unfold execFuseBlowGm
  refine ⟨_, rfl, ?_⟩
  try dsimp only
  repeat' first | exact Eq.refl true | with_reducible (first
    | exact Moves.refl _ _ | assumption | apply Moves.step (moves_blowFuse ..))

theorem moves_execFuseBlowTamperKill (who : Requester) (s : State) : ∃ nx : State, execFuseBlowTamperKill who s = .next nx ∧ Moves [.files, .out, .fuses, .evr] s nx := by
  unfold execFuseBlowTamperKill
  refine ⟨_, rfl, ?_⟩
  try dsimp only
  repeat' first | exact Eq.refl true | with_reducible (first
    | exact Moves.refl _ _ | assumption | apply Moves.step (moves_blowFuse ..))

theorem moves_execFuseBlowDebugAllowed (who : Requester) (s : State) : ∃ nx : State, execFuseBlowDebugAllowed who s = .next nx ∧ Moves [.files, .out, .fuses, .evr] s nx := by
  unfold execFuseBlowDebugAllowed
  refine ⟨_, rfl, ?_⟩
  try dsimp only
  repeat' first | exact Eq.refl true | with_reducible (first
    | exact Moves.refl _ _ | assumption | apply Moves.step (moves_blowFuse ..))

theorem moves_execFuseBlowLcDev (who : Requester) (s : State) : ∃ nx : State, execFuseBlowLcDev who s = .next nx ∧ Moves [.files, .out, .fuses, .evr] s nx := by
  unfold execFuseBlowLcDev
  refine ⟨_, rfl, ?_⟩
  try dsimp only
  repeat' first | exact Eq.refl true | with_reducible (first
    | exact Moves.refl _ _ | assumption | apply Moves.step (moves_blowFuse ..))

theorem moves_execFuseBlowLcProd (who : Requester) (s : State) : ∃ nx : State, execFuseBlowLcProd who s = .next nx ∧ Moves [.files, .out, .fuses, .evr] s nx := by
  unfold execFuseBlowLcProd
  refine ⟨_, rfl, ?_⟩
  try dsimp only
  repeat' first | exact Eq.refl true | with_reducible (first
    | exact Moves.refl _ _ | assumption | apply Moves.step (moves_blowFuse ..))

theorem moves_execFuseBlowLcRma (who : Requester) (s : State) : ∃ nx : State, execFuseBlowLcRma who s = .next nx ∧ Moves [.files, .out, .fuses, .evr] s nx := by
  unfold execFuseBlowLcRma
  refine ⟨_, rfl, ?_⟩
  try dsimp only
  repeat' first | exact Eq.refl true | with_reducible (first
    | exact Moves.refl _ _ | assumption | apply Moves.step (moves_blowFuse ..))

theorem moves_fuseWord (s : State) (who : Requester) (v : Nat) : Moves [.files, .out, .fuses, .evr] s (State.fuseWord s who v) := by
  unfold State.fuseWord
  try dsimp only
  repeat' first | exact Eq.refl true | with_reducible (first
    | exact Moves.refl _ _ | assumption | apply moves_after | apply Moves.step (moves_blowFuse ..)
    | apply Moves.outs (moves_execFuseBlowGm ..) | apply Moves.outs (moves_execFuseBlowTamperKill ..)
    | apply Moves.outs (moves_execFuseBlowDebugAllowed ..) | apply Moves.outs (moves_execFuseBlowLcDev ..)
    | apply Moves.outs (moves_execFuseBlowLcProd ..) | apply Moves.outs (moves_execFuseBlowLcRma ..) | apply Moves.idl | intro _
    | split)

theorem moves_keyStart (s : State) (who : Requester) (op : Nat) (slot : Nat) (parent : Nat) (gen : Nat) : Moves [.files, .out, .keys] s (State.keyStart s who op slot parent gen) := by
  unfold State.keyStart
  try dsimp only
  repeat' first | exact Eq.refl true | with_reducible (first
    | exact Moves.refl _ _ | assumption | apply moves_open_ | apply Moves.step (moves_count ..) | apply Moves.step (moves_set ..)
    | apply Moves.step (moves_keyEnd ..) | apply Moves.step (moves_setFlag ..) | refine Moves.ite ?_ ?_ | intro _
    | refine Moves.upd rfl rfl rfl rfl ?_)

theorem moves_keyWord (s : State) (who : Requester) (v : Nat) : Moves [.files, .out, .keys] s (State.keyWord s who v) := by
  unfold State.keyWord
  try dsimp only
  repeat' first | exact Eq.refl true | with_reducible (first
    | exact Moves.refl _ _ | assumption | apply Moves.step (moves_keyStart ..))

theorem moves_showItems (s : State) (f : Nat) : Moves [.files] s (State.showItems s f) := by
  unfold State.showItems
  try dsimp only
  repeat' first | exact Eq.refl true | with_reducible (first
    | exact Moves.refl _ _ | assumption | apply Moves.step (moves_set ..) | split)

theorem moves_setFlow (s : State) (f : Nat) (x : Flow) : Moves [.sch] s (State.setFlow s f x) := by
  unfold State.setFlow
  try dsimp only
  repeat' first | exact Eq.refl true | with_reducible (first
    | exact Moves.refl _ _ | assumption | refine Moves.upd rfl rfl rfl rfl ?_)

theorem moves_releaseItem (s : State) (f : Nat) (i : FlowItem) (abandoned : Bool) : Moves [.files, .out, .sch] s (State.releaseItem s f i abandoned) := by
  unfold State.releaseItem
  try dsimp only
  repeat' first | exact Eq.refl true | with_reducible (first
    | exact Moves.refl _ _ | assumption | apply Moves.step (moves_irq ..) | apply Moves.step (moves_count ..)
    | apply Moves.step (moves_setFlow ..) | apply Moves.step (moves_objSignal ..) | refine Moves.ite ?_ ?_
    | (refine Moves.upd rfl rfl rfl rfl ?_; first | exact Moves.refl _ _ | assumption | apply Moves.step (moves_irq ..) | apply Moves.step (moves_count ..) | apply Moves.step (moves_setFlow ..) | apply Moves.step (moves_objSignal ..) | refine Moves.ite ?_ ?_ | split)
    | split)

theorem moves_releaseRun (s : State) (f n : Nat) : Moves [.files, .out, .sch] s (s.releaseRun f n) := by
  induction n generalizing s with
  | zero => exact Moves.refl _ _
  | succ n ih =>
    unfold State.releaseRun
    split
    · split
      · refine Moves.trans ?_ (ih _)
        exact Moves.step (moves_releaseItem ..) rfl (Moves.step (moves_setFlow ..) rfl (Moves.refl _ _))
      · exact Moves.refl _ _
    · exact Moves.refl _ _

theorem moves_release (s : State) (f : Nat) : Moves [.files, .out, .sch] s (State.release s f) := by
  unfold State.release
  try dsimp only
  repeat' first | exact Eq.refl true | with_reducible (first
    | exact Moves.refl _ _ | assumption | apply Moves.step (moves_showItems ..) | apply Moves.step (moves_releaseRun ..))

theorem moves_complete (s : State) (f : Nat) (q : Nat) : Moves [.files, .out, .sch] s (State.complete s f q) := by
  unfold State.complete
  try dsimp only
  repeat' first | exact Eq.refl true | with_reducible (first
    | exact Moves.refl _ _ | assumption | apply Moves.step (moves_release ..) | apply Moves.step (moves_setFlow ..)
    | apply Moves.step (moves_count ..) | refine Moves.ite ?_ ?_)

theorem moves_execFlowDone (who : Requester) (f : Nat) (q : Nat) (s : State) : ∃ nx : State, execFlowDone who f q s = .next nx ∧ Moves [.files, .out, .sch] s nx := by
  unfold execFlowDone
  refine ⟨_, rfl, ?_⟩
  try dsimp only
  repeat' first | exact Eq.refl true | with_reducible (first
    | exact Moves.refl _ _ | assumption | apply moves_open_ | apply Moves.step (moves_complete ..) | intro _)

theorem moves_coreWord (s : State) (who : Requester) (a : Nat) (v : Nat) : Moves [.files, .out, .keys, .fuses, .evr, .nvs, .backup, .sch, .nrg] s (State.coreWord s who a v) := by
  unfold State.coreWord
  try dsimp only
  repeat' first | exact Eq.refl true | with_reducible (first
    | exact Moves.refl _ _ | assumption | apply moves_after | apply moves_onBit | apply Moves.step (moves_tcbWord ..)
    | apply Moves.step (moves_fuseWord ..) | apply Moves.step (moves_keyWord ..) | apply Moves.outs (moves_execEnergyEnable ..)
    | apply Moves.outs (moves_execNrgSaveNow ..) | apply Moves.outs (moves_execSchWait ..)
    | apply Moves.outs (moves_execSchSignal ..) | apply Moves.outs (moves_execSchYield ..)
    | apply Moves.outs (moves_execSchExit ..) | apply Moves.outs (moves_execSchPark ..)
    | apply Moves.outs (moves_execSchObjCfgWrite ..) | apply Moves.outs (moves_execSchMigrate ..)
    | apply Moves.outs (moves_execBurnFloor ..) | apply Moves.outs (moves_execFlowDone ..) | refine Moves.ite ?_ ?_ | intro _
    | split)

theorem moves_raiseAlarm (s : State) : Moves [.files, .out, .backup] s (State.raiseAlarm s) := by
  unfold State.raiseAlarm
  try dsimp only
  repeat' first | exact Eq.refl true | with_reducible (first
    | exact Moves.refl _ _ | assumption | apply Moves.step (moves_irq ..) | refine Moves.ite ?_ ?_
    | refine Moves.upd rfl rfl rfl rfl ?_)

theorem moves_alarm (s : State) : Moves [.files, .out, .pins, .backup] s (State.alarm s) := by
  unfold State.alarm
  try dsimp only
  repeat' first | exact Eq.refl true | with_reducible (first
    | exact Moves.refl _ _ | assumption | apply Moves.step (moves_raiseAlarm ..) | apply Moves.step (moves_setFlag ..)
    | refine Moves.ite ?_ ?_ | refine Moves.upd rfl rfl rfl rfl ?_)

theorem moves_logRange (s : State) : Moves [.files, .out, .evr, .backup] s (State.logRange s) := by
  unfold State.logRange
  try dsimp only
  repeat' first | exact Eq.refl true | with_reducible (first
    | exact Moves.refl _ _ | assumption | apply Moves.step (moves_log ..) | refine Moves.ite ?_ ?_
    | refine Moves.upd rfl rfl rfl rfl ?_)

theorem moves_setOsf (s : State) : Moves [.files] s (State.setOsf s) := by
  unfold State.setOsf
  try dsimp only
  repeat' first | exact Eq.refl true | with_reducible (first
    | exact Moves.refl _ _ | assumption | apply Moves.step (moves_setFlag ..))

theorem moves_rangeEnd (s : State) : Moves [.files, .out, .evr, .backup] s (State.rangeEnd s) := by
  unfold State.rangeEnd
  try dsimp only
  repeat' first | exact Eq.refl true | with_reducible (first
    | exact Moves.refl _ _ | assumption | apply Moves.step (moves_logRange ..) | apply Moves.step (moves_setOsf ..)
    | apply Moves.step (moves_setFlag ..) | refine Moves.upd rfl rfl rfl rfl ?_)

theorem moves_calTicks (s : State) (t : Nat) : Moves [.files, .out, .pins, .evr, .backup] s (State.calTicks s t) := by
  unfold State.calTicks
  try dsimp only
  repeat' first | exact Eq.refl true | with_reducible (first
    | exact Moves.refl _ _ | assumption | apply Moves.step (moves_count ..) | apply Moves.step (moves_alarm ..)
    | apply Moves.step (moves_rangeEnd ..) | refine Moves.ite ?_ ?_ | refine Moves.upd rfl rfl rfl rfl ?_)

theorem moves_execRtcHold (who : Requester) (ticks : Nat) (s : State) : ∃ nx : State, execRtcHold who ticks s = .next nx ∧ Moves [.files, .out, .pins, .evr, .backup] s nx := by
  unfold execRtcHold
  refine ⟨_, rfl, ?_⟩
  try dsimp only
  repeat' first | exact Eq.refl true | with_reducible (first
    | exact Moves.refl _ _ | assumption | apply moves_guarded | apply Moves.step (moves_calTicks ..)
    | apply Moves.step (moves_set ..) | apply Moves.step (moves_setFlag ..) | refine Moves.ite ?_ ?_ | intro _)

theorem moves_setCalendar (s : State) (sec : Nat) : Moves [.files, .backup] s (State.setCalendar s sec) := by
  unfold State.setCalendar
  try dsimp only
  repeat' first | exact Eq.refl true | with_reducible (first
    | exact Moves.refl _ _ | assumption | apply Moves.step (moves_setFlag ..) | refine Moves.upd rfl rfl rfl rfl ?_)

theorem moves_execRtcHoldClear (who : Requester) (ticks : Nat) (s : State) : ∃ nx : State, execRtcHoldClear who ticks s = .next nx ∧ Moves [.files, .out, .pins, .evr, .backup] s nx := by
  unfold execRtcHoldClear
  refine ⟨_, rfl, ?_⟩
  try dsimp only
  repeat' first | exact Eq.refl true | with_reducible (first
    | exact Moves.refl _ _ | assumption | apply moves_guarded | apply Moves.step (moves_calTicks ..)
    | apply Moves.step (moves_setFlag ..) | apply Moves.step (moves_setCalendar ..) | apply Moves.step (moves_irq ..)
    | refine Moves.ite ?_ ?_ | intro _)

theorem moves_execOsfClear (who : Requester) (s : State) : ∃ nx : State, execOsfClear who s = .next nx ∧ Moves [.files, .out] s nx := by
  unfold execOsfClear
  refine ⟨_, rfl, ?_⟩
  try dsimp only
  repeat' first | exact Eq.refl true | with_reducible (first
    | exact Moves.refl _ _ | assumption | apply moves_guarded | apply Moves.step (moves_setFlag ..) | refine Moves.ite ?_ ?_
    | intro _)

theorem moves_chgStore (s : State) (v : Nat) (on : Bool) : Moves [.files] s (State.chgStore s v on) := by
  unfold State.chgStore
  try dsimp only
  repeat' first | exact Eq.refl true | with_reducible (first
    | exact Moves.refl _ _ | assumption | apply Moves.step (moves_setFlag ..) | apply Moves.step (moves_set ..))

theorem moves_chgRefuse (s : State) : Moves [.files, .out, .evr] s (State.chgRefuse s) := by
  unfold State.chgRefuse
  try dsimp only
  repeat' first | exact Eq.refl true | with_reducible (first
    | exact Moves.refl _ _ | assumption | apply Moves.step (moves_log ..) | apply Moves.step (moves_setFlag ..))

theorem moves_execBkpChgWrite (who : Requester) (value : Nat) (s : State) : ∃ nx : State, execBkpChgWrite who value s = .next nx ∧ Moves [.files, .out, .evr, .backup] s nx := by
  unfold execBkpChgWrite
  refine ⟨_, rfl, ?_⟩
  try dsimp only
  repeat' first | exact Eq.refl true | with_reducible (first
    | exact Moves.refl _ _ | assumption | apply moves_guarded | apply Moves.step (moves_chgStore ..)
    | apply Moves.step (moves_chgRefuse ..) | refine Moves.ite ?_ ?_ | intro _
    | (refine Moves.upd rfl rfl rfl rfl ?_; first | exact Moves.refl _ _ | assumption | apply moves_guarded | apply Moves.step (moves_chgStore ..) | apply Moves.step (moves_chgRefuse ..) | refine Moves.ite ?_ ?_ | split)
    | split)

theorem moves_execTcompSave (who : Requester) (s : State) : ∃ nx : State, execTcompSave who s = .next nx ∧ Moves [.files, .out] s nx := by
  unfold execTcompSave
  refine ⟨_, rfl, ?_⟩
  try dsimp only
  repeat' first | exact Eq.refl true | with_reducible (first
    | exact Moves.refl _ _ | assumption | apply moves_guarded | apply Moves.step (moves_setFlag ..) | intro _)

theorem moves_execBkpPwrOffRequest (who : Requester) (key : Nat) (s : State) : ∃ nx : State, execBkpPwrOffRequest who key s = .next nx ∧ Moves [.files, .out, .backup, .nrg] s nx := by
  unfold execBkpPwrOffRequest
  refine ⟨_, rfl, ?_⟩
  try dsimp only
  repeat' first | exact Eq.refl true | with_reducible (first
    | exact Moves.refl _ _ | assumption | apply moves_guarded | apply Moves.step (moves_startSave ..) | refine Moves.ite ?_ ?_
    | intro _ | refine Moves.upd rfl rfl rfl rfl ?_)

theorem moves_logOwn (s : State) (code : Nat) (source : Nat) (data : Bytes) : Moves [.files, .out, .evr] s (State.logOwn s code source data) := by
  unfold State.logOwn
  try dsimp only
  repeat' first | exact Eq.refl true | with_reducible (first
    | exact Moves.refl _ _ | assumption | apply Moves.step (moves_count ..) | apply Moves.step (moves_logPut ..))

theorem moves_logRelease (s : State) : Moves [.files, .out, .evr] s (State.logRelease s) := by
  unfold State.logRelease
  try dsimp only
  repeat' first | exact Eq.refl true | with_reducible (first
    | exact Moves.refl _ _ | assumption | apply Moves.step (moves_set ..) | apply Moves.step (moves_logOwn ..)
    | apply Moves.step (moves_logReady ..) | refine Moves.foldl (fun _ _ => ?_) ?_ | refine Moves.foldlFst (fun _ _ => ?_) ?_
    | refine Moves.ite ?_ ?_ | refine Moves.upd rfl rfl rfl rfl ?_)

theorem moves_execEvrFreeze (who : Requester) (on : Bool) (s : State) : ∃ nx : State, execEvrFreeze who on s = .next nx ∧ Moves [.files, .out, .evr] s nx := by
  unfold execEvrFreeze
  refine ⟨_, rfl, ?_⟩
  try dsimp only
  repeat' first | exact Eq.refl true | with_reducible (first
    | exact Moves.refl _ _ | assumption | apply moves_open_ | apply Moves.step (moves_setFlag ..)
    | apply Moves.step (moves_logRelease ..) | refine Moves.ite ?_ ?_ | intro _
    | (refine Moves.upd rfl rfl rfl rfl ?_; first | exact Moves.refl _ _ | assumption | apply moves_open_ | apply Moves.step (moves_setFlag ..) | apply Moves.step (moves_logRelease ..) | refine Moves.ite ?_ ?_ | split)
    | split)

theorem moves_execEvrClear (who : Requester) (key : Nat) (s : State) : ∃ nx : State, execEvrClear who key s = .next nx ∧ Moves [.files, .out, .evr] s nx := by
  unfold execEvrClear
  refine ⟨_, rfl, ?_⟩
  try dsimp only
  repeat' first | exact Eq.refl true | with_reducible (first
    | exact Moves.refl _ _ | assumption | apply moves_guarded | apply Moves.step (moves_setFlag ..) | refine Moves.ite ?_ ?_
    | intro _ | refine Moves.upd rfl rfl rfl rfl ?_)

theorem moves_execCascadeEnable (who : Requester) (en : Bool) (s : State) : ∃ nx : State, execCascadeEnable who en s = .next nx ∧ Moves [.files, .out] s nx := by
  unfold execCascadeEnable
  refine ⟨_, rfl, ?_⟩
  try dsimp only
  repeat' first | exact Eq.refl true | with_reducible (first
    | exact Moves.refl _ _ | assumption | apply moves_open_ | apply moves_enWrite | apply Moves.idl | intro _)

theorem moves_execCasTake (who : Requester) (mask : Nat) (s : State) : ∃ nx : State, execCasTake who mask s = .next nx ∧ Moves [.files, .out, .evr, .cas] s nx := by
  unfold execCasTake
  refine ⟨_, rfl, ?_⟩
  try dsimp only
  repeat' first | exact Eq.refl true | with_reducible (first
    | exact Moves.refl _ _ | assumption | apply moves_guarded | apply Moves.step (moves_takeover ..)
    | refine Moves.foldl (fun _ _ => ?_) ?_ | refine Moves.foldlFst (fun _ _ => ?_) ?_ | refine Moves.ite ?_ ?_ | intro _)

theorem moves_execCasRelease (who : Requester) (mask : Nat) (s : State) : ∃ nx : State, execCasRelease who mask s = .next nx ∧ Moves [.files, .out] s nx := by
  unfold execCasRelease
  refine ⟨_, rfl, ?_⟩
  try dsimp only
  repeat' first | exact Eq.refl true | with_reducible (first
    | exact Moves.refl _ _ | assumption | apply moves_guarded | apply Moves.step (moves_putBit ..)
    | refine Moves.foldl (fun _ _ => ?_) ?_ | refine Moves.foldlFst (fun _ _ => ?_) ?_ | intro _)

theorem moves_avsRequest (s : State) (mv : Nat) : Moves [.files, .out, .pace] s (State.avsRequest s mv) := by
  unfold State.avsRequest
  try dsimp only
  repeat' first | exact Eq.refl true | with_reducible (first
    | exact Moves.refl _ _ | assumption | apply Moves.step (moves_setFlag ..) | apply Moves.step (moves_emit ..)
    | refine Moves.upd rfl rfl rfl rfl ?_)

theorem moves_execAvsRetry (who : Requester) (s : State) : ∃ nx : State, execAvsRetry who s = .next nx ∧ Moves [.files, .out, .pace] s nx := by
  unfold execAvsRetry
  refine ⟨_, rfl, ?_⟩
  try dsimp only
  repeat' first | exact Eq.refl true | with_reducible (first
    | exact Moves.refl _ _ | assumption | apply moves_guarded | apply Moves.step (moves_setFlag ..)
    | apply Moves.step (moves_avsRequest ..) | intro _
    | (refine Moves.upd rfl rfl rfl rfl ?_; first | exact Moves.refl _ _ | assumption | apply moves_guarded | apply Moves.step (moves_setFlag ..) | apply Moves.step (moves_avsRequest ..) | split)
    | split)

theorem moves_retireUnit (s : State) (u : Nat) : Moves [.files, .pace] s (State.retireUnit s u) := by
  unfold State.retireUnit
  try dsimp only
  repeat' first | exact Eq.refl true | with_reducible (first
    | exact Moves.refl _ _ | assumption | apply Moves.step (moves_setUnit ..) | apply Moves.step (moves_setFlag ..)
    | refine Moves.ite ?_ ?_ | refine Moves.upd rfl rfl rfl rfl ?_)

theorem moves_execSweepRetire (who : Requester) (u : Nat) (s : State) : ∃ nx : State, execSweepRetire who u s = .next nx ∧ Moves [.files, .out, .pace] s nx := by
  unfold execSweepRetire
  refine ⟨_, rfl, ?_⟩
  try dsimp only
  repeat' first | exact Eq.refl true | with_reducible (first
    | exact Moves.refl _ _ | assumption | apply moves_guarded | apply Moves.step (moves_retireUnit ..) | intro _)

theorem moves_execSweepRestore (who : Requester) (u : Nat) (s : State) : ∃ nx : State, execSweepRestore who u s = .next nx ∧ Moves [.files, .out, .pace] s nx := by
  unfold execSweepRestore
  refine ⟨_, rfl, ?_⟩
  try dsimp only
  repeat' first | exact Eq.refl true | with_reducible (first
    | exact Moves.refl _ _ | assumption | apply moves_guarded | refine Moves.ite ?_ ?_ | intro _
    | refine Moves.upd rfl rfl rfl rfl ?_)

theorem moves_boardWord (s : State) (who : Requester) (a : Nat) (v : Nat) : Moves [.files, .out, .pins, .evr, .backup, .pace, .nrg, .cas] s (State.boardWord s who a v) := by
  unfold State.boardWord
  try dsimp only
  repeat' first | exact Eq.refl true | with_reducible (first
    | exact Moves.refl _ _ | assumption | apply moves_after | apply moves_onBit | apply Moves.step (moves_set ..)
    | apply Moves.outs (moves_execRtcHold ..) | apply Moves.outs (moves_execRtcHoldClear ..)
    | apply Moves.outs (moves_execOsfClear ..) | apply Moves.outs (moves_execBkpChgWrite ..)
    | apply Moves.outs (moves_execTcompSave ..) | apply Moves.outs (moves_execBkpPwrOffRequest ..)
    | apply Moves.outs (moves_execEvrFreeze ..) | apply Moves.outs (moves_execEvrClear ..)
    | apply Moves.outs (moves_execCascadeEnable ..) | apply Moves.outs (moves_execCasTake ..)
    | apply Moves.outs (moves_execCasRelease ..) | apply Moves.outs (moves_execAvsRetry ..)
    | apply Moves.outs (moves_execSweepRetire ..) | apply Moves.outs (moves_execSweepRestore ..) | refine Moves.ite ?_ ?_
    | intro _ | split)

theorem moves_wordEffect (s : State) (who : Requester) (a : Nat) (v : Nat) : Moves [.files, .locks, .free, .out, .boot, .ledger, .fw, .pins, .env, .host, .cfg, .roasts, .time, .keys, .fuses, .evr, .nvs, .backup, .pace, .sch, .ports, .ing, .flt, .aln, .runs, .isl, .lse, .osc, .sau, .cap, .nrg, .alm, .cas] s (State.wordEffect s who a v) := by
  unfold State.wordEffect
  try dsimp only
  repeat' first | exact Eq.refl true | with_reducible (first
    | exact Moves.refl _ _ | assumption | apply Moves.step (moves_hostWord ..) | apply Moves.step (moves_portWord ..)
    | apply Moves.step (moves_inputWord ..) | apply Moves.step (moves_sliceWord ..) | apply Moves.step (moves_coreWord ..)
    | apply Moves.step (moves_boardWord ..) | refine Moves.ite ?_ ?_)

theorem moves_stage (s : State) (who : Requester) (addr : Nat) (v : Nat) : Moves [.files, .out, .cfg] s (State.stage s who addr v) := by
  unfold State.stage
  try dsimp only
  repeat' first | exact Eq.refl true | with_reducible (first
    | exact Moves.refl _ _ | assumption | apply Moves.step (moves_hifErr ..) | apply Moves.step (moves_setFlag ..)
    | apply Moves.step (moves_set ..) | refine Moves.ite ?_ ?_ | refine Moves.upd rfl rfl rfl rfl ?_)

theorem moves_busWrite (s : State) (who : Requester) (ws : List (Nat × Nat)) : Moves [.files, .locks, .free, .out, .boot, .ledger, .fw, .pins, .env, .host, .cfg, .roasts, .time, .keys, .fuses, .evr, .nvs, .backup, .pace, .sch, .ports, .ing, .flt, .aln, .runs, .isl, .lse, .osc, .sau, .cap, .nrg, .alm, .cas] s (State.busWrite s who ws) := by
  unfold State.busWrite
  try dsimp only
  repeat' first | exact Eq.refl true | with_reducible (first
    | exact Moves.refl _ _ | assumption | apply Moves.step (moves_count ..) | apply Moves.step (moves_refuseWord ..)
    | apply Moves.step (moves_storeFields ..) | apply Moves.step (moves_wordEffect ..) | apply Moves.step (moves_stage ..)
    | refine Moves.foldl (fun _ _ => ?_) ?_ | refine Moves.foldlFst (fun _ _ => ?_) ?_ | refine Moves.ite ?_ ?_)

theorem moves_accessWrite (s : State) (who : Requester) (addr : Nat) (wide : Bool) (value : Nat) : Moves [.files, .locks, .free, .out, .boot, .ledger, .fw, .pins, .env, .host, .cfg, .roasts, .time, .keys, .fuses, .evr, .nvs, .backup, .pace, .sch, .ports, .ing, .flt, .aln, .runs, .isl, .lse, .osc, .sau, .cap, .nrg, .alm, .cas] s (State.accessWrite s who addr wide value) := by
  unfold State.accessWrite
  try dsimp only
  repeat' first | exact Eq.refl true | with_reducible (first
    | exact Moves.refl _ _ | assumption | apply Moves.step (moves_busWrite ..) | refine Moves.ite ?_ ?_)

theorem moves_noteWraps (s : State) (e : Nat) (old : List Nat) : Moves [.files, .nrg] s (State.noteWraps s e old) := by
  unfold State.noteWraps
  try dsimp only
  repeat' first | exact Eq.refl true | with_reducible (first
    | exact Moves.refl _ _ | assumption | apply Moves.step (moves_set ..) | refine Moves.foldl (fun _ _ => ?_) ?_
    | refine Moves.foldlFst (fun _ _ => ?_) ?_ | refine Moves.ite ?_ ?_ | refine Moves.upd rfl rfl rfl rfl ?_)

theorem moves_crossing (s : State) (k : Nat) : Moves [.files, .out, .nrg] s (State.crossing s k) := by
  unfold State.crossing
  try dsimp only
  repeat' first | exact Eq.refl true | with_reducible (first
    | exact Moves.refl _ _ | assumption | apply Moves.step (moves_nrgIrq ..) | apply Moves.step (moves_count ..)
    | apply Moves.step (moves_setFlag ..) | apply Moves.step (moves_set ..) | apply Moves.step (moves_irq ..)
    | refine Moves.ite ?_ ?_ | refine Moves.upd rfl rfl rfl rfl ?_)

theorem moves_crossings (s : State) (e : Nat) (old : List Nat) : Moves [.files, .out, .nrg] s (State.crossings s e old) := by
  unfold State.crossings
  try dsimp only
  repeat' first | exact Eq.refl true | with_reducible (first
    | exact Moves.refl _ _ | assumption | apply Moves.step (moves_count ..) | apply Moves.step (moves_crossing ..)
    | refine Moves.foldl (fun _ _ => ?_) ?_ | refine Moves.foldlFst (fun _ _ => ?_) ?_ | refine Moves.ite ?_ ?_)

theorem moves_addEnergy (s : State) (e : Nat) (c : CyclePower) (dt : Rat) : Moves [.files, .out, .nrg] s (State.addEnergy s e c dt) := by
  unfold State.addEnergy
  try dsimp only
  repeat' first | exact Eq.refl true | with_reducible (first
    | exact Moves.refl _ _ | assumption | apply Moves.step (moves_noteWraps ..) | apply Moves.step (moves_crossings ..)
    | apply Moves.step (moves_showAcc ..) | refine Moves.ite ?_ ?_ | refine Moves.upd rfl rfl rfl rfl ?_)

theorem moves_stopBlocks (s : State) : Moves [.files] s (State.stopBlocks s) := by
  unfold State.stopBlocks
  try dsimp only
  repeat' first | exact Eq.refl true | with_reducible (first
    | exact Moves.refl _ _ | assumption | apply Moves.step (moves_setFlag ..) | refine Moves.foldl (fun _ _ => ?_) ?_
    | refine Moves.foldlFst (fun _ _ => ?_) ?_)

theorem moves_safePins (s : State) : Moves [.pins, .cap] s (State.safePins s) := by
  unfold State.safePins
  try dsimp only
  repeat' first | exact Eq.refl true | with_reducible (first
    | exact Moves.refl _ _ | assumption | refine Moves.upd rfl rfl rfl rfl ?_)

theorem moves_stopAll (s : State) (step : Nat) : Moves [.files, .free, .out, .boot, .pins, .cfg, .roasts, .evr, .nvs, .backup, .pace, .sch, .ing, .runs, .cap, .nrg] s (State.stopAll s step) := by
  unfold State.stopAll
  try dsimp only
  repeat' first | exact Eq.refl true | with_reducible (first
    | exact Moves.refl _ _ | assumption | apply Moves.step (moves_cutSave ..) | apply Moves.step (moves_nrgPush ..)
    | apply Moves.step (moves_cutPulses ..) | apply Moves.step (moves_txnStopped ..) | apply Moves.step (moves_showSdm ..)
    | apply Moves.step (moves_stopBlocks ..) | apply Moves.step (moves_avsRequest ..) | apply Moves.step (moves_health ..)
    | apply Moves.step (moves_set ..) | apply Moves.step (moves_setFlag ..) | apply Moves.step (moves_safePins ..)
    | apply Moves.step (moves_showQueue ..) | apply Moves.step (moves_log ..) | refine Moves.upd rfl rfl rfl rfl ?_)

theorem moves_dropSecrets (s : State) : Moves [.keys] s (State.dropSecrets s) := by
  unfold State.dropSecrets
  try dsimp only
  repeat' first | exact Eq.refl true | with_reducible (first
    | exact Moves.refl _ _ | assumption | refine Moves.upd rfl rfl rfl rfl ?_)

theorem moves_enterQuarantine (s : State) : Moves [.files, .free, .out, .boot, .pins, .cfg, .roasts, .keys, .evr, .nvs, .backup, .pace, .sch, .ing, .runs, .cap, .nrg] s (State.enterQuarantine s) := by
  unfold State.enterQuarantine
  try dsimp only
  repeat' first | exact Eq.refl true | with_reducible (first
    | exact Moves.refl _ _ | assumption | apply Moves.step (moves_health ..) | apply Moves.step (moves_stopAll ..)
    | apply Moves.step (moves_dropSecrets ..) | apply Moves.step (moves_setFlag ..) | apply Moves.step (moves_set ..))

theorem moves_enterSafe (s : State) (step : Nat) : Moves [.files, .free, .out, .boot, .pins, .cfg, .roasts, .evr, .nvs, .backup, .pace, .sch, .ing, .runs, .cap, .nrg] s (State.enterSafe s step) := by
  unfold State.enterSafe
  try dsimp only
  repeat' first | exact Eq.refl true | with_reducible (first
    | exact Moves.refl _ _ | assumption | apply Moves.step (moves_stopAll ..) | apply Moves.step (moves_set ..))

theorem moves_operate (s : State) : Moves [.files, .boot, .pins] s (State.operate s) := by
  unfold State.operate
  try dsimp only
  repeat' first | exact Eq.refl true | with_reducible (first
    | exact Moves.refl _ _ | assumption | apply Moves.step (moves_almPins ..) | apply Moves.step (moves_devOk ..)
    | apply Moves.step (moves_setHealth ..) | apply Moves.step (moves_set ..) | refine Moves.upd rfl rfl rfl rfl ?_)

theorem moves_pickSlot (s : State) (k : Nat) : Moves [.files] s (State.pickSlot s k) := by
  unfold State.pickSlot
  try dsimp only
  repeat' first | exact Eq.refl true | with_reducible (first
    | exact Moves.refl _ _ | assumption | apply Moves.step (moves_setFlag ..) | refine Moves.ite ?_ ?_)

theorem moves_saveLed (s : State) (k : Nat) : Moves [.nvs] s (State.saveLed s k) := by
  unfold State.saveLed
  try dsimp only
  repeat' first | exact Eq.refl true | with_reducible (first
    | exact Moves.refl _ _ | assumption | refine Moves.ite ?_ ?_ | refine Moves.upd rfl rfl rfl rfl ?_)

theorem moves_enterStep (s : State) (k : Nat) : Moves [.files, .out, .boot, .ledger, .nvs] s (State.enterStep s k) := by
  unfold State.enterStep
  try dsimp only
  repeat' first | exact Eq.refl true | with_reducible (first
    | exact Moves.refl _ _ | assumption | apply Moves.step (moves_pickSlot ..) | apply Moves.step (moves_setLed ..)
    | apply Moves.step (moves_saveLed ..) | apply Moves.step (moves_set ..) | apply Moves.step (moves_setFlag ..)
    | apply Moves.step (moves_emit ..) | refine Moves.ite ?_ ?_ | refine Moves.upd rfl rfl rfl rfl ?_)

theorem moves_afterStep (s : State) (k : Nat) : Moves [.files, .free, .out, .boot, .ledger, .pins, .cfg, .roasts, .keys, .evr, .nvs, .backup, .pace, .sch, .ing, .runs, .cap, .nrg] s (State.afterStep s k) := by
  unfold State.afterStep
  try dsimp only
  repeat' first | exact Eq.refl true | with_reducible (first
    | exact Moves.refl _ _ | assumption | apply Moves.step (moves_enterQuarantine ..) | apply Moves.step (moves_enterSafe ..)
    | apply Moves.step (moves_setFlag ..) | apply Moves.step (moves_operate ..) | apply Moves.step (moves_enterStep ..)
    | refine Moves.ite ?_ ?_)

theorem moves_checkCount (s : State) (r : Run) (stage : Nat) (handshakes : Nat) : Moves [.files, .out, .evr] s (State.checkCount s r stage handshakes).1 := by
  unfold State.checkCount
  try dsimp only
  repeat' first | exact Eq.refl true | with_reducible (first
    | exact Moves.refl _ _ | assumption | apply Moves.step (moves_log ..) | refine Moves.ite ?_ ?_ | refine Moves.iteFst ?_ ?_
    | split)

theorem moves_lateCheck (s : State) (r : Run) (stage : Nat) (stop : Tai) : Moves [.pace] s (State.lateCheck s r stage stop) := by
  unfold State.lateCheck
  try dsimp only
  repeat' first | exact Eq.refl true | with_reducible (first
    | exact Moves.refl _ _ | assumption | refine Moves.ite ?_ ?_
    | (refine Moves.upd rfl rfl rfl rfl ?_; first | exact Moves.refl _ _ | assumption | refine Moves.ite ?_ ?_ | split) | split)

theorem moves_setRun (s : State) (r : Run) : Moves [.runs] s (State.setRun s r) := by
  unfold State.setRun
  try dsimp only
  repeat' first | exact Eq.refl true | with_reducible (first
    | exact Moves.refl _ _ | assumption | refine Moves.ite ?_ ?_ | refine Moves.upd rfl rfl rfl rfl ?_)

end Sys2Proof.Machine
end

