-- ==== Sys2Proof/Laws/Moves3.lean ====
section
/-! SUPPORT. What each operation can touch, part 3 of 4, in the order in which operations call each other: one law for each one,
which later proofs cite and which its own proof rests on alone. -/

set_option maxRecDepth 4000
set_option linter.unusedTactic false
set_option linter.unreachableTactic false

namespace Sys2Proof.Machine

set_option Elab.async false

theorem moves_setEngine (s : State) (n : Nat) (e : Nat) (v : Nat) : Moves [.aln] s (State.setEngine s n e v) := by
  unfold State.setEngine
  try dsimp only
  repeat' first | exact Eq.refl true | with_reducible (first
    | exact Moves.refl _ _ | assumption | apply Moves.step (moves_setSlice ..) | split)

theorem moves_stageEnd (s : State) (r : Run) (stage : Nat) (rep : StageReport) (state : Nat) : Moves [.files, .out, .evr, .pace, .aln, .runs] s (State.stageEnd s r stage rep state) := by
  unfold State.stageEnd
  try dsimp only
  repeat' first | exact Eq.refl true | with_reducible (first
    | exact Moves.refl _ _ | assumption | apply Moves.step (moves_checkCount ..)
    | apply Moves.step (Moves.fst (by assumption) (moves_checkCount ..)) | apply Moves.step (moves_lateCheck ..)
    | apply Moves.step (moves_setRun ..) | apply Moves.step (moves_sweepRuns ..) | apply Moves.step (moves_setEngine ..) | split)

theorem moves_almTakeover (s : State) : Moves [.files, .alm] s (State.almTakeover s) := by
  unfold State.almTakeover
  try dsimp only
  repeat' first | exact Eq.refl true | with_reducible (first
    | exact Moves.refl _ _ | assumption | apply Moves.step (moves_showAlmStates ..) | refine Moves.ite ?_ ?_
    | refine Moves.upd rfl rfl rfl rfl ?_)

theorem moves_queueRepair (s : State) (region : Nat) (sect : Nat) : Moves [.files, .out, .roasts, .evr] s (State.queueRepair s region sect) := by
  unfold State.queueRepair
  try dsimp only
  repeat' first | exact Eq.refl true | with_reducible (first
    | exact Moves.refl _ _ | assumption | apply Moves.step (moves_repairHead ..) | apply Moves.step (moves_log ..)
    | refine Moves.ite ?_ ?_
    | (refine Moves.upd rfl rfl rfl rfl ?_; first | exact Moves.refl _ _ | assumption | apply Moves.step (moves_repairHead ..) | apply Moves.step (moves_log ..) | refine Moves.ite ?_ ?_ | split)
    | split)

theorem moves_deliverBad (s : State) (region : Nat) (tile : Nat) : Moves [.files, .out, .roasts, .evr] s (State.deliverBad s region tile) := by
  unfold State.deliverBad
  try dsimp only
  repeat' first | exact Eq.refl true | with_reducible (first
    | exact Moves.refl _ _ | assumption | apply Moves.step (moves_log ..) | apply Moves.step (moves_count ..)
    | apply Moves.step (moves_queueRepair ..) | split)

theorem moves_useTile (s : State) (region : Nat) (sram : Bool) (slots : Nat) (tile : Nat) : Moves [.files, .out, .roasts, .evr] s (State.useTile s region sram slots tile).1 := by
  unfold State.useTile
  try dsimp only
  repeat' first | exact Eq.refl true | with_reducible (first
    | exact Moves.refl _ _ | assumption | apply Moves.step (moves_deliverBad ..) | apply Moves.step (moves_count ..)
    | refine Moves.ite ?_ ?_ | refine Moves.iteFst ?_ ?_ | refine Moves.upd rfl rfl rfl rfl ?_)

theorem moves_useTiles (s : State) (region : Nat) (sram : Bool) (slots : Nat) (ts : List Nat) :
    Moves [.files, .out, .roasts, .evr] s (s.useTiles region sram slots ts).1 := by
  induction ts generalizing s slots with
  | nil => exact Moves.refl _ _
  | cons t ts ih =>
    unfold State.useTiles
    exact Moves.trans (Moves.step (moves_useTile ..) rfl (Moves.refl _ _)) (ih ..)

theorem moves_TileRead_section (d : TileRead) (region kind inst : Nat) (sram : Bool) : Moves [.files, .out, .roasts, .evr] d.s (d.section region kind inst sram).s := by
  unfold TileRead.section
  split
  · exact Moves.refl _ _
  · exact moves_useTiles ..

theorem moves_reading {m : List Part} {s u : State} {region e : Nat} (h : Moves m s u) : Moves m s (u.reading region e).s := h

theorem moves_countIf (s : State) (f : Fld) (b : Bool) : Moves [.files] s (State.countIf s f b) := by
  unfold State.countIf
  try dsimp only
  repeat' first | exact Eq.refl true | with_reducible (first
    | exact Moves.refl _ _ | assumption | apply Moves.step (moves_count ..) | refine Moves.ite ?_ ?_)

theorem moves_evalTerm (s : State) (r : Run) (ro : Roast) (x : Slice) (devs : List Nat) (bad : List Nat) (t : Nat) : Moves [.files, .alm] s (State.evalTerm s r ro x devs bad t) := by
  unfold State.evalTerm
  try dsimp only
  repeat' first | exact Eq.refl true | with_reducible (first
    | exact Moves.refl _ _ | assumption | apply Moves.step (moves_putBit ..) | apply Moves.step (moves_countIf ..)
    | refine Moves.ite ?_ ?_ | refine Moves.upd rfl rfl rfl rfl ?_)

theorem moves_evalRule (s : State) (r : Run) (ro : Roast) (pass : Nat) (bad : List Nat) (k : Nat) : Moves [.files, .alm] s (State.evalRule s r ro pass bad k).1 := by
  unfold State.evalRule
  try dsimp only
  repeat' first | exact Eq.refl true | with_reducible (first
    | exact Moves.refl _ _ | assumption | apply Moves.step (moves_count ..) | apply Moves.step (moves_putBit ..)
    | refine Moves.ite ?_ ?_ | refine Moves.iteFst ?_ ?_ | refine Moves.upd rfl rfl rfl rfl ?_)

theorem moves_evalPass (s : State) (r : Run) (ro : Roast) (pass : Nat) (bad : List Nat) : Moves [.files, .alm] s (State.evalPass s r ro pass bad).1 := by
  unfold State.evalPass
  try dsimp only
  repeat' first | exact Eq.refl true | with_reducible (first
    | exact Moves.refl _ _ | assumption | apply Moves.step (moves_evalTerm ..) | apply Moves.step (moves_evalRule ..)
    | refine Moves.foldl (fun _ _ => ?_) ?_ | refine Moves.foldlFst (fun _ _ => ?_) ?_ | refine Moves.ite ?_ ?_
    | refine Moves.iteFst ?_ ?_)

theorem moves_latePass (s : State) (r : Run) (bad : List Nat) : Moves [.files, .alm] s (State.latePass s r bad) := by
  unfold State.latePass
  try dsimp only
  repeat' first | exact Eq.refl true | with_reducible (first
    | exact Moves.refl _ _ | assumption | apply Moves.step (moves_evalPass ..)
    | apply Moves.step (Moves.fst (by assumption) (moves_evalPass ..)) | apply Moves.step (moves_showAlmStates ..)
    | (refine Moves.upd rfl rfl rfl rfl ?_; first | exact Moves.refl _ _ | assumption | apply Moves.step (moves_evalPass ..) | apply Moves.step (Moves.fst (by assumption) (moves_evalPass ..)) | apply Moves.step (moves_showAlmStates ..) | split)
    | split)

theorem moves_noteP1 (s : State) (n : Nat) : Moves [.runs] s (State.noteP1 s n) := by
  unfold State.noteP1
  try dsimp only
  repeat' first | exact Eq.refl true | with_reducible (first
    | exact Moves.refl _ _ | assumption | refine Moves.ite ?_ ?_ | refine Moves.upd rfl rfl rfl rfl ?_)

theorem moves_ruleOutputs (s : State) (n : Nat) (pass : Nat) (c : Nat × Bool) : Moves [.files, .out, .pins, .evr, .backup, .cap] s (State.ruleOutputs s n pass c) := by
  unfold State.ruleOutputs
  try dsimp only
  repeat' first | exact Eq.refl true | with_reducible (first
    | exact Moves.refl _ _ | assumption | apply Moves.step (moves_irq ..) | apply Moves.step (moves_putBit ..)
    | apply Moves.step (moves_log ..) | apply Moves.step (moves_capTrigger ..)
    | apply Moves.step (Moves.fst (by assumption) (moves_capTrigger ..)) | refine Moves.foldl (fun _ _ => ?_) ?_
    | refine Moves.foldlFst (fun _ _ => ?_) ?_ | refine Moves.ite ?_ ?_ | refine Moves.iteFst ?_ ?_ | split)

theorem moves_passOutputs (s : State) (n : Nat) (pass : Nat) (ch : List (Nat × Bool)) : Moves [.files, .free, .out, .pins, .evr, .backup, .sch, .ports, .cap, .alm] s (State.passOutputs s n pass ch) := by
  unfold State.passOutputs
  try dsimp only
  repeat' first | exact Eq.refl true | with_reducible (first
    | exact Moves.refl _ _ | assumption | apply Moves.step (moves_pubsCheck ..) | apply Moves.step (moves_ruleOutputs ..)
    | apply Moves.step (moves_almPins ..) | refine Moves.foldl (fun _ _ => ?_) ?_ | refine Moves.foldlFst (fun _ _ => ?_) ?_)

theorem moves_alarmPass (s : State) (r : Run) (pass : Nat) (rep : StageReport) : Moves [.files, .free, .out, .pins, .roasts, .evr, .backup, .pace, .sch, .ports, .aln, .runs, .sau, .cap, .alm] s (State.alarmPass s r pass rep) := by
  unfold State.alarmPass
  try dsimp only
  repeat' first | exact Eq.refl true | with_reducible (first
    | exact Moves.refl _ _ | assumption | apply Moves.step (moves_stageEnd ..) | apply Moves.step (moves_almTakeover ..)
    | apply Moves.step (moves_TileRead_section ..) | apply moves_reading | apply Moves.step (moves_evalPass ..)
    | apply Moves.step (moves_latePass ..) | apply Moves.step (moves_set ..) | apply Moves.step (moves_noteP1 ..)
    | apply Moves.step (moves_log ..) | apply Moves.step (moves_passOutputs ..) | apply Moves.step (moves_tileHealth ..)
    | refine Moves.ite ?_ ?_ | refine Moves.iteFst ?_ ?_ | refine Moves.upd rfl rfl rfl rfl ?_)

theorem moves_shedDecide (s : State) (n : Nat) (cert : Bool) (margin : Int) : Moves [.files, .out, .evr, .pace, .aln, .runs] s (State.shedDecide s n cert margin) := by
  unfold State.shedDecide
  try dsimp only
  repeat' first | exact Eq.refl true | with_reducible (first
    | exact Moves.refl _ _ | assumption | apply Moves.step (moves_setShed ..) | refine Moves.ite ?_ ?_
    | refine Moves.upd rfl rfl rfl rfl ?_)

theorem moves_avsDecide (s : State) (cert : Bool) (margin : Int) : Moves [.files, .out, .pace] s (State.avsDecide s cert margin) := by
  unfold State.avsDecide
  try dsimp only
  repeat' first | exact Eq.refl true | with_reducible (first
    | exact Moves.refl _ _ | assumption | apply Moves.step (moves_count ..) | apply Moves.step (moves_avsRequest ..)
    | refine Moves.ite ?_ ?_ | refine Moves.upd rfl rfl rfl rfl ?_)

theorem moves_certify (s : State) (n : Nat) : Moves [.files, .free, .out, .pins, .evr, .pace, .aln, .runs] s (State.certify s n) := by
  unfold State.certify
  try dsimp only
  repeat' first | exact Eq.refl true | with_reducible (first
    | exact Moves.refl _ _ | assumption | apply Moves.step (moves_tookFree ..) | apply Moves.step (moves_setSlice ..)
    | apply Moves.step (moves_health ..) | apply Moves.step (moves_setFlag ..) | apply Moves.step (moves_setInt ..)
    | apply Moves.step (moves_paceIrq ..) | apply Moves.step (moves_count ..) | apply Moves.step (moves_shedDecide ..)
    | apply Moves.step (moves_avsDecide ..) | refine Moves.ite ?_ ?_
    | (refine Moves.upd rfl rfl rfl rfl ?_; first | exact Moves.refl _ _ | assumption | apply Moves.step (moves_tookFree ..) | apply Moves.step (moves_setSlice ..) | apply Moves.step (moves_health ..) | apply Moves.step (moves_setFlag ..) | apply Moves.step (moves_setInt ..) | apply Moves.step (moves_paceIrq ..) | apply Moves.step (moves_count ..) | apply Moves.step (moves_shedDecide ..) | apply Moves.step (moves_avsDecide ..) | refine Moves.ite ?_ ?_ | split)
    | split)

theorem moves_alarmPass2 (s : State) (r : Run) (rep : StageReport) : Moves [.files, .free, .out, .pins, .roasts, .evr, .backup, .pace, .sch, .ports, .aln, .runs, .sau, .cap, .alm] s (State.alarmPass2 s r rep) := by
  unfold State.alarmPass2
  try dsimp only
  repeat' first | exact Eq.refl true | with_reducible (first
    | exact Moves.refl _ _ | assumption | apply Moves.step (moves_certify ..) | apply Moves.step (moves_alarmPass ..))

theorem moves_almStopped (s : State) : Moves [.files, .pins, .alm] s (State.almStopped s) := by
  unfold State.almStopped
  try dsimp only
  repeat' first | exact Eq.refl true | with_reducible (first
    | exact Moves.refl _ _ | assumption | apply Moves.step (moves_almLevels ..) | refine Moves.upd rfl rfl rfl rfl ?_)

theorem moves_alnIrq (s : State) (f : Fld) : Moves [.files, .out] s (State.alnIrq s f) := by
  unfold State.alnIrq
  try dsimp only
  repeat' first | exact Eq.refl true | with_reducible (first
    | exact Moves.refl _ _ | assumption | apply Moves.step (moves_irq ..) | refine Moves.ite ?_ ?_)

theorem moves_stepTimes (s : State) (d : Int) : Moves [.cfg, .aln, .runs] s (State.stepTimes s d) := by
  unfold State.stepTimes
  try dsimp only
  repeat' first | exact Eq.refl true | with_reducible (first
    | exact Moves.refl _ _ | assumption | refine Moves.ite ?_ ?_ | refine Moves.upd rfl rfl rfl rfl ?_)

theorem moves_skipSlice (s : State) (x : Slice) : Moves [.files, .out, .aln, .osc] s (State.skipSlice s x) := by
  unfold State.skipSlice
  try dsimp only
  repeat' first | exact Eq.refl true | with_reducible (first
    | exact Moves.refl _ _ | assumption | apply Moves.step (moves_count ..) | apply Moves.step (moves_setSlice ..)
    | apply Moves.step (moves_showOpen ..) | apply Moves.step (moves_alnIrq ..) | apply Moves.step (moves_advance ..)
    | refine Moves.foldl (fun _ _ => ?_) ?_ | refine Moves.foldlFst (fun _ _ => ?_) ?_ | refine Moves.ite ?_ ?_
    | refine Moves.upd rfl rfl rfl rfl ?_)

theorem moves_stepSlice (s : State) (old : Tai) (d : Int) (n : Nat) : Moves [.files, .out, .aln, .osc] s (State.stepSlice s old d n).1 := by
  unfold State.stepSlice
  split
  · exact Moves.refl _ _
  · dsimp only
    split
    · exact Moves.refl _ _
    · split
      · exact Moves.refl _ _
      · split
        · exact Moves.step (moves_skipSlice ..) rfl (Moves.refl _ _)
        · exact Moves.step (moves_setSlice ..) rfl (Moves.refl _ _)

theorem moves_collect (s : State) (n : Nat) : Moves [.files, .aln] s (State.collect s n) := by
  unfold State.collect
  try dsimp only
  repeat' first | exact Eq.refl true | with_reducible (first
    | exact Moves.refl _ _ | assumption | apply Moves.step (moves_showOpen ..) | apply Moves.step (moves_setSlice ..)
    | refine Moves.ite ?_ ?_ | split)

theorem moves_stepRun (old : Tai) (d : Int) (k n : Nat) (s : State) : Moves [.files, .out, .aln, .osc] s (State.stepRun old d k n s) := by
  induction k generalizing s n with
  | zero => exact Moves.refl _ _
  | succ k ih =>
    unfold State.stepRun
    dsimp only
    have h : Moves [.files, .out, .aln, .osc] s ((s.collect n).stepSlice old d n).1 :=
      Moves.step (moves_stepSlice ..) rfl (Moves.step (moves_collect ..) rfl (Moves.refl _ _))
    exact Moves.ite (Moves.refl _ _) (Moves.ite h (h.trans (ih ..)))

theorem moves_stepFar (s : State) (old : Tai) (d : Int) : Moves [.files, .out, .aln, .osc] s (State.stepFar s old d) := by
  unfold State.stepFar
  try dsimp only
  repeat' first | exact Eq.refl true | with_reducible (first
    | exact Moves.refl _ _ | assumption | apply Moves.step (moves_stepRun ..) | apply Moves.step (moves_count ..)
    | apply Moves.step (moves_advance ..) | refine Moves.ite ?_ ?_ | refine Moves.upd rfl rfl rfl rfl ?_)

theorem moves_alnStep (s : State) (d : Int) : Moves [.files, .locks, .out, .pins, .cfg, .roasts, .time, .keys, .evr, .nvs, .pace, .ing, .flt, .aln, .runs, .isl, .lse, .osc, .sau, .cap, .nrg, .cas] s (State.alnStep s d) := by
  unfold State.alnStep
  try dsimp only
  repeat' first | exact Eq.refl true | with_reducible (first
    | exact Moves.refl _ _ | assumption | apply Moves.step (moves_stepTimes ..) | apply Moves.step (moves_stepFar ..)
    | apply Moves.step (moves_closes ..) | apply Moves.step (moves_stepRun ..) | apply Moves.step (moves_remeet ..)
    | refine Moves.foldl (fun _ _ => ?_) ?_ | refine Moves.foldlFst (fun _ _ => ?_) ?_ | refine Moves.ite ?_ ?_)

theorem moves_showJournal (s : State) : Moves [.files] s (State.showJournal s) := by
  unfold State.showJournal
  try dsimp only
  repeat' first | exact Eq.refl true | with_reducible (first
    | exact Moves.refl _ _ | assumption | apply Moves.step (moves_set ..))

theorem moves_hostRaise (s : State) : Moves [.files, .out, .aln] s (State.hostRaise s) := by
  unfold State.hostRaise
  try dsimp only
  repeat' first | exact Eq.refl true | with_reducible (first
    | exact Moves.refl _ _ | assumption | apply Moves.step (moves_alnIrq ..) | refine Moves.ite ?_ ?_
    | (refine Moves.upd rfl rfl rfl rfl ?_; first | exact Moves.refl _ _ | assumption | apply Moves.step (moves_alnIrq ..) | refine Moves.ite ?_ ?_ | split)
    | split)

theorem moves_deliverSlice (s : State) (x : Slice) (final : Bool) (buf : Nat) : Moves [.files, .out, .aln] s (State.deliverSlice s x final buf) := by
  unfold State.deliverSlice
  try dsimp only
  repeat' first | exact Eq.refl true | with_reducible (first
    | exact Moves.refl _ _ | assumption | apply Moves.step (moves_alnIrq ..) | apply Moves.step (moves_count ..)
    | apply Moves.step (moves_emit ..) | apply Moves.step (moves_hostRaise ..) | apply Moves.step (moves_set ..)
    | apply Moves.step (moves_setSlice ..) | refine Moves.ite ?_ ?_ | split)

theorem moves_retireSlice (s : State) (x : Slice) (buf : Nat) : Moves [.files, .out, .aln] s (State.retireSlice s x buf) := by
  unfold State.retireSlice
  try dsimp only
  repeat' first | exact Eq.refl true | with_reducible (first
    | exact Moves.refl _ _ | assumption | apply Moves.step (moves_setSlice ..) | apply Moves.step (moves_deliverSlice ..)
    | refine Moves.ite ?_ ?_)

theorem moves_alnStopped (bufs : List Nat) (s : State) : Moves [.files, .out, .aln] s (State.alnStopped bufs s) := by
  unfold State.alnStopped
  try dsimp only
  repeat' first | exact Eq.refl true | with_reducible (first
    | exact Moves.refl _ _ | assumption | apply Moves.step (moves_showJournal ..) | apply Moves.step (moves_showOpen ..)
    | apply Moves.step (moves_retireSlice ..) | refine Moves.foldl (fun _ _ => ?_) ?_ | refine Moves.foldlFst (fun _ _ => ?_) ?_
    | refine Moves.upd rfl rfl rfl rfl ?_)

theorem moves_applySteps (s : State) : Moves [.files, .out, .time, .evr] s (State.applySteps s) := by
  unfold State.applySteps
  try dsimp only
  repeat' first | exact Eq.refl true | with_reducible (first
    | exact Moves.refl _ _ | assumption | apply Moves.step (moves_endSlew ..) | apply Moves.step (moves_log ..)
    | apply Moves.step (moves_irq ..) | apply Moves.step (moves_setFlag ..)
    | (refine Moves.upd rfl rfl rfl rfl ?_; first | exact Moves.refl _ _ | assumption | apply Moves.step (moves_endSlew ..) | apply Moves.step (moves_log ..) | apply Moves.step (moves_irq ..) | apply Moves.step (moves_setFlag ..) | split)
    | split)

theorem moves_atInstant {m : List Part} {s u : State} {t : Tai} {f : State → State}
    (hs : sub [.files, .locks, .out, .pins, .cfg, .roasts, .time, .keys, .evr, .nvs, .pace, .ing, .flt, .aln, .runs, .isl, .lse, .osc, .sau, .cap, .nrg, .cas] m = true) (hf : ∀ v, Moves m v (f v)) (h : Moves m s u) : Moves m s (u.atInstant t f) := by
  unfold State.atInstant
  dsimp only
  refine Moves.step (moves_closes ..) hs ?_
  refine Moves.trans ?_ (hf _)
  refine Moves.step (moves_closes ..) hs ?_
  exact Moves.step (moves_moveTo ..) (sub_trans rfl hs) h

theorem moves_backupCatchUp (s : State) : Moves [.files, .out, .evr, .backup] s (State.backupCatchUp s) := by
  unfold State.backupCatchUp
  try dsimp only
  repeat' first | exact Eq.refl true | with_reducible (first
    | exact Moves.refl _ _ | assumption | apply Moves.step (moves_log ..) | apply Moves.step (moves_irq ..)
    | refine Moves.ite ?_ ?_ | refine Moves.upd rfl rfl rfl rfl ?_)

theorem moves_setBand (s : State) (i : Nat) (x : Band) : Moves [.osc] s (State.setBand s i x) := by
  unfold State.setBand
  try dsimp only
  repeat' first | exact Eq.refl true | with_reducible (first
    | exact Moves.refl _ _ | assumption | refine Moves.upd rfl rfl rfl rfl ?_)

theorem moves_bandFilter (s : State) (ro : Roast) (x : Slice) (bad : List Nat) (b : Nat × Bytes) : Moves [.osc] s (State.bandFilter s ro x bad b) := by
  unfold State.bandFilter
  try dsimp only
  repeat' first | exact Eq.refl true | with_reducible (first
    | exact Moves.refl _ _ | assumption | apply Moves.step (moves_setBand ..) | refine Moves.ite ?_ ?_)

theorem moves_oscIrq (s : State) (f : Fld) : Moves [.files, .out] s (State.oscIrq s f) := by
  unfold State.oscIrq
  try dsimp only
  repeat' first | exact Eq.refl true | with_reducible (first
    | exact Moves.refl _ _ | assumption | apply Moves.step (moves_irq ..))

theorem moves_resetBand (s : State) (b : Bytes) (err : Bool) : Moves [.files, .out, .osc] s (State.resetBand s b err) := by
  unfold State.resetBand
  try dsimp only
  repeat' first | exact Eq.refl true | with_reducible (first
    | exact Moves.refl _ _ | assumption | apply Moves.step (moves_putBit ..) | apply Moves.step (moves_oscIrq ..)
    | apply Moves.step (moves_count ..) | apply Moves.step (moves_setBand ..))

theorem moves_bandNoSlot (s : State) (b : Nat × Bytes) : Moves [.files, .out, .osc] s (State.bandNoSlot s b) := by
  unfold State.bandNoSlot
  try dsimp only
  repeat' first | exact Eq.refl true | with_reducible (first
    | exact Moves.refl _ _ | assumption | apply Moves.step (moves_resetBand ..) | apply Moves.step (moves_count ..)
    | apply Moves.step (moves_setBand ..) | refine Moves.ite ?_ ?_)

theorem moves_bandStep (s : State) (ro : Roast) (n : Nat) (bad : List Nat) (shed : Bool) (b : Nat × Bytes) : Moves [.files, .out, .osc] s (State.bandStep s ro n bad shed b) := by
  unfold State.bandStep
  try dsimp only
  repeat' first | exact Eq.refl true | with_reducible (first
    | exact Moves.refl _ _ | assumption | apply Moves.step (moves_setBand ..) | apply Moves.step (moves_countIf ..)
    | apply Moves.step (moves_oscIrq ..) | apply Moves.step (moves_putBit ..) | refine Moves.ite ?_ ?_
    | refine Moves.upd rfl rfl rfl rfl ?_)

theorem moves_bandSlots (s : State) (ro : Roast) (n : Nat) (slots : Nat) (bad : List Nat) (slow : Bool) (shed : Bool) : Moves [.files, .out, .osc] s (State.bandSlots s ro n slots bad slow shed) := by
  unfold State.bandSlots
  try dsimp only
  repeat' first | exact Eq.refl true | with_reducible (first
    | exact Moves.refl _ _ | assumption | apply Moves.step (moves_bandNoSlot ..) | apply Moves.step (moves_bandStep ..)
    | refine Moves.foldl (fun _ _ => ?_) ?_ | refine Moves.foldlFst (fun _ _ => ?_) ?_ | refine Moves.ite ?_ ?_)

theorem moves_bar4Word (s : State) (who : Requester) (off : Nat) (v : Nat) : Moves [.host] s (State.bar4Word s who off v) := by
  unfold State.bar4Word
  try dsimp only
  repeat' first | exact Eq.refl true | with_reducible (first
    | exact Moves.refl _ _ | assumption | refine Moves.ite ?_ ?_
    | (refine Moves.upd rfl rfl rfl rfl ?_; first | exact Moves.refl _ _ | assumption | refine Moves.ite ?_ ?_ | split) | split)

theorem moves_bar4Write (s : State) (who : Requester) (off : Nat) (wide : Bool) (value : Nat) : Moves [.host] s (State.bar4Write s who off wide value) := by
  unfold State.bar4Write
  try dsimp only
  repeat' first | exact Eq.refl true | with_reducible (first
    | exact Moves.refl _ _ | assumption | apply Moves.step (moves_bar4Word ..) | refine Moves.foldl (fun _ _ => ?_) ?_
    | refine Moves.foldlFst (fun _ _ => ?_) ?_)

theorem moves_blockStart (s : State) (x1 : Block) : Moves [.files, .free, .out, .pins, .keys, .evr, .nvs, .sch, .ports, .flt, .aln, .lse, .osc, .nrg, .alm] s (State.blockStart s x1) := by
  unfold State.blockStart
  try dsimp only
  repeat' first | exact Eq.refl true | with_reducible (first
    | exact Moves.refl _ _ | assumption | apply Moves.step (moves_portStart ..) | apply Moves.step (moves_chainStart ..)
    | apply Moves.step (moves_fullReset ..) | apply Moves.step (moves_alnStart ..) | apply Moves.step (moves_almStart ..)
    | apply Moves.step (moves_nrgStart ..) | refine Moves.ite ?_ ?_ | split)

theorem moves_portStopped (s : State) (p : Nat) : Moves [.pins] s (State.portStopped s p) := by
  unfold State.portStopped
  try dsimp only
  repeat' first | exact Eq.refl true | with_reducible (first
    | exact Moves.refl _ _ | assumption | refine Moves.upd rfl rfl rfl rfl ?_)

theorem moves_groupsStop (s : State) : Moves [.files] s (State.groupsStop s) := by
  unfold State.groupsStop
  try dsimp only
  repeat' first | exact Eq.refl true | with_reducible (first
    | exact Moves.refl _ _ | assumption | apply Moves.step (moves_showSdm ..) | apply Moves.step (moves_setFlag ..)
    | refine Moves.foldl (fun _ _ => ?_) ?_ | refine Moves.foldlFst (fun _ _ => ?_) ?_)

theorem moves_ringEmit (s : State) (ring : Nat) (f : Nat → Output) : Moves [.out] s (State.ringEmit s ring f) := by
  unfold State.ringEmit
  try dsimp only
  repeat' first | exact Eq.refl true | with_reducible (first
    | exact Moves.refl _ _ | assumption | apply Moves.step (moves_emit ..) | refine Moves.ite ?_ ?_ | split)

theorem moves_passToken (s : State) (ring : Nat) (gen : Nat) : Moves [.out, .cas] s (State.passToken s ring gen) := by
  unfold State.passToken
  try dsimp only
  repeat' first | exact Eq.refl true | with_reducible (first
    | exact Moves.refl _ _ | assumption | apply Moves.step (moves_ringEmit ..) | refine Moves.upd rfl rfl rfl rfl ?_)

theorem moves_casStopped (s : State) : Moves [.out, .cas] s (State.casStopped s) := by
  unfold State.casStopped
  try dsimp only
  repeat' first | exact Eq.refl true | with_reducible (first
    | exact Moves.refl _ _ | assumption | apply Moves.step (moves_passToken ..) | refine Moves.foldl (fun _ _ => ?_) ?_
    | refine Moves.foldlFst (fun _ _ => ?_) ?_ | refine Moves.upd rfl rfl rfl rfl ?_)

theorem moves_blockStopped (s : State) (bufs : List Nat) (x2 : Block) : Moves [.files, .out, .pins, .aln, .alm, .cas] s (State.blockStopped s bufs x2) := by
  unfold State.blockStopped
  try dsimp only
  repeat' first | exact Eq.refl true | with_reducible (first
    | exact Moves.refl _ _ | assumption | apply Moves.step (moves_portStopped ..) | apply Moves.step (moves_groupsStop ..)
    | apply Moves.step (moves_showSdm ..) | apply Moves.step (moves_alnStopped ..) | apply Moves.step (moves_almStopped ..)
    | apply Moves.step (moves_casStopped ..) | split)

theorem moves_setElem (s : State) (e : Nat) (x : NrgElem) : Moves [.nrg] s (State.setElem s e x) := by
  unfold State.setElem
  try dsimp only
  repeat' first | exact Eq.refl true | with_reducible (first
    | exact Moves.refl _ _ | assumption | refine Moves.upd rfl rfl rfl rfl ?_)

theorem moves_elemFlag (s : State) (e : Nat) (bit : Nat) : Moves [.nrg] s (State.elemFlag s e bit) := by
  unfold State.elemFlag
  try dsimp only
  repeat' first | exact Eq.refl true | with_reducible (first
    | exact Moves.refl _ _ | assumption | refine Moves.upd rfl rfl rfl rfl ?_)

theorem moves_gapTime (s : State) (e : Nat) (d : Tai) : Moves [.files, .nrg] s (State.gapTime s e d) := by
  unfold State.gapTime
  try dsimp only
  repeat' first | exact Eq.refl true | with_reducible (first
    | exact Moves.refl _ _ | assumption | apply Moves.step (moves_set ..) | apply Moves.step (moves_count ..)
    | apply Moves.step (moves_setElem ..) | apply Moves.step (moves_elemFlag ..) | apply Moves.step (moves_nrgFlag ..)
    | refine Moves.ite ?_ ?_)

theorem moves_bridgeWith (s : State) (e : Nat) (c : CyclePower) (d : Tai) : Moves [.files, .out, .nrg] s (State.bridgeWith s e c d) := by
  unfold State.bridgeWith
  try dsimp only
  repeat' first | exact Eq.refl true | with_reducible (first
    | exact Moves.refl _ _ | assumption | apply Moves.step (moves_addEnergy ..) | apply Moves.step (moves_set ..)
    | apply Moves.step (moves_count ..) | apply Moves.step (moves_setElem ..) | apply Moves.step (moves_elemFlag ..)
    | apply Moves.step (moves_nrgFlag ..) | refine Moves.ite ?_ ?_)

theorem moves_bridge (s : State) (e : Nat) (b : Bytes) (d : Tai) : Moves [.files, .out, .nrg] s (State.bridge s e b d) := by
  unfold State.bridge
  try dsimp only
  repeat' first | exact Eq.refl true | with_reducible (first
    | exact Moves.refl _ _ | assumption | apply Moves.step (moves_gapTime ..) | apply Moves.step (moves_bridgeWith ..)
    | refine Moves.ite ?_ ?_ | split)

theorem moves_buffer (s : State) (n : Nat) (f : AlnFrame) : Moves [.files, .free, .aln] s (State.buffer s n f) := by
  unfold State.buffer
  try dsimp only
  repeat' first | exact Eq.refl true | with_reducible (first
    | exact Moves.refl _ _ | assumption | apply Moves.step (moves_count ..) | apply Moves.step (moves_setSlice ..)
    | apply Moves.step (moves_meet ..) | apply Moves.step (moves_tookFree ..) | refine Moves.ite ?_ ?_)

theorem moves_noteSource (s : State) (src : Nat) (kind : Nat) (key : Nat) (addr : Nat) : Moves [.files, .out] s (State.noteSource s src kind key addr) := by
  unfold State.noteSource
  try dsimp only
  repeat' first | exact Eq.refl true | with_reducible (first
    | exact Moves.refl _ _ | assumption | apply Moves.step (moves_ingIrq ..) | apply Moves.step (moves_setFlag ..)
    | apply Moves.step (moves_set ..) | refine Moves.ite ?_ ?_ | split)

theorem moves_ringTake (s : State) (r : Ring) (n : Nat) : Moves [.files] s (State.ringTake s r n) := by
  unfold State.ringTake
  try dsimp only
  repeat' first | exact Eq.refl true | with_reducible (first
    | exact Moves.refl _ _ | assumption | apply Moves.step (moves_set ..))

theorem moves_rxBuffers (s : State) (r : Ring) (x : RxMeta) (bufs : List Nat) (trunc : Bool) (n i k : Nat) (bs : Bytes) :
    Moves [.out] s (s.rxBuffers r x bufs trunc n i k bs) := by
  induction k generalizing s i bs with
  | zero => exact Moves.refl _ _
  | succ k ih =>
    unfold State.rxBuffers
    exact Moves.trans (Moves.step (moves_ringWrite ..) rfl (Moves.step (moves_ringWrite ..) rfl (Moves.refl _ _))) (ih ..)

theorem moves_rxDeliver (s : State) (p : Nat) (k : Nat) (m : RxMeta) (bufs : List Nat) (bs : Bytes) : Moves [.files, .out, .sch, .ports] s (State.rxDeliver s p k m bufs bs) := by
  unfold State.rxDeliver
  try dsimp only
  repeat' first | exact Eq.refl true | with_reducible (first
    | exact Moves.refl _ _ | assumption | apply Moves.step (moves_macIrq ..) | apply Moves.step (moves_count ..)
    | apply Moves.step (moves_ringEvent ..) | apply Moves.step (moves_ringTake ..) | apply Moves.step (moves_rxBuffers ..)
    | refine Moves.ite ?_ ?_)

theorem moves_handOn (s : State) (k : IngPacket) (bufs : List Nat) : Moves [.files, .out, .sch, .ports] s (State.handOn s k bufs) := by
  unfold State.handOn
  try dsimp only
  repeat' first | exact Eq.refl true | with_reducible (first
    | exact Moves.refl _ _ | assumption | apply Moves.step (moves_rxDeliver ..))

theorem moves_handLimited (s : State) (src : Nat) (k : IngPacket) (bufs : List Nat) : Moves [.files, .out, .sch, .ports, .ing] s (State.handLimited s src k bufs).1 := by
  unfold State.handLimited
  try dsimp only
  repeat' first | exact Eq.refl true | with_reducible (first
    | exact Moves.refl _ _ | assumption | apply Moves.step (moves_handOn ..) | apply Moves.step (moves_count ..)
    | refine Moves.ite ?_ ?_ | refine Moves.iteFst ?_ ?_ | refine Moves.upd rfl rfl rfl rfl ?_)

theorem moves_unclaimed (s : State) (src : Nat) (kind : Nat) (key : Nat) (addr : Bytes) (k : IngPacket) (bufs : List Nat) : Moves [.files, .out, .evr, .sch, .ports, .ing] s (State.unclaimed s src kind key addr k bufs).1 := by
  unfold State.unclaimed
  try dsimp only
  repeat' first | exact Eq.refl true | with_reducible (first
    | exact Moves.refl _ _ | assumption | apply Moves.step (moves_noteSource ..) | apply Moves.step (moves_count ..)
    | apply Moves.step (moves_handLimited ..) | apply Moves.step (moves_log ..))

theorem moves_resumed (s : State) (g : Gen) (f : Nat) : Moves [.files] s (State.resumed s g f) := by
  unfold State.resumed
  try dsimp only
  repeat' first | exact Eq.refl true | with_reducible (first
    | exact Moves.refl _ _ | assumption | apply Moves.step (moves_putStreamBit ..) | refine Moves.foldl (fun _ _ => ?_) ?_
    | refine Moves.foldlFst (fun _ _ => ?_) ?_ | refine Moves.ite ?_ ?_)

theorem moves_journal (s : State) (n : Nat) (f : AlnFrame) : Moves [.files, .out, .aln] s (State.journal s n f) := by
  unfold State.journal
  try dsimp only
  repeat' first | exact Eq.refl true | with_reducible (first
    | exact Moves.refl _ _ | assumption | apply Moves.step (moves_count ..) | apply Moves.step (moves_showJournal ..)
    | apply Moves.step (moves_alnIrq ..) | apply Moves.step (moves_setSlice ..) | refine Moves.ite ?_ ?_
    | refine Moves.upd rfl rfl rfl rfl ?_)

theorem moves_place (s : State) (n : Nat) (f : AlnFrame) : Moves [.files, .free, .out, .aln] s (State.place s n f) := by
  unfold State.place
  try dsimp only
  repeat' first | exact Eq.refl true | with_reducible (first
    | exact Moves.refl _ _ | assumption | apply Moves.step (moves_buffer ..) | apply Moves.step (moves_collect ..)
    | apply Moves.step (moves_count ..) | apply Moves.step (moves_journal ..) | refine Moves.ite ?_ ?_ | split)

theorem moves_enterFrame (s : State) (f : AlnFrame) : Moves [.files, .free, .out, .aln] s (State.enterFrame s f) := by
  have hc (g : Fld) : Moves [.files, .free, .out, .aln] s (s.count g) := Moves.step (moves_count ..) rfl (Moves.refl _ _)
  unfold State.enterFrame
  refine Moves.ite (hc _) ?_
  split
  · exact Moves.step (moves_setFlag ..) rfl (Moves.step (moves_set ..) rfl (hc _))
  · refine Moves.ite (hc _) (Moves.ite ?_ ?_)
    · exact Moves.step (moves_alnIrq ..) rfl (hc _)
    · dsimp only
      refine Moves.step (moves_place ..) rfl (Moves.foldl (fun v a => ?_) (Moves.refl _ _))
      exact Moves.step (moves_count ..) rfl (Moves.refl _ _)

theorem moves_c37 (s : State) (c : C37Src) (b : Bytes) (k : IngPacket) (bufs : List Nat) : Moves [.files, .free, .out, .evr, .sch, .ports, .ing, .aln] s (State.c37 s c b k bufs).1 := by
  unfold State.c37
  try dsimp only
  repeat' first | exact Eq.refl true | with_reducible (first
    | exact Moves.refl _ _ | assumption | apply Moves.step (moves_count ..) | apply Moves.step (moves_unclaimed ..)
    | apply Moves.step (Moves.fst (by assumption) (moves_unclaimed ..)) | apply Moves.step (moves_suspend ..)
    | apply Moves.step (moves_handOn ..) | apply Moves.step (moves_resumed ..) | apply Moves.step (moves_enterFrame ..)
    | refine Moves.ite ?_ ?_ | refine Moves.iteFst ?_ ?_ | split)

theorem moves_calibrated (s : State) (laneEn : Nat) : Moves [.files, .ledger, .pins] s (State.calibrated s laneEn) := by
  unfold State.calibrated
  try dsimp only
  repeat' first | exact Eq.refl true | with_reducible (first
    | exact Moves.refl _ _ | assumption | apply Moves.step (moves_setFlag ..) | refine Moves.ite ?_ ?_
    | refine Moves.upd rfl rfl rfl rfl ?_)

theorem moves_capHeaders (s : State) : Moves [.files, .cap] s (State.capHeaders s) := by
  unfold State.capHeaders
  try dsimp only
  repeat' first | exact Eq.refl true | with_reducible (first
    | exact Moves.refl _ _ | assumption | apply Moves.step (moves_showSlots ..) | refine Moves.ite ?_ ?_
    | refine Moves.upd rfl rfl rfl rfl ?_)

theorem moves_captureStage (s : State) (r : Run) (rep : StageReport) : Moves [.files, .out, .roasts, .evr, .pace, .aln, .runs, .cap] s (State.captureStage s r rep) := by
  unfold State.captureStage
  try dsimp only
  repeat' first | exact Eq.refl true | with_reducible (first
    | exact Moves.refl _ _ | assumption | apply Moves.step (moves_TileRead_section ..) | apply moves_reading
    | apply Moves.step (moves_setCap ..) | apply Moves.step (moves_stageEnd ..) | refine Moves.foldl (fun _ _ => ?_) ?_
    | refine Moves.foldlFst (fun _ _ => ?_) ?_ | refine Moves.ite ?_ ?_)

theorem moves_laneInput (s : State) (b : Bytes) (l : Nat) (x : FltSample) : Moves [.files, .flt] s (State.laneInput s b l x) := by
  unfold State.laneInput
  try dsimp only
  repeat' first | exact Eq.refl true | with_reducible (first
    | exact Moves.refl _ _ | assumption | apply Moves.step (moves_setFlag ..) | apply Moves.step (moves_set ..)
    | apply Moves.step (moves_setLane ..))

theorem moves_firOutput (s : State) (b : Bytes) (g : Nat) (l : Nat) : Moves [.files, .flt] s (State.firOutput s b g l) := by
  unfold State.firOutput
  try dsimp only
  repeat' first | exact Eq.refl true | with_reducible (first
    | exact Moves.refl _ _ | assumption | apply Moves.step (moves_setLane ..) | apply Moves.step (moves_laneInput ..)
    | refine Moves.ite ?_ ?_ | split)

theorem moves_cicOutput (s : State) (b : Bytes) (l : Nat) (bits : List Bool) (edge : Tai) : Moves [.files, .out, .flt] s (State.cicOutput s b l bits edge) := by
  unfold State.cicOutput
  try dsimp only
  repeat' first | exact Eq.refl true | with_reducible (first
    | exact Moves.refl _ _ | assumption | apply Moves.step (moves_setLane ..) | apply Moves.step (moves_setFlag ..)
    | apply Moves.step (moves_fltIrq ..) | apply Moves.step (moves_count ..) | apply Moves.step (moves_firOutput ..)
    | apply Moves.idl | refine Moves.foldl (fun _ _ => ?_) ?_ | refine Moves.foldlFst (fun _ _ => ?_) ?_ | refine Moves.ite ?_ ?_)

theorem moves_closeBound (s : State) : Moves [.files, .out, .keys, .evr, .nvs, .nrg] s (State.closeBound s) := by
  unfold State.closeBound
  try dsimp only
  repeat' first | exact Eq.refl true | with_reducible (first
    | exact Moves.refl _ _ | assumption | apply Moves.step (moves_closeInterval ..) | refine Moves.ite ?_ ?_)

theorem moves_noteFail (s : State) (k : Nat) (fwSlot : Bool) (roastSlot : Bool) : Moves [.ledger] s (State.noteFail s k fwSlot roastSlot) := by
  unfold State.noteFail
  try dsimp only
  repeat' first | exact Eq.refl true | with_reducible (first
    | exact Moves.refl _ _ | assumption | refine Moves.ite ?_ ?_ | refine Moves.upd rfl rfl rfl rfl ?_)

theorem moves_closeEntry (s : State) (k : Nat) : Moves [.files, .ledger] s (State.closeEntry s k) := by
  unfold State.closeEntry
  try dsimp only
  repeat' first | exact Eq.refl true | with_reducible (first
    | exact Moves.refl _ _ | assumption | apply Moves.step (moves_noteFail ..) | apply Moves.step (moves_setLed ..)
    | refine Moves.ite ?_ ?_)

theorem moves_cmpEval (s : State) (b : Bytes) (v : F32) (t : Tai) : Moves [.files, .out, .evr, .flt] s (State.cmpEval s b v t) := by
  unfold State.cmpEval
  try dsimp only
  repeat' first | exact Eq.refl true | with_reducible (first
    | exact Moves.refl _ _ | assumption | apply Moves.step (moves_log ..) | apply Moves.step (moves_fltIrq ..)
    | apply Moves.step (moves_putBit ..) | refine Moves.ite ?_ ?_ | refine Moves.upd rfl rfl rfl rfl ?_)

theorem moves_cmpUnits (s : State) (g : Bytes) (l : Nat) (o : FltOut) : Moves [.files, .out, .evr, .flt] s (State.cmpUnits s g l o) := by
  unfold State.cmpUnits
  try dsimp only
  repeat' first | exact Eq.refl true | with_reducible (first
    | exact Moves.refl _ _ | assumption | apply Moves.step (moves_cmpEval ..) | refine Moves.foldl (fun _ _ => ?_) ?_
    | refine Moves.foldlFst (fun _ _ => ?_) ?_ | refine Moves.ite ?_ ?_)

theorem moves_convergeErr (s : State) (k : Nat) : Moves [.files, .out, .evr] s (State.convergeErr s k) := by
  unfold State.convergeErr
  try dsimp only
  repeat' first | exact Eq.refl true | with_reducible (first
    | exact Moves.refl _ _ | assumption | apply Moves.step (moves_log ..) | apply Moves.step (moves_irq ..)
    | apply Moves.step (moves_count ..) | apply Moves.step (moves_set ..))

theorem moves_setCorridor (s : State) (c : Nat) (x : Corridor) : Moves [.files, .out, .evr, .osc] s (State.setCorridor s c x) := by
  unfold State.setCorridor
  try dsimp only
  repeat' first | exact Eq.refl true | with_reducible (first
    | exact Moves.refl _ _ | assumption | apply Moves.step (moves_set ..) | apply Moves.step (moves_log ..)
    | apply Moves.step (moves_oscIrq ..) | refine Moves.ite ?_ ?_ | refine Moves.upd rfl rfl rfl rfl ?_)

theorem moves_corridors (s : State) (ro : Roast) (n : Nat) (bad : List Nat) : Moves [.files, .out, .evr, .osc] s (State.corridors s ro n bad) := by
  unfold State.corridors
  try dsimp only
  repeat' first | exact Eq.refl true | with_reducible (first
    | exact Moves.refl _ _ | assumption | apply Moves.step (moves_count ..) | apply Moves.step (moves_setCorridor ..)
    | refine Moves.foldl (fun _ _ => ?_) ?_ | refine Moves.foldlFst (fun _ _ => ?_) ?_ | refine Moves.ite ?_ ?_ | split)

theorem moves_crcCompare (s : State) (c : Nat) : Moves [.files, .out, .pins, .cfg, .evr] s (State.crcCompare s c) := by
  unfold State.crcCompare
  try dsimp only
  repeat' first | exact Eq.refl true | with_reducible (first
    | exact Moves.refl _ _ | assumption | apply Moves.step (moves_health ..) | apply Moves.step (moves_setFlag ..)
    | apply Moves.step (moves_log ..) | apply Moves.step (moves_count ..) | refine Moves.ite ?_ ?_
    | refine Moves.upd rfl rfl rfl rfl ?_)

theorem moves_decimate (s : State) (b : Bytes) (l : Nat) (o : FltOut) : Moves [.osc] s (State.decimate s b l o) := by
  unfold State.decimate
  try dsimp only
  repeat' first | exact Eq.refl true | with_reducible (first
    | exact Moves.refl _ _ | assumption | refine Moves.ite ?_ ?_ | refine Moves.upd rfl rfl rfl rfl ?_)

theorem moves_ingAdmit (s : State) (n : Nat) (k : IngPacket) (started : Bool) : Moves [.files, .out, .ports] s (State.ingAdmit s n k started) := by
  unfold State.ingAdmit
  try dsimp only
  repeat' first | exact Eq.refl true | with_reducible (first
    | exact Moves.refl _ _ | assumption | apply Moves.step (moves_setIngQ ..) | apply Moves.step (moves_count ..)
    | apply Moves.step (moves_ingShow ..) | apply Moves.step (moves_ingWrite ..) | apply Moves.step (moves_set ..)
    | refine Moves.ite ?_ ?_)

theorem moves_rxPlace (s : State) (p : Nat) (f : RxFrame) (bs : Bytes) (good : Bool) : Moves [.files, .out, .sch, .ports] s (State.rxPlace s p f bs good) := by
  unfold State.rxPlace
  try dsimp only
  repeat' first | exact Eq.refl true | with_reducible (first
    | exact Moves.refl _ _ | assumption | apply Moves.step (moves_count ..) | apply Moves.step (moves_rxDeliver ..)
    | apply Moves.step (moves_ingAdmit ..) | refine Moves.ite ?_ ?_ | split)

theorem moves_dupEnter (s : State) (dir : Nat) (src : Bytes) (seq : Nat) : Moves [.ports] s (State.dupEnter s dir src seq) := by
  unfold State.dupEnter
  try dsimp only
  repeat' first | exact Eq.refl true | with_reducible (first
    | exact Moves.refl _ _ | assumption | refine Moves.ite ?_ ?_
    | (refine Moves.upd rfl rfl rfl rfl ?_; first | exact Moves.refl _ _ | assumption | refine Moves.ite ?_ ?_ | split) | split)

theorem moves_dedupe (s : State) (p : Nat) (f : RxFrame) (src : Bytes) (seq : Nat) (bs : Bytes) : Moves [.files, .out, .sch, .ports] s (State.dedupe s p f src seq bs) := by
  unfold State.dedupe
  try dsimp only
  repeat' first | exact Eq.refl true | with_reducible (first
    | exact Moves.refl _ _ | assumption | apply Moves.step (moves_count ..) | apply Moves.step (moves_rxPlace ..)
    | apply Moves.step (moves_dupEnter ..) | refine Moves.ite ?_ ?_)

theorem moves_demandEnd (s : State) : Moves [.files, .nrg] s (State.demandEnd s) := by
  unfold State.demandEnd
  try dsimp only
  repeat' first | exact Eq.refl true | with_reducible (first
    | exact Moves.refl _ _ | assumption | apply Moves.step (moves_set ..) | refine Moves.foldl (fun _ _ => ?_) ?_
    | refine Moves.foldlFst (fun _ _ => ?_) ?_ | refine Moves.ite ?_ ?_
    | (refine Moves.upd rfl rfl rfl rfl ?_; first | exact Moves.refl _ _ | assumption | apply Moves.step (moves_set ..) | refine Moves.foldl (fun _ _ => ?_) ?_ | refine Moves.foldlFst (fun _ _ => ?_) ?_ | refine Moves.ite ?_ ?_ | split)
    | split)

theorem moves_peak (s : State) (e : Nat) (i : Nat) (g : F32) (thr : F32) (xs : List FltOut) : Moves [.files, .out, .evr, .nrg] s (State.peak s e i g thr xs) := by
  unfold State.peak
  try dsimp only
  repeat' first | exact Eq.refl true | with_reducible (first
    | exact Moves.refl _ _ | assumption | apply Moves.step (moves_putBit ..) | apply Moves.step (moves_elemFlag ..)
    | apply Moves.step (moves_log ..) | apply Moves.step (moves_nrgIrq ..) | refine Moves.ite ?_ ?_ | split)

theorem moves_peaks (s : State) (e : Nat) (b : Bytes) (gi : List F32) (c : CycleIn) : Moves [.files, .out, .evr, .nrg] s (State.peaks s e b gi c) := by
  unfold State.peaks
  try dsimp only
  repeat' first | exact Eq.refl true | with_reducible (first
    | exact Moves.refl _ _ | assumption | apply Moves.step (moves_peak ..) | refine Moves.foldl (fun _ _ => ?_) ?_
    | refine Moves.foldlFst (fun _ _ => ?_) ?_ | refine Moves.ite ?_ ?_)

theorem moves_overCurrent (s : State) (e : Nat) (b : Bytes) (i : List F32) : Moves [.files, .out, .evr, .nrg] s (State.overCurrent s e b i) := by
  unfold State.overCurrent
  try dsimp only
  repeat' first | exact Eq.refl true | with_reducible (first
    | exact Moves.refl _ _ | assumption | apply Moves.step (moves_setElem ..) | apply Moves.step (moves_putBit ..)
    | apply Moves.step (moves_elemFlag ..) | apply Moves.step (moves_log ..) | apply Moves.step (moves_nrgIrq ..)
    | refine Moves.foldl (fun _ _ => ?_) ?_ | refine Moves.foldlFst (fun _ _ => ?_) ?_ | refine Moves.ite ?_ ?_)

theorem moves_doCycle (s : State) (e : Nat) (b : Bytes) (c : CycleIn) : Moves [.files, .out, .evr, .nrg] s (State.doCycle s e b c) := by
  unfold State.doCycle
  try dsimp only
  repeat' first | exact Eq.refl true | with_reducible (first
    | exact Moves.refl _ _ | assumption | apply Moves.step (moves_bridge ..) | apply Moves.step (moves_peaks ..)
    | apply Moves.step (moves_addEnergy ..) | apply Moves.step (moves_setElem ..) | apply Moves.step (moves_overCurrent ..)
    | apply Moves.step (moves_set ..) | apply Moves.step (moves_nrgFlag ..) | refine Moves.ite ?_ ?_)

theorem moves_drainOne (s : State) (e bound : Nat) (nx : State) (h : s.drainOne e bound = some nx) : Moves [.files, .out, .evr, .nrg] s nx := by
  unfold State.drainOne at h
  split at h
  · cases h
  · split at h
    · split at h
      · cases h
        exact Moves.step (moves_doCycle ..) rfl (Moves.refl _ _)
      · cases h
    · cases h

theorem moves_drain (e bound n : Nat) (s : State) : Moves [.files, .out, .evr, .nrg] s (State.drain e bound n s) := by
  induction n generalizing s with
  | zero => exact Moves.refl _ _
  | succ n ih =>
    unfold State.drain
    split
    · rename_i t ht
      exact Moves.trans (Moves.step (moves_drainOne _ _ _ _ ht) rfl (Moves.refl _ _)) (ih _)
    · exact Moves.refl _ _

theorem moves_drainAll (s : State) (bound : Nat) : Moves [.files, .out, .evr, .nrg] s (State.drainAll s bound) := by
  unfold State.drainAll
  try dsimp only
  repeat' first | exact Eq.refl true | with_reducible (first
    | exact Moves.refl _ _ | assumption | apply Moves.step (moves_drain ..) | refine Moves.foldl (fun _ _ => ?_) ?_
    | refine Moves.foldlFst (fun _ _ => ?_) ?_)

theorem moves_drawDebugNonce (s : State) : Moves [.files, .free] s (State.drawDebugNonce s) := by
  unfold State.drawDebugNonce
  try dsimp only
  repeat' first | exact Eq.refl true | with_reducible (first
    | exact Moves.refl _ _ | assumption | apply Moves.step (moves_tookFree ..) | apply Moves.step (moves_set ..)
    | refine Moves.foldl (fun _ _ => ?_) ?_ | refine Moves.foldlFst (fun _ _ => ?_) ?_)

theorem moves_setPoint (s : State) (i : Nat) (p : GoosePoint) : Moves [.ing, .runs] s (State.setPoint s i p) := by
  unfold State.setPoint
  try dsimp only
  repeat' first | exact Eq.refl true | with_reducible (first
    | exact Moves.refl _ _ | assumption | refine Moves.ite ?_ ?_ | refine Moves.upd rfl rfl rfl rfl ?_)

theorem moves_eachPoint (s : State) (t : Bytes) (f : GoosePoint → GoosePoint) : Moves [.ing, .runs] s (State.eachPoint s t f) := by
  unfold State.eachPoint
  try dsimp only
  repeat' first | exact Eq.refl true | with_reducible (first
    | exact Moves.refl _ _ | assumption | apply Moves.step (moves_setPoint ..) | refine Moves.foldl (fun _ _ => ?_) ?_
    | refine Moves.foldlFst (fun _ _ => ?_) ?_)

theorem moves_enQuiesced (s : State) (b : Block) : Moves [.files] s (State.enQuiesced s b).1 := by
  unfold State.enQuiesced
  try dsimp only
  repeat' first | exact Eq.refl true | with_reducible (first
    | exact Moves.refl _ _ | assumption | apply Moves.step (moves_setFlag ..) | refine Moves.ite ?_ ?_ | refine Moves.iteFst ?_ ?_)

theorem moves_endStages (s : State) (r : Run) (t : Tai) : Moves [.files, .free, .out, .pins, .evr, .pace, .aln, .runs] s (State.endStages s r t) := by
  unfold State.endStages
  try dsimp only
  repeat' first | exact Eq.refl true | with_reducible (first
    | exact Moves.refl _ _ | assumption | apply Moves.step (moves_lateCheck ..) | apply Moves.step (moves_paceIrq ..)
    | apply Moves.step (moves_log ..) | apply Moves.step (moves_count ..) | apply Moves.step (moves_setEngine ..)
    | apply Moves.step (moves_certify ..) | refine Moves.foldl (fun _ _ => ?_) ?_ | refine Moves.foldlFst (fun _ _ => ?_) ?_
    | refine Moves.ite ?_ ?_
    | (refine Moves.upd rfl rfl rfl rfl ?_; first | exact Moves.refl _ _ | assumption | apply Moves.step (moves_lateCheck ..) | apply Moves.step (moves_paceIrq ..) | apply Moves.step (moves_log ..) | apply Moves.step (moves_count ..) | apply Moves.step (moves_setEngine ..) | apply Moves.step (moves_certify ..) | refine Moves.foldl (fun _ _ => ?_) ?_ | refine Moves.foldlFst (fun _ _ => ?_) ?_ | refine Moves.ite ?_ ?_ | split)
    | split)

theorem moves_leaveStep (s : State) (k : Nat) (outcome : Nat) (detail : Nat) : Moves [.files, .ledger, .nvs] s (State.leaveStep s k outcome detail) := by
  unfold State.leaveStep
  try dsimp only
  repeat' first | exact Eq.refl true | with_reducible (first
    | exact Moves.refl _ _ | assumption | apply Moves.step (moves_saveLed ..) | apply Moves.step (moves_setLed ..))

theorem moves_failStep (s : State) (k : Nat) (outcome : Nat) (detail : Nat) : Moves [.files, .locks, .free, .out, .boot, .ledger, .fw, .pins, .env, .host, .cfg, .roasts, .time, .keys, .evr, .nvs, .backup, .pace, .sch, .ports, .ing, .flt, .aln, .runs, .isl, .lse, .osc, .sau, .cap, .nrg, .alm, .cas] s (State.failStep s k outcome detail) := by
  unfold State.failStep
  try dsimp only
  repeat' first | exact Eq.refl true | with_reducible (first
    | exact Moves.refl _ _ | assumption | apply Moves.step (moves_noteFail ..) | apply Moves.step (moves_leaveStep ..)
    | apply Moves.step (moves_enterSafe ..) | apply Moves.step (moves_doReset ..) | refine Moves.ite ?_ ?_)

theorem moves_fecCount (s : State) (p : Nat) (f : RxFrame) : Moves [.files] s (State.fecCount s p f) := by
  unfold State.fecCount
  try dsimp only
  repeat' first | exact Eq.refl true | with_reducible (first
    | exact Moves.refl _ _ | assumption | apply Moves.step (moves_count ..) | refine Moves.ite ?_ ?_)

theorem moves_filtered {m : List Part} {s u : State} {p : Nat} {bs : Bytes} {next : State → State}
    (hs : sub [.files] m = true) (hf : ∀ v, Moves m v (next v)) (h : Moves m s u) : Moves m s (u.filtered p bs next) := by
  unfold State.filtered
  exact Moves.ite (Moves.step (moves_count ..) hs h) (Moves.ite (Moves.step (moves_count ..) hs h) (h.trans (hf u)))

theorem moves_fltStep (s : State) : Moves [.flt] s (State.fltStep s) := by
  unfold State.fltStep
  try dsimp only
  repeat' first | exact Eq.refl true | with_reducible (first
    | exact Moves.refl _ _ | assumption | apply Moves.step (moves_setLane ..) | apply Moves.step (moves_setFgroup ..)
    | refine Moves.foldl (fun _ _ => ?_) ?_ | refine Moves.foldlFst (fun _ _ => ?_) ?_ | refine Moves.ite ?_ ?_ | split)

theorem moves_markCopy (s : State) (region : Nat) (copy : Nat) (tile : Nat) (bad : Bool) : Moves [.roasts] s (State.markCopy s region copy tile bad) := by
  unfold State.markCopy
  try dsimp only
  repeat' first | exact Eq.refl true | with_reducible (first
    | exact Moves.refl _ _ | assumption | refine Moves.ite ?_ ?_ | refine Moves.upd rfl rfl rfl rfl ?_)

theorem moves_foundBad (s : State) (region : Nat) (found : List (Nat × Nat)) : Moves [.files, .pins, .roasts] s (State.foundBad s region found) := by
  unfold State.foundBad
  try dsimp only
  repeat' first | exact Eq.refl true | with_reducible (first
    | exact Moves.refl _ _ | assumption | apply Moves.step (moves_tileHealth ..) | apply Moves.step (moves_markCopy ..)
    | refine Moves.foldl (fun _ _ => ?_) ?_ | refine Moves.foldlFst (fun _ _ => ?_) ?_ | refine Moves.ite ?_ ?_
    | refine Moves.upd rfl rfl rfl rfl ?_)

theorem moves_senseFuses (s : State) : Moves [.files] s (State.senseFuses s) := by
  unfold State.senseFuses
  try dsimp only
  repeat' first | exact Eq.refl true | with_reducible (first
    | exact Moves.refl _ _ | assumption | apply Moves.step (moves_set ..) | apply Moves.step (moves_setFlag ..))

theorem moves_fusesSensed (s : State) : Moves [.files, .fuses] s (State.fusesSensed s) := by
  unfold State.fusesSensed
  try dsimp only
  repeat' first | exact Eq.refl true | with_reducible (first
    | exact Moves.refl _ _ | assumption | apply Moves.step (moves_setFlag ..) | apply Moves.step (moves_senseFuses ..)
    | refine Moves.upd rfl rfl rfl rfl ?_)

theorem moves_gapReset (s : State) (b : Bytes) (l : Nat) : Moves [.files, .flt] s (State.gapReset s b l) := by
  unfold State.gapReset
  try dsimp only
  repeat' first | exact Eq.refl true | with_reducible (first
    | exact Moves.refl _ _ | assumption | apply Moves.step (moves_setLane ..) | apply Moves.step (moves_setFlag ..)
    | apply Moves.step (moves_setFgroup ..) | refine Moves.ite ?_ ?_)

theorem moves_glitch {m : List Part} {s u : State} {ns : Nat} {f : State → State} (hs : sub [.free] m = true)
    (hf : ∀ v, Moves m v (f v)) (h : Moves m s u) : Moves m s (u.glitch ns f) := by
  unfold State.glitch
  refine Moves.ite h (Moves.ite (Moves.ite ?_ ?_) (h.trans (hf u)))
  · exact Moves.step (moves_tookFree ..) hs (h.trans (hf u))
  · exact Moves.step (moves_tookFree ..) hs h

theorem moves_gooseFrame (s : State) (src : Nat) (k : IngPacket) (bufs : List Nat) : Moves [.files, .out, .evr, .sch, .ports, .ing, .runs] s (State.gooseFrame s src k bufs).1 := by
  unfold State.gooseFrame
  try dsimp only
  repeat' first | exact Eq.refl true | with_reducible (first
    | exact Moves.refl _ _ | assumption | apply Moves.step (moves_unclaimed ..)
    | apply Moves.step (Moves.fst (by assumption) (moves_unclaimed ..)) | apply Moves.step (moves_count ..)
    | apply Moves.step (moves_eachPoint ..) | apply Moves.step (moves_setPoint ..) | refine Moves.foldl (fun _ _ => ?_) ?_
    | refine Moves.foldlFst (fun _ _ => ?_) ?_ | refine Moves.ite ?_ ?_ | refine Moves.iteFst ?_ ?_
    | (refine Moves.upd rfl rfl rfl rfl ?_; first | exact Moves.refl _ _ | assumption | apply Moves.step (moves_unclaimed ..) | apply Moves.step (Moves.fst (by assumption) (moves_unclaimed ..)) | apply Moves.step (moves_count ..) | apply Moves.step (moves_eachPoint ..) | apply Moves.step (moves_setPoint ..) | refine Moves.foldl (fun _ _ => ?_) ?_ | refine Moves.foldlFst (fun _ _ => ?_) ?_ | refine Moves.ite ?_ ?_ | refine Moves.iteFst ?_ ?_ | split)
    | split)

theorem moves_releaseLater (s : State) (p : Nat) : Moves [.cas] s (State.releaseLater s p) := by
  unfold State.releaseLater
  try dsimp only
  repeat' first | exact Eq.refl true | with_reducible (first
    | exact Moves.refl _ _ | assumption | refine Moves.ite ?_ ?_ | refine Moves.upd rfl rfl rfl rfl ?_)

theorem moves_heardTakeover (s : State) (p : Nat) (q : Nat) : Moves [.files, .out, .evr, .cas] s (State.heardTakeover s p q) := by
  unfold State.heardTakeover
  try dsimp only
  repeat' first | exact Eq.refl true | with_reducible (first
    | exact Moves.refl _ _ | assumption | apply Moves.step (moves_releaseLater ..) | apply Moves.step (moves_abandon ..)
    | refine Moves.ite ?_ ?_ | refine Moves.upd rfl rfl rfl rfl ?_)

theorem moves_holdCount (s : State) : Moves [.files] s (State.holdCount s) := by
  unfold State.holdCount
  try dsimp only
  repeat' first | exact Eq.refl true | with_reducible (first
    | exact Moves.refl _ _ | assumption | apply Moves.step (moves_count ..) | refine Moves.ite ?_ ?_)

theorem moves_holdTick (s : State) : Moves [.files, .time] s (State.holdTick s) := by
  unfold State.holdTick
  try dsimp only
  repeat' first | exact Eq.refl true | with_reducible (first
    | exact Moves.refl _ _ | assumption | apply Moves.step (moves_setFlag ..) | apply Moves.step (moves_set ..)
    | refine Moves.ite ?_ ?_
    | (refine Moves.upd rfl rfl rfl rfl ?_; first | exact Moves.refl _ _ | assumption | apply Moves.step (moves_setFlag ..) | apply Moves.step (moves_set ..) | refine Moves.ite ?_ ?_ | split)
    | split)

theorem moves_hostLate (s : State) : Moves [.files, .out, .aln] s (State.hostLate s) := by
  unfold State.hostLate
  try dsimp only
  repeat' first | exact Eq.refl true | with_reducible (first
    | exact Moves.refl _ _ | assumption | apply Moves.step (moves_hostRaise ..) | split)

theorem moves_hsrPut (s : State) (p : Nat) (q : Nat) (f : TxFrame) : Moves [.files, .free, .out, .sch, .ports] s (State.hsrPut s p q f) := by
  unfold State.hsrPut
  try dsimp only
  repeat' first | exact Eq.refl true | with_reducible (first
    | exact Moves.refl _ _ | assumption | apply Moves.step (moves_enqueue ..) | apply Moves.step (moves_setPort ..)
    | refine Moves.ite ?_ ?_)

theorem moves_hsrForward (s : State) (p : Nat) (bs : Bytes) (seq : Nat) : Moves [.files, .free, .out, .sch, .ports] s (State.hsrForward s p bs seq) := by
  unfold State.hsrForward
  try dsimp only
  repeat' first | exact Eq.refl true | with_reducible (first
    | exact Moves.refl _ _ | assumption | apply Moves.step (moves_count ..) | apply Moves.step (moves_dupEnter ..)
    | apply Moves.step (moves_hsrPut ..) | refine Moves.ite ?_ ?_)

theorem moves_inStage {m : List Part} {s u : State} {k : Nat} {rep : StageReport} {f : State → Run → State}
    (hs : sub [.files, .pins, .roasts, .time] m = true) (hf : ∀ v r, Moves m v (f v r)) (h : Moves m s u) : Moves m s (u.inStage k rep f) := by
  unfold State.inStage
  split
  · exact h
  · refine Moves.trans (Moves.step (moves_foundBad ..) (sub_trans rfl hs) ?_) (hf _ _)
    exact Moves.step (moves_moveTo ..) (sub_trans rfl hs) h

theorem moves_interruptStep (s : State) : Moves [.files, .ledger, .nvs] s (State.interruptStep s) := by
  unfold State.interruptStep
  try dsimp only
  repeat' first | exact Eq.refl true | with_reducible (first
    | exact Moves.refl _ _ | assumption | apply Moves.step (moves_setLed ..) | apply Moves.step (moves_saveLed ..)
    | refine Moves.ite ?_ ?_)

theorem moves_pairChanged (s : State) (p : Nat) (old : Nat) (new : Nat) (n : Nat) : Moves [.files, .out, .evr] s (State.pairChanged s p old new n) := by
  unfold State.pairChanged
  try dsimp only
  repeat' first | exact Eq.refl true | with_reducible (first
    | exact Moves.refl _ _ | assumption | apply Moves.step (moves_log ..) | apply Moves.step (moves_irq ..)
    | apply Moves.step (moves_count ..) | refine Moves.ite ?_ ?_)

theorem moves_pairStep (s : State) (ro : Roast) (n : Nat) (stale : Bool) (bad : List Nat) (p : Nat) (b : Bytes) (i : Nat) : Moves [.files, .out, .evr, .isl] s (State.pairStep s ro n stale bad p b i) := by
  unfold State.pairStep
  try dsimp only
  repeat' first | exact Eq.refl true | with_reducible (first
    | exact Moves.refl _ _ | assumption | apply Moves.step (moves_pairChanged ..) | apply Moves.step (moves_set ..)
    | refine Moves.ite ?_ ?_ | refine Moves.upd rfl rfl rfl rfl ?_)

theorem moves_islandStage (s : State) (r : Run) (rep : StageReport) : Moves [.files, .out, .pins, .roasts, .evr, .pace, .aln, .runs, .isl] s (State.islandStage s r rep) := by
  unfold State.islandStage
  try dsimp only
  repeat' first | exact Eq.refl true | with_reducible (first
    | exact Moves.refl _ _ | assumption | apply Moves.step (moves_TileRead_section ..) | apply moves_reading
    | apply Moves.step (moves_set ..) | apply Moves.step (moves_irq ..) | apply Moves.step (moves_pairStep ..)
    | apply Moves.step (moves_tileHealth ..) | apply Moves.step (moves_count ..) | apply Moves.step (moves_stageEnd ..)
    | refine Moves.foldl (fun _ _ => ?_) ?_ | refine Moves.foldlFst (fun _ _ => ?_) ?_ | refine Moves.ite ?_ ?_
    | (refine Moves.upd rfl rfl rfl rfl ?_; first | exact Moves.refl _ _ | assumption | apply Moves.step (moves_TileRead_section ..) | apply moves_reading | apply Moves.step (moves_set ..) | apply Moves.step (moves_irq ..) | apply Moves.step (moves_pairStep ..) | apply Moves.step (moves_tileHealth ..) | apply Moves.step (moves_count ..) | apply Moves.step (moves_stageEnd ..) | refine Moves.foldl (fun _ _ => ?_) ?_ | refine Moves.foldlFst (fun _ _ => ?_) ?_ | refine Moves.ite ?_ ?_ | split)
    | split)

theorem moves_keyAttestDone (s : State) (j : KeyJob) : Moves [.files, .free, .out, .keys] s (State.keyAttestDone s j) := by
  unfold State.keyAttestDone
  try dsimp only
  repeat' first | exact Eq.refl true | with_reducible (first
    | exact Moves.refl _ _ | assumption | apply Moves.step (moves_keyEnd ..) | refine Moves.ite ?_ ?_
    | (refine Moves.upd rfl rfl rfl rfl ?_; first | exact Moves.refl _ _ | assumption | apply Moves.step (moves_keyEnd ..) | refine Moves.ite ?_ ?_ | split)
    | split)

theorem moves_keyDebugDone (s : State) (j : KeyJob) : Moves [.files, .free, .out, .keys] s (State.keyDebugDone s j) := by
  unfold State.keyDebugDone
  try dsimp only
  repeat' first | exact Eq.refl true | with_reducible (first
    | exact Moves.refl _ _ | assumption | apply Moves.step (moves_setFlag ..) | apply Moves.step (moves_keyEnd ..)
    | apply Moves.step (moves_drawDebugNonce ..) | refine Moves.ite ?_ ?_)

theorem moves_keyDeriveDone (s : State) (j : KeyJob) : Moves [.files, .out, .keys] s (State.keyDeriveDone s j) := by
  unfold State.keyDeriveDone
  try dsimp only
  repeat' first | exact Eq.refl true | with_reducible (first
    | exact Moves.refl _ _ | assumption | apply Moves.step (moves_keyEnd ..) | apply Moves.step (moves_putSlot ..)
    | refine Moves.ite ?_ ?_ | split)

theorem moves_keyPubDone (s : State) (j : KeyJob) : Moves [.files, .out, .keys] s (State.keyPubDone s j) := by
  unfold State.keyPubDone
  try dsimp only
  repeat' first | exact Eq.refl true | with_reducible (first
    | exact Moves.refl _ _ | assumption | apply Moves.step (moves_keyEnd ..) | split)

theorem moves_keySignDone (s : State) (j : KeyJob) : Moves [.files, .out, .keys] s (State.keySignDone s j) := by
  unfold State.keySignDone
  try dsimp only
  repeat' first | exact Eq.refl true | with_reducible (first
    | exact Moves.refl _ _ | assumption | apply Moves.step (moves_keyEnd ..) | refine Moves.ite ?_ ?_ | split)

theorem moves_keyVerifyDone (s : State) (j : KeyJob) : Moves [.files, .out, .keys] s (State.keyVerifyDone s j) := by
  unfold State.keyVerifyDone
  try dsimp only
  repeat' first | exact Eq.refl true | with_reducible (first
    | exact Moves.refl _ _ | assumption | apply Moves.step (moves_keyEnd ..) | refine Moves.ite ?_ ?_)

theorem moves_loadPublicSlots (s : State) : Moves [.keys] s (State.loadPublicSlots s) := by
  unfold State.loadPublicSlots
  try dsimp only
  repeat' first | exact Eq.refl true | with_reducible (first
    | exact Moves.refl _ _ | assumption | apply Moves.step (moves_putSlot ..) | apply Moves.step (moves_dropSlot ..)
    | refine Moves.foldl (fun _ _ => ?_) ?_ | refine Moves.foldlFst (fun _ _ => ?_) ?_ | refine Moves.ite ?_ ?_ | split)

theorem moves_keysDerived (s : State) (im : FwImage) : Moves [.files, .free, .fw, .keys] s (State.keysDerived s im) := by
  unfold State.keysDerived
  try dsimp only
  repeat' first | exact Eq.refl true | with_reducible (first
    | exact Moves.refl _ _ | assumption | apply Moves.step (moves_loadPublicSlots ..) | apply Moves.step (moves_set ..)
    | apply Moves.step (moves_deriveSlot ..) | apply Moves.step (moves_setTamperCfg ..) | apply Moves.step (moves_tookFree ..)
    | apply Moves.step (moves_setFlag ..) | refine Moves.foldl (fun _ _ => ?_) ?_ | refine Moves.foldlFst (fun _ _ => ?_) ?_
    | (refine Moves.upd rfl rfl rfl rfl ?_; first | exact Moves.refl _ _ | assumption | apply Moves.step (moves_loadPublicSlots ..) | apply Moves.step (moves_set ..) | apply Moves.step (moves_deriveSlot ..) | apply Moves.step (moves_setTamperCfg ..) | apply Moves.step (moves_tookFree ..) | apply Moves.step (moves_setFlag ..) | refine Moves.foldl (fun _ _ => ?_) ?_ | refine Moves.foldlFst (fun _ _ => ?_) ?_ | split)
    | split)

theorem moves_laneOutput (s : State) (b : Bytes) (l : Nat) (nx : State × FltOut) (h : s.laneOutput b l = some nx) :
    Moves [.flt] s nx.1 := by
  unfold State.laneOutput at h
  simp only [] at h
  split at h
  · cases h
  · cases h
    exact moves_setLane ..

theorem moves_latchTamper (s : State) (source : Nat) (phase : Nat) : Moves [.files, .out, .pins] s (State.latchTamper s source phase) := by
  unfold State.latchTamper
  try dsimp only
  repeat' first | exact Eq.refl true | with_reducible (first
    | exact Moves.refl _ _ | assumption | apply Moves.step (moves_count ..) | apply Moves.step (moves_setFlag ..)
    | apply Moves.step (moves_set ..) | apply Moves.step (moves_health ..) | apply Moves.step (moves_irq ..)
    | refine Moves.ite ?_ ?_)

theorem moves_latchWords (s : State) (who : Requester) (f : Fld) (n : Nat) (bs : Bytes) : Moves [.files] s (State.latchWords s who f n bs) := by
  unfold State.latchWords
  try dsimp only
  repeat' first | exact Eq.refl true | with_reducible (first
    | exact Moves.refl _ _ | assumption | apply Moves.step (moves_set ..) | refine Moves.foldl (fun _ _ => ?_) ?_
    | refine Moves.foldlFst (fun _ _ => ?_) ?_)

theorem moves_leapApply (s : State) (t : Tai) (del : Bool) : Moves [.files, .out, .time, .backup] s (State.leapApply s t del) := by
  unfold State.leapApply
  try dsimp only
  repeat' first | exact Eq.refl true | with_reducible (first
    | exact Moves.refl _ _ | assumption | apply Moves.step (moves_set ..) | apply Moves.step (moves_setOffset ..)
    | apply Moves.step (moves_irq ..) | apply Moves.step (moves_setFlag ..) | refine Moves.ite ?_ ?_
    | refine Moves.upd rfl rfl rfl rfl ?_)

theorem moves_leapTick (s : State) : Moves [.files] s (State.leapTick s) := by
  unfold State.leapTick
  try dsimp only
  repeat' first | exact Eq.refl true | with_reducible (first
    | exact Moves.refl _ _ | assumption | apply Moves.step (moves_setFlag ..) | split)

theorem moves_loadLed (s : State) (k : Nat) (w : Nat) : Moves [.files, .ledger] s (State.loadLed s k w) := by
  unfold State.loadLed
  try dsimp only
  repeat' first | exact Eq.refl true | with_reducible (first
    | exact Moves.refl _ _ | assumption | apply Moves.step (moves_setLed ..))

theorem moves_logCheckpoint (s : State) (clear : Bool) : Moves [.files, .out, .evr, .nvs] s (State.logCheckpoint s clear) := by
  unfold State.logCheckpoint
  try dsimp only
  repeat' first | exact Eq.refl true | with_reducible (first
    | exact Moves.refl _ _ | assumption | apply Moves.step (moves_irq ..) | apply Moves.step (moves_count ..)
    | apply Moves.step (moves_logOwn ..)
    | (refine Moves.upd rfl rfl rfl rfl ?_; first | exact Moves.refl _ _ | assumption | apply Moves.step (moves_irq ..) | apply Moves.step (moves_count ..) | apply Moves.step (moves_logOwn ..) | split)
    | split)

theorem moves_putEntry (s : State) (r : LogRec) (k : Nat) (n : Nat) (clear : Bool) : Moves [.files, .out, .evr, .nvs] s (State.putEntry s r k n clear) := by
  unfold State.putEntry
  try dsimp only
  repeat' first | exact Eq.refl true | with_reducible (first
    | exact Moves.refl _ _ | assumption | apply Moves.step (moves_set ..) | apply Moves.step (moves_logCheckpoint ..)
    | refine Moves.ite ?_ ?_ | refine Moves.upd rfl rfl rfl rfl ?_)

theorem moves_logFills (s : State) : Moves [.files, .out, .evr, .nvs] s (State.logFills s) := by
  unfold State.logFills
  try dsimp only
  repeat' first | exact Eq.refl true | with_reducible (first
    | exact Moves.refl _ _ | assumption | apply Moves.step (moves_count ..) | apply Moves.step (moves_putEntry ..)
    | apply Moves.step (moves_irq ..) | apply Moves.step (moves_setFlag ..) | refine Moves.upd rfl rfl rfl rfl ?_)

theorem moves_lostRead (s : State) (x1 : CarafePlace) : Moves [.files, .out, .pins, .roasts, .aln, .cap] s (State.lostRead s x1) := by
  unfold State.lostRead
  try dsimp only
  repeat' first | exact Eq.refl true | with_reducible (first
    | exact Moves.refl _ _ | assumption | apply Moves.step (moves_tileHealth ..) | apply Moves.step (moves_markCopy ..)
    | apply Moves.step (moves_setSlice ..) | apply Moves.step (moves_capLost ..) | apply Moves.step (moves_setCap ..)
    | apply Moves.step (moves_emit ..) | split)

theorem moves_unitFault (s : State) (n : Nat) (u : Nat) : Moves [.files, .out, .evr, .pace] s (State.unitFault s n u) := by
  unfold State.unitFault
  try dsimp only
  repeat' first | exact Eq.refl true | with_reducible (first
    | exact Moves.refl _ _ | assumption | apply Moves.step (moves_log ..) | apply Moves.step (moves_paceIrq ..)
    | apply Moves.step (moves_count ..) | apply Moves.step (moves_retireUnit ..) | refine Moves.ite ?_ ?_
    | refine Moves.upd rfl rfl rfl rfl ?_)

theorem moves_unitTests (s : State) (n : Nat) (bad : List Nat) : Moves [.files, .out, .evr, .pace] s (State.unitTests s n bad) := by
  unfold State.unitTests
  try dsimp only
  repeat' first | exact Eq.refl true | with_reducible (first
    | exact Moves.refl _ _ | assumption | apply Moves.step (moves_unitFault ..) | apply Moves.step (moves_setFlag ..)
    | apply Moves.step (moves_setUnit ..) | refine Moves.foldl (fun _ _ => ?_) ?_ | refine Moves.foldlFst (fun _ _ => ?_) ?_
    | refine Moves.ite ?_ ?_ | refine Moves.upd rfl rfl rfl rfl ?_)

theorem moves_valueTiles (s : State) (region : Nat) (slots : Nat) (tiles : List Nat) : Moves [.files, .out, .roasts, .evr] s (State.valueTiles s region slots tiles).1 := by
  unfold State.valueTiles
  try dsimp only
  repeat' first | exact Eq.refl true | with_reducible (first
    | exact Moves.refl _ _ | assumption | apply Moves.step (moves_useTile ..) | refine Moves.foldl (fun _ _ => ?_) ?_
    | refine Moves.foldlFst (fun _ _ => ?_) ?_ | refine Moves.ite ?_ ?_ | refine Moves.iteFst ?_ ?_)

theorem moves_lseWork (s : State) (r : Run) (rep : StageReport) : Moves [.files, .out, .pins, .roasts, .evr] s (State.lseWork s r rep).1 := by
  unfold State.lseWork
  try dsimp only
  repeat' first | exact Eq.refl true | with_reducible (first
    | exact Moves.refl _ _ | assumption | apply Moves.step (moves_TileRead_section ..) | apply moves_reading
    | apply Moves.step (moves_useTiles ..) | apply Moves.step (Moves.fst (by assumption) (moves_useTiles ..))
    | apply Moves.step (moves_valueTiles ..) | apply Moves.step (Moves.fst (by assumption) (moves_valueTiles ..))
    | apply Moves.step (moves_foundBad ..) | refine Moves.foldl (fun _ _ => ?_) ?_ | refine Moves.foldlFst (fun _ _ => ?_) ?_
    | refine Moves.ite ?_ ?_ | refine Moves.iteFst ?_ ?_ | split)

theorem moves_lseIrq (s : State) (f : Fld) (b : Bool) : Moves [.files, .out] s (State.lseIrq s f b) := by
  unfold State.lseIrq
  try dsimp only
  repeat' first | exact Eq.refl true | with_reducible (first
    | exact Moves.refl _ _ | assumption | apply Moves.step (moves_irq ..) | refine Moves.ite ?_ ?_)

theorem moves_lseStage (s : State) (r : Run) (rep : StageReport) : Moves [.files, .out, .pins, .roasts, .evr, .pace, .aln, .runs, .lse] s (State.lseStage s r rep) := by
  unfold State.lseStage
  try dsimp only
  repeat' first | exact Eq.refl true | with_reducible (first
    | exact Moves.refl _ _ | assumption | apply Moves.step (moves_lseWork ..)
    | apply Moves.step (Moves.fst (by assumption) (moves_lseWork ..)) | apply Moves.step (moves_set ..)
    | apply Moves.step (moves_setFlag ..) | apply Moves.step (moves_count ..) | apply Moves.step (moves_countIf ..)
    | apply Moves.step (moves_stageEnd ..) | apply Moves.step (moves_lseIrq ..) | refine Moves.foldl (fun _ _ => ?_) ?_
    | refine Moves.foldlFst (fun _ _ => ?_) ?_ | refine Moves.ite ?_ ?_ | refine Moves.iteFst ?_ ?_
    | (refine Moves.upd rfl rfl rfl rfl ?_; first | exact Moves.refl _ _ | assumption | apply Moves.step (moves_lseWork ..) | apply Moves.step (Moves.fst (by assumption) (moves_lseWork ..)) | apply Moves.step (moves_set ..) | apply Moves.step (moves_setFlag ..) | apply Moves.step (moves_count ..) | apply Moves.step (moves_countIf ..) | apply Moves.step (moves_stageEnd ..) | apply Moves.step (moves_lseIrq ..) | refine Moves.foldl (fun _ _ => ?_) ?_ | refine Moves.foldlFst (fun _ _ => ?_) ?_ | refine Moves.ite ?_ ?_ | refine Moves.iteFst ?_ ?_ | split)
    | split)

theorem moves_lseAndTests (s : State) (r : Run) (rep : StageReport) : Moves [.files, .out, .pins, .roasts, .evr, .pace, .aln, .runs, .lse] s (State.lseAndTests s r rep) := by
  unfold State.lseAndTests
  try dsimp only
  repeat' first | exact Eq.refl true | with_reducible (first
    | exact Moves.refl _ _ | assumption | apply Moves.step (moves_unitTests ..) | apply Moves.step (moves_lseStage ..))

theorem moves_measure (s : State) (x : Slice) (recs : List Bytes) : Moves [.aln] s (State.measure s x recs) := by
  unfold State.measure
  try dsimp only
  repeat' first | exact Eq.refl true | with_reducible (first
    | exact Moves.refl _ _ | assumption | refine Moves.foldl (fun _ _ => ?_) ?_ | refine Moves.foldlFst (fun _ _ => ?_) ?_
    | refine Moves.ite ?_ ?_
    | (refine Moves.upd rfl rfl rfl rfl ?_; first | exact Moves.refl _ _ | assumption | refine Moves.foldl (fun _ _ => ?_) ?_ | refine Moves.foldlFst (fun _ _ => ?_) ?_ | refine Moves.ite ?_ ?_ | split)
    | split)

theorem moves_setMonitor (s : State) (m : Nat) (x : Monitor) : Moves [.osc] s (State.setMonitor s m x) := by
  unfold State.setMonitor
  try dsimp only
  repeat' first | exact Eq.refl true | with_reducible (first
    | exact Moves.refl _ _ | assumption | refine Moves.upd rfl rfl rfl rfl ?_)

theorem moves_monitorInputs (s : State) (ro : Roast) (x : Slice) (bad : List Nat) : Moves [.osc] s (State.monitorInputs s ro x bad) := by
  unfold State.monitorInputs
  try dsimp only
  repeat' first | exact Eq.refl true | with_reducible (first
    | exact Moves.refl _ _ | assumption | apply Moves.step (moves_setMonitor ..) | refine Moves.foldl (fun _ _ => ?_) ?_
    | refine Moves.foldlFst (fun _ _ => ?_) ?_ | refine Moves.ite ?_ ?_ | split)

theorem moves_monitorUpdates (s : State) (ro : Roast) (n : Nat) (bad : List Nat) (slow : Bool) : Moves [.files, .osc] s (State.monitorUpdates s ro n bad slow) := by
  unfold State.monitorUpdates
  try dsimp only
  repeat' first | exact Eq.refl true | with_reducible (first
    | exact Moves.refl _ _ | assumption | apply Moves.step (moves_countIf ..) | apply Moves.step (moves_setMonitor ..)
    | refine Moves.foldl (fun _ _ => ?_) ?_ | refine Moves.foldlFst (fun _ _ => ?_) ?_ | refine Moves.ite ?_ ?_ | split)

theorem moves_mountLog (s : State) : Moves [.files, .out, .evr] s (State.mountLog s) := by
  unfold State.mountLog
  try dsimp only
  repeat' first | exact Eq.refl true | with_reducible (first
    | exact Moves.refl _ _ | assumption | apply Moves.step (moves_setFlag ..) | apply Moves.step (moves_set ..)
    | apply Moves.step (moves_logRelease ..) | refine Moves.upd rfl rfl rfl rfl ?_)

theorem moves_noteEstimate (s : State) (b : Bytes) (g : Nat) (n : Nat) (e : Estimate) : Moves [.files, .flt] s (State.noteEstimate s b g n e) := by
  unfold State.noteEstimate
  try dsimp only
  repeat' first | exact Eq.refl true | with_reducible (first
    | exact Moves.refl _ _ | assumption | apply Moves.step (moves_track ..) | apply Moves.step (moves_set ..)
    | apply Moves.step (moves_setFgroup ..))

theorem moves_noteOsc (s : State) (n : Nat) : Moves [.runs] s (State.noteOsc s n) := by
  unfold State.noteOsc
  try dsimp only
  repeat' first | exact Eq.refl true | with_reducible (first
    | exact Moves.refl _ _ | assumption | refine Moves.ite ?_ ?_ | refine Moves.upd rfl rfl rfl rfl ?_)

theorem moves_notePass (s : State) (k : Nat) : Moves [.ledger] s (State.notePass s k) := by
  unfold State.notePass
  try dsimp only
  repeat' first | exact Eq.refl true | with_reducible (first
    | exact Moves.refl _ _ | assumption | refine Moves.ite ?_ ?_ | refine Moves.upd rfl rfl rfl rfl ?_)

theorem moves_noteTq (s : State) : Moves [.flt] s (State.noteTq s) := by
  unfold State.noteTq
  try dsimp only
  repeat' first | exact Eq.refl true | with_reducible (first
    | exact Moves.refl _ _ | assumption | refine Moves.upd rfl rfl rfl rfl ?_)

theorem moves_nrgInvalid (s : State) : Moves [.nrg] s (State.nrgInvalid s) := by
  unfold State.nrgInvalid
  try dsimp only
  repeat' first | exact Eq.refl true | with_reducible (first
    | exact Moves.refl _ _ | assumption | apply Moves.step (moves_nrgFlag ..) | refine Moves.ite ?_ ?_)

theorem moves_nrgStep (s : State) (d : Int) : Moves [.nrg] s (State.nrgStep s d) := by
  unfold State.nrgStep
  try dsimp only
  repeat' first | exact Eq.refl true | with_reducible (first
    | exact Moves.refl _ _ | assumption | apply Moves.step (moves_nrgFlag ..) | refine Moves.ite ?_ ?_
    | refine Moves.upd rfl rfl rfl rfl ?_)

theorem moves_showMemory (s : State) (k : Nat) : Moves [.files, .ledger] s (State.showMemory s k) := by
  unfold State.showMemory
  try dsimp only
  repeat' first | exact Eq.refl true | with_reducible (first
    | exact Moves.refl _ _ | assumption | apply Moves.step (moves_setLed ..) | refine Moves.ite ?_ ?_ | split)

theorem moves_processLedger (s : State) (ks : List Nat) : Moves [.files, .out, .boot, .ledger, .evr] s (State.processLedger s ks) := by
  unfold State.processLedger
  try dsimp only
  repeat' first | exact Eq.refl true | with_reducible (first
    | exact Moves.refl _ _ | assumption | apply Moves.step (moves_closeEntry ..) | apply Moves.step (moves_logOwn ..)
    | apply Moves.step (moves_showMemory ..) | apply Moves.step (moves_setLed ..) | refine Moves.foldl (fun _ _ => ?_) ?_
    | refine Moves.foldlFst (fun _ _ => ?_) ?_ | refine Moves.upd rfl rfl rfl rfl ?_)

theorem moves_showRemap (s : State) : Moves [.files] s (State.showRemap s) := by
  unfold State.showRemap
  try dsimp only
  repeat' first | exact Eq.refl true | with_reducible (first
    | exact Moves.refl _ _ | assumption | apply Moves.step (moves_setFlag ..) | apply Moves.step (moves_set ..))

theorem moves_saveAll (s : State) : Moves [.nvs] s (State.saveAll s) := by
  unfold State.saveAll
  try dsimp only
  repeat' first | exact Eq.refl true | with_reducible (first
    | exact Moves.refl _ _ | assumption | refine Moves.upd rfl rfl rfl rfl ?_)

theorem moves_nvsMounted (s : State) : Moves [.files, .out, .boot, .ledger, .evr, .nvs, .backup] s (State.nvsMounted s) := by
  unfold State.nvsMounted
  try dsimp only
  repeat' first | exact Eq.refl true | with_reducible (first
    | exact Moves.refl _ _ | assumption | apply Moves.step (moves_set ..) | apply Moves.step (moves_setFlag ..)
    | apply Moves.step (moves_processLedger ..) | apply Moves.step (moves_loadLed ..) | apply Moves.step (moves_log ..)
    | apply Moves.step (moves_showRemap ..) | apply Moves.step (moves_mountLog ..) | apply Moves.step (moves_saveAll ..)
    | refine Moves.foldl (fun _ _ => ?_) ?_ | refine Moves.foldlFst (fun _ _ => ?_) ?_ | refine Moves.ite ?_ ?_
    | refine Moves.upd rfl rfl rfl rfl ?_)

theorem moves_refuse (s : State) (p : Nat) (reason : Nat) (f : TxFrame) : Moves [.files, .out, .evr, .sch, .ports, .sau] s (State.refuse s p reason f) := by
  unfold State.refuse
  try dsimp only
  repeat' first | exact Eq.refl true | with_reducible (first
    | exact Moves.refl _ _ | assumption | apply Moves.step (moves_irq ..) | apply Moves.step (moves_count ..)
    | apply Moves.step (moves_setFlag ..) | apply Moves.step (moves_set ..) | apply Moves.step (moves_log ..)
    | apply Moves.step (moves_frameDone ..) | refine Moves.ite ?_ ?_
    | (refine Moves.upd rfl rfl rfl rfl ?_; first | exact Moves.refl _ _ | assumption | apply Moves.step (moves_irq ..) | apply Moves.step (moves_count ..) | apply Moves.step (moves_setFlag ..) | apply Moves.step (moves_set ..) | apply Moves.step (moves_log ..) | apply Moves.step (moves_frameDone ..) | refine Moves.ite ?_ ?_ | split)
    | split)

theorem moves_send (s : State) (p : Nat) (q : Nat) (f : TxFrame) : Moves [.files, .free, .out, .evr, .sch, .ports] s (State.send s p q f) := by
  unfold State.send
  try dsimp only
  repeat' first | exact Eq.refl true | with_reducible (first
    | exact Moves.refl _ _ | assumption | apply Moves.step (moves_enqueue7 ..) | apply Moves.step (moves_enqueue ..)
    | refine Moves.ite ?_ ?_ | refine Moves.upd rfl rfl rfl rfl ?_)

theorem moves_offer (s : State) (p : Nat) (q : Nat) (len : Nat) (f : TxFrame) : Moves [.files, .free, .out, .evr, .sch, .ports, .sau] s (State.offer s p q len f) := by
  unfold State.offer
  try dsimp only
  repeat' first | exact Eq.refl true | with_reducible (first
    | exact Moves.refl _ _ | assumption | apply Moves.step (moves_refuse ..) | apply Moves.step (moves_send ..)
    | apply Moves.step (moves_count ..)
    | (refine Moves.upd rfl rfl rfl rfl ?_; first | exact Moves.refl _ _ | assumption | apply Moves.step (moves_refuse ..) | apply Moves.step (moves_send ..) | apply Moves.step (moves_count ..) | split)
    | split)

theorem moves_offerHeld (s : State) (x : Nat × Nat × Bytes × Tai) : Moves [.files, .free, .out, .evr, .sch, .ports, .sau] s (State.offerHeld s x) := by
  unfold State.offerHeld
  try dsimp only
  repeat' first | exact Eq.refl true | with_reducible (first
    | exact Moves.refl _ _ | assumption | apply Moves.step (moves_offer ..) | refine Moves.ite ?_ ?_
    | (refine Moves.upd rfl rfl rfl rfl ?_; first | exact Moves.refl _ _ | assumption | apply Moves.step (moves_offer ..) | refine Moves.ite ?_ ?_ | split)
    | split)

theorem moves_offerRing (s : State) (r : Ring) (bytes : Bytes) (word : Nat) : Moves [.files, .free, .out, .evr, .sch, .ports, .sau] s (State.offerRing s r bytes word) := by
  unfold State.offerRing
  try dsimp only
  repeat' first | exact Eq.refl true | with_reducible (first
    | exact Moves.refl _ _ | assumption | apply Moves.step (moves_offer ..) | apply Moves.step (moves_ringTake ..)
    | refine Moves.ite ?_ ?_ | split)

theorem moves_resumeAt (s : State) (n : Nat) : Moves [.files] s (State.resumeAt s n) := by
  unfold State.resumeAt
  try dsimp only
  repeat' first | exact Eq.refl true | with_reducible (first
    | exact Moves.refl _ _ | assumption | apply Moves.step (moves_putStreamBit ..) | refine Moves.foldl (fun _ _ => ?_) ?_
    | refine Moves.foldlFst (fun _ _ => ?_) ?_)

theorem moves_openTo (s : State) (top : Nat) : Moves [.files, .aln] s (State.openTo s top) := by
  unfold State.openTo
  try dsimp only
  repeat' first | exact Eq.refl true | with_reducible (first
    | exact Moves.refl _ _ | assumption | apply Moves.step (moves_resumeAt ..) | apply Moves.step (moves_collect ..)
    | refine Moves.foldl (fun _ _ => ?_) ?_ | refine Moves.foldlFst (fun _ _ => ?_) ?_ | refine Moves.ite ?_ ?_)

theorem moves_resetMonitor (s : State) (m : Nat) (err : Bool) : Moves [.osc] s (State.resetMonitor s m err) := by
  unfold State.resetMonitor
  try dsimp only
  repeat' first | exact Eq.refl true | with_reducible (first
    | exact Moves.refl _ _ | assumption | apply Moves.step (moves_setMonitor ..))

theorem moves_resetSub (s : State) (k : Nat) (err : Bool) : Moves [.files, .osc] s (State.resetSub s k err) := by
  unfold State.resetSub
  try dsimp only
  repeat' first | exact Eq.refl true | with_reducible (first
    | exact Moves.refl _ _ | assumption | apply Moves.step (moves_putBit ..) | refine Moves.upd rfl rfl rfl rfl ?_)

theorem moves_oscCommand (s : State) (ro : Roast) (k i : Nat) (nx : State) (h : s.oscCommand ro k i = some nx) : Moves [.files, .out, .osc] s nx := by
  unfold State.oscCommand at h
  split at h
  · obtain ⟨b, _, rfl⟩ := Option.map_eq_some_iff.mp h
    exact moves_resetBand ..
  · split at h
    · split at h
      · cases h
        exact Moves.step (moves_resetMonitor ..) rfl (Moves.refl _ _)
      · cases h
    · split at h
      · split at h
        · cases h
          exact Moves.step (moves_resetSub ..) rfl (Moves.refl _ _)
        · cases h
      · simp only [] at h
        split at h
        · cases h
        · cases h
          exact Moves.foldl (fun _ _ => moves_resetBand ..) (Moves.refl _ _)

theorem moves_oscCmdRun (s : State) (ro : Roast) (swapSlice : Bool) : Moves [.files, .out, .osc] s (State.oscCmdRun s ro swapSlice) := by
  unfold State.oscCmdRun
  try dsimp only
  repeat' first | exact Eq.refl true | with_reducible (first
    | exact Moves.refl _ _ | assumption | apply Moves.step (moves_setFlag ..)
    | apply Moves.step (moves_oscCommand _ _ _ _ _ (by assumption)) | apply Moves.step (moves_oscIrq ..)
    | apply Moves.step (moves_set ..) | refine Moves.ite ?_ ?_
    | (refine Moves.upd rfl rfl rfl rfl ?_; first | exact Moves.refl _ _ | assumption | apply Moves.step (moves_setFlag ..) | apply Moves.step (moves_oscCommand _ _ _ _ _ (by assumption)) | apply Moves.step (moves_oscIrq ..) | apply Moves.step (moves_set ..) | refine Moves.ite ?_ ?_ | split)
    | split)

theorem moves_resetOsc (s : State) (ro : Roast) : Moves [.files, .out, .osc] s (State.resetOsc s ro) := by
  unfold State.resetOsc
  try dsimp only
  repeat' first | exact Eq.refl true | with_reducible (first
    | exact Moves.refl _ _ | assumption | apply Moves.step (moves_resetBand ..) | apply Moves.step (moves_resetMonitor ..)
    | apply Moves.step (moves_resetSub ..) | refine Moves.foldl (fun _ _ => ?_) ?_ | refine Moves.foldlFst (fun _ _ => ?_) ?_)

theorem moves_resetDue (s : State) (ro : Roast) (n : Nat) : Moves [.files, .out, .osc] s (State.resetDue s ro n) := by
  unfold State.resetDue
  try dsimp only
  repeat' first | exact Eq.refl true | with_reducible (first
    | exact Moves.refl _ _ | assumption | apply Moves.step (moves_resetOsc ..) | refine Moves.ite ?_ ?_
    | refine Moves.upd rfl rfl rfl rfl ?_)

theorem moves_resetCorridor (s : State) (c : Nat) : Moves [.files, .out, .evr, .osc] s (State.resetCorridor s c) := by
  unfold State.resetCorridor
  try dsimp only
  repeat' first | exact Eq.refl true | with_reducible (first
    | exact Moves.refl _ _ | assumption | apply Moves.step (moves_setCorridor ..))

theorem moves_stateError (s : State) (ro : Roast) (e : Nat × Nat) : Moves [.files, .out, .evr, .osc] s (State.stateError s ro e) := by
  unfold State.stateError
  try dsimp only
  repeat' first | exact Eq.refl true | with_reducible (first
    | exact Moves.refl _ _ | assumption | apply Moves.step (moves_log ..) | apply Moves.step (moves_oscIrq ..)
    | apply Moves.step (moves_count ..) | apply Moves.step (moves_resetBand ..) | apply Moves.step (moves_resetMonitor ..)
    | apply Moves.step (moves_resetSub ..) | apply Moves.step (moves_resetCorridor ..) | refine Moves.ite ?_ ?_ | split)

theorem moves_subSyncs (s : State) (ro : Roast) (n : Nat) (bad : List Nat) : Moves [.files, .out, .osc] s (State.subSyncs s ro n bad) := by
  unfold State.subSyncs
  try dsimp only
  repeat' first | exact Eq.refl true | with_reducible (first
    | exact Moves.refl _ _ | assumption | apply Moves.step (moves_countIf ..) | apply Moves.step (moves_count ..)
    | apply Moves.step (moves_putBit ..) | apply Moves.step (moves_oscIrq ..) | refine Moves.foldl (fun _ _ => ?_) ?_
    | refine Moves.foldlFst (fun _ _ => ?_) ?_ | refine Moves.ite ?_ ?_
    | (refine Moves.upd rfl rfl rfl rfl ?_; first | exact Moves.refl _ _ | assumption | apply Moves.step (moves_countIf ..) | apply Moves.step (moves_count ..) | apply Moves.step (moves_putBit ..) | apply Moves.step (moves_oscIrq ..) | refine Moves.foldl (fun _ _ => ?_) ?_ | refine Moves.foldlFst (fun _ _ => ?_) ?_ | refine Moves.ite ?_ ?_ | split)
    | split)

theorem moves_oscStage (s : State) (r : Run) (rep : StageReport) : Moves [.files, .out, .roasts, .evr, .pace, .aln, .runs, .osc] s (State.oscStage s r rep) := by
  unfold State.oscStage
  try dsimp only
  repeat' first | exact Eq.refl true | with_reducible (first
    | exact Moves.refl _ _ | assumption | apply Moves.step (moves_TileRead_section ..) | apply moves_reading
    | apply Moves.step (moves_resetDue ..) | apply Moves.step (moves_stateError ..) | apply Moves.step (moves_count ..)
    | apply Moves.step (moves_oscCmdRun ..) | apply Moves.step (moves_monitorInputs ..) | apply Moves.step (moves_bandFilter ..)
    | apply Moves.step (moves_monitorUpdates ..) | apply Moves.step (moves_bandSlots ..) | apply Moves.step (moves_corridors ..)
    | apply Moves.step (moves_subSyncs ..) | apply Moves.step (moves_noteOsc ..) | apply Moves.step (moves_set ..)
    | apply Moves.step (moves_setFlag ..) | apply Moves.step (moves_stageEnd ..) | refine Moves.foldl (fun _ _ => ?_) ?_
    | refine Moves.foldlFst (fun _ _ => ?_) ?_ | refine Moves.ite ?_ ?_)

theorem moves_post (s : State) (f : Nat) (out : Option (Nat × Nat × Bytes × Tai)) : Moves [.files, .sch] s (State.post s f out).1 := by
  unfold State.post
  try dsimp only
  repeat' first | exact Eq.refl true | with_reducible (first
    | exact Moves.refl _ _ | assumption | apply Moves.step (moves_showItems ..) | apply Moves.step (moves_setFlow ..)
    | refine Moves.ite ?_ ?_ | refine Moves.iteFst ?_ ?_)

theorem moves_outPost (s : State) (ro : Roast) (x : Slice) (k : Nat) (b : Bytes) : Moves [.files, .out, .sch, .aln] s (State.outPost s ro x k b) := by
  unfold State.outPost
  try dsimp only
  repeat' first | exact Eq.refl true | with_reducible (first
    | exact Moves.refl _ _ | assumption | apply Moves.step (moves_post ..)
    | apply Moves.step (Moves.fst (by assumption) (moves_post ..)) | apply Moves.step (moves_complete ..)
    | apply Moves.step (moves_count ..) | refine Moves.ite ?_ ?_ | refine Moves.iteFst ?_ ?_
    | (refine Moves.upd rfl rfl rfl rfl ?_; first | exact Moves.refl _ _ | assumption | apply Moves.step (moves_post ..) | apply Moves.step (Moves.fst (by assumption) (moves_post ..)) | apply Moves.step (moves_complete ..) | apply Moves.step (moves_count ..) | refine Moves.ite ?_ ?_ | refine Moves.iteFst ?_ ?_ | split)
    | split)

theorem moves_outputs (s : State) (r : Run) : Moves [.files, .out, .sch, .aln] s (State.outputs s r) := by
  unfold State.outputs
  try dsimp only
  repeat' first | exact Eq.refl true | with_reducible (first
    | exact Moves.refl _ _ | assumption | apply Moves.step (moves_outPost ..) | refine Moves.foldl (fun _ _ => ?_) ?_
    | refine Moves.foldlFst (fun _ _ => ?_) ?_ | refine Moves.ite ?_ ?_ | split)

theorem moves_paceStep (s : State) (d : Int) : Moves [.pace] s (State.paceStep s d) := by
  unfold State.paceStep
  try dsimp only
  repeat' first | exact Eq.refl true | with_reducible (first
    | exact Moves.refl _ _ | assumption | refine Moves.upd rfl rfl rfl rfl ?_)

theorem moves_parseInjected (s : State) (j : InjFrame) (bufs : List Nat) : Moves [.files, .free, .out, .evr, .sch, .ports, .ing, .aln] s (State.parseInjected s j bufs) := by
  unfold State.parseInjected
  try dsimp only
  repeat' first | exact Eq.refl true | with_reducible (first
    | exact Moves.refl _ _ | assumption | apply Moves.step (moves_tookFree ..) | apply Moves.step (moves_c37 ..)
    | apply Moves.step (moves_ringTake ..) | apply Moves.step (moves_descDone ..) | refine Moves.ite ?_ ?_
    | refine Moves.iteFst ?_ ?_)

theorem moves_svFill (s : State) (b : Bytes) (l : Nat) (run : Nat) (x : FltSample) : Moves [.files, .flt] s (State.svFill s b l run x) := by
  unfold State.svFill
  try dsimp only
  repeat' first | exact Eq.refl true | with_reducible (first
    | exact Moves.refl _ _ | assumption | apply Moves.step (moves_gapReset ..) | apply Moves.step (moves_laneInput ..)
    | refine Moves.foldl (fun _ _ => ?_) ?_ | refine Moves.foldlFst (fun _ _ => ?_) ?_ | refine Moves.ite ?_ ?_ | split)

theorem moves_svSample (s : State) (b : Bytes) (l : Nat) (q : Nat) (x : FltSample) (stamp : Tai) : Moves [.files, .out, .flt] s (State.svSample s b l q x stamp) := by
  unfold State.svSample
  try dsimp only
  repeat' first | exact Eq.refl true | with_reducible (first
    | exact Moves.refl _ _ | assumption | apply Moves.step (moves_count ..) | apply Moves.step (moves_fltIrq ..)
    | apply Moves.step (moves_svFill ..) | apply Moves.step (moves_laneInput ..) | apply Moves.step (moves_setLane ..)
    | refine Moves.ite ?_ ?_)

theorem moves_svAsdu (s : State) (t : Bytes) (grp : Nat) (rate : Nat) (stamp : Tai) (xs : List (Nat × Bytes)) : Moves [.files, .out, .flt] s (State.svAsdu s t grp rate stamp xs) := by
  unfold State.svAsdu
  try dsimp only
  repeat' first | exact Eq.refl true | with_reducible (first
    | exact Moves.refl _ _ | assumption | apply Moves.step (moves_svSample ..) | refine Moves.foldl (fun _ _ => ?_) ?_
    | refine Moves.foldlFst (fun _ _ => ?_) ?_ | refine Moves.ite ?_ ?_)

theorem moves_svFrame (s : State) (src : Nat) (k : IngPacket) (bufs : List Nat) : Moves [.files, .out, .evr, .sch, .ports, .ing, .flt] s (State.svFrame s src k bufs).1 := by
  unfold State.svFrame
  try dsimp only
  repeat' first | exact Eq.refl true | with_reducible (first
    | exact Moves.refl _ _ | assumption | apply Moves.step (moves_unclaimed ..)
    | apply Moves.step (Moves.fst (by assumption) (moves_unclaimed ..)) | apply Moves.step (moves_count ..)
    | apply Moves.step (moves_svAsdu ..) | refine Moves.foldl (fun _ _ => ?_) ?_ | refine Moves.foldlFst (fun _ _ => ?_) ?_
    | refine Moves.ite ?_ ?_ | refine Moves.iteFst ?_ ?_ | split)

theorem moves_spduAsdu (s : State) (c : C37Src) (g : Gen) (f : Nat) (stamp : Tai) (xs : List (Nat × Bytes)) : Moves [.files, .free, .out, .aln] s (State.spduAsdu s c g f stamp xs).1 := by
  unfold State.spduAsdu
  try dsimp only
  repeat' first | exact Eq.refl true | with_reducible (first
    | exact Moves.refl _ _ | assumption | apply Moves.step (moves_count ..) | apply Moves.step (moves_enterFrame ..)
    | apply Moves.step (moves_tookFree ..) | refine Moves.ite ?_ ?_ | refine Moves.iteFst ?_ ?_ | split)

theorem moves_spduAsdus (s : State) (c : C37Src) (g : Gen) (f : Nat) (stamp : Tai) (asdus : List (List (Nat × Bytes))) :
    Moves [.files, .free, .out, .aln] s (s.spduAsdus c g f stamp asdus).1 := by
  unfold State.spduAsdus
  have h : ∀ r : State × Bool, Moves [.files, .free, .out, .aln] s r.1 → Moves [.files, .free, .out, .aln] s
      (asdus.foldl (fun (r : State × Bool) xs => ((r.1.spduAsdu c g f stamp xs).1, r.2 || (r.1.spduAsdu c g f stamp xs).2)) r).1 := by
    induction asdus with
    | nil => exact fun r hr => hr
    | cons x xs ih => exact fun r hr => ih _ (Moves.step (moves_spduAsdu ..) rfl hr)
  exact h _ (Moves.refl _ _)

theorem moves_spduFrame (s : State) (c : C37Src) (d : Bytes) (k : IngPacket) (bufs : List Nat) : Moves [.files, .free, .out, .evr, .sch, .ports, .ing, .aln] s (State.spduFrame s c d k bufs).1 := by
  unfold State.spduFrame
  try dsimp only
  repeat' first | exact Eq.refl true | with_reducible (first
    | exact Moves.refl _ _ | assumption | apply Moves.step (moves_count ..) | apply Moves.step (moves_ingIrq ..)
    | apply Moves.step (moves_set ..) | apply Moves.step (moves_unclaimed ..)
    | apply Moves.step (Moves.fst (by assumption) (moves_unclaimed ..)) | apply Moves.step (moves_setSpduKeys ..)
    | apply Moves.step (moves_spduAsdus ..) | apply Moves.step (Moves.fst (by assumption) (moves_spduAsdus ..))
    | refine Moves.ite ?_ ?_ | refine Moves.iteFst ?_ ?_ | split)

theorem moves_udpPacket (s : State) (src : Nat) (k : IngPacket) (bufs : List Nat) : Moves [.files, .free, .out, .evr, .sch, .ports, .ing, .aln] s (State.udpPacket s src k bufs).1 := by
  unfold State.udpPacket
  try dsimp only
  repeat' first | exact Eq.refl true | with_reducible (first
    | exact Moves.refl _ _ | assumption | apply Moves.step (moves_count ..) | apply Moves.step (moves_spduFrame ..)
    | apply Moves.step (Moves.fst (by assumption) (moves_spduFrame ..)) | apply Moves.step (moves_c37 ..)
    | apply Moves.step (Moves.fst (by assumption) (moves_c37 ..)) | refine Moves.ite ?_ ?_ | refine Moves.iteFst ?_ ?_ | split)

theorem moves_queuePacket (s : State) (src : Nat) (k : IngPacket) (bufs : List Nat) : Moves [.files, .free, .out, .evr, .sch, .ports, .ing, .flt, .aln, .runs] s (State.queuePacket s src k bufs).1 := by
  unfold State.queuePacket
  try dsimp only
  repeat' first | exact Eq.refl true | with_reducible (first
    | exact Moves.refl _ _ | assumption | apply Moves.step (moves_svFrame ..)
    | apply Moves.step (Moves.fst (by assumption) (moves_svFrame ..)) | apply Moves.step (moves_gooseFrame ..)
    | apply Moves.step (Moves.fst (by assumption) (moves_gooseFrame ..)) | apply Moves.step (moves_udpPacket ..)
    | apply Moves.step (Moves.fst (by assumption) (moves_udpPacket ..)) | split)

theorem moves_parseQueue (s : State) (src : Nat) (bufs : List Nat) : Moves [.files, .free, .out, .evr, .sch, .ports, .ing, .flt, .aln, .runs] s (State.parseQueue s src bufs) := by
  unfold State.parseQueue
  try dsimp only
  repeat' first | exact Eq.refl true | with_reducible (first
    | exact Moves.refl _ _ | assumption | apply Moves.step (moves_ingPop ..) | apply Moves.step (moves_queuePacket ..)
    | apply Moves.step (Moves.fst (by assumption) (moves_queuePacket ..)) | apply Moves.step (moves_count ..)
    | refine Moves.ite ?_ ?_ | refine Moves.iteFst ?_ ?_ | split)

theorem moves_passDemand (s : State) : Moves [.files, .out, .evr, .nrg] s (State.passDemand s) := by
  unfold State.passDemand
  try dsimp only
  repeat' first | exact Eq.refl true | with_reducible (first
    | exact Moves.refl _ _ | assumption | apply Moves.step (moves_demandEnd ..) | apply Moves.step (moves_drainAll ..)
    | refine Moves.ite ?_ ?_)

theorem moves_passBound (s : State) : Moves [.files, .out, .keys, .evr, .nvs, .nrg] s (State.passBound s) := by
  unfold State.passBound
  try dsimp only
  repeat' first | exact Eq.refl true | with_reducible (first
    | exact Moves.refl _ _ | assumption | apply Moves.step (moves_passDemand ..) | apply Moves.step (moves_closeBound ..)
    | apply Moves.step (moves_drainAll ..) | refine Moves.ite ?_ ?_)

theorem moves_passStep {m : List Part} {s u : State} {k outcome : Nat} {f : State → State}
    (hs : sub [.files, .free, .out, .boot, .ledger, .pins, .cfg, .roasts, .keys, .evr, .nvs, .backup, .pace, .sch, .ing, .runs, .cap, .nrg] m = true) (hf : ∀ v, Moves m v (f v)) (h : Moves m s u) : Moves m s (u.passStep k outcome f) := by
  unfold State.passStep
  refine Moves.step (moves_afterStep ..) (sub_trans rfl hs) (Moves.step (moves_notePass ..) (sub_trans rfl hs) (Moves.trans ?_ (hf _)))
  exact Moves.step (moves_leaveStep ..) (sub_trans rfl hs) h

theorem moves_startWaiting (s : State) (step : Nat) : Moves [.files, .free, .out, .pins, .keys, .evr, .nvs, .sch, .ports, .flt, .aln, .lse, .osc, .nrg, .alm] s (State.startWaiting s step) := by
  unfold State.startWaiting
  try dsimp only
  repeat' first | exact Eq.refl true | with_reducible (first
    | exact Moves.refl _ _ | assumption | apply Moves.step (moves_blockStart ..) | apply Moves.step (moves_setFlag ..)
    | refine Moves.foldl (fun _ _ => ?_) ?_ | refine Moves.foldlFst (fun _ _ => ?_) ?_ | refine Moves.ite ?_ ?_)

theorem moves_setLanes (s : State) (east : Bool) (l : Nat) : Moves [.files, .out, .evr] s (State.setLanes s east l) := by
  unfold State.setLanes
  try dsimp only
  repeat' first | exact Eq.refl true | with_reducible (first
    | exact Moves.refl _ _ | assumption | apply Moves.step (moves_casIrq ..) | apply Moves.step (moves_log ..)
    | apply Moves.step (moves_set ..) | refine Moves.ite ?_ ?_)

theorem moves_portsUp (s : State) (r : StepReport) : Moves [.files, .free, .out, .boot, .pins, .keys, .evr, .nvs, .sch, .ports, .flt, .aln, .lse, .osc, .nrg, .alm] s (State.portsUp s r) := by
  unfold State.portsUp
  try dsimp only
  repeat' first | exact Eq.refl true | with_reducible (first
    | exact Moves.refl _ _ | assumption | apply Moves.step (moves_startWaiting ..) | apply Moves.step (moves_portEn ..)
    | apply Moves.step (moves_setLanes ..) | refine Moves.foldl (fun _ _ => ?_) ?_ | refine Moves.foldlFst (fun _ _ => ?_) ?_
    | refine Moves.ite ?_ ?_ | refine Moves.upd rfl rfl rfl rfl ?_)

theorem moves_presence (s : State) (p : Nat) (n : Nat) (ok : Bool) (rate : Nat) (taken : Nat) : Moves [.files, .out, .cas] s (State.presence s p n ok rate taken) := by
  unfold State.presence
  try dsimp only
  repeat' first | exact Eq.refl true | with_reducible (first
    | exact Moves.refl _ _ | assumption | apply Moves.step (moves_setPeer ..) | apply Moves.step (moves_putBit ..)
    | apply Moves.step (moves_casIrq ..) | apply Moves.step (moves_releaseLater ..) | refine Moves.foldl (fun _ _ => ?_) ?_
    | refine Moves.foldlFst (fun _ _ => ?_) ?_ | refine Moves.ite ?_ ?_)

theorem moves_rearm (s : State) (slot : Nat) : Moves [.files, .cap] s (State.rearm s slot) := by
  unfold State.rearm
  try dsimp only
  repeat' first | exact Eq.refl true | with_reducible (first
    | exact Moves.refl _ _ | assumption | apply Moves.step (moves_putBit ..) | apply Moves.step (moves_setXline ..)
    | refine Moves.foldl (fun _ _ => ?_) ?_ | refine Moves.foldlFst (fun _ _ => ?_) ?_ | refine Moves.ite ?_ ?_)

end Sys2Proof.Machine
end

