-- ==== Sys2Proof/Laws/Moves4.lean ====
section
/-! SUPPORT. What each operation can touch, part 4 of 4, in the order in which operations call each other: one law for each one,
which later proofs cite and which its own proof rests on alone. -/

set_option maxRecDepth 4000
set_option linter.unusedTactic false
set_option linter.unreachableTactic false

namespace Sys2Proof.Machine

set_option Elab.async false

theorem moves_refTick (s : State) (k : Nat) : Moves [.files, .time] s (State.refTick s k) := by
  unfold State.refTick
  try dsimp only
  repeat' first | exact Eq.refl true | with_reducible (first
    | exact Moves.refl _ _ | assumption | apply Moves.step (moves_set ..) | apply Moves.step (moves_putBit ..)
    | apply Moves.step (moves_setFlag ..) | apply Moves.step (moves_count ..) | apply Moves.step (moves_setRefHist ..)
    | refine Moves.ite ?_ ?_ | split)

theorem moves_refreshShares (s : State) : Moves [.free, .keys] s (State.refreshShares s) := by
  unfold State.refreshShares
  try dsimp only
  repeat' first | exact Eq.refl true | with_reducible (first
    | exact Moves.refl _ _ | assumption | apply Moves.step (moves_tookFree ..) | apply Moves.step (moves_putSlot ..)
    | refine Moves.foldl (fun _ _ => ?_) ?_ | refine Moves.foldlFst (fun _ _ => ?_) ?_ | refine Moves.ite ?_ ?_ | split)

theorem moves_remapRow (s : State) (row : Nat) : Moves [.pace] s (State.remapRow s row) := by
  unfold State.remapRow
  try dsimp only
  repeat' first | exact Eq.refl true | with_reducible (first
    | exact Moves.refl _ _ | assumption | refine Moves.ite ?_ ?_ | refine Moves.upd rfl rfl rfl rfl ?_)

theorem moves_repairFrom (s : State) (region sect : Nat) (tiles : List Bytes) (nx : State) (h : s.repairFrom region sect tiles = some nx) :
    Moves [.files, .out, .pins, .roasts] s nx := by
  unfold State.repairFrom at h
  split at h
  · cases h
  · simp only [] at h
    split at h
    · cases h
    · cases h
      refine Moves.step (moves_tileHealth ..) rfl (Moves.step (moves_repairHead ..) rfl ?_)
      refine Moves.upd rfl rfl rfl rfl (Moves.foldl (fun v a => ?_) (Moves.refl _ _))
      exact Moves.step (moves_count ..) rfl (Moves.step (moves_markCopy ..) rfl (Moves.step (moves_markCopy ..) rfl (Moves.refl _ _)))

theorem moves_waveStore (s : State) (lane : Nat) (w : WaveSample) : Moves [.cap] s (State.waveStore s lane w) := by
  unfold State.waveStore
  try dsimp only
  repeat' first | exact Eq.refl true | with_reducible (first
    | exact Moves.refl _ _ | assumption | refine Moves.ite ?_ ?_ | refine Moves.upd rfl rfl rfl rfl ?_)

theorem moves_settleShow (s : State) (g : Nat) (o : FltOut) : Moves [.files, .out, .flt] s (State.settleShow s g o) := by
  unfold State.settleShow
  try dsimp only
  repeat' first | exact Eq.refl true | with_reducible (first
    | exact Moves.refl _ _ | assumption | apply Moves.step (moves_setFlag ..) | apply Moves.step (moves_fltIrq ..)
    | apply Moves.step (moves_setFgroup ..) | refine Moves.ite ?_ ?_)

theorem moves_resamplerOutput (s : State) (b : Bytes) (l : Nat) : Moves [.files, .out, .evr, .flt, .osc, .cap] s (State.resamplerOutput s b l) := by
  unfold State.resamplerOutput
  try dsimp only
  repeat' first | exact Eq.refl true | with_reducible (first
    | exact Moves.refl _ _ | assumption | apply Moves.step (Moves.optFst (by assumption) (moves_laneOutput _ _ _))
    | apply Moves.step (moves_cmpUnits ..) | apply Moves.step (moves_decimate ..) | apply Moves.step (moves_waveStore ..)
    | apply Moves.step (moves_settleShow ..) | split)

theorem moves_reselect (s : State) (k : Nat) : Moves [.files, .out, .time, .evr] s (State.reselect s k) := by
  unfold State.reselect
  try dsimp only
  repeat' first | exact Eq.refl true | with_reducible (first
    | exact Moves.refl _ _ | assumption | apply Moves.step (moves_log ..) | apply Moves.step (moves_irq ..)
    | apply Moves.step (moves_set ..) | apply Moves.step (moves_setTsu ..) | apply Moves.step (moves_setFlag ..)
    | apply Moves.step (moves_setInt ..) | refine Moves.ite ?_ ?_
    | (refine Moves.upd rfl rfl rfl rfl ?_; first | exact Moves.refl _ _ | assumption | apply Moves.step (moves_log ..) | apply Moves.step (moves_irq ..) | apply Moves.step (moves_set ..) | apply Moves.step (moves_setTsu ..) | apply Moves.step (moves_setFlag ..) | apply Moves.step (moves_setInt ..) | refine Moves.ite ?_ ?_ | split)
    | split)

theorem moves_revise (s : State) (n : Nat) (f : AlnFrame) : Moves [.files, .out, .aln] s (State.revise s n f) := by
  unfold State.revise
  try dsimp only
  repeat' first | exact Eq.refl true | with_reducible (first
    | exact Moves.refl _ _ | assumption | apply Moves.step (moves_count ..) | apply Moves.step (moves_alnIrq ..)
    | apply Moves.step (moves_setSlice ..) | refine Moves.foldl (fun _ _ => ?_) ?_ | refine Moves.foldlFst (fun _ _ => ?_) ?_
    | refine Moves.ite ?_ ?_)

theorem moves_revisionPass (s : State) : Moves [.files, .out, .aln] s (State.revisionPass s) := by
  unfold State.revisionPass
  try dsimp only
  repeat' first | exact Eq.refl true | with_reducible (first
    | exact Moves.refl _ _ | assumption | apply Moves.step (moves_revise ..) | apply Moves.step (moves_showJournal ..)
    | apply Moves.step (moves_setSlice ..) | refine Moves.foldl (fun _ _ => ?_) ?_ | refine Moves.foldlFst (fun _ _ => ?_) ?_
    | (refine Moves.upd rfl rfl rfl rfl ?_; first | exact Moves.refl _ _ | assumption | apply Moves.step (moves_revise ..) | apply Moves.step (moves_showJournal ..) | apply Moves.step (moves_setSlice ..) | refine Moves.foldl (fun _ _ => ?_) ?_ | refine Moves.foldlFst (fun _ _ => ?_) ?_ | split)
    | split)

theorem moves_ringLate (s : State) (r : Ring) : Moves [.files, .out, .sch, .ports] s (State.ringLate s r) := by
  unfold State.ringLate
  try dsimp only
  repeat' first | exact Eq.refl true | with_reducible (first
    | exact Moves.refl _ _ | assumption | apply Moves.step (moves_ringEvent ..) | split)

theorem moves_share (s : State) (p : Nat) (n : Nat) (number : Nat) (slots : List (F32 × F32 × Nat)) (t : Tai) : Moves [.files, .free, .out, .aln] s (State.share s p n number slots t) := by
  unfold State.share
  try dsimp only
  repeat' first | exact Eq.refl true | with_reducible (first
    | exact Moves.refl _ _ | assumption | apply Moves.step (moves_count ..) | apply Moves.step (moves_enterFrame ..)
    | refine Moves.ite ?_ ?_ | split)

theorem moves_ringTakes (s : State) (m : RingMsg) (t : Tai) : Moves [.files, .free, .out, .evr, .aln, .cap, .cas] s (State.ringTakes s m t) := by
  unfold State.ringTakes
  try dsimp only
  repeat' first | exact Eq.refl true | with_reducible (first
    | exact Moves.refl _ _ | assumption | apply Moves.step (moves_setPeer ..) | apply Moves.step (moves_count ..)
    | apply Moves.step (moves_presence ..) | apply Moves.step (moves_share ..) | apply Moves.step (moves_heardTakeover ..)
    | refine Moves.ite ?_ ?_
    | (refine Moves.upd rfl rfl rfl rfl ?_; first | exact Moves.refl _ _ | assumption | apply Moves.step (moves_setPeer ..) | apply Moves.step (moves_count ..) | apply Moves.step (moves_presence ..) | apply Moves.step (moves_share ..) | apply Moves.step (moves_heardTakeover ..) | refine Moves.ite ?_ ?_ | split)
    | split)

theorem moves_ringReceive (s : State) (ring : Nat) (m : RingMsg) (crcOk : Bool) (linkNs : Option Nat) (t : Tai) : Moves [.files, .free, .out, .evr, .aln, .cap, .cas] s (State.ringReceive s ring m crcOk linkNs t) := by
  unfold State.ringReceive
  try dsimp only
  repeat' first | exact Eq.refl true | with_reducible (first
    | exact Moves.refl _ _ | assumption | apply Moves.step (moves_count ..) | apply Moves.step (moves_set ..)
    | apply Moves.step (moves_ringEmit ..) | apply Moves.step (moves_casIrq ..) | apply Moves.step (moves_log ..)
    | apply Moves.step (moves_setFlag ..) | apply Moves.step (moves_ringTakes ..) | refine Moves.ite ?_ ?_ | split)

theorem moves_utcFromRoast (s : State) : Moves [.files, .time, .backup] s (State.utcFromRoast s) := by
  unfold State.utcFromRoast
  try dsimp only
  repeat' first | exact Eq.refl true | with_reducible (first
    | exact Moves.refl _ _ | assumption | apply Moves.step (moves_set ..) | apply Moves.step (moves_setOffset ..)
    | refine Moves.ite ?_ ?_)

theorem moves_roastLoaded (s : State) (im : Image) : Moves [.files, .locks, .boot, .roasts, .time, .backup] s (State.roastLoaded s im) := by
  unfold State.roastLoaded
  try dsimp only
  repeat' first | exact Eq.refl true | with_reducible (first
    | exact Moves.refl _ _ | assumption | apply Moves.step (moves_setRegion ..) | apply Moves.step (moves_utcFromRoast ..)
    | apply Moves.step (moves_showRoast ..) | apply Moves.step (moves_setFlag ..) | apply Moves.step (moves_absentBits ..)
    | apply Moves.step (moves_loadRegs ..) | refine Moves.upd rfl rfl rfl rfl ?_)

theorem moves_runTopo (s : State) (n : Nat) (t : Topo) : Moves [.runs] s (State.runTopo s n t) := by
  unfold State.runTopo
  try dsimp only
  repeat' first | exact Eq.refl true | with_reducible (first
    | exact Moves.refl _ _ | assumption | refine Moves.ite ?_ ?_ | refine Moves.upd rfl rfl rfl rfl ?_)

theorem moves_rxBad (s : State) (p : Nat) (f : RxFrame) : Moves [.files, .out, .sch, .ports] s (State.rxBad s p f) := by
  unfold State.rxBad
  try dsimp only
  repeat' first | exact Eq.refl true | with_reducible (first
    | exact Moves.refl _ _ | assumption | apply Moves.step (moves_rxPlace ..) | refine Moves.ite ?_ ?_)

theorem moves_rxGood (s : State) (p : Nat) (f : RxFrame) : Moves [.files, .free, .out, .sch, .ports] s (State.rxGood s p f) := by
  unfold State.rxGood
  try dsimp only
  repeat' first | exact Eq.refl true | with_reducible (first
    | exact Moves.refl _ _ | assumption | apply moves_filtered | apply Moves.step (moves_rxPlace ..)
    | apply Moves.step (moves_count ..) | apply Moves.step (moves_dedupe ..) | apply Moves.step (moves_hsrForward ..)
    | refine Moves.ite ?_ ?_ | intro _ | split)

theorem moves_tcForward (s : State) (p : Nat) (f : RxFrame) : Moves [.files, .free, .out, .sch, .ports] s (State.tcForward s p f) := by
  unfold State.tcForward
  try dsimp only
  repeat' first | exact Eq.refl true | with_reducible (first
    | exact Moves.refl _ _ | assumption | apply Moves.step (moves_count ..) | apply Moves.step (moves_enqueue ..)
    | refine Moves.ite ?_ ?_ | split)

theorem moves_rxFrame (s : State) (p : Nat) (f : RxFrame) : Moves [.files, .free, .out, .sch, .ports] s (State.rxFrame s p f) := by
  unfold State.rxFrame
  try dsimp only
  repeat' first | exact Eq.refl true | with_reducible (first
    | exact Moves.refl _ _ | assumption | apply Moves.step (moves_count ..) | apply Moves.step (moves_rxBad ..)
    | apply Moves.step (moves_rxGood ..) | apply Moves.step (moves_tcForward ..) | refine Moves.ite ?_ ?_)

theorem moves_scrubbed (s : State) : Moves [.files, .roasts] s (State.scrubbed s) := by
  unfold State.scrubbed
  try dsimp only
  repeat' first | exact Eq.refl true | with_reducible (first
    | exact Moves.refl _ _ | assumption | apply Moves.step (moves_count ..) | refine Moves.ite ?_ ?_
    | refine Moves.upd rfl rfl rfl rfl ?_)

theorem moves_sentMark (s : State) (m : RingMsg) : Moves [.files, .cas] s (State.sentMark s m) := by
  unfold State.sentMark
  try dsimp only
  repeat' first | exact Eq.refl true | with_reducible (first
    | exact Moves.refl _ _ | assumption | apply Moves.step (moves_count ..) | refine Moves.ite ?_ ?_
    | (refine Moves.upd rfl rfl rfl rfl ?_; first | exact Moves.refl _ _ | assumption | apply Moves.step (moves_count ..) | refine Moves.ite ?_ ?_ | split)
    | split)

theorem moves_sendOut (s : State) (ring k room : Nat) : Moves [.files, .out, .cas] s (s.sendOut ring k room).1 := by
  induction k generalizing s room with
  | zero => exact Moves.refl _ _
  | succ k ih =>
    unfold State.sendOut
    split
    · exact Moves.refl _ _
    · split
      · refine Moves.trans (Moves.step (moves_ringEmit ..) rfl (Moves.step (moves_sentMark ..) rfl ?_)) (ih ..)
        exact Moves.upd rfl rfl rfl rfl (Moves.refl _ _)
      · exact Moves.refl _ _

theorem moves_sendShares (s : State) (x : Slice) : Moves [.cas] s (State.sendShares s x) := by
  unfold State.sendShares
  try dsimp only
  repeat' first | exact Eq.refl true | with_reducible (first
    | exact Moves.refl _ _ | assumption | apply Moves.step (moves_originate ..) | refine Moves.foldl (fun _ _ => ?_) ?_
    | refine Moves.foldlFst (fun _ _ => ?_) ?_ | split)

theorem moves_stageAt {m : List Part} {s u : State} {k : Nat} {rep : StageReport} {f : State → Run → State}
    (hs : sub [.files, .locks, .out, .pins, .cfg, .roasts, .time, .keys, .evr, .nvs, .pace, .ing, .flt, .aln, .runs, .isl, .lse, .osc, .sau, .cap, .nrg, .cas] m = true) (hf : ∀ v r, Moves m v (f v r)) (h : Moves m s u) : Moves m s (u.stageAt k rep f) := by
  unfold State.stageAt
  refine moves_atInstant (sub_trans rfl hs) (fun v => ?_) h
  refine moves_inStage (sub_trans rfl hs) (fun v r => Moves.trans ?_ (hf _ r)) (Moves.refl _ _)
  exact Moves.ite (Moves.step (moves_carryNow ..) (sub_trans rfl hs) (Moves.refl _ _)) (Moves.refl _ _)

theorem moves_statusDone (s : State) (outs : List DevOut) : Moves [.files, .out, .isl] s (State.statusDone s outs) := by
  unfold State.statusDone
  try dsimp only
  repeat' first | exact Eq.refl true | with_reducible (first
    | exact Moves.refl _ _ | assumption | apply Moves.step (moves_count ..) | apply Moves.step (moves_irq ..)
    | refine Moves.ite ?_ ?_
    | (refine Moves.upd rfl rfl rfl rfl ?_; first | exact Moves.refl _ _ | assumption | apply Moves.step (moves_count ..) | apply Moves.step (moves_irq ..) | refine Moves.ite ?_ ?_ | split)
    | split)

theorem moves_tamper (s : State) (source : Nat) : Moves [.files, .free, .out, .boot, .ledger, .pins, .cfg, .roasts, .keys, .evr, .nvs, .backup, .pace, .sch, .ing, .runs, .cap, .nrg] s (State.tamper s source) := by
  unfold State.tamper
  try dsimp only
  repeat' first | exact Eq.refl true | with_reducible (first
    | exact Moves.refl _ _ | assumption | apply Moves.step (moves_latchTamper ..) | apply Moves.step (moves_refreshShares ..)
    | apply Moves.step (moves_keyEnd ..) | apply Moves.step (moves_dropSlot ..) | apply Moves.step (moves_enterQuarantine ..)
    | apply Moves.step (moves_interruptStep ..) | refine Moves.ite ?_ ?_ | split)

theorem moves_trained (s : State) (repaired : Nat) : Moves [.files, .ledger, .nvs] s (State.trained s repaired) := by
  unfold State.trained
  try dsimp only
  repeat' first | exact Eq.refl true | with_reducible (first
    | exact Moves.refl _ _ | assumption | apply Moves.step (moves_showRemap ..) | apply Moves.step (moves_count ..)
    | apply Moves.step (moves_setFlag ..) | refine Moves.ite ?_ ?_ | refine Moves.upd rfl rfl rfl rfl ?_)

theorem moves_streamsOn (s : State) : Moves [.files, .locks, .free, .out, .pins, .cfg, .roasts, .time, .keys, .evr, .nvs, .pace, .sch, .ports, .ing, .flt, .aln, .runs, .isl, .lse, .osc, .sau, .cap, .nrg, .alm, .cas] s (State.streamsOn s) := by
  unfold State.streamsOn
  try dsimp only
  repeat' first | exact Eq.refl true | with_reducible (first
    | exact Moves.refl _ _ | assumption | apply Moves.step (moves_startWaiting ..) | apply moves_enWrite
    | apply Moves.step (moves_capHeaders ..) | apply Moves.step (moves_alnStart ..) | apply Moves.step (moves_alnStop ..)
    | apply Moves.idl | intro _ | refine Moves.upd rfl rfl rfl rfl ?_)

theorem moves_stepDone (s : State) (k : Nat) (r : StepReport) : Moves [.files, .locks, .free, .out, .boot, .ledger, .fw, .pins, .env, .host, .cfg, .roasts, .time, .keys, .fuses, .evr, .nvs, .backup, .pace, .sch, .ports, .ing, .flt, .aln, .runs, .isl, .lse, .osc, .sau, .cap, .nrg, .alm, .cas] s (State.stepDone s k r) := by
  unfold State.stepDone
  try dsimp only
  repeat' first | exact Eq.refl true | with_reducible (first
    | exact Moves.refl _ _ | assumption | apply moves_passStep | apply Moves.step (moves_failStep ..)
    | apply Moves.step (moves_fusesSensed ..) | apply Moves.step (moves_tamper ..) | apply Moves.step (moves_nvsMounted ..)
    | apply Moves.step (moves_keysDerived ..) | apply Moves.step (moves_trained ..) | apply Moves.step (moves_calibrated ..)
    | apply Moves.step (moves_roastLoaded ..) | apply Moves.step (moves_set ..) | apply Moves.step (moves_showCores ..)
    | apply Moves.step (moves_setFlag ..) | apply Moves.step (moves_portsUp ..) | apply Moves.step (moves_streamsOn ..)
    | apply Moves.step (moves_adopt ..) | apply Moves.idl | refine Moves.ite ?_ ?_ | intro _
    | (refine Moves.upd rfl rfl rfl rfl ?_; first | exact Moves.refl _ _ | assumption | apply moves_passStep | apply Moves.step (moves_failStep ..) | apply Moves.step (moves_fusesSensed ..) | apply Moves.step (moves_tamper ..) | apply Moves.step (moves_nvsMounted ..) | apply Moves.step (moves_keysDerived ..) | apply Moves.step (moves_trained ..) | apply Moves.step (moves_calibrated ..) | apply Moves.step (moves_roastLoaded ..) | apply Moves.step (moves_set ..) | apply Moves.step (moves_showCores ..) | apply Moves.step (moves_setFlag ..) | apply Moves.step (moves_portsUp ..) | apply Moves.step (moves_streamsOn ..) | apply Moves.step (moves_adopt ..) | apply Moves.idl | refine Moves.ite ?_ ?_ | split)
    | split)

theorem moves_stepFollows (s : State) : Moves [.files, .locks, .out, .pins, .cfg, .roasts, .time, .keys, .evr, .nvs, .pace, .ing, .flt, .aln, .runs, .isl, .lse, .osc, .sau, .cap, .nrg, .cas] s (State.stepFollows s) := by
  unfold State.stepFollows
  try dsimp only
  repeat' first | exact Eq.refl true | with_reducible (first
    | exact Moves.refl _ _ | assumption | apply Moves.step (moves_alnStep ..) | apply Moves.step (moves_paceStep ..)
    | apply Moves.step (moves_capFlag ..) | apply Moves.step (moves_nrgStep ..) | apply Moves.step (moves_fltStep ..)
    | (refine Moves.upd rfl rfl rfl rfl ?_; first | exact Moves.refl _ _ | assumption | apply Moves.step (moves_alnStep ..) | apply Moves.step (moves_paceStep ..) | apply Moves.step (moves_capFlag ..) | apply Moves.step (moves_nrgStep ..) | apply Moves.step (moves_fltStep ..) | split)
    | split)

theorem moves_substitution (s : State) (r : Run) (rep : StageReport) : Moves [.files, .out, .pins, .roasts, .evr, .pace, .sch, .aln, .runs, .cas] s (State.substitution s r rep) := by
  unfold State.substitution
  try dsimp only
  repeat' first | exact Eq.refl true | with_reducible (first
    | exact Moves.refl _ _ | assumption | apply Moves.step (moves_TileRead_section ..) | apply moves_reading
    | apply Moves.step (moves_count ..) | apply Moves.step (moves_setSlice ..) | apply Moves.step (moves_measure ..)
    | apply Moves.step (moves_sendShares ..) | apply Moves.step (moves_stageEnd ..) | apply Moves.step (moves_tileHealth ..)
    | apply Moves.step (moves_outputs ..) | refine Moves.ite ?_ ?_ | split)

theorem moves_svMissed (s : State) (b : Bytes) (l : Nat) : Moves [.files, .out, .flt] s (State.svMissed s b l) := by
  unfold State.svMissed
  try dsimp only
  repeat' first | exact Eq.refl true | with_reducible (first
    | exact Moves.refl _ _ | assumption | apply Moves.step (moves_count ..) | apply Moves.step (moves_setLane ..)
    | apply Moves.step (moves_setFlag ..) | apply Moves.step (moves_fltIrq ..) | refine Moves.ite ?_ ?_ | split)

theorem moves_takePosition (s : State) (x : Slice) (state : Nat) : Moves [.files, .aln] s (State.takePosition s x state) := by
  unfold State.takePosition
  try dsimp only
  repeat' first | exact Eq.refl true | with_reducible (first
    | exact Moves.refl _ _ | assumption | apply Moves.step (moves_showOpen ..) | apply Moves.step (moves_setSlice ..)
    | refine Moves.foldl (fun _ _ => ?_) ?_ | refine Moves.foldlFst (fun _ _ => ?_) ?_ | refine Moves.ite ?_ ?_
    | refine Moves.upd rfl rfl rfl rfl ?_)

theorem moves_takeToken (s : State) (ring : Nat) (gen : Nat) : Moves [.files, .out, .cas] s (State.takeToken s ring gen) := by
  unfold State.takeToken
  try dsimp only
  repeat' first | exact Eq.refl true | with_reducible (first
    | exact Moves.refl _ _ | assumption | apply Moves.step (moves_sendOut ..)
    | apply Moves.step (Moves.fst (by assumption) (moves_sendOut ..)) | apply Moves.step (moves_passToken ..)
    | refine Moves.ite ?_ ?_ | refine Moves.iteFst ?_ ?_
    | (refine Moves.upd rfl rfl rfl rfl ?_; first | exact Moves.refl _ _ | assumption | apply Moves.step (moves_sendOut ..) | apply Moves.step (Moves.fst (by assumption) (moves_sendOut ..)) | apply Moves.step (moves_passToken ..) | refine Moves.ite ?_ ?_ | refine Moves.iteFst ?_ ?_ | split)
    | split)

theorem moves_timeFromCalendar (s : State) : Moves [.files, .pins, .time] s (State.timeFromCalendar s) := by
  unfold State.timeFromCalendar
  try dsimp only
  repeat' first | exact Eq.refl true | with_reducible (first
    | exact Moves.refl _ _ | assumption | apply Moves.step (moves_timeQuality ..) | apply Moves.step (moves_setTsu ..)
    | refine Moves.upd rfl rfl rfl rfl ?_)

theorem moves_timeTick (s : State) (t : Tai) : Moves [.files, .out, .pins, .time, .evr] s (State.timeTick s t) := by
  unfold State.timeTick
  try dsimp only
  repeat' first | exact Eq.refl true | with_reducible (first
    | exact Moves.refl _ _ | assumption | apply Moves.step (moves_applySteps ..) | apply Moves.step (moves_moveTo ..)
    | apply Moves.step (moves_refTick ..) | apply Moves.step (moves_holdCount ..) | apply Moves.step (moves_holdTick ..)
    | apply Moves.step (moves_reselect ..) | apply Moves.step (moves_timeQuality ..) | apply Moves.step (moves_leapTick ..)
    | refine Moves.foldl (fun _ _ => ?_) ?_ | refine Moves.foldlFst (fun _ _ => ?_) ?_ | refine Moves.upd rfl rfl rfl rfl ?_)

theorem moves_topoInvalid (s : State) (n : Nat) : Moves [.files, .isl] s (State.topoInvalid s n) := by
  unfold State.topoInvalid
  try dsimp only
  repeat' first | exact Eq.refl true | with_reducible (first
    | exact Moves.refl _ _ | assumption | apply Moves.step (moves_setFlag ..) | apply Moves.step (moves_count ..)
    | refine Moves.upd rfl rfl rfl rfl ?_)

theorem moves_topoValid (s : State) (t : Topo) : Moves [.files, .out, .isl] s (State.topoValid s t) := by
  unfold State.topoValid
  try dsimp only
  repeat' first | exact Eq.refl true | with_reducible (first
    | exact Moves.refl _ _ | assumption | apply Moves.step (moves_count ..) | apply Moves.step (moves_set ..)
    | apply Moves.step (moves_setFlag ..) | apply Moves.step (moves_irq ..) | refine Moves.ite ?_ ?_
    | (refine Moves.upd rfl rfl rfl rfl ?_; first | exact Moves.refl _ _ | assumption | apply Moves.step (moves_count ..) | apply Moves.step (moves_set ..) | apply Moves.step (moves_setFlag ..) | apply Moves.step (moves_irq ..) | refine Moves.ite ?_ ?_ | split)
    | split)

theorem moves_topoStage (s : State) (r : Run) (rep : StageReport) : Moves [.files, .out, .pins, .roasts, .evr, .pace, .aln, .runs, .isl] s (State.topoStage s r rep) := by
  unfold State.topoStage
  try dsimp only
  repeat' first | exact Eq.refl true | with_reducible (first
    | exact Moves.refl _ _ | assumption | apply Moves.step (moves_TileRead_section ..) | apply moves_reading
    | apply Moves.step (moves_count ..) | apply Moves.step (moves_statusDone ..) | apply Moves.step (moves_convergeErr ..)
    | apply Moves.step (moves_topoValid ..) | apply Moves.step (moves_topoInvalid ..) | apply Moves.step (moves_stageEnd ..)
    | apply Moves.step (moves_tileHealth ..) | apply Moves.step (moves_runTopo ..) | refine Moves.ite ?_ ?_ | split)

theorem moves_watchdogs (s : State) (t : Tai) : Moves [.files, .free, .out, .pins, .evr, .pace, .aln, .runs] s (State.watchdogs s t) := by
  unfold State.watchdogs
  try dsimp only
  repeat' first | exact Eq.refl true | with_reducible (first
    | exact Moves.refl _ _ | assumption | apply Moves.step (moves_sweepRuns ..) | apply Moves.step (moves_endStages ..)
    | refine Moves.foldl (fun _ _ => ?_) ?_ | refine Moves.foldlFst (fun _ _ => ?_) ?_)

theorem moves_wrap (s : State) (east : Bool) : Moves [.files, .out] s (State.wrap s east) := by
  unfold State.wrap
  try dsimp only
  repeat' first | exact Eq.refl true | with_reducible (first
    | exact Moves.refl _ _ | assumption | apply Moves.step (moves_casIrq ..) | apply Moves.step (moves_count ..)
    | apply Moves.step (moves_set ..) | apply Moves.step (moves_setFlag ..) | refine Moves.ite ?_ ?_)

theorem moves_writeRecord (s : State) (r : LogRec) (clear : Bool) : Moves [.files, .out, .evr, .nvs] s (State.writeRecord s r clear) := by
  unfold State.writeRecord
  try dsimp only
  repeat' first | exact Eq.refl true | with_reducible (first
    | exact Moves.refl _ _ | assumption | apply Moves.step (moves_putEntry ..) | refine Moves.foldl (fun _ _ => ?_) ?_
    | refine Moves.foldlFst (fun _ _ => ?_) ?_)

theorem moves_xtrigEdge (s : State) (k : Nat) (stamp : Tai) : Moves [.files, .out, .pins, .backup, .cap] s (State.xtrigEdge s k stamp) := by
  unfold State.xtrigEdge
  try dsimp only
  repeat' first | exact Eq.refl true | with_reducible (first
    | exact Moves.refl _ _ | assumption | apply Moves.step (moves_setXline ..) | apply Moves.step (moves_putBit ..)
    | apply Moves.step (moves_count ..) | apply Moves.step (moves_capTrigger ..)
    | apply Moves.step (Moves.fst (by assumption) (moves_capTrigger ..)) | refine Moves.ite ?_ ?_ | refine Moves.iteFst ?_ ?_
    | split)

theorem moves_execAlarmPass1 (rep : StageReport) (s : State) : ∃ nx : State, execAlarmPass1 rep s = .next nx ∧ Moves [.files, .locks, .free, .out, .pins, .cfg, .roasts, .time, .keys, .evr, .nvs, .backup, .pace, .sch, .ports, .ing, .flt, .aln, .runs, .isl, .lse, .osc, .sau, .cap, .nrg, .alm, .cas] s nx := by
  unfold execAlarmPass1
  refine ⟨_, rfl, ?_⟩
  try dsimp only
  repeat' first | exact Eq.refl true | with_reducible (first
    | exact Moves.refl _ _ | assumption | apply moves_stageAt | apply Moves.step (moves_alarmPass ..) | intro _)

theorem moves_execAlarmPass2 (rep : StageReport) (s : State) : ∃ nx : State, execAlarmPass2 rep s = .next nx ∧ Moves [.files, .locks, .free, .out, .pins, .cfg, .roasts, .time, .keys, .evr, .nvs, .backup, .pace, .sch, .ports, .ing, .flt, .aln, .runs, .isl, .lse, .osc, .sau, .cap, .nrg, .alm, .cas] s nx := by
  unfold execAlarmPass2
  refine ⟨_, rfl, ?_⟩
  try dsimp only
  repeat' first | exact Eq.refl true | with_reducible (first
    | exact Moves.refl _ _ | assumption | apply moves_stageAt | apply Moves.step (moves_alarmPass2 ..) | intro _)

theorem moves_execAlmTermLatch (who : Requester) (s : State) : ∃ nx : State, execAlmTermLatch who s = .next nx ∧ Moves [.files] s nx := by
  unfold execAlmTermLatch
  refine ⟨_, rfl, ?_⟩
  try dsimp only
  repeat' first | exact Eq.refl true | with_reducible (first
    | exact Moves.refl _ _ | assumption | apply Moves.step (moves_set ..) | refine Moves.foldl (fun _ _ => ?_) ?_
    | refine Moves.foldlFst (fun _ _ => ?_) ?_)

theorem moves_execAvsRequestDone (s : State) : ∃ nx : State, execAvsRequestDone s = .next nx ∧ Moves [.files, .pace] s nx := by
  unfold execAvsRequestDone
  refine ⟨_, rfl, ?_⟩
  try dsimp only
  repeat' first | exact Eq.refl true | with_reducible (first
    | exact Moves.refl _ _ | assumption | apply Moves.step (moves_setFlag ..) | apply Moves.step (moves_set ..)
    | (refine Moves.upd rfl rfl rfl rfl ?_; first | exact Moves.refl _ _ | assumption | apply Moves.step (moves_setFlag ..) | apply Moves.step (moves_set ..) | split)
    | split)

theorem moves_execAvsTimeout (t : Tai) (s : State) : ∃ nx : State, execAvsTimeout t s = .next nx ∧ Moves [.files, .out, .time, .evr, .pace] s nx := by
  unfold execAvsTimeout
  refine ⟨_, rfl, ?_⟩
  try dsimp only
  repeat' first | exact Eq.refl true | with_reducible (first
    | exact Moves.refl _ _ | assumption | apply Moves.step (moves_moveTo ..) | apply Moves.step (moves_paceIrq ..)
    | apply Moves.step (moves_log ..) | apply Moves.step (moves_setFlag ..) | refine Moves.ite ?_ ?_
    | (refine Moves.upd rfl rfl rfl rfl ?_; first | exact Moves.refl _ _ | assumption | apply Moves.step (moves_moveTo ..) | apply Moves.step (moves_paceIrq ..) | apply Moves.step (moves_log ..) | apply Moves.step (moves_setFlag ..) | refine Moves.ite ?_ ?_ | split)
    | split)

theorem moves_execBar0LongWrite (who : Requester) (addr : Nat) (words : Nat) (s : State) : ∃ nx : State, execBar0LongWrite who addr words s = .next nx ∧ Moves [.files, .out] s nx := by
  unfold execBar0LongWrite
  refine ⟨_, rfl, ?_⟩
  try dsimp only
  repeat' first | exact Eq.refl true | with_reducible (first
    | exact Moves.refl _ _ | assumption | apply Moves.step (moves_hifErr ..) | refine Moves.ite ?_ ?_)

theorem moves_execBar2Write (who : Requester) (s : State) : ∃ nx : State, execBar2Write who s = .next nx ∧ Moves [.files, .free, .out] s nx := by
  unfold execBar2Write
  refine ⟨_, rfl, ?_⟩
  try dsimp only
  repeat' first | exact Eq.refl true | with_reducible (first
    | exact Moves.refl _ _ | assumption | apply Moves.step (moves_tookFree ..) | apply Moves.step (moves_hifErr ..)
    | refine Moves.ite ?_ ?_)

theorem moves_execBillingBoundary (t : Tai) (s : State) : ∃ nx : State, execBillingBoundary t s = .next nx ∧ Moves [.files, .out, .time, .keys, .evr, .nvs, .nrg] s nx := by
  unfold execBillingBoundary
  refine ⟨_, rfl, ?_⟩
  try dsimp only
  repeat' first | exact Eq.refl true | with_reducible (first
    | exact Moves.refl _ _ | assumption | apply Moves.step (moves_moveTo ..) | apply Moves.step (moves_passBound ..)
    | refine Moves.ite ?_ ?_)

theorem moves_execBlockShutdownComplete (b : Block) (bufs : List Nat) (s : State) : ∃ nx : State, execBlockShutdownComplete b bufs s = .next nx ∧ Moves [.files, .free, .out, .pins, .keys, .evr, .nvs, .sch, .ports, .flt, .aln, .lse, .osc, .nrg, .alm, .cas] s nx := by
  unfold execBlockShutdownComplete
  refine ⟨_, rfl, ?_⟩
  try dsimp only
  repeat' first | exact Eq.refl true | with_reducible (first
    | exact Moves.refl _ _ | assumption | apply Moves.step (moves_enQuiesced ..) | apply Moves.step (moves_blockStopped ..)
    | apply Moves.step (moves_blockStart ..) | refine Moves.ite ?_ ?_ | refine Moves.iteFst ?_ ?_)

theorem moves_execCalendarRangeEnd (ticks : Nat) (s : State) : ∃ nx : State, execCalendarRangeEnd ticks s = .next nx ∧ Moves [.files, .out, .pins, .evr, .backup] s nx := by
  unfold execCalendarRangeEnd
  refine ⟨_, rfl, ?_⟩
  try dsimp only
  repeat' first | exact Eq.refl true | with_reducible (first
    | exact Moves.refl _ _ | assumption | apply Moves.step (moves_calTicks ..))

theorem moves_execCapArm (who : Requester) (mask : Nat) (s : State) : ∃ nx : State, execCapArm who mask s = .next nx ∧ Moves [.files, .out, .cap, .cas] s nx := by
  unfold execCapArm
  refine ⟨_, rfl, ?_⟩
  try dsimp only
  repeat' first | exact Eq.refl true | with_reducible (first
    | exact Moves.refl _ _ | assumption | apply Moves.step (moves_armCmd ..))

theorem moves_execCapDisarm (who : Requester) (mask : Nat) (s : State) : ∃ nx : State, execCapDisarm who mask s = .next nx ∧ Moves [.files, .out, .cap, .cas] s nx := by
  unfold execCapDisarm
  refine ⟨_, rfl, ?_⟩
  try dsimp only
  repeat' first | exact Eq.refl true | with_reducible (first
    | exact Moves.refl _ _ | assumption | apply Moves.step (moves_armCmd ..))

theorem moves_execCaptureRecordDone (r : CapReport) (s : State) : ∃ nx : State, execCaptureRecordDone r s = .next nx ∧ Moves [.files, .free, .out, .time, .cap] s nx := by
  unfold execCaptureRecordDone
  refine ⟨_, rfl, ?_⟩
  try dsimp only
  repeat' first | exact Eq.refl true | with_reducible (first
    | exact Moves.refl _ _ | assumption | apply Moves.step (moves_moveTo ..) | apply Moves.step (moves_capLost ..)
    | apply Moves.step (moves_setCap ..) | apply Moves.step (moves_showSlots ..) | apply Moves.step (moves_rearm ..)
    | apply Moves.step (moves_capIrq ..) | refine Moves.foldl (fun _ _ => ?_) ?_ | refine Moves.foldlFst (fun _ _ => ?_) ?_
    | refine Moves.ite ?_ ?_
    | (refine Moves.upd rfl rfl rfl rfl ?_; first | exact Moves.refl _ _ | assumption | apply Moves.step (moves_moveTo ..) | apply Moves.step (moves_capLost ..) | apply Moves.step (moves_setCap ..) | apply Moves.step (moves_showSlots ..) | apply Moves.step (moves_rearm ..) | apply Moves.step (moves_capIrq ..) | refine Moves.foldl (fun _ _ => ?_) ?_ | refine Moves.foldlFst (fun _ _ => ?_) ?_ | refine Moves.ite ?_ ?_ | split)
    | split)

theorem moves_execCaptureSliceEntries (rep : StageReport) (s : State) : ∃ nx : State, execCaptureSliceEntries rep s = .next nx ∧ Moves [.files, .locks, .out, .pins, .cfg, .roasts, .time, .keys, .evr, .nvs, .pace, .ing, .flt, .aln, .runs, .isl, .lse, .osc, .sau, .cap, .nrg, .cas] s nx := by
  unfold execCaptureSliceEntries
  refine ⟨_, rfl, ?_⟩
  try dsimp only
  repeat' first | exact Eq.refl true | with_reducible (first
    | exact Moves.refl _ _ | assumption | apply moves_stageAt | apply Moves.step (moves_captureStage ..) | intro _)

theorem moves_execCarafeEccError (place : CarafePlace) (row : Nat) (uncorrectable : Bool) (s : State) : ∃ nx : State, execCarafeEccError place row uncorrectable s = .next nx ∧ Moves [.files, .out, .pins, .roasts, .evr, .pace, .aln, .cap] s nx := by
  unfold execCarafeEccError
  refine ⟨_, rfl, ?_⟩
  try dsimp only
  repeat' first | exact Eq.refl true | with_reducible (first
    | exact Moves.refl _ _ | assumption | apply Moves.step (moves_irq ..) | apply Moves.step (moves_log ..)
    | apply Moves.step (moves_count ..) | apply Moves.step (moves_remapRow ..) | apply Moves.step (moves_lostRead ..)
    | refine Moves.ite ?_ ?_ | refine Moves.upd rfl rfl rfl rfl ?_)

theorem moves_execCasPpsDrive (t : Tai) (s : State) : ∃ nx : State, execCasPpsDrive t s = .next nx ∧ Moves [.pins, .time] s nx := by
  unfold execCasPpsDrive
  refine ⟨_, rfl, ?_⟩
  try dsimp only
  repeat' first | exact Eq.refl true | with_reducible (first
    | exact Moves.refl _ _ | assumption | apply Moves.step (moves_moveTo ..) | refine Moves.ite ?_ ?_
    | refine Moves.upd rfl rfl rfl rfl ?_)

theorem moves_execCasPpsDriveEnd (s : State) : ∃ nx : State, execCasPpsDriveEnd s = .next nx ∧ Moves [.pins] s nx := by
  unfold execCasPpsDriveEnd
  refine ⟨_, rfl, ?_⟩
  try dsimp only
  repeat' first | exact Eq.refl true | with_reducible (first
    | exact Moves.refl _ _ | assumption | refine Moves.upd rfl rfl rfl rfl ?_)

theorem moves_execCasPpsEdge (stamp : TdcStamp) (s : State) : ∃ nx : State, execCasPpsEdge stamp s = .next nx ∧ Moves [.files, .out, .time, .cas] s nx := by
  unfold execCasPpsEdge
  refine ⟨_, rfl, ?_⟩
  try dsimp only
  repeat' first | exact Eq.refl true | with_reducible (first
    | exact Moves.refl _ _ | assumption | apply Moves.step (moves_moveTo ..) | apply Moves.step (moves_setInt ..)
    | apply Moves.step (moves_setFlag ..) | apply Moves.step (moves_casIrq ..) | refine Moves.ite ?_ ?_
    | refine Moves.upd rfl rfl rfl rfl ?_)

theorem moves_execCasPpsMiss (t : Tai) (s : State) : ∃ nx : State, execCasPpsMiss t s = .next nx ∧ Moves [.files, .time, .cas] s nx := by
  unfold execCasPpsMiss
  refine ⟨_, rfl, ?_⟩
  try dsimp only
  repeat' first | exact Eq.refl true | with_reducible (first
    | exact Moves.refl _ _ | assumption | apply Moves.step (moves_moveTo ..) | apply Moves.step (moves_count ..)
    | refine Moves.ite ?_ ?_ | refine Moves.upd rfl rfl rfl rfl ?_)

theorem moves_execCicOutput (l : Nat) (bits : List Bool) (edge : Tai) (s : State) : ∃ nx : State, execCicOutput l bits edge s = .next nx ∧ Moves [.files, .out, .time, .flt] s nx := by
  unfold execCicOutput
  refine ⟨_, rfl, ?_⟩
  try dsimp only
  repeat' first | exact Eq.refl true | with_reducible (first
    | exact Moves.refl _ _ | assumption | apply Moves.step (moves_cicOutput ..) | apply Moves.step (moves_moveTo ..)
    | refine Moves.ite ?_ ?_ | split)

theorem moves_execCoreCacheError (p : Nat) (uncorrectable : Bool) (s : State) : ∃ nx : State, execCoreCacheError p uncorrectable s = .next nx ∧ Moves [.files, .out, .pace, .sch] s nx := by
  unfold execCoreCacheError
  refine ⟨_, rfl, ?_⟩
  try dsimp only
  repeat' first | exact Eq.refl true | with_reducible (first
    | exact Moves.refl _ _ | assumption | apply Moves.step (moves_paceIrq ..) | apply Moves.step (moves_migrate ..)
    | refine Moves.ite ?_ ?_
    | (refine Moves.upd rfl rfl rfl rfl ?_; first | exact Moves.refl _ _ | assumption | apply Moves.step (moves_paceIrq ..) | apply Moves.step (moves_migrate ..) | refine Moves.ite ?_ ?_ | split)
    | split)

theorem moves_execCrcScanComplete (s : State) : ∃ nx : State, execCrcScanComplete s = .next nx ∧ Moves [.files, .out, .pins, .cfg, .evr] s nx := by
  unfold execCrcScanComplete
  refine ⟨_, rfl, ?_⟩
  try dsimp only
  repeat' first | exact Eq.refl true | with_reducible (first
    | exact Moves.refl _ _ | assumption | apply Moves.step (moves_set ..) | apply Moves.step (moves_dropScan ..)
    | apply Moves.step (moves_setFlag ..) | apply Moves.step (moves_crcCompare ..) | refine Moves.ite ?_ ?_ | split)

theorem moves_execCrcScanStart (s : State) : ∃ nx : State, execCrcScanStart s = .next nx ∧ Moves [.cfg] s nx := by
  unfold execCrcScanStart
  refine ⟨_, rfl, ?_⟩
  try dsimp only
  repeat' first | exact Eq.refl true | with_reducible (first
    | exact Moves.refl _ _ | assumption | refine Moves.upd rfl rfl rfl rfl ?_)

theorem moves_execCrcSuspendTimeout (s : State) : ∃ nx : State, execCrcSuspendTimeout s = .next nx ∧ Moves [.files, .out, .cfg, .evr] s nx := by
  unfold execCrcSuspendTimeout
  refine ⟨_, rfl, ?_⟩
  try dsimp only
  repeat' first | exact Eq.refl true | with_reducible (first
    | exact Moves.refl _ _ | assumption | apply Moves.step (moves_log ..) | apply Moves.step (moves_setSuspend ..)
    | refine Moves.ite ?_ ?_)

theorem moves_execCrystalEdgesResume (s : State) : ∃ nx : State, execCrystalEdgesResume s = .next nx ∧ Moves [.env] s nx := by
  unfold execCrystalEdgesResume
  refine ⟨_, rfl, ?_⟩
  try dsimp only
  repeat' first | exact Eq.refl true | with_reducible (first
    | exact Moves.refl _ _ | assumption | refine Moves.upd rfl rfl rfl rfl ?_)

theorem moves_execCustodyRecordLatch (who : Requester) (s : State) : ∃ nx : State, execCustodyRecordLatch who s = .next nx ∧ Moves [.files] s nx := by
  unfold execCustodyRecordLatch
  refine ⟨_, rfl, ?_⟩
  try dsimp only
  repeat' first | exact Eq.refl true | with_reducible (first
    | exact Moves.refl _ _ | assumption | apply Moves.step (moves_set ..) | refine Moves.foldl (fun _ _ => ?_) ?_
    | refine Moves.foldlFst (fun _ _ => ?_) ?_)

theorem moves_execDebugReq (who : Requester) (s : State) : ∃ nx : State, execDebugReq who s = .next nx ∧ Moves [.files, .out, .keys] s nx := by
  unfold execDebugReq
  refine ⟨_, rfl, ?_⟩
  try dsimp only
  repeat' first | exact Eq.refl true | with_reducible (first
    | exact Moves.refl _ _ | assumption | apply Moves.step (moves_keyStart ..))

theorem moves_execDemandSubintervalEnd (t : Tai) (s : State) : ∃ nx : State, execDemandSubintervalEnd t s = .next nx ∧ Moves [.files, .out, .time, .evr, .nrg] s nx := by
  unfold execDemandSubintervalEnd
  refine ⟨_, rfl, ?_⟩
  try dsimp only
  repeat' first | exact Eq.refl true | with_reducible (first
    | exact Moves.refl _ _ | assumption | apply Moves.step (moves_moveTo ..) | apply Moves.step (moves_passDemand ..)
    | refine Moves.ite ?_ ?_)

theorem moves_execDuplicateEntryExpiry (t : Tai) (s : State) : ∃ nx : State, execDuplicateEntryExpiry t s = .next nx ∧ Moves [.time, .ports] s nx := by
  unfold execDuplicateEntryExpiry
  refine ⟨_, rfl, ?_⟩
  try dsimp only
  repeat' first | exact Eq.refl true | with_reducible (first
    | exact Moves.refl _ _ | assumption | apply Moves.step (moves_moveTo ..) | refine Moves.upd rfl rfl rfl rfl ?_)

theorem moves_execErase (who : Requester) (slot : Nat) (s : State) : ∃ nx : State, execErase who slot s = .next nx ∧ Moves [.files, .out, .keys] s nx := by
  unfold execErase
  refine ⟨_, rfl, ?_⟩
  try dsimp only
  repeat' first | exact Eq.refl true | with_reducible (first
    | exact Moves.refl _ _ | assumption | apply Moves.step (moves_keyStart ..))

theorem moves_execEvrCkptLatch (who : Requester) (s : State) : ∃ nx : State, execEvrCkptLatch who s = .next nx ∧ Moves [.files] s nx := by
  unfold execEvrCkptLatch
  refine ⟨_, rfl, ?_⟩
  try dsimp only
  repeat' first | exact Eq.refl true | with_reducible (first
    | exact Moves.refl _ _ | assumption | apply Moves.step (moves_latchWords ..) | split)

theorem moves_execEvrWindowLatch (who : Requester) (through : Bool) (s : State) : ∃ nx : State, execEvrWindowLatch who through s = .next nx ∧ Moves [.files] s nx := by
  unfold execEvrWindowLatch
  refine ⟨_, rfl, ?_⟩
  try dsimp only
  repeat' first | exact Eq.refl true | with_reducible (first
    | exact Moves.refl _ _ | assumption | apply Moves.step (moves_latchWords ..) | apply Moves.step (moves_set ..)
    | refine Moves.ite ?_ ?_)

theorem moves_execFabricWatchdog (t : Tai) (s : State) : ∃ nx : State, execFabricWatchdog t s = .next nx ∧ Moves [.files, .locks, .free, .out, .pins, .cfg, .roasts, .time, .keys, .evr, .nvs, .pace, .ing, .flt, .aln, .runs, .isl, .lse, .osc, .sau, .cap, .nrg, .cas] s nx := by
  unfold execFabricWatchdog
  refine ⟨_, rfl, ?_⟩
  try dsimp only
  repeat' first | exact Eq.refl true | with_reducible (first
    | exact Moves.refl _ _ | assumption | apply moves_atInstant | apply Moves.step (moves_showOpen ..)
    | apply Moves.step (moves_setSlice ..) | apply Moves.step (moves_watchdogs ..) | refine Moves.foldl (fun _ _ => ?_) ?_
    | refine Moves.foldlFst (fun _ _ => ?_) ?_ | refine Moves.ite ?_ ?_ | intro _ | split)

theorem moves_execFadeEnd (g : Option Nat) (s : State) : ∃ nx : State, execFadeEnd g s = .next nx ∧ Moves [.files, .out, .flt] s nx := by
  unfold execFadeEnd
  refine ⟨_, rfl, ?_⟩
  try dsimp only
  repeat' first | exact Eq.refl true | with_reducible (first
    | exact Moves.refl _ _ | assumption | apply Moves.step (moves_firEnd ..) | apply Moves.step (moves_kernEnd ..) | split)

theorem moves_execFirstBackupPower (s : State) : ∃ nx : State, execFirstBackupPower s = .next nx ∧ Moves [.files, .ledger, .pins, .backup] s nx := by
  refine ⟨_, rfl, ⟨rfl, fun p hp => by cases p <;> first | exact rfl | exact absurd hp (by decide)⟩, fun h => ?_⟩
  simp only [State.filesOk, Bool.and_eq_true] at h ⊢
  refine ⟨⟨h.1.1, ?_⟩, h.2⟩
  exact RegFile.rising_foldl (fun _ _ => RegFile.rising_set) (RegFile.rising_set (RegFile.rising_set rfl))

theorem moves_execFlashCmdDone (r : FlashReport) (s : State) : ∃ nx : State, execFlashCmdDone r s = .next nx ∧ Moves [.files, .boot] s nx := by
  unfold execFlashCmdDone
  refine ⟨_, rfl, ?_⟩
  try dsimp only
  repeat' first | exact Eq.refl true | with_reducible (first
    | exact Moves.refl _ _ | assumption | apply Moves.step (moves_set ..) | apply Moves.step (moves_setFlag ..)
    | refine Moves.ite ?_ ?_
    | (refine Moves.upd rfl rfl rfl rfl ?_; first | exact Moves.refl _ _ | assumption | apply Moves.step (moves_set ..) | apply Moves.step (moves_setFlag ..) | refine Moves.ite ?_ ?_ | split)
    | split)

theorem moves_execFlashSectionReread (d : LoadReport) (s : State) : ∃ nx : State, execFlashSectionReread d s = .next nx ∧ Moves [.files, .out, .pins, .roasts] s nx := by
  unfold execFlashSectionReread
  refine ⟨_, rfl, ?_⟩
  try dsimp only
  repeat' first | exact Eq.refl true | with_reducible (first
    | exact Moves.refl _ _ | assumption | refine Moves.getD (fun nx hx => Moves.step (moves_repairFrom _ _ _ _ nx hx) ?_ ?_) ?_
    | refine Moves.ite ?_ ?_ | split)

theorem moves_execFlowPost (who : Requester) (f : Nat) (s : State) : ∃ nx : State, execFlowPost who f s = .next nx ∧ Moves [.files, .sch] s nx := by
  unfold execFlowPost
  refine ⟨_, rfl, ?_⟩
  try dsimp only
  repeat' first | exact Eq.refl true | with_reducible (first
    | exact Moves.refl _ _ | assumption | apply Moves.step (moves_setFlag ..) | apply Moves.step (moves_set ..)
    | apply Moves.step (moves_post ..) | apply Moves.step (Moves.fst (by assumption) (moves_post ..))
    | apply Moves.step (moves_count ..) | refine Moves.ite ?_ ?_ | refine Moves.iteFst ?_ ?_ | split)

theorem moves_execFlowStallExpiry (f : Nat) (t : Tai) (s : State) : ∃ nx : State, execFlowStallExpiry f t s = .next nx ∧ Moves [.files, .out, .time, .sch] s nx := by
  unfold execFlowStallExpiry
  refine ⟨_, rfl, ?_⟩
  try dsimp only
  repeat' first | exact Eq.refl true | with_reducible (first
    | exact Moves.refl _ _ | assumption | apply Moves.step (moves_moveTo ..) | apply Moves.step (moves_release ..)
    | apply Moves.step (moves_releaseItem ..) | apply Moves.step (moves_setFlow ..) | refine Moves.ite ?_ ?_ | split)

theorem moves_execFlowTake (who : Requester) (f : Nat) (s : State) : ∃ nx : State, execFlowTake who f s = .next nx ∧ Moves [.files, .sch] s nx := by
  unfold execFlowTake
  refine ⟨_, rfl, ?_⟩
  try dsimp only
  repeat' first | exact Eq.refl true | with_reducible (first
    | exact Moves.refl _ _ | assumption | apply Moves.step (moves_set ..) | apply Moves.step (moves_setFlow ..)
    | refine Moves.ite ?_ ?_ | split)

theorem moves_execFrameReceive (p : Nat) (f : RxFrame) (s : State) : ∃ nx : State, execFrameReceive p f s = .next nx ∧ Moves [.files, .free, .out, .time, .sch, .ports] s nx := by
  unfold execFrameReceive
  refine ⟨_, rfl, ?_⟩
  try dsimp only
  repeat' first | exact Eq.refl true | with_reducible (first
    | exact Moves.refl _ _ | assumption | apply Moves.step (moves_moveTo ..) | apply Moves.step (moves_fecCount ..)
    | apply Moves.step (moves_emit ..) | apply Moves.step (moves_set ..) | apply Moves.step (moves_rxFrame ..)
    | refine Moves.ite ?_ ?_ | split)

theorem moves_execFreezeTimeout (s : State) : ∃ nx : State, execFreezeTimeout s = .next nx ∧ Moves [.files, .out, .evr] s nx := by
  unfold execFreezeTimeout
  refine ⟨_, rfl, ?_⟩
  try dsimp only
  repeat' first | exact Eq.refl true | with_reducible (first
    | exact Moves.refl _ _ | assumption | apply Moves.step (moves_logRelease ..) | apply Moves.step (moves_setFlag ..)
    | apply Moves.step (moves_irq ..) | apply Moves.step (moves_logOwn ..) | refine Moves.ite ?_ ?_
    | refine Moves.upd rfl rfl rfl rfl ?_)

theorem moves_execFwLiveStage (who : Requester) (im : FwImage) (flashErr : Bool) (s : State) : ∃ nx : State, execFwLiveStage who im flashErr s = .next nx ∧ Moves [.files, .out, .fw] s nx := by
  unfold execFwLiveStage
  refine ⟨_, rfl, ?_⟩
  try dsimp only
  repeat' first | exact Eq.refl true | with_reducible (first
    | exact Moves.refl _ _ | assumption | apply moves_guarded | apply Moves.step (moves_set ..) | refine Moves.ite ?_ ?_ | intro _
    | refine Moves.upd rfl rfl rfl rfl ?_)

theorem moves_execGetwork (p : Nat) (s : State) : ∃ nx : State, execGetwork p s = .next nx ∧ Moves [.files, .sch] s nx := by
  unfold execGetwork
  refine ⟨_, rfl, ?_⟩
  try dsimp only
  repeat' first | exact Eq.refl true | with_reducible (first
    | exact Moves.refl _ _ | assumption | apply Moves.step (moves_answerWork ..) | apply Moves.step (moves_handOut ..)
    | apply Moves.step (moves_setCore ..) | refine Moves.ite ?_ ?_ | split)

theorem moves_execGetworkIdleTimeout (p : Nat) (t : Tai) (s : State) : ∃ nx : State, execGetworkIdleTimeout p t s = .next nx ∧ Moves [.files, .time, .sch] s nx := by
  unfold execGetworkIdleTimeout
  refine ⟨_, rfl, ?_⟩
  try dsimp only
  repeat' first | exact Eq.refl true | with_reducible (first
    | exact Moves.refl _ _ | assumption | apply Moves.step (moves_moveTo ..) | apply Moves.step (moves_setCore ..)
    | apply Moves.step (moves_answerWork ..) | refine Moves.ite ?_ ?_ | split)

theorem moves_execGooseStale (t : Tai) (s : State) : ∃ nx : State, execGooseStale t s = .next nx ∧ Moves [.files, .locks, .out, .pins, .cfg, .roasts, .time, .keys, .evr, .nvs, .pace, .ing, .flt, .aln, .runs, .isl, .lse, .osc, .sau, .cap, .nrg, .cas] s nx := by
  unfold execGooseStale
  refine ⟨_, rfl, ?_⟩
  try dsimp only
  repeat' first | exact Eq.refl true | with_reducible (first
    | exact Moves.refl _ _ | assumption | apply moves_atInstant | apply Moves.step (moves_eachPoint ..)
    | refine Moves.foldl (fun _ _ => ?_) ?_ | refine Moves.foldlFst (fun _ _ => ?_) ?_ | refine Moves.ite ?_ ?_ | intro _
    | (refine Moves.upd rfl rfl rfl rfl ?_; first | exact Moves.refl _ _ | assumption | apply moves_atInstant | apply Moves.step (moves_eachPoint ..) | refine Moves.foldl (fun _ _ => ?_) ?_ | refine Moves.foldlFst (fun _ _ => ?_) ?_ | refine Moves.ite ?_ ?_ | split)
    | split)

theorem moves_execHeartbeatHalfExpiry (s : State) : ∃ nx : State, execHeartbeatHalfExpiry s = .next nx ∧ Moves [.files, .pins] s nx := by
  unfold execHeartbeatHalfExpiry
  refine ⟨_, rfl, ?_⟩
  try dsimp only
  repeat' first | exact Eq.refl true | with_reducible (first
    | exact Moves.refl _ _ | assumption | apply Moves.step (moves_health ..) | refine Moves.ite ?_ ?_)

theorem moves_execHistoryWrite (rep : StageReport) (s : State) : ∃ nx : State, execHistoryWrite rep s = .next nx ∧ Moves [.files, .locks, .out, .pins, .cfg, .roasts, .time, .keys, .evr, .nvs, .pace, .ing, .flt, .aln, .runs, .isl, .lse, .osc, .sau, .cap, .nrg, .cas] s nx := by
  unfold execHistoryWrite
  refine ⟨_, rfl, ?_⟩
  try dsimp only
  repeat' first | exact Eq.refl true | with_reducible (first
    | exact Moves.refl _ _ | assumption | apply moves_stageAt | apply Moves.step (moves_stageEnd ..)
    | apply Moves.step (moves_takePosition ..) | intro _)

theorem moves_execIntervalRestartDecision (t : Tai) (s : State) : ∃ nx : State, execIntervalRestartDecision t s = .next nx ∧ Moves [.files, .out, .time, .keys, .evr, .nvs, .nrg] s nx := by
  unfold execIntervalRestartDecision
  refine ⟨_, rfl, ?_⟩
  try dsimp only
  repeat' first | exact Eq.refl true | with_reducible (first
    | exact Moves.refl _ _ | assumption | apply Moves.step (moves_moveTo ..) | apply Moves.step (moves_nrgDecide ..)
    | refine Moves.ite ?_ ?_)

theorem moves_execInvalidate (who : Requester) (slot : Nat) (gen : Nat) (s : State) : ∃ nx : State, execInvalidate who slot gen s = .next nx ∧ Moves [.files, .out, .keys] s nx := by
  unfold execInvalidate
  refine ⟨_, rfl, ?_⟩
  try dsimp only
  repeat' first | exact Eq.refl true | with_reducible (first
    | exact Moves.refl _ _ | assumption | apply Moves.step (moves_keyStart ..))

theorem moves_execIrigBFrame (f : IrigFrame) (s : State) : ∃ nx : State, execIrigBFrame f s = .next nx ∧ Moves [.files, .pins, .time] s nx := by
  unfold execIrigBFrame
  refine ⟨_, rfl, ?_⟩
  try dsimp only
  repeat' first | exact Eq.refl true | with_reducible (first
    | exact Moves.refl _ _ | assumption | apply Moves.step (moves_moveTo ..) | apply Moves.step (moves_setRefHist ..)
    | apply Moves.step (moves_refSample ..) | apply Moves.step (moves_setPending ..) | refine Moves.ite ?_ ?_ | split)

theorem moves_execIslItemLatch (who : Requester) (item : IslItem) (s : State) : ∃ nx : State, execIslItemLatch who item s = .next nx ∧ Moves [.files] s nx := by
  unfold execIslItemLatch
  refine ⟨_, rfl, ?_⟩
  try dsimp only
  repeat' first | exact Eq.refl true | with_reducible (first
    | exact Moves.refl _ _ | assumption | apply Moves.step (moves_set ..) | refine Moves.foldl (fun _ _ => ?_) ?_
    | refine Moves.foldlFst (fun _ _ => ?_) ?_ | split)

theorem moves_execIslandEngine (rep : StageReport) (s : State) : ∃ nx : State, execIslandEngine rep s = .next nx ∧ Moves [.files, .locks, .out, .pins, .cfg, .roasts, .time, .keys, .evr, .nvs, .pace, .ing, .flt, .aln, .runs, .isl, .lse, .osc, .sau, .cap, .nrg, .cas] s nx := by
  unfold execIslandEngine
  refine ⟨_, rfl, ?_⟩
  try dsimp only
  repeat' first | exact Eq.refl true | with_reducible (first
    | exact Moves.refl _ _ | assumption | apply moves_stageAt | apply Moves.step (moves_islandStage ..) | intro _)

theorem moves_execJunctionTemperatureChange (temp : Int) (s : State) : ∃ nx : State, execJunctionTemperatureChange temp s = .next nx ∧ Moves [.files, .pins, .env, .pace] s nx := by
  unfold execJunctionTemperatureChange
  refine ⟨_, rfl, ?_⟩
  try dsimp only
  repeat' first | exact Eq.refl true | with_reducible (first
    | exact Moves.refl _ _ | assumption | apply Moves.step (moves_health ..) | refine Moves.ite ?_ ?_
    | refine Moves.upd rfl rfl rfl rfl ?_)

theorem moves_execKeyAttest (who : Requester) (s : State) : ∃ nx : State, execKeyAttest who s = .next nx ∧ Moves [.files, .out, .keys] s nx := by
  unfold execKeyAttest
  refine ⟨_, rfl, ?_⟩
  try dsimp only
  repeat' first | exact Eq.refl true | with_reducible (first
    | exact Moves.refl _ _ | assumption | apply Moves.step (moves_keyStart ..))

theorem moves_execKeyCommandDone (readback : Bool) (s : State) : ∃ nx : State, execKeyCommandDone readback s = .next nx ∧ Moves [.files, .free, .out, .keys, .nvs] s nx := by
  unfold execKeyCommandDone
  refine ⟨_, rfl, ?_⟩
  try dsimp only
  repeat' first | exact Eq.refl true | with_reducible (first
    | exact Moves.refl _ _ | assumption | apply Moves.step (moves_refreshShares ..) | apply Moves.step (moves_keyDeriveDone ..)
    | apply Moves.step (moves_keySignDone ..) | apply Moves.step (moves_keyVerifyDone ..) | apply Moves.step (moves_keyPubDone ..)
    | apply Moves.step (moves_keyAttestDone ..) | apply Moves.step (moves_keyEnd ..) | apply Moves.step (moves_dropSlot ..)
    | apply Moves.step (moves_keyInvalidateDone ..) | apply Moves.step (moves_keyProvisionDone ..)
    | apply Moves.step (moves_keyDebugDone ..) | apply Moves.step (moves_keyTamperCfgDone ..) | refine Moves.ite ?_ ?_ | split)

theorem moves_execKeyDerive (who : Requester) (slot : Nat) (parent : Nat) (gen : Nat) (s : State) : ∃ nx : State, execKeyDerive who slot parent gen s = .next nx ∧ Moves [.files, .out, .keys] s nx := by
  unfold execKeyDerive
  refine ⟨_, rfl, ?_⟩
  try dsimp only
  repeat' first | exact Eq.refl true | with_reducible (first
    | exact Moves.refl _ _ | assumption | apply Moves.step (moves_keyStart ..))

theorem moves_execKeyShareRefresh (s : State) : ∃ nx : State, execKeyShareRefresh s = .next nx ∧ Moves [.free, .keys] s nx := by
  unfold execKeyShareRefresh
  refine ⟨_, rfl, ?_⟩
  try dsimp only
  repeat' first | exact Eq.refl true | with_reducible (first
    | exact Moves.refl _ _ | assumption | apply Moves.step (moves_refreshShares ..))

theorem moves_execKeySign (who : Requester) (slot : Nat) (s : State) : ∃ nx : State, execKeySign who slot s = .next nx ∧ Moves [.files, .out, .keys] s nx := by
  unfold execKeySign
  refine ⟨_, rfl, ?_⟩
  try dsimp only
  repeat' first | exact Eq.refl true | with_reducible (first
    | exact Moves.refl _ _ | assumption | apply Moves.step (moves_keyStart ..))

theorem moves_execKeyVerify (who : Requester) (s : State) : ∃ nx : State, execKeyVerify who s = .next nx ∧ Moves [.files, .out, .keys] s nx := by
  unfold execKeyVerify
  refine ⟨_, rfl, ?_⟩
  try dsimp only
  repeat' first | exact Eq.refl true | with_reducible (first
    | exact Moves.refl _ _ | assumption | apply Moves.step (moves_keyStart ..))

theorem moves_execLaneLoss (east : Bool) (s : State) : ∃ nx : State, execLaneLoss east s = .next nx ∧ Moves [.files, .out, .evr] s nx := by
  unfold execLaneLoss
  refine ⟨_, rfl, ?_⟩
  try dsimp only
  repeat' first | exact Eq.refl true | with_reducible (first
    | exact Moves.refl _ _ | assumption | apply Moves.step (moves_setLanes ..) | apply Moves.step (moves_wrap ..)
    | refine Moves.ite ?_ ?_)

theorem moves_execLaneRetrainDone (east : Bool) (lanes : Nat) (s : State) : ∃ nx : State, execLaneRetrainDone east lanes s = .next nx ∧ Moves [.files, .out, .evr] s nx := by
  unfold execLaneRetrainDone
  refine ⟨_, rfl, ?_⟩
  try dsimp only
  repeat' first | exact Eq.refl true | with_reducible (first
    | exact Moves.refl _ _ | assumption | apply Moves.step (moves_setLanes ..) | refine Moves.ite ?_ ?_)

theorem moves_execLeapSecond (t : Tai) (s : State) : ∃ nx : State, execLeapSecond t s = .next nx ∧ Moves [.files, .out, .time, .backup] s nx := by
  unfold execLeapSecond
  refine ⟨_, rfl, ?_⟩
  try dsimp only
  repeat' first | exact Eq.refl true | with_reducible (first
    | exact Moves.refl _ _ | assumption | apply Moves.step (moves_moveTo ..) | apply Moves.step (moves_leapApply ..)
    | refine Moves.ite ?_ ?_ | split)

theorem moves_execLedgerStepComplete (r : StepReport) (s : State) : ∃ nx : State, execLedgerStepComplete r s = .next nx ∧ Moves [.files, .locks, .free, .out, .boot, .ledger, .fw, .pins, .env, .host, .cfg, .roasts, .time, .keys, .fuses, .evr, .nvs, .backup, .pace, .sch, .ports, .ing, .flt, .aln, .runs, .isl, .lse, .osc, .sau, .cap, .nrg, .alm, .cas] s nx := by
  unfold execLedgerStepComplete
  refine ⟨_, rfl, ?_⟩
  try dsimp only
  repeat' first | exact Eq.refl true | with_reducible (first
    | exact Moves.refl _ _ | assumption | apply Moves.step (moves_stepDone ..) | refine Moves.ite ?_ ?_)

theorem moves_execLedgerStepTimeout (s : State) : ∃ nx : State, execLedgerStepTimeout s = .next nx ∧ Moves [.files, .locks, .free, .out, .boot, .ledger, .fw, .pins, .env, .host, .cfg, .roasts, .time, .keys, .evr, .nvs, .backup, .pace, .sch, .ports, .ing, .flt, .aln, .runs, .isl, .lse, .osc, .sau, .cap, .nrg, .alm, .cas] s nx := by
  unfold execLedgerStepTimeout
  refine ⟨_, rfl, ?_⟩
  try dsimp only
  repeat' first | exact Eq.refl true | with_reducible (first
    | exact Moves.refl _ _ | assumption | apply Moves.step (moves_failStep ..) | apply moves_passStep
    | apply Moves.step (moves_timeFromCalendar ..) | apply Moves.step (moves_setFlag ..) | apply Moves.step (moves_leaveStep ..)
    | apply Moves.idl | refine Moves.ite ?_ ?_ | intro _)

theorem moves_execLinkStateChange (p : Nat) (l : LinkReport) (s : State) : ∃ nx : State, execLinkStateChange p l s = .next nx ∧ Moves [.files, .free, .out, .sch, .ports] s nx := by
  unfold execLinkStateChange
  refine ⟨_, rfl, ?_⟩
  try dsimp only
  repeat' first | exact Eq.refl true | with_reducible (first
    | exact Moves.refl _ _ | assumption | apply Moves.step (moves_set ..) | apply Moves.step (moves_setFlag ..)
    | apply Moves.step (moves_macIrq ..) | apply Moves.step (moves_flushLink ..) | apply Moves.step (moves_startTx ..)
    | apply Moves.step (moves_verifyStart ..) | refine Moves.ite ?_ ?_)

theorem moves_execLogClearComplete (s : State) : ∃ nx : State, execLogClearComplete s = .next nx ∧ Moves [.files, .out, .evr, .nvs] s nx := by
  unfold execLogClearComplete
  refine ⟨_, rfl, ?_⟩
  try dsimp only
  repeat' first | exact Eq.refl true | with_reducible (first
    | exact Moves.refl _ _ | assumption | apply Moves.step (moves_count ..) | apply Moves.step (moves_writeRecord ..)
    | apply Moves.step (moves_logRelease ..) | apply Moves.step (moves_setFlag ..)
    | (refine Moves.upd rfl rfl rfl rfl ?_; first | exact Moves.refl _ _ | assumption | apply Moves.step (moves_count ..) | apply Moves.step (moves_writeRecord ..) | apply Moves.step (moves_logRelease ..) | apply Moves.step (moves_setFlag ..) | split)
    | split)

theorem moves_execLogEntryWrite (s : State) : ∃ nx : State, execLogEntryWrite s = .next nx ∧ Moves [.files, .out, .evr, .nvs] s nx := by
  unfold execLogEntryWrite
  refine ⟨_, rfl, ?_⟩
  try dsimp only
  repeat' first | exact Eq.refl true | with_reducible (first
    | exact Moves.refl _ _ | assumption | apply Moves.step (moves_writeRecord ..) | apply Moves.step (moves_logFills ..)
    | refine Moves.ite ?_ ?_
    | (refine Moves.upd rfl rfl rfl rfl ?_; first | exact Moves.refl _ _ | assumption | apply Moves.step (moves_writeRecord ..) | apply Moves.step (moves_logFills ..) | refine Moves.ite ?_ ?_ | split)
    | split)

theorem moves_execLpiIdleExpiry (s : State) : ∃ nx : State, execLpiIdleExpiry s = .next nx ∧ Moves [.files] s nx := by
  unfold execLpiIdleExpiry
  refine ⟨_, rfl, ?_⟩
  try dsimp only
  repeat' first | exact Eq.refl true | with_reducible (first
    | exact Moves.refl _ _ | assumption | apply Moves.step (moves_count ..) | apply Moves.step (moves_setFlag ..)
    | refine Moves.ite ?_ ?_)

theorem moves_execLpiRxChange (on : Bool) (s : State) : ∃ nx : State, execLpiRxChange on s = .next nx ∧ Moves [.files] s nx := by
  unfold execLpiRxChange
  refine ⟨_, rfl, ?_⟩
  try dsimp only
  repeat' first | exact Eq.refl true | with_reducible (first
    | exact Moves.refl _ _ | assumption | apply Moves.step (moves_setFlag ..) | apply Moves.step (moves_count ..)
    | refine Moves.ite ?_ ?_)

theorem moves_execLseStage (rep : StageReport) (s : State) : ∃ nx : State, execLseStage rep s = .next nx ∧ Moves [.files, .locks, .out, .pins, .cfg, .roasts, .time, .keys, .evr, .nvs, .pace, .ing, .flt, .aln, .runs, .isl, .lse, .osc, .sau, .cap, .nrg, .cas] s nx := by
  unfold execLseStage
  refine ⟨_, rfl, ?_⟩
  try dsimp only
  repeat' first | exact Eq.refl true | with_reducible (first
    | exact Moves.refl _ _ | assumption | apply moves_stageAt | apply Moves.step (moves_lseAndTests ..) | intro _)

theorem moves_execLseSummaryLatch (who : Requester) (s : State) : ∃ nx : State, execLseSummaryLatch who s = .next nx ∧ Moves [.files] s nx := by
  unfold execLseSummaryLatch
  refine ⟨_, rfl, ?_⟩
  try dsimp only
  repeat' first | exact Eq.refl true | with_reducible (first
    | exact Moves.refl _ _ | assumption | apply Moves.step (moves_set ..) | refine Moves.foldl (fun _ _ => ?_) ?_
    | refine Moves.foldlFst (fun _ _ => ?_) ?_ | split)

theorem moves_execMdioC45Address (who : Requester) (phy : Nat) (reg : Nat) (data : Nat) (s : State) : ∃ nx : State, execMdioC45Address who phy reg data s = .next nx ∧ Moves [.files, .out, .ports] s nx := by
  unfold execMdioC45Address
  refine ⟨_, rfl, ?_⟩
  try dsimp only
  repeat' first | exact Eq.refl true | with_reducible (first
    | exact Moves.refl _ _ | assumption | apply Moves.step (moves_mdioGo ..))

theorem moves_execMdioC45Read (who : Requester) (phy : Nat) (reg : Nat) (data : Nat) (s : State) : ∃ nx : State, execMdioC45Read who phy reg data s = .next nx ∧ Moves [.files, .out, .ports] s nx := by
  unfold execMdioC45Read
  refine ⟨_, rfl, ?_⟩
  try dsimp only
  repeat' first | exact Eq.refl true | with_reducible (first
    | exact Moves.refl _ _ | assumption | apply Moves.step (moves_mdioGo ..))

theorem moves_execMdioDone (data : Nat) (s : State) : ∃ nx : State, execMdioDone data s = .next nx ∧ Moves [.files, .ports] s nx := by
  unfold execMdioDone
  refine ⟨_, rfl, ?_⟩
  try dsimp only
  repeat' first | exact Eq.refl true | with_reducible (first
    | exact Moves.refl _ _ | assumption | apply Moves.step (moves_setFlag ..) | apply Moves.step (moves_set ..)
    | refine Moves.ite ?_ ?_
    | (refine Moves.upd rfl rfl rfl rfl ?_; first | exact Moves.refl _ _ | assumption | apply Moves.step (moves_setFlag ..) | apply Moves.step (moves_set ..) | refine Moves.ite ?_ ?_ | split)
    | split)

theorem moves_execMdioRead (who : Requester) (phy : Nat) (reg : Nat) (data : Nat) (s : State) : ∃ nx : State, execMdioRead who phy reg data s = .next nx ∧ Moves [.files, .out, .ports] s nx := by
  unfold execMdioRead
  refine ⟨_, rfl, ?_⟩
  try dsimp only
  repeat' first | exact Eq.refl true | with_reducible (first
    | exact Moves.refl _ _ | assumption | apply Moves.step (moves_mdioGo ..))

theorem moves_execMdioWrite (who : Requester) (phy : Nat) (reg : Nat) (data : Nat) (s : State) : ∃ nx : State, execMdioWrite who phy reg data s = .next nx ∧ Moves [.files, .out, .ports] s nx := by
  unfold execMdioWrite
  refine ⟨_, rfl, ?_⟩
  try dsimp only
  repeat' first | exact Eq.refl true | with_reducible (first
    | exact Moves.refl _ _ | assumption | apply Moves.step (moves_mdioGo ..))

theorem moves_execMeteringCycle (e : Nat) (s : State) : ∃ nx : State, execMeteringCycle e s = .next nx ∧ Moves [.files, .out, .keys, .evr, .nvs, .nrg] s nx := by
  unfold execMeteringCycle
  refine ⟨_, rfl, ?_⟩
  try dsimp only
  repeat' first | exact Eq.refl true | with_reducible (first
    | exact Moves.refl _ _ | assumption | apply Moves.step (moves_passBound ..) | apply Moves.step (moves_passDemand ..)
    | apply Moves.step (moves_doCycle ..) | refine Moves.ite ?_ ?_ | split)

theorem moves_execMigrationForce (s : State) : ∃ nx : State, execMigrationForce s = .next nx ∧ Moves [.files, .out, .evr, .sch] s nx := by
  unfold execMigrationForce
  refine ⟨_, rfl, ?_⟩
  try dsimp only
  repeat' first | exact Eq.refl true | with_reducible (first
    | exact Moves.refl _ _ | assumption | apply Moves.step (moves_count ..) | apply Moves.step (moves_migrated ..)
    | apply Moves.step (moves_irq ..) | apply Moves.step (moves_setTcb ..) | apply Moves.step (moves_log ..)
    | apply Moves.step (moves_objSignal ..) | split)

theorem moves_execNeighbourAbsent (east : Bool) (locked : Bool) (s : State) : ∃ nx : State, execNeighbourAbsent east locked s = .next nx ∧ Moves [.files, .out, .evr] s nx := by
  unfold execNeighbourAbsent
  refine ⟨_, rfl, ?_⟩
  try dsimp only
  repeat' first | exact Eq.refl true | with_reducible (first
    | exact Moves.refl _ _ | assumption | apply Moves.step (moves_wrap ..) | apply Moves.step (moves_setLanes ..)
    | refine Moves.ite ?_ ?_)

theorem moves_execOscResultLatch (who : Requester) (item : OscItem) (s : State) : ∃ nx : State, execOscResultLatch who item s = .next nx ∧ Moves [.files] s nx := by
  unfold execOscResultLatch
  refine ⟨_, rfl, ?_⟩
  try dsimp only
  repeat' first | exact Eq.refl true | with_reducible (first
    | exact Moves.refl _ _ | assumption | apply Moves.step (moves_set ..) | refine Moves.foldl (fun _ _ => ?_) ?_
    | refine Moves.foldlFst (fun _ _ => ?_) ?_)

theorem moves_execOscillationEngine (rep : StageReport) (s : State) : ∃ nx : State, execOscillationEngine rep s = .next nx ∧ Moves [.files, .locks, .out, .pins, .cfg, .roasts, .time, .keys, .evr, .nvs, .pace, .ing, .flt, .aln, .runs, .isl, .lse, .osc, .sau, .cap, .nrg, .cas] s nx := by
  unfold execOscillationEngine
  refine ⟨_, rfl, ?_⟩
  try dsimp only
  repeat' first | exact Eq.refl true | with_reducible (first
    | exact Moves.refl _ _ | assumption | apply moves_stageAt | apply Moves.step (moves_oscStage ..) | intro _)

theorem moves_execOscillatorStop (s : State) : ∃ nx : State, execOscillatorStop s = .next nx ∧ Moves [.files, .out, .env, .evr, .backup] s nx := by
  unfold execOscillatorStop
  refine ⟨_, rfl, ?_⟩
  try dsimp only
  repeat' first | exact Eq.refl true | with_reducible (first
    | exact Moves.refl _ _ | assumption | apply Moves.step (moves_setOsf ..) | apply Moves.step (moves_log ..)
    | apply Moves.step (moves_irq ..) | refine Moves.ite ?_ ?_ | refine Moves.upd rfl rfl rfl rfl ?_)

theorem moves_execOutputHoldExpiry (t : Tai) (s : State) : ∃ nx : State, execOutputHoldExpiry t s = .next nx ∧ Moves [.files, .free, .out, .time, .evr, .sch, .ports, .sau] s nx := by
  unfold execOutputHoldExpiry
  refine ⟨_, rfl, ?_⟩
  try dsimp only
  repeat' first | exact Eq.refl true | with_reducible (first
    | exact Moves.refl _ _ | assumption | apply Moves.step (moves_moveTo ..) | apply Moves.step (moves_offerHeld ..)
    | refine Moves.foldl (fun _ _ => ?_) ?_ | refine Moves.foldlFst (fun _ _ => ?_) ?_)

theorem moves_execOwnerVerifyDone (s : State) : ∃ nx : State, execOwnerVerifyDone s = .next nx ∧ Moves [.files, .free, .host] s nx := by
  unfold execOwnerVerifyDone
  refine ⟨_, rfl, ?_⟩
  try dsimp only
  repeat' first | exact Eq.refl true | with_reducible (first
    | exact Moves.refl _ _ | assumption | apply Moves.step (moves_set ..) | apply Moves.step (moves_drawNonce ..)
    | apply Moves.step (moves_denyClaim ..) | refine Moves.ite ?_ ?_ | split)

theorem moves_execParsePacket (t : Tai) (j : InjFrame) (bufs : List Nat) (s : State) : ∃ nx : State, execParsePacket t j bufs s = .next nx ∧ Moves [.files, .locks, .free, .out, .pins, .cfg, .roasts, .time, .keys, .evr, .nvs, .pace, .sch, .ports, .ing, .flt, .aln, .runs, .isl, .lse, .osc, .sau, .cap, .nrg, .cas] s nx := by
  unfold execParsePacket
  refine ⟨_, rfl, ?_⟩
  try dsimp only
  repeat' first | exact Eq.refl true | with_reducible (first
    | exact Moves.refl _ _ | assumption | apply moves_atInstant | apply Moves.step (moves_parseQueue ..)
    | apply Moves.step (moves_parseInjected ..) | refine Moves.ite ?_ ?_ | intro _
    | (refine Moves.upd rfl rfl rfl rfl ?_; first | exact Moves.refl _ _ | assumption | apply moves_atInstant | apply Moves.step (moves_parseQueue ..) | apply Moves.step (moves_parseInjected ..) | refine Moves.ite ?_ ?_ | split)
    | split)

theorem moves_execPcieLinkLoss (s : State) : ∃ nx : State, execPcieLinkLoss s = .next nx ∧ Moves [.files, .out, .env, .cfg] s nx := by
  unfold execPcieLinkLoss
  refine ⟨_, rfl, ?_⟩
  try dsimp only
  repeat' first | exact Eq.refl true | with_reducible (first
    | exact Moves.refl _ _ | assumption | apply Moves.step (moves_endOwner ..) | refine Moves.upd rfl rfl rfl rfl ?_)

theorem moves_execPerstNAssert (s : State) : ∃ nx : State, execPerstNAssert s = .next nx ∧ Moves [.files, .out, .env, .host, .cfg] s nx := by
  unfold execPerstNAssert
  refine ⟨_, rfl, ?_⟩
  try dsimp only
  repeat' first | exact Eq.refl true | with_reducible (first
    | exact Moves.refl _ _ | assumption | apply Moves.step (moves_endOwner ..) | refine Moves.upd rfl rfl rfl rfl ?_)

theorem moves_execPerstNRelease (s : State) : ∃ nx : State, execPerstNRelease s = .next nx ∧ Moves [.env] s nx := by
  unfold execPerstNRelease
  refine ⟨_, rfl, ?_⟩
  try dsimp only
  repeat' first | exact Eq.refl true | with_reducible (first
    | exact Moves.refl _ _ | assumption | refine Moves.upd rfl rfl rfl rfl ?_)

theorem moves_execPf0FunctionLevelReset (s : State) : ∃ nx : State, execPf0FunctionLevelReset s = .next nx ∧ Moves [.files, .out, .cfg] s nx := by
  unfold execPf0FunctionLevelReset
  refine ⟨_, rfl, ?_⟩
  try dsimp only
  repeat' first | exact Eq.refl true | with_reducible (first
    | exact Moves.refl _ _ | assumption | apply Moves.step (moves_endOwner ..))

theorem moves_execPhasorEstimate (g : Nat) (n : Nat) (t : Tai) (s : State) : ∃ nx : State, execPhasorEstimate g n t s = .next nx ∧ Moves [.files, .locks, .free, .out, .pins, .cfg, .roasts, .time, .keys, .evr, .nvs, .pace, .ing, .flt, .aln, .runs, .isl, .lse, .osc, .sau, .cap, .nrg, .cas] s nx := by
  unfold execPhasorEstimate
  refine ⟨_, rfl, ?_⟩
  try dsimp only
  repeat' first | exact Eq.refl true | with_reducible (first
    | exact Moves.refl _ _ | assumption | apply moves_atInstant | apply Moves.step (moves_enterFrame ..)
    | apply Moves.step (moves_noteEstimate ..) | refine Moves.ite ?_ ?_ | intro _ | split)

theorem moves_execPowerFailCleared (s : State) : ∃ nx : State, execPowerFailCleared s = .next nx ∧ Moves [.files, .nrg] s nx := by
  unfold execPowerFailCleared
  refine ⟨_, rfl, ?_⟩
  try dsimp only
  repeat' first | exact Eq.refl true | with_reducible (first
    | exact Moves.refl _ _ | assumption | apply Moves.step (moves_setFlag ..) | apply Moves.step (moves_startSave ..)
    | refine Moves.ite ?_ ?_)

theorem moves_execPowerFailWarning (lowNs : Nat) (s : State) : ∃ nx : State, execPowerFailWarning lowNs s = .next nx ∧ Moves [.files, .free, .backup] s nx := by
  unfold execPowerFailWarning
  refine ⟨_, rfl, ?_⟩
  try dsimp only
  repeat' first | exact Eq.refl true | with_reducible (first
    | exact Moves.refl _ _ | assumption | apply moves_glitch | apply Moves.step (moves_nrgPush ..)
    | apply Moves.step (moves_setFlag ..) | intro _)

theorem moves_execPowerOnReset (dipNs : Nat) (powerUp : Bool) (rails : Rails) (co : Bool) (s : State) : ∃ nx : State, execPowerOnReset dipNs powerUp rails co s = .next nx ∧ Moves [.files, .locks, .free, .out, .boot, .ledger, .fw, .pins, .env, .host, .cfg, .roasts, .time, .keys, .evr, .nvs, .backup, .pace, .sch, .ports, .ing, .flt, .aln, .runs, .isl, .lse, .osc, .sau, .cap, .nrg, .alm, .cas] s nx := by
  unfold execPowerOnReset
  refine ⟨_, rfl, ?_⟩
  try dsimp only
  repeat' first | exact Eq.refl true | with_reducible (first
    | exact Moves.refl _ _ | assumption | apply Moves.step (moves_reset_ ..) | apply Moves.step (moves_tookFree ..)
    | refine Moves.ite ?_ ?_ | refine Moves.upd rfl rfl rfl rfl ?_)

theorem moves_execPpsInEdge (stamp : TdcStamp) (s : State) : ∃ nx : State, execPpsInEdge stamp s = .next nx ∧ Moves [.files, .pins, .time] s nx := by
  unfold execPpsInEdge
  refine ⟨_, rfl, ?_⟩
  try dsimp only
  repeat' first | exact Eq.refl true | with_reducible (first
    | exact Moves.refl _ _ | assumption | apply Moves.step (moves_moveTo ..) | apply Moves.step (moves_refSample ..) | split)

theorem moves_execPpsOutPulse (t : Tai) (s : State) : ∃ nx : State, execPpsOutPulse t s = .next nx ∧ Moves [.pins, .time] s nx := by
  unfold execPpsOutPulse
  refine ⟨_, rfl, ?_⟩
  try dsimp only
  repeat' first | exact Eq.refl true | with_reducible (first
    | exact Moves.refl _ _ | assumption | apply Moves.step (moves_moveTo ..) | refine Moves.ite ?_ ?_
    | refine Moves.upd rfl rfl rfl rfl ?_)

theorem moves_execPpsOutWidthEnd (s : State) : ∃ nx : State, execPpsOutWidthEnd s = .next nx ∧ Moves [.pins, .time] s nx := by
  unfold execPpsOutWidthEnd
  refine ⟨_, rfl, ?_⟩
  try dsimp only
  repeat' first | exact Eq.refl true | with_reducible (first
    | exact Moves.refl _ _ | assumption | apply Moves.step (moves_moveTo ..) | refine Moves.ite ?_ ?_
    | (refine Moves.upd rfl rfl rfl rfl ?_; first | exact Moves.refl _ _ | assumption | apply Moves.step (moves_moveTo ..) | refine Moves.ite ?_ ?_ | split)
    | split)

theorem moves_execPreemptLate (p : Nat) (t : Tai) (s : State) : ∃ nx : State, execPreemptLate p t s = .next nx ∧ Moves [.files, .time, .sch] s nx := by
  unfold execPreemptLate
  refine ⟨_, rfl, ?_⟩
  try dsimp only
  repeat' first | exact Eq.refl true | with_reducible (first
    | exact Moves.refl _ _ | assumption | apply Moves.step (moves_moveTo ..) | apply Moves.step (moves_count ..)
    | apply Moves.step (moves_setCore ..) | refine Moves.ite ?_ ?_ | split)

theorem moves_execPreemptVerifyTimeout (p : Nat) (s : State) : ∃ nx : State, execPreemptVerifyTimeout p s = .next nx ∧ Moves [.files, .out, .ports] s nx := by
  unfold execPreemptVerifyTimeout
  refine ⟨_, rfl, ?_⟩
  try dsimp only
  repeat' first | exact Eq.refl true | with_reducible (first
    | exact Moves.refl _ _ | assumption | apply Moves.step (moves_emit ..) | apply Moves.step (moves_setPort ..)
    | apply Moves.step (moves_macIrq ..) | apply Moves.step (moves_set ..) | refine Moves.ite ?_ ?_)

theorem moves_execProvision (who : Requester) (slot : Nat) (s : State) : ∃ nx : State, execProvision who slot s = .next nx ∧ Moves [.files, .out, .keys] s nx := by
  unfold execProvision
  refine ⟨_, rfl, ?_⟩
  try dsimp only
  repeat' first | exact Eq.refl true | with_reducible (first
    | exact Moves.refl _ _ | assumption | apply Moves.step (moves_keyStart ..))

theorem moves_execPubRetransmit (k : Nat) (t : Tai) (s : State) : ∃ nx : State, execPubRetransmit k t s = .next nx ∧ Moves [.files, .free, .out, .time, .evr, .sch, .ports, .alm] s nx := by
  unfold execPubRetransmit
  refine ⟨_, rfl, ?_⟩
  try dsimp only
  repeat' first | exact Eq.refl true | with_reducible (first
    | exact Moves.refl _ _ | assumption | apply Moves.step (moves_moveTo ..) | apply Moves.step (moves_pubSend ..)
    | apply Moves.step (moves_setPub ..) | refine Moves.ite ?_ ?_ | split)

theorem moves_execPubkey (who : Requester) (slot : Nat) (s : State) : ∃ nx : State, execPubkey who slot s = .next nx ∧ Moves [.files, .out, .keys] s nx := by
  unfold execPubkey
  refine ⟨_, rfl, ?_⟩
  try dsimp only
  repeat' first | exact Eq.refl true | with_reducible (first
    | exact Moves.refl _ _ | assumption | apply Moves.step (moves_keyStart ..))

theorem moves_execPulseEnd (k : Nat) (t : Tai) (s : State) : ∃ nx : State, execPulseEnd k t s = .next nx ∧ Moves [.files, .pins, .time, .nrg] s nx := by
  unfold execPulseEnd
  refine ⟨_, rfl, ?_⟩
  try dsimp only
  repeat' first | exact Eq.refl true | with_reducible (first
    | exact Moves.refl _ _ | assumption | apply Moves.step (moves_moveTo ..) | apply Moves.step (moves_count ..)
    | refine Moves.ite ?_ ?_
    | (refine Moves.upd rfl rfl rfl rfl ?_; first | exact Moves.refl _ _ | assumption | apply Moves.step (moves_moveTo ..) | apply Moves.step (moves_count ..) | refine Moves.ite ?_ ?_ | split)
    | split)

theorem moves_execPulseStart (k : Nat) (t : Tai) (s : State) : ∃ nx : State, execPulseStart k t s = .next nx ∧ Moves [.files, .pins, .time, .nrg] s nx := by
  unfold execPulseStart
  refine ⟨_, rfl, ?_⟩
  try dsimp only
  repeat' first | exact Eq.refl true | with_reducible (first
    | exact Moves.refl _ _ | assumption | apply Moves.step (moves_moveTo ..) | apply Moves.step (moves_set ..)
    | refine Moves.ite ?_ ?_
    | (refine Moves.upd rfl rfl rfl rfl ?_; first | exact Moves.refl _ _ | assumption | apply Moves.step (moves_moveTo ..) | apply Moves.step (moves_set ..) | refine Moves.ite ?_ ?_ | split)
    | split)

theorem moves_execPwrOnLow (t : Tai) (s : State) : ∃ nx : State, execPwrOnLow t s = .next nx ∧ Moves [.pins, .time, .backup] s nx := by
  unfold execPwrOnLow
  refine ⟨_, rfl, ?_⟩
  try dsimp only
  repeat' first | exact Eq.refl true | with_reducible (first
    | exact Moves.refl _ _ | assumption | apply Moves.step (moves_moveTo ..) | refine Moves.ite ?_ ?_
    | (refine Moves.upd rfl rfl rfl rfl ?_; first | exact Moves.refl _ _ | assumption | apply Moves.step (moves_moveTo ..) | refine Moves.ite ?_ ?_ | split)
    | split)

theorem moves_execRef10mSecond (t : Tai) (y : Int) (s : State) : ∃ nx : State, execRef10mSecond t y s = .next nx ∧ Moves [.files, .pins, .time] s nx := by
  unfold execRef10mSecond
  refine ⟨_, rfl, ?_⟩
  try dsimp only
  repeat' first | exact Eq.refl true | with_reducible (first
    | exact Moves.refl _ _ | assumption | apply Moves.step (moves_moveTo ..) | apply Moves.step (moves_refSample ..)
    | apply Moves.step (moves_setInt ..) | apply Moves.step (moves_setFreq ..) | refine Moves.ite ?_ ?_
    | (refine Moves.upd rfl rfl rfl rfl ?_; first | exact Moves.refl _ _ | assumption | apply Moves.step (moves_moveTo ..) | apply Moves.step (moves_refSample ..) | apply Moves.step (moves_setInt ..) | apply Moves.step (moves_setFreq ..) | refine Moves.ite ?_ ?_ | split)
    | split)

theorem moves_execRegisterWrite (who : Requester) (addr : Nat) (wide : Bool) (value : Nat) (byteEn : Nat) (s : State) : ∃ nx : State, execRegisterWrite who addr wide value byteEn s = .next nx ∧ Moves [.files, .locks, .free, .out, .boot, .ledger, .fw, .pins, .env, .host, .cfg, .roasts, .time, .keys, .fuses, .evr, .nvs, .backup, .pace, .sch, .ports, .ing, .flt, .aln, .runs, .isl, .lse, .osc, .sau, .cap, .nrg, .alm, .cas] s nx := by
  unfold execRegisterWrite
  refine ⟨_, rfl, ?_⟩
  try dsimp only
  repeat' first | exact Eq.refl true | with_reducible (first
    | exact Moves.refl _ _ | assumption | apply Moves.step (moves_bar4Write ..) | apply Moves.step (moves_hifErr ..)
    | apply Moves.step (moves_accessWrite ..) | refine Moves.ite ?_ ?_)

theorem moves_execRepairDeliveryDone (d : LoadReport) (s : State) : ∃ nx : State, execRepairDeliveryDone d s = .next nx ∧ Moves [.files, .out, .pins, .roasts] s nx := by
  unfold execRepairDeliveryDone
  refine ⟨_, rfl, ?_⟩
  try dsimp only
  repeat' first | exact Eq.refl true | with_reducible (first
    | exact Moves.refl _ _ | assumption | refine Moves.getD (fun nx hx => Moves.step (moves_repairFrom _ _ _ _ nx hx) ?_ ?_) ?_
    | refine Moves.ite ?_ ?_
    | (refine Moves.upd rfl rfl rfl rfl ?_; first | exact Moves.refl _ _ | assumption | refine Moves.getD (fun nx hx => Moves.step (moves_repairFrom _ _ _ _ nx hx) ?_ ?_) ?_ | refine Moves.ite ?_ ?_ | split)
    | split)

theorem moves_execRepairReqReminder (s : State) : ∃ nx : State, execRepairReqReminder s = .next nx ∧ Moves [.out] s nx := by
  unfold execRepairReqReminder
  refine ⟨_, rfl, ?_⟩
  try dsimp only
  repeat' first | exact Eq.refl true | with_reducible (first
    | exact Moves.refl _ _ | assumption | apply Moves.step (moves_vector ..) | refine Moves.ite ?_ ?_)

theorem moves_execReplicaWindow (t : Tai) (loops : List Nat) (s : State) : ∃ nx : State, execReplicaWindow t loops s = .next nx ∧ Moves [.files, .time, .pace] s nx := by
  unfold execReplicaWindow
  refine ⟨_, rfl, ?_⟩
  try dsimp only
  repeat' first | exact Eq.refl true | with_reducible (first
    | exact Moves.refl _ _ | assumption | apply Moves.step (moves_setFlag ..) | apply Moves.step (moves_set ..)
    | apply Moves.step (moves_moveTo ..) | apply Moves.idl | refine Moves.foldl (fun _ _ => ?_) ?_
    | refine Moves.foldlFst (fun _ _ => ?_) ?_
    | (refine Moves.upd rfl rfl rfl rfl ?_; first | exact Moves.refl _ _ | assumption | apply Moves.step (moves_setFlag ..) | apply Moves.step (moves_set ..) | apply Moves.step (moves_moveTo ..) | apply Moves.idl | refine Moves.foldl (fun _ _ => ?_) ?_ | refine Moves.foldlFst (fun _ _ => ?_) ?_ | split)
    | split)

theorem moves_execResamplerOutput (l : Nat) (s : State) : ∃ nx : State, execResamplerOutput l s = .next nx ∧ Moves [.files, .out, .evr, .flt, .osc, .cap] s nx := by
  unfold execResamplerOutput
  refine ⟨_, rfl, ?_⟩
  try dsimp only
  repeat' first | exact Eq.refl true | with_reducible (first
    | exact Moves.refl _ _ | assumption | apply Moves.step (moves_resamplerOutput ..) | refine Moves.ite ?_ ?_ | split)

theorem moves_execResetEnd (casId : Nat) (testEn : Bool) (s : State) : ∃ nx : State, execResetEnd casId testEn s = .next nx ∧ Moves [.files, .free, .out, .boot, .ledger, .env, .evr, .nvs, .backup, .cas] s nx := by
  unfold execResetEnd
  refine ⟨_, rfl, ?_⟩
  try dsimp only
  repeat' first | exact Eq.refl true | with_reducible (first
    | exact Moves.refl _ _ | assumption | apply Moves.step (moves_tookFree ..) | apply Moves.step (moves_set ..)
    | apply Moves.step (moves_drawDebugNonce ..) | apply Moves.step (moves_drawNonce ..) | apply Moves.step (moves_setHealth ..)
    | apply Moves.step (moves_backupCatchUp ..) | apply Moves.step (moves_emit ..) | apply Moves.step (moves_processLedger ..)
    | apply Moves.step (moves_loadLed ..) | apply Moves.step (moves_enterStep ..) | refine Moves.foldl (fun _ _ => ?_) ?_
    | refine Moves.foldlFst (fun _ _ => ?_) ?_ | refine Moves.ite ?_ ?_ | refine Moves.upd rfl rfl rfl rfl ?_)

theorem moves_execResetNAssert (lowNs : Nat) (co : Bool) (s : State) : ∃ nx : State, execResetNAssert lowNs co s = .next nx ∧ Moves [.files, .locks, .free, .out, .boot, .ledger, .fw, .pins, .env, .host, .cfg, .roasts, .time, .keys, .evr, .nvs, .backup, .pace, .sch, .ports, .ing, .flt, .aln, .runs, .isl, .lse, .osc, .sau, .cap, .nrg, .alm, .cas] s nx := by
  unfold execResetNAssert
  refine ⟨_, rfl, ?_⟩
  try dsimp only
  repeat' first | exact Eq.refl true | with_reducible (first
    | exact Moves.refl _ _ | assumption | apply moves_glitch | apply Moves.step (moves_reset_ ..) | intro _)

theorem moves_execResidualBankWrite (s : State) : ∃ nx : State, execResidualBankWrite s = .next nx ∧ Moves [.backup] s nx := by
  unfold execResidualBankWrite
  refine ⟨_, rfl, ?_⟩
  try dsimp only
  repeat' first | exact Eq.refl true | with_reducible (first
    | exact Moves.refl _ _ | assumption | refine Moves.ite ?_ ?_ | refine Moves.upd rfl rfl rfl rfl ?_)

theorem moves_execResidualPushRepeat (s : State) : ∃ nx : State, execResidualPushRepeat s = .next nx ∧ Moves [.backup] s nx := by
  unfold execResidualPushRepeat
  refine ⟨_, rfl, ?_⟩
  try dsimp only
  repeat' first | exact Eq.refl true | with_reducible (first
    | exact Moves.refl _ _ | assumption | apply Moves.step (moves_nrgPush ..) | refine Moves.ite ?_ ?_)

theorem moves_execRetiringEnd (t : Tai) (s : State) : ∃ nx : State, execRetiringEnd t s = .next nx ∧ Moves [.files, .out, .pins, .roasts, .time, .ing, .aln, .isl, .lse, .osc] s nx := by
  unfold execRetiringEnd
  refine ⟨_, rfl, ?_⟩
  try dsimp only
  repeat' first | exact Eq.refl true | with_reducible (first
    | exact Moves.refl _ _ | assumption | apply Moves.step (moves_moveTo ..) | apply Moves.step (moves_emptyRegion ..)
    | apply Moves.step (moves_carryNow ..) | apply Moves.step (moves_tileHealth ..) | apply Moves.step (moves_showShadow ..)
    | apply Moves.step (moves_set ..) | refine Moves.foldl (fun _ _ => ?_) ?_ | refine Moves.foldlFst (fun _ _ => ?_) ?_
    | refine Moves.ite ?_ ?_ | refine Moves.upd rfl rfl rfl rfl ?_)

theorem moves_execRevisionPass (rep : StageReport) (s : State) : ∃ nx : State, execRevisionPass rep s = .next nx ∧ Moves [.files, .locks, .out, .pins, .cfg, .roasts, .time, .keys, .evr, .nvs, .pace, .ing, .flt, .aln, .runs, .isl, .lse, .osc, .sau, .cap, .nrg, .cas] s nx := by
  unfold execRevisionPass
  refine ⟨_, rfl, ?_⟩
  try dsimp only
  repeat' first | exact Eq.refl true | with_reducible (first
    | exact Moves.refl _ _ | assumption | apply moves_stageAt | apply Moves.step (moves_stageEnd ..)
    | apply Moves.step (moves_revisionPass ..) | refine Moves.ite ?_ ?_ | intro _)

theorem moves_execRingEventHoldoffExpiry (r : Option Ring) (t : Tai) (s : State) : ∃ nx : State, execRingEventHoldoffExpiry r t s = .next nx ∧ Moves [.files, .out, .time, .sch, .ports, .aln] s nx := by
  unfold execRingEventHoldoffExpiry
  refine ⟨_, rfl, ?_⟩
  try dsimp only
  repeat' first | exact Eq.refl true | with_reducible (first
    | exact Moves.refl _ _ | assumption | apply Moves.step (moves_ringLate ..) | apply Moves.step (moves_moveTo ..)
    | apply Moves.step (moves_hostLate ..) | split)

theorem moves_execRingMessageReceive (ring : Nat) (m : RingMsg) (crcOk : Bool) (linkNs : Option Nat) (t : Tai) (s : State) : ∃ nx : State, execRingMessageReceive ring m crcOk linkNs t s = .next nx ∧ Moves [.files, .locks, .free, .out, .pins, .cfg, .roasts, .time, .keys, .evr, .nvs, .pace, .ing, .flt, .aln, .runs, .isl, .lse, .osc, .sau, .cap, .nrg, .cas] s nx := by
  unfold execRingMessageReceive
  refine ⟨_, rfl, ?_⟩
  try dsimp only
  repeat' first | exact Eq.refl true | with_reducible (first
    | exact Moves.refl _ _ | assumption | apply moves_atInstant | apply Moves.step (moves_ringReceive ..) | intro _)

theorem moves_execRingUnwrap (east : Bool) (s : State) : ∃ nx : State, execRingUnwrap east s = .next nx ∧ Moves [.files] s nx := by
  unfold execRingUnwrap
  refine ⟨_, rfl, ?_⟩
  try dsimp only
  repeat' first | exact Eq.refl true | with_reducible (first
    | exact Moves.refl _ _ | assumption | apply Moves.step (moves_setFlag ..) | refine Moves.ite ?_ ?_)

theorem moves_execRowRemapCopyDone (row : Nat) (s : State) : ∃ nx : State, execRowRemapCopyDone row s = .next nx ∧ Moves [.files, .out, .nvs, .pace] s nx := by
  unfold execRowRemapCopyDone
  refine ⟨_, rfl, ?_⟩
  try dsimp only
  repeat' first | exact Eq.refl true | with_reducible (first
    | exact Moves.refl _ _ | assumption | apply Moves.step (moves_irq ..) | apply Moves.step (moves_count ..)
    | apply Moves.step (moves_showRemap ..) | refine Moves.ite ?_ ?_ | refine Moves.upd rfl rfl rfl rfl ?_)

theorem moves_execRtcAlarm (ticks : Nat) (s : State) : ∃ nx : State, execRtcAlarm ticks s = .next nx ∧ Moves [.files, .out, .pins, .evr, .backup] s nx := by
  unfold execRtcAlarm
  refine ⟨_, rfl, ?_⟩
  try dsimp only
  repeat' first | exact Eq.refl true | with_reducible (first
    | exact Moves.refl _ _ | assumption | apply Moves.step (moves_calTicks ..))

theorem moves_execRtcAutoSync (t : Tai) (ticks : Nat) (s : State) : ∃ nx : State, execRtcAutoSync t ticks s = .next nx ∧ Moves [.files, .out, .pins, .time, .evr, .backup] s nx := by
  unfold execRtcAutoSync
  refine ⟨_, rfl, ?_⟩
  try dsimp only
  repeat' first | exact Eq.refl true | with_reducible (first
    | exact Moves.refl _ _ | assumption | apply Moves.step (moves_calTicks ..) | apply Moves.step (moves_moveTo ..)
    | apply Moves.step (moves_irq ..) | apply Moves.step (moves_setCalendar ..) | apply Moves.step (moves_setInt ..)
    | apply Moves.step (moves_log ..) | refine Moves.ite ?_ ?_)

theorem moves_execRtcSecLatch (who : Requester) (ticks : Nat) (s : State) : ∃ nx : State, execRtcSecLatch who ticks s = .next nx ∧ Moves [.files, .out, .pins, .evr, .backup] s nx := by
  unfold execRtcSecLatch
  refine ⟨_, rfl, ?_⟩
  try dsimp only
  repeat' first | exact Eq.refl true | with_reducible (first
    | exact Moves.refl _ _ | assumption | apply Moves.step (moves_calTicks ..) | apply Moves.step (moves_set ..))

theorem moves_execRwtWrite (who : Requester) (addr : Nat) (wide : Bool) (value : Nat) (s : State) : ∃ nx : State, execRwtWrite who addr wide value s = .next nx ∧ Moves [.files, .out, .cfg] s nx := by
  unfold execRwtWrite
  refine ⟨_, rfl, ?_⟩
  try dsimp only
  repeat' first | exact Eq.refl true | with_reducible (first
    | exact Moves.refl _ _ | assumption | apply Moves.step (moves_stage ..) | apply Moves.step (moves_refuseWord ..)
    | refine Moves.foldl (fun _ _ => ?_) ?_ | refine Moves.foldlFst (fun _ _ => ?_) ?_ | refine Moves.ite ?_ ?_)

theorem moves_execScheduleDoneNotice (rep : StageReport) (buf : Nat) (s : State) : ∃ nx : State, execScheduleDoneNotice rep buf s = .next nx ∧ Moves [.files, .locks, .out, .pins, .cfg, .roasts, .time, .keys, .evr, .nvs, .pace, .sch, .ing, .flt, .aln, .runs, .isl, .lse, .osc, .sau, .cap, .nrg, .cas] s nx := by
  unfold execScheduleDoneNotice
  refine ⟨_, rfl, ?_⟩
  try dsimp only
  repeat' first | exact Eq.refl true | with_reducible (first
    | exact Moves.refl _ _ | assumption | apply moves_stageAt | apply Moves.step (moves_stageEnd ..)
    | apply Moves.step (moves_outputs ..) | apply Moves.step (moves_deliverSlice ..) | refine Moves.ite ?_ ?_ | intro _)

theorem moves_execScrubTileRead (region : Nat) (copy : Nat) (tile : Nat) (good : Bool) (s : State) : ∃ nx : State, execScrubTileRead region copy tile good s = .next nx ∧ Moves [.files, .out, .pins, .roasts, .evr] s nx := by
  unfold execScrubTileRead
  refine ⟨_, rfl, ?_⟩
  try dsimp only
  repeat' first | exact Eq.refl true | with_reducible (first
    | exact Moves.refl _ _ | assumption | apply Moves.step (moves_scrubbed ..) | apply Moves.step (moves_tileHealth ..)
    | apply Moves.step (moves_markCopy ..) | apply Moves.step (moves_count ..) | apply Moves.step (moves_queueRepair ..)
    | refine Moves.ite ?_ ?_ | split)

theorem moves_execSecRaiseFloor (who : Requester) (readback : Bool) (s : State) : ∃ nx : State, execSecRaiseFloor who readback s = .next nx ∧ Moves [.files, .out, .nvs] s nx := by
  unfold execSecRaiseFloor
  refine ⟨_, rfl, ?_⟩
  try dsimp only
  repeat' first | exact Eq.refl true | with_reducible (first
    | exact Moves.refl _ _ | assumption | apply moves_guarded | apply Moves.step (moves_journalPut ..)
    | apply Moves.step (moves_set ..) | refine Moves.ite ?_ ?_ | intro _ | split)

theorem moves_execSecTamperClr (who : Requester) (key : Nat) (active : Bool) (s : State) : ∃ nx : State, execSecTamperClr who key active s = .next nx ∧ Moves [.files, .out, .pins] s nx := by
  unfold execSecTamperClr
  refine ⟨_, rfl, ?_⟩
  try dsimp only
  repeat' first | exact Eq.refl true | with_reducible (first
    | exact Moves.refl _ _ | assumption | apply moves_guarded | apply Moves.step (moves_health ..)
    | apply Moves.step (moves_setFlag ..) | apply Moves.step (moves_set ..) | refine Moves.ite ?_ ?_ | intro _)

theorem moves_execShadowLoadDone (d : LoadReport) (s : State) : ∃ nx : State, execShadowLoadDone d s = .next nx ∧ Moves [.files, .out, .roasts] s nx := by
  unfold execShadowLoadDone
  refine ⟨_, rfl, ?_⟩
  try dsimp only
  repeat' first | exact Eq.refl true | with_reducible (first
    | exact Moves.refl _ _ | assumption | apply Moves.step (moves_vector ..) | apply Moves.step (moves_set ..)
    | apply Moves.step (moves_showShadow ..) | apply Moves.step (moves_setRegion ..) | refine Moves.ite ?_ ?_ | split)

theorem moves_passSlew (s : State) : Moves [.time] s s.passSlew := by
  unfold State.passSlew
  try dsimp only
  repeat' first | exact Eq.refl true | with_reducible (first
    | exact Moves.refl _ _ | assumption | refine Moves.ite ?_ ?_ | refine Moves.upd rfl rfl rfl rfl ?_)

theorem moves_execSlewComplete (s : State) : ∃ nx : State, execSlewComplete s = .next nx ∧ Moves [.files, .time] s nx := by
  unfold execSlewComplete
  refine ⟨_, rfl, ?_⟩
  try dsimp only
  repeat' first | exact Eq.refl true | with_reducible (first
    | exact Moves.refl _ _ | assumption | apply Moves.step (moves_passSlew ..) | apply Moves.step (moves_endSlew ..)
    | refine Moves.ite ?_ ?_)

theorem moves_execSliceDeadline (t : Tai) (s : State) : ∃ nx : State, execSliceDeadline t s = .next nx ∧ Moves [.files, .locks, .out, .pins, .cfg, .roasts, .time, .keys, .evr, .nvs, .pace, .ing, .flt, .aln, .runs, .isl, .lse, .osc, .sau, .cap, .nrg, .cas] s nx := by
  unfold execSliceDeadline
  refine ⟨_, rfl, ?_⟩
  try dsimp only
  repeat' first | exact Eq.refl true | with_reducible (first
    | exact Moves.refl _ _ | assumption | apply moves_atInstant | apply Moves.idl | intro _)

theorem moves_execSliceOpen (t : Tai) (s : State) : ∃ nx : State, execSliceOpen t s = .next nx ∧ Moves [.files, .locks, .out, .pins, .cfg, .roasts, .time, .keys, .evr, .nvs, .pace, .ing, .flt, .aln, .runs, .isl, .lse, .osc, .sau, .cap, .nrg, .cas] s nx := by
  unfold execSliceOpen
  refine ⟨_, rfl, ?_⟩
  try dsimp only
  repeat' first | exact Eq.refl true | with_reducible (first
    | exact Moves.refl _ _ | assumption | apply moves_atInstant | apply Moves.step (moves_openTo ..) | refine Moves.ite ?_ ?_
    | intro _)

theorem moves_execSliceRetire (t : Tai) (bufs : List Nat) (s : State) : ∃ nx : State, execSliceRetire t bufs s = .next nx ∧ Moves [.files, .locks, .out, .pins, .cfg, .roasts, .time, .keys, .evr, .nvs, .pace, .ing, .flt, .aln, .runs, .isl, .lse, .osc, .sau, .cap, .nrg, .cas] s nx := by
  unfold execSliceRetire
  refine ⟨_, rfl, ?_⟩
  try dsimp only
  repeat' first | exact Eq.refl true | with_reducible (first
    | exact Moves.refl _ _ | assumption | apply moves_atInstant | apply Moves.step (moves_retireSlice ..)
    | refine Moves.foldl (fun _ _ => ?_) ?_ | refine Moves.foldlFst (fun _ _ => ?_) ?_ | intro _)

theorem moves_execSnapshotCopyDone (who : Requester) (s : State) : ∃ nx : State, execSnapshotCopyDone who s = .next nx ∧ Moves [.host] s nx := by
  unfold execSnapshotCopyDone
  refine ⟨_, rfl, ?_⟩
  try dsimp only
  repeat' first | exact Eq.refl true | with_reducible (first
    | exact Moves.refl _ _ | assumption | refine Moves.upd rfl rfl rfl rfl ?_)

theorem moves_execSubstitution (rep : StageReport) (s : State) : ∃ nx : State, execSubstitution rep s = .next nx ∧ Moves [.files, .locks, .out, .pins, .cfg, .roasts, .time, .keys, .evr, .nvs, .pace, .sch, .ing, .flt, .aln, .runs, .isl, .lse, .osc, .sau, .cap, .nrg, .cas] s nx := by
  unfold execSubstitution
  refine ⟨_, rfl, ?_⟩
  try dsimp only
  repeat' first | exact Eq.refl true | with_reducible (first
    | exact Moves.refl _ _ | assumption | apply moves_stageAt | apply Moves.step (moves_substitution ..) | intro _)

theorem moves_execSvWaitExpiry (l : Nat) (t : Tai) (s : State) : ∃ nx : State, execSvWaitExpiry l t s = .next nx ∧ Moves [.files, .out, .time, .flt] s nx := by
  unfold execSvWaitExpiry
  refine ⟨_, rfl, ?_⟩
  try dsimp only
  repeat' first | exact Eq.refl true | with_reducible (first
    | exact Moves.refl _ _ | assumption | apply Moves.step (moves_moveTo ..) | apply Moves.step (moves_svMissed ..)
    | refine Moves.ite ?_ ?_ | split)

theorem moves_execTamperCfg (who : Requester) (s : State) : ∃ nx : State, execTamperCfg who s = .next nx ∧ Moves [.files, .out, .keys] s nx := by
  unfold execTamperCfg
  refine ⟨_, rfl, ?_⟩
  try dsimp only
  repeat' first | exact Eq.refl true | with_reducible (first
    | exact Moves.refl _ _ | assumption | apply Moves.step (moves_keyStart ..))

theorem moves_execTamperDetect (source : Nat) (s : State) : ∃ nx : State, execTamperDetect source s = .next nx ∧ Moves [.files, .free, .out, .boot, .ledger, .pins, .cfg, .roasts, .keys, .evr, .nvs, .backup, .pace, .sch, .ing, .runs, .cap, .nrg] s nx := by
  unfold execTamperDetect
  refine ⟨_, rfl, ?_⟩
  try dsimp only
  repeat' first | exact Eq.refl true | with_reducible (first
    | exact Moves.refl _ _ | assumption | apply Moves.step (moves_latchTamper ..) | apply Moves.step (moves_tamper ..)
    | refine Moves.ite ?_ ?_)

theorem moves_execTcompSaveDone (s : State) : ∃ nx : State, execTcompSaveDone s = .next nx ∧ Moves [.files, .nvs] s nx := by
  unfold execTcompSaveDone
  refine ⟨_, rfl, ?_⟩
  try dsimp only
  repeat' first | exact Eq.refl true | with_reducible (first
    | exact Moves.refl _ _ | assumption | apply Moves.step (moves_setFlag ..) | refine Moves.ite ?_ ?_
    | refine Moves.upd rfl rfl rfl rfl ?_)

theorem moves_execTdcCalibration (ch : Nat) (bins : List Nat) (s : State) : ∃ nx : State, execTdcCalibration ch bins s = .next nx ∧ Moves [.files, .out, .time, .evr] s nx := by
  unfold execTdcCalibration
  refine ⟨_, rfl, ?_⟩
  try dsimp only
  repeat' first | exact Eq.refl true | with_reducible (first
    | exact Moves.refl _ _ | assumption | apply Moves.step (moves_count ..) | apply Moves.step (moves_putBit ..)
    | apply Moves.step (moves_log ..) | apply Moves.step (moves_irq ..) | refine Moves.ite ?_ ?_
    | refine Moves.upd rfl rfl rfl rfl ?_)

theorem moves_execTempCompPeriod (temp : Int) (s : State) : ∃ nx : State, execTempCompPeriod temp s = .next nx ∧ Moves [.files, .free, .out, .pins, .evr, .backup] s nx := by
  unfold execTempCompPeriod
  refine ⟨_, rfl, ?_⟩
  try dsimp only
  repeat' first | exact Eq.refl true | with_reducible (first
    | exact Moves.refl _ _ | assumption | apply Moves.step (moves_calTicks ..) | apply Moves.step (moves_setInt ..)
    | apply Moves.step (moves_tookFree ..) | refine Moves.ite ?_ ?_ | refine Moves.upd rfl rfl rfl rfl ?_)

theorem moves_execTemplateCommandDone (s : State) : ∃ nx : State, execTemplateCommandDone s = .next nx ∧ Moves [.files, .out, .ing] s nx := by
  unfold execTemplateCommandDone
  refine ⟨_, rfl, ?_⟩
  try dsimp only
  repeat' first | exact Eq.refl true | with_reducible (first
    | exact Moves.refl _ _ | assumption | apply Moves.step (moves_ingIrq ..) | apply Moves.step (moves_set ..)
    | apply Moves.step (moves_setFlag ..)
    | (refine Moves.upd rfl rfl rfl rfl ?_; first | exact Moves.refl _ _ | assumption | apply Moves.step (moves_ingIrq ..) | apply Moves.step (moves_set ..) | apply Moves.step (moves_setFlag ..) | split)
    | split)

theorem moves_execTimeBaseTick (t : Tai) (s : State) : ∃ nx : State, execTimeBaseTick t s = .next nx ∧ Moves [.files, .locks, .out, .pins, .cfg, .roasts, .time, .keys, .evr, .nvs, .pace, .ing, .flt, .aln, .runs, .isl, .lse, .osc, .sau, .cap, .nrg, .cas] s nx := by
  unfold execTimeBaseTick
  refine ⟨_, rfl, ?_⟩
  try dsimp only
  repeat' first | exact Eq.refl true | with_reducible (first
    | exact Moves.refl _ _ | assumption | apply Moves.step (moves_closes ..) | apply Moves.step (moves_moveTo ..)
    | apply Moves.step (moves_timeTick ..) | apply Moves.step (moves_stepFollows ..) | apply Moves.step (moves_txnTick ..)
    | apply Moves.step (moves_nrgInvalid ..) | apply Moves.step (moves_noteTq ..) | apply Moves.step (moves_count ..)
    | refine Moves.ite ?_ ?_)

theorem moves_execTokenHoldExpiry (ring : Nat) (t : Tai) (s : State) : ∃ nx : State, execTokenHoldExpiry ring t s = .next nx ∧ Moves [.out, .time, .cas] s nx := by
  unfold execTokenHoldExpiry
  refine ⟨_, rfl, ?_⟩
  try dsimp only
  repeat' first | exact Eq.refl true | with_reducible (first
    | exact Moves.refl _ _ | assumption | apply Moves.step (moves_moveTo ..) | apply Moves.step (moves_passToken ..)
    | apply Moves.step (moves_ringEmit ..) | refine Moves.ite ?_ ?_
    | (refine Moves.upd rfl rfl rfl rfl ?_; first | exact Moves.refl _ _ | assumption | apply Moves.step (moves_moveTo ..) | apply Moves.step (moves_passToken ..) | apply Moves.step (moves_ringEmit ..) | refine Moves.ite ?_ ?_ | split)
    | split)

theorem moves_execTokenReceive (ring : Nat) (gen : Nat) (t : Tai) (s : State) : ∃ nx : State, execTokenReceive ring gen t s = .next nx ∧ Moves [.files, .out, .time, .cas] s nx := by
  unfold execTokenReceive
  refine ⟨_, rfl, ?_⟩
  try dsimp only
  repeat' first | exact Eq.refl true | with_reducible (first
    | exact Moves.refl _ _ | assumption | apply Moves.step (moves_moveTo ..) | apply Moves.step (moves_takeToken ..)
    | refine Moves.ite ?_ ?_)

theorem moves_execTokenRegenerate (ring : Nat) (t : Tai) (s : State) : ∃ nx : State, execTokenRegenerate ring t s = .next nx ∧ Moves [.files, .out, .time, .cas] s nx := by
  unfold execTokenRegenerate
  refine ⟨_, rfl, ?_⟩
  try dsimp only
  repeat' first | exact Eq.refl true | with_reducible (first
    | exact Moves.refl _ _ | assumption | apply Moves.step (moves_moveTo ..) | apply Moves.step (moves_takeToken ..)
    | apply Moves.step (moves_count ..) | refine Moves.ite ?_ ?_)

theorem moves_execTopologyEngine (rep : StageReport) (s : State) : ∃ nx : State, execTopologyEngine rep s = .next nx ∧ Moves [.files, .locks, .out, .pins, .cfg, .roasts, .time, .keys, .evr, .nvs, .pace, .ing, .flt, .aln, .runs, .isl, .lse, .osc, .sau, .cap, .nrg, .cas] s nx := by
  unfold execTopologyEngine
  refine ⟨_, rfl, ?_⟩
  try dsimp only
  repeat' first | exact Eq.refl true | with_reducible (first
    | exact Moves.refl _ _ | assumption | apply moves_stageAt | apply Moves.step (moves_topoStage ..) | intro _)

theorem moves_execTotalsSave (t : Tai) (s : State) : ∃ nx : State, execTotalsSave t s = .next nx ∧ Moves [.files, .time, .nrg] s nx := by
  unfold execTotalsSave
  refine ⟨_, rfl, ?_⟩
  try dsimp only
  repeat' first | exact Eq.refl true | with_reducible (first
    | exact Moves.refl _ _ | assumption | apply Moves.step (moves_moveTo ..) | apply Moves.step (moves_startSave ..)
    | refine Moves.ite ?_ ?_ | refine Moves.upd rfl rfl rfl rfl ?_)

theorem moves_execTotalsSaveComplete (bad : List Nat) (s : State) : ∃ nx : State, execTotalsSaveComplete bad s = .next nx ∧ Moves [.files, .out, .evr, .nvs, .backup, .nrg] s nx := by
  unfold execTotalsSaveComplete
  refine ⟨_, rfl, ?_⟩
  try dsimp only
  repeat' first | exact Eq.refl true | with_reducible (first
    | exact Moves.refl _ _ | assumption | apply Moves.step (moves_set ..) | apply Moves.step (moves_setFlag ..)
    | apply Moves.step (moves_nrgIrq ..) | apply Moves.step (moves_log ..) | apply Moves.step (moves_count ..)
    | refine Moves.foldl (fun _ _ => ?_) ?_ | refine Moves.foldlFst (fun _ _ => ?_) ?_ | refine Moves.ite ?_ ?_
    | (refine Moves.upd rfl rfl rfl rfl ?_; first | exact Moves.refl _ _ | assumption | apply Moves.step (moves_set ..) | apply Moves.step (moves_setFlag ..) | apply Moves.step (moves_nrgIrq ..) | apply Moves.step (moves_log ..) | apply Moves.step (moves_count ..) | refine Moves.foldl (fun _ _ => ?_) ?_ | refine Moves.foldlFst (fun _ _ => ?_) ?_ | refine Moves.ite ?_ ?_ | split)
    | split)

theorem moves_execTrigInEdge (k : Nat) (falling : Bool) (edge : HeldEdge) (s : State) : ∃ nx : State, execTrigInEdge k falling edge s = .next nx ∧ Moves [.files, .free, .out, .pins, .time, .backup, .cap] s nx := by
  unfold execTrigInEdge
  refine ⟨_, rfl, ?_⟩
  try dsimp only
  repeat' first | exact Eq.refl true | with_reducible (first
    | exact Moves.refl _ _ | assumption | apply moves_glitch | apply Moves.step (moves_moveTo ..)
    | apply Moves.step (moves_trigAt ..) | refine Moves.ite ?_ ?_ | intro _)

theorem moves_execTsuTimeLatch (who : Requester) (t : Tai) (s : State) : ∃ nx : State, execTsuTimeLatch who t s = .next nx ∧ Moves [.files, .time] s nx := by
  unfold execTsuTimeLatch
  refine ⟨_, rfl, ?_⟩
  try dsimp only
  repeat' first | exact Eq.refl true | with_reducible (first
    | exact Moves.refl _ _ | assumption | apply Moves.step (moves_moveTo ..) | apply Moves.step (moves_set ..)
    | refine Moves.foldl (fun _ _ => ?_) ?_ | refine Moves.foldlFst (fun _ _ => ?_) ?_)

theorem moves_execTwSysExpiry (s : State) : ∃ nx : State, execTwSysExpiry s = .next nx ∧ Moves [.files, .ports] s nx := by
  unfold execTwSysExpiry
  refine ⟨_, rfl, ?_⟩
  try dsimp only
  repeat' first | exact Eq.refl true | with_reducible (first
    | exact Moves.refl _ _ | assumption | apply Moves.step (moves_startTx ..) | apply Moves.step (moves_setPort ..)
    | refine Moves.ite ?_ ?_)

theorem moves_execTxFrameComplete (p : Nat) (stamp : TdcStamp) (s : State) : ∃ nx : State, execTxFrameComplete p stamp s = .next nx ∧ Moves [.files, .free, .out, .time, .sch, .ports] s nx := by
  unfold execTxFrameComplete
  refine ⟨_, rfl, ?_⟩
  try dsimp only
  repeat' first | exact Eq.refl true | with_reducible (first
    | exact Moves.refl _ _ | assumption | apply Moves.step (moves_moveTo ..) | apply Moves.step (moves_setPort ..)
    | apply Moves.step (moves_count ..) | apply Moves.step (moves_emit ..) | apply Moves.step (moves_startTx ..)
    | apply Moves.step (moves_hsrDrain ..) | apply Moves.step (moves_frameDone ..) | refine Moves.ite ?_ ?_ | split)

theorem moves_execTxFrameOffer (t : Tai) (o : TxOffer) (s : State) : ∃ nx : State, execTxFrameOffer t o s = .next nx ∧ Moves [.files, .free, .out, .time, .evr, .sch, .ports, .sau] s nx := by
  unfold execTxFrameOffer
  refine ⟨_, rfl, ?_⟩
  try dsimp only
  repeat' first | exact Eq.refl true | with_reducible (first
    | exact Moves.refl _ _ | assumption | apply Moves.step (moves_moveTo ..) | apply Moves.step (moves_offerRing ..)
    | apply Moves.step (moves_offerHeld ..) | refine Moves.foldl (fun _ _ => ?_) ?_ | refine Moves.foldlFst (fun _ _ => ?_) ?_
    | split)

theorem moves_execTxnTimeout (s : State) : ∃ nx : State, execTxnTimeout s = .next nx ∧ Moves [.files, .out, .cfg] s nx := by
  unfold execTxnTimeout
  refine ⟨_, rfl, ?_⟩
  try dsimp only
  repeat' first | exact Eq.refl true | with_reducible (first
    | exact Moves.refl _ _ | assumption | apply Moves.step (moves_txnEnd ..) | apply Moves.step (moves_set ..)
    | refine Moves.ite ?_ ?_)

theorem moves_execVbatAbsent (absent : Bool) (s : State) : ∃ nx : State, execVbatAbsent absent s = .next nx ∧ Moves [.files, .env] s nx := by
  unfold execVbatAbsent
  refine ⟨_, rfl, ?_⟩
  try dsimp only
  repeat' first | exact Eq.refl true | with_reducible (first
    | exact Moves.refl _ _ | assumption | apply Moves.step (moves_setFlag ..) | refine Moves.ite ?_ ?_
    | refine Moves.upd rfl rfl rfl rfl ?_)

theorem moves_execVbatBrownOut (s : State) : ∃ nx : State, execVbatBrownOut s = .next nx ∧ Moves [.files] s nx := by
  unfold execVbatBrownOut
  refine ⟨_, rfl, ?_⟩
  try dsimp only
  repeat' first | exact Eq.refl true | with_reducible (first
    | exact Moves.refl _ _ | assumption | apply Moves.step (moves_setOsf ..) | refine Moves.ite ?_ ?_)

theorem moves_execVbatMeasure (mv : Nat) (s : State) : ∃ nx : State, execVbatMeasure mv s = .next nx ∧ Moves [.files, .out] s nx := by
  unfold execVbatMeasure
  refine ⟨_, rfl, ?_⟩
  try dsimp only
  repeat' first | exact Eq.refl true | with_reducible (first
    | exact Moves.refl _ _ | assumption | apply Moves.step (moves_setFlag ..) | apply Moves.step (moves_set ..)
    | apply Moves.step (moves_irq ..) | refine Moves.ite ?_ ?_)

theorem moves_execWaitTimeout (t : Nat) (at_ : Tai) (s : State) : ∃ nx : State, execWaitTimeout t at_ s = .next nx ∧ Moves [.files, .time, .sch] s nx := by
  unfold execWaitTimeout
  refine ⟨_, rfl, ?_⟩
  try dsimp only
  repeat' first | exact Eq.refl true | with_reducible (first
    | exact Moves.refl _ _ | assumption | apply Moves.step (moves_moveTo ..) | apply Moves.step (moves_makeReady ..)
    | refine Moves.ite ?_ ?_
    | (refine Moves.upd rfl rfl rfl rfl ?_; first | exact Moves.refl _ _ | assumption | apply Moves.step (moves_moveTo ..) | apply Moves.step (moves_makeReady ..) | refine Moves.ite ?_ ?_ | split)
    | split)

theorem moves_execWatchdogExpiry (co : Bool) (s : State) : ∃ nx : State, execWatchdogExpiry co s = .next nx ∧ Moves [.files, .locks, .free, .out, .boot, .ledger, .fw, .pins, .env, .host, .cfg, .roasts, .time, .keys, .evr, .nvs, .backup, .pace, .sch, .ports, .ing, .flt, .aln, .runs, .isl, .lse, .osc, .sau, .cap, .nrg, .alm, .cas] s nx := by
  unfold execWatchdogExpiry
  refine ⟨_, rfl, ?_⟩
  try dsimp only
  repeat' first | exact Eq.refl true | with_reducible (first
    | exact Moves.refl _ _ | assumption | apply Moves.step (moves_reset_ ..) | refine Moves.ite ?_ ?_)

theorem moves_execXtrigEdge (k : Nat) (edge : HeldEdge) (s : State) : ∃ nx : State, execXtrigEdge k edge s = .next nx ∧ Moves [.files, .free, .out, .pins, .time, .backup, .cap] s nx := by
  unfold execXtrigEdge
  refine ⟨_, rfl, ?_⟩
  try dsimp only
  repeat' first | exact Eq.refl true | with_reducible (first
    | exact Moves.refl _ _ | assumption | apply moves_glitch | apply Moves.step (moves_moveTo ..)
    | apply Moves.step (moves_xtrigEdge ..) | intro _)

theorem moves_execXtrigRelease (k : Nat) (t : Tai) (s : State) : ∃ nx : State, execXtrigRelease k t s = .next nx ∧ Moves [.pins, .time, .cap] s nx := by
  unfold execXtrigRelease
  refine ⟨_, rfl, ?_⟩
  try dsimp only
  repeat' first | exact Eq.refl true | with_reducible (first
    | exact Moves.refl _ _ | assumption | apply Moves.step (moves_moveTo ..) | apply Moves.step (moves_setXline ..)
    | refine Moves.ite ?_ ?_ | refine Moves.upd rfl rfl rfl rfl ?_)

theorem moves_execXtrigStuck (k : Nat) (t : Tai) (s : State) : ∃ nx : State, execXtrigStuck k t s = .next nx ∧ Moves [.files, .out, .time, .evr, .cap] s nx := by
  unfold execXtrigStuck
  refine ⟨_, rfl, ?_⟩
  try dsimp only
  repeat' first | exact Eq.refl true | with_reducible (first
    | exact Moves.refl _ _ | assumption | apply Moves.step (moves_moveTo ..) | apply Moves.step (moves_log ..)
    | apply Moves.step (moves_capIrq ..) | apply Moves.step (moves_putBit ..) | apply Moves.step (moves_setXline ..)
    | refine Moves.ite ?_ ?_ | split)

theorem moves_execXtrigUnstuck (k : Nat) (t : Tai) (s : State) : ∃ nx : State, execXtrigUnstuck k t s = .next nx ∧ Moves [.files, .time, .cap] s nx := by
  unfold execXtrigUnstuck
  refine ⟨_, rfl, ?_⟩
  try dsimp only
  repeat' first | exact Eq.refl true | with_reducible (first
    | exact Moves.refl _ _ | assumption | apply Moves.step (moves_moveTo ..) | apply Moves.step (moves_putBit ..)
    | apply Moves.step (moves_setXline ..) | refine Moves.ite ?_ ?_)

end Sys2Proof.Machine
end

