-- ==== Sys2Proof/Tests/Slice0.lean ====
section
/-! SUPPORT. Small tests: operands out of range are refused; every claim's hypotheses are met together by a concrete state; single
commands do what the spec's words and tables say. -/

namespace Sys2Proof.Tests

set_option Elab.async false

open Sys2Proof Sys2Proof.Machine

/-- The device operating, nothing loaded. -/
def up : State := { State.reset with boot := { State.reset.boot with inReset := false } }.set Reg.BOOT_STATUS.STATE 1

/-- What Ready asks. -/
def rdy (s : State) (who : Requester) : Bool := s.filesOk && !s.silent who && s.mayGuard who

/-- What MayWrite asks. -/
def mayW (s : State) (who : Requester) : Bool := s.filesOk && !s.silent who && who != .pf1

/-- The state a command ends in. -/
def run (c : Instr) (s : State) : State :=
  match exec c s with
  | .next t => t
  | .fault _ => s
  | .refused _ => s

/-- A ring message of device 7. -/
def msg : RingMsg := { id := 7, tag := 0, seq := 0, n := 0, body := .presence true 0 0 0 0 0 }

theorem test_up_is_ready : Ready up .sec := ⟨by decide, by decide, by decide⟩
theorem test_up_may_be_written_by_a_core : MayWrite up (.core 0) := ⟨by decide, by decide, by decide⟩
theorem test_ill_formed_is_refused_1 : ([
    .resetEnd 8 true,
    .bootRoastGo (.core 9),
    .clearAttempts (.core 9),
    .fullTrain (.core 9),
    .fullCal (.core 9),
    .staySafe (.core 9),
    .slotPreferenceWrite (.core 9) true true,
    .hostSoftReset (.core 9) ⟨2 ^ 32 - 1, true⟩,
    .hostSoftReset .sec ⟨2 ^ 32, true⟩,
    .heartbeatKick (.core 9),
    .registerWrite (.core 9) (2 ^ 25 - 4) true (2 ^ 64 - 1) 255,
    .registerWrite .sec (2 ^ 25 + 2 ^ 14) true (2 ^ 64 - 1) 255,
    .registerWrite .sec 6 true (2 ^ 64 - 1) 255,
    .registerWrite .sec (2 ^ 25 - 4) true (2 ^ 64) 255,
    .registerWrite .sec (2 ^ 25 - 4) true (2 ^ 64 - 1) 256,
    .bar0LongWrite (.core 9) (2 ^ 25 - 1) 0,
    .bar0LongWrite .sec (2 ^ 25) 0,
    .bar2Write (.core 9),
    .hifSnap (.core 9),
    .snapshotCopyDone (.core 9),
    .ownerClaim (.core 9),
    .ownerRelease (.core 9),
    .txnBegin (.core 9),
    .rwtWrite (.core 9) (2 ^ 25 - 4) true (2 ^ 64 - 1),
    .rwtWrite .sec (2 ^ 25) true (2 ^ 64 - 1),
    .rwtWrite .sec 6 true (2 ^ 64 - 1),
    .rwtWrite .sec (2 ^ 25 - 4) true (2 ^ 64),
    .txnCommit (.core 9) 0,
    .txnRollback (.core 9),
    .crcSuspend (.core 9) true,
    .crcAdopt (.core 9),
    .roastLoad (.core 9) 3,
    .roastLoad .sec 4,
    .roastDiscard (.core 9),
    .raiseFloor (.core 9),
    .swapRequest (.core 9) (2 ^ 64 - 1) true,
    .swapRequest .sec (2 ^ 64) true,
    .swapCancel (.core 9),
    .scrubTileRead 2 1 456965 true,
    .scrubTileRead 1 2 456965 true,
    .scrubTileRead 1 1 456966 true,
    .repairGo (.core 9),
    .frameReceive 7 {},
    .ringEventHoldoffExpiry (some (.ptp 6)) 0,
    .dregs (.core 9) 5 true ⟨65535, none⟩] : List Instr).all (fun c => !c.wellFormed) = true := by decide

theorem test_ill_formed_is_refused_2 : ([
    .dregs .sec 6 true ⟨65535, none⟩,
    .dregs .sec 5 true ⟨65536, none⟩,
    .txFrameOffer 0 (.ring (.ptp 6) [] 0),
    .txFrameOffer 0 (.ring .inj [] (2 ^ 32)),
    .txFrameOffer 0 (.output 16),
    .txFrameComplete 7 ⟨0, 0⟩,
    .linkStateChange 7 {},
    .preemptVerifyTimeout 7,
    .mdioWrite (.core 9) 31 31 65535,
    .mdioWrite .sec 32 31 65535,
    .mdioWrite .sec 31 32 65535,
    .mdioWrite .sec 31 31 65536,
    .mdioRead (.core 9) 31 31 65535,
    .mdioRead .sec 32 31 65535,
    .mdioRead .sec 31 32 65535,
    .mdioRead .sec 31 31 65536,
    .mdioC45Address (.core 9) 31 31 65535,
    .mdioC45Address .sec 32 31 65535,
    .mdioC45Address .sec 31 32 65535,
    .mdioC45Address .sec 31 31 65536,
    .mdioC45Read (.core 9) 31 31 65535,
    .mdioC45Read .sec 32 31 65535,
    .mdioC45Read .sec 31 32 65535,
    .mdioC45Read .sec 31 31 65536,
    .mdioDone 65536,
    .portEnable (.core 9) 6 true,
    .portEnable .sec 7 true,
    .ringEnable (.core 9) .inj true,
    .ringEnable .sec (.rx 7 3) true,
    .ringEnable .sec (.rx 6 4) true,
    .ringEnable .sec (.tx 7 3) true,
    .ringEnable .sec (.tx 6 4) true,
    .ringEnable .sec (.ptp 6) true,
    .ingressQueueEnable (.core 9) 5 true,
    .ingressQueueEnable .sec 6 true,
    .parserEnable (.core 9) true,
    .blockShutdownComplete (.port 7) [],
    .blockShutdownComplete (.ring (.ptp 6)) [],
    .blockShutdownComplete (.ingQueue 6) [],
    .blockShutdownComplete (.filterGroup 32) [],
    .stepGo (.core 9),
    .tsuSampleGo (.core 9) 15 (2 ^ 64 - 1),
    .tsuSampleGo .sec 16 (2 ^ 64 - 1),
    .tsuSampleGo .sec 15 (2 ^ 64),
    .tdcCalibration 32 (List.replicate 64 0)] : List Instr).all (fun c => !c.wellFormed) = true := by decide

theorem test_ill_formed_is_refused_3 : ([
    .tdcCalibration 31 (List.replicate 63 0),
    .tsuTimeLatch (.core 9) 0,
    .stageTpl (.core 9),
    .stageRec (.core 9),
    .resume (.core 9),
    .suspend (.core 9),
    .tplDiscard (.core 9),
    .ingKeyLoadNext (.core 9),
    .ingKeyErase (.core 9),
    .unclaimedClr (.core 9),
    .cicOutput 256 [] 0,
    .svWaitExpiry 256 0,
    .resamplerOutput 256,
    .phasorEstimate 32 0 0,
    .fltSync (.core 9) 31,
    .fltSync .sec 32,
    .fltChainEnable (.core 9) true,
    .fltGroupEnable (.core 9) 31 true,
    .fltGroupEnable .sec 32 true,
    .firBankSwapRequest (.core 9) 31 1,
    .firBankSwapRequest .sec 32 1,
    .firBankSwapRequest .sec 31 2,
    .kernelBankSwapRequest (.core 9) 1,
    .kernelBankSwapRequest .sec 2,
    .fadeEnd (some 32),
    .fltCoefWrite (.core 9) (2 ^ 32 - 1),
    .fltCoefWrite .sec (2 ^ 32),
    .alignerEnable (.core 9) true,
    .hostRingEnable (.core 9) true,
    .lseSummaryLatch (.core 9),
    .oscCmd (.core 9) 3 4095,
    .oscCmd .sec 4 4095,
    .oscCmd .sec 3 4096,
    .oscResultLatch (.core 9) .band,
    .islItemLatch (.core 9) .dev,
    .alarmEngineEnable (.core 9) true,
    .pubRetransmit 16 0,
    .almPinMaskWrite (.core 9) 65535,
    .almPinMaskWrite .sec 65536,
    .almFrameMaskWrite (.core 9) 15 (2 ^ 32 - 1) 0,
    .almFrameMaskWrite .sec 16 (2 ^ 32 - 1) 0,
    .almFrameMaskWrite .sec 15 (2 ^ 32) 0,
    .almRuleAck (.core 9) 15 (2 ^ 32 - 1),
    .almRuleAck .sec 16 (2 ^ 32 - 1),
    .almRuleAck .sec 15 (2 ^ 32)] : List Instr).all (fun c => !c.wellFormed) = true := by decide

theorem test_ill_formed_is_refused_4 : ([
    .almTest (.core 9) 65535,
    .almTest .sec 65536,
    .almTermLatch (.core 9),
    .almKeyLoad (.core 9),
    .almKeyErase (.core 9),
    .trigInEdge 4 true ⟨200, 0, 0⟩,
    .xtrigEdge 4 ⟨200, 0, 0⟩,
    .capHostTrig (.core 9) 0,
    .xtrigRelease 4 0,
    .xtrigStuck 4 0,
    .xtrigUnstuck 4 0,
    .capArm (.core 9) 15,
    .capArm .sec 16,
    .capDisarm (.core 9) 15,
    .capDisarm .sec 16,
    .capSlotHold (.core 9) 63,
    .capSlotHold .sec 64,
    .capSlotRelease (.core 9) 63,
    .capSlotRelease .sec 64,
    .captureEnable (.core 9) true,
    .meteringCycle 4,
    .pulseStart 8 0,
    .pulseEnd 8 0,
    .nrgSaveNow (.core 9),
    .energyEnable (.core 9) true,
    .custodyRecordLatch (.core 9),
    .getwork 9,
    .getworkIdleTimeout 9 0,
    .schWait (.core 9) 1023,
    .schWait .sec 1024,
    .waitTimeout 256 0,
    .schSignal (.core 9) 1023,
    .schSignal .sec 1024,
    .schYield (.core 9),
    .schExit (.core 9),
    .schPark (.core 9),
    .preemptLate 9 0,
    .tcbCreate (.core 9),
    .tcbSuspend (.core 9),
    .tcbResume (.core 9),
    .setPrio (.core 9),
    .tcbFree (.core 9),
    .schObjCfgWrite (.core 9) true,
    .flowPost (.core 9) 63,
    .flowPost .sec 64] : List Instr).all (fun c => !c.wellFormed) = true := by decide

theorem test_ill_formed_is_refused_5 : ([
    .flowDone (.core 9) 63 65535,
    .flowDone .sec 64 65535,
    .flowDone .sec 63 65536,
    .flowTake (.core 9) 63,
    .flowTake .sec 64,
    .flowStallExpiry 64 0,
    .schMigrate (.core 9) 15 15 true,
    .schMigrate .sec 16 15 true,
    .schMigrate .sec 15 16 true,
    .keyDerive (.core 9) 255 255 31,
    .keyDerive .sec 256 255 31,
    .keyDerive .sec 255 256 31,
    .keyDerive .sec 255 255 32,
    .keySign (.core 9) 255,
    .keySign .sec 256,
    .keyVerify (.core 9),
    .pubkey (.core 9) 255,
    .pubkey .sec 256,
    .keyAttest (.core 9),
    .erase (.core 9) 255,
    .erase .sec 256,
    .invalidate (.core 9) 255 31,
    .invalidate .sec 256 31,
    .invalidate .sec 255 32,
    .provision (.core 9) 255,
    .provision .sec 256,
    .debugReq (.core 9),
    .tamperCfg (.core 9),
    .fuseBlowGm (.core 9),
    .fuseBlowTamperKill (.core 9),
    .fuseBlowDebugAllowed (.core 9),
    .fuseBlowLcDev (.core 9),
    .fuseBlowLcProd (.core 9),
    .fuseBlowLcRma (.core 9),
    .secRaiseFloor (.core 9) true,
    .burnFloor (.core 9),
    .tamperDetect 5,
    .secTamperClr (.core 9) (2 ^ 32 - 1) true,
    .secTamperClr .sec (2 ^ 32) true,
    .rtcSecLatch (.core 9) 0,
    .rtcHold (.core 9) 0,
    .rtcHoldClear (.core 9) 0,
    .osfClear (.core 9),
    .bkpPwrOffRequest (.core 9) (2 ^ 32 - 1),
    .bkpPwrOffRequest .sec (2 ^ 32)] : List Instr).all (fun c => !c.wellFormed) = true := by decide

theorem test_ill_formed_is_refused_6 : ([
    .bkpChgWrite (.core 9) (2 ^ 32 - 1),
    .bkpChgWrite .sec (2 ^ 32),
    .tcompSave (.core 9),
    .evrFreeze (.core 9) true,
    .evrClear (.core 9) (2 ^ 32 - 1),
    .evrClear .sec (2 ^ 32),
    .evrWindowLatch (.core 9) true,
    .evrCkptLatch (.core 9),
    .tokenReceive 2 0 0,
    .tokenHoldExpiry 2 0,
    .ringMessageReceive 2 msg true none 0,
    .ringMessageReceive 1 { msg with id := 8 } true none 0,
    .laneRetrainDone true 5,
    .tokenRegenerate 2 0,
    .casTake (.core 9) 255,
    .casTake .sec 256,
    .casRelease (.core 9) 255,
    .casRelease .sec 256,
    .cascadeEnable (.core 9) true,
    .avsRetry (.core 9),
    .sweepRetire (.core 9) 31,
    .sweepRetire .sec 32,
    .sweepRestore (.core 9) 31,
    .sweepRestore .sec 32,
    .coreCacheError 9 true,
    .carafeEccError (.tile 2 1 456965) 0 true,
    .carafeEccError (.tile 1 2 456965) 0 true,
    .carafeEccError (.tile 1 1 456966) 0 true,
    .carafeEccError (.capture 64 [] []) 0 true,
    .flashWrite (.core 9),
    .flashCheckFirmware (.core 9) true,
    .flashCheckRoast (.core 9) true,
    .fwLiveStage (.core 9) {} true,
    .fwLiveSwitch (.core 9),
    .fwLiveCommit (.core 9),
    .fwLiveAbort (.core 9)] : List Instr).all (fun c => !c.wellFormed) = true := by decide

theorem test_operands_at_their_bounds_are_accepted_1 : ([
    .resetEnd 7 true,
    .bootRoastGo .sec,
    .clearAttempts .sec,
    .fullTrain .sec,
    .fullCal .sec,
    .staySafe .sec,
    .slotPreferenceWrite .sec true true,
    .hostSoftReset .sec ⟨2 ^ 32 - 1, true⟩,
    .heartbeatKick .sec,
    .registerWrite .sec (2 ^ 25 + 2 ^ 14 - 4) true (2 ^ 64 - 1) 255,
    .bar0LongWrite .sec (2 ^ 25 - 1) 0,
    .bar2Write .sec,
    .hifSnap .sec,
    .snapshotCopyDone .sec,
    .ownerClaim .sec,
    .ownerRelease .sec,
    .txnBegin .sec,
    .rwtWrite .sec (2 ^ 25 - 4) true (2 ^ 64 - 1),
    .txnCommit .sec 0,
    .txnRollback .sec,
    .crcSuspend .sec true,
    .crcAdopt .sec,
    .roastLoad .sec 3,
    .roastDiscard .sec,
    .raiseFloor .sec,
    .swapRequest .sec (2 ^ 64 - 1) true,
    .swapCancel .sec,
    .scrubTileRead 1 1 456965 true,
    .repairGo .sec,
    .frameReceive 6 {},
    .ringEventHoldoffExpiry (some .inj) 0, .ringEventHoldoffExpiry none 0,
    .dregs .sec 5 true ⟨65535, some 7⟩,
    .txFrameOffer 0 (.output 15),
    .txFrameComplete 6 ⟨0, 0⟩,
    .linkStateChange 6 {},
    .preemptVerifyTimeout 6,
    .mdioWrite .sec 31 31 65535,
    .mdioRead .sec 31 31 65535,
    .mdioC45Address .sec 31 31 65535,
    .mdioC45Read .sec 31 31 65535,
    .mdioDone 65535,
    .portEnable .sec 6 true,
    .ringEnable .sec .inj true,
    .ingressQueueEnable .sec 5 true,
    .parserEnable .sec true] : List Instr).all (fun c => c.wellFormed) = true := by decide

theorem test_operands_at_their_bounds_are_accepted_2 : ([
    .blockShutdownComplete .parser [],
    .stepGo .sec,
    .tsuSampleGo .sec 15 (2 ^ 64 - 1),
    .tdcCalibration 31 (List.replicate 64 0),
    .tsuTimeLatch .sec 0,
    .stageTpl .sec,
    .stageRec .sec,
    .resume .sec,
    .suspend .sec,
    .tplDiscard .sec,
    .ingKeyLoadNext .sec,
    .ingKeyErase .sec,
    .unclaimedClr .sec,
    .cicOutput 255 [] 0,
    .svWaitExpiry 255 0,
    .resamplerOutput 255,
    .phasorEstimate 31 0 0,
    .fltSync .sec 31,
    .fltChainEnable .sec true,
    .fltGroupEnable .sec 31 true,
    .firBankSwapRequest .sec 31 1,
    .kernelBankSwapRequest .sec 1,
    .fadeEnd (some 31),
    .fltCoefWrite .sec (2 ^ 32 - 1),
    .alignerEnable .sec true,
    .hostRingEnable .sec true,
    .lseSummaryLatch .sec,
    .oscCmd .sec 3 4095,
    .oscResultLatch .sec .band,
    .islItemLatch .sec .dev,
    .alarmEngineEnable .sec true,
    .pubRetransmit 15 0,
    .almPinMaskWrite .sec 65535,
    .almFrameMaskWrite .sec 15 (2 ^ 32 - 1) 0,
    .almRuleAck .sec 15 (2 ^ 32 - 1),
    .almTest .sec 65535,
    .almTermLatch .sec,
    .almKeyLoad .sec,
    .almKeyErase .sec,
    .trigInEdge 3 true ⟨200, 0, 0⟩,
    .xtrigEdge 3 ⟨200, 0, 0⟩,
    .capHostTrig .sec 0,
    .xtrigRelease 3 0,
    .xtrigStuck 3 0,
    .xtrigUnstuck 3 0] : List Instr).all (fun c => c.wellFormed) = true := by decide

theorem test_operands_at_their_bounds_are_accepted_3 : ([
    .capArm .sec 15,
    .capDisarm .sec 15,
    .capSlotHold .sec 63,
    .capSlotRelease .sec 63,
    .captureEnable .sec true,
    .meteringCycle 3,
    .pulseStart 7 0,
    .pulseEnd 7 0,
    .nrgSaveNow .sec,
    .energyEnable .sec true,
    .custodyRecordLatch .sec,
    .getwork 8,
    .getworkIdleTimeout 8 0,
    .schWait .sec 1023,
    .waitTimeout 255 0,
    .schSignal .sec 1023,
    .schYield .sec,
    .schExit .sec,
    .schPark .sec,
    .preemptLate 8 0,
    .tcbCreate .sec,
    .tcbSuspend .sec,
    .tcbResume .sec,
    .setPrio .sec,
    .tcbFree .sec,
    .schObjCfgWrite .sec true,
    .flowPost .sec 63,
    .flowDone .sec 63 65535,
    .flowTake .sec 63,
    .flowStallExpiry 63 0,
    .schMigrate .sec 15 15 true,
    .keyDerive .sec 255 255 31,
    .keySign .sec 255,
    .keyVerify .sec,
    .pubkey .sec 255,
    .keyAttest .sec,
    .erase .sec 255,
    .invalidate .sec 255 31,
    .provision .sec 255,
    .debugReq .sec,
    .tamperCfg .sec,
    .fuseBlowGm .sec,
    .fuseBlowTamperKill .sec,
    .fuseBlowDebugAllowed .sec,
    .fuseBlowLcDev .sec] : List Instr).all (fun c => c.wellFormed) = true := by decide

theorem test_operands_at_their_bounds_are_accepted_4 : ([
    .fuseBlowLcProd .sec,
    .fuseBlowLcRma .sec,
    .secRaiseFloor .sec true,
    .burnFloor .sec,
    .tamperDetect 4,
    .secTamperClr .sec (2 ^ 32 - 1) true,
    .rtcSecLatch .sec 0,
    .rtcHold .sec 0,
    .rtcHoldClear .sec 0,
    .osfClear .sec,
    .bkpPwrOffRequest .sec (2 ^ 32 - 1),
    .bkpChgWrite .sec (2 ^ 32 - 1),
    .tcompSave .sec,
    .evrFreeze .sec true,
    .evrClear .sec (2 ^ 32 - 1),
    .evrWindowLatch .sec true,
    .evrCkptLatch .sec,
    .tokenReceive 1 0 0,
    .tokenHoldExpiry 1 0,
    .ringMessageReceive 1 msg true none 0,
    .laneRetrainDone true 4,
    .tokenRegenerate 1 0,
    .casTake .sec 255,
    .casRelease .sec 255,
    .cascadeEnable .sec true,
    .avsRetry .sec,
    .sweepRetire .sec 31,
    .sweepRestore .sec 31,
    .coreCacheError 8 true,
    .carafeEccError .heap 0 true,
    .flashWrite .sec,
    .flashCheckFirmware .sec true,
    .flashCheckRoast .sec true,
    .fwLiveStage .sec {} true,
    .fwLiveSwitch .sec,
    .fwLiveCommit .sec,
    .fwLiveAbort .sec] : List Instr).all (fun c => c.wellFormed) = true := by decide

/-! ### The hypotheses of the claims -/

theorem test_meets_FusesChangeByTheirCommandsOnly :
    (run (.burnFloor .sec) ({ up with fw := { up.fw with stage1Svn := 3 } }.set Reg.SEC_STATUS.LIFECYCLE 3)).fuses ≠ up.fuses := by
  decide +kernel
theorem test_meets_EveryStepKeepsTheRegisterFiles : up.filesOk = true ∧ step up = .next up := ⟨by decide, rfl⟩
theorem test_meets_GuardedCommandsAreRefused :
    (Instr.bootRoastGo .pf0).register = some (true, .pf0, Reg.BOOT_ROAST_GO.GO.base) ∧ up.filesOk = true ∧ up.silent .pf0 = false ∧
    up.mayGuard .pf0 = false ∧ Reg.HIF_OWNER_SIG.SIG.base % 4 = 0 ∧ Reg.KEY_LABEL.LABEL.base % 0x10000 < 0x8000 ∧
    guardedAt Reg.CFG_SWAP_CTL.REQUEST.base = true ∧ Reg.CFG_SWAP_CTL.REQUEST.base % 4 = 0 ∧ Reg.CFG_SWAP_CTL.REQUEST.base % 0x10000 < 0x8000 := by
  decide
theorem test_meets_ObserverCommandsAreRefused :
    (Instr.parserEnable .pf1 true).register = some (false, .pf1, Reg.ING_CTL.EN.base) ∧ up.filesOk = true ∧ up.boot.inReset = false := by decide
theorem test_meets_NoRegisterCommandActsInReset :
    (Instr.parserEnable (.core 0) true).register = some (false, .core 0, Reg.ING_CTL.EN.base) ∧ State.reset.silent (.core 0) = true ∧
    Instr.parserEnable (.core 0) true ≠ .hostSoftReset (.core 0) ⟨0x5AFE0001, true⟩ ∧ (up.setCoreState 8 1).silent (.core 8) = true ∧
    up.boot.inReset = false := by decide
theorem test_meets_MalformedWritesAreDiscarded :
    up.filesOk = true ∧ up.silent .pf1 = false ∧ 2 < 3 ∧ 14 % (if false then 256 else 16) ≠ (if false then 255 else 15) ∧
    127 % (if true then 256 else 16) ≠ (if true then 255 else 15) ∧ (2 ^ 25 - 1) / 4 * 4 < bar4Base ∧ bar4Base ≤ 2 ^ 25 / 4 * 4 := by
  decide

/-- A device whose owner has a transaction open. -/
def txn : State := run (.txnBegin .sec) up

theorem test_meets_RwtWritesAreStaged :
    rdy txn .sec = true ∧ Reg.CFG_CRC_COMMIT.REF.base % 4 = 0 ∧ rwtAt Reg.CFG_CRC_COMMIT.REF.base = true ∧
    txn.mayWrite .sec Reg.CFG_CRC_COMMIT.REF.base = true ∧ txn.mayStage .sec = true ∧ txn.cfg.staged.length < 1024 ∧
    up.mayStage .sec = false := by decide +kernel
theorem test_meets_RwtWritesAreStaged_at_the_limit :
    let s : State := { txn with cfg := { txn.cfg with staged := (List.range 1024).map fun k => (k, 0) } }
    rdy s .sec = true ∧ s.mayStage .sec = true ∧ alookup Reg.CFG_CRC_COMMIT.REF.base s.cfg.staged = none ∧ 1024 ≤ s.cfg.staged.length := by
  decide +kernel
theorem test_meets_ResetsClearRegisters : up.filesOk = true ∧ up.boot.inReset = false ∧ up.silent .sec = false ∧ up.mayGuard .sec = true ∧
    ({ up with boot := { up.boot with wdtOn := true } } : State).boot.wdtOn = true := by decide
/-- A reset in force of each kind next to the lower and the higher one, with supplies up and with VDD_SD below 0.70 V. -/
theorem test_meets_ResetsClearRegisters_in_force :
    let h (k mv : Nat) : State := { State.reset with
      boot := { State.reset.boot with kind := k }, env := { State.reset.env with io18 := true, io33 := true, sdMv := mv } }
    ((List.range 5).all fun k => (h k 700).filesOk && (h k 700).boot.inReset && !(h k 700).boot.wdtOn && (h k 700).boot.kind == k &&
      decide (700 ≤ (h k 700).env.sdMv) && (h k 700).env.io18 && (h k 700).env.io33) = true ∧ (h 0 699).env.sdMv < 700 ∧
    (Instr.watchdogExpiry true, 3) ∈ [(Instr.powerOnReset 0 true {} true, 0), (.resetNAssert 200 true, 1),
      (.hostSoftReset .sec ⟨0x5AFE0001, true⟩, 2), (.watchdogExpiry true, 3)] := by decide
theorem test_meets_StartBeginsAtStepOne : State.reset.filesOk = true ∧ State.reset.boot.inReset = true := by decide

/-- A start in progress at a step, with a number of attempts. -/
def atStep (k attempts : Nat) : State := ((up.set Reg.BOOT_STATUS.STATE 0).set Reg.BOOT_STATUS.STEP k).setLed Reg.BOOT_LEDGER.ATTEMPTS k attempts

theorem test_meets_LedgerStepEntersTheNext : [1, 5, 6, 11, 13].all (fun k =>
    (atStep k 1).filesOk && (atStep k 1).booting && (atStep k 1).get Reg.BOOT_STATUS.STEP == k) = true := by decide +kernel
theorem test_meets_LedgerStepFailureResets : ((List.range' 1 16).all fun k => [1, 2, 3].all fun a =>
    (atStep k a).filesOk && (atStep k a).booting && (atStep k a).led Reg.BOOT_LEDGER.ATTEMPTS k == a &&
    (k == 16 || (if k = 15 then { atStep k a with pace := { up.pace with judged := true } } else atStep k a).stepRefuses k
      { ok := false, flashErr := true })) = true := by decide +kernel
theorem test_meets_HeartbeatAndPower :
    let s : State := { up with boot := { up.boot with wdtOn := true }, backup := { up.backup with offReq := some 0 } }
    s.filesOk = true ∧ s.boot.inReset = false ∧ s.boot.wdtOn = true ∧ rdy s .sec = true ∧ s.coreUp 0 = true ∧ s.backup.offReq = some 0 ∧
    s.nrg.saving = none ∧ 0 + 100 * msUnit ≤ (s.moveTo (100 * msUnit)).time.elapsed := by decide +kernel
theorem test_meets_FlashCommands : rdy up .sec = true ∧ up.get Reg.BOOT_FLASH_CMD.BUSY = 0 ∧ up.flashInUse = [] ∧
    ({ up with boot := { up.boot with flash := some (1, true) } } : State).boot.flash = some (1, true) := by decide
theorem test_meets_LiveFirmwareUpdate :
    let s : State := { up.set Reg.BOOT_FW_LIVE.STATE 2 with fw := { up.fw with staged := some ([], 1, 2) } }
    rdy up .sec = true ∧ up.get Reg.BOOT_FW_LIVE.STATE ≠ 2 ∧ up.coreState 8 = 1 ∧ (up.set Reg.BOOT_FW_LIVE.STATE 1).get Reg.BOOT_FW_LIVE.STATE = 1 ∧
    rdy s .sec = true ∧ s.get Reg.BOOT_FW_LIVE.STATE = 2 ∧ s.fw.staged = some ([], 1, 2) := by decide +kernel
theorem test_meets_SnapshotsTakeTheTime : up.filesOk = true ∧ up.silent .sec = false ∧ Requester.sec.holdSet ∉ up.host.snapBusy ∧
    Requester.sec.holdSet ∈ (run (.hifSnap .sec) up).host.snapBusy := by decide +kernel
theorem test_meets_OwnerClaims : up.filesOk = true ∧ up.boot.inReset = false ∧ up.get Reg.HIF_OWNER.STATE ∉ [1, 2] ∧ up.keySlot 4 = none ∧
    (let k := up.putSlot 4 { valid := true }
     let d : State := { k with host := { k.host with deniedAt := some 0 } }
     k.keySlot 4 ≠ none ∧ k.host.deniedAt = none ∧ d.get Reg.HIF_OWNER.STATE ∉ [1, 2] ∧
     d.keySlot 4 ≠ none ∧ d.host.deniedAt = some 0 ∧ d.time.elapsed - 0 < secUnit ∧
     (k.set Reg.HIF_OWNER.STATE 1).get Reg.HIF_OWNER.STATE = 1 ∧ (k.set Reg.HIF_OWNER.STATE 1).slotValue 4 = some []) := by
  decide +kernel
theorem test_meets_OwnerStateEnds :
    let s := (up.set Reg.HIF_OWNER.STATE 2).set Reg.CFG_TXN_STATUS.STATE 1
    s.filesOk = true ∧ s.boot.inReset = false ∧ s.get Reg.HIF_OWNER.STATE = 2 ∧ s.get Reg.CFG_TXN_STATUS.STATE = 1 ∧
    s.get Reg.CFG_TXN_STATUS.OWNER = 0 := by decide +kernel
theorem test_meets_TransactionsBeginAndRollBack : rdy up .sec = true ∧ up.get Reg.CFG_TXN_STATUS.STATE = 0 ∧
    txn.get Reg.CFG_TXN_STATUS.STATE ≠ 0 ∧ rdy txn .sec = true ∧ txn.mayStage .sec = true ∧ txn.get Reg.CFG_TXN_STATUS.STATE = 1 := by
  decide +kernel
theorem test_meets_ConfigurationCrcScans :
    let s := ({ up with cfg := { up.cfg with scan := some 5 } }.setFlag Reg.CFG_CRC_CTL.SUSPEND true).set Reg.CFG_CRC_CTL.ADOPT 1
    s.filesOk = true ∧ s.boot.inReset = false ∧ s.cfg.scan = some 5 ∧ s.get Reg.CFG_CRC_CTL.ADOPT = 1 ∧
    s.flag Reg.CFG_CRC_CTL.SUSPEND = true ∧ rdy s .sec = true ∧ s.flag Reg.CFG_CRC_CTL.SUSPEND ≠ false := by decide +kernel
theorem test_meets_LogFreezes : mayW up (.core 0) = true ∧ up.filesOk = true ∧ up.boot.inReset = false ∧ up.evr.held = [] ∧ up.evr.lost = 0 ∧
    (run (.evrFreeze .sec true) up).evr.frozenAt.isSome = true := by decide +kernel

/-- COMMIT at the last instant before the timeout, and at it. -/
theorem test_meets_CommitsWaitOrTakeEffect :
    let s : State := { txn with cfg := { txn.cfg with staged := [(Reg.CFG_CRC_COMMIT.REF.base, 7)] } }
    rdy s .sec = true ∧ (s.moveTo (1000 * msUnit)).mayStage .sec = true ∧
    (s.moveTo (1000 * msUnit)).cfg.beginAt + 1000 * msUnit ≤ (s.moveTo (1000 * msUnit)).time.elapsed ∧
    (s.moveTo (1000 * msUnit - 1)).time.elapsed < s.cfg.beginAt + 1000 * msUnit ∧ s.flag Reg.CFG_TXN_STATUS.OVERFLOW = false ∧
    (s.setFlag Reg.CFG_TXN_STATUS.OVERFLOW true).flag Reg.CFG_TXN_STATUS.OVERFLOW = true ∧ s.swapPending = false ∧
    (s.set Reg.CFG_SWAP_RESULT.STATE 2).swapPending = true ∧ s.blockRuns .aligner = false ∧
    (s.setFlag Reg.ALN_CTL.BUSY true |>.setFlag Reg.ALN_CTL.EN true).blockRuns .aligner = true := by decide +kernel
theorem test_meets_ShadowRoastsLoad : rdy up .sec = true ∧ 2 % 4 ≠ 3 ∧ up.swapPending = false ∧ up.get Reg.CFG_ROAST_STATUS.SHADOW ∉ [1, 4] ∧
    (∀ v ∈ [1, 2, 3, 4], (up.set Reg.CFG_ROAST_STATUS.SHADOW v).get Reg.CFG_ROAST_STATUS.SHADOW = v) := by decide +kernel
theorem test_meets_TilesAreRepaired :
    let d : LoadReport := { image := { tiles := [[1], [2]] } }
    let x : Section := { kind := 0x10, tileCount := 2, digest := Config.sha512 d.image.tiles.flatten }
    let s : State := ({ up with roasts := { up.roasts with region0 := some { secs := [x] }, repairQueue := [(0, 0)], repairBusy := true } }.set
      Reg.CFG_ROAST_STATUS.REPAIR_REQ 1)
    (rdy s .sec = true ∧ (((s.region 0).getD {}).sectionOf 1).isSome = true ∧ s.copyBad 0 0 1 = false ∧ s.roasts.repairQueue = (0, 0) :: [] ∧
     d.flashErr = false ∧ d.dmaErr = false ∧ s.regionHost 0 = false ∧ s.roasts.repairBusy = true ∧ s.get Reg.CFG_ROAST_STATUS.REPAIR_REQ = 1) ∧
    (((s.region 0).getD {}).secs)[0]? = some x ∧ Config.sha512 d.image.tiles.flatten = x.digest :=
  ⟨by decide +kernel, rfl, rfl⟩
theorem test_meets_BlocksFollowTheEnableTable :
    [Block.port 6, .ring .inj, .ingQueue 5, .parser, .filter, .filterGroup 31, .aligner, .hostRing, .alarm, .capture, .energy, .cascade].all
      (fun b => b.wellFormed && decide (up.get Reg.BOOT_STATUS.STATE < 2) && !up.flag b.en && !up.flag b.busy && !up.flag b.pend &&
        (up.setFlag b.busy true).flag b.busy && (up.setFlag b.en true).flag b.en && (up.setFlag b.pend true).flag b.pend) = true ∧
    mayW up (.core 0) = true ∧ (up.setFlag (Block.busy .parser) true).stopping .parser = true ∧
    (up.setFlag (Block.busy .parser) true).quiet .parser = true ∧ up.takesEnable .parser true = true := by decide +kernel
/-- A core writes EN before its block's step (STEP 4, cores run from step 4 on), and in safe mode, where no core runs, the security core. -/
theorem test_meets_BlocksFollowTheEnableTable_elsewhere :
    let s := (up.set Reg.BOOT_STATUS.STATE 0).set Reg.BOOT_STATUS.STEP 11
    let v := up.set Reg.BOOT_STATUS.STATE 2
    mayW s (.core 0) = true ∧ s.mayStart .parser = false ∧ s.flag (Block.en .parser) = false ∧ s.flag (Block.busy .parser) = false ∧
    mayW v .sec = true ∧ 2 ≤ v.get Reg.BOOT_STATUS.STATE ∧ v.takesEnable .parser true = true ∧ up.redMode = 0 ∧ up.ringUnused .inj = false ∧
    (up.setFlag (Block.pend .parser) true).flag (Block.pend .parser) = true := by decide +kernel

/-- A block that runs. -/
def on (s : State) (b : Block) : State := (s.setFlag b.en true).setFlag b.busy true

/-- A record of n bytes with little-endian fields given as offset, bytes and value. -/
def rcd (n : Nat) (xs : List (Nat × Nat × Nat)) : Bytes :=
  xs.foldl (fun b x => b.take x.1 ++ leBytes x.2.1 x.2.2 ++ b.drop (x.1 + x.2.1)) (List.replicate n 0)

/-- A roast with a slice rate, given sections, and every lane in its LANE_EN. -/
def roastOf (rate : Nat) (secs : List (Nat × List Bytes)) : Roast :=
  { header := rcd 128 [(0x28, 2, rate), (0x2C, 4, 255)], secs := secs.map fun x => { kind := x.1, recs := x.2 } }

/-- The device with a roast active. -/
def withRoast (r : Roast) : State := { up with roasts := { up.roasts with region0 := some r } }

theorem test_meets_LogRecordsTakePositions :
    let r : LogRec := { time := 0, code := 0x0101, source := 0, timeInvalid := true, suppressed := 0, data := List.replicate 47 1 }
    let s : State := { up with evr := { up.evr with mounted := true, ready := [r], clearing := some 2 } }
    let q : State := { s with evr := { s.evr with clearing := none } }
    s.filesOk = true ∧ s.boot.inReset = false ∧ q.filesOk = true ∧ q.boot.inReset = false ∧ q.evr.frozenAt = none ∧
    q.evr.clearing = none ∧ q.evr.mounted = true ∧ q.evr.ready = [r] ∧ r.entries = 2 ∧
    q.nvs.log.length + r.entries < logPositions ∧ up.mayGuard .sec = true ∧ up.evr.clearing = none ∧ s.evr.clearing = some 2 := by
  decide +kernel

theorem test_meets_SwapsAreJudged :
    let x : EngineRun := { e := 0, start := 0, stop := 300 * usUnit, rate := some 2500000000 }
    let s : State := { up.set Reg.CFG_ROAST_STATUS.SHADOW 2 with
      roasts := { up.roasts with region0 := some (roastOf 50 []), region1 := some (roastOf 50 [(1, [rcd 16 [(4, 4, 2000)]])]) }
      pace := { up.pace with lastCert := some [x] } }
    let m : State := { s with pace := { s.pace with lastCert := none } }
    let e : State := { s with roasts := { s.roasts with region1 := some (roastOf 60 []) } }
    rdy s .sec = true ∧ s.get Reg.CFG_SWAP_RESULT.STATE = 0 ∧ s.get Reg.CFG_TXN_STATUS.STATE ≠ 2 ∧ s.get Reg.CFG_ROAST_STATUS.SHADOW = 2 ∧
    s.otherRoast.rate = s.fs ∧ s.otherRoast.laneWord = s.roast.laneWord ∧ sliceOf s.fs s.time.tai < 1 ∧
    16777216 ≤ sliceOf s.fs s.time.tai + 16777216 ∧ s.openFrom 1 = false ∧ s.openFrom 16777216 = false ∧ s.swapMargin = true ∧
    s.aln.slices = [] ∧ 0 ≤ sliceOf s.fs s.time.tai ∧ sliceOf s.fs s.time.tai + 16777216 < 16777217 ∧
    (s.setSlice { n := 9, slots := [(0, { v := { re := fZero, im := fZero }, q := 0 })] }).openFrom 9 = true ∧ m.swapMargin = false ∧ e.get Reg.CFG_ROAST_STATUS.SHADOW = 2 ∧
    e.otherRoast.rate ≠ e.fs ∧ up.get Reg.CFG_ROAST_STATUS.SHADOW ≠ 2 ∧ up.get Reg.CFG_SWAP_RESULT.STATE = 0 ∧
    (up.set Reg.CFG_SWAP_RESULT.STATE 1).get Reg.CFG_SWAP_RESULT.STATE = 1 := by
  decide +kernel
theorem test_meets_SwapsAreJudged_cancel_and_retire :
    (up.set Reg.CFG_SWAP_RESULT.STATE 2).get Reg.CFG_SWAP_RESULT.STATE = 2 ∧ up.openFrom up.roasts.swapD = false ∧
    (let s := up.set Reg.CFG_ROAST_STATUS.SHADOW 4
     s.get Reg.CFG_ROAST_STATUS.SHADOW = 4 ∧ s.roasts.retireEnd ≤ (s.moveTo 5).time.tai ∧ ∀ r ∈ s.runs, s.roasts.retireD ≤ r.n) := by
  decide +kernel
theorem test_meets_EnginesStartAndStop :
    let s := withRoast (roastOf 50 [])
    mayW s (.core 0) = true ∧ s.get Reg.BOOT_STATUS.STATE < 2 ∧ s.roast.laneEn 6 = true ∧ up.roast.laneEn 6 = false ∧
    s.flag (Block.port 6).en = false ∧ s.flag (Block.port 6).busy = false ∧ (on s (.port 6)).flag (Block.port 6).en = true ∧
    (on s (.port 6)).flag (Block.port 6).pend = false ∧ ((on s (.port 6)).setFlag (Block.port 6).en false).stopping (.port 6) = true ∧
    ((on s (.port 6)).setFlag (Block.port 6).en false).quiet (.port 6) = true ∧
    ((on s .cascade).setFlag (Block.en .cascade) false).stopping .cascade = true ∧
    ([Block.port 6, .aligner, .alarm, .energy, .cascade, .filter].all fun b => s.mayStart b && !s.flag b.en && !s.flag b.busy &&
      !s.flag b.pend && (on s b).flag b.en && (on s b).flag b.busy && !(on s b).flag b.pend) = true := by decide +kernel
theorem test_meets_EnginesStartAndStop_groups :
    let b : Bytes := [2, 31] ++ List.replicate 100 0
    let s := withRoast (roastOf 50 [(0x19, [b])])
    let g := Block.filterGroup 31
    (s.roast.groupRec 31).isSome = true ∧ (s.setFlag g.en true).flag g.en = true ∧ (s.setFlag g.en true).flag Reg.FLT_CTL.EN = false ∧
    (s.setFlag g.en true).flag Reg.FLT_CTL.BUSY = false ∧ (on s .filter).blockRuns .filter = true ∧ (on s .filter).flag g.en = false ∧
    (on s .filter).flag g.busy = false ∧ (on s .filter).flag g.pend = false ∧ (on s g).flag g.en = true ∧ (on s g).flag g.pend = false := by
  decide +kernel
theorem test_meets_LinksAndManagement :
    let s := ((on up (.port 6)).setFlag Reg.MACM0_EEE.EN true).set Reg.MACM0_RGMII_CFG.SPEED 1
    s.flag Reg.MACM0_EEE.EN = true ∧ 1 ≤ s.get Reg.MACM0_RGMII_CFG.SPEED ∧ (s.port 6).topQueue = none ∧ (s.port 6).cur = none ∧
    (s.port 6).waking = false ∧ s.flag (Reg.MAC_STATUS.LPI_TX.ix 6) = false ∧ s.portOn 6 = true ∧
    ((s.setPort 6 { waking := true }).port 6).waking = true ∧ true ≠ s.flag (Reg.MAC_STATUS.LPI_RX.ix 6) ∧ mayW s (.core 0) = true ∧
    (s.set (Reg.MAC_STATUS.VERIFY.ix 6) 1).get (Reg.MAC_STATUS.VERIFY.ix 6) = 1 ∧ s.flag Reg.MACM0_MDIO.GO = false ∧
    (run (.mdioC45Read .sec 31 31 65535) s).ports.mdio = some 3 := by decide +kernel

/-- Fast port 1 with a running ring that takes broadcast frames. -/
def rxUp : State :=
  let s := ((on (on up (.port 1)) (.ring (.rx 1 2))).set (Ring.rx 1 2).tail 5).setFlag (Reg.MAC_RXRING.OWNER.ix2 1 2) true
  ((s.setFlag (Reg.MAC_FILT_CFG.BCAST.ix 1) true).set (Reg.MAC_CLASS_CFG.GROUP_RING.ix 1) 2).set (Reg.MAC_MAXLEN.LEN.ix 1) 1518
/-- The shortest broadcast frame. -/
def rxFrame : RxFrame := { bytes := List.replicate 6 255 ++ List.replicate 54 7, stamp := 1000, bufs := [4096] }

theorem test_meets_FramesAreReceived :
    let u := rxUp.moveTo 1000
    rxUp.filesOk = true ∧ u.portOn 1 = true ∧ u.portOn 2 = false ∧ bitAt u.boot.timing 2 = false ∧ rxFrame.kind = .data ∧
    rxFrame.fragments = 0 ∧ rxFrame.sfdOk = true ∧
    rxFrame.assembled = true ∧ 60 ≤ rxFrame.bytes.length ∧ rxFrame.bytes.length + 4 ≤ u.get (Reg.MAC_MAXLEN.LEN.ix 1) ∧
    rxFrame.fcsOk = true ∧ (viewOf rxFrame.bytes).etype ≠ 0x8808 ∧ u.addrFilter 1 rxFrame.bytes = true ∧
    u.vlanFilter 1 rxFrame.bytes = true ∧ u.classify 1 rxFrame.bytes = .ring 2 2 ∧ rxFrame.fifoFits = true ∧
    u.blockRuns (.ring (.rx 1 2)) = true ∧ u.ringHost (.rx 1 2) = true ∧ ceilDiv rxFrame.bytes.length 2048 ≤ u.ringAvail (.rx 1 2) ∧
    (u.setFlag (Reg.MAC_FILT_CFG.BCAST.ix 1) false).addrFilter 1 rxFrame.bytes = false := by decide +kernel
theorem test_meets_RingEventsAndDregs :
    let k : IngPacket := { seq := 65535 }
    let s : State := { up with ports := { up.ports with ringEv := [(.rx 1 2, (0, true))], ing := [(5, { packets := [k] })] } }
    let a := on up (.ingQueue 5)
    alookup (.rx 1 2) s.ports.ringEv = some (0, true) ∧ 0 + s.get (Ring.rx 1 2).holdoff * usUnit ≤ (s.moveTo (msUnit * 1000)).time.elapsed ∧
    mayW s (.core 0) = true ∧ s.redMode = 0 ∧ (up.set Reg.MACS0_RED_CFG.MODE 1).redMode ≠ 0 ∧ (s.ingQ 5).packets = [k] ∧
    k.seq = 131071 % 65536 ∧ k.seq ≠ 65536 % 65536 ∧
    ({ up with aln := { up.aln with hostEv := some (0, true) } } : State).aln.hostEv = some (0, true) ∧
    0 + up.get Reg.ALN_HOST_RING.HOLDOFF * usUnit ≤ (up.moveTo (msUnit * 1000)).time.elapsed ∧
    (a.ingQ 5).packets = [] ∧ (a.ingQ 5).nextSeq = 65536 % 65536 ∧ a.blockRuns (.ingQueue 5) = true ∧ (a.ingQ 5).cut = false := by
  decide +kernel
theorem test_meets_TicksApplySteps :
    let s : State := { up with time := { up.time with hostStep := some (-5) } }
    let l : State := { up with time := { up.time with slew := 7 } }
    let r : State := { l with roasts := (withRoast (roastOf 50 [(0x18, [rcd 32 [(0x14, 4, 100000)]])])).roasts }
    s.alnUp = false ∧ s.tickAt msUnit = true ∧ s.tickAt (msUnit - 1) = false ∧ s.time.servoStep = none ∧ s.time.hostStep = some (-5) ∧
    up.time.hostStep = none ∧ up.time.stepped = none ∧ rdy up .sec = true ∧ up.time.slew = 0 ∧ l.time.slew ≠ 0 ∧
    l.slewRate = 0 ∧ r.time.slew ≠ 0 ∧ 0 < r.slewRate ∧ up.boot.inReset = false := by decide +kernel
/-- R200: 1 µs at SLEW_PPB 100,000 takes 10 ms, which are 8,000,000 cycles, and one more for the rate's rounding to 2^-48. -/
theorem test_slew_completes :
    let s := (withRoast (roastOf 50 [(0x18, [rcd 32 [(0x14, 4, 100000)]])])).startSlew (-65536000)
    let t := run .slewComplete s
    s.flag Reg.TSU_STATUS.SLEW = true ∧ t.flag Reg.TSU_STATUS.SLEW = false ∧ t.time.slew = 0 ∧ t.time.cycles = s.time.cycles + 8000001 := by
  decide +kernel
theorem test_meets_LeapsAndPulses :
    let s := ((up.set Reg.TSU_UTC.PENDING 2).setFlag Reg.TSU_PPS_OUT.EN true).setFlag Reg.TSU_PPS_OUT.FREE true
    let w : State := { s with time := { s.time with ppsUntil := some secUnit } }
    s.time.leapHeld = 0 ∧ (s.moveTo (86399 * secUnit)).leapDue (86399 * secUnit - 1) = some (86399 * secUnit, true) ∧ -30000 ≤ s.utcOffset ∧ s.utcOffset ≤ 30000 ∧
    s.flag Reg.TSU_PPS_OUT.EN = true ∧ s.flag Reg.TSU_PPS_OUT.FREE = true ∧ s.pinsLive = true ∧ (s.moveTo secUnit).time.tai = secUnit ∧
    secUnit % secUnit = 0 ∧ (secUnit - 1) % secUnit ≠ 0 ∧ w.time.ppsUntil = some secUnit ∧ s.time.ppsUntil = none ∧
    (∀ h ∈ List.replicate 63 4096 ++ [32768], 4096 ≤ h ∧ h ≤ 32768) ∧ (∃ h ∈ [4095], h < 4096 ∨ 32768 < h) := by decide +kernel

/-- Fast port 1 with a link, its transmit rings 0 and 3 on queues 0 and 6, and output stream 15 on queue 6. -/
def txUp : State :=
  let s := withRoast (roastOf 50 [(0x15, [rcd 64 [(0, 1, 1), (1, 1, 15), (2, 1, 1), (3, 1, 6)]]), (0x58, [rcd 48 [(0, 1, 3), (1, 1, 255),
    (0x16, 2, 0xFFFF), (0x14, 2, 0xFFFF)], rcd 16 [(0, 1, 2), (1, 1, 1), (4, 4, 1000), (8, 4, 2000)],
    rcd 16 [(0, 1, 2), (1, 1, 1), (2, 1, 6), (4, 4, 1000), (8, 4, 2000)]])])
  let s := on (on (on s (.port 1)) (.ring (.tx 1 0))) (.ring (.tx 1 3))
  let s := ((s.set (Ring.tx 1 0).tail 5).set (Ring.tx 1 3).tail 5).set (Reg.MAC_TXRING.QUEUE.ix2 1 3) 6
  (s.setFlag (Reg.MAC_STATUS.LINK.ix 1) true).set (Reg.MAC_MAXLEN.LEN.ix 1) 1518
/-- A frame from port 1's address. -/
def txBytes : Bytes := List.replicate 6 255 ++ txUp.srcMac 1 ++ List.replicate 48 7

theorem test_meets_FramesAreSent : ([(0, 0), (3, 6)].all fun e =>
    let u := txUp.moveTo 1000
    let f : TxFrame := { src := .ring 1 e.1, bytes := txBytes.take (60 % 2 ^ 14), descAddr := u.descAt (.tx 1 e.1) 0, descWord := 60 }
    let g : TxFrame := { f with bytes := List.replicate 60 255 }
    txUp.filesOk && e.2 == u.get (Reg.MAC_TXRING.QUEUE.ix2 1 e.1) && u.blockRuns (.ring (.tx 1 e.1)) && u.ringAvail (.tx 1 e.1) != 0 &&
    u.blockRuns (.port 1) && u.hasRoom 1 e.2 && decide (e.2 < (u.port 1).queues.length) && u.flag (Reg.MAC_STATUS.LINK.ix 1) &&
    u.paired 1 f == false && u.saucerReason 1 e.2 (60 % 2 ^ 14) f == none && u.saucerReason 1 e.2 (60 % 2 ^ 14) g == some 2) = true := by
  decide +kernel
theorem test_meets_FramesAreSent_output_and_end :
    let x : Nat × Nat × Bytes × Tai := (15, 7, txBytes, 900)
    let s : State := { txUp with sch := { txUp.sch with outHeld := [x] } }
    let u := s.moveTo 1000
    let f : TxFrame := { src := .ostream 15, bytes := x.2.2.1 }
    (u.roast.outRec 15).map (fun b => (leAt b 2 1, leAt b 3 1)) = some (1, 6) ∧ u.sch.outHeld = [x] ∧ x.2.2.2 ≤ u.time.tai ∧
    u.txRoom 1 6 f = true ∧ u.saucerReason 1 6 x.2.2.1.length f = none ∧
    ((txUp.setPort 6 { cur := some (7, f) }).moveTo 5).port 6 = { cur := some (7, f) } := by decide +kernel

/-- A roast with four references: 1 host samples, 2 IRIG-B, 3 PPS, 4 10 MHz. -/
def refUp : State := (withRoast (roastOf 50 [(0x18, [rcd 32 [(1, 1, 4)], rcd 32 [(0, 1, 1), (1, 1, 0)], rcd 32 [(0, 1, 1), (1, 1, 1)],
  rcd 32 [(0, 1, 1), (1, 1, 2)], rcd 32 [(0, 1, 1), (1, 1, 3)]])])).set Reg.TSU_STATUS.STATE 3

theorem test_meets_ReferencesAreSampled :
    let u := refUp.moveTo 1000
    let l : State := u.setRefHist 2 { lastTod := some (5, 86399, false) }
    refUp.filesOk = true ∧ 1 ≠ u.selected ∧ 2 ≠ u.selected ∧ 3 ≠ u.selected ∧ 4 ≠ u.selected ∧ u.roast.refOfKind 1 = some 2 ∧
    u.roast.refOfKind 2 = some 3 ∧ u.roast.refOfKind 3 = some 4 ∧ u.tsu = 3 ∧ bitAt (leAt (u.roast.refRec 2) 5 1) 2 = false ∧
    (u.refHist 2).lastTod = none ∧ (l.refHist 2).lastTod = some (5, 86399, false) ∧ irigFollows (5, 86399, false) 7 0 = false ∧
    irigFollows (5, 86399, false) 6 0 = true ∧ mayW refUp (.core 0) = true ∧ 1 ≤ refUp.roast.refCount ∧ refKind (refUp.roast.refRec 1) = 0 := by
  decide +kernel

/-- A device of a cascade that may take over for 0 and 7. -/
def casUp : State :=
  ((on (withRoast (roastOf 50 [(0x60, [rcd 16 [(0, 1, 1), (2, 1, 0x81), (4, 2, 100), (6, 2, 4)]])])) .cascade).set Reg.CAS_STATUS.ID 3).setFlag
    Reg.TSU_STATUS.TIME_VALID true

theorem test_meets_RingsWrapAndPassTokens :
    let s : State := { casUp with cas := { casUp.cas with gens := [(1, 5)], token := [(1, 5)] } }
    s.filesOk = true ∧ s.roast.has 0x60 = true ∧ (s.set (lanesFld true) 4).get (lanesFld true) ≠ 0 ∧
    (alookup 1 s.cas.gens).getD 0 ≤ 5 ∧ s.cas.out = [] ∧ alookup 1 s.cas.token = some 5 ∧ s.operating = true ∧
    (alookup 0 s.cas.seenAt).getD 0 + 2 * s.rotation + 10 * usUnit ≤ (s.moveTo (2 * msUnit)).time.elapsed ∧
    (∀ p, p < 3 → s.bit Reg.CAS_PEER.PRESENT p = false) ∧ s.casId = 3 ∧ alookup 0 s.cas.token = none := by decide +kernel
theorem test_meets_CascadeCommands :
    let u := casUp.moveTo (2 * secUnit)
    let v : State := (u.set Reg.BOOT_STATUS.STATE 1).set Reg.CAS_STATUS.ID 0
    rdy casUp .sec = true ∧ ([0, 7].all fun p => bitAt casUp.roast.standbyFor p && !casUp.bit Reg.CAS_PEER.TAKEN p && casUp.mayTake p &&
      casUp.originates (.takeover p)) = true ∧ casUp.cas.takes = [] ∧ u.alnUp = false ∧ u.roast.has 0x60 = true ∧
    msg.id < 8 ∧ msg.id ≠ u.casId ∧ (u.peer msg.id).tag ≠ { msg with tag := 9 }.tag ∧ v.operating = true ∧ v.roast.ppsMaster = v.casId ∧
    u.roast.ppsMaster ≠ u.casId ∧ (2 * secUnit) % secUnit = 0 ∧ (2 * secUnit - 1) % secUnit ≠ 0 ∧
    v.flag Reg.TSU_STATUS.TIME_VALID = true ∧ u.cas.ppsMissed = false ∧ 2 * u.cas.ppsAt + 3 * secUnit ≤ 2 * u.time.elapsed := by
  decide +kernel

/-- A parser that runs, with a packet in a queue. -/
def parUp (src : Nat) (good : Bool) : State :=
  { on up .parser with ports := { up.ports with ing := [(src, { packets := [{ seq := 1, good := good }] })] } }

theorem test_meets_PacketsAreParsed : ([(0, true), (5, false)].all fun e =>
    let u := (parUp e.1 e.2).moveTo 100
    (parUp e.1 e.2).filesOk && !u.alnUp && u.blockRuns .parser &&
    ((List.range 7).map fun i => (u.ing.last + 1 + i) % 7).find? u.sourceReady == some e.1 && !(u.ingQ e.1).packets.isEmpty) = true := by
  decide +kernel
theorem test_meets_PacketsAreParsed_stale :
    let s : State := { withRoast (roastOf 50 [(0x11, [rcd 64 [(0, 1, 4)]])]) with
      ing := { up.ing with subs := [(tplGooseKey (rcd 64 [(0, 1, 4)]), { rx := 0, ttl := 5 })] } }
    s.roast.gooseTpls ≠ [] ∧ (∀ tpl ∈ s.roast.gooseTpls, (alookup (tplGooseKey tpl) s.ing.subs).isSome = true) ∧
    s.alnUp = false := by decide +kernel
/-- A roast with a stream record of kind 3 and one of kind 1. -/
def strUp : State := withRoast (roastOf 50 [(0x10, [rcd 64 [(0, 1, 1), (2, 1, 1), (6, 1, 1), (0x20, 2, 0)], rcd 64 [(0, 1, 3)]]),
  (0x11, [rcd 64 [(0, 1, 1), (8, 4, 0xFFFFFFFF)]])])

theorem test_meets_TemplateCommands :
    rdy strUp .sec = true ∧ strUp.flag Reg.ING_TPL_STATUS.BUSY = false ∧ strUp.ing.staged.length < 32 ∧ strUp.alnUp = false ∧
    strUp.resumeFails strUp.tplSel (sliceOf strUp.fs strUp.time.tai + 2) = 0 ∧
    ({ strUp with ing := { strUp.ing with tplJob := some 11 } } : State).ing.tplJob = some 11 := by decide +kernel
theorem test_meets_IngestKeys : let s := strUp.set Reg.ING_KEY_SEL.STREAM 1
    rdy s .sec = true ∧ mayW s (.core 0) = true ∧ recKind (s.recOf (s.get Reg.ING_KEY_SEL.STREAM)) = 3 ∧
    recKind (strUp.recOf (strUp.get Reg.ING_KEY_SEL.STREAM)) ≠ 3 := by decide +kernel

/-- Group 31 of a filter chain: two members, sigma-delta then sampled values, FIR_XFADE 4, CIC_R 3, FIR_D 2. -/
def grp : Bytes := rcd 96 [(0, 1, 2), (1, 1, 31), (2, 1, 2), (3, 1, 1), (8, 2, 3), (0xA, 1, 2), (0x12, 2, 4), (0x20, 1, 1), (0x28, 1, 2)]
/-- The chain and group 31 running. -/
def fltUp : State := on (on (withRoast (roastOf 50 [(0x19, [rcd 96 [(8, 4, 10)], grp]), (0x10, [rcd 64 [(0, 1, 5), (6, 1, 1), (0x22, 2, 31)]])]))
  .filter) (.filterGroup 31)

theorem test_meets_BanksFade :
    let s := fltUp.setFlag (firBank 31).fading true
    let e : State := (fltUp.setFgroup 31 { fade := some { target := 1 } }).setLane 248 { ffade := 4 }
    let k : State := { up with flt := { up.flt with kfade := some { target := 1 } } }
    rdy fltUp .sec = true ∧ (s.firEnd 31).flag (firBank 31).fading = true ∧ (fltUp.firEnd 31).flag (firBank 31).fading = false ∧
    (fltUp.firEnd 31).get (firBank 31).active = 0 ∧ (up.setFlag kBank.fading true).kernEnd.flag kBank.fading = true ∧
    up.kernEnd.flag kBank.fading = false ∧ up.kernEnd.get kBank.active = 0 ∧ (e.fgroup 31).fade = some { target := 1 } ∧
    e.roast.groupRec 31 = some grp ∧ e.firFaded grp 31 = true ∧ e.flag (firBank 31).queued = false ∧ k.flt.kfade = some { target := 1 } ∧
    (∀ g, g < 32 → k.groupRuns g = false) ∧ k.flag Reg.FLT_KBANK.QUEUED = false ∧
    up.bankHeld (firBank 0) 0 = true ∧ up.bankHeld (firBank 0) 1 = false ∧ up.bankHeld kBank 1 = false := by decide +kernel
theorem test_meets_LanesTakeSamples :
    let s := fltUp.setLane 249 { svNext := some 0 }
    let u := s.moveTo msUnit
    s.filesOk = true ∧ s.roast.groupRec 31 = some grp ∧ s.groupRuns 31 = true ∧ 248 % 8 ∈ gMembers grp ∧ 249 % 8 ∈ gMembers grp ∧
    gKind grp 0 = 1 ∧ [true, false, true].length = gR grp ∧ (u.lane 248).phase + 1 < gD grp ∧ gKind grp 1 = 2 ∧
    (u.lane 249).svNext = some 0 ∧ 0 * secUnit / s.roast.svRate (gSrc grp 1) + gSvWait grp * usUnit ≤ msUnit ∧ mayW s (.core 0) = true ∧
    u.alnUp = false ∧ (u.view (u.genOf 0)).roast.groupStream 31 = some 0 ∧
    0 % max 1 (recDiv ((u.view (u.genOf 0)).recOf 0)) = 0 ∧ (u.fgroup 31).resetAt ≤ sliceTime u.fs 0 ∧ (u.fgroup 31).lastN = none := by
  decide +kernel
/-- 96 outputs of a lane in one millisecond. -/
def outs96 : List FltOut := ((List.range 96).map fun i => { k := i, j := i, t := i * usUnit, v := fZero }).reverse
theorem test_meets_LanesTakeSamples_outputs :
    let x : FltLane := { outs := outs96, x := (List.range 20).map fun i => { t := i * msUnit, v := fZero } }
    let s := (fltUp.setLane 248 x).setLane 249 x
    s.estReady grp 31 (sliceTime s.fs 0) = true ∧ (s.setLane 248 { x with next := 10 * msUnit }).laneOutput grp 248 ≠ none := by
  decide +kernel

/-- The aligner running at 50 slices a second, about to close slice 1000. -/
def alnUp : State := (on (withRoast (roastOf 50 [])) .aligner).set Reg.ALN_NEXT_CLOSE.SLICE 1000
/-- A slice run at stage k. -/
def runAt (k : Nat) : Run := { n := 1000, closeAt := 500, region := 0
                               done := ((List.range 11).filter (· != k)).map fun j => { stage := j, start := 500, stop := 500, state := 1 } }

theorem test_meets_StagesLeaveTheirSlices : ((List.range 11).all fun k =>
    let s : State := { withRoast (roastOf 50 []) with runs := [runAt k] }
    let u := (s.moveTo 600).closes s
    u.filesOk && u.stageRun k 600 == some (runAt k) && ((up.moveTo 600).closes up).stageRun k 600 == none) = true := by decide +kernel
/-- Slice 1000 closed, its run at stage k, a record that spans it, and the host ring running. -/
theorem test_meets_StagesLeaveTheirSlices_effects :
    let s : State := (on { withRoast (roastOf 50 []) with runs := [runAt 7] } .hostRing).set Reg.ALN_HOST_RING.TAIL 5
    let u := s.setSlice { n := 1000, state := 2 }
    let r : CapRec := { state := 1, nT := 1000 }
    let c : State := { s with cap := { s.cap with recs := [(0, r)] } }
    (u.sliceAt 1000).n = 1000 ∧ (on s .alarm).blockRuns .alarm = true ∧ s.blockRuns .alarm = false ∧
    (∀ x ∈ s.runs, x.n = (runAt 6).n → x.has 8 = true) ∧ (∀ x ∈ [runAt 8], x.n = (runAt 6).n → x.has 8 = false) ∧
    (0, r) ∈ c.filling ∧ alookup 0 c.cap.recs = some r ∧ r.spans 1000 = true ∧ s.blockRuns .hostRing = true ∧
    (s.get Reg.ALN_HOST_RING.TAIL + s.hostN - s.get Reg.ALN_HOST_RING.HEAD % s.hostN) % s.hostN ≠ 0 := by decide +kernel
theorem test_meets_SlicesOpenCloseAndRetire :
    let s := alnUp
    let u := (s.moveTo (sliceTime 50 1000 - 10)).closes s
    alnUp.filesOk = true ∧ u.blockRuns .aligner = true ∧ ((up.moveTo 5).closes up).blockRuns .aligner = false ∧ u.nextClose = 1000 ∧
    u.nextClose ≤ 1000 ∧ 1001 < u.nextClose + 512 ∧ u.slice? 1000 = none ∧ u.inGap 1000 = false ∧
    8 * 1000 * secUnit ≤ 8 * u.time.tai * u.fs + secUnit ∧ u.slice? 1001 = none ∧ 8 * u.time.tai * u.fs + secUnit < 8 * 1001 * secUnit ∧
    (u.setSlice { n := 1000 }).slice? 1000 = some { n := 1000 } := by
  decide +kernel
theorem test_meets_SlicesOpenCloseAndRetire_deadline :
    let s := alnUp.setSlice { n := 1000 }
    let u := s.moveTo (s.cycleAt (alnUp.deadline 1000))
    u.blockRuns .aligner = true ∧ u.genOf u.nextClose = .active ∧ u.aln.slices = [(u.nextClose, { n := 1000 })] ∧
    s.deadlineCycle (u.deadline u.nextClose) ≤ u.time.tai ∧ (u.required u.nextClose).isEmpty = true ∧ u.swapPending = false ∧ u.runs = [] ∧
    u.get Reg.CFG_TXN_STATUS.STATE = 0 ∧ u.roast.has 0x60 = false ∧ u.cap.arms = [] ∧ u.pace.retire = [] := by decide +kernel
theorem test_meets_SlicesOpenCloseAndRetire_end :
    let s : State := { withRoast (roastOf 50 []) with runs := [runAt 7] }
    let u := (s.moveTo (500 + 3000 * usUnit)).closes s
    let x := up.setSlice { n := 1000, state := 4, closeAt := 5 }
    let v := (x.moveTo (100 * secUnit)).closes x
    (u.runs.map (·.n)).Nodup ∧ runAt 7 ∈ u.runs ∧ (runAt 7).closeAt + 3000 * usUnit ≤ u.time.tai ∧ v.retirable.map (·.n) = [1000] := by
  decide +kernel

theorem test_meets_WindowsLatch :
    let s : State := { up with isl := { up.isl with topoSlice := some (2 ^ 63), islSlice := some 0 } }
    s.filesOk = true ∧ s.isl.topoSlice = some (2 ^ 63) ∧ s.isl.islSlice = some 0 ∧
    ([IslItem.dev, .node, .area, .pair, .island].all fun i => !(s.islWords .sec i).isEmpty) = true := by decide +kernel

/-- Publication 15 set up and due again. -/
def pubUp : State :=
  let s := on (withRoast (roastOf 50 [(0x52, [rcd 64 [(0, 1, 1), (1, 1, 15), (4, 2, 4), (6, 2, 1000)]])])) .alarm
  s.setPub 15 { s.pub 15 with next := some 70 }
theorem test_meets_AlarmCommands :
    let u := pubUp.moveTo 100
    rdy up .sec = true ∧ mayW up .sec = true ∧ up.blockRuns .alarm = false ∧ up.flag Reg.SAU_STATUS.TEST_PERMIT = false ∧
    (up.setFlag Reg.SAU_STATUS.TEST_PERMIT true).flag Reg.SAU_STATUS.TEST_PERMIT = true ∧ (u.pub 15).next = some 70 ∧ 70 ≤ u.time.tai ∧
    (pubUp.moveTo 60).time.tai < 70 ∧ u.blockRuns .alarm = true ∧ u.almRoast.pubRec 15 ≠ none ∧ (u.pub 14).next = none := by
  decide +kernel

/-- Captures running: two slots; host trigger and TRIG_IN line 3 (rising) on profile 9. -/
def capUp (master : Nat) : State :=
  on (withRoast (roastOf 50 [(0x70, [rcd 8 [(0, 1, 1), (1, 1, 64), (3, 1, master), (4, 1, 8)], rcd 2048 [(0, 1, 2), (1, 1, 9)],
    rcd 8 [(0, 1, 3), (1, 1, 72), (2, 1, 9)], rcd 8 [(0, 1, 3), (1, 1, 67), (2, 1, 9)], rcd 8 [(0, 1, 3), (1, 1, 64), (2, 1, 9)]])])) .capture
theorem test_meets_CaptureCommands : ([(72, true), (67, true), (64, false)].all fun e =>
    let u := (capUp 255).moveTo 50
    let b := rcd 2048 [(0, 1, 2), (1, 1, 9)]
    let r : CapRec := { state := 1, prof := b, profile := 9, t0 := 50 }
    let f : State := { u with cap := { u.cap with recs := [(1, r)] } }
    rdy (capUp 255) .sec && u.time.tai == 50 && (e.1 == 72 || bitAt (leAt u.roast.capHead 4 1) (e.1 - 64) == e.2) &&
    (u.roast.capSource e.1).map (fun b => leAt b 2 1) == some 9 && u.blockRuns .capture && u.roast.capProfile 9 == some b &&
    u.filling.isEmpty && u.takeSlot == some 0 && f.filling == [(1, r)] && !bitAt (leAt b 2 1) 0 && r.profile == leAt b 1 1 &&
    decide (50 ≤ r.t0 + profPost r.prof)) = true := by
  decide +kernel
/-- A stamp that depends on a free latency is in the window of the record that it opened. -/
theorem test_meets_CaptureCommands_stamp :
    let r : CapRec := { state := 1, t0 := up.tdcStamp 4 50 0 }
    up.tdcStamp 4 50 0 ≤ r.t0 + profPost r.prof := Nat.le_add_right _ _
theorem test_meets_CaptureCommands_lines_and_slots :
    let r : CapRec := { state := 2 }
    let s : State := { (capUp 255).setCap 63 r with cap := { (capUp 255).cap with recs := [(63, r)] } }
    let u := (up.setXline 3 { since := some 0 }).moveTo (10 * msUnit + 1)
    let f := ((capUp 255).setCap 0 { state := 1, prof := rcd 2048 [] }).moveTo 100
    let g := ((capUp 255).setCap 0 { state := 1, t0 := 200, prof := rcd 2048 [] }).moveTo 100
    let n : State := { withRoast (roastOf 50 [(0x70, [rcd 8 [(0, 1, 1), (1, 1, 0), (4, 1, 0)], rcd 2048 [(0, 1, 2), (1, 1, 9)],
      rcd 8 [(0, 1, 3), (1, 1, 72), (2, 1, 9)]])]) with time := up.time }
    (u.xline 3).stuck = false ∧ (u.xline 3).since = some 0 ∧ 0 + 10 * msUnit < u.time.elapsed ∧ (capUp 255).roast.armMaster = 0xFF ∧
    ((up.setXline 3 { stuck := true }).xline 3).stuck = true ∧ (u.xline 3).drivenAt + 2 * usUnit ≤ u.time.elapsed + 50 * nsUnit ∧
    up.time.elapsed + 50 * nsUnit < (up.xline 3).drivenAt + 2 * usUnit ∧
    (on (up.putBit Reg.CAP_ARM.ARMED 3 true) .capture).bit Reg.CAP_ARM.ARMED 3 = true ∧ (on up .capture).blockRuns .capture = true ∧
    up.roast.autoRearm 3 = false ∧ n.takeSlot = none ∧
    (capUp 0).roast.armMaster = (capUp 0).casId ∧ (capUp 3).roast.armMaster ≠ 0xFF ∧ (capUp 3).roast.armMaster ≠ (capUp 3).casId ∧
    63 < s.roast.capSlots ∧ alookup 63 s.cap.recs = some r ∧ alookup 0 f.cap.recs = some { state := 1, prof := rcd 2048 [] } ∧
    f.capReady { state := 1, prof := rcd 2048 [] } = true ∧ g.capReady { state := 1, t0 := 200, prof := rcd 2048 [] } = false := by
  decide +kernel

/-- The metering engine running on element 3, fed by six lanes of group 31 with a cycle of outputs. -/
def nrgUp : State :=
  let s := on (withRoast (roastOf 50 [(0x19, [rcd 96 [], grp]), (0x68, [rcd 16 [(0, 1, 1)],
    rcd 700 [(0, 1, 2), (1, 1, 3), (2, 1, 31), (5, 1, 1), (6, 1, 2), (7, 1, 3), (8, 1, 4), (9, 1, 5)]]),
    (0x58, [rcd 20 [(0, 1, 1), (18, 2, 100)]])])) .energy
  let x : FltLane := { outs := ((List.range 65).map fun i => { k := i, j := i, t := i * usUnit, v := fZero }).reverse }
  let s := (List.range 6).foldl (fun s i => s.setLane (248 + i) x) s
  { s with nrg := { s.nrg with endSoc := 900, demEnd := 900 } }
theorem test_meets_EnergyCommands_cycles :
    let d : State := { nrgUp with nrg := { nrgUp.nrg with deciding := true } }
    let w := on (on { nrgUp with
      nrg := { nrgUp.nrg with endSoc := 0 }
      roasts := { nrgUp.roasts with region0 := some (roastOf 50 [(0x19, [rcd 96 [], grp]), (0x68, [rcd 16 [(0, 1, 1)],
        rcd 700 [(0, 1, 2), (1, 1, 3), (2, 1, 31), (5, 1, 1), (6, 1, 2), (7, 1, 3), (8, 1, 4), (9, 1, 5)],
        rcd 700 [(0, 1, 2), (1, 1, 2), (2, 1, 31), (4, 1, 6)]])]) } } .filter) (.filterGroup 31)
    let n (s : State) := s.nextCycle 3 ((s.roast.nrgRec 3).getD [])
    rdy nrgUp .sec = true ∧ nrgUp.blockRuns .energy = true ∧ (nrgUp.roast.nrgRec 3).isSome = true ∧
    ((n nrgUp).map fun c => decide (nrgUp.soc c.last < nrgUp.nrg.endSoc) && decide (nrgUp.soc c.last < nrgUp.nrg.demEnd)) = some true ∧
    d.nrg.deciding = true ∧ nrgUp.nrg.deciding = false ∧
    ((n w).map fun c => decide (w.nrg.endSoc ≤ w.soc c.last) && decide (w.soc c.last < w.nrg.demEnd)) = some true ∧
    w.boundReady w.nrg.endSoc = false ∧ (on (withRoast (roastOf 50 [(0x68, [rcd 700 [(0, 1, 2), (1, 1, 3)]])])) .energy).nextCycle 3 [] = none := by
  decide +kernel
theorem test_meets_EnergyCommands_intervals :
    let u := nrgUp.moveTo (1000 * secUnit)
    let d : State := { u with nrg := { u.nrg with deciding := true } }
    u.blockRuns .energy = true ∧ u.boundReady u.nrg.endSoc = true ∧ u.nrg.deciding = false ∧ nrgUp.boundReady nrgUp.nrg.endSoc = false ∧
    u.boundReady u.nrg.demEnd = true ∧ nrgUp.boundReady nrgUp.nrg.demEnd = false ∧ d.nrg.deciding = true ∧
    (d.setFlag Reg.TSU_STATUS.TIME_VALID true).flag Reg.TSU_STATUS.TIME_VALID = true ∧ d.flag Reg.TSU_STATUS.TIME_VALID = false ∧
    ({ d with nrg := { d.nrg with startSoc := 0 } } : State).nrg.startSoc = 0 := by decide +kernel
theorem test_meets_EnergyCommands_pulses_and_saves :
    let s := (nrgUp.setFlag (Reg.NRG_PLS.EN.ix 7) true).set (Reg.NRG_PLS.BACKLOG.ix 7) 1
    let p : State := { s with nrg := { s.nrg with pulses := [(7, { until_ := some 50 })] } }
    let q : State := { s with nrg := { s.nrg with pulses := [(7, { started := some 0, ended := some 0 })] } }
    let x := q.moveTo (1000 * secUnit)
    let v : State := { nrgUp with nrg := { nrgUp.nrg with saving := some {} } }
    let a := nrgUp.moveTo (20 * secUnit)
    s.operating = true ∧ up.operating = true ∧ State.reset.operating = false ∧ s.flag (Reg.NRG_PLS.EN.ix 7) = true ∧
    0 < s.get (Reg.NRG_PLS.BACKLOG.ix 7) ∧ 0 < s.roast.plsMax 7 ∧ (alookup 7 s.nrg.pulses).getD {} = {} ∧
    (alookup 7 x.nrg.pulses).getD {} = { started := some 0, ended := some 0 } ∧
    0 * x.roast.plsMax 7 + 100 * secUnit ≤ x.time.elapsed * x.roast.plsMax 7 ∧ 0 + 500 * usUnit ≤ x.time.elapsed ∧
    alookup 7 p.nrg.pulses = some { until_ := some 50 } ∧ 50 ≤ (p.moveTo 50).time.elapsed ∧ (p.moveTo 49).time.elapsed < 50 ∧
    nrgUp.nrg.saving = none ∧ a.blockRuns .energy = true ∧ a.time.tai = 20 * secUnit ∧ 20 * secUnit % secUnit = 0 ∧
    20 * secUnit / secUnit % max 10 (a.get Reg.NRG_SAVE.SAVE_S) = 0 ∧ a.nrg.savedAt ≠ some (20 * secUnit) ∧
    (nrgUp.setFlag Reg.NRG_STATUS.PF_ACTIVE true).flag Reg.NRG_STATUS.PF_ACTIVE = true ∧ nrgUp.flag Reg.NRG_CTL.BUSY = true ∧
    nrgUp.flag Reg.NRG_STATUS.PF_ACTIVE = false ∧ v.nrg.saving = some {} ∧ v.blockRuns .energy = true ∧ up.blockRuns .energy = false := by
  decide +kernel

theorem test_meets_PaceAndCarafe :
    let s : State := { up with pace := { up.pace with avsReq := some (1023, 0), avsFailReq := some 1023, remapping := [4095],
                                                      rowErrs := [(9, List.replicate 7 0)], cacheErrs := [(3, [0, 0])] } }
    let u := s.moveTo msUnit
    let a := s.setFlag Reg.PACE_CTL.AUTO_CORE true
    rdy s .sec = true ∧ s.pace.avsReq = some (1023, 0) ∧ 1023 < 2 ^ 10 ∧ 0 + msUnit ≤ u.time.elapsed ∧ s.pace.avsFailReq = some 1023 ∧
    s.unitState 17 = 1 ∧ s.unitState 0 = 0 ∧ 0 ∉ s.pace.retire ∧ s.spareUnit.isSome = true ∧ 4095 ∈ s.pace.remapping ∧
    alookup 0 s.pace.cacheErrs = none ∧ alookup 3 s.pace.cacheErrs = some [0, 0] ∧ s.time.elapsed < 0 + 3600 * secUnit ∧
    s.coreState 8 = 1 ∧ (∀ r, r < 8 → s.coreState r ≠ 1) ∧ a.flag Reg.PACE_CTL.AUTO_CORE = true ∧ s.coreState 3 = 0 ∧
    s.sch.migration = none ∧ s.flag Reg.PACE_CTL.AUTO_CORE = false ∧ alookup 8 s.pace.rowErrs = none ∧ 9 ∉ s.nvs.remap ∧
    s.nvs.remap.length + s.pace.remapping.length < 4096 ∧ alookup 9 s.pace.rowErrs = some (List.replicate 7 0) ∧
    7 ≤ ((List.replicate 7 0).filter fun x => decide (s.time.elapsed < x + 86400 * secUnit)).length := by decide +kernel
theorem test_meets_PaceAndCarafe_no_spare :
    let s := up.set Reg.PACE_SWEEP_STATE.STATE 0
    let r := run (.sweepRetire .sec 17) up
    let c := up.setCoreState 8 0
    s.unitState 0 = 0 ∧ s.spareUnit = none ∧ r.unitState 17 = 3 ∧ r.unitState 17 ∉ [0, 1] ∧ s.unitState 0 ≠ 3 ∧
    alookup 17 r.pace.passes = none ∧ (∀ q, q < 9 → c.coreState q ≠ 1) := by
  decide +kernel

/-- A thread created with a priority and an affinity. -/
def created (s : State) (x prio aff : Nat) : State :=
  run (.tcbCreate .sec) ((s.set (Reg.SCH_TCB_SEL.THREAD.of .sec) x).set (Reg.SCH_TCB.WORD.ix 2) (prio + 256 * aff))
/-- Thread 255 on core 0. -/
def thr : State := run (.getwork 0) (created up 255 31 255)
/-- Thread 255 waiting for object 5, core 0 stalled. -/
def thrWaits : State := run (.getwork 0) (run (.schWait (.core 0) 5) (thr.set (Reg.SCH_WAIT_TIMEOUT.US.of (.core 0)) 10))
theorem test_meets_ThreadsRunAndWait :
    let p := run (.schSignal (.core 1) 6) thr
    let c := created up 255 31 255
    let z := thr.setTcb 255 { thr.tcb 255 with suspend := true }
    thr.filesOk = true ∧ thr.silent (.core 0) = false ∧ (thr.core 0).running = some 255 ∧ (thr.tcb 255).suspend = false ∧
    (z.core 0).running = some 255 ∧ (z.tcb 255).suspend = true ∧ 0 < (p.obj 6).count ∧ (thr.obj 5).count = 0 ∧
    (thr.set (Reg.SCH_WAIT_TIMEOUT.US.of (.core 0)) 0).get (Reg.SCH_WAIT_TIMEOUT.US.of (.core 0)) = 0 ∧
    (z.set (Reg.SCH_WAIT_TIMEOUT.US.of (.core 0)) 10).get (Reg.SCH_WAIT_TIMEOUT.US.of (.core 0)) ≠ 0 ∧ (up.core 0).running = none ∧
    (up.setCoreState 0 2).coreState 0 = 2 ∧ (up.setCoreState 0 2).silent (.core 0) = false ∧ up.coreState 0 ≠ 2 ∧ c.logical 0 = some 0 ∧
    c.pickWork 0 = some 255 ∧ up.logical 0 = some 0 ∧ up.pickWork 0 = none ∧ up.coreUp 8 = false ∧ (State.reset).coreUp 0 = false := by
  decide +kernel
theorem test_meets_ThreadsRunAndWait_timeouts :
    let u := (thrWaits.set Reg.SCH_CFG.IDLE_US 5).moveTo (20 * usUnit)
    let q := (thr.setCore 0 { thr.core 0 with preempt := some (0, some 254, false) }).moveTo (51 * usUnit)
    (u.core 0).stalled = some 0 ∧ u.get Reg.SCH_CFG.IDLE_US ≠ 0 ∧ u.get Reg.SCH_CFG.IDLE_US * usUnit ≤ u.time.elapsed - 0 ∧
    (u.core 1).stalled = none ∧ (u.core 1).preempt = none ∧ (u.tcb 254).state ≠ 3 ∧ thrWaits.silent (.core 1) = false ∧
    (q.core 0).preempt = some (0, some 254, false) ∧ 50 * usUnit < q.time.elapsed - 0 ∧ (u.tcb 255).state = 3 ∧
    ((u.tcb 255).until_.map fun a => decide (a ≤ u.time.elapsed)) = some true ∧ u.wakes 5 = some 255 ∧ u.wakes 6 = none ∧
    (u.obj 6).count < (if (u.obj 6).sem then 65535 else 1) ∧
    (if ((run (.schSignal (.core 1) 6) u).obj 6).sem then 65535 else 1) ≤ ((run (.schSignal (.core 1) 6) u).obj 6).count := by
  decide +kernel

/-- The thread window selects 255, with an affinity to write. -/
def tcbAt (st : Nat) : State :=
  let s := (up.set (Reg.SCH_TCB_SEL.THREAD.of .sec) 255).set (Reg.SCH_TCB.WORD.ix 2) (31 + 256 * 255)
  s.setTcb 255 { s.tcb 255 with state := st }
theorem test_meets_ThreadCommandsAndFlows :
    let i : FlowItem := { seq := 65535, posted := 0 }
    let s := ((up.setFlow 63 { next := 65535, items := [i], released := [(7, 2)] }).set (Reg.SCH_FLOW_CFG.STALL_US.ix 63) 1)
    let f := up.setFlow 0 { items := (List.range 256).map fun q => { seq := q } }
    let o := withRoast (roastOf 50 [(0x15, [rcd 64 [(0, 1, 1), (1, 1, 15), (2, 1, 1), (3, 1, 6)]])])
    mayW up .sec = true ∧ mayW up .pf0 = true ∧ ([0, 1, 2, 3, 4, 5].all fun k => ((tcbAt k).tcb 255).state == k && (tcbAt k).get (Reg.SCH_TCB_SEL.THREAD.of .sec) == 255 &&
      bitsOf ((tcbAt k).get (Reg.SCH_TCB.WORD.ix 2)) 8 8 != 0) = true ∧ bitsOf (up.get (Reg.SCH_TCB.WORD.ix 2)) 8 8 = 0 ∧
    (∀ e ∈ up.sch.waiting, e.1 ≠ up.get (Reg.SCH_OBJ_SEL.OBJ.of .sec)) ∧
    (∃ e ∈ thrWaits.sch.waiting, e.1 = (thrWaits.set (Reg.SCH_OBJ_SEL.OBJ.of .sec) 5).get (Reg.SCH_OBJ_SEL.OBJ.of .sec)) ∧
    ((List.range 64).any fun k => (o.roast.flowStream k).isSome) = true ∧ s.silent (.core 0) = false ∧
    s.roast.flowStream 63 = none ∧ (s.flow 63).items.length < 256 ∧
    (s.flow 63).next < 65536 ∧ 256 ≤ (f.flow 0).items.length ∧ (∀ i ∈ (s.flow 63).items, i.seq ≠ 0) ∧ (s.flow 63).items = [i] ∧
    s.get (Reg.SCH_FLOW_CFG.STALL_US.ix 63) ≠ 0 ∧
    s.get (Reg.SCH_FLOW_CFG.STALL_US.ix 63) * usUnit < (s.moveTo msUnit).time.elapsed - i.posted ∧ (s.flow 63).released = [(7, 2)] := by
  decide +kernel
theorem test_meets_ThreadCommandsAndFlows_migration :
    let g := run (.schMigrate .sec 0 8 true) thr
    let e := run (.schMigrate .sec 7 8 false) up
    rdy thr .sec = true ∧ thr.coreState 0 = 0 ∧ thr.coreState 8 = 1 ∧ thr.sch.migration = none ∧
    g.sch.migration.map (fun m => (m.fromCore, m.toCore)) = some (0, 8) ∧ g.logical 0 = some 0 ∧ (g.core 0).running = some 255 ∧
    g.sch.waiting = [] ∧ e.sch.migration.map (fun m => (m.fromCore, m.toCore)) = some (7, 8) ∧ e.logical 7 = some 7 ∧
    e.silent (.core 7) = false ∧ (e.core 7).running = none ∧ g.sch.migration.isSome = true := by decide +kernel

/-- A key that may sign, in slots 16 and 31. -/
def keyUp : State := (up.putSlot 16 { valid := true, sign := true }).putSlot 31 { valid := true, sign := true }
/-- The host owns the device. -/
def keyOwn : State := keyUp.set Reg.HIF_OWNER.STATE 2
theorem test_meets_KeyCommands : ([(1, 20), (2, 16), (3, 0), (4, 8), (5, 0), (6, 16), (7, 255)].all fun e =>
    mayW keyUp (.core 0) && !keyUp.flag Reg.KEY_STATUS.BUSY && (keyUp.setFlag Reg.KEY_STATUS.BUSY true).flag Reg.KEY_STATUS.BUSY &&
    keyUp.keyMayIssue (.core 0) e.1 e.2) = true ∧
    ([(7, 8), (8, 4), (9, 0), (10, 0)].all fun e => !keyUp.keyMayIssue (.core 0) e.1 e.2 && keyOwn.keyMayIssue .pf0 e.1 e.2 && mayW keyOwn .pf0) =
      true ∧ keyUp.keys.job = none := by decide +kernel
/-- Each kind of job with the slots it works on, and a journal. -/
theorem test_meets_KeyCommands_done :
    let k : KeySlot := { valid := true, sign := true, derive := true, depth := 7 }
    let s : State := { (up.putSlot 11 k).putSlot 16 k with nvs := { up.nvs with j0 := { up.nvs.j0 with valid := true } } }
    let j (op slot : Nat) : KeyJob := { op := op, slot := slot, parent := 11, msgLen := 1024, labelLen := 32, gen := 0, msg := [], label := [], uSign := true, uDerive := false, who := .pf0 }
    s.keySlot (j 1 16).parent = some k ∧ s.keySlot 16 = some k ∧ k.derive = true ∧ k.depth < 8 ∧ 16 ≤ (j 1 31).slot ∧ s.keySlot 31 = none ∧
    1 ≤ (j 1 31).labelLen ∧ (j 1 31).labelLen ≤ 32 ∧ (j 2 16).msgLen ≤ 1024 ∧ 64 ≤ (j 3 0).msgLen ∧ s.flag Reg.SEC_STATUS.QUARANTINE = false ∧
    k.sign = true ∧ s.nvs.journal.isSome = true ∧
    ([(7, 8), (7, 11), (7, 255), (8, 4), (10, 0)].all fun e => (j e.1 e.2).op == e.1 && (j e.1 e.2).slot == e.2) = true ∧
    ({ s with keys := { s.keys with job := some (j 8 4) } } : State).keys.job = some (j 8 4) := by decide +kernel

theorem test_meets_FusesAndTamper :
    let t := ((up.set Reg.SEC_TAMPER_CFG.EN 15).setFlag Reg.SEC_TAMPER_CFG.MESH_EN true)
    let j : State := { up with nvs := { up.nvs with j0 := { up.nvs.j0 with valid := true, fwFloor := 0 } }, fw := { up.fw with stage1Svn := 7 } }
    rdy up .sec = true ∧ ([0, 1, 2, 3, 4].all fun k => (up.set Reg.SEC_STATUS.LIFECYCLE k).get Reg.SEC_STATUS.LIFECYCLE == k) = true ∧
    up.nvs.journal = none ∧ j.nvs.journal.map (·.fwFloor) = some 0 ∧ 0 < j.fw.stage1Svn ∧
    ({ j with fw := { j.fw with stage1Svn := 0 } } : State).fw.stage1Svn ≤ 0 ∧ up.fuses.killed = false ∧ up.tamperOn 3 = false ∧
    ((List.range 5).all t.tamperOn) = true ∧ t.flag Reg.SEC_TAMPER_LATCH.VALID = false ∧
    (t.setFlag Reg.SEC_TAMPER_LATCH.VALID true).flag Reg.SEC_TAMPER_LATCH.VALID = true ∧
    (run (.keySign (.core 0) 16) t).keys.job.map (·.op) = some 2 ∧ t.get Reg.BOOT_STATUS.STATE ≠ 3 := by decide +kernel

/-- The calendar stopped in its last second. -/
def calStopped : State := { up with backup := { up.backup with running := false, sec := calendarEnd - 1, sub := 32767 } }
/-- The calendar counting in its last second but one. -/
def calRuns : State := { up with env := { up.env with crystal := true }, backup := { up.backup with running := true, sec := calendarEnd - 2 } }
theorem test_meets_CalendarCommands :
    let h := ((run (.rtcHold .sec 7) calStopped).set Reg.RTC_STG_1.MONTH 12).set Reg.RTC_STG_1.DAY 31
    let y := ((calStopped.setFlag Reg.RTC_CTL.AUTO_SYNC true).set Reg.TSU_STATUS.STATE 3).setInt Reg.TSU_UTC.OFFSET 37
    let q := 3600 * 24 * 1000
    let t := (q + epoch2000 + 37) * secUnit
    rdy calStopped .sec = true ∧ calStopped.counting = false ∧ calStopped.flag Reg.RTC_CTL.HOLD = false ∧ h.flag Reg.RTC_CTL.HOLD = true ∧
    h.counting = false ∧ h.staged.ok = true ∧ (h.set Reg.RTC_STG_1.MONTH 13).staged.ok = false ∧ y.flag Reg.RTC_CTL.AUTO_SYNC = true ∧
    y.flag Reg.RTC_CTL.HOLD = false ∧ y.get Reg.TSU_STATUS.STATE = 3 ∧ t % secUnit = 0 ∧
    ((t / secUnit : Nat) : Int) = q + y.getInt Reg.TSU_UTC.OFFSET + (epoch2000 : Nat) ∧ q < calendarEnd ∧
    q % 86400 % (60 * if y.get Reg.RTC_CTL.SYNC_MIN = 0 then 60 else y.get Reg.RTC_CTL.SYNC_MIN) = 0 := by decide +kernel
theorem test_meets_CalendarCommands_counting :
    let s := calRuns
    let a := ((({ s with backup := { s.backup with sec := 59 } } : State).setFlag Reg.RTC_CTL.ALARM_EN true).set Reg.RTC_ALARM_0.MIN 1).set
      Reg.RTC_ALARM_1.MONTH 1
    let a := a.set Reg.RTC_ALARM_1.DAY 1
    s.counting = true ∧ s.flag Reg.RTC_CTL.HOLD = false ∧ (s.setFlag Reg.RTC_CTL.HOLD true).flag Reg.RTC_CTL.HOLD = true ∧
    (s.setFlag Reg.RTC_CTL.HOLD true).counting = true ∧ s.flag Reg.BKP_TCOMP_CTL.EN = false ∧ s.flag Reg.RTC_CTL.AUTO_SYNC = false ∧
    s.backup.leapSecond = false ∧ calendarEnd * tickHz ≤ (s.backup.sec * tickHz + s.backup.sub) + 65536 ∧
    s.backup.sec * tickHz + s.backup.sub + 65535 < calendarEnd * tickHz ∧ a.counting = true ∧
    a.flag Reg.RTC_CTL.ALARM_EN = true ∧ a.alarmDate.ok = true ∧ a.backup.sec * tickHz + a.backup.sub < a.alarmDate.secs * tickHz ∧
    a.alarmDate.secs * tickHz ≤ a.backup.sec * tickHz + a.backup.sub + 32768 := by decide +kernel
theorem test_meets_CalendarCommands_supply :
    let w := 0xC5000000 + 256 + 32 * 2 + 1
    let c := run (.bkpChgWrite .sec w) up
    (up.setFlag Reg.RTC_STATUS.SET_SINCE_OSF true).flag Reg.RTC_STATUS.SET_SINCE_OSF = true ∧
    (up.setFlag Reg.RTC_STATUS.SET_SINCE_OSF false).flag Reg.RTC_STATUS.SET_SINCE_OSF = false ∧
    (run (.tcompSave .sec) up).flag Reg.BKP_TCOMP_CTL.SAVE = true ∧ State.reset.filesOk = true ∧ State.reset.mainPower = false ∧
    bitAt 64 8 = false ∧ bitAt 256 8 = true ∧ bitsOf 256 24 8 ≠ 0xC5 ∧ bitAt w 8 = true ∧ bitsOf w 24 8 = 0xC5 ∧ bitsOf w 5 3 ≠ 0 ∧
    up.backup.chgFirst = none ∧ c.backup.chgFirst = some (w, .sec, 0) ∧ c.time.elapsed - 0 ≤ 10 * msUnit ∧
    chgPermitted (bitsOf w 5 3) (bitsOf w 0 2) = true := by decide +kernel

theorem test_meets_BootControlCommands : Ready up .sec := ⟨by decide, by decide, by decide⟩
theorem test_meets_RegisterWritesTakeEffect : Ready (up.setFlag Reg.CFG_TXN_STATUS.DONE true) .sec := ⟨by decide, by decide, by decide⟩
theorem test_meets_EveryCommandTouchesOnlyItsParts : exec (.staySafe .sec) up = .next (run (.staySafe .sec) up) := by rfl
theorem test_meets_LogWindowsLatch :
    let c : Checkpoint := { seq := 1, flags := 0, d := [], sig := [] }
    let s : State := { up with nvs := { up.nvs with checkpoints := [c] } }
    s.filesOk = true ∧ s.nvs.checkpoints[s.get (Reg.EVR_CKPT_SEL.INDEX.of .sec)]? = some c := by decide +kernel

/-! ### What single commands do; the expected values are the spec's -/

/-- Reset's end leaves the reset (R49). -/
theorem test_reset_end : (run (.resetEnd 5 true) State.reset).boot.inReset = false := by decide +kernel
/-- A failed first attempt resets the device with the step and KIND 4 in BOOT_CAUSE (R74). -/
theorem test_step_timeout_resets : let t := run .ledgerStepTimeout (atStep 7 1)
    t.boot.inReset = true ∧ t.get Reg.BOOT_CAUSE.KIND = 4 ∧ t.get Reg.BOOT_CAUSE.STEP = 7 := by decide +kernel
/-- The third failure ends in SAFE (R74). -/
theorem test_step_timeout_safe : let t := run .ledgerStepTimeout (atStep 7 3)
    t.boot.inReset = false ∧ t.get Reg.BOOT_STATUS.STATE = 2 ∧ t.get Reg.BOOT_STATUS.SAFE_STEP = 7 := by decide +kernel

/-- A commit while the aligner does not run takes effect at once (R111). -/
theorem test_commit : let t := run (.txnCommit .sec 5) (run (.registerWrite .sec Reg.CFG_CRC_COMMIT.REF.base false 0x1234567AB 15) txn)
    t.get Reg.CFG_CRC_COMMIT.REF = 0x234567AB ∧ t.get Reg.CFG_TXN_STATUS.STATE = 0 ∧ t.get Reg.CFG_TXN_STATUS.RESULT = 1 := by decide +kernel
/-- A swap request with no shadow READY ends NOT_READY (R145). -/
theorem test_swap_not_ready : (run (.swapRequest .sec 7 false) up).get Reg.CFG_SWAP_RESULT.RESULT = 3 := by decide +kernel

/-- EN of a running ring cleared leaves BUSY set; set again while stopping, PEND (R106). -/
theorem test_enable_table : let b : Block := .ring (.rx 2 1)
    let t := run (b.enable .sec false) (on up b)
    let v := run (b.enable .sec true) t
    (t.flag b.en, t.flag b.busy, t.flag b.pend) = (false, true, false) ∧ (v.flag b.en, v.flag b.busy, v.flag b.pend) = (true, true, true) ∧
    (run (.blockShutdownComplete b []) t).flag b.busy = false := by decide +kernel
/-- A broadcast frame lands in its class's ring and is counted; without BCAST it is dropped and counted (R156, R158). -/
theorem test_receive : let t := run (.frameReceive 1 rxFrame) rxUp
    t.get (Ring.rx 1 2).head = 1 ∧ t.get (Reg.MAC.RX_FRAMES.ix 1) = 1 := by decide +kernel
theorem test_receive_filtered : let t := run (.frameReceive 1 rxFrame) (rxUp.setFlag (Reg.MAC_FILT_CFG.BCAST.ix 1) false)
    t.get (Reg.MAC.RX_FILT_DROP.ix 1) = 1 ∧ t.get (Ring.rx 1 2).head = 0 := by decide +kernel
/-- A frame shorter than 60 bytes is an undersize frame (R153). -/
theorem test_receive_short : let t := run (.frameReceive 1 { rxFrame with bytes := List.replicate 30 255 }) rxUp
    t.get (Ring.rx 1 2).head = 0 := by decide +kernel
/-- The Saucer lets a ring's frame pass and takes its bytes and 4 from the bucket (R391). -/
theorem test_saucer_bucket : let t := run (.txFrameOffer 1000 (.ring (.tx 1 0) txBytes 60)) txUp
    t.get (Ring.tx 1 0).head = 1 ∧ alookup (1, 0) t.sau.buckets = some ((2000 - 64) * secUnit, 1000) := by decide +kernel
/-- A frame with another source address is refused with reason 2 (R389). -/
theorem test_saucer_source : txUp.saucerReason 1 0 60 { src := .ring 1 0, bytes := List.replicate 60 255 } = some 2 := by decide +kernel
/-- MDIO fields are cut to their widths (R186). -/
theorem test_mdio : let t := run (.mdioC45Read .sec 33 34 65537) up
    t.get Reg.MACM0_MDIO.OP = 3 ∧ t.get Reg.MACM0_MDIO.PHY = 1 ∧ t.get Reg.MACM0_MDIO.REG = 2 ∧ t.get Reg.MACM0_MDIO.DATA = 1 := by
  decide +kernel

/-- A host step applies at the tick (R190). -/
theorem test_step : (run (.timeBaseTick (secUnit)) { up with time := { up.time with hostStep := some 5 } }).time.tai = secUnit + 5 := by
  decide +kernel
/-- A positive leap second (R217). -/
theorem test_leap : let t := run (.leapSecond ((86400 + 38) * secUnit)) ((up.set Reg.TSU_UTC.PENDING 1).setInt Reg.TSU_UTC.OFFSET 37)
    t.getInt Reg.TSU_UTC.OFFSET = 38 ∧ t.get Reg.TSU_UTC.OCCURRED = 1 ∧ t.get Reg.TSU_UTC.PENDING = 0 := by decide +kernel
/-- TSU_TIME shows the counter, which stands at whole cycles of 1.25 ns: 7.5 ns at the first cycle at or after 7 ns and a bit. TAI word 0 is
the fraction of a nanosecond, words 2 and 3 the seconds (R188, R191). -/
theorem test_time_latch : let t := run (.tsuTimeLatch .sec (5 * secUnit + 7 * nsUnit + 9)) up
    (List.range 4).map (fun k => t.get ((Reg.TSU_TIME.TIME.ix k).of .sec)) = [0x8000, 7, 5, 0] := by
  decide

/-- A side that loses its lanes wraps (R507, R510). -/
theorem test_lane_loss : let t := run (.laneLoss true) casUp
    t.flag (wrapFld true) = true ∧ t.get (lanesFld true) = 0 := by decide +kernel
/-- A message with a bad CRC is counted and dropped (R509). -/
theorem test_bad_message : (run (.ringMessageReceive 0 msg false none 5) casUp).get Reg.CAS.MSG_BAD = 1 := by decide +kernel

/-- DREGS with another sequence number is ignored (R171). -/
theorem test_dregs : let s := parUp 5 true
    (run (.dregs .sec 5 true ⟨2, none⟩) s).flag (Reg.ING_Q_STATUS.DREGS_IGN.ix 5) = true ∧ ((run (.dregs .sec 5 true ⟨1, none⟩) s).ingQ 5).packets = [] := by
  decide +kernel
/-- A packet that is not good commits nothing and leaves its queue (R166). -/
theorem test_parse_bad : ((run (.parsePacket 100 { bytes := [], word := 0, stamp := [] } []) (parUp 5 false)).ingQ 5).packets = [] := by decide +kernel
/-- The key registers read zero after a load (R241). -/
theorem test_key_next : let s := ((strUp.set Reg.ING_KEY_SEL.STREAM 1).set Reg.ING_KEY_ID.ID 9).set (Reg.ING_KEY_DATA.KEY.ix 7) 5
    let t := run (.ingKeyLoadNext .sec) s
    t.get (Reg.ING_KEY_DATA.KEY.ix 7) = 0 ∧ ((t.spduKeys .active 1).next.map (·.1)) = some 9 := by decide +kernel

/-- One modulator word of R bits makes one CIC output; its integrators add each bit as plus or minus 1 (R245). -/
theorem test_cic : ((run (.cicOutput 248 [true, false, true] msUnit) fltUp).lane 248).integ.head? = some 1 ∧
    ((run (.cicOutput 248 [true, false, true] msUnit) fltUp).lane 248).phase = 1 := by decide +kernel
/-- A bank switch asked for while a fade runs is queued (R258). -/
theorem test_bank_queue : let t := run (.firBankSwapRequest .sec 31 1) (fltUp.setFlag (firBank 31).fading true)
    t.flag (firBank 31).queued = true ∧ t.get (firBank 31).qtarget = 1 ∧ t.get (firBank 31).result = 2 := by decide +kernel

/-- A slice opens (R264), and closes at its deadline with reason 3 where no stream is required (R272). -/
theorem test_slice_open : (run (.sliceOpen (sliceTime 50 1000 - 10)) alnUp).slice? 1000 = some { n := 1000 } := by decide +kernel
theorem test_slice_close : let t := run (.sliceDeadline (alnUp.deadline 1000 + 1)) (alnUp.setSlice { n := 1000 })
    (t.slice? 1000).map (fun y => (y.state, y.reason)) = some (2, 3) ∧ t.get Reg.ALN_LAST_CLOSE.SLICE = 1000 := by decide +kernel
/-- The fabric watchdog ends a slice 3 ms after its close (R527). -/
theorem test_watchdog : (run (.fabricWatchdog (500 + 3000 * usUnit)) { withRoast (roastOf 50 []) with runs := [runAt 7] }).runs = [] := by
  decide +kernel
/-- The LSE window of a slice without a summary reads zero (R323). -/
theorem test_lse_window : (List.range 12).all (fun k => (run (.lseSummaryLatch .sec) up).get ((Reg.LSE_SUM.WORD.ix k).of .sec) == 0) = true := by
  decide +kernel
theorem test_isl_window : let s : State := { up with isl := { up.isl with topoSlice := some 77777777777 } }
    (run (.islItemLatch .sec .dev) s).get ((Reg.ISL_DEV.WORD.ix 0).of .sec) = 468366449 ∧
    (run (.islItemLatch .sec .dev) s).get ((Reg.ISL_DEV.WORD.ix 1).of .sec) = 18 := by decide +kernel
theorem test_osc_cmd : (run (.oscCmd .sec 3 4095) up).osc.cmd = some (3, 4095) := by decide +kernel

/-- A pin test without permission is refused and counted (R382). -/
theorem test_pin_test : (run (.almTest .sec 1) up).get Reg.SAU.TEST_REFUSED = 1 ∧
    (run (.almTest .sec 1) (up.setFlag Reg.SAU_STATUS.TEST_PERMIT true)).get Reg.ALM_TEST.PIN = 1 := by decide +kernel
/-- Acknowledgement bits name rules 32 j on (R379). -/
theorem test_ack : (run (.almRuleAck .sec 15 0x80000001) up).alm.acks = [480, 511] := by decide +kernel
/-- A publication's next retransmission doubles its interval, up to the longest (R384). -/
theorem test_pub : (((run (.pubRetransmit 15 100) pubUp).pub 15).next) = some (70 + 8 * msUnit) := by decide +kernel

/-- A host trigger opens a record in slot 0 (R399). -/
theorem test_host_trigger : let t := run (.capHostTrig .sec 50) (capUp 255)
    (alookup 0 t.cap.recs).map (fun r => (r.t0, r.state)) = some (50, 1) := by decide +kernel
/-- A line low for more than 10 ms is stuck (R407). -/
theorem test_stuck : (run (.xtrigStuck 3 (10 * msUnit + 1)) (up.setXline 3 { since := some 0 })).bit Reg.CAP_STATUS.STUCK 3 = true := by
  decide +kernel
/-- CAP_ARM elsewhere than at the master ends LOCKED (R405). -/
theorem test_arm_locked : (run (.capArm .sec 15) (capUp 3)).cap.arms = [] ∧ (run (.capArm .sec 15) (capUp 0)).cap.arms = [(15, 0)] := by
  decide +kernel

/-- A pulse starts on its pin and leaves the backlog (R422). -/
theorem test_pulse : let t := run (.pulseStart 7 100) ((nrgUp.setFlag (Reg.NRG_PLS.EN.ix 7) true).set (Reg.NRG_PLS.BACKLOG.ix 7) 5)
    t.get (Reg.NRG_PLS.BACKLOG.ix 7) = 4 ∧ bitAt t.pins.plsLow 7 = true := by decide +kernel
/-- A save completes in three copies (R429). -/
theorem test_save : let t := run (.totalsSaveComplete []) (run (.nrgSaveNow .sec) nrgUp)
    t.nvs.totals.length = 3 ∧ t.get Reg.NRG_SAVE_SEQ.SEQ = 1 ∧ t.nrg.saving = none := by decide +kernel

/-- A loop count of 25,000 in a 10 us window is 2,500 MHz (R523). -/
theorem test_replica : let t := run (.replicaWindow 100 (List.replicate 32 25000)) up
    t.get (Reg.PACE_RATE.MHS.ix 7) = 2500 ∧ t.flag (Reg.PACE_RATE.VALID.ix 7) = true := by decide +kernel
/-- An uncorrectable row is remapped and counted (R536). -/
theorem test_remap : let s := run (.carafeEccError .heap 9 true) up
    s.get Reg.CRF.UE = 1 ∧ s.pace.remapping = [9] ∧ (run (.rowRemapCopyDone 9) s).nvs.remap = [9] := by decide +kernel

/-- A thread created READY is handed to the core that asks, and waits, and is woken (R442 to R447). -/
theorem test_getwork : thr.get (Reg.SCH_GETWORK.THREAD.of (.core 0)) = 255 ∧ thr.get (Reg.SCH_GETWORK.VALID.of (.core 0)) = 1 ∧
    (thr.tcb 255).state = 2 := by decide +kernel
theorem test_wait_and_signal : thrWaits.sch.waiting = [(5, 255)] ∧ (run (.schSignal (.core 1) 5) thrWaits).sch.waiting = [] := by
  decide +kernel
/-- An ordered flow's item, done, is released with status 1 (R449). -/
theorem test_flow : let t := run (.flowDone .sec 63 0) (run (.flowPost (.core 1) 63) up)
    (t.flow 63).items = [] ∧ (t.flow 63).released = [(0, 1)] := by decide +kernel
/-- A forced migration faults the thread and leaves the core FAULTED (R452). -/
theorem test_force : let t := run .migrationForce (run (.schMigrate .sec 0 8 true) thr)
    t.physical 0 = 8 ∧ t.coreState 0 = 3 ∧ (t.tcb 255).state = 5 := by decide +kernel

/-- Erasing a platform slot is refused (R467, RESULT 4); a slot from 16 on becomes empty. -/
theorem test_erase : (run (.keyCommandDone true) (run (.erase (.core 0) 16) keyUp)).keySlot 16 = none ∧
    (run (.keyCommandDone true) (run (.erase (.core 0) 15) keyUp)).get Reg.KEY_STATUS.RESULT = 4 := by decide +kernel
/-- A tamper event latches its source, quarantines, and erases the slots from 6 on (R471). -/
theorem test_tamper : let t := run (.tamperDetect 3) ((up.set Reg.SEC_TAMPER_CFG.EN 15).putSlot 9 { valid := true })
    t.get Reg.SEC_TAMPER_LATCH.SOURCE = 8 ∧ t.flag Reg.SEC_STATUS.QUARANTINE = true ∧ t.keySlot 9 = none := by decide +kernel
/-- 2 000 000 000 as the calendar's seconds from 2000-01-01 is 2063-05-18, a Friday, 03:33:20. -/
theorem test_calendar : let d := dateOf 2000000000
    (d.year, d.month, d.day, d.hour, d.min, d.sec) = (63, 5, 18, 3, 33, 20) := by decide +kernel
/-- The calendar ends (R486). -/
theorem test_range_end : let t := run (.calendarRangeEnd 65536) calRuns
    t.backup.running = false ∧ t.flag Reg.RTC_STATUS.RANGE_END = true := by decide +kernel
/-- VBAT thresholds (R476, R502). -/
theorem test_vbat : [1649, 1650, 1999, 2000].map (fun mv => let t := run (.vbatMeasure mv) up
    (t.flag Reg.BKP_STATUS.VBAT_OK, t.flag Reg.BKP_STATUS.VBAT_LOW)) = [(false, true), (true, true), (true, true), (true, false)] := by decide +kernel
/-- The charger turns on by its second write (R481). -/
theorem test_charger : let w := 0xC5000000 + 256 + 32 * 2 + 1
    let t := run (.bkpChgWrite .sec w) (run (.bkpChgWrite .sec w) up)
    t.flag Reg.BKP_CHG.EN = true ∧ t.get Reg.BKP_CHG.TARGET = 1 := by decide +kernel
/-- The step takes the front of the queue (log entry 1 tells the idle step). -/
theorem test_step_takes_front : ({ State.reset with pending := [.staySafe .sec, .perstNRelease] } : State).pending.length = 2 ∧
    (match step { State.reset with pending := [.perstNRelease] } with | .next t => t.pending | _ => [.perstNRelease]) = [] := by decide +kernel

end Sys2Proof.Tests
end

namespace Sys2Proof.Machine

/-! ### What one command, and what one step, can do -/

/-- Every command ends in a next state, and its move there is of the kind that Instr.parts allows it: each arm of exec is a meaning whose
own law (Sys2Proof/Laws/Moves) says so. -/
theorem exec_moves (c : Instr) (s : State) : ∃ t, exec c s = .next t ∧ Moves c.parts s t :=
  match c with
  | .powerOnReset dipNs powerUp rails co => moves_execPowerOnReset dipNs powerUp rails co s
  | .resetNAssert lowNs co => moves_execResetNAssert lowNs co s
  | .perstNAssert => moves_execPerstNAssert s
  | .pcieLinkLoss => moves_execPcieLinkLoss s
  | .pf0FunctionLevelReset => moves_execPf0FunctionLevelReset s
  | .resetEnd casId testEn => moves_execResetEnd casId testEn s
  | .ledgerStepComplete r => moves_execLedgerStepComplete r s
  | .ledgerStepTimeout => moves_execLedgerStepTimeout s
  | .bootRoastGo who => moves_execBootRoastGo who s
  | .clearAttempts who => moves_execClearAttempts who s
  | .fullTrain who => moves_execFullTrain who s
  | .fullCal who => moves_execFullCal who s
  | .staySafe who => moves_execStaySafe who s
  | .slotPreferenceWrite who fw roast => moves_execSlotPreferenceWrite who fw roast s
  | .hostSoftReset who w => moves_execHostSoftReset who w s
  | .heartbeatKick who => moves_execHeartbeatKick who s
  | .heartbeatHalfExpiry => moves_execHeartbeatHalfExpiry s
  | .watchdogExpiry co => moves_execWatchdogExpiry co s
  | .registerWrite who addr wide value byteEn => moves_execRegisterWrite who addr wide value byteEn s
  | .bar0LongWrite who addr words => moves_execBar0LongWrite who addr words s
  | .bar2Write who => moves_execBar2Write who s
  | .hifSnap who => moves_execHifSnap who s
  | .snapshotCopyDone who => moves_execSnapshotCopyDone who s
  | .ownerClaim who => moves_execOwnerClaim who s
  | .ownerVerifyDone => moves_execOwnerVerifyDone s
  | .ownerRelease who => moves_execOwnerRelease who s
  | .txnBegin who => moves_execTxnBegin who s
  | .rwtWrite who addr wide value => moves_execRwtWrite who addr wide value s
  | .txnCommit who t => moves_execTxnCommit who t s
  | .txnRollback who => moves_execTxnRollback who s
  | .txnTimeout => moves_execTxnTimeout s
  | .crcScanStart => moves_execCrcScanStart s
  | .crcScanComplete => moves_execCrcScanComplete s
  | .crcSuspend who on => moves_execCrcSuspend who on s
  | .crcSuspendTimeout => moves_execCrcSuspendTimeout s
  | .crcAdopt who => moves_execCrcAdopt who s
  | .roastLoad who src => moves_execRoastLoad who src s
  | .shadowLoadDone d => moves_execShadowLoadDone d s
  | .roastDiscard who => moves_execRoastDiscard who s
  | .raiseFloor who => moves_execRaiseFloor who s
  | .swapRequest who d auto => moves_execSwapRequest who d auto s
  | .swapCancel who => moves_execSwapCancel who s
  | .retiringEnd t => moves_execRetiringEnd t s
  | .scrubTileRead region copy tile good => moves_execScrubTileRead region copy tile good s
  | .flashSectionReread d => moves_execFlashSectionReread d s
  | .repairReqReminder => moves_execRepairReqReminder s
  | .repairGo who => moves_execRepairGo who s
  | .repairDeliveryDone d => moves_execRepairDeliveryDone d s
  | .frameReceive p f => moves_execFrameReceive p f s
  | .ringEventHoldoffExpiry r t => moves_execRingEventHoldoffExpiry r t s
  | .dregs who n seqMatch mark => moves_execDregs who n seqMatch mark s
  | .txFrameOffer t o => moves_execTxFrameOffer t o s
  | .txFrameComplete p stamp => moves_execTxFrameComplete p stamp s
  | .linkStateChange p l => moves_execLinkStateChange p l s
  | .preemptVerifyTimeout p => moves_execPreemptVerifyTimeout p s
  | .lpiIdleExpiry => moves_execLpiIdleExpiry s
  | .mdioWrite who phy reg data => moves_execMdioWrite who phy reg data s
  | .mdioRead who phy reg data => moves_execMdioRead who phy reg data s
  | .mdioC45Address who phy reg data => moves_execMdioC45Address who phy reg data s
  | .mdioC45Read who phy reg data => moves_execMdioC45Read who phy reg data s
  | .mdioDone data => moves_execMdioDone data s
  | .portEnable who p en => moves_execPortEnable who p en s
  | .ringEnable who r en => moves_execRingEnable who r en s
  | .ingressQueueEnable who n en => moves_execIngressQueueEnable who n en s
  | .parserEnable who en => moves_execParserEnable who en s
  | .blockShutdownComplete b bufs => moves_execBlockShutdownComplete b bufs s
  | .timeBaseTick t => moves_execTimeBaseTick t s
  | .stepGo who => moves_execStepGo who s
  | .tsuSampleGo who k ofs => moves_execTsuSampleGo who k ofs s
  | .ppsInEdge stamp => moves_execPpsInEdge stamp s
  | .irigBFrame f => moves_execIrigBFrame f s
  | .ref10mSecond t y => moves_execRef10mSecond t y s
  | .slewComplete => moves_execSlewComplete s
  | .tdcCalibration ch bins => moves_execTdcCalibration ch bins s
  | .tsuTimeLatch who t => moves_execTsuTimeLatch who t s
  | .leapSecond t => moves_execLeapSecond t s
  | .ppsOutPulse t => moves_execPpsOutPulse t s
  | .ppsOutWidthEnd => moves_execPpsOutWidthEnd s
  | .parsePacket t j bufs => moves_execParsePacket t j bufs s
  | .gooseStale t => moves_execGooseStale t s
  | .stageTpl who => moves_execStageTpl who s
  | .stageRec who => moves_execStageRec who s
  | .resume who => moves_execResume who s
  | .suspend who => moves_execSuspend who s
  | .tplDiscard who => moves_execTplDiscard who s
  | .ingKeyLoadNext who => moves_execIngKeyLoadNext who s
  | .ingKeyErase who => moves_execIngKeyErase who s
  | .unclaimedClr who => moves_execUnclaimedClr who s
  | .cicOutput l bits edge => moves_execCicOutput l bits edge s
  | .svWaitExpiry l t => moves_execSvWaitExpiry l t s
  | .resamplerOutput l => moves_execResamplerOutput l s
  | .phasorEstimate g n t => moves_execPhasorEstimate g n t s
  | .fltSync who g => moves_execFltSync who g s
  | .fltChainEnable who en => moves_execFltChainEnable who en s
  | .fltGroupEnable who g en => moves_execFltGroupEnable who g en s
  | .firBankSwapRequest who g target => moves_execFirBankSwapRequest who g target s
  | .kernelBankSwapRequest who target => moves_execKernelBankSwapRequest who target s
  | .fadeEnd g => moves_execFadeEnd g s
  | .fltCoefWrite who v => moves_execFltCoefWrite who v s
  | .sliceOpen t => moves_execSliceOpen t s
  | .sliceDeadline t => moves_execSliceDeadline t s
  | .substitution r => moves_execSubstitution r s
  | .outputHoldExpiry t => moves_execOutputHoldExpiry t s
  | .alarmPass1 r => moves_execAlarmPass1 r s
  | .alarmPass2 r => moves_execAlarmPass2 r s
  | .topologyEngine r => moves_execTopologyEngine r s
  | .islandEngine r => moves_execIslandEngine r s
  | .oscillationEngine r => moves_execOscillationEngine r s
  | .lseStage r => moves_execLseStage r s
  | .historyWrite r => moves_execHistoryWrite r s
  | .captureSliceEntries r => moves_execCaptureSliceEntries r s
  | .scheduleDoneNotice r buf => moves_execScheduleDoneNotice r buf s
  | .revisionPass r => moves_execRevisionPass r s
  | .sliceRetire t bufs => moves_execSliceRetire t bufs s
  | .fabricWatchdog t => moves_execFabricWatchdog t s
  | .alignerEnable who en => moves_execAlignerEnable who en s
  | .hostRingEnable who en => moves_execHostRingEnable who en s
  | .lseSummaryLatch who => moves_execLseSummaryLatch who s
  | .oscCmd who kind index => moves_execOscCmd who kind index s
  | .oscResultLatch who item => moves_execOscResultLatch who item s
  | .islItemLatch who item => moves_execIslItemLatch who item s
  | .alarmEngineEnable who en => moves_execAlarmEngineEnable who en s
  | .pubRetransmit k t => moves_execPubRetransmit k t s
  | .almPinMaskWrite who v => moves_execAlmPinMaskWrite who v s
  | .almFrameMaskWrite who j v t => moves_execAlmFrameMaskWrite who j v t s
  | .almRuleAck who j v => moves_execAlmRuleAck who j v s
  | .almTest who v => moves_execAlmTest who v s
  | .almTermLatch who => moves_execAlmTermLatch who s
  | .almKeyLoad who => moves_execAlmKeyLoad who s
  | .almKeyErase who => moves_execAlmKeyErase who s
  | .trigInEdge k falling edge => moves_execTrigInEdge k falling edge s
  | .xtrigEdge k edge => moves_execXtrigEdge k edge s
  | .capHostTrig who t => moves_execCapHostTrig who t s
  | .xtrigRelease k t => moves_execXtrigRelease k t s
  | .xtrigStuck k t => moves_execXtrigStuck k t s
  | .xtrigUnstuck k t => moves_execXtrigUnstuck k t s
  | .captureRecordDone r => moves_execCaptureRecordDone r s
  | .capArm who mask => moves_execCapArm who mask s
  | .capDisarm who mask => moves_execCapDisarm who mask s
  | .capSlotHold who k => moves_execCapSlotHold who k s
  | .capSlotRelease who k => moves_execCapSlotRelease who k s
  | .captureEnable who en => moves_execCaptureEnable who en s
  | .meteringCycle e => moves_execMeteringCycle e s
  | .pulseStart k t => moves_execPulseStart k t s
  | .pulseEnd k t => moves_execPulseEnd k t s
  | .demandSubintervalEnd t => moves_execDemandSubintervalEnd t s
  | .billingBoundary t => moves_execBillingBoundary t s
  | .totalsSave t => moves_execTotalsSave t s
  | .totalsSaveComplete bad => moves_execTotalsSaveComplete bad s
  | .nrgSaveNow who => moves_execNrgSaveNow who s
  | .residualBankWrite => moves_execResidualBankWrite s
  | .powerFailWarning lowNs => moves_execPowerFailWarning lowNs s
  | .residualPushRepeat => moves_execResidualPushRepeat s
  | .powerFailCleared => moves_execPowerFailCleared s
  | .energyEnable who en => moves_execEnergyEnable who en s
  | .intervalRestartDecision t => moves_execIntervalRestartDecision t s
  | .custodyRecordLatch who => moves_execCustodyRecordLatch who s
  | .getwork p => moves_execGetwork p s
  | .getworkIdleTimeout p t => moves_execGetworkIdleTimeout p t s
  | .schWait who o => moves_execSchWait who o s
  | .waitTimeout thread t => moves_execWaitTimeout thread t s
  | .schSignal who o => moves_execSchSignal who o s
  | .schYield who => moves_execSchYield who s
  | .schExit who => moves_execSchExit who s
  | .schPark who => moves_execSchPark who s
  | .preemptLate p t => moves_execPreemptLate p t s
  | .tcbCreate who => moves_execTcbCreate who s
  | .tcbSuspend who => moves_execTcbSuspend who s
  | .tcbResume who => moves_execTcbResume who s
  | .setPrio who => moves_execSetPrio who s
  | .tcbFree who => moves_execTcbFree who s
  | .schObjCfgWrite who kind => moves_execSchObjCfgWrite who kind s
  | .flowPost who f => moves_execFlowPost who f s
  | .flowDone who f q => moves_execFlowDone who f q s
  | .flowTake who f => moves_execFlowTake who f s
  | .flowStallExpiry f t => moves_execFlowStallExpiry f t s
  | .schMigrate who a b retain => moves_execSchMigrate who a b retain s
  | .migrationForce => moves_execMigrationForce s
  | .keyDerive who slot parent gen => moves_execKeyDerive who slot parent gen s
  | .keySign who slot => moves_execKeySign who slot s
  | .keyVerify who => moves_execKeyVerify who s
  | .pubkey who slot => moves_execPubkey who slot s
  | .keyAttest who => moves_execKeyAttest who s
  | .erase who slot => moves_execErase who slot s
  | .invalidate who slot gen => moves_execInvalidate who slot gen s
  | .provision who slot => moves_execProvision who slot s
  | .debugReq who => moves_execDebugReq who s
  | .tamperCfg who => moves_execTamperCfg who s
  | .keyCommandDone readback => moves_execKeyCommandDone readback s
  | .keyShareRefresh => moves_execKeyShareRefresh s
  | .fuseBlowGm who => moves_execFuseBlowGm who s
  | .fuseBlowTamperKill who => moves_execFuseBlowTamperKill who s
  | .fuseBlowDebugAllowed who => moves_execFuseBlowDebugAllowed who s
  | .fuseBlowLcDev who => moves_execFuseBlowLcDev who s
  | .fuseBlowLcProd who => moves_execFuseBlowLcProd who s
  | .fuseBlowLcRma who => moves_execFuseBlowLcRma who s
  | .secRaiseFloor who readback => moves_execSecRaiseFloor who readback s
  | .burnFloor who => moves_execBurnFloor who s
  | .tamperDetect source => moves_execTamperDetect source s
  | .secTamperClr who key active => moves_execSecTamperClr who key active s
  | .firstBackupPower => moves_execFirstBackupPower s
  | .vbatBrownOut => moves_execVbatBrownOut s
  | .oscillatorStop => moves_execOscillatorStop s
  | .tempCompPeriod temp => moves_execTempCompPeriod temp s
  | .calendarRangeEnd ticks => moves_execCalendarRangeEnd ticks s
  | .rtcSecLatch who ticks => moves_execRtcSecLatch who ticks s
  | .rtcHold who ticks => moves_execRtcHold who ticks s
  | .rtcHoldClear who ticks => moves_execRtcHoldClear who ticks s
  | .osfClear who => moves_execOsfClear who s
  | .rtcAutoSync t ticks => moves_execRtcAutoSync t ticks s
  | .rtcAlarm ticks => moves_execRtcAlarm ticks s
  | .bkpPwrOffRequest who key => moves_execBkpPwrOffRequest who key s
  | .pwrOnLow t => moves_execPwrOnLow t s
  | .bkpChgWrite who value => moves_execBkpChgWrite who value s
  | .tcompSave who => moves_execTcompSave who s
  | .vbatMeasure mv => moves_execVbatMeasure mv s
  | .logEntryWrite => moves_execLogEntryWrite s
  | .evrFreeze who on => moves_execEvrFreeze who on s
  | .freezeTimeout => moves_execFreezeTimeout s
  | .evrClear who key => moves_execEvrClear who key s
  | .logClearComplete => moves_execLogClearComplete s
  | .evrWindowLatch who through => moves_execEvrWindowLatch who through s
  | .evrCkptLatch who => moves_execEvrCkptLatch who s
  | .tokenReceive ring gen t => moves_execTokenReceive ring gen t s
  | .tokenHoldExpiry ring t => moves_execTokenHoldExpiry ring t s
  | .ringMessageReceive ring m crcOk linkNs t => moves_execRingMessageReceive ring m crcOk linkNs t s
  | .neighbourAbsent east locked => moves_execNeighbourAbsent east locked s
  | .ringUnwrap east => moves_execRingUnwrap east s
  | .laneLoss east => moves_execLaneLoss east s
  | .laneRetrainDone east lanes => moves_execLaneRetrainDone east lanes s
  | .tokenRegenerate ring t => moves_execTokenRegenerate ring t s
  | .casTake who mask => moves_execCasTake who mask s
  | .casRelease who mask => moves_execCasRelease who mask s
  | .cascadeEnable who en => moves_execCascadeEnable who en s
  | .casPpsDrive t => moves_execCasPpsDrive t s
  | .casPpsDriveEnd => moves_execCasPpsDriveEnd s
  | .casPpsEdge stamp => moves_execCasPpsEdge stamp s
  | .casPpsMiss t => moves_execCasPpsMiss t s
  | .replicaWindow t loops => moves_execReplicaWindow t loops s
  | .avsRequestDone => moves_execAvsRequestDone s
  | .avsTimeout t => moves_execAvsTimeout t s
  | .avsRetry who => moves_execAvsRetry who s
  | .sweepRetire who u => moves_execSweepRetire who u s
  | .sweepRestore who u => moves_execSweepRestore who u s
  | .coreCacheError p uncorrectable => moves_execCoreCacheError p uncorrectable s
  | .carafeEccError place row uncorrectable => moves_execCarafeEccError place row uncorrectable s
  | .flashWrite who => moves_execFlashWrite who s
  | .flashCheckFirmware who slot => moves_execFlashCheckFirmware who slot s
  | .flashCheckRoast who slot => moves_execFlashCheckRoast who slot s
  | .flashCmdDone r => moves_execFlashCmdDone r s
  | .fwLiveStage who im flashErr => moves_execFwLiveStage who im flashErr s
  | .fwLiveSwitch who => moves_execFwLiveSwitch who s
  | .fwLiveCommit who => moves_execFwLiveCommit who s
  | .fwLiveAbort who => moves_execFwLiveAbort who s
  | .junctionTemperatureChange temp => moves_execJunctionTemperatureChange temp s
  | .vbatAbsent absent => moves_execVbatAbsent absent s
  | .crystalEdgesResume => moves_execCrystalEdgesResume s
  | .perstNRelease => moves_execPerstNRelease s
  | .rowRemapCopyDone row => moves_execRowRemapCopyDone row s
  | .tcompSaveDone => moves_execTcompSaveDone s
  | .templateCommandDone => moves_execTemplateCommandDone s
  | .duplicateEntryExpiry t => moves_execDuplicateEntryExpiry t s
  | .lpiRxChange on => moves_execLpiRxChange on s
  | .twSysExpiry => moves_execTwSysExpiry s

/-- What a command that ends in `t` did to `s`: the totality of exec_moves turned into an inversion. -/
theorem moves_of_exec {c : Instr} {s t : State} (h : exec c s = .next t) : Moves c.parts s t := by
  obtain ⟨u, hu, hm⟩ := exec_moves c s
  obtain rfl : u = t := Host.Outcome.next.inj (hu.symm.trans h)
  exact hm

theorem step_of_pending_nil {s : State} (h : s.pending = []) : step s = .next s := by simp only [step, h]

theorem step_of_pending_cons {s : State} {c : Instr} {rest : List Instr} (h : s.pending = c :: rest) :
    step s = exec c { s with pending := rest } := by simp only [step, h]

/-- The two things a step can do: idle on an empty queue (log entry 8), or run the front command on the state with the queue's rest. -/
theorem step_cases {s t : State} (h : step s = .next t) :
    (s.pending = [] ∧ t = s) ∨
    ∃ c rest, s.pending = c :: rest ∧ exec c { s with pending := rest } = .next t := by
  cases hp : s.pending with
  | nil => exact .inl ⟨rfl, Host.Outcome.next.inj (h.symm.trans (step_of_pending_nil hp))⟩
  | cons c rest => exact .inr ⟨c, rest, rfl, (step_of_pending_cons hp).symm.trans h⟩

/-- Settles O3: an idle step answers the same state; a command's move keeps the register files' form, and taking the command from the
queue leaves the files alone. -/
theorem everyStepKeepsTheRegisterFiles : Obligations.EveryStepKeepsTheRegisterFiles := by
  intro s t hfiles hstep
  obtain ⟨-, rfl⟩ | ⟨c, rest, -, hexec⟩ := step_cases hstep
  · exact hfiles
  · have hrest : ({ s with pending := rest } : State).filesOk = true := by rwa [State.filesOk_upd]
    exact (moves_of_exec hexec).files hrest

end Sys2Proof.Machine

namespace Sys2Proof.Machine

/-! ### Closes leave a slice behind

The effect of a stage's command is followed by the closes it causes. Where no slice stands after them, none took place: the state is the
one that the effect left. -/

theorem Moves.aln_eq {m : List Part} {s t : State} (h : Moves m s t) (hm : m.contains .aln = false) : t.aln = s.aln :=
  h.touches.2 .aln hm

theorem setSlice_slices_ne_nil (s : State) (x : Slice) : (s.setSlice x).aln.slices ≠ [] := List.cons_ne_nil _ _

theorem meet_slices_ne_nil {s : State} (x : Slice) (t : Tai) (reason last : Nat) (h : s.aln.slices ≠ []) :
    (s.meet x t reason last).aln.slices ≠ [] := by
  unfold State.meet
  split
  · exact setSlice_slices_ne_nil _ _
  · exact h

theorem evalSlice_slices_ne_nil {s : State} (before : State) (n : Nat) (h : s.aln.slices ≠ []) :
    (s.evalSlice before n).aln.slices ≠ [] := by
  unfold State.evalSlice
  cases s.slice? n with
  | none => exact h
  | some x =>
    have hmeet (t : Tai) (reason : Nat) : (s.meet x t reason 0xFFFF).aln.slices ≠ [] := meet_slices_ne_nil x t reason _ h
    dsimp only
    split
    · exact hmeet _ _
    · split
      · exact hmeet _ _
      · split
        · exact hmeet _ _
        · exact h

theorem shutSlice_slices_ne_nil {s : State} (n : Nat) (h : s.aln.slices ≠ []) : (s.shutSlice n).aln.slices ≠ [] := by
  unfold State.shutSlice
  cases s.slice? n with
  | none => exact h
  | some x =>
    dsimp only
    split
    · exact h
    · exact meet_slices_ne_nil _ _ _ _ h

theorem evalSlices_slices_ne_nil {s : State} (before : State) (h : s.aln.slices ≠ []) : (s.evalSlices before).aln.slices ≠ [] := by
  unfold State.evalSlices
  split_ifs
  · exact List.foldlRecOn (motive := fun v : State => v.aln.slices ≠ []) _ _ h fun v hv n _ => evalSlice_slices_ne_nil before n hv
  · exact List.foldlRecOn (motive := fun v : State => v.aln.slices ≠ []) _ _ h fun v hv n _ => shutSlice_slices_ne_nil n hv
  · exact h

/-- A close records the slice's header, and nothing that follows in it touches the aligner's records. -/
theorem closeSlice_slices_ne_nil (s : State) (x : Slice) (reason last : Nat) (closeAt : Tai) (held : Bool) :
    (s.closeSlice x reason last closeAt held).aln.slices ≠ [] := by
  unfold State.closeSlice
  extract_lets s1 y sys s2 s3 s4 swap s5 z s6 s7
  rw [(moves_showQueue _).aln_eq rfl, (moves_showOpen _).aln_eq rfl, (moves_enterSchedule ..).aln_eq rfl,
    (moves_retireUnits _).aln_eq rfl, (moves_armsApply _).aln_eq rfl, (moves_casClose ..).aln_eq rfl]
  exact setSlice_slices_ne_nil _ _

theorem closeMet_slices_ne_nil (before : State) (k : Nat) {s : State} (h : s.aln.slices ≠ []) :
    (State.closeMet before k s).aln.slices ≠ [] := by
  induction k generalizing s with
  | zero => exact h
  | succ k ih =>
    have hpass : s.passEmpty.aln.slices ≠ [] := by rwa [(moves_passEmpty s).aln_eq rfl]
    unfold State.closeMet
    dsimp only
    split
    · exact hpass
    · split
      · exact hpass
      · split
        · exact hpass
        · split
          · exact setSlice_slices_ne_nil _ _
          · exact ih (evalSlices_slices_ne_nil before (closeSlice_slices_ne_nil _ _ _ _ _ _))

theorem closes_slices_ne_nil {s : State} (before : State) (h : s.aln.slices ≠ []) : (s.closes before).aln.slices ≠ [] := by
  unfold State.closes
  split
  · exact closeMet_slices_ne_nil _ _ (evalSlices_slices_ne_nil before h)
  · exact h

theorem collecting_eq_nil {s : State} (h : s.aln.slices = []) : s.collecting = [] := by simp [State.collecting, h]

theorem evalSlices_eq_self {s : State} (before : State) (h : s.aln.slices = []) : s.evalSlices before = s := by
  simp [State.evalSlices, collecting_eq_nil h]

theorem passEmpty_eq_self {s : State} (h : s.aln.slices = []) : s.passEmpty = s := by
  simp [State.passEmpty, collecting_eq_nil h]

theorem closeMet_eq_self (before : State) (k : Nat) {s : State} (h : s.aln.slices = []) : State.closeMet before k s = s := by
  cases k with
  | zero => rfl
  | succ k =>
    have hnone : s.slice? s.nextClose = none := by simp [State.slice?, h, alookup]
    simp only [State.closeMet, passEmpty_eq_self h, hnone]

/-- With no slice there is nothing to close. -/
theorem closes_eq_self {s : State} (before : State) (h : s.aln.slices = []) : s.closes before = s := by
  simp [State.closes, evalSlices_eq_self before h, closeMet_eq_self _ _ h]

/-- Closes that end with no slice have closed none. -/
theorem closes_eq_self_of_slices_eq_nil {s before : State} (h : (s.closes before).aln.slices = []) : s.closes before = s :=
  closes_eq_self before (by_contra fun hs => closes_slices_ne_nil before hs h)

/-! ### An output stream above number 15

ALN_OSTREAM_k stands 16 bytes after the one before it, so ITEMS of a stream 17 has the key of ALN_HOST_RING.TAIL. The roast's rules allow
streams 0 to 15 only (Roast.ostreamOk), but the obligation speaks of every state whose register files have their form. -/

/-- A TYPE 1 record of OUTPUT_STREAM: number 17, TCP, on flow 0. -/
def stream17 : Bytes := leBytes 1 1 ++ leBytes 1 17 ++ leBytes 2 0 ++ leBytes 1 2 ++ leBytes 251 0

/-- Slice 0, closed with rank 3 shed, its history written: its notice is next, and with the notice its output frame (R529). -/
def noticeDue : Run :=
  { n := 0, closeAt := 0, region := 0, shed := 3, outputs := [17], done := [{ stage := 7, start := 0, stop := 0, state := 1 }] }

/-- The host ring runs with HEAD 1 and TAIL 0, three of its four descriptors free, and the notice of slice 0 is due. -/
def ringWithStream17 : State :=
  ((({ State.reset with
        roasts := { region0 := some { header := [], secs := [{ kind := 0x15, recs := [stream17] }] } }
        runs := [noticeDue] } : State).setFlag Reg.ALN_HOST_RING.EN true).setFlag Reg.ALN_HOST_RING.BUSY true).set Reg.ALN_HOST_RING.HEAD 1

theorem ringWithStream17_has_room :
    let s := ringWithStream17
    (s.get Reg.ALN_HOST_RING.TAIL + s.hostN - s.get Reg.ALN_HOST_RING.HEAD % s.hostN) % s.hostN ≠ 0 ∧
      (s.get Reg.ALN_HOST_RING.HEAD % s.hostN + 1) % s.hostN = 2 := by decide +kernel

/-- The one item of the posted output frame is written over TAIL, which then equals HEAD: the notice finds the ring full and HEAD stays. -/
theorem notice_leaves_head : Goes (.scheduleDoneNotice {} 0) ringWithStream17 fun t =>
    t.get Reg.ALN_HOST_RING.TAIL = 1 ∧ t.get Reg.ALN_HOST_RING.HEAD = 1 ∧ t.aln.slices = [] :=
  ⟨_, rfl, by decide +kernel⟩

/-- Refutes O49: its clause on the notice fails in ringWithStream17. The output frame that the notice posts moves TAIL under the delivery, and
HEAD is 1 where the clause asks for 2. -/
theorem not_stagesLeaveTheirSlices : ¬ Obligations.StagesLeaveTheirSlices := by
  unfold Obligations.StagesLeaveTheirSlices
  intro h
  obtain ⟨-, -, -, -, -, -, -, -, -, ⟨-, hnotice⟩, -⟩ := h ringWithStream17 {} 0 (by decide +kernel)
  have hbefore : (ringWithStream17.moveTo 0).closes ringWithStream17 = ringWithStream17 := closes_eq_self _ rfl
  rw [hbefore] at hnotice
  obtain ⟨w, hexec, -, hadvances⟩ := hnotice noticeDue (by decide +kernel)
  obtain ⟨t, ht, -, hhead, hslices⟩ := notice_leaves_head
  obtain rfl : t = w.closes ringWithStream17 := Host.Outcome.next.inj (ht.symm.trans hexec)
  rw [closes_eq_self_of_slices_eq_nil hslices] at hhead
  obtain ⟨hroom, hnext⟩ := ringWithStream17_has_room
  have : (1 : Nat) = 2 := calc
    1 = w.get Reg.ALN_HOST_RING.HEAD := hhead.symm
    _ = _ := hadvances (by decide +kernel) hroom
    _ = 2 := hnext
  omega

end Sys2Proof.Machine

namespace Sys2Proof.Machine

/-! ### Reset -/

/-- Settles O2: the state after reset is a literal, and what it holds is read off it. -/
theorem resetStateIsWellFormed : Obligations.ResetStateIsWellFormed := by
  unfold Obligations.ResetStateIsWellFormed
  exact ⟨rfl, rfl, rfl, rfl, rfl⟩

/-! ### Requesters whose accesses have no effect -/

theorem guarded_of_silent {s : State} {who : Requester} (h : s.silent who = true) (a : Nat) (f : State → State) :
    s.guarded who a f = s := by simp [State.guarded, h]

theorem open_of_silent {s : State} {who : Requester} (h : s.silent who = true) (a : Nat) (f : State → State) :
    s.open_ who a f = s := by simp [State.open_, h]

/-- The row of a guarded register is a guarded write and nothing else; the soft reset alone answers to a second rule (R87). -/
theorem exec_of_guarded_row {c : Instr} {who : Requester} {addr : Nat} (h : c.register = some (true, who, addr))
    (hc : ∀ w, c ≠ .hostSoftReset who w) : ∃ a f, ∀ s, exec c s = .next (s.guarded who a f) := by
  cases c <;> simp only [Instr.register, Option.some.injEq, Prod.mk.injEq, reduceCtorEq, Bool.false_eq_true, false_and, true_and] at h
  case hostSoftReset w => obtain ⟨rfl, -⟩ := h; exact absurd rfl (hc w)
  all_goals obtain ⟨rfl, -⟩ := h; exact ⟨_, _, fun _ => rfl⟩

/-- The row of any other register is an open write and nothing else. -/
theorem exec_of_open_row {c : Instr} {who : Requester} {addr : Nat} (h : c.register = some (false, who, addr)) :
    ∃ a f, ∀ s, exec c s = .next (s.open_ who a f) := by
  cases c <;> simp only [Instr.register, Option.some.injEq, Prod.mk.injEq, reduceCtorEq, Bool.true_eq_false, false_and, true_and] at h
  all_goals obtain ⟨rfl, -⟩ := h; exact ⟨_, _, fun _ => rfl⟩

theorem execHostSoftReset_of_silent {s : State} {who : Requester} {w : SoftReset} (h : s.silent who = true)
    (hw : s.boot.inReset = true → w ≠ ⟨0x5AFE0001, true⟩) : execHostSoftReset who w s = .next s := by
  unfold execHostSoftReset
  rw [guarded_of_silent h, guarded_of_silent h]
  obtain ⟨key, co⟩ := w
  split
  · rfl
  · split
    · obtain rfl : co = false := by
        cases co with
        | false => rfl
        | true => exact absurd (by simp_all) (hw ‹_›)
      rfl
    · rfl

/-- Settles O9: a register row is its guarded or open write, which a silent requester does not reach; the soft reset has its own case. -/
theorem noRegisterCommandActsInReset : Obligations.NoRegisterCommandActsInReset := by
  unfold Obligations.NoRegisterCommandActsInReset
  intro c g who addr s hreg hsilent hsoft
  cases g with
  | false =>
    obtain ⟨a, f, hexec⟩ := exec_of_open_row hreg
    rw [hexec, open_of_silent hsilent]
  | true =>
    by_cases hc : ∃ w, c = .hostSoftReset who w
    · obtain ⟨w, rfl⟩ := hc
      exact execHostSoftReset_of_silent hsilent fun hin hw => hsoft hin (by rw [hw])
    · obtain ⟨a, f, hexec⟩ := exec_of_guarded_row hreg fun w hw => hc ⟨w, hw⟩
      rw [hexec, guarded_of_silent hsilent]

end Sys2Proof.Machine

namespace Sys2Proof.Machine

/-! ### What a move leaves alone, part by part -/

theorem Moves.boot_eq {m : List Part} {s t : State} (h : Moves m s t) (hm : m.contains .boot = false) : t.boot = s.boot :=
  h.touches.2 .boot hm

/-! ### The end of a reset -/

theorem led_setLed {s : State} {f : Fld} {k v : Nat} (h : s.filesOk = true) : (s.setLed f k v).led f k = v % 2 ^ f.width := by
  simp [State.led, State.setLed, State.get_set h]

/-- The fields of one ledger entry stand apart. -/
theorem led_setLed_ne {s : State} {f g : Fld} {k v : Nat} (h : f.key ≠ g.key) (hd : f.dims.head? = g.dims.head?) :
    (s.setLed f k v).led g k = s.led g k := by
  simp [State.led, State.setLed, State.get_set_ne (.inl (Fld.ix_ne _ h hd))]

theorem led_set {s : State} {f g : Fld} {k v : Nat} (h : f.dom ≠ g.dom) : (s.set f v).led g k = s.led g k :=
  State.get_set_ne (.inr (by simpa using h))

/-- Step k's entry as its entering writes it (R71). -/
def State.newEntry (s : State) (k attempts alt stored : Nat) : State :=
  (((((s.setLed Reg.BOOT_LEDGER.OUTCOME k 1).setLed Reg.BOOT_LEDGER.ATTEMPTS k attempts).setLed Reg.BOOT_LEDGER.ALT k alt).setLed
    Reg.BOOT_LEDGER.STORED k stored).setLed Reg.BOOT_LEDGER.DURATION k 0).setLed Reg.BOOT_LEDGER.DETAIL k 0

theorem newEntry_outcome {s : State} (h : s.filesOk = true) (k a alt stored : Nat) :
    (s.newEntry k a alt stored).led Reg.BOOT_LEDGER.OUTCOME k = 1 := by
  unfold State.newEntry
  iterate 5 rw [led_setLed_ne (by decide) (by decide)]
  exact led_setLed h

theorem moves_newEntry (s : State) (k a alt stored : Nat) : Moves [.files, .ledger] s (s.newEntry k a alt stored) := by
  unfold State.newEntry
  repeat' apply (Moves.trans · (moves_setLed ..))
  exact Moves.refl _ _

/-- Entering step 1 writes its entry, notes the time and shows the step. -/
theorem enterStep_one (s : State) : ∃ a alt stored,
    s.enterStep 1 = ({ s.newEntry 1 a alt stored with
      boot := { (s.newEntry 1 a alt stored).boot with stepMs := s.get Reg.BOOT_ELAPSED.ELAPSED } } : State).set Reg.BOOT_STATUS.STEP 1 :=
  ⟨_, _, _, rfl⟩

/-- Step 1 as it is entered: STEP shows it, its entry is in progress, and the straps stay as they were sampled. -/
theorem enterStep_one_shows {s : State} (h : s.filesOk = true) :
    (s.enterStep 1).get Reg.BOOT_STATUS.STEP = 1 ∧ (s.enterStep 1).led Reg.BOOT_LEDGER.OUTCOME 1 = 1 ∧
      (s.enterStep 1).boot = { s.boot with stepMs := s.get Reg.BOOT_ELAPSED.ELAPSED } := by
  obtain ⟨a, alt, stored, heq⟩ := enterStep_one s
  have hentry := moves_newEntry s 1 a alt stored
  rw [heq]
  refine ⟨State.get_set (hentry.files h), (led_set (by decide)).trans ?_, ?_⟩
  · exact (State.get_upd ..).trans (newEntry_outcome h 1 a alt stored)
  · rw [State.set_boot, hentry.boot_eq rfl]

/-- Processing the previous ledger leaves of the boot state all but the step of safe mode. -/
theorem processLedger_boot (s : State) (ks : List Nat) : ∃ w : State, ∃ x,
    s.processLedger ks = { w with boot := { w.boot with safeStep := x } } ∧ w.boot = s.boot := by
  refine ⟨_, _, rfl, Moves.boot_eq (m := [.files, .out, .ledger, .evr]) ?_ rfl⟩
  refine Moves.foldl (fun u k => ?_) (Moves.step (moves_logOwn ..) rfl (Moves.foldl (fun u k => ?_) (Moves.refl _ _)))
  · exact Moves.step (moves_showMemory ..) rfl (Moves.step (moves_setLed ..) rfl (Moves.step (moves_setLed ..) rfl (Moves.refl _ _)))
  · exact Moves.step (moves_closeEntry ..) rfl (Moves.refl _ _)

/-- Settles O14: the work before step 1 keeps the sampled straps, and step 1 is entered last. -/
theorem startBeginsAtStepOne : Obligations.StartBeginsAtStepOne := by
  unfold Obligations.StartBeginsAtStepOne
  intro s casId testEn hfiles hin
  suffices hlast : ∃ w : State, exec (.resetEnd casId testEn) s = .next (w.enterStep 1) ∧ w.filesOk = true ∧
      w.boot.inReset = false ∧ w.boot.casId = casId % 8 ∧ w.boot.testEn = testEn by
    obtain ⟨w, hexec, hw, hreset, hcas, htest⟩ := hlast
    obtain ⟨hstep, hled, hboot⟩ := enterStep_one_shows hw
    exact ⟨_, hexec, (congrArg Boot.inReset hboot).trans hreset, (congrArg Boot.casId hboot).trans hcas,
      (congrArg Boot.testEn hboot).trans htest, hstep, hled⟩
  show ∃ w : State, execResetEnd casId testEn s = _ ∧ _
  unfold execResetEnd
  rw [if_neg (by simp [hin])]
  extract_lets _ _ s1 s2 s3 s4 s5
  have hs1 : s1.filesOk = true := hfiles
  have h2 : Moves [.files, .free] s1 s2 := Moves.step (moves_set ..) rfl (Moves.step (moves_drawDebugNonce ..) rfl
    (Moves.step (moves_drawNonce ..) rfl (Moves.step (moves_set ..) rfl (Moves.refl _ _))))
  have h3 : Moves [.files, .free] s1 s3 := Moves.step (moves_setHealth ..) rfl (Moves.step (moves_setHealth ..) rfl h2)
  have h4 : Moves [.files, .free, .out, .evr, .backup] s1 s4 := Moves.ite
    (Moves.step (moves_backupCatchUp ..) rfl (Moves.step h3 rfl (Moves.refl _ _)))
    (Moves.step (moves_emit ..) rfl (Moves.step h3 rfl (Moves.refl _ _)))
  have hfiles4 : s4.filesOk = true := h4.files hs1
  have h5 : s5.filesOk = true ∧ ∃ x, s5.boot = { s1.boot with safeStep := x } := by
    rw [← h4.boot_eq rfl]
    simp only [s5]
    split
    · obtain ⟨w, x, hw, hboot⟩ := processLedger_boot s4 steps
      exact ⟨(moves_processLedger ..).files hfiles4, x, by rw [hw, ← hboot]⟩
    · have hload : Moves [.files, .ledger] s4 ((steps.take 3).foldl (fun s k => s.loadLed k 0) s4) :=
        Moves.foldl (fun u k => moves_loadLed ..) (Moves.refl _ _)
      exact ⟨hload.files hfiles4, s4.boot.safeStep, hload.boot_eq rfl⟩
  obtain ⟨hfiles5, x, hboot5⟩ := h5
  exact ⟨s5, rfl, hfiles5, congrArg Boot.inReset hboot5, congrArg Boot.casId hboot5, congrArg Boot.testEn hboot5⟩

end Sys2Proof.Machine

namespace Sys2Proof.Machine

/-! ### A reset in force -/

/-- BOOT_CAUSE as a reset writes it. -/
def State.setCause (s : State) (kind step also : Nat) (brown : Bool) : State :=
  (((s.set Reg.BOOT_CAUSE.KIND kind).set Reg.BOOT_CAUSE.STEP step).set Reg.BOOT_CAUSE.ALSO also).setFlag Reg.BOOT_CAUSE.BROWNOUT brown

theorem setCause_get {s : State} (h : s.filesOk = true) (kind step also : Nat) (brown : Bool) :
    (s.setCause kind step also brown).get Reg.BOOT_CAUSE.KIND = kind % 2 ^ 3 ∧
      (s.setCause kind step also brown).get Reg.BOOT_CAUSE.STEP = step % 2 ^ 5 ∧
      (s.setCause kind step also brown).get Reg.BOOT_CAUSE.ALSO = also % 2 ^ 5 := by
  have h1 : (s.set Reg.BOOT_CAUSE.KIND kind).filesOk = true := State.filesOk_set h
  unfold State.setCause State.setFlag
  refine ⟨?_, ?_, ?_⟩
  · iterate 3 rw [State.get_set_ne (.inl (by decide))]
    exact State.get_set h
  · iterate 2 rw [State.get_set_ne (.inl (by decide))]
    exact State.get_set h1
  · rw [State.get_set_ne (.inl (by decide))]
    exact State.get_set (State.filesOk_set h1)

/-- What a reset cuts short on its way (R60), and the note of an abandoned swap. -/
theorem doReset_eq (s : State) (kind step also : Nat) (brown : Bool) : ∃ v : State,
    Moves [.files, .free, .out, .ledger, .pins, .keys, .nvs, .backup, .nrg] s v ∧
      s.doReset kind step also brown = (v.cleared kind (decide (2 ≤ kind))).setCause kind step also brown := by
  refine ⟨_, ?_, rfl⟩
  exact Moves.upd rfl rfl rfl rfl (Moves.step (moves_cutJournal ..) rfl (Moves.step (moves_cutSave ..) rfl
    (Moves.step (moves_nrgPush ..) rfl (Moves.step (moves_cutPulses ..) rfl (Moves.refl _ _)))))

theorem filesOk_cleared {s : State} (h : s.filesOk = true) (kind : Nat) (keep : Bool) : (s.cleared kind keep).filesOk = true := by
  simp only [State.filesOk, Bool.and_eq_true] at h
  simp [State.filesOk, State.cleared, RegFile.rising, h]

theorem doReset_env (s : State) (kind step also : Nat) (brown : Bool) :
    (s.doReset kind step also brown).env = { s.env with link := s.env.link && decide (2 ≤ kind) } := by
  obtain ⟨v, hv, heq⟩ := doReset_eq s kind step also brown
  have henv : v.env = s.env := hv.touches.2 .env rfl
  rw [heq, ← henv]
  rfl

theorem doReset_also {s : State} (h : s.filesOk = true) (kind step also : Nat) (brown : Bool) :
    (s.doReset kind step also brown).get Reg.BOOT_CAUSE.ALSO = also % 2 ^ 5 := by
  obtain ⟨v, hv, heq⟩ := doReset_eq s kind step also brown
  rw [heq]
  exact (setCause_get (filesOk_cleared (hv.files h) _ _) kind step also brown).2.2

/-- What a reset leaves (R56, R85). -/
theorem heldInReset_doReset {s : State} (h : s.filesOk = true) {kind : Nat} (hk : kind < 8) (step also : Nat) (brown : Bool) :
    HeldInReset s kind step (s.doReset kind step also brown) := by
  have henv := doReset_env s kind step also brown
  obtain ⟨v, hv, heq⟩ := doReset_eq s kind step also brown
  have hfuses : v.fuses = s.fuses := hv.touches.2 .fuses rfl
  rw [heq] at henv ⊢
  obtain ⟨hkind, hstep, -⟩ := setCause_get (filesOk_cleared (hv.files h) kind (decide (2 ≤ kind))) kind step also brown
  exact ⟨rfl, rfl, rfl, rfl, hkind.trans (Nat.mod_eq_of_lt hk), hstep, rfl, rfl, rfl, rfl, rfl, hfuses,
    (congrArg Env.junction henv :), (congrArg Env.perst henv :), congrArg Env.link henv⟩

theorem HeldInReset.mainPower {s t : State} {step : Nat} (h : HeldInReset s 0 step t) : t.mainPower = false := by
  obtain ⟨-, -, hin, hkind, -⟩ := h
  simp [State.mainPower, hin, hkind]

/-! ### Which reset governs (R87) -/

theorem reset_of_running {s : State} (h : s.boot.inReset = false) (kind : Nat) (co brown : Bool) :
    s.reset_ kind co brown = s.doReset kind 0 0 brown := by simp [State.reset_, h]

theorem reset_of_lower {s : State} (h : s.boot.inReset = true) {kind : Nat} (hk : kind < s.boot.kind) (co brown : Bool) :
    s.reset_ kind co brown = s.doReset kind 0 (if co then setBit (s.get Reg.BOOT_CAUSE.ALSO) s.boot.kind true else 0) brown := by
  simp [State.reset_, h, hk]

theorem reset_of_higher {s : State} (h : s.boot.inReset = true) {kind : Nat} (hk : s.boot.kind < kind) (co brown : Bool) :
    s.reset_ kind co brown = if co then s.set Reg.BOOT_CAUSE.ALSO (setBit (s.get Reg.BOOT_CAUSE.ALSO) kind true) else s := by
  simp [State.reset_, h, hk.ne', Nat.not_lt.mpr hk.le]

/-- A power-on reset governs whatever stands. -/
theorem reset_zero (s : State) (co brown : Bool) : ∃ also, s.reset_ 0 co brown = s.doReset 0 0 also brown := by
  cases h : s.boot.inReset with
  | false => exact ⟨0, reset_of_running h ..⟩
  | true =>
    obtain hk | hk := Nat.eq_zero_or_pos s.boot.kind
    · exact ⟨s.get Reg.BOOT_CAUSE.ALSO, by simp [State.reset_, h, hk]⟩
    · exact ⟨_, reset_of_lower h hk ..⟩

/-- The higher kind that comes within 1 µs of the governing one is recorded in ALSO, and nothing else changes. -/
theorem reset_of_higher_holds {s : State} (hfiles : s.filesOk = true) (h : s.boot.inReset = true) {kind : Nat} (hk : s.boot.kind < kind)
    (co brown : Bool) :
    (s.reset_ kind co brown).boot = s.boot ∧ (co = true → (s.reset_ kind co brown).get Reg.BOOT_CAUSE.ALSO =
      setBit (s.get Reg.BOOT_CAUSE.ALSO) kind true % 2 ^ 5) ∧ Keeps [Reg.BOOT_CAUSE.ALSO] [] s (s.reset_ kind co brown) := by
  rw [reset_of_higher h hk]
  cases co with
  | false => exact ⟨rfl, nofun, Keeps.refl _ _ _⟩
  | true => exact ⟨rfl, fun _ => State.get_set hfiles, (Keeps.refl _ _ _).set (List.mem_singleton_self _)⟩

/-! ### The reset commands -/

/-- The state as the supplies' report leaves it. -/
def State.withRails (s : State) (r : Rails) : State :=
  { s with
    ledger := { s.ledger with badPowerDown := s.ledger.badPowerDown || !r.orderly }
    env := { s.env with io18 := r.io18, io33 := r.io33, sdMv := r.sdMv } }

/-- The power-on reset of R56 in force, with the supplies reported. -/
def PoweredDown (s : State) (r : Rails) (t : State) : Prop :=
  HeldInReset s 0 0 t ∧ t.env.io18 = r.io18 ∧ t.env.io33 = r.io33 ∧ t.env.sdMv = r.sdMv ∧ t.mainPower = false

theorem poweredDown_reset {s : State} (h : s.filesOk = true) (r : Rails) (co brown : Bool) :
    PoweredDown s r ((s.withRails r).reset_ 0 co brown) := by
  obtain ⟨also, heq⟩ := reset_zero (s.withRails r) co brown
  have hheld : HeldInReset s 0 0 ((s.withRails r).doReset 0 0 also brown) := heldInReset_doReset (s := s.withRails r) h (by decide) ..
  have henv := doReset_env (s.withRails r) 0 0 also brown
  rw [heq]
  exact ⟨hheld, (congrArg Env.io18 henv :), (congrArg Env.io33 henv :), (congrArg Env.sdMv henv :), hheld.mainPower⟩

theorem HeldInReset.tookFree {s t : State} {kind step : Nat} (h : HeldInReset s kind step t) : HeldInReset s kind step t.tookFree := h

theorem exec_powerUp (dip : Nat) (r : Rails) (co : Bool) (s : State) :
    exec (.powerOnReset dip true r co) s = .next ((s.withRails r).reset_ 0 co false) := rfl

theorem exec_dip (dip : Nat) (r : Rails) (co : Bool) (s : State) :
    exec (.powerOnReset dip false r co) s = .next (if dip < 1000 then s
      else if dip < 2000 then (if s.freeBit then ((s.withRails r).reset_ 0 co true).tookFree else s.tookFree)
      else (s.withRails r).reset_ 0 co true) := rfl

theorem goes_powerOnReset {s : State} (h : s.filesOk = true) {dip : Nat} {up : Bool} (r : Rails) (co : Bool) (hd : up = true ∨ 2000 ≤ dip) :
    Goes (.powerOnReset dip up r co) s (PoweredDown s r) := by
  cases up with
  | true => exact ⟨_, exec_powerUp .., poweredDown_reset h r co false⟩
  | false =>
    have hdip : 2000 ≤ dip := by simpa using hd
    exact ⟨_, by rw [exec_dip, if_neg (by omega), if_neg (by omega)], poweredDown_reset h r co true⟩

theorem goes_shortDip {s : State} (h : s.filesOk = true) {dip : Nat} (r : Rails) (co : Bool) (hd : dip < 2000) :
    (dip < 1000 → exec (.powerOnReset dip false r co) s = .next s) ∧
    (1000 ≤ dip → Goes (.powerOnReset dip false r co) s fun t => HeldInReset s 0 0 t ∨ t = s.tookFree) := by
  refine ⟨fun hlt => by rw [exec_dip, if_pos hlt], fun hle => ⟨_, by rw [exec_dip, if_neg (by omega), if_pos hd], ?_⟩⟩
  split
  · exact .inl (poweredDown_reset h r co true).1.tookFree
  · exact .inr rfl

theorem glitch_of_lt {s : State} {ns : Nat} (h : ns < 100) (f : State → State) : s.glitch ns f = s := if_pos h

theorem glitch_of_le {s : State} {ns : Nat} (h : 200 ≤ ns) (f : State → State) : s.glitch ns f = f s := by
  rw [State.glitch, if_neg (by omega), if_neg (by omega)]

theorem glitch_between {s : State} {ns : Nat} (h : 100 ≤ ns) (h' : ns < 200) (f : State → State) :
    s.glitch ns f = (f s).tookFree ∨ s.glitch ns f = s.tookFree := by
  rw [State.glitch, if_neg (by omega), if_pos h']
  split
  · exact .inl rfl
  · exact .inr rfl

theorem exec_resetNAssert (low : Nat) (co : Bool) (s : State) :
    exec (.resetNAssert low co) s = .next (s.glitch low fun s => s.reset_ 1 co false) := rfl

theorem exec_softKey (who : Requester) (co : Bool) (s : State) :
    exec (.hostSoftReset who ⟨0x5AFE0001, co⟩) s = .next (if s.boot.inReset then (if co then s.reset_ 2 true false else s)
      else s.guarded who Reg.BOOT_SOFTRST.KEY.base fun s => s.reset_ 2 false false) := by
  show execHostSoftReset who ⟨0x5AFE0001, co⟩ s = _
  simp only [execHostSoftReset, ne_eq, not_true_eq_false, if_false]

theorem exec_softReset_of_ne {s : State} {who : Requester} {key : Nat} (co : Bool) (hk : key ≠ 0x5AFE0001) (hg : s.mayGuard who = true) :
    exec (.hostSoftReset who ⟨key, co⟩) s = .next s := by
  show execHostSoftReset who ⟨key, co⟩ s = _
  simp [execHostSoftReset, hk, State.guarded, hg]

theorem exec_watchdogExpiry (co : Bool) (s : State) :
    exec (.watchdogExpiry co) s =
      .next (if s.boot.wdtOn then s.reset_ 3 false false else if s.boot.inReset && co then s.reset_ 3 true false else s) := rfl

/-- The resets that may come while none is in force. -/
theorem goes_reset_of_running {s : State} (h : s.filesOk = true) (hin : s.boot.inReset = false) :
    (∀ low co, 200 ≤ low → Goes (.resetNAssert low co) s (HeldInReset s 1 0)) ∧
    (∀ low co, low < 100 → exec (.resetNAssert low co) s = .next s) ∧
    (∀ low co, 100 ≤ low → low < 200 → Goes (.resetNAssert low co) s fun t => HeldInReset s 1 0 t ∨ t = s.tookFree) ∧
    (∀ who co, s.silent who = false → s.mayGuard who = true → Goes (.hostSoftReset who ⟨0x5AFE0001, co⟩) s (HeldInReset s 2 0)) ∧
    (∀ who key co, key ≠ 0x5AFE0001 → s.mayGuard who = true → exec (.hostSoftReset who ⟨key, co⟩) s = .next s) ∧
    (∀ co, s.boot.wdtOn = true → Goes (.watchdogExpiry co) s (HeldInReset s 3 0)) := by
  have hheld (kind : Nat) (hk : kind < 8) (co brown : Bool) : HeldInReset s kind 0 (s.reset_ kind co brown) := by
    rw [reset_of_running hin]
    exact heldInReset_doReset h hk ..
  refine ⟨fun low co hl => ?_, fun low co hl => ?_, fun low co hl hl' => ?_, fun who co hs hg => ?_,
    fun who key co hk hg => exec_softReset_of_ne co hk hg, fun co hw => ?_⟩
  · exact ⟨_, by rw [exec_resetNAssert, glitch_of_le hl], hheld 1 (by decide) ..⟩
  · rw [exec_resetNAssert, glitch_of_lt hl]
  · refine ⟨_, exec_resetNAssert .., ?_⟩
    obtain heq | heq := glitch_between hl hl' (fun s => s.reset_ 1 co false) <;> rw [heq]
    · exact .inl (hheld 1 (by decide) ..).tookFree
    · exact .inr rfl
  · exact ⟨_, by rw [exec_softKey, if_neg (by simp [hin]), Ready.guarded ⟨h, hs, hg⟩], hheld 2 (by decide) ..⟩
  · exact ⟨_, by rw [exec_watchdogExpiry, if_pos hw], hheld 3 (by decide) ..⟩

/-- While a reset is in force, each reset command that the obligation lists is the reset of its kind. -/
theorem exec_reset_in_reset {s : State} (hin : s.boot.inReset = true) (hw : s.boot.wdtOn = false) {c : Instr} {k : Nat} {who : Requester}
    {co : Bool} {r : Rails}
    (hc : (c, k) ∈ [(Instr.powerOnReset 0 true r co, 0), (.resetNAssert 200 co, 1), (.hostSoftReset who ⟨0x5AFE0001, true⟩, 2),
      (.watchdogExpiry true, 3)]) (hco : k ≤ 1 ∨ co = true) :
    k ≤ 3 ∧ ((k = 0 ∧ exec c s = .next ((s.withRails r).reset_ k co false)) ∨ (k ≠ 0 ∧ exec c s = .next (s.reset_ k co false))) := by
  simp only [List.mem_cons, Prod.mk.injEq, List.not_mem_nil, or_false] at hc
  obtain ⟨rfl, rfl⟩ | ⟨rfl, rfl⟩ | ⟨rfl, rfl⟩ | ⟨rfl, rfl⟩ := hc
  · exact ⟨by decide, .inl ⟨rfl, rfl⟩⟩
  · exact ⟨by decide, .inr ⟨by decide, rfl⟩⟩
  · obtain rfl : co = true := by simpa using hco
    exact ⟨by decide, .inr ⟨by decide, by rw [exec_softKey, if_pos hin]; rfl⟩⟩
  · obtain rfl : co = true := by simpa using hco
    exact ⟨by decide, .inr ⟨by decide, by rw [exec_watchdogExpiry, if_neg (by simp [hw]), if_pos (by simp [hin])]⟩⟩

/-- Pins in reset, with the supplies present (R47, R48, R59). -/
theorem pins_in_reset {s : State} (hin : s.boot.inReset = true) (h18 : s.env.io18 = true) (h33 : s.env.io33 = true) (hsd : 700 ≤ s.env.sdMv)
    (k : Nat) :
    (∀ p ∈ [Pin.almOut k, .xtrig k, .casPps, .pls k], s.pin p = .released) ∧ s.pin .devOk = .low ∧
    (∀ p ∈ [Pin.ppsOut, .sdmClk k, .m0, .xspi, .xspiCs, .xspiReset, .avs, .tdo], s.pin p = .hiZ) ∧
    s.pin (.tx k) = .squelched ∧ s.pin (.rx k) = .unterminated ∧ s.pin .pcie = .electricalIdle ∧ s.pin .strap = .pulledDown ∧
    s.pin .tapIn = .pulledDown := by
  have hphase : s.phase = .reset := by simp [State.phase, hin]
  have hsdm : s.lanesPowered = true := by simpa [State.lanesPowered] using hsd
  simp [State.pin, State.powered, State.poweredPin, State.openDrain, State.whenSet, State.rxPin, State.strapsPulled, hphase, hin, h18, h33,
    hsdm]

theorem lanes_unpowered {s : State} (hsd : s.env.sdMv < 700) (k : Nat) :
    s.pin (.tx k) = .highImpedance ∧ s.pin (.rx k) = .highImpedance ∧ s.pin .pcie = .highImpedance := by
  have hsdm : s.lanesPowered = false := by simpa [State.lanesPowered] using hsd
  simp [State.pin, State.powered, unpoweredPin, hsdm]

/-- Settles O13: each accepted reset is the one operation doReset, whose rank against one in force is R87's; the pins are a table. -/
theorem resetsClearRegisters : Obligations.ResetsClearRegisters := by
  unfold Obligations.ResetsClearRegisters
  intro s h
  refine ⟨fun dip up r co hd => goes_powerOnReset h r co hd, fun dip r co hd => goes_shortDip h r co hd, goes_reset_of_running h,
    fun hin hw hkind c k who co r hc hco => ?_, pins_in_reset, lanes_unpowered⟩
  obtain ⟨hk, hexec⟩ := exec_reset_in_reset hin hw hc hco
  refine ⟨fun hlt => ?_, fun hgt => ?_⟩
  · obtain ⟨rfl, hexec⟩ | ⟨-, hexec⟩ := hexec
    · refine ⟨_, hexec, ?_⟩
      rw [reset_of_lower (s := s.withRails r) hin hlt]
      exact ⟨heldInReset_doReset (s := s.withRails r) h (by decide) .., doReset_also (s := s.withRails r) h ..⟩
    · refine ⟨_, hexec, ?_⟩
      rw [reset_of_lower hin hlt]
      exact ⟨heldInReset_doReset h (by omega) .., doReset_also h ..⟩
  · obtain ⟨rfl, -⟩ | ⟨-, hexec⟩ := hexec
    · exact absurd hgt (Nat.not_lt_zero _)
    · exact ⟨_, hexec, reset_of_higher_holds h hin hgt co false⟩

end Sys2Proof.Machine

namespace Sys2Proof.Machine

/-! ### Association lists and single bits -/

section
variable {κ α : Type} [DecidableEq κ]

theorem alookup_aerase_self (k : κ) (l : List (κ × α)) : alookup k (aerase k l) = none := by
  induction l with
  | nil => rfl
  | cons e l ih =>
    obtain ⟨j, a⟩ := e
    by_cases h : j = k
    · simpa [aerase, h] using ih
    · simpa [aerase, h, alookup, Ne.symm h] using ih

theorem alookup_aerase_of_ne {k j : κ} (h : j ≠ k) (l : List (κ × α)) : alookup j (aerase k l) = alookup j l := by
  induction l with
  | nil => rfl
  | cons e l ih =>
    obtain ⟨i, a⟩ := e
    by_cases hi : i = k
    · subst hi; simpa [aerase, alookup, h] using ih
    · have hcons : aerase k ((i, a) :: l) = (i, a) :: aerase k l := by simp [aerase, hi]
      rw [hcons, alookup, alookup, ih]

@[simp] theorem alookup_aset_self (k : κ) (a : α) (l : List (κ × α)) : alookup k (aset k a l) = some a := if_pos rfl

theorem alookup_aset_of_ne {k j : κ} (h : j ≠ k) (a : α) (l : List (κ × α)) : alookup j (aset k a l) = alookup j l :=
  (if_neg h).trans (alookup_aerase_of_ne h l)

end

theorem bitAt_eq_testBit (v k : Nat) : bitAt v k = v.testBit k := by
  rw [Nat.testBit_eq_decide_div_mod_eq]
  simp [bitAt, bitsOf, beq_eq_decide]

theorem bitAt_mod_two_pow {v k w : Nat} (h : k < w) : bitAt (v % 2 ^ w) k = bitAt v k := by
  simp [bitAt_eq_testBit, Nat.testBit_mod_two_pow, h]

/-- Setting a clear bit adds its weight, clearing a set one takes it away: the quotient's parity is then the new bit. -/
theorem bitAt_setBit_self (v k : Nat) (b : Bool) : bitAt (setBit v k b) k = b := by
  have hk : 0 < 2 ^ k := Nat.two_pow_pos k
  have hbit (x : Nat) : bitAt x k = (x / 2 ^ k % 2 == 1) := by simp [bitAt, bitsOf]
  cases h : bitAt v k <;> cases b <;> simp only [setBit, h, if_true, if_false, Bool.false_eq_true]
  case false.true =>
    have : v / 2 ^ k % 2 ≠ 1 := by simpa [hbit] using h
    rw [hbit, Nat.add_div_right v hk, beq_iff_eq]
    omega
  case true.false =>
    have hodd : v / 2 ^ k % 2 = 1 := by simpa [hbit] using h
    have hdiv : (v - 2 ^ k) / 2 ^ k = v / 2 ^ k - 1 := by simpa using Nat.sub_mul_div v (2 ^ k) 1
    rw [hbit, hdiv, beq_eq_false_iff_ne]
    omega

/-! ### One-bit fields -/

theorem flag_setFlag {s : State} {f : Fld} {b : Bool} (h : s.filesOk = true) (hw : f.width = 1) : (s.setFlag f b).flag f = b := by
  rw [State.flag, State.setFlag, State.get_set h, hw]
  cases b <;> rfl

theorem flag_setFlag_ne {s : State} {f g : Fld} {b : Bool} (h : f.key ≠ g.key ∨ f.dom ≠ g.dom) : (s.setFlag f b).flag g = s.flag g := by
  rw [State.flag, State.flag, State.setFlag, State.get_set_ne h]

theorem filesOk_setFlag {s : State} {f : Fld} {b : Bool} (h : s.filesOk = true) : (s.setFlag f b).filesOk = true := State.filesOk_set h

theorem flag_eq_of_get_eq {s t : State} {f : Fld} (h : t.get f = s.get f) : t.flag f = s.flag f := by rw [State.flag, State.flag, h]

/-! ### The roast in force -/

theorem roast_eq {s t : State} (hg : t.get Reg.CFG_ROAST_STATUS.ACTIVE_REGION = s.get Reg.CFG_ROAST_STATUS.ACTIVE_REGION)
    (hr : t.roasts = s.roasts) : t.roast = s.roast := by
  unfold State.roast State.region State.activeRegion
  rw [hg, hr]

/-! ### Refused accesses (R90, R99) -/

/-- An error bit of HIF_ERR set for a requester is a refusal: the bit and the offset stand apart. -/
theorem refusedWith_hifErr {s : State} (h : s.filesOk = true) (who : Requester) {f : Fld} (addr : Nat) (hf : f.perReq = true)
    (hbase : f.base = 4) (hlsb : f.lsb < 32) (hw : f.width = 1) : RefusedWith who f addr s (s.hifErr who f addr) := by
  have hne : (f.of who).key ≠ (Reg.HIF_ERR_ADDR.OFFSET.of who).key := by
    simp only [Fld.of, hf, Reg.HIF_ERR_ADDR.OFFSET, if_true, Fld.inBank, Fld.key, hbase]
    omega
  have hwidth : (f.of who).width = 1 := by simp [Fld.of, hf, Fld.inBank, hw]
  have howidth : (Reg.HIF_ERR_ADDR.OFFSET.of who).width = 25 := rfl
  let s1 := if s.hifErrWord who = 0 then s.set (Reg.HIF_ERR_ADDR.OFFSET.of who) addr else s
  let s2 := s1.set (f.of who) 1
  have h1 : s1.filesOk = true := by
    simp only [s1]
    split
    · exact State.filesOk_set h
    · exact h
  have hout : ∃ o, s.hifErr who f addr = { s2 with out := o } := by
    unfold State.hifErr
    dsimp only
    split
    · cases who <;> exact ⟨_, rfl⟩
    · exact ⟨_, rfl⟩
  obtain ⟨o, ho⟩ := hout
  rw [ho]
  refine ⟨?_, fun hzero => ?_, ?_⟩
  · rw [State.get_upd, State.get_set h1, hwidth]; rfl
  · rw [State.get_upd, State.get_set_ne (.inl hne)]
    simp only [s1, if_pos hzero]
    rw [State.get_set h, howidth]
  · have hk : Keeps [f.of who, Reg.HIF_ERR_ADDR.OFFSET.of who] [.out] s s2 := by
      refine Keeps.set (by simp) (Keeps.ite (Keeps.set (by simp) (Keeps.refl _ _ _)) (Keeps.refl _ _ _))
    exact Keeps.upd rfl rfl rfl rfl hk (h6 := .inl rfl)

end Sys2Proof.Machine

namespace Sys2Proof.Machine

/-! ### Blocks with EN, BUSY and PEND (R106) -/

/-- The three fields of a block stand in one register. -/
theorem Block.fields (b : Block) :
    (b.en.width = 1 ∧ b.busy.width = 1 ∧ b.pend.width = 1) ∧
      b.en.key ≠ b.busy.key ∧ b.en.key ≠ b.pend.key ∧ b.busy.key ≠ b.pend.key := by
  cases b with
  | ring r => cases r <;> simp [Block.en, Block.busy, Block.pend, Ring.fld, Fld.ix2, Fld.ix, Fld.key, Reg.MAC_RXRING.EN, Reg.MAC_RXRING.BUSY,
      Reg.MAC_RXRING.PEND, Reg.MAC_TXRING.EN, Reg.MAC_TXRING.BUSY, Reg.MAC_TXRING.PEND, Reg.PTP_TXRING.EN, Reg.PTP_TXRING.BUSY,
      Reg.PTP_TXRING.PEND, Reg.ING_INJ_RING.EN, Reg.ING_INJ_RING.BUSY, Reg.ING_INJ_RING.PEND]
  | port p | ingQueue p | filterGroup p =>
    exact ⟨by simp [Block.en, Block.busy, Block.pend]; decide,
      Fld.ix_ne _ (by decide) rfl, Fld.ix_ne _ (by decide) rfl, Fld.ix_ne _ (by decide) rfl⟩
  | _ => decide

/-- EN and BUSY of a block as a start sets them. -/
def State.started (s : State) (b : Block) : State := (s.setFlag b.en true).setFlag b.busy true

theorem enWrite_start {s : State} {b : Block} (hstate : s.get Reg.BOOT_STATUS.STATE < 2) (hen : s.flag b.en = false)
    (hbusy : s.flag b.busy = false) (hmay : s.mayStart b = true) (start stop : State → State) :
    s.enWrite b true start stop = start (s.started b) := by
  simp [State.enWrite, Nat.not_le.mpr hstate, hbusy, hmay, State.enEffect, hen, State.enFields, State.started]

theorem enWrite_stop {s : State} {b : Block} (hstate : s.get Reg.BOOT_STATUS.STATE < 2) (hen : s.flag b.en = true)
    (hpend : s.flag b.pend = false) (start stop : State → State) :
    s.enWrite b false start stop = if s.flag b.busy then stop (s.setFlag b.en false) else s.setFlag b.en false := by
  cases hbusy : s.flag b.busy <;>
    simp [State.enWrite, Nat.not_le.mpr hstate, hpend, State.enEffect, hen, State.enFields, hbusy]

theorem filesOk_started {s : State} (h : s.filesOk = true) (b : Block) : (s.started b).filesOk = true := filesOk_setFlag (filesOk_setFlag h)

theorem flags_started {s : State} (h : s.filesOk = true) (b : Block) : (s.started b).flag b.en = true ∧ (s.started b).flag b.busy = true := by
  obtain ⟨⟨hen, hbusy, -⟩, hne, -⟩ := b.fields
  exact ⟨(flag_setFlag_ne (.inl hne.symm)).trans (flag_setFlag h hen), flag_setFlag (filesOk_setFlag h) hbusy⟩

theorem keeps_started (s : State) (b : Block) : Keeps [b.en, b.busy] [] s (s.started b) :=
  ((Keeps.refl _ _ _).setFlag (by simp)).setFlag (by simp)

/-- A stop that does nothing of its own changes EN alone. -/
theorem stop_holds {s : State} (h : s.filesOk = true) (hstate : s.get Reg.BOOT_STATUS.STATE < 2) {b : Block} (hen : s.flag b.en = true)
    (hpend : s.flag b.pend = false) (start : State → State) :
    (s.enWrite b false start id).flag b.en = false ∧ Keeps [b.en] [] s (s.enWrite b false start id) := by
  rw [enWrite_stop hstate hen hpend, id, ite_self]
  exact ⟨flag_setFlag h b.fields.1.1, (Keeps.refl _ _ _).setFlag (by simp)⟩

/-! ### What spares a set of register fields -/

/-- From `s` to `t` every field that satisfies `P` reads the same. -/
structure Spares (P : Fld → Prop) (s t : State) : Prop where
  get_eq : ∀ g, P g → t.get g = s.get g

section
variable {P : Fld → Prop} {s u t : State}

theorem Spares.refl (P : Fld → Prop) (s : State) : Spares P s s := ⟨fun _ _ => rfl⟩

theorem Spares.trans (h : Spares P s u) (k : Spares P u t) : Spares P s t := ⟨fun g hg => (k.get_eq g hg).trans (h.get_eq g hg)⟩

theorem Spares.set {f : Fld} {v : Nat} (hf : ∀ g, P g → f.key ≠ g.key ∨ f.dom ≠ g.dom) (h : Spares P s u) : Spares P s (u.set f v) :=
  ⟨fun g hg => (State.get_set_ne (hf g hg)).trans (h.get_eq g hg)⟩

theorem Spares.setFlag {f : Fld} {b : Bool} (hf : ∀ g, P g → f.key ≠ g.key ∨ f.dom ≠ g.dom) (h : Spares P s u) :
    Spares P s (u.setFlag f b) := h.set hf

theorem Spares.count {f : Fld} {n : Nat} (hf : ∀ g, P g → f.key ≠ g.key ∨ f.dom ≠ g.dom) (h : Spares P s u) :
    Spares P s (u.count f n) := h.set hf

/-- A move that leaves the register files alone. -/
theorem Spares.moves {m : List Part} (k : Moves m u t) (hm : m.contains .files = false) (h : Spares P s u) : Spares P s t :=
  ⟨fun g hg => (get_moves k hm g).trans (h.get_eq g hg)⟩

/-- Parts other than the register files are replaced. -/
theorem Spares.parts (h : Spares P s u) (hr : t.regs = u.regs) (hb : t.bkp = u.bkp) (hf : t.fuse = u.fuse) : Spares P s t := by
  refine ⟨fun g hg => Eq.trans ?_ (h.get_eq g hg)⟩
  unfold State.get State.file
  cases g.dom <;> simp [hr, hb, hf]

/-- A step that begins after parts other than the register files were replaced. -/
theorem Spares.ofParts (h : Spares P u t) (hr : u.regs = s.regs) (hb : u.bkp = s.bkp) (hf : u.fuse = s.fuse) : Spares P s t :=
  ((Spares.refl P s).parts hr hb hf).trans h

theorem Spares.ite {c : Prop} [Decidable c] (h : Spares P s u) (k : Spares P s t) : Spares P s (if c then u else t) := by
  split <;> assumption

theorem Spares.foldl {α : Type} {f : State → α → State} {l : List α} (hf : ∀ v, ∀ a ∈ l, Spares P v (f v a)) (h : Spares P s u) :
    Spares P s (l.foldl f u) := by
  induction l generalizing u with
  | nil => exact h
  | cons a l ih => exact ih (fun v b hb => hf v b (List.mem_cons_of_mem _ hb)) (h.trans (hf u a List.mem_cons_self))

theorem Spares.mono {Q : Fld → Prop} (h : Spares P s t) (hq : ∀ g, Q g → P g) : Spares Q s t := ⟨fun g hg => h.get_eq g (hq g hg)⟩

theorem Spares.flag (h : Spares P s t) {g : Fld} (hg : P g) : t.flag g = s.flag g := flag_eq_of_get_eq (h.get_eq g hg)

/-- An interrupt writes its own field, and puts out messages. -/
theorem Spares.irq {f m : Fld} {vec : Nat} (hf : ∀ g, P g → f.key ≠ g.key ∨ f.dom ≠ g.dom) (h : Spares P s u) :
    Spares P s (u.irq f m vec) := Spares.ite ((h.set hf).moves (moves_vector ..) rfl) (h.set hf)

theorem Spares.irqBit {f m : Fld} {k vec : Nat} (hf : ∀ g, P g → f.key ≠ g.key ∨ f.dom ≠ g.dom) (h : Spares P s u) :
    Spares P s (u.irqBit f m k vec) := Spares.ite ((h.set hf).moves (moves_vector ..) rfl) (h.set hf)

end

/-- What a fold does at one element of its list, where the steps at the others leave it done. -/
theorem foldl_establishes {α : Type} {f : State → α → State} {inv done : State → Prop} {a : α} {l : List α} (ha : a ∈ l)
    (hinv : ∀ v b, inv v → inv (f v b)) (hdone : ∀ v, inv v → done (f v a)) (hkeep : ∀ v b, b ≠ a → inv v → done v → done (f v b))
    {s : State} (hs : inv s) : done (l.foldl f s) := by
  suffices h : ∀ v, inv v → a ∈ l ∨ done v → done (l.foldl f v) from h s hs (.inl ha)
  clear ha hs
  induction l with
  | nil => exact fun v _ h => h.resolve_left List.not_mem_nil
  | cons b l ih =>
    intro v hv h
    refine ih (f v b) (hinv v b hv) ?_
    by_cases hb : b = a
    · exact .inr (hb ▸ hdone v hv)
    · obtain h | h := h
      · exact .inl ((List.mem_cons.mp h).resolve_left (Ne.symm hb))
      · exact .inr (hkeep v b hb hv h)

end Sys2Proof.Machine

namespace Sys2Proof.Machine

/-! ### What a port's start does to its own enables

MACp_CTL opens the port's register block, and no other register block has a field at the same place of its bank: what a start of the
transmitter writes (counters, status, interrupts, Barista's registers) spares EN and BUSY. -/

/-- A field of the first byte of a port's register block (or of another block of that size), in the shared bank. -/
def PortCtl (g : Fld) : Prop := g.key % 0x80000 < 8 ∧ g.key < bankSpan

theorem portCtl_en (p : Nat) (hp : p < 7) : PortCtl (Block.port p).en ∧ PortCtl (Block.port p).busy := by
  simp only [PortCtl, Block.en, Block.busy, Fld.key_ix (f := Reg.MAC_CTL.EN) rfl, Fld.key_ix (f := Reg.MAC_CTL.BUSY) rfl]
  simp only [Fld.key, Reg.MAC_CTL.EN, Reg.MAC_CTL.BUSY, bankSpan]
  omega

/-- A later field of a port's register block. -/
theorem ne_portCtl_ix {f : Fld} (hd : f.dims = [(7, 0x10000)]) (hk : 8 ≤ f.key % 0x80000) (p : Nat) :
    ∀ g, PortCtl g → (f.ix p).key ≠ g.key ∨ (f.ix p).dom ≠ g.dom := by
  intro g hg
  have := hg.1
  rw [Fld.key_ix hd]
  omega

theorem ne_portCtl {f : Fld} (hk : 8 ≤ f.key % 0x80000) : ∀ g, PortCtl g → f.key ≠ g.key ∨ f.dom ≠ g.dom := by
  intro g hg
  have := hg.1
  omega

/-- A core's own copy of a register. -/
theorem ne_portCtl_core {f : Fld} (hf : f.perReq = true) (p : Nat) :
    ∀ g, PortCtl g → (f.of (.core p)).key ≠ g.key ∨ (f.of (.core p)).dom ≠ g.dom := by
  intro g hg
  have := hg.2
  simp only [Fld.of, hf, if_true, Fld.inBank, Fld.key, Requester.bank, bankSpan] at this ⊢
  omega

theorem spares_unpreempt (s : State) (p : Nat) : Spares PortCtl s (s.unpreempt p) :=
  ((Spares.refl _ _).moves (moves_setCore ..) rfl).setFlag (ne_portCtl_core rfl p)

theorem spares_answerWork (s : State) (p thread : Nat) (valid : Bool) (reason obj : Nat) :
    Spares PortCtl s (s.answerWork p thread valid reason obj) := by
  unfold State.answerWork
  exact ((((Spares.refl _ s).set (ne_portCtl_core rfl p)).setFlag (ne_portCtl_core rfl p)).set (ne_portCtl_core rfl p)).set
    (ne_portCtl_core rfl p)

theorem spares_handOut (s : State) (p t : Nat) : Spares PortCtl s (s.handOut p t) := by
  unfold State.handOut
  extract_lets b s1 _ s2 _ s3 s4
  have h1 : Spares PortCtl s s1 := (Spares.refl _ _).moves (moves_setTcb ..) rfl
  have h2 : Spares PortCtl s s2 := h1.parts rfl rfl rfl
  have h3 : Spares PortCtl s s3 := h2.moves (moves_setCore ..) rfl
  have h4 : Spares PortCtl s s4 := Spares.count (ne_portCtl (by decide)) (Spares.set (ne_portCtl_core rfl p)
    (h3.trans (spares_answerWork ..)))
  exact Spares.foldl (fun v e _ => spares_unpreempt v e.1) h4

theorem spares_raisePreempt (s : State) (p : Nat) (t : Option Nat) : Spares PortCtl s (s.raisePreempt p t) :=
  Spares.ite (Spares.refl _ _) (((Spares.refl _ _).moves (moves_setCore ..) rfl).setFlag (ne_portCtl_core rfl p))

theorem spares_makeReady (s : State) (t reason obj : Nat) : Spares PortCtl s (s.makeReady t reason obj) := by
  unfold State.makeReady
  extract_lets b s1 _ s2
  have h1 : Spares PortCtl s s1 := (Spares.refl _ _).moves (moves_setTcb ..) rfl
  have h2 : Spares PortCtl s s2 := h1.parts rfl rfl rfl
  split
  · exact h2.trans (spares_handOut ..)
  · split
    · exact h2.trans (spares_raisePreempt ..)
    · exact h2

theorem spares_objSignal (s : State) (o : Nat) : Spares PortCtl s (s.objSignal o) := by
  unfold State.objSignal
  have hset (x : WaitObj) : Spares PortCtl s (s.setObj o x) := (Spares.refl _ _).moves (moves_setObj ..) rfl
  have hcount : Spares PortCtl s (s.count Reg.SCH.SIG_ABSORBED) := (Spares.refl _ _).count (ne_portCtl (by decide))
  split
  · exact (spares_makeReady ..).ofParts rfl rfl rfl
  · exact Spares.ite (Spares.ite (hset _) hcount) (Spares.ite (hset _) hcount)

theorem spares_macIrq (s : State) (p : Nat) {f : Fld} (k : Nat) (hd : f.dims = [(7, 0x10000)]) (hk : 8 ≤ f.key % 0x80000) :
    Spares PortCtl s (s.macIrq p f k) := (Spares.refl _ _).irqBit (ne_portCtl_ix hd hk p)

theorem spares_ringRaise (s : State) (r : Ring) : Spares PortCtl s (s.ringRaise r) := by
  unfold State.ringRaise
  split
  · cases r with
    | rx p k => exact spares_macIrq s p k rfl (by decide)
    | tx p k => exact spares_macIrq s p k rfl (by decide)
    | ptp p => exact (Spares.refl _ _).moves (moves_vector ..) rfl
    | inj => exact Spares.refl _ _
  · exact ((Spares.refl _ _).moves (moves_emit ..) rfl).trans (spares_objSignal ..)

theorem spares_ringEvent (s : State) (r : Ring) : Spares PortCtl s (s.ringEvent r) := by
  unfold State.ringEvent
  extract_lets due _
  exact Spares.ite ((spares_ringRaise ..).ofParts rfl rfl rfl) ((Spares.refl _ s).parts rfl rfl rfl)

theorem spares_descDone (s : State) (r : Ring) (addr word : Nat) (linkDrop refused : Bool) (stamp : Option Tai) :
    Spares PortCtl s (s.descDone r addr word linkDrop refused stamp) := by
  have hwrite (v : State) (a : Nat) (bs : Bytes) : Spares PortCtl v (v.ringWrite r a bs) := (Spares.refl _ _).moves (moves_ringWrite ..) rfl
  unfold State.descDone
  extract_lets w s1 s2
  refine Spares.trans ?_ (spares_ringEvent ..)
  simp only [s2]
  split
  · exact Spares.ite ((hwrite ..).trans (hwrite ..)) (hwrite ..)
  · exact hwrite ..

theorem spares_linkDropFrame (s : State) (p : Nat) (f : TxFrame) : Spares PortCtl s (s.linkDropFrame p f) := by
  have hcount : Spares PortCtl s (s.count (Reg.MAC.TX_LINKDOWN_DROP.ix p)) := (Spares.refl _ _).count (ne_portCtl_ix rfl (by decide) p)
  have hdone (v : State) : Spares PortCtl v (v.frameDone f true false none) := by
    unfold State.frameDone
    split
    · exact Spares.ite (Spares.refl _ _) (spares_descDone ..)
    · exact Spares.refl _ _
  have hdrop (v : State) : Spares PortCtl v (v.pubDrop f) := by
    unfold State.pubDrop
    split
    · exact (Spares.refl _ _).irq (ne_portCtl (by decide))
    · exact Spares.refl _ _
  exact hcount.trans ((hdone _).trans (hdrop _))

theorem spares_startFrom (s : State) (p q : Nat) : Spares PortCtl s (s.startFrom p q) := by
  unfold State.startFrom
  split
  · exact Spares.refl _ _
  · exact Spares.ite (Spares.setFlag (ne_portCtl_ix rfl (by decide) p) ((Spares.refl _ _).moves (moves_setPort ..) rfl))
      ((Spares.refl _ _).moves (moves_setPort ..) rfl)

theorem spares_startTx (s : State) (p : Nat) : Spares PortCtl s (s.startTx p) := by
  unfold State.startTx
  dsimp only
  refine Spares.ite (Spares.refl _ _) (Spares.ite (spares_startFrom ..) ?_)
  split
  · exact Spares.count (ne_portCtl_ix rfl (by decide) p) ((Spares.refl _ _).moves (moves_setPort ..) rfl)
  · split
    · exact Spares.ite (spares_startFrom ..) (Spares.refl _ _)
    · exact Spares.refl _ _

theorem spares_preempt (s : State) (p : Nat) : Spares PortCtl s (s.preempt p) := by
  unfold State.preempt
  dsimp only
  split
  · refine Spares.ite (Spares.moves (moves_tookFree ..) rfl (Spares.ite ?_ (Spares.refl _ _))) (Spares.refl _ _)
    exact Spares.count (ne_portCtl_ix rfl (by decide) p) ((Spares.refl _ _).moves (moves_setPort ..) rfl)
  · exact Spares.refl _ _

theorem spares_enqueue (s : State) (p q : Nat) (f : TxFrame) : Spares PortCtl s (s.enqueue p q f) := by
  have hport (v : State) (x : Port) : Spares PortCtl v (v.setPort p x) := (Spares.refl _ _).moves (moves_setPort ..) rfl
  unfold State.enqueue
  exact Spares.ite (spares_linkDropFrame ..)
    (Spares.trans (Spares.ite ((hport ..).trans (spares_preempt ..)) (hport ..)) (spares_startTx ..))

theorem spares_flushLink (s : State) (p : Nat) : Spares PortCtl s (s.flushLink p) := by
  have hport (v : State) (x : Port) : Spares PortCtl v (v.setPort p x) := (Spares.refl _ _).moves (moves_setPort ..) rfl
  unfold State.flushLink State.hsrDrain
  exact Spares.foldl (fun v e _ => Spares.ite ((hport ..).trans (spares_enqueue ..)) (Spares.refl _ _))
    (Spares.foldl (fun v f _ => spares_linkDropFrame v p f) (hport ..))

/-- A port's start: its transmitter is active, and its enables stand as they were written. -/
theorem portStart_holds (s : State) (p : Nat) : Spares PortCtl s (s.portStart p) ∧ bitAt (s.portStart p).pins.txActive p = true := by
  unfold State.portStart
  extract_lets _ s1
  have h1 : Spares PortCtl s s1 := (Spares.refl _ s).parts rfl rfl rfl
  have hpin : bitAt s1.pins.txActive p = true := bitAt_setBit_self ..
  split
  · exact ⟨h1.trans (spares_startTx ..), by rw [(moves_startTx s1 p).touches.2 .pins rfl]; exact hpin⟩
  · exact ⟨h1.trans (spares_flushLink ..), by rw [(moves_flushLink s1 p).touches.2 .pins rfl]; exact hpin⟩

end Sys2Proof.Machine

namespace Sys2Proof.Machine

/-! ### Full resets of filter groups (R256)

A full reset writes a group's status, its lanes' status and the clocks; the enables of the chain and of every group, and every register
below the filter chain, read as before. -/

/-- A field below FLT_IRQ, or EN, BUSY or PEND of a group. -/
def FltCtl (g : Fld) : Prop := g.key < 8 * 0x140010 ∨ (8 * 0x140100 ≤ g.key ∧ g.key < 8 * 0x140800 ∧ g.key % 0x100 < 3)

theorem ne_fltCtl_lane {f : Fld} (hd : f.dims = [(256, 0x10)]) (hk : 8 * 0x140800 ≤ f.key) (l : Nat) :
    ∀ g, FltCtl g → (f.ix l).key ≠ g.key ∨ (f.ix l).dom ≠ g.dom := by
  intro g hg
  rw [Fld.key_ix hd]
  rcases hg with hg | hg <;> omega

theorem ne_fltCtl_group {f : Fld} (hd : f.dims = [(32, 0x20)]) (hk : 8 * 0x140010 ≤ f.key) (hm : 3 ≤ f.key % 0x100) (k : Nat) :
    ∀ g, FltCtl g → (f.ix k).key ≠ g.key ∨ (f.ix k).dom ≠ g.dom := by
  intro g hg
  rw [Fld.key_ix hd]
  rcases hg with hg | hg <;> omega

theorem ne_fltCtl_clock {f : Fld} (hd : f.dims = [(4, 0x4)]) (hk : 8 * 0x140020 ≤ f.key ∧ f.key < 8 * 0x140024) {k : Nat} (hlt : k < 4) :
    ∀ g, FltCtl g → (f.ix k).key ≠ g.key ∨ (f.ix k).dom ≠ g.dom := by
  intro g hg
  rw [Fld.key_ix hd]
  rcases hg with hg | hg <;> omega

theorem ne_fltCtl {f : Fld} (hk : 8 * 0x140010 ≤ f.key ∧ f.key < 8 * 0x140100) : ∀ g, FltCtl g → f.key ≠ g.key ∨ f.dom ≠ g.dom := by
  intro g hg
  rcases hg with hg | hg <;> omega

theorem spares_showSdm (s : State) : Spares FltCtl s s.showSdm :=
  Spares.foldl (fun v k hk => ((Spares.refl _ v).setFlag (ne_fltCtl_clock rfl (by decide) (List.mem_range.mp hk))).set
    (ne_fltCtl_clock rfl (by decide) (List.mem_range.mp hk))) (Spares.refl _ _)

theorem spares_cutFade (s : State) (g : Nat) : Spares FltCtl s (s.cutFade g) := by
  unfold State.cutFade firBank
  split
  · exact Spares.refl _ _
  · have hset := (Spares.refl FltCtl s).moves (moves_setFgroup s g { s.fgroup g with fade := none }) rfl
    refine Spares.irq (ne_fltCtl (by decide)) (Spares.setFlag ?_ (Spares.setFlag ?_ (Spares.set ?_ hset)))
    · exact ne_fltCtl_group (f := Reg.FLT_G_FIR_BANK.QUEUED) rfl (by decide) (by decide) g
    · exact ne_fltCtl_group (f := Reg.FLT_G_FIR_BANK.FADING) rfl (by decide) (by decide) g
    · exact ne_fltCtl_group (f := Reg.FLT_G_FIR_BANK.ACTIVE) rfl (by decide) (by decide) g

theorem spares_track (s : State) (b : Bytes) (g : Nat) : Spares FltCtl s (s.track b g) := by
  unfold State.track
  extract_lets src nom fall lo hi v _
  exact (((Spares.refl _ s).moves (moves_setFgroup ..) rfl).setFlag (ne_fltCtl_group rfl (by decide) (by decide) g)).setFlag
    (ne_fltCtl_group rfl (by decide) (by decide) g)

theorem spares_fullReset (s : State) (g : Nat) : Spares FltCtl s (s.fullReset g) := by
  unfold State.fullReset
  split
  · exact Spares.refl _ _
  · rename_i b hb
    extract_lets t settle s1 s2
    have h1 : Spares FltCtl s s1 := Spares.foldl (fun v m _ => by
      have hlane {f : Fld} (hd : f.dims = [(256, 0x10)]) (hk : 8 * 0x140800 ≤ f.key) := ne_fltCtl_lane hd hk (8 * g + m)
      exact (((((Spares.refl _ v).moves (moves_setLane ..) rfl).setFlag (hlane rfl (by decide))).set (hlane rfl (by decide))).setFlag
        (hlane rfl (by decide))).setFlag (hlane rfl (by decide))) (Spares.refl _ _)
    have h2 : Spares FltCtl s s2 := h1.trans (spares_cutFade ..)
    exact (((h2.moves (moves_setFgroup ..) rfl).trans (spares_track ..)).setFlag
      (ne_fltCtl_group rfl (by decide) (by decide) g)).trans (spares_showSdm ..)

/-- A start of a group writes its own BUSY and PEND beside what the reset writes. -/
theorem spares_groupStart (s : State) (k : Nat) :
    Spares (fun g => FltCtl g ∧ (Reg.FLT_G_CTL.BUSY.ix k).key ≠ g.key ∧ (Reg.FLT_G_CTL.PEND.ix k).key ≠ g.key) s (s.groupStart k) := by
  unfold State.groupStart
  extract_lets on s1
  have h1 : Spares (fun g => FltCtl g ∧ (Reg.FLT_G_CTL.BUSY.ix k).key ≠ g.key ∧ (Reg.FLT_G_CTL.PEND.ix k).key ≠ g.key) s s1 :=
    ((Spares.refl _ s).setFlag fun g hg => .inl hg.2.1).setFlag fun g hg => .inl hg.2.2
  exact Spares.ite (h1.trans ((spares_fullReset ..).mono fun _ hg => hg.1)) h1

theorem fgroup_eq {s t : State} (h : t.flt.groups = s.flt.groups) (g : Nat) : t.fgroup g = s.fgroup g := by
  simp [State.fgroup, h]

theorem fgroup_setFgroup_self (s : State) (g : Nat) (x : FltGroup) : (s.setFgroup g x).fgroup g = x := by
  simp [State.fgroup, State.setFgroup]

theorem fgroup_setFgroup_of_ne {g k : Nat} (h : g ≠ k) (s : State) (x : FltGroup) : (s.setFgroup k x).fgroup g = s.fgroup g := by
  simp [State.fgroup, State.setFgroup, alookup_aset_of_ne h]

theorem showSdm_flt (s : State) : s.showSdm.flt = s.flt := (moves_showSdm s).touches.2 .flt rfl

theorem track_flt (s : State) (b : Bytes) (g : Nat) : ∃ v, (s.track b g).flt = (s.setFgroup g { s.fgroup g with fhat := v }).flt :=
  ⟨_, rfl⟩

theorem cutFade_flt (s : State) (g : Nat) :
    (s.cutFade g).flt = s.flt ∨ (s.cutFade g).flt = (s.setFgroup g { s.fgroup g with fade := none }).flt := by
  unfold State.cutFade
  split
  · exact .inl rfl
  · exact .inr ((moves_irq ..).touches.2 .flt rfl)

/-- What a full reset leaves of the groups: its own begins at this instant, every other one is as it was. -/
theorem fullReset_groups {s : State} {k : Nat} (hk : (s.roast.groupRec k).isSome = true) :
    ((s.fullReset k).fgroup k).resetAt = s.time.tai ∧ ∀ g, g ≠ k → (s.fullReset k).fgroup g = s.fgroup g := by
  unfold State.fullReset
  split
  next hnone => simp [hnone] at hk
  next b hb =>
  extract_lets t settle s1 s2
  have h1 : s1.flt.groups = s.flt.groups :=
    List.foldlRecOn (motive := fun v : State => v.flt.groups = s.flt.groups) _ _ rfl fun v hv m _ => hv
  have h2 (g : Nat) (hg : g ≠ k) : s2.fgroup g = s.fgroup g := by
    rw [← fgroup_eq h1 g]
    obtain hcut | hcut := cutFade_flt s1 k
    · exact fgroup_eq (congrArg Filter.groups hcut) g
    · exact (fgroup_eq (congrArg Filter.groups hcut) g).trans (fgroup_setFgroup_of_ne hg ..)
  let s3 := s2.setFgroup k { resetAt := t, fhat := fOfInt (gFnom b) }
  obtain ⟨v, hv⟩ := track_flt s3 b k
  have hend (g : Nat) : (((s3.track b k).setFlag (Reg.FLT_G_STATUS.SETTLING.ix k) true).showSdm).fgroup g =
      (s3.setFgroup k { s3.fgroup k with fhat := v }).fgroup g :=
    fgroup_eq (congrArg Filter.groups ((showSdm_flt _).trans ((State.set_flt ..).trans hv))) g
  refine ⟨?_, fun g hg => ?_⟩
  · rw [hend, fgroup_setFgroup_self, fgroup_setFgroup_self]
  · rw [hend, fgroup_setFgroup_of_ne hg, fgroup_setFgroup_of_ne hg, h2 g hg]

/-- A start of the chain leaves group `k` where it was but for its own BUSY and PEND. -/
theorem groupStart_fgroup_of_ne {g k : Nat} (h : g ≠ k) (s : State) : (s.groupStart k).fgroup g = s.fgroup g := by
  unfold State.groupStart
  extract_lets on s1
  split
  next hon =>
    by_cases hk : (s1.roast.groupRec k).isSome = true
    · exact (fullReset_groups hk).2 g h
    · unfold State.fullReset
      split
      · rfl
      next b hb => simp [hb] at hk
  · rfl

theorem fltCtl_activeRegion : FltCtl Reg.CFG_ROAST_STATUS.ACTIVE_REGION := .inl (by decide)

theorem fltCtl_group (g : Nat) (hg : g < 32) : FltCtl (Block.filterGroup g).en ∧ FltCtl (Block.filterGroup g).busy := by
  simp only [FltCtl, Block.en, Block.busy, Fld.key_ix (f := Reg.FLT_G_CTL.EN) rfl, Fld.key_ix (f := Reg.FLT_G_CTL.BUSY) rfl]
  simp only [Fld.key, Reg.FLT_G_CTL.EN, Reg.FLT_G_CTL.BUSY]
  omega

/-- What the chain's start finds at each group and what it leaves behind at group `g`. -/
structure ChainFound (s : State) (g : Nat) (v : State) : Prop where
  files : v.filesOk = true
  time : v.time = s.time
  roast : v.roast = s.roast
  en : v.flag (Block.filterGroup g).en = true

def ChainLeft (s : State) (g : Nat) (v : State) : Prop :=
  v.flag (Block.filterGroup g).busy = true ∧ (v.fgroup g).resetAt = s.time.tai

/-- The enables of groups stand 0x100 bits apart, EN, BUSY and PEND at the first three bits. -/
theorem groupCtl_keys (g k : Nat) :
    (Reg.FLT_G_CTL.BUSY.ix k).key ≠ (Block.filterGroup g).en.key ∧ (Reg.FLT_G_CTL.PEND.ix k).key ≠ (Block.filterGroup g).en.key ∧
      (Reg.FLT_G_CTL.PEND.ix k).key ≠ (Block.filterGroup g).busy.key ∧
      (k ≠ g → (Reg.FLT_G_CTL.BUSY.ix k).key ≠ (Block.filterGroup g).busy.key) := by
  simp only [Block.en, Block.busy, Fld.key_ix (f := Reg.FLT_G_CTL.EN) rfl, Fld.key_ix (f := Reg.FLT_G_CTL.BUSY) rfl,
    Fld.key_ix (f := Reg.FLT_G_CTL.PEND) rfl]
  simp only [Fld.key, Reg.FLT_G_CTL.EN, Reg.FLT_G_CTL.BUSY, Reg.FLT_G_CTL.PEND]
  omega

theorem groupCtl_keys_activeRegion (k : Nat) :
    (Reg.FLT_G_CTL.BUSY.ix k).key ≠ Reg.CFG_ROAST_STATUS.ACTIVE_REGION.key ∧
      (Reg.FLT_G_CTL.PEND.ix k).key ≠ Reg.CFG_ROAST_STATUS.ACTIVE_REGION.key := by
  simp only [Fld.key_ix (f := Reg.FLT_G_CTL.BUSY) rfl, Fld.key_ix (f := Reg.FLT_G_CTL.PEND) rfl]
  simp only [Fld.key, Reg.FLT_G_CTL.BUSY, Reg.FLT_G_CTL.PEND, Reg.CFG_ROAST_STATUS.ACTIVE_REGION]
  omega

theorem ChainFound.groupStart {s v : State} {g : Nat} (hg : g < 32) (h : ChainFound s g v) (k : Nat) : ChainFound s g (v.groupStart k) := by
  have hspares := spares_groupStart v k
  have hmoves := moves_groupStart v k
  obtain ⟨hbusy, hpend, -⟩ := groupCtl_keys g k
  refine ⟨hmoves.files h.files, (hmoves.touches.2 .time rfl).trans h.time, ?_, ?_⟩
  · exact (roast_eq (hspares.get_eq _ ⟨fltCtl_activeRegion, groupCtl_keys_activeRegion k⟩) (hmoves.touches.2 .roasts rfl)).trans h.roast
  · exact (hspares.flag ⟨(fltCtl_group g hg).1, hbusy, hpend⟩).trans h.en

theorem ChainFound.left {s v : State} {g : Nat} (hg : g < 32) (hcfg : (s.roast.groupRec g).isSome = true) (h : ChainFound s g v) :
    ChainLeft s g (v.groupStart g) := by
  let s1 := (v.setFlag (Block.filterGroup g).busy true).setFlag (Block.filterGroup g).pend false
  have heq : v.groupStart g = s1.fullReset g := by
    unfold State.groupStart
    dsimp only
    have hen : v.flag (Reg.FLT_G_CTL.EN.ix g) = true := h.en
    rw [h.roast, hcfg, hen]
    rfl
  have hroast : s1.roast = v.roast := roast_eq ((State.get_set_ne (.inl (groupCtl_keys_activeRegion g).2)).trans
    (State.get_set_ne (.inl (groupCtl_keys_activeRegion g).1))) rfl
  have hbusy : s1.flag (Block.filterGroup g).busy = true :=
    (flag_setFlag_ne (.inl (groupCtl_keys g g).2.2.1)).trans (flag_setFlag h.files (Block.fields _).1.2.1)
  rw [heq]
  refine ⟨((spares_fullReset s1 g).flag (fltCtl_group g hg).2).trans hbusy, ?_⟩
  rw [(fullReset_groups (by rw [hroast, h.roast]; exact hcfg)).1]
  exact congrArg TimeB.tai h.time

theorem ChainLeft.groupStart {s v : State} {g k : Nat} (hg : g < 32) (hk : k ≠ g) (h : ChainLeft s g v) :
    ChainLeft s g (v.groupStart k) := by
  obtain ⟨hbusy, hreset⟩ := h
  obtain ⟨-, -, hpend, hne⟩ := groupCtl_keys g k
  exact ⟨((spares_groupStart v k).flag ⟨(fltCtl_group g hg).2, hne hk, hpend⟩).trans hbusy,
    by rw [groupStart_fgroup_of_ne hk.symm]; exact hreset⟩

/-- The chain's start resets and starts every configured group whose EN is 1 (R256, R263). -/
theorem chainStart_holds {s : State} (h : s.filesOk = true) {g : Nat} (hg : g < 32) (hcfg : (s.roast.groupRec g).isSome = true)
    (hen : s.flag (Block.filterGroup g).en = true) : ChainLeft s g s.chainStart := by
  have hfold : ChainLeft s g ((List.range 32).foldl State.groupStart s) :=
    foldl_establishes (inv := ChainFound s g) (List.mem_range.mpr hg) (fun v k hv => hv.groupStart hg k) (fun v hv => hv.left hg hcfg)
      (fun v k hk _ hv => hv.groupStart hg hk) ⟨h, rfl, rfl, hen⟩
  obtain ⟨hbusy, hreset⟩ := hfold
  exact ⟨((spares_showSdm _).flag (fltCtl_group g hg).2).trans hbusy,
    (congrArg FltGroup.resetAt (fgroup_eq (congrArg Filter.groups (showSdm_flt _)) g)).trans hreset⟩

end Sys2Proof.Machine

namespace Sys2Proof.Machine

/-! ### Starts and stops of the engines -/

/-- An open register write of a requester that may write. -/
theorem goes_open {s : State} {who : Requester} {c : Instr} {a : Nat} {f : State → State} {P : State → Prop} (h : MayWrite s who)
    (hc : exec c s = .next (s.open_ who a f)) (hp : P (f s)) : Goes c s P :=
  ⟨f s, by rw [hc, h.open_], hp⟩

theorem portEn_unlocked {s : State} {p : Nat} (en : Bool) (h : en = true → s.roast.laneEn p = true) (who : Requester) :
    s.portEn who p en = s.enWrite (.port p) en (fun s => s.portStart p) id := by
  unfold State.portEn
  rw [if_neg]
  rintro ⟨hen, hlane⟩
  simp [h hen] at hlane

theorem goes_portStart {s : State} {who : Requester} (h : MayWrite s who) (hstate : s.get Reg.BOOT_STATUS.STATE < 2) {p : Nat} (hp : p < 7)
    (hen : s.flag (Block.port p).en = false) (hbusy : s.flag (Block.port p).busy = false) (hlane : s.roast.laneEn p = true)
    (hmay : s.mayStart (.port p) = true) :
    Goes (.portEnable who p true) s fun t =>
      t.flag (Block.port p).en = true ∧ t.flag (Block.port p).busy = true ∧ bitAt t.pins.txActive p = true := by
  refine goes_open h rfl ?_
  rw [portEn_unlocked true (fun _ => hlane), enWrite_start hstate hen hbusy hmay]
  obtain ⟨hspares, hpin⟩ := portStart_holds (s.started (.port p)) p
  obtain ⟨hen', hbusy'⟩ := flags_started h.1 (.port p)
  exact ⟨(hspares.flag (portCtl_en p hp).1).trans hen', (hspares.flag (portCtl_en p hp).2).trans hbusy', hpin⟩

theorem goes_portLocked {s : State} {who : Requester} (h : MayWrite s who) {p : Nat} (hlane : s.roast.laneEn p = false) :
    Goes (.portEnable who p true) s (RefusedWith who Reg.HIF_ERR.LOCKED (Block.port p).en.base s) := by
  refine goes_open h rfl ?_
  rw [State.portEn, if_pos ⟨rfl, by simp [hlane]⟩]
  exact refusedWith_hifErr h.1 who _ rfl rfl (by decide) rfl

/-- The end of a shutdown with no restart pending: what the block does as it stops, and BUSY cleared. -/
theorem goes_stopped {s : State} {b : Block} {bufs : List Nat} {P : State → Prop} (hstop : s.stopping b = true) (hquiet : s.quiet b = true)
    (hpend : (s.blockStopped bufs b).flag b.pend = false) (hp : P ((s.blockStopped bufs b).setFlag b.busy false)) :
    Goes (.blockShutdownComplete b bufs) s P := by
  refine ⟨_, ?_, hp⟩
  show execBlockShutdownComplete b bufs s = _
  simp [execBlockShutdownComplete, hstop, hquiet, State.enQuiesced, hpend]

theorem goes_portStopped {s : State} (h : s.filesOk = true) {p : Nat} (bufs : List Nat) (hstop : s.stopping (.port p) = true)
    (hquiet : s.quiet (.port p) = true) (hpend : s.flag (Block.port p).pend = false) :
    Goes (.blockShutdownComplete (.port p) bufs) s fun t => t.flag (Block.port p).busy = false ∧ bitAt t.pins.txActive p = false ∧
      Keeps [(Block.port p).busy] [.pins] s t := by
  have hkeeps : Keeps [(Block.port p).busy] [.pins] s (s.portStopped p) := (Keeps.refl _ _ s).moves (moves_portStopped s p) rfl
  refine goes_stopped hstop hquiet ((flag_eq_of_get_eq (get_moves (moves_portStopped s p) rfl _)).trans hpend)
    ⟨flag_setFlag ((moves_portStopped s p).files h) (Block.fields _).1.2.1, ?_, hkeeps.setFlag (by simp)⟩
  show bitAt ((s.portStopped p).setFlag _ false).pins.txActive p = false
  rw [State.setFlag, State.set_pins]
  exact bitAt_setBit_self ..

/-- A stop of a block that does nothing of its own at a stop. -/
theorem goes_plainStop {s : State} {who : Requester} (h : MayWrite s who) (hstate : s.get Reg.BOOT_STATUS.STATE < 2) {b : Block} {c : Instr}
    {a : Nat} {f : State → State} {start : State → State} (hc : exec c s = .next (s.open_ who a f)) (hf : f s = s.enWrite b false start id)
    (hen : s.flag b.en = true) (hpend : s.flag b.pend = false) :
    Goes c s fun t => t.flag b.en = false ∧ Keeps [b.en] [] s t :=
  goes_open h hc (by rw [hf]; exact stop_holds h.1 hstate hen hpend start)

theorem mayStart_of_state {s : State} (hstate : s.get Reg.BOOT_STATUS.STATE < 2) {b : Block} (hb : b = .filter ∨ b = .energy) :
    s.mayStart b = true := by
  have : s.get Reg.BOOT_STATUS.STATE = 0 ∨ s.get Reg.BOOT_STATUS.STATE = 1 := by omega
  obtain rfl | rfl := hb <;> obtain h | h := this <;> simp [State.mayStart, State.operating, Block.startStep, h]

/-- The enables of groups stand apart from the chain's. -/
theorem group_ne_chain (g : Nat) : ∀ f ∈ [Block.filter.en, Block.filter.busy, Block.filter.pend], ∀ e ∈ [(Block.filterGroup g).en,
    (Block.filterGroup g).busy, (Block.filterGroup g).pend], e.key ≠ f.key ∨ e.dom ≠ f.dom := by
  simp only [List.forall_mem_cons, Block.en, Block.busy, Block.pend, Fld.key_ix (f := Reg.FLT_G_CTL.EN) rfl,
    Fld.key_ix (f := Reg.FLT_G_CTL.BUSY) rfl, Fld.key_ix (f := Reg.FLT_G_CTL.PEND) rfl]
  simp only [Fld.key, Reg.FLT_G_CTL.EN, Reg.FLT_G_CTL.BUSY, Reg.FLT_G_CTL.PEND, Reg.FLT_CTL.EN, Reg.FLT_CTL.BUSY, Reg.FLT_CTL.PEND]
  simp
  omega

theorem goes_chainStart {s : State} {who : Requester} (h : MayWrite s who) (hstate : s.get Reg.BOOT_STATUS.STATE < 2) {g : Nat} (hg : g < 32)
    (hcfg : (s.roast.groupRec g).isSome = true) (hen : s.flag Reg.FLT_CTL.EN = false) (hbusy : s.flag Reg.FLT_CTL.BUSY = false)
    (hgen : s.flag (Block.filterGroup g).en = true) :
    Goes (.fltChainEnable who true) s fun t => (t.fgroup g).resetAt = s.time.tai ∧ t.flag (Block.filterGroup g).busy = true := by
  refine goes_open h rfl ?_
  rw [enWrite_start (b := .filter) hstate hen hbusy (mayStart_of_state hstate (.inl rfl))]
  have hkeeps := keeps_started s .filter
  have hroast : (s.started .filter).roast = s.roast := roast_eq (hkeeps.get (by decide)) rfl
  have hgen' : (s.started .filter).flag (Block.filterGroup g).en = true :=
    (flag_eq_of_get_eq (hkeeps.get fun f hf => group_ne_chain g f (List.mem_append_left [_] hf) _ List.mem_cons_self)).trans hgen
  obtain ⟨hleft, hreset⟩ := chainStart_holds (filesOk_started h.1 .filter) hg (by rw [hroast]; exact hcfg) hgen'
  exact ⟨hreset, hleft⟩

/-- A write of a configured group's EN. -/
theorem exec_fltGroupEnable {s : State} {who : Requester} (h : MayWrite s who) {g : Nat} (hg : g < 32)
    (hcfg : (s.roast.groupRec g).isSome = true) (en : Bool) :
    exec (.fltGroupEnable who g en) s =
      .next (s.enWrite (.filterGroup g) en (fun s => if s.groupRuns g then s.fullReset g else s) id) := by
  show execFltGroupEnable who g en s = _
  simp only [execFltGroupEnable, h.open_, Nat.mod_eq_of_lt hg]
  rw [if_neg (by simpa using Option.isSome_iff_ne_none.mp hcfg)]

theorem groupEn_key_activeRegion (k : Nat) : (Block.filterGroup k).en.key ≠ Reg.CFG_ROAST_STATUS.ACTIVE_REGION.key := by
  simp only [Block.en, Fld.key_ix (f := Reg.FLT_G_CTL.EN) rfl]
  simp only [Fld.key, Reg.FLT_G_CTL.EN, Reg.CFG_ROAST_STATUS.ACTIVE_REGION]
  omega

theorem goes_groupStart {s : State} {who : Requester} (h : MayWrite s who) (hstate : s.get Reg.BOOT_STATUS.STATE < 2) {g : Nat} (hg : g < 32)
    (hcfg : (s.roast.groupRec g).isSome = true) (hchain : s.blockRuns .filter = true) (hen : s.flag (Block.filterGroup g).en = false)
    (hbusy : s.flag (Block.filterGroup g).busy = false) (hpend : s.flag (Block.filterGroup g).pend = false) :
    Goes (.fltGroupEnable who g true) s fun t => (t.fgroup g).resetAt = s.time.tai ∧ t.flag (Block.filterGroup g).busy = true := by
  have hmay : s.mayStart (.filterGroup g) = true := by
    have := mayStart_of_state hstate (b := .filter) (.inl rfl)
    simpa [State.mayStart, Block.startStep, hchain] using this
  refine ⟨_, exec_fltGroupEnable h hg hcfg true, ?_⟩
  rw [enWrite_start hstate hen hbusy hmay]
  have hkeeps := keeps_started s (.filterGroup g)
  obtain ⟨hen', hbusy'⟩ := flags_started h.1 (.filterGroup g)
  have hroast : (s.started (.filterGroup g)).roast = s.roast :=
    roast_eq (hkeeps.get (List.forall_mem_cons.mpr ⟨.inl (groupEn_key_activeRegion g).symm,
      List.forall_mem_singleton.mpr (.inl (groupCtl_keys_activeRegion g).1.symm)⟩)) rfl
  have hapart (f : Fld) (hf : f ∈ [Block.filter.en, Block.filter.busy, Block.filter.pend]) :
      (s.started (.filterGroup g)).flag f = s.flag f := by
    refine flag_eq_of_get_eq (hkeeps.get fun e he => ?_)
    exact (group_ne_chain g f hf e (List.mem_append_left [_] he)).imp Ne.symm Ne.symm
  have hpend' : (s.started (.filterGroup g)).flag (Block.filterGroup g).pend = false :=
    (flag_setFlag_ne (.inl (Block.fields _).2.2.2)).trans ((flag_setFlag_ne (.inl (Block.fields _).2.2.1)).trans hpend)
  have hruns : (s.started (.filterGroup g)).groupRuns g = true := by
    simp only [State.blockRuns] at hchain
    simp [State.groupRuns, State.blockRuns, hroast, hcfg, hen', hbusy', hpend', hapart, hchain]
  rw [if_pos hruns]
  exact ⟨(fullReset_groups (by rw [hroast]; exact hcfg)).1, ((spares_fullReset _ g).flag (fltCtl_group g hg).2).trans hbusy'⟩

theorem goes_groupStop {s : State} {who : Requester} (h : MayWrite s who) (hstate : s.get Reg.BOOT_STATUS.STATE < 2) {g : Nat} (hg : g < 32)
    (hcfg : (s.roast.groupRec g).isSome = true) (hen : s.flag (Block.filterGroup g).en = true)
    (hpend : s.flag (Block.filterGroup g).pend = false) :
    Goes (.fltGroupEnable who g false) s fun t =>
      t.flag (Block.filterGroup g).en = false ∧ Keeps [(Block.filterGroup g).en] [] s t :=
  ⟨_, exec_fltGroupEnable h hg hcfg false, stop_holds h.1 hstate hen hpend _⟩

theorem goes_alignerStart {s : State} {who : Requester} (h : MayWrite s who) (hstate : s.get Reg.BOOT_STATUS.STATE < 2)
    (hen : s.flag Reg.ALN_CTL.EN = false) (hbusy : s.flag Reg.ALN_CTL.BUSY = false) (hmay : s.mayStart .aligner = true) :
    Goes (.alignerEnable who true) s fun t =>
      t.lse.prior = [] ∧ t.osc.resets = s.osc.resets ++ [sliceOf s.fs s.time.tai + 1] ∧ t.aln.lastClose = s.time.tai ∧ t.aln.step = none ∧
      t.aln.gap = none := by
  refine goes_open h rfl ?_
  rw [enWrite_start (b := .aligner) hstate hen hbusy hmay]
  have hroast : (s.started .aligner).roast = s.roast := roast_eq ((keeps_started s .aligner).get (by decide)) rfl
  have hfs : (s.started .aligner).fs = s.fs := by unfold State.fs; rw [hroast]
  unfold State.alnStart
  extract_lets n _ _ _ s1
  have hn : n = sliceOf s.fs s.time.tai + 1 := by simp only [n, hfs]; rfl
  have hend := (moves_advance s1 15000 n).trans (moves_showOpen _)
  rw [hend.touches.2 .lse rfl, hend.touches.2 .osc rfl, hend.touches.2 .aln rfl, ← hn]
  exact ⟨rfl, rfl, rfl, rfl, rfl⟩

theorem goes_alarmStart {s : State} {who : Requester} (h : MayWrite s who) (hstate : s.get Reg.BOOT_STATUS.STATE < 2)
    (hen : s.flag Reg.ALM_CTL.EN = false) (hbusy : s.flag Reg.ALM_CTL.BUSY = false) (hmay : s.mayStart .alarm = true) :
    Goes (.alarmEngineEnable who true) s fun t => t.alm = { keys := s.alm.keys, region := s.activeRegion } := by
  refine goes_open h rfl ?_
  rw [enWrite_start (b := .alarm) hstate hen hbusy hmay]
  have hregion : (s.started .alarm).activeRegion = s.activeRegion := (keeps_started s .alarm).get (by decide)
  unfold State.almStart
  rw [(moves_almPins _).touches.2 .alm rfl, (moves_showAlmStates _).touches.2 .alm rfl, (moves_showAlm _).touches.2 .alm rfl, hregion]
  rfl

theorem startSave_saving (s : State) : s.startSave.nrg.saving.isSome = true := by
  unfold State.startSave
  split
  next hsome => exact hsome
  · rfl

theorem goes_energyStart {s : State} {who : Requester} (h : MayWrite s who) (hstate : s.get Reg.BOOT_STATUS.STATE < 2)
    (hen : s.flag Reg.NRG_CTL.EN = false) (hbusy : s.flag Reg.NRG_CTL.BUSY = false) :
    Goes (.energyEnable who true) s fun t => t.nrg.saving.isSome = true := by
  refine goes_open h rfl ?_
  rw [enWrite_start (b := .energy) hstate hen hbusy (mayStart_of_state hstate (.inr rfl))]
  exact startSave_saving _

theorem goes_energyStop {s : State} {who : Requester} (h : MayWrite s who) (hstate : s.get Reg.BOOT_STATUS.STATE < 2)
    (hen : s.flag Reg.NRG_CTL.EN = true) (hpend : s.flag Reg.NRG_CTL.PEND = false) :
    Goes (.energyEnable who false) s fun t => t.flag Reg.NRG_CTL.EN = false ∧ Keeps [Reg.NRG_CTL.EN] [.backup] s t := by
  refine goes_open h rfl ?_
  rw [enWrite_stop (b := .energy) hstate hen hpend]
  have hflag : (s.setFlag Reg.NRG_CTL.EN false).flag Reg.NRG_CTL.EN = false := flag_setFlag h.1 rfl
  have hkeeps : Keeps [Reg.NRG_CTL.EN] [.backup] s (s.setFlag Reg.NRG_CTL.EN false) := (Keeps.refl _ _ _).setFlag (by simp)
  have hpush := moves_nrgPush (s.setFlag Reg.NRG_CTL.EN false)
  split
  · exact ⟨(flag_eq_of_get_eq (get_moves hpush rfl _)).trans hflag, hkeeps.moves hpush rfl⟩
  · exact ⟨hflag, hkeeps⟩

theorem goes_cascadeSwitch {s : State} {who : Requester} (h : MayWrite s who) (hstate : s.get Reg.BOOT_STATUS.STATE < 2) {en : Bool}
    (hen : s.flag Reg.CAS_CTL.EN ≠ en) (hbusy : s.flag Reg.CAS_CTL.BUSY = !en) (hpend : s.flag Reg.CAS_CTL.PEND = false)
    (hmay : en = true → s.mayStart .cascade = true) :
    Goes (.cascadeEnable who en) s fun t => t.flag Reg.CAS_CTL.EN = en ∧ t.flag Reg.CAS_CTL.BUSY = true ∧
      Keeps [Reg.CAS_CTL.EN, Reg.CAS_CTL.BUSY] [] s t := by
  refine goes_open h rfl ?_
  cases en with
  | true =>
    rw [enWrite_start (b := .cascade) hstate (eq_false_of_ne_true hen) hbusy (hmay rfl)]
    obtain ⟨hen', hbusy'⟩ := flags_started h.1 .cascade
    exact ⟨hen', hbusy', keeps_started s .cascade⟩
  | false =>
    rw [enWrite_stop (b := .cascade) hstate (eq_true_of_ne_false hen) hpend, id, ite_self]
    exact ⟨flag_setFlag h.1 rfl, (flag_setFlag_ne (by decide)).trans hbusy,
      (Keeps.refl _ _ _).setFlag List.mem_cons_self⟩

theorem passToken_token (s : State) (ring gen : Nat) : (s.passToken ring gen).cas.token = aerase ring s.cas.token :=
  congrArg Cascade.token ((moves_ringEmit ..).touches.2 .cas rfl)

/-- Once every token of a list has been passed on, what is left is of rings the list does not name. -/
theorem mem_token_passed {x : Nat × Nat} (l : List (Nat × Nat)) {s : State}
    (hx : x ∈ (l.foldl (fun s e => s.passToken e.1 e.2) s).cas.token) : x ∈ s.cas.token ∧ x ∉ l := by
  induction l generalizing s with
  | nil => exact ⟨hx, List.not_mem_nil⟩
  | cons e l ih =>
    obtain ⟨hleft, hl⟩ := ih hx
    rw [passToken_token, aerase, List.mem_filter] at hleft
    refine ⟨hleft.1, List.not_mem_cons_of_ne_of_not_mem ?_ hl⟩
    rintro rfl
    simp at hleft

theorem casStopped_token (s : State) : s.casStopped.cas.token = [] :=
  List.eq_nil_iff_forall_not_mem.mpr fun _ hx => (mem_token_passed s.cas.token hx).2 (mem_token_passed s.cas.token hx).1

theorem goes_cascadeStopped {s : State} (h : s.filesOk = true) (bufs : List Nat) (hstop : s.stopping .cascade = true)
    (hpend : s.flag Reg.CAS_CTL.PEND = false) :
    Goes (.blockShutdownComplete .cascade bufs) s fun t => t.flag Reg.CAS_CTL.BUSY = false ∧ t.cas.out = [] ∧ t.cas.token = [] :=
  goes_stopped hstop rfl ((flag_eq_of_get_eq (get_moves (moves_casStopped s) rfl _)).trans hpend)
    ⟨flag_setFlag ((moves_casStopped s).files h) rfl, rfl, casStopped_token s⟩

/-- Settles O34: each start and stop is `enWrite` in the row of R106's table that its premises name. -/
theorem enginesStartAndStop : Obligations.EnginesStartAndStop := by
  unfold Obligations.EnginesStartAndStop
  intro s who h hstate
  refine ⟨?portStart, ?portLocked, ?portStop, ?portStopped, ?chainStop, ?chainStart, ?groupStart, ?groupStop, ?alignerStart, ?alarmStart,
    ?alarmStop, ?energyStart, ?energyStop, ?cascadeSwitch, ?cascadeStopped⟩
  case portStart => exact fun p hp hen hbusy hlane hmay => goes_portStart h hstate hp hen hbusy hlane hmay
  case portLocked => exact fun p _ hlane => goes_portLocked h hlane
  case portStop => exact fun p _ hen hpend => goes_plainStop h hstate rfl (portEn_unlocked false nofun who) hen hpend
  case portStopped => exact fun p bufs _ hstop hquiet hpend => goes_portStopped h.1 bufs hstop hquiet hpend
  case chainStop => exact goes_plainStop (b := .filter) h hstate rfl rfl
  case chainStart => exact fun g hg hcfg hen hbusy hgen => goes_chainStart h hstate hg hcfg hen hbusy hgen
  case groupStart => exact fun g hg hcfg hchain hen hbusy hpend => goes_groupStart h hstate hg hcfg hchain hen hbusy hpend
  case groupStop => exact fun g hg hcfg hen hpend => goes_groupStop h hstate hg hcfg hen hpend
  case alignerStart => exact goes_alignerStart h hstate
  case alarmStart => exact goes_alarmStart h hstate
  case alarmStop => exact goes_plainStop (b := .alarm) h hstate rfl rfl
  case energyStart => exact goes_energyStart h hstate
  case energyStop => exact goes_energyStop h hstate
  case cascadeSwitch => exact fun en hen hbusy hpend hmay => goes_cascadeSwitch h hstate hen hbusy hpend hmay
  case cascadeStopped => exact fun bufs hstop hpend => goes_cascadeStopped h.1 bufs hstop hpend

end Sys2Proof.Machine

namespace Sys2Proof.Machine

/-! ### The commands of the capture at their instant -/

theorem Ready.moveTo {s : State} {who : Requester} (h : Ready s who) (t : Tai) : Ready (s.moveTo t) who := by
  have hmove := moves_moveTo s t
  have hget (g : Fld) : (s.moveTo t).get g = s.get g := get_moves hmove rfl g
  have hboot : (s.moveTo t).boot = s.boot := hmove.touches.2 .boot rfl
  have hsch : (s.moveTo t).sch = s.sch := hmove.touches.2 .sch rfl
  have hcore (p : Nat) : (s.moveTo t).coreUp p = s.coreUp p := by
    simp only [State.coreUp, State.coresRun, State.coreState, hget, hboot, hsch]
  have hsilent : (s.moveTo t).silent who = s.silent who := by
    simp only [State.silent, hboot, hcore]
  have howner : (s.moveTo t).isOwner who = s.isOwner who := by
    simp only [State.isOwner, hget]
  have hguard : (s.moveTo t).mayGuard who = s.mayGuard who := by
    simp only [State.mayGuard, howner]
  exact ⟨hmove.files h.1, hsilent.trans h.2.1, hguard.trans h.2.2⟩

theorem counted_count {s : State} (h : s.filesOk = true) (f : Fld) : Counted f s (s.count f) := by
  have hlt : min (s.get f + 1) (2 ^ f.width - 1) < 2 ^ f.width := by
    have := Nat.two_pow_pos f.width
    omega
  exact (State.get_set h).trans (Nat.mod_eq_of_lt hlt)

theorem Counted.after {f : Fld} {s u t : State} (h : Counted f u t) (he : u.get f = s.get f) : Counted f s t := by
  rwa [Counted, he] at h

/-! ### What a trigger's fire and a record's counters leave alone -/

theorem fire_keeps (s : State) (mask : Nat) : Keeps [Reg.CAP.XTRIG_FIRED] [.pins, .cap] s (s.fire mask) := by
  unfold State.fire
  refine Keeps.foldl (fun v k _ => Keeps.ite ?_ (Keeps.refl _ _ _)) (Keeps.refl _ _ _)
  exact Keeps.count (by simp) (Keeps.upd rfl rfl rfl rfl ((Keeps.refl _ _ v).moves (moves_setXline ..) rfl) (h10 := .inl rfl))

theorem fire_recs (s : State) (mask : Nat) : (s.fire mask).cap.recs = s.cap.recs := by
  unfold State.fire
  refine List.foldlRecOn (motive := fun v : State => v.cap.recs = s.cap.recs) _ _ rfl fun v hv k _ => ?_
  dsimp only
  split
  · rw [State.count, State.set_cap]; exact hv
  · exact hv

/-- A line's change at another line or of another field. -/
theorem xline_setXline_since {s : State} {k : Nat} {x : XLine} (hx : x.since = (s.xline k).since) (j : Nat) :
    ((s.setXline k x).xline j).since = (s.xline j).since := by
  by_cases hj : j = k
  · subst hj; simpa [State.xline, State.setXline] using hx
  · simp [State.xline, State.setXline, alookup_aset_of_ne hj]

theorem xline_eq {s t : State} (h : t.cap.lines = s.cap.lines) (k : Nat) : t.xline k = s.xline k := by
  simp [State.xline, h]

theorem fire_since (s : State) (mask j : Nat) : ((s.fire mask).xline j).since = (s.xline j).since := by
  unfold State.fire
  refine List.foldlRecOn (motive := fun v : State => (v.xline j).since = (s.xline j).since) _ _ rfl fun v hv k _ => ?_
  dsimp only
  split
  · refine Eq.trans ?_ ((xline_setXline_since (x := { v.xline k with driven := true, drivenAt := v.time.elapsed }) rfl j).trans hv)
    exact congrArg XLine.since (xline_eq (by rw [State.count, State.set_cap]) j)
  · exact hv

/-! ### Triggers -/

/-- A source that CAP_CFG gives a profile, while the capture runs. -/
structure Accepts (s : State) (k : Nat) (src b : Bytes) : Prop where
  source : s.roast.capSource k = some src
  runs : s.blockRuns .capture = true
  profile : s.roast.capProfile (leAt src 2 1) = some b

/-- An accepted trigger counted, the lines of its source fired. -/
def State.fired (s : State) (src : Bytes) : State := (s.count Reg.CAP.TRIGGERS).fire (leAt src 3 1)

theorem fired_keeps (s : State) (src : Bytes) : Keeps [Reg.CAP.TRIGGERS, Reg.CAP.XTRIG_FIRED] [.pins, .cap] s (s.fired src) :=
  (Keeps.count (by simp) (Keeps.refl _ _ s)).trans ((fire_keeps _ _).mono (by simp) fun _ h => h)

theorem fired_files {s : State} (h : s.filesOk = true) (src : Bytes) : (s.fired src).filesOk = true :=
  (moves_fire _ _).files ((moves_count s _ _).files h)

theorem fired_recs (s : State) (src : Bytes) : (s.fired src).cap.recs = s.cap.recs :=
  (fire_recs _ _).trans (congrArg Capture.recs (State.set_cap ..))

theorem fired_filling (s : State) (src : Bytes) : (s.fired src).filling = s.filling := by
  simp only [State.filling, fired_recs]

theorem fired_takeSlot (s : State) (src : Bytes) : (s.fired src).takeSlot = s.takeSlot := by
  have hkeeps := fired_keeps s src
  have hroast : (s.fired src).roast = s.roast := roast_eq (hkeeps.get (by decide)) (hkeeps.2.1 .roasts nofun rfl)
  simp only [State.takeSlot, hroast, fired_recs]

section
variable {s : State} {k : Nat} {src b : Bytes} (h : Accepts s k src b) (t : Tai) (n : Nat) (own : Bool)
include h

theorem capTrigger_of_none (hfill : s.filling = []) (hslot : s.takeSlot = none) :
    (s.capTrigger k t n own).1 = ((s.fired src).count Reg.CAP.REFUSED_NOSLOT).capIrq Reg.CAP_IRQ.REFUSED := by
  have hfill' : ((s.count Reg.CAP.TRIGGERS).fire (leAt src 3 1)).filling = [] := (fired_filling s src).trans hfill
  have hslot' : ((s.count Reg.CAP.TRIGGERS).fire (leAt src 3 1)).takeSlot = none := (fired_takeSlot s src).trans hslot
  simp [State.capTrigger, h.source, h.runs, h.profile, hfill', hslot', State.fired]

theorem capTrigger_of_some (hfill : s.filling = []) {slot : Nat} (hslot : s.takeSlot = some slot) :
    (s.capTrigger k t n own).1 = (s.fired src).openRec slot b { source := k, own := own, n := n, t := t } := by
  have hfill' : ((s.count Reg.CAP.TRIGGERS).fire (leAt src 3 1)).filling = [] := (fired_filling s src).trans hfill
  have hslot' : ((s.count Reg.CAP.TRIGGERS).fire (leAt src 3 1)).takeSlot = some slot := (fired_takeSlot s src).trans hslot
  simp [State.capTrigger, h.source, h.runs, h.profile, hfill', hslot', State.fired]

theorem capTrigger_of_filling {j : Nat} {r : CapRec} (hfill : s.filling = [(j, r)]) (hmode : bitAt (leAt b 2 1) 0 = false)
    (hprof : r.profile = leAt b 1 1) (hpost : t ≤ r.t0 + profPost r.prof) :
    (s.capTrigger k t n own).1 =
      ((s.fired src).setCap j (r.merge { source := k, own := own, n := n, t := t })).count Reg.CAP.MERGED := by
  have hfill' : ((s.count Reg.CAP.TRIGGERS).fire (leAt src 3 1)).filling = [(j, r)] := (fired_filling s src).trans hfill
  simp [State.capTrigger, h.source, h.runs, h.profile, hfill', hmode, hprof, hpost, State.fired]

end

theorem openRec_rec (s : State) (k : Nat) (b : Bytes) (t : CapTrig) :
    (alookup k (s.openRec k b t).cap.recs).map (fun r => (r.t0, r.nT, r.seq, r.prof)) = some (t.t, t.n, s.backup.capSeq, b) := by
  unfold State.openRec
  rw [(moves_showSlots _).touches.2 .cap rfl, (moves_capLost _ _ _).touches.2 .cap rfl]
  simp [State.setCap]

/-- A trigger of a source whose commands reach it: a host write, or an edge of TRIG_IN of the configured sense held for 200 ns or more. -/
theorem exec_trigger {s : State} {who : Requester} {t : Tai} {ns code : Nat} (h : Ready s who) {c : Instr} {k : Nat} {stamp : Tai}
    (hc : (c = .capHostTrig who t ∧ k = 72 ∧ stamp = (s.moveTo t).time.tai) ∨
      ∃ i f, i < 4 ∧ 200 ≤ ns ∧ bitAt (leAt (s.moveTo t).roast.capHead 4 1) i = f ∧ c = .trigInEdge i f ⟨ns, t, code⟩ ∧ k = 64 + i ∧
        stamp = (s.moveTo t).tdcStamp (1 + i) t code) :
    exec c s = .next ((s.moveTo t).trigAt k stamp) := by
  obtain ⟨rfl, rfl, rfl⟩ | ⟨i, f, hi, hns, hsense, rfl, rfl, rfl⟩ := hc
  · show execCapHostTrig who t s = _
    rw [execCapHostTrig, (h.moveTo t).guarded]
  · show execTrigInEdge i f ⟨ns, t, code⟩ s = _
    rw [execTrigInEdge, glitch_of_le hns, Nat.mod_eq_of_lt hi, if_pos hsense]

section
variable {s : State} {k : Nat} {src b : Bytes} (h : Accepts s k src b) (stamp : Tai)
include h

theorem trigAt_opens (hfill : s.filling = []) {slot : Nat} (hslot : s.takeSlot = some slot) :
    (alookup slot (s.trigAt k stamp).cap.recs).map (fun r => (r.t0, r.nT, r.seq, r.prof)) =
      some (stamp, sliceOf s.fs stamp, s.backup.capSeq, b) := by
  rw [State.trigAt, capTrigger_of_some h _ _ _ hfill hslot, openRec_rec, (fired_keeps s src).2.1 .backup nofun rfl]

theorem trigAt_refused (hfiles : s.filesOk = true) (hfill : s.filling = []) (hslot : s.takeSlot = none) :
    Counted Reg.CAP.REFUSED_NOSLOT s (s.trigAt k stamp) ∧ (s.trigAt k stamp).cap.recs = s.cap.recs := by
  rw [State.trigAt, capTrigger_of_none h _ _ _ hfill hslot]
  refine ⟨?_, ?_⟩
  · have hirq : Keeps [Reg.CAP_IRQ.REFUSED] [.out] ((s.fired src).count Reg.CAP.REFUSED_NOSLOT)
        (((s.fired src).count Reg.CAP.REFUSED_NOSLOT).capIrq Reg.CAP_IRQ.REFUSED) := (Keeps.refl _ _ _).irq (by simp) rfl
    exact (hirq.get (by decide)).trans ((counted_count (fired_files hfiles src) _).after ((fired_keeps s src).get (by decide)))
  · rw [(moves_capIrq _ _).touches.2 .cap rfl, State.count, State.set_cap, fired_recs]

theorem trigAt_merges (hfiles : s.filesOk = true) {j : Nat} {r : CapRec} (hfill : s.filling = [(j, r)])
    (hmode : bitAt (leAt b 2 1) 0 = false) (hprof : r.profile = leAt b 1 1) (hpost : stamp ≤ r.t0 + profPost r.prof) :
    alookup j (s.trigAt k stamp).cap.recs = some (r.merge { source := k, own := false, n := sliceOf s.fs stamp, t := stamp }) ∧
      Counted Reg.CAP.MERGED s (s.trigAt k stamp) := by
  rw [State.trigAt, capTrigger_of_filling h _ _ _ hfill hmode hprof hpost]
  refine ⟨?_, ?_⟩
  · rw [State.count, State.set_cap]
    exact alookup_aset_self ..
  · have hset := moves_setCap (s.fired src) j (r.merge { source := k, own := false, n := sliceOf s.fs stamp, t := stamp })
    exact (counted_count (hset.files (fired_files hfiles src)) _).after
      ((get_moves hset rfl _).trans ((fired_keeps s src).get (by decide)))

end

end Sys2Proof.Machine

namespace Sys2Proof.Machine

/-! ### Slots of the capture (R401) -/

/-- STATE and HELD of slot `k`. -/
def SlotView (k : Nat) (g : Fld) : Prop := g = Reg.CAP_SLOT.STATE.ix k ∨ g = Reg.CAP_SLOT.HELD.ix k

/-- The fields of a slot that follow its record: 16 bytes hold them. -/
theorem slotField_place : ∀ f ∈ [Reg.CAP_SLOT.STATE, Reg.CAP_SLOT.HELD, Reg.CAP_SLOT.PROFILE, Reg.CAP_SLOT.SEQ],
    f.dims = [(64, 0x10)] ∧ 8 * 0x200100 ≤ f.key ∧ f.key < 8 * 0x200110 := by
  decide

/-- Fields of other slots, and PROFILE and SEQ of every slot. -/
theorem slotField_ne_slotView {f : Fld} (hf : f ∈ [Reg.CAP_SLOT.STATE, Reg.CAP_SLOT.HELD, Reg.CAP_SLOT.PROFILE, Reg.CAP_SLOT.SEQ]) {j k : Nat}
    (h : j ≠ k ∨ f.key ≠ Reg.CAP_SLOT.STATE.key ∧ f.key ≠ Reg.CAP_SLOT.HELD.key) :
    ∀ g, SlotView k g → (f.ix j).key ≠ g.key ∨ (f.ix j).dom ≠ g.dom := by
  obtain ⟨hdims, hlo, hhi⟩ := slotField_place f hf
  have hbase : Reg.CAP_SLOT.STATE.key = 8 * 0x200100 ∧ Reg.CAP_SLOT.HELD.key = 8 * 0x200100 + 3 := by decide
  rintro g (rfl | rfl)
  · rw [Fld.key_ix hdims, Fld.key_ix (f := Reg.CAP_SLOT.STATE) rfl]
    omega
  · rw [Fld.key_ix hdims, Fld.key_ix (f := Reg.CAP_SLOT.HELD) rfl]
    omega

theorem below_ne_slotView {f : Fld} (hf : f.key < 8 * 0x200100) (k : Nat) : ∀ g, SlotView k g → f.key ≠ g.key ∨ f.dom ≠ g.dom := by
  have hbase : Reg.CAP_SLOT.STATE.key = 8 * 0x200100 ∧ Reg.CAP_SLOT.HELD.key = 8 * 0x200100 + 3 := by decide
  rintro g (rfl | rfl)
  · rw [Fld.key_ix (f := Reg.CAP_SLOT.STATE) rfl]
    omega
  · rw [Fld.key_ix (f := Reg.CAP_SLOT.HELD) rfl]
    omega

/-- The registers of a slot as they follow its record. -/
def State.showSlot (s : State) (k : Nat) (r : Option CapRec) : State :=
  (((s.set (Reg.CAP_SLOT.STATE.ix k) ((r.map (·.state)).getD 0)).setFlag (Reg.CAP_SLOT.HELD.ix k) ((r.map (·.held)).getD false)).set
    (Reg.CAP_SLOT.PROFILE.ix k) ((r.map (·.profile)).getD 0)).set (Reg.CAP_SLOT.SEQ.ix k) ((r.map (·.seq)).getD 0)

/-- What STATE and HELD of slot `k` read for a record or none. -/
def SlotShows (k : Nat) (r : Option CapRec) (t : State) : Prop :=
  t.get (Reg.CAP_SLOT.STATE.ix k) = (r.map (·.state)).getD 0 % 8 ∧ t.flag (Reg.CAP_SLOT.HELD.ix k) = (r.map (·.held)).getD false

theorem SlotShows.spared {k : Nat} {r : Option CapRec} {s t : State} (h : SlotShows k r s) (hs : Spares (SlotView k) s t) :
    SlotShows k r t :=
  ⟨(hs.get_eq _ (.inl rfl)).trans h.1, (hs.flag (.inr rfl)).trans h.2⟩

theorem filesOk_showSlot {s : State} (h : s.filesOk = true) (k : Nat) (r : Option CapRec) : (s.showSlot k r).filesOk = true :=
  State.filesOk_set (State.filesOk_set (filesOk_setFlag (State.filesOk_set h)))

theorem showSlot_shows {s : State} (h : s.filesOk = true) (k : Nat) (r : Option CapRec) : SlotShows k r (s.showSlot k r) := by
  let s1 := s.set (Reg.CAP_SLOT.STATE.ix k) ((r.map (·.state)).getD 0)
  let s2 := s1.setFlag (Reg.CAP_SLOT.HELD.ix k) ((r.map (·.held)).getD false)
  have h2 : SlotShows k r s2 := by
    refine ⟨(State.get_set_ne (.inl ?_)).trans (State.get_set h), flag_setFlag (State.filesOk_set h) rfl⟩
    exact Fld.ix_ne _ (by decide) rfl
  exact h2.spared (((Spares.refl _ _).set (slotField_ne_slotView (by decide) (.inr (by decide)))).set
    (slotField_ne_slotView (by decide) (.inr (by decide))))

theorem spares_showSlot {j k : Nat} (h : j ≠ k) (s : State) (r : Option CapRec) : Spares (SlotView k) s (s.showSlot j r) :=
  ((((Spares.refl _ s).set (slotField_ne_slotView (by decide) (.inl h))).setFlag (slotField_ne_slotView (by decide) (.inl h))).set
    (slotField_ne_slotView (by decide) (.inl h))).set (slotField_ne_slotView (by decide) (.inl h))

/-- The record that the registers of slot `k` show. -/
def State.shownRec (s : State) (k : Nat) : Option CapRec := if k < s.roast.capSlots then alookup k s.cap.recs else none

/-- The registers of every slot as they follow the records. -/
def State.showEach (s : State) : State := (List.range 64).foldl (fun (v : State) k => v.showSlot k (s.shownRec k)) s

theorem showSlots_eq (s : State) : s.showSlots =
    (s.showEach.set Reg.CAP_STATUS.FREE
      ((List.range s.roast.capSlots).filter fun k => (s.shownRec k).isNone).length).set Reg.CAP_STATUS.FILLING s.filling.length := by
  simp only [State.showSlots, State.shownRec, State.showEach, State.showSlot]

theorem showSlots_shows {s : State} (h : s.filesOk = true) {k : Nat} (hk : k < 64) : SlotShows k (s.shownRec k) s.showSlots := by
  have hfold : SlotShows k (s.shownRec k) s.showEach := by
    unfold State.showEach
    exact foldl_establishes (inv := fun v => v.filesOk = true) (done := SlotShows k (s.shownRec k)) (List.mem_range.mpr hk)
      (fun v j hv => filesOk_showSlot hv j _) (fun v hv => showSlot_shows hv k _)
      (fun v j hj _ hv => hv.spared (spares_showSlot hj v _)) h
  rw [showSlots_eq]
  exact hfold.spared (((Spares.refl _ _).set (below_ne_slotView (by decide) k)).set (below_ne_slotView (by decide) k))

theorem showSlots_recs (s : State) : s.showSlots.cap.recs = s.cap.recs := congrArg Capture.recs ((moves_showSlots s).touches.2 .cap rfl)

section
variable {s : State} {who : Requester} (h : Ready s who) {k : Nat} (hk : k < 64) (hslot : k < s.roast.capSlots) {r : CapRec}
  (hr : alookup k s.cap.recs = some r) (hstate : 2 ≤ r.state)
include h hk hslot hr hstate

theorem goes_slotHold : Goes (.capSlotHold who k) s fun v =>
    alookup k v.cap.recs = some { r with held := true } ∧ v.flag (Reg.CAP_SLOT.HELD.ix k) = true := by
  let t := s.setCap k { r with held := true }
  have hshown : t.shownRec k = some { r with held := true } := (if_pos hslot).trans (alookup_aset_self ..)
  refine ⟨t.showSlots, ?_, ?_, ?_⟩
  · show execCapSlotHold who k s = _
    rw [execCapSlotHold, h.guarded, Nat.mod_eq_of_lt hk]
    dsimp only
    rw [hr]
    exact congrArg Host.Outcome.next (if_pos ⟨hslot, hstate⟩)
  · rw [showSlots_recs]; exact alookup_aset_self ..
  · have := (showSlots_shows (s := t) h.1 hk).2
    rwa [hshown] at this

theorem goes_slotRelease : Goes (.capSlotRelease who k) s fun v =>
    alookup k v.cap.recs = none ∧ v.get (Reg.CAP_SLOT.STATE.ix k) = 0 := by
  let t : State := { s with cap := { s.cap with recs := aerase k s.cap.recs } }
  have hshown : t.shownRec k = none := (if_pos hslot).trans (alookup_aerase_self ..)
  refine ⟨t.showSlots, ?_, ?_, ?_⟩
  · show execCapSlotRelease who k s = _
    rw [execCapSlotRelease, h.guarded, Nat.mod_eq_of_lt hk]
    dsimp only
    rw [hr]
    exact congrArg Host.Outcome.next (if_pos ⟨hslot, hstate⟩)
  · rw [showSlots_recs]; exact alookup_aerase_self ..
  · have := (showSlots_shows (s := t) h.1 hk).1
    rwa [hshown] at this

end

/-! ### The end of a record (R402) -/

theorem rearm_recs (s : State) (slot : Nat) : (s.rearm slot).cap.recs = s.cap.recs := by
  unfold State.rearm
  refine List.foldlRecOn (motive := fun v : State => v.cap.recs = s.cap.recs) _ _ rfl fun v hv k _ => ?_
  split
  · rw [State.putBit, State.set_cap]; exact hv
  · exact hv

theorem exec_captureRecordDone_early {s : State} {r : CapReport} {x : CapRec} (hx : alookup r.slot (s.moveTo r.t).cap.recs = some x)
    (hready : (s.moveTo r.t).capReady x = false) : exec (.captureRecordDone r) s = .next (s.moveTo r.t) := by
  show execCaptureRecordDone r s = _
  simp [execCaptureRecordDone, hx, hready]

theorem goes_captureRecordDone {s : State} {r : CapReport} {x : CapRec} (hx : alookup r.slot (s.moveTo r.t).cap.recs = some x)
    (hstate : x.state = 1) (hready : (s.moveTo r.t).capReady x = true) :
    Goes (.captureRecordDone r) s fun v => (alookup r.slot v.cap.recs).map (·.state) = some 2 := by
  refine ⟨_, rfl, ?_⟩
  dsimp only
  rw [hx]
  dsimp only
  rw [if_neg (by simp [hstate, hready]), showSlots_recs, rearm_recs, (moves_capIrq _ _).touches.2 .cap rfl,
    (moves_capLost _ _ _).touches.2 .cap rfl]
  simp [State.setCap]

end Sys2Proof.Machine

namespace Sys2Proof.Machine

/-! ### What a trigger leaves of the XTRIG lines (R405)

A trigger neither arms nor disarms a line, counts none of its edges and keeps the instant since which each line is low. -/

/-- ARMED and XTRIG_SEEN. -/
def ArmView (g : Fld) : Prop := g = Reg.CAP_ARM.ARMED ∨ g = Reg.CAP.XTRIG_SEEN

theorem ne_armView {f : Fld} (hf : f.key ≠ Reg.CAP_ARM.ARMED.key ∧ f.key ≠ Reg.CAP.XTRIG_SEEN.key) :
    ∀ g, ArmView g → f.key ≠ g.key ∨ f.dom ≠ g.dom := by
  rintro g (rfl | rfl)
  · exact .inl hf.1
  · exact .inl hf.2

theorem slotField_ne_armView {f : Fld} (hf : f ∈ [Reg.CAP_SLOT.STATE, Reg.CAP_SLOT.HELD, Reg.CAP_SLOT.PROFILE, Reg.CAP_SLOT.SEQ]) {k : Nat}
    (hk : k < 64) : ∀ g, ArmView g → (f.ix k).key ≠ g.key ∨ (f.ix k).dom ≠ g.dom := by
  obtain ⟨hdims, hlo, hhi⟩ := slotField_place f hf
  have hview : Reg.CAP_ARM.ARMED.key = 8 * 0x200024 ∧ Reg.CAP.XTRIG_SEEN.key = 8 * 0x201030 := by decide
  refine ne_armView ?_
  rw [Fld.key_ix hdims]
  omega

theorem spares_showSlots (s : State) : Spares ArmView s s.showSlots := by
  rw [showSlots_eq]
  refine Spares.set (ne_armView (by decide)) (Spares.set (ne_armView (by decide)) ?_)
  unfold State.showEach
  refine Spares.foldl (fun v k hk => ?_) (Spares.refl _ _)
  have hlt := List.mem_range.mp hk
  exact ((((Spares.refl _ v).set (slotField_ne_armView (by decide) hlt)).setFlag (slotField_ne_armView (by decide) hlt)).set
    (slotField_ne_armView (by decide) hlt)).set (slotField_ne_armView (by decide) hlt)

theorem spares_capLost (s : State) (slices wave : Nat) : Spares ArmView s (s.capLost slices wave) := by
  have hcount : Spares ArmView s ((s.count Reg.CAP.SLICE_LOST slices).count Reg.CAP.WAVE_LOST wave) :=
    ((Spares.refl _ s).count (ne_armView (by decide))).count (ne_armView (by decide))
  exact Spares.ite hcount (hcount.irq (ne_armView (by decide)))

theorem spares_openRec (s : State) (k : Nat) (b : Bytes) (t : CapTrig) : Spares ArmView s (s.openRec k b t) := by
  unfold State.openRec
  extract_lets ents lost r
  refine Spares.trans (Spares.trans ?_ (spares_capLost _ lost 0)) (spares_showSlots _)
  exact (Spares.refl _ s).parts rfl rfl rfl

theorem spares_fired (s : State) (src : Bytes) : Spares ArmView s (s.fired src) := by
  refine ⟨fun g hg => (fired_keeps s src).get ?_⟩
  obtain rfl | rfl := hg <;> decide

theorem openRec_lines (s : State) (k : Nat) (b : Bytes) (t : CapTrig) : (s.openRec k b t).cap.lines = s.cap.lines := by
  unfold State.openRec
  rw [(moves_showSlots _).touches.2 .cap rfl, (moves_capLost _ _ _).touches.2 .cap rfl]
  rfl

theorem fired_since (s : State) (src : Bytes) (j : Nat) : ((s.fired src).xline j).since = (s.xline j).since :=
  (fire_since ..).trans (congrArg XLine.since (xline_eq (by rw [State.count, State.set_cap]) j))

/-- What can become of a trigger: nothing, where CAP_CFG has no use of it; else its source's lines fire, and it merges, is refused or
opens a record. -/
inductive TriggerEnds (s : State) : State → Prop
  | ignored : TriggerEnds s s
  | merged (src : Bytes) (i : Nat) (r : CapRec) : TriggerEnds s (((s.fired src).setCap i r).count Reg.CAP.MERGED)
  | refused (src : Bytes) : TriggerEnds s (((s.fired src).count Reg.CAP.REFUSED_NOSLOT).capIrq Reg.CAP_IRQ.REFUSED)
  | opened (src : Bytes) (i : Nat) (b : Bytes) (t : CapTrig) : TriggerEnds s ((s.fired src).openRec i b t)

theorem capTrigger_ends (s : State) (k : Nat) (t : Tai) (n : Nat) (own : Bool) : TriggerEnds s (s.capTrigger k t n own).1 := by
  unfold State.capTrigger
  split
  · exact .ignored
  next src _ =>
  split
  · exact .ignored
  split
  · exact .ignored
  next b _ =>
  extract_lets tr s1 into
  have hs1 : s1 = s.fired src := rfl
  clear_value into s1
  subst hs1
  cases into with
  | some e => exact .merged src e.1 (e.2.merge tr)
  | none =>
    dsimp only
    split
    · exact .refused src
    next i _ => exact .opened src i b tr

theorem TriggerEnds.spares {s t : State} (h : TriggerEnds s t) : Spares ArmView s t := by
  cases h with
  | ignored => exact Spares.refl _ _
  | merged src i r => exact ((spares_fired s src).moves (moves_setCap ..) rfl).count (ne_armView (by decide))
  | refused src => exact ((spares_fired s src).count (ne_armView (by decide))).irq (ne_armView (by decide))
  | opened src i b t => exact (spares_fired s src).trans (spares_openRec ..)

theorem xline_set (s : State) (f : Fld) (v j : Nat) : (s.set f v).xline j = s.xline j := xline_eq (congrArg Capture.lines (State.set_cap ..)) j

theorem xline_count (s : State) (f : Fld) (n j : Nat) : (s.count f n).xline j = s.xline j := xline_set ..

theorem xline_setCap (s : State) (i : Nat) (r : CapRec) (j : Nat) : (s.setCap i r).xline j = s.xline j := xline_eq rfl j

theorem xline_capIrq (s : State) (f : Fld) (j : Nat) : (s.capIrq f).xline j = s.xline j :=
  xline_eq (congrArg Capture.lines ((moves_capIrq s f).touches.2 .cap rfl)) j

theorem TriggerEnds.since {s t : State} (h : TriggerEnds s t) (j : Nat) : (t.xline j).since = (s.xline j).since := by
  cases h with
  | ignored => rfl
  | merged src i r => rw [xline_count, xline_setCap, fired_since]
  | refused src => rw [xline_capIrq, xline_count, fired_since]
  | opened src i b t => rw [xline_eq (openRec_lines ..), fired_since]

/-! ### Edges of XTRIG lines (R405 to R407) -/

theorem bit_putBit_self {s : State} (h : s.filesOk = true) {f : Fld} {k : Nat} (hk : k < f.width) (b : Bool) : (s.putBit f k b).bit f k = b := by
  rw [State.bit, State.putBit, State.get_set h, bitAt_mod_two_pow hk, bitAt_setBit_self]

theorem xline_setXline_self (s : State) (k : Nat) (x : XLine) : (s.setXline k x).xline k = x := by
  simp [State.xline, State.setXline]

theorem xtrigEdge_of_stuck {s : State} {k : Nat} (h : (s.xline k).stuck = true) (stamp : Tai) : s.xtrigEdge k stamp = s := if_pos h

/-- An edge notes the instant since which the line is low. -/
def State.lowSince (s : State) (k : Nat) : State := s.setXline k { s.xline k with since := some s.time.elapsed }

/-- An edge of an armed line counted, the line disarmed or, with AUTO_REARM, kept armed. -/
def State.edgeSeen (s : State) (k : Nat) (auto : Bool) : State :=
  ((s.lowSince k).count Reg.CAP.XTRIG_SEEN).putBit Reg.CAP_ARM.ARMED k auto

theorem lowSince_since (s : State) (k : Nat) : ((s.lowSince k).xline k).since = some s.time.elapsed :=
  congrArg XLine.since (xline_setXline_self ..)

theorem edgeSeen_since (s : State) (k : Nat) (auto : Bool) : ((s.edgeSeen k auto).xline k).since = some s.time.elapsed :=
  (congrArg XLine.since ((xline_set ..).trans (xline_set ..))).trans (lowSince_since s k)

theorem xtrigEdge_since {s : State} {k : Nat} (h : (s.xline k).stuck = false) (stamp : Tai) :
    ((s.xtrigEdge k stamp).xline k).since = some s.time.elapsed := by
  have hend (source : Nat) (t : Tai) (n : Nat) (own auto : Bool) :
      (((s.edgeSeen k auto).capTrigger source t n own).1.xline k).since = some s.time.elapsed :=
    ((capTrigger_ends ..).since k).trans (edgeSeen_since ..)
  unfold State.xtrigEdge
  dsimp only
  rw [if_neg (by simp [h])]
  split
  · exact lowSince_since s k
  split
  · split
    · exact (congrArg XLine.since (xline_setXline_self ..)).trans (hend ..)
    · exact (congrArg XLine.since (xline_set ..)).trans (hend ..)
  · exact hend ..

theorem edgeSeen_shows {s : State} (hfiles : s.filesOk = true) {k : Nat} (hk : k < 4) (auto : Bool) :
    (s.edgeSeen k auto).bit Reg.CAP_ARM.ARMED k = auto ∧ Counted Reg.CAP.XTRIG_SEEN s (s.edgeSeen k auto) := by
  have hlow := moves_setXline s k { s.xline k with since := some s.time.elapsed }
  have hcount : Counted Reg.CAP.XTRIG_SEEN s ((s.lowSince k).count Reg.CAP.XTRIG_SEEN) :=
    (counted_count (hlow.files hfiles) _).after (get_moves hlow rfl _)
  exact ⟨bit_putBit_self (State.filesOk_set (hlow.files hfiles)) hk auto, (State.get_set_ne (by decide)).trans hcount⟩

/-- The instant of an edge, deskewed. -/
def State.edgeTime (s : State) (k : Nat) (stamp : Tai) : Tai := addTai stamp (-(s.getInt (Reg.CAP_XSKEW.SKEW.ix k)))

theorem xtrigEdge_of_armed {s : State} {k : Nat} (h : (s.xline k).stuck = false) (harmed : s.bit Reg.CAP_ARM.ARMED k = true)
    (hruns : s.blockRuns .capture = true) (hauto : s.roast.autoRearm k = false) (stamp : Tai) :
    s.xtrigEdge k stamp = ((s.edgeSeen k false).capTrigger (68 + k) ((s.lowSince k).edgeTime k stamp)
      (sliceOf (s.edgeSeen k false).fs ((s.lowSince k).edgeTime k stamp)) (s.xline k).driven).1 := by
  have harmed' : (s.lowSince k).bit Reg.CAP_ARM.ARMED k = true := harmed
  have hruns' : (s.lowSince k).blockRuns .capture = true := hruns
  have hauto' : (s.lowSince k).roast.autoRearm k = false := hauto
  unfold State.lowSince at harmed' hruns' hauto'
  have heq : s.xtrigEdge k stamp = ((s.edgeSeen k (s.roast.autoRearm k)).capTrigger (68 + k) ((s.lowSince k).edgeTime k stamp)
      (sliceOf (s.edgeSeen k (s.roast.autoRearm k)).fs ((s.lowSince k).edgeTime k stamp)) (s.xline k).driven).1 := by
    unfold State.xtrigEdge
    dsimp only
    rw [if_neg (by simp [h]), if_neg (by simp [harmed', hruns']), if_neg (by simp [hauto'])]
    rfl
  rw [heq, hauto]

theorem xtrigEdge_disarms {s : State} (hfiles : s.filesOk = true) {k : Nat} (hk : k < 4) (h : (s.xline k).stuck = false)
    (harmed : s.bit Reg.CAP_ARM.ARMED k = true) (hruns : s.blockRuns .capture = true) (hauto : s.roast.autoRearm k = false) (stamp : Tai) :
    (s.xtrigEdge k stamp).bit Reg.CAP_ARM.ARMED k = false ∧ Counted Reg.CAP.XTRIG_SEEN s (s.xtrigEdge k stamp) := by
  obtain ⟨harm, hseen⟩ := edgeSeen_shows hfiles hk false
  rw [xtrigEdge_of_armed h harmed hruns hauto]
  have hspares := (capTrigger_ends (s.edgeSeen k false) (68 + k) ((s.lowSince k).edgeTime k stamp)
    (sliceOf (s.edgeSeen k false).fs ((s.lowSince k).edgeTime k stamp)) (s.xline k).driven).spares
  exact ⟨(congrArg (bitAt · k) (hspares.get_eq _ (.inl rfl))).trans harm, (hspares.get_eq _ (.inr rfl)).trans hseen⟩

theorem exec_xtrigEdge {s : State} {k ns code : Nat} {t : Tai} (hk : k < 4) (hns : 200 ≤ ns) :
    exec (.xtrigEdge k ⟨ns, t, code⟩) s = .next ((s.moveTo t).xtrigEdge k ((s.moveTo t).tdcStamp (5 + k) t code)) := by
  show execXtrigEdge k ⟨ns, t, code⟩ s = _
  rw [execXtrigEdge, glitch_of_le hns, Nat.mod_eq_of_lt hk]

theorem exec_xtrigEdge_none {s : State} {k ns code : Nat} {t : Tai} (hk : k < 4)
    (h : ns < 100 ∨ 200 ≤ ns ∧ ((s.moveTo t).xline k).stuck = true) : exec (.xtrigEdge k ⟨ns, t, code⟩) s = .next (s.moveTo t) := by
  obtain hns | ⟨hns, hstuck⟩ := h
  · show execXtrigEdge k ⟨ns, t, code⟩ s = _
    rw [execXtrigEdge, glitch_of_lt hns]
  · rw [exec_xtrigEdge hk hns, xtrigEdge_of_stuck hstuck]

theorem exec_trigInEdge_none {s : State} {k ns code : Nat} {t : Tai} (hk : k < 4) {f : Bool}
    (h : ns < 100 ∨ 200 ≤ ns ∧ bitAt (leAt (s.moveTo t).roast.capHead 4 1) k ≠ f) :
    exec (.trigInEdge k f ⟨ns, t, code⟩) s = .next (s.moveTo t) := by
  show execTrigInEdge k f ⟨ns, t, code⟩ s = _
  obtain hns | ⟨hns, hsense⟩ := h
  · rw [execTrigInEdge, glitch_of_lt hns]
  · rw [execTrigInEdge, glitch_of_le hns, Nat.mod_eq_of_lt hk, if_neg hsense]

/-! ### XTRIG lines released, stuck and free again -/

section
variable {s : State} {k : Nat} {t : Tai} (hk : k < 4)
include hk

theorem exec_xtrigRelease : exec (.xtrigRelease k t) s = .next (
    if (s.moveTo t).time.elapsed + 50 * nsUnit < ((s.moveTo t).xline k).drivenAt + 2 * usUnit then s.moveTo t
    else { (s.moveTo t).setXline k { (s.moveTo t).xline k with driven := false } with
      pins := { (s.moveTo t).pins with xtrigLow := setBit (s.moveTo t).pins.xtrigLow k false } }) := by
  show execXtrigRelease k t s = _
  rw [execXtrigRelease, Nat.mod_eq_of_lt hk]

theorem goes_xtrigRelease (h : ((s.moveTo t).xline k).drivenAt + 2 * usUnit ≤ (s.moveTo t).time.elapsed + 50 * nsUnit) :
    Goes (.xtrigRelease k t) s fun v =>
      (v.xline k).driven = false ∧ bitAt v.pins.xtrigLow k = false ∧ Keeps [] [.time, .cap, .pins] s v := by
  refine ⟨_, (exec_xtrigRelease hk).trans (congrArg Host.Outcome.next (if_neg (Nat.not_lt.mpr h))), ?_, bitAt_setBit_self .., ?_⟩
  · exact congrArg XLine.driven (xline_setXline_self ..)
  · exact Keeps.upd rfl rfl rfl rfl (((Keeps.refl _ _ s).moves (moves_moveTo s t) rfl).moves (moves_setXline ..) rfl) (h10 := .inl rfl)

theorem goes_xtrigStuck (hfiles : s.filesOk = true) {f : Tai} (hsince : ((s.moveTo t).xline k).since = some f)
    (hlong : f + 10 * msUnit < (s.moveTo t).time.elapsed) (h : ((s.moveTo t).xline k).stuck = false) :
    Goes (.xtrigStuck k t) s fun v => (v.xline k).stuck = true ∧ v.bit Reg.CAP_STATUS.STUCK k = true := by
  let u := (s.moveTo t).setXline k { (s.moveTo t).xline k with stuck := true }
  let w := u.putBit Reg.CAP_STATUS.STUCK k true
  have hdue : (!((s.moveTo t).xline k).stuck && decide (f + 10 * msUnit < (s.moveTo t).time.elapsed)) = true := by simp [h, hlong]
  have hu : u.filesOk = true := (moves_moveTo s t).files hfiles
  have hkeeps : Keeps (Reg.CAP_IRQ.STUCK :: logFields (evCode 18 0)) [.out, .evr] w
      ((w.capIrq Reg.CAP_IRQ.STUCK).log (evCode 18 0) k []) :=
    ((Keeps.refl _ _ w).irq List.mem_cons_self rfl).log (fun f hf => List.mem_cons_of_mem _ hf) rfl rfl
  refine ⟨(w.capIrq Reg.CAP_IRQ.STUCK).log (evCode 18 0) k [], ?_, ?_, ?_⟩
  · show execXtrigStuck k t s = _
    rw [execXtrigStuck, Nat.mod_eq_of_lt hk]
    dsimp only
    split
    next f' hf' =>
      obtain rfl : f' = f := Option.some.inj (hf'.symm.trans hsince)
      exact congrArg Host.Outcome.next (if_pos hdue)
    next hnone => simp [hnone] at hsince
  · refine (congrArg XLine.stuck (xline_eq (congrArg Capture.lines (hkeeps.2.1 .cap nofun rfl)) k)).trans ?_
    exact congrArg XLine.stuck ((xline_set ..).trans (xline_setXline_self ..))
  · exact (congrArg (bitAt · k) (hkeeps.get (by decide))).trans (bit_putBit_self hu hk true)

theorem goes_xtrigUnstuck (hfiles : s.filesOk = true) (h : ((s.moveTo t).xline k).stuck = true) :
    Goes (.xtrigUnstuck k t) s fun v => (v.xline k).stuck = false ∧ (v.xline k).since = none ∧ v.bit Reg.CAP_STATUS.STUCK k = false ∧
      Keeps [Reg.CAP_STATUS.STUCK] [.time, .cap] s v := by
  let u := (s.moveTo t).setXline k { (s.moveTo t).xline k with stuck := false, since := none }
  have hu : u.filesOk = true := (moves_moveTo s t).files hfiles
  have hline : (u.putBit Reg.CAP_STATUS.STUCK k false).xline k = { (s.moveTo t).xline k with stuck := false, since := none } :=
    (xline_set ..).trans (xline_setXline_self ..)
  refine ⟨u.putBit Reg.CAP_STATUS.STUCK k false, ?_, congrArg XLine.stuck hline, congrArg XLine.since hline, bit_putBit_self hu hk false, ?_⟩
  · show execXtrigUnstuck k t s = _
    rw [execXtrigUnstuck, Nat.mod_eq_of_lt hk]
    exact congrArg Host.Outcome.next (if_pos h)
  · exact (((Keeps.refl _ _ s).moves (moves_moveTo s t) rfl).moves (moves_setXline ..) rfl).putBit List.mem_cons_self

theorem exec_xtrigUnstuck_none (h : ((s.moveTo t).xline k).stuck = false) : exec (.xtrigUnstuck k t) s = .next (s.moveTo t) := by
  show execXtrigUnstuck k t s = _
  rw [execXtrigUnstuck, Nat.mod_eq_of_lt hk]
  exact congrArg Host.Outcome.next (if_neg (by simp [h]))

end

/-! ### Arming (R405) -/

theorem armCmd_arms {s : State} {who : Requester} (h : Ready s who) (hm : s.roast.armMaster = 0xFF ∨ s.roast.armMaster = s.casId)
    (arm disarm : Nat) : (s.armCmd who arm disarm).cap.arms = s.cap.arms ++ [(arm % 16, disarm % 16)] := by
  rw [State.armCmd, h.guarded]
  dsimp only
  rw [if_pos hm]
  split
  · rfl
  · rw [(moves_originate ..).touches.2 .cap rfl]

theorem armCmd_refused {s : State} {who : Requester} (h : Ready s who) (hff : s.roast.armMaster ≠ 0xFF) (hm : s.roast.armMaster ≠ s.casId)
    (arm disarm : Nat) : RefusedWith who Reg.HIF_ERR.LOCKED Reg.CAP_ARM.ARM.base s (s.armCmd who arm disarm) := by
  rw [State.armCmd, h.guarded]
  dsimp only
  rw [if_neg (not_or.mpr ⟨hff, hm⟩)]
  exact refusedWith_hifErr h.1 who _ rfl rfl (by decide) rfl

/-- Settles O53: each command at its instant, by the lemma on what it does there. -/
theorem captureCommands : Obligations.CaptureCommands := by
  unfold Obligations.CaptureCommands
  rintro s _ who t ns code h rfl
  have hu := h.moveTo t
  refine ⟨?triggers, ?lines, ?arms, ?slots, ?ends⟩
  case triggers =>
    intro c k stamp src b hc hsrc hruns hprof
    have hacc : Accepts (s.moveTo t) k src b := ⟨hsrc, hruns, hprof⟩
    have hexec := exec_trigger h hc
    refine ⟨fun hfill => ⟨fun slot hslot => ⟨_, hexec, trigAt_opens hacc stamp hfill hslot⟩, fun hslot =>
      ⟨_, hexec, trigAt_refused hacc stamp hu.1 hfill hslot⟩⟩, fun n r hfill hmode hpr hpost => ?_⟩
    exact ⟨_, hexec, trigAt_merges hacc stamp hu.1 hfill hmode hpr hpost⟩
  case lines =>
    intro k hk
    refine ⟨fun f hf => exec_trigInEdge_none hk hf, exec_xtrigEdge_none hk, fun hns hstuck => ⟨?_, fun harmed hruns hauto => ?_⟩,
      goes_xtrigRelease hk, fun hearly => (exec_xtrigRelease hk).trans (congrArg Host.Outcome.next (if_pos hearly)),
      fun f hsince hlong hstuck => goes_xtrigStuck hk h.1 hsince hlong hstuck, goes_xtrigUnstuck hk h.1, exec_xtrigUnstuck_none hk⟩
    · exact ⟨_, exec_xtrigEdge hk hns, xtrigEdge_since hstuck _⟩
    · exact ⟨_, exec_xtrigEdge hk hns, xtrigEdge_disarms hu.1 hk hstuck harmed hruns hauto _⟩
  case arms =>
    intro mask hmask
    have hmod := Nat.mod_eq_of_lt hmask
    refine ⟨fun hm => ⟨⟨_, rfl, ?_⟩, ⟨_, rfl, ?_⟩⟩, ?_⟩
    · simpa [hmod] using armCmd_arms h hm mask 0
    · simpa [hmod] using armCmd_arms h hm 0 mask
    · rintro hff hm c (rfl | rfl)
      · exact ⟨_, rfl, armCmd_refused h hff hm ..⟩
      · exact ⟨_, rfl, armCmd_refused h hff hm ..⟩
  case slots =>
    exact fun k r hk hslot hr hstate => ⟨goes_slotHold h hk hslot hr hstate, goes_slotRelease h hk hslot hr hstate⟩
  case ends =>
    rintro r x rfl hx hstate
    exact ⟨goes_captureRecordDone hx hstate, exec_captureRecordDone_early hx⟩

end Sys2Proof.Machine

namespace Sys2Proof.Machine

/-! ### BOOT_ROAST_GO and BOOT_CTL (R70, R73, R77, R81, R82) -/

/-- A guarded register write of a requester that may reach the register. -/
theorem goes_guarded {s : State} {who : Requester} {c : Instr} {a : Nat} {f : State → State} {P : State → Prop} (h : Ready s who)
    (hc : exec c s = .next (s.guarded who a f)) (hp : P (f s)) : Goes c s P :=
  ⟨f s, by rw [hc, h.guarded], hp⟩

theorem get_setFlag {s : State} {f : Fld} (h : s.filesOk = true) (hw : f.width = 1) (b : Bool) : (s.setFlag f b).get f = b2n b := by
  rw [State.setFlag, State.get_set h, hw]
  cases b <;> rfl

theorem get_setFlag_ne {s : State} {f g : Fld} {b : Bool} (h : f.key ≠ g.key ∨ f.dom ≠ g.dom) : (s.setFlag f b).get g = s.get g :=
  State.get_set_ne h

theorem Keeps.setLed {fs : List Fld} {ps : List Part} {s u : State} {f : Fld} {k v : Nat} (hf : f.ix ((k - 1) % 16) ∈ fs)
    (hp : ps.contains .ledger = true) (h : Keeps fs ps s u) : Keeps fs ps s (u.setLed f k v) :=
  Keeps.upd rfl rfl rfl rfl (h.set hf) (h8 := .inl hp)

/-- Entries whose attempts are made 0 one after the other: each is 0 at the end, whichever of them share a place. -/
theorem led_attempts_foldl {s : State} (h : s.filesOk = true) {k : Nat} (hk : k ∈ steps) :
    (steps.foldl (fun s k => s.setLed Reg.BOOT_LEDGER.ATTEMPTS k 0) s).led Reg.BOOT_LEDGER.ATTEMPTS k = 0 := by
  have hself (v : State) (hv : v.filesOk = true) (j : Nat) :
      (v.setLed Reg.BOOT_LEDGER.ATTEMPTS j 0).led Reg.BOOT_LEDGER.ATTEMPTS j = 0 := led_setLed hv
  refine foldl_establishes (f := fun s k => s.setLed Reg.BOOT_LEDGER.ATTEMPTS k 0) (inv := fun v => v.filesOk = true)
    (done := fun v => v.led Reg.BOOT_LEDGER.ATTEMPTS k = 0) hk (fun v j hv => (moves_setLed ..).files hv) (fun v hv => hself v hv k) (fun v j _ hv hdone => ?_) h
  by_cases hj : (j - 1) % 16 = (k - 1) % 16
  · simpa only [State.led, hj] using hself v hv j
  · refine Eq.trans ?_ hdone
    simp only [State.led, State.setLed, State.get_upd]
    exact State.get_set_ne (.inl (Fld.ix_inj rfl (by decide) hj))

theorem clearAttempts_keeps (s : State) :
    Keeps ((List.range 16).map fun k => Reg.BOOT_LEDGER.ATTEMPTS.ix k) [.nvs, .ledger] s s.clearAttempts := by
  refine Keeps.upd rfl rfl rfl rfl (Keeps.foldl (fun v k _ => Keeps.setLed ?_ rfl (Keeps.refl _ _ v)) (Keeps.refl _ _ s)) (h19 := .inl rfl)
  exact List.mem_map.mpr ⟨_, List.mem_range.mpr (Nat.mod_lt _ (by decide)), rfl⟩

/-- A slot preference: the register and the NVS take it, and the remembered slots are dropped (R73). -/
theorem prefer_holds {s : State} (h : s.filesOk = true) (fw roast : Bool) :
    (s.prefer fw roast).get Reg.BOOT_CTL.FW_PREF = b2n fw ∧ (s.prefer fw roast).get Reg.BOOT_CTL.ROAST_PREF = b2n roast ∧
      (s.prefer fw roast).nvs = { s.nvs with fwPref := fw, roastPref := roast } ∧
      (s.prefer fw roast).ledger = { s.ledger with fwGood := none, roastGood := none } ∧
      Keeps [Reg.BOOT_CTL.FW_PREF, Reg.BOOT_CTL.ROAST_PREF] [.nvs, .ledger] s (s.prefer fw roast) := by
  unfold State.prefer
  refine ⟨?_, get_setFlag (filesOk_setFlag (by exact h)) rfl roast, ?_, ?_, ?_⟩
  · exact (get_setFlag_ne (.inl (by decide))).trans (get_setFlag h rfl fw)
  · rw [State.setFlag, State.set_nvs, State.setFlag, State.set_nvs]
  · rw [State.setFlag, State.set_ledger, State.setFlag, State.set_ledger]
  · exact Keeps.setFlag (by simp) (Keeps.setFlag (by simp)
      (Keeps.upd rfl rfl rfl rfl (Keeps.refl _ _ s) (h8 := .inl rfl) (h19 := .inl rfl)))

/-- Settles O17: each command is one guarded write, and what it does is read off the fields it writes. -/
theorem bootControlCommands : Obligations.BootControlCommands := by
  unfold Obligations.BootControlCommands
  intro s who h
  refine ⟨goes_guarded h rfl ⟨get_setFlag h.1 rfl _, (Keeps.refl _ _ s).setFlag (by simp)⟩,
    goes_guarded h rfl ⟨fun k hlo hhi => ?_, clearAttempts_keeps s⟩,
    goes_guarded h rfl ⟨get_setFlag h.1 rfl _, ?train, ?_⟩, goes_guarded h rfl ⟨get_setFlag h.1 rfl _, ?cal, ?_⟩,
    goes_guarded h rfl ⟨get_setFlag h.1 rfl _, (Keeps.refl _ _ s).setFlag (by simp)⟩, fun fw roast => ?_⟩
  case train => rw [State.askTrain, State.setFlag, State.set_ledger]
  case cal => rw [State.askCal, State.setFlag, State.set_ledger]
  · have hk : k ∈ steps := List.mem_map.mpr ⟨k - 1, List.mem_range.mpr (by omega), by omega⟩
    exact (State.get_upd ..).trans (led_attempts_foldl h.1 hk)
  · exact Keeps.setFlag (by simp) (Keeps.upd rfl rfl rfl rfl (Keeps.refl _ _ s) (h8 := .inl rfl))
  · exact Keeps.setFlag (by simp) (Keeps.upd rfl rfl rfl rfl (Keeps.refl _ _ s) (h8 := .inl rfl))
  · obtain ⟨hfw, hroast, hnvs, hledger, hkeeps⟩ := prefer_holds h.1 fw roast
    exact goes_guarded h rfl ⟨hfw, hroast, by rw [hnvs], by rw [hnvs], by rw [hledger], by rw [hledger], hkeeps⟩

/-! ### The heartbeat, the power switch and PERST_N (R83, R84, R85, R492) -/

theorem health_bit {s : State} (h : s.filesOk = true) {k : Nat} (hk : k < 9) (b : Bool) : (s.health k b).bit Reg.BOOT_HEALTH.COND k = b :=
  bit_putBit_self h hk b

theorem health_keeps (s : State) (k : Nat) (b : Bool) : Keeps [Reg.BOOT_HEALTH.COND] [.pins] s (s.health k b) :=
  (Keeps.refl _ _ s).health (List.mem_singleton_self _) rfl

theorem silent_core {s : State} {p : Nat} (hin : s.boot.inReset = false) (hup : s.coreUp p = true) : s.silent (.core p) = false := by
  simp [State.silent, hin, hup]

/-- Firmware that kicks: the security core, or a running application core. -/
theorem goes_kick {s : State} (h : s.filesOk = true) (hin : s.boot.inReset = false) {who : Requester}
    (hwho : who = .sec ∨ ∃ k, who = .core k ∧ s.coreUp k = true) :
    Goes (.heartbeatKick who) s fun t => t.bit Reg.BOOT_HEALTH.COND 5 = true ∧ Keeps [Reg.BOOT_HEALTH.COND] [.pins] s t := by
  have hafter := And.intro (health_bit h (k := 5) (by decide) true) (health_keeps s 5 true)
  obtain rfl | ⟨k, rfl, hup⟩ := hwho
  · refine goes_open ⟨h, ?_, by simp⟩ rfl hafter
    simp [State.silent, hin]
  · exact goes_open (f := fun s => s.kick (.core k)) ⟨h, silent_core hin hup, by simp⟩ rfl hafter

/-- The power-off request is noted with its time, with or without the save that it starts. -/
theorem goes_offRequest {s : State} {who : Requester} (h : Ready s who) :
    Goes (.bkpPwrOffRequest who 0x0FF00001) s fun t => t.backup.offReq = some s.time.elapsed := by
  refine goes_guarded h rfl ?_
  rw [if_pos rfl]

/-- PWR_ON goes low where a request stands, no save is in progress and 100 ms have passed. -/
theorem goes_pwrOnLow {s : State} {t a : Nat} (hreq : s.backup.offReq = some a) (hsave : s.nrg.saving = none)
    (hlate : a + 100 * msUnit ≤ (s.moveTo t).time.elapsed) :
    Goes (.pwrOnLow t) s fun u => u.pins.pwrOn = false ∧ u.backup.offReq = none ∧ Keeps [] [.time, .pins, .backup] s u := by
  have hmove := moves_moveTo s t
  have hreq' : (s.moveTo t).backup.offReq = some a := by rw [hmove.touches.2 .backup rfl, hreq]
  have hsave' : (s.moveTo t).nrg.saving = none := by rw [hmove.touches.2 .nrg rfl, hsave]
  have hexec : exec (.pwrOnLow t) s = .next { s.moveTo t with
      pins := { (s.moveTo t).pins with pwrOn := false }, backup := { (s.moveTo t).backup with offReq := none } } := by
    show execPwrOnLow t s = _
    simp only [execPwrOnLow, hreq']
    rw [if_pos ⟨by simp [hsave'], hlate⟩]
  exact ⟨_, hexec, rfl, rfl, Keeps.upd rfl rfl rfl rfl ((Keeps.refl _ _ s).moves hmove rfl) (h10 := .inl rfl) (h20 := .inl rfl)⟩

/-- Settles O18: the heartbeat is bit 5 of the health conditions, and the power-off request and its end are the two ends of one field. -/
theorem heartbeatAndPower : Obligations.HeartbeatAndPower := by
  unfold Obligations.HeartbeatAndPower
  intro s h hin
  refine ⟨fun who hwho => goes_kick h hin hwho, ?_, fun hon => ⟨_, ?half, health_bit h (by decide) false, health_keeps s 5 false⟩,
    fun who hready => goes_offRequest hready, fun t a hreq hsave hlate => goes_pwrOnLow hreq hsave hlate,
    ⟨_, rfl, rfl, rfl, Keeps.upd rfl rfl rfl rfl (Keeps.refl _ _ s) (h11 := .inl rfl)⟩⟩
  · have hmay : MayWrite s .pf0 := ⟨h, by simp [State.silent, hin], by simp⟩
    show execHeartbeatKick .pf0 s = _
    rw [execHeartbeatKick, hmay.open_]
    rfl
  case half =>
    show execHeartbeatHalfExpiry s = _
    rw [execHeartbeatHalfExpiry, if_pos hon]

end Sys2Proof.Machine

namespace Sys2Proof.Machine

/-! ### Ledger steps that pass into the next (R71) -/

/-- What BOOT_STATUS.STEP and the outcome in step k's entry show. -/
def StepView (k : Nat) (g : Fld) : Prop := g = Reg.BOOT_STATUS.STEP ∨ g = Reg.BOOT_LEDGER.OUTCOME.ix ((k - 1) % 16)

/-- Main registers stand apart from the ledger entries, which the backup domain keeps. -/
theorem ne_stepView {f : Fld} (hk : f.key ≠ Reg.BOOT_STATUS.STEP.key) (hd : f.dom = .main) (k : Nat) :
    ∀ g, StepView k g → f.key ≠ g.key ∨ f.dom ≠ g.dom := by
  rintro g (rfl | rfl)
  · exact .inl hk
  · exact .inr (by rw [hd, Fld.ix_dom]; decide)

/-- A step that is entered, before what its own number adds. -/
def State.entered (s : State) (k attempts alt stored : Nat) : State :=
  ({ s.newEntry k attempts alt stored with
    boot := { (s.newEntry k attempts alt stored).boot with stepMs := s.get Reg.BOOT_ELAPSED.ELAPSED } }.set Reg.BOOT_STATUS.STEP k).saveLed k

theorem entered_shows {s : State} (h : s.filesOk = true) {k : Nat} (hk : k < 32) (a alt stored : Nat) :
    (s.entered k a alt stored).get Reg.BOOT_STATUS.STEP = k ∧ (s.entered k a alt stored).led Reg.BOOT_LEDGER.OUTCOME k = 1 := by
  have hsave (v : State) (g : Fld) : (v.saveLed k).get g = v.get g := get_moves (moves_saveLed v k) rfl g
  have hentry := moves_newEntry s k a alt stored
  refine ⟨?_, ?_⟩
  · exact (hsave ..).trans ((State.get_set (hentry.files h)).trans (Nat.mod_eq_of_lt hk))
  · refine (hsave ..).trans ((led_set (by decide)).trans ?_)
    exact (State.get_upd ..).trans (newEntry_outcome h k a alt stored)

/-- A step that has been entered is in progress, whatever its own number adds. -/
theorem enterStep_spares (s : State) (k : Nat) : ∃ a alt stored, Spares (StepView k) ((s.pickSlot k).entered k a alt stored) (s.enterStep k) := by
  have hslot : (s.pickSlot k).get Reg.BOOT_ELAPSED.ELAPSED = s.get Reg.BOOT_ELAPSED.ELAPSED := by
    unfold State.pickSlot
    split
    · exact get_setFlag_ne (.inl (by decide))
    · split
      · exact get_setFlag_ne (.inl (by decide))
      · rfl
  unfold State.enterStep
  extract_lets s0 a stored s1 _ s2 _ host s3
  refine ⟨a, b2n (s0.altOf k stored), b2n stored, ?_⟩
  have hs2 : s0.entered k a (b2n (s0.altOf k stored)) (b2n stored) = s2 := by
    unfold State.entered
    rw [hslot]
    rfl
  rw [hs2]
  have hrefl := Spares.refl (StepView k) s2
  have hsrc : Spares (StepView k) s2 s3 := hrefl.setFlag (ne_stepView (by decide) rfl k)
  refine Spares.ite ?_ (Spares.ite (Spares.ite ?_ hsrc) (Spares.ite (hrefl.parts rfl rfl rfl) (Spares.ite (hrefl.parts rfl rfl rfl) hrefl)))
  · exact Spares.setFlag (ne_stepView (by decide) rfl k) (Spares.set (ne_stepView (by decide) rfl k) (hrefl.parts rfl rfl rfl))
  · exact (hsrc.setFlag (ne_stepView (by decide) rfl k)).moves (moves_emit ..) rfl

theorem enterStep_shows {s : State} (h : s.filesOk = true) {k : Nat} (hk : k < 32) :
    (s.enterStep k).get Reg.BOOT_STATUS.STEP = k ∧ (s.enterStep k).led Reg.BOOT_LEDGER.OUTCOME k = 1 := by
  obtain ⟨a, alt, stored, hspares⟩ := enterStep_spares s k
  obtain ⟨hstep, hled⟩ := entered_shows ((moves_pickSlot s k).files h) hk a alt stored
  exact ⟨(hspares.get_eq _ (.inl rfl)).trans hstep, (hspares.get_eq _ (.inr rfl)).trans hled⟩

theorem exec_ledgerStepComplete {s : State} (h : s.booting = true) (r : StepReport) :
    exec (.ledgerStepComplete r) s = .next (s.stepDone (s.get Reg.BOOT_STATUS.STEP) r) := by
  show execLedgerStepComplete r s = _
  rw [execLedgerStepComplete, if_pos h]

/-- The pass of a step that neither ends the start nor is followed by a decision between quarantine, safe mode and the next step. -/
theorem passStep_enters {s : State} (h : s.filesOk = true) {k : Nat} (hk : k ∈ [1, 5, 6, 11, 13]) (outcome : Nat) {f : State → State}
    (hf : ∀ v : State, v.filesOk = true → (f v).filesOk = true) :
    ∃ w : State, s.passStep k outcome f = w.enterStep (k + 1) ∧ w.filesOk = true := by
  refine ⟨(f (s.leaveStep k outcome 0)).notePass k, ?_, (moves_notePass ..).files (hf _ ((moves_leaveStep ..).files h))⟩
  simp only [List.mem_cons, List.not_mem_nil, or_false] at hk
  unfold State.passStep State.afterStep
  obtain rfl | rfl | rfl | rfl | rfl := hk <;> rfl

/-- The five steps whose report alone decides them and whose pass is followed by the next step. -/
theorem stepDone_enters {s : State} (h : s.filesOk = true) {k : Nat} (hk : k ∈ [1, 5, 6, 11, 13]) {r : StepReport} (hr : r.ok = true) :
    ∃ w : State, s.stepDone k r = w.enterStep (k + 1) ∧ w.filesOk = true := by
  suffices hpass : ∃ f : State → State, s.stepDone k r = s.passStep k (s.passOutcome k) f ∧
      ∀ v : State, v.filesOk = true → (f v).filesOk = true by
    obtain ⟨f, heq, hf⟩ := hpass
    rw [heq]
    exact passStep_enters h hk _ hf
  simp only [List.mem_cons, List.not_mem_nil, or_false] at hk
  obtain rfl | rfl | rfl | rfl | rfl := hk
  · exact ⟨State.fusesSensed, by simp [State.stepDone, hr], fun v => (moves_fusesSensed v).files⟩
  · exact ⟨fun s => s.trained r.repaired, by simp [State.stepDone, hr], fun v => (moves_trained v _).files⟩
  · exact ⟨fun s => s.calibrated (leAt r.load.image.head 0x2C 4), by simp [State.stepDone, hr], fun v => (moves_calibrated v _).files⟩
  · exact ⟨State.showCores, by simp [State.stepDone, hr], fun v => (moves_showCores v).files⟩
  · exact ⟨fun s => s.portsUp r, by simp [State.stepDone, hr], fun v => (moves_portsUp v r).files⟩

/-- Settles O15: the pass of each of these steps ends in entering the next one. -/
theorem ledgerStepEntersTheNext : Obligations.LedgerStepEntersTheNext := by
  unfold Obligations.LedgerStepEntersTheNext
  intro s r k h hboot hstep hk hr
  obtain ⟨w, heq, hw⟩ := stepDone_enters h hk hr
  have hlt : k + 1 < 32 := by
    simp only [List.mem_cons, List.not_mem_nil, or_false] at hk
    omega
  exact ⟨_, by rw [exec_ledgerStepComplete hboot, hstep, heq], enterStep_shows hw hlt⟩

end Sys2Proof.Machine

namespace Sys2Proof.Machine

section
variable {P : Fld → Prop} {s u t : State}

theorem Spares.ofKeeps {fs : List Fld} {ps : List Part} (hk : Keeps fs ps u t) (hf : ∀ g, P g → ∀ f ∈ fs, g.key ≠ f.key ∨ g.dom ≠ f.dom)
    (h : Spares P s u) : Spares P s t :=
  h.trans ⟨fun g hg => hk.get (hf g hg)⟩

/-- An event writes the recorder's fields for its code. -/
theorem Spares.log {code source : Nat} {data : Bytes} (hf : ∀ g, P g → ∀ f ∈ logFields code, g.key ≠ f.key ∨ g.dom ≠ f.dom)
    (h : Spares P s u) : Spares P s (u.log code source data) :=
  h.ofKeeps (Keeps.log (fs := logFields code) (ps := [.evr, .out]) (c := code) (fun _ m => m) rfl rfl (Keeps.refl _ _ u)) hf

end

/-! ### What stops in safe mode spares BOOT_STATUS's state and step (R79) -/

/-- BOOT_STATUS.STATE and SAFE_STEP. -/
def SafeView (g : Fld) : Prop := g = Reg.BOOT_STATUS.STATE ∨ g = Reg.BOOT_STATUS.SAFE_STEP

theorem ne_safeView {f : Fld} (hk : f.key ≠ Reg.BOOT_STATUS.STATE.key ∧ f.key ≠ Reg.BOOT_STATUS.SAFE_STEP.key) :
    ∀ g, SafeView g → f.key ≠ g.key ∨ f.dom ≠ g.dom := by
  rintro g (rfl | rfl)
  · exact .inl hk.1
  · exact .inl hk.2

/-- Every element of an array above the register. -/
theorem ne_safeView_ix {f : Fld} (hk : Reg.BOOT_STATUS.SAFE_STEP.key < f.key) (i : Nat) :
    ∀ g, SafeView g → (f.ix i).key ≠ g.key ∨ (f.ix i).dom ≠ g.dom :=
  ne_safeView ⟨(Fld.ix_above i (lt_trans (by decide) hk)).symm, (Fld.ix_above i hk).symm⟩

/-- An array element begins at its array's base or above it; a single register at its base. -/
theorem locate_base {a : Nat} : ∀ {ds : List (Nat × Nat)} {base words b w : Nat}, locate base ds words a = some (b, w) →
    base ≤ b ∧ (ds = [] → b = base)
  | [], base, words, b, w, h => by
    simp only [locate, Option.ite_none_right_eq_some, Option.some.injEq, Prod.mk.injEq] at h
    obtain ⟨-, rfl, -⟩ := h
    exact ⟨le_rfl, fun _ => rfl⟩
  | (n, st) :: ds, base, words, b, w, h => by
    simp only [locate, Option.ite_none_right_eq_some] at h
    exact ⟨(Nat.le_add_right ..).trans (locate_base h.2).1, nofun⟩

/-- No RWT register shares a place with the two fields: those of the CFG window stand below them and are no arrays, the others above. -/
theorem window_rwt (w : Nat) : (Reg.window w).all (fun f => decide (f.acc ≠ .rwt) ||
    decide (Reg.BOOT_STATUS.SAFE_STEP.key < f.key) || (decide (f.dims = []) && decide (f.key < Reg.BOOT_STATUS.STATE.key))) = true := by
  unfold Reg.window
  split <;> decide +kernel

theorem ne_safeView_staged {addr : Nat} {p : Fld × Fld × Nat} (hp : p ∈ fieldsAt addr) (hacc : p.1.acc = .rwt) :
    ∀ g, SafeView g → p.2.1.key ≠ g.key ∨ p.2.1.dom ≠ g.dom := by
  obtain ⟨f0, hmem, hat⟩ := List.mem_filterMap.mp hp
  simp only [Fld.at?, Option.map_map, Option.map_eq_some_iff, Function.comp] at hat
  obtain ⟨⟨b, w⟩, hloc, rfl⟩ := hat
  obtain ⟨hle, heq⟩ := locate_base hloc
  have hplace := List.all_eq_true.mp (window_rwt _) _ hmem
  simp only [Bool.or_eq_true, Bool.and_eq_true, decide_eq_true_eq] at hplace
  have hkey : f0.key ≤ Fld.key { f0 with base := b, dims := [] } := by simp only [Fld.key]; omega
  have hstate : Reg.BOOT_STATUS.STATE.key < Reg.BOOT_STATUS.SAFE_STEP.key := by decide
  refine ne_safeView ?_
  obtain (hne | habove) | ⟨hdims, hbelow⟩ := hplace
  · exact absurd hacc hne
  · dsimp only
    omega
  · have hsame : Fld.key { f0 with base := b, dims := [] } = f0.key := by simp only [Fld.key, heq hdims]
    dsimp only
    omega

section
variable (s : State)

theorem safe_applyStaged (addr v : Nat) : Spares SafeView s (s.applyStaged addr v) := by
  unfold State.applyStaged
  refine Spares.foldl (fun u p hp => ?_) (Spares.refl _ _)
  split
  · next h =>
    simp only [Bool.and_eq_true, decide_eq_true_eq] at h
    exact (Spares.refl _ _).set (ne_safeView_staged hp h.1)
  · exact Spares.refl _ _

theorem safe_absentBits : Spares SafeView s s.absentBits := by
  unfold State.absentBits State.putStreamBit
  refine Spares.foldl (fun u k _ => ?_) (Spares.foldl (fun u i _ => ?_) (Spares.refl _ _))
  · exact Spares.ite (Spares.refl _ _) ((Spares.refl _ _).set (ne_safeView_ix (by decide) k))
  · exact Spares.ite ((Spares.refl _ _).set (ne_safeView_ix (by decide) _)) (Spares.refl _ _)

theorem safe_txnEnd (result : Nat) : Spares SafeView s (s.txnEnd result) := by
  unfold State.txnEnd
  have h : Spares SafeView s { s with cfg := { s.cfg with staged := [] } } := (Spares.refl _ s).parts rfl rfl rfl
  exact (((((h.set (ne_safeView (by decide))).set (ne_safeView (by decide))).setFlag (ne_safeView (by decide))).set
    (ne_safeView (by decide))).setFlag (ne_safeView (by decide))).moves (moves_emit ..) rfl

theorem safe_txnApply : Spares SafeView s s.txnApply := by
  unfold State.txnApply
  have hstaged : Spares SafeView s (s.cfg.staged.foldl (fun s e => s.applyStaged e.1 e.2) s) :=
    Spares.foldl (fun u e _ => safe_applyStaged u e.1 e.2) (Spares.refl _ _)
  refine Spares.trans ?_ (safe_txnEnd _ 1)
  refine Spares.moves (moves_dropScan _) rfl (Spares.trans ?_ (safe_absentBits _))
  exact Spares.ite (hstaged.setFlag (ne_safeView (by decide))) hstaged

theorem safe_swapEnd (result : Nat) : Spares SafeView s (s.swapEnd result) :=
  (((Spares.refl _ s).set (ne_safeView (by decide))).set (ne_safeView (by decide))).setFlag (ne_safeView (by decide))

theorem safe_swapJudge : Spares SafeView s s.swapJudge := by
  unfold State.swapJudge
  refine Spares.ite (safe_swapEnd ..) (Spares.ite (safe_swapEnd ..) (Spares.ite (safe_swapEnd ..) (Spares.ite (safe_swapEnd ..) ?_)))
  exact Spares.set (ne_safeView (by decide)) (Spares.set (ne_safeView (by decide)) (Spares.set (ne_safeView (by decide))
    ((Spares.refl _ _).parts rfl rfl rfl)))

theorem safe_swapUnhold : Spares SafeView s s.swapUnhold := by
  refine Spares.ite (Spares.trans ?_ (safe_swapJudge _)) (Spares.refl _ _)
  exact (Spares.refl _ s).set (ne_safeView (by decide))

theorem safe_txnStopped : Spares SafeView s s.txnStopped :=
  Spares.ite (Spares.refl _ _) (((safe_txnApply s).set (ne_safeView (by decide))).trans (safe_swapUnhold _))

theorem safe_cutPulses : Spares SafeView s s.cutPulses := by
  unfold State.cutPulses
  refine Spares.parts (Spares.foldl (fun u e _ => Spares.ite ?_ (Spares.refl _ _)) (Spares.refl _ s)) rfl rfl rfl
  exact Spares.set (ne_safeView_ix (by decide) _) ((Spares.refl _ _).parts rfl rfl rfl)

theorem stoppedBlocks_apart : ∀ b ∈ stoppedBlocks,
    Reg.BOOT_STATUS.SAFE_STEP.key < b.busy.key ∧ Reg.BOOT_STATUS.SAFE_STEP.key < b.pend.key := by decide +kernel

theorem safe_stopBlocks : Spares SafeView s s.stopBlocks := by
  have hstate : Reg.BOOT_STATUS.STATE.key < Reg.BOOT_STATUS.SAFE_STEP.key := by decide
  refine Spares.foldl (fun u b hb => ?_) (Spares.refl _ _)
  obtain ⟨hbusy, hpend⟩ := stoppedBlocks_apart b hb
  exact ((Spares.refl _ _).setFlag (ne_safeView (by omega))).setFlag (ne_safeView (by omega))

theorem safe_showSdm : Spares SafeView s s.showSdm :=
  Spares.foldl (fun _ k _ => ((Spares.refl _ _).setFlag (ne_safeView_ix (by decide) k)).set (ne_safeView_ix (by decide) k)) (Spares.refl _ _)

theorem safe_health (k : Nat) (b : Bool) : Spares SafeView s (s.health k b) :=
  Spares.parts ((Spares.refl _ s).set (ne_safeView (by decide))) rfl rfl rfl

theorem safe_avsRequest (mv : Nat) : Spares SafeView s (s.avsRequest mv) :=
  Spares.parts (Spares.setFlag (ne_safeView (by decide)) ((Spares.refl _ s).moves (moves_emit ..) rfl)) rfl rfl rfl

theorem safe_log (source : Nat) (data : Bytes) : Spares SafeView s (s.log (evCode 2 1) source data) :=
  Spares.log (by rintro g (rfl | rfl) <;> decide) (Spares.refl _ _)

/-- What a block-wide stop does before it notes the step. -/
theorem stopAll_eq (step : Nat) : ∃ v : State, Spares SafeView s v ∧ v.boot.inReset = s.boot.inReset ∧ (s.filesOk = true → v.filesOk = true) ∧
    s.stopAll step = (((v.set Reg.BOOT_STATUS.SAFE_STEP step).health 1 false).avsRequest 800).log (evCode 2 1) 0 (leBytes 1 step) := by
  unfold State.stopAll
  extract_lets s1 s2 _ _ s3 s4
  have hmove : Moves [.files, .free, .out, .pins, .cfg, .roasts, .nvs, .backup, .ing, .nrg] s s2 :=
    Moves.step (moves_txnStopped _) rfl (Moves.step (moves_showSdm _) rfl (Moves.step (moves_stopBlocks _) rfl
      (Moves.step (moves_cutSave _) rfl (Moves.step (moves_nrgPush _) rfl (Moves.step (moves_cutPulses _) rfl (Moves.refl _ _))))))
  have h1 : Spares SafeView s s1 := ((safe_cutPulses s).moves (moves_nrgPush _) rfl).moves (moves_cutSave _) rfl
  have h2 : Spares SafeView s s2 := h1.trans ((safe_stopBlocks _).trans ((safe_showSdm _).trans (safe_txnStopped _)))
  clear_value s2
  have h3 : Spares SafeView s s3 := h2.parts rfl rfl rfl
  have hafter : Moves [.files, .pins, .cap] s3 ((s3.showQueue.safePins.setFlag Reg.BOOT_STATUS.ROAST_REQ false).setFlag
      Reg.BOOT_STATUS.TIME_WAIT false) :=
    Moves.step (moves_set ..) rfl (Moves.step (moves_set ..) rfl (Moves.step (moves_safePins _) rfl (Moves.step (moves_showQueue _) rfl
      (Moves.refl _ _))))
  have hqueue : Spares SafeView s3 s3.showQueue := ((Spares.refl _ s3).set (ne_safeView (by decide))).setFlag (ne_safeView (by decide))
  have h4 : Spares SafeView s3 s3.showQueue.safePins := hqueue.moves (moves_safePins _) rfl
  refine ⟨_, h3.trans ((h4.setFlag (ne_safeView (by decide))).setFlag (ne_safeView (by decide))), ?_, fun h => hafter.files ?_, rfl⟩
  · rw [hafter.boot_eq rfl]
    exact (congrArg Boot.inReset (hmove.boot_eq rfl) :)
  · exact (State.filesOk_upd ..).trans (hmove.files h)

end

/-- Safe mode and its step are shown once all has stopped. -/
theorem enterSafe_shows {s : State} (h : s.filesOk = true) {k : Nat} (hk : k < 32) :
    (s.enterSafe k).boot.inReset = s.boot.inReset ∧ (s.enterSafe k).get Reg.BOOT_STATUS.STATE = 2 ∧
      (s.enterSafe k).get Reg.BOOT_STATUS.SAFE_STEP = k := by
  have hset : (s.set Reg.BOOT_STATUS.STATE 2).filesOk = true := State.filesOk_set h
  obtain ⟨v, hspares, hin, hfiles, heq⟩ := stopAll_eq (s.set Reg.BOOT_STATUS.STATE 2) k
  have hafter (w : State) : Spares SafeView w (((w.health 1 false).avsRequest 800).log (evCode 2 1) 0 (leBytes 1 k)) :=
    (safe_health w 1 false).trans ((safe_avsRequest _ 800).trans (safe_log _ 0 _))
  have hboot (w : State) : (((w.health 1 false).avsRequest 800).log (evCode 2 1) 0 (leBytes 1 k)).boot = w.boot :=
    Moves.boot_eq (m := [.files, .out, .pins, .evr, .pace]) (Moves.step (moves_log ..) rfl (Moves.step (moves_avsRequest ..) rfl
      (Moves.step (moves_health ..) rfl (Moves.refl _ _)))) rfl
  unfold State.enterSafe
  rw [heq]
  refine ⟨?_, ?_, ?_⟩
  · rw [hboot, State.set_boot, hin, State.set_boot]
  · rw [(hafter _).get_eq _ (.inl rfl), State.get_set_ne (.inl (by decide)), hspares.get_eq _ (.inl rfl), State.get_set h]
    rfl
  · rw [(hafter _).get_eq _ (.inr rfl), State.get_set (hfiles hset)]
    exact Nat.mod_eq_of_lt hk

/-! ### Ledger steps that fail (R74) -/

/-- The failing step's entry, with the slot it failed on. -/
def State.failed (s : State) (k outcome detail : Nat) : State :=
  (s.leaveStep k outcome detail).noteFail k (s.flag Reg.BOOT_STATUS.FW_SLOT) (s.flag Reg.BOOT_STATUS.ROAST_SLOT)

theorem moves_failed (s : State) (k outcome detail : Nat) : Moves [.files, .ledger, .nvs] s (s.failed k outcome detail) :=
  Moves.step (moves_noteFail ..) rfl (moves_leaveStep ..)

/-- Leaving a step writes its outcome, its detail and its duration: its attempts stand. -/
theorem led_attempts_failed (s : State) (k outcome detail : Nat) :
    (s.failed k outcome detail).led Reg.BOOT_LEDGER.ATTEMPTS k = s.led Reg.BOOT_LEDGER.ATTEMPTS k := by
  have hnote : (s.failed k outcome detail).led Reg.BOOT_LEDGER.ATTEMPTS k = (s.leaveStep k outcome detail).led Reg.BOOT_LEDGER.ATTEMPTS k :=
    get_moves (moves_noteFail ..) rfl _
  have hsave (v : State) : (v.saveLed k).led Reg.BOOT_LEDGER.ATTEMPTS k = v.led Reg.BOOT_LEDGER.ATTEMPTS k :=
    get_moves (moves_saveLed ..) rfl _
  rw [hnote, State.leaveStep, hsave]
  iterate 3 rw [led_setLed_ne (by decide) (by decide)]

theorem HeldInReset.of_moves {m : List Part} {s u t : State} {kind step : Nat} (hm : Moves m s u) (hfuses : m.contains .fuses = false)
    (henv : m.contains .env = false) (h : HeldInReset u kind step t) : HeldInReset s kind step t := by
  have hf : u.fuses = s.fuses := hm.touches.2 .fuses hfuses
  have he : u.env = s.env := hm.touches.2 .env henv
  rwa [HeldInReset, hf, he] at h

/-- What a failing step ends in: the reset that names it, or at the third attempt safe mode. -/
theorem failStep_ends {s : State} (h : s.filesOk = true) (hin : s.boot.inReset = false) {k : Nat} (hk : k ≤ 16) (outcome detail : Nat) :
    (s.led Reg.BOOT_LEDGER.ATTEMPTS k < 3 → HeldInReset s 4 k (s.failStep k outcome detail)) ∧
    (s.led Reg.BOOT_LEDGER.ATTEMPTS k = 3 → (s.failStep k outcome detail).boot.inReset = false ∧
      (s.failStep k outcome detail).get Reg.BOOT_STATUS.STATE = 2 ∧ (s.failStep k outcome detail).get Reg.BOOT_STATUS.SAFE_STEP = k) := by
  have hmove := moves_failed s k outcome detail
  have hend : s.failStep k outcome detail = if s.led Reg.BOOT_LEDGER.ATTEMPTS k = 3 then (s.failed k outcome detail).enterSafe k
      else (s.failed k outcome detail).doReset 4 k 0 false := by
    rw [← led_attempts_failed s k outcome detail]
    rfl
  rw [hend]
  refine ⟨fun hlt => ?_, fun heq => ?_⟩
  · rw [if_neg (by omega)]
    exact (heldInReset_doReset (hmove.files h) (by decide) k 0 false).of_moves hmove rfl rfl
  · rw [if_pos heq]
    obtain ⟨hboot, hstate, hstep⟩ := enterSafe_shows (hmove.files h) (k := k) (by omega)
    exact ⟨hboot.trans ((congrArg Boot.inReset (hmove.boot_eq rfl)).trans hin), hstate, hstep⟩

/-- A report that the step in progress cannot pass on ends in its failure. -/
theorem stepDone_fails {s : State} {k : Nat} {r : StepReport} (h : s.stepRefuses k r = true) : ∃ detail, s.stepDone k r = s.failStep k 6 detail := by
  by_cases hsimple : k ∈ [1, 2, 3, 5, 6, 11, 13, 14]
  · have hr : r.ok = false := by simpa [State.stepRefuses, hsimple] using h
    refine ⟨reportCode k, ?_⟩
    simp only [List.mem_cons, List.not_mem_nil, or_false] at hsimple
    obtain rfl | rfl | rfl | rfl | rfl | rfl | rfl | rfl := hsimple <;> simp [State.stepDone, hr]
  · unfold State.stepRefuses at h
    rw [if_neg hsimple] at h
    split at h
    case h_1 =>
      obtain ⟨d, hd⟩ := Option.isSome_iff_exists.mp h
      exact ⟨d, by simp [State.stepDone, hd]⟩
    case h_2 =>
      by_cases hflash : r.load.flashErr = true ∨ r.flashErr = true
      · exact ⟨16, by simp [State.stepDone, hflash]⟩
      · obtain ⟨d, hd⟩ := Option.isSome_iff_exists.mp (by simpa [hflash] using h)
        exact ⟨d, by simp [State.stepDone, hflash, hd]⟩
    case h_3 =>
      obtain ⟨hreq, hfails⟩ : s.flag Reg.BOOT_STATUS.ROAST_REQ = false ∧ (s.step8Fails r).isSome = true := by simpa using h
      obtain ⟨d, hd⟩ := Option.isSome_iff_exists.mp hfails
      exact ⟨d, by simp [State.stepDone, hreq, hd]⟩
    case h_4 =>
      have hbad : (r.ok && s.boot.tilesOk) = false := (Bool.not_eq_true' _).mp h
      exact ⟨14, by simp only [State.stepDone, hbad, Bool.false_eq_true, if_false]⟩
    case h_5 =>
      cases hc : s.mainFails r.flashErr s.fw.pubkey r.fw with
      | some d => exact ⟨d, by simp [State.stepDone, hc]⟩
      | none =>
        have hapi : s.roast.apiOk r.fw.api = false := by simpa [hc] using h
        exact ⟨17, by simp [State.stepDone, hc, hapi]⟩
    case h_6 =>
      have hbad : r.ok = false ∨ ¬s.get Reg.TSU_TDC_FAIL.MAP = 0 := by simpa using h
      exact ⟨0x58, by simp [State.stepDone, hbad]⟩
    case h_7 =>
      obtain ⟨hjudged, hcert⟩ : s.pace.judged = true ∧ s.flag Reg.PACE_STATUS.CERTIFIED = false := by simpa using h
      exact ⟨0x70, by simp [State.stepDone, hjudged, hcert]⟩
    case h_8 => exact absurd h Bool.false_ne_true

theorem exec_ledgerStepTimeout {s : State} (h : s.booting = true) (hk : s.get Reg.BOOT_STATUS.STEP ≠ 12) :
    exec .ledgerStepTimeout s = .next (s.failStep (s.get Reg.BOOT_STATUS.STEP) 7 0) := by
  show execLedgerStepTimeout s = _
  rw [execLedgerStepTimeout]
  dsimp only
  rw [if_neg (by simp [h]), if_pos hk]

/-- Settles O16: a check that fails and a time limit that passes are both the one failure of the step. -/
theorem ledgerStepFailureResets : Obligations.LedgerStepFailureResets := by
  unfold Obligations.LedgerStepFailureResets
  intro s k c h hboot hstep hk hc
  have hin : s.boot.inReset = false := by
    simp only [State.booting, Bool.and_eq_true, Bool.not_eq_true'] at hboot
    exact hboot.1.1
  obtain ⟨outcome, detail, hexec⟩ : ∃ outcome detail, exec c s = .next (s.failStep k outcome detail) := by
    obtain ⟨rfl, hne⟩ | ⟨r, rfl, hrefuses⟩ := hc
    · exact ⟨7, 0, by rw [exec_ledgerStepTimeout hboot (hstep ▸ hne), hstep]⟩
    · obtain ⟨detail, heq⟩ := stepDone_fails hrefuses
      exact ⟨6, detail, by rw [exec_ledgerStepComplete hboot, hstep, heq]⟩
  obtain ⟨hreset, hsafe⟩ := failStep_ends h hin hk outcome detail
  exact ⟨fun hlt => ⟨_, hexec, hreset hlt⟩, fun heq => ⟨_, hexec, hsafe heq⟩⟩

end Sys2Proof.Machine

namespace Sys2Proof.Machine

/-! ### Barista's tables through its operations (R440) -/

section
variable {s t : State}

theorem tcb_of_sch (h : t.sch.tcbs = s.sch.tcbs) (x : Nat) : t.tcb x = s.tcb x := by rw [State.tcb, State.tcb, h]

theorem core_of_sch (h : t.sch.cores = s.sch.cores) (p : Nat) : t.core p = s.core p := by rw [State.core, State.core, h]

theorem obj_of_sch (h : t.sch.objs = s.sch.objs) (o : Nat) : t.obj o = s.obj o := by rw [State.obj, State.obj, h]

theorem tcb_setTcb_self (s : State) (x : Nat) (b : Tcb) : (s.setTcb x b).tcb x = b := by simp [State.tcb, State.setTcb]

theorem obj_setObj_self (s : State) (o : Nat) (x : WaitObj) : (s.setObj o x).obj o = x := by simp [State.obj, State.setObj]

theorem core_setCore_self (s : State) (p : Nat) (c : Core) : (s.setCore p c).core p = c := by simp [State.core, State.setCore]

/-- A core given another record with the same thread: every core runs what it ran. -/
theorem running_setCore {c : Core} {p : Nat} (hc : c.running = (s.core p).running) (q : Nat) :
    ((s.setCore p c).core q).running = (s.core q).running := by
  by_cases hq : q = p
  · subst hq; rw [core_setCore_self, hc]
  · simp [State.core, State.setCore, alookup_aset_of_ne hq]

/-- Of Barista's tables the cores' records alone change. -/
def CoresOnly (s t : State) : Prop := t.sch = { s.sch with cores := t.sch.cores }

theorem CoresOnly.refl (s : State) : CoresOnly s s := rfl

theorem CoresOnly.trans {u : State} (h : CoresOnly s u) (k : CoresOnly u t) : CoresOnly s t := by
  unfold CoresOnly at *
  rw [k, h]

theorem CoresOnly.setCore (h : CoresOnly s t) (p : Nat) (c : Core) : CoresOnly s (t.setCore p c) := by
  unfold CoresOnly at *
  rw [State.setCore, h]

theorem CoresOnly.set (h : CoresOnly s t) (f : Fld) (v : Nat) : CoresOnly s (t.set f v) := by
  rwa [CoresOnly, State.set_sch]

theorem CoresOnly.tcb (h : CoresOnly s t) (x : Nat) : t.tcb x = s.tcb x := tcb_of_sch (by rw [h]) x

theorem CoresOnly.ready (h : CoresOnly s t) : t.sch.ready = s.sch.ready := by rw [h]

theorem CoresOnly.waiting (h : CoresOnly s t) : t.sch.waiting = s.sch.waiting := by rw [h]

theorem CoresOnly.migration (h : CoresOnly s t) : t.sch.migration = s.sch.migration := by rw [h]

end

/-- A register of a core's own and one of another core's, or of the same core's at another place. -/
theorem coreCopy_ne {f g : Fld} (hf : f.perReq = true) (hg : g.perReq = true)
    (h : 8 * f.base + f.lsb ≠ 8 * g.base + g.lsb ∧ 8 * f.base + f.lsb < bankSpan ∧ 8 * g.base + g.lsb < bankSpan) (p q : Nat) :
    (f.of (.core p)).key ≠ (g.of (.core q)).key := by
  obtain ⟨hne, hlf, hlg⟩ := h
  simp only [Fld.of, hf, hg, if_true, Fld.inBank, Fld.key, Requester.bank, bankSpan] at *
  omega

/-- A register of the shared bank. -/
theorem coreCopy_ne_shared {f g : Fld} (hf : f.perReq = true) (hg : g.key < bankSpan) (p : Nat) : (f.of (.core p)).key ≠ g.key := by
  simp only [Fld.of, hf, if_true, Fld.inBank, Fld.key, Requester.bank, bankSpan] at *
  omega

/-! ### What a core reads of SCH_GETWORK (R443) -/

/-- Everything of SCH_GETWORK that a core's read shows of a thread: THREAD, VALID and REASON. -/
def WorkView (p : Nat) (g : Fld) : Prop :=
  g = Reg.SCH_GETWORK.THREAD.of (.core p) ∨ g = Reg.SCH_GETWORK.VALID.of (.core p) ∨ g = Reg.SCH_GETWORK.REASON.of (.core p)

/-- Another register of a core's own. -/
theorem ne_workView {f : Fld} (hf : f.perReq = true)
    (h : 8 * 0x40000 + 16 ≤ 8 * f.base + f.lsb ∧ 8 * f.base + f.lsb < bankSpan) (p q : Nat) :
    ∀ g, WorkView p g → (f.of (.core q)).key ≠ g.key ∨ (f.of (.core q)).dom ≠ g.dom := by
  obtain ⟨hlo, hhi⟩ := h
  rintro g (rfl | rfl | rfl)
  all_goals exact .inl (coreCopy_ne hf rfl ⟨by simp only [Reg.SCH_GETWORK.THREAD, Reg.SCH_GETWORK.VALID, Reg.SCH_GETWORK.REASON]; omega,
    hhi, by decide⟩ q p)

theorem ne_workView_shared {f : Fld} (hf : f.key < bankSpan) (p : Nat) : ∀ g, WorkView p g → f.key ≠ g.key ∨ f.dom ≠ g.dom := by
  rintro g (rfl | rfl | rfl)
  all_goals exact .inl (coreCopy_ne_shared rfl hf p).symm

theorem answerWork_sch (s : State) (p thread : Nat) (valid : Bool) (reason obj : Nat) : (s.answerWork p thread valid reason obj).sch = s.sch := by
  simp only [State.answerWork, State.setFlag, State.set_sch]

theorem answerWork_shows {s : State} (h : s.filesOk = true) (p thread : Nat) (valid : Bool) (reason obj : Nat) :
    (s.answerWork p thread valid reason obj).get (Reg.SCH_GETWORK.THREAD.of (.core p)) = thread % 2 ^ 8 ∧
    (s.answerWork p thread valid reason obj).get (Reg.SCH_GETWORK.VALID.of (.core p)) = b2n valid ∧
    (s.answerWork p thread valid reason obj).get (Reg.SCH_GETWORK.REASON.of (.core p)) = reason % 2 ^ 3 := by
  have h1 : (s.set (Reg.SCH_GETWORK.THREAD.of (.core p)) thread).filesOk = true := State.filesOk_set h
  have h2 := filesOk_setFlag (f := Reg.SCH_GETWORK.VALID.of (.core p)) (b := valid) h1
  have hne {f g : Fld} (hf : f.perReq = true) (hg : g.perReq = true)
      (hk : 8 * f.base + f.lsb ≠ 8 * g.base + g.lsb ∧ 8 * f.base + f.lsb < bankSpan ∧ 8 * g.base + g.lsb < bankSpan) (v : State) (n : Nat) :
      (v.set (f.of (.core p)) n).get (g.of (.core p)) = v.get (g.of (.core p)) := State.get_set_ne (.inl (coreCopy_ne hf hg hk p p))
  unfold State.answerWork
  refine ⟨?_, ?_, ?_⟩
  · rw [hne rfl rfl (by decide), hne rfl rfl (by decide), State.setFlag, hne rfl rfl (by decide), State.get_set h]
    rfl
  · rw [hne rfl rfl (by decide), hne rfl rfl (by decide), get_setFlag h1 rfl]
  · rw [hne rfl rfl (by decide), State.get_set h2]
    rfl

/-! ### Threads handed out and made ready (R442, R443, R445) -/

theorem unpreempt_cores (s : State) (p : Nat) : CoresOnly s (s.unpreempt p) :=
  ((CoresOnly.refl s).setCore ..).set ..

theorem running_unpreempt (s : State) (p q : Nat) : ((s.unpreempt p).core q).running = (s.core q).running := by
  rw [State.unpreempt, State.setFlag, core_of_sch (congrArg Barista.cores (State.set_sch ..))]
  exact running_setCore (by rfl) q

theorem raisePreempt_cores (s : State) (p : Nat) (t : Option Nat) : CoresOnly s (s.raisePreempt p t) := by
  unfold State.raisePreempt
  split
  · exact CoresOnly.refl s
  · exact ((CoresOnly.refl s).setCore ..).set ..

/-- A thread has been handed to a physical core. -/
structure HandedOut (p x : Nat) (s t : State) : Prop where
  running : (t.core p).running = some x
  state : (t.tcb x).state = 2
  waiting : t.sch.waiting = s.sch.waiting

theorem HandedOut.unpreempt {p x : Nat} {s t : State} (h : HandedOut p x s t) (q : Nat) : HandedOut p x s (t.unpreempt q) :=
  ⟨(running_unpreempt ..).trans h.running, by rw [(unpreempt_cores t q).tcb, h.state], (unpreempt_cores t q).waiting.trans h.waiting⟩

theorem spares_unpreempt_work (s : State) (p q : Nat) : Spares (WorkView p) s (s.unpreempt q) :=
  ((Spares.refl _ _).moves (moves_setCore ..) rfl).setFlag (ne_workView rfl (by decide) p q)

theorem handOut_holds {s : State} (h : s.filesOk = true) (p x : Nat) :
    HandedOut p x s (s.handOut p x) ∧ (s.handOut p x).get (Reg.SCH_GETWORK.VALID.of (.core p)) = 1 := by
  unfold State.handOut
  extract_lets b s1 _ s2 _ s3 s4
  have hmove : Moves [.sch] s s3 := Moves.step (moves_setCore ..) rfl
    (Moves.upd rfl rfl rfl rfl (Moves.step (moves_setTcb ..) rfl (Moves.refl _ _)) (h22 := .inl rfl))
  have hsch : s4.sch = s3.sch := by simp only [s4, State.count, State.set_sch, answerWork_sch]
  have h4 : HandedOut p x s s4 := by
    refine ⟨?_, ?_, ?_⟩
    · rw [core_of_sch (congrArg Barista.cores hsch)]
      exact congrArg Core.running (core_setCore_self ..)
    · rw [tcb_of_sch (congrArg Barista.tcbs hsch)]
      exact congrArg Tcb.state (tcb_setTcb_self s x _)
    · rw [hsch]; rfl
  have hvalid : s4.get (Reg.SCH_GETWORK.VALID.of (.core p)) = 1 := by
    have hspares : Spares (WorkView p) (s3.answerWork p x true b.reason b.obj) s4 :=
      ((Spares.refl _ _).set (ne_workView rfl (by decide) p p)).count (ne_workView_shared (by decide) p)
    exact (hspares.get_eq _ (.inr (.inl rfl))).trans (answerWork_shows (hmove.files h) ..).2.1
  refine List.foldlRecOn (motive := fun v : State => HandedOut p x s v ∧ v.get (Reg.SCH_GETWORK.VALID.of (.core p)) = 1) _ _ ⟨h4, hvalid⟩ ?_
  exact fun v hv e _ => ⟨hv.1.unpreempt e.1, ((spares_unpreempt_work v p e.1).get_eq _ (.inr (.inl rfl))).trans hv.2⟩

theorem HandedOut.runnable {p x : Nat} {s t : State} (h : HandedOut p x s t) : t.runnable x := .inr ⟨h.state, p, h.running⟩

/-- A thread made ready is READY in its queue, or already handed to a core that stalled; who waits for what stays. -/
theorem makeReady_holds {s : State} (h : s.filesOk = true) (x reason obj : Nat) :
    (s.makeReady x reason obj).runnable x ∧ (s.makeReady x reason obj).sch.waiting = s.sch.waiting := by
  unfold State.makeReady
  extract_lets b s1 _ s2
  have hfiles : s2.filesOk = true := h
  have hstate : (s2.tcb x).state = 1 := congrArg Tcb.state (tcb_setTcb_self s x _)
  have hready : x ∈ s2.sch.ready := List.mem_append_right _ (List.mem_singleton_self x)
  have hwaiting : s2.sch.waiting = s.sch.waiting := rfl
  split
  · obtain ⟨hout, -⟩ := handOut_holds hfiles (s2.physical _) x
    exact ⟨hout.runnable, hout.waiting.trans hwaiting⟩
  · split
    · next k _ =>
      have hcores := raisePreempt_cores s2 (s2.physical k) (some x)
      exact ⟨.inl ⟨by rw [hcores.tcb, hstate], by rw [hcores.ready]; exact hready⟩, hcores.waiting.trans hwaiting⟩
    · exact ⟨.inl ⟨hstate, hready⟩, hwaiting⟩

/-- A core that has given up its thread runs none, and SCH_SELF says so. -/
theorem giveUp_holds {s : State} (h : s.filesOk = true) (p : Nat) :
    ((s.giveUp p).core p).running = none ∧ CoresOnly s (s.giveUp p) ∧ (s.giveUp p).get (Reg.SCH_SELF.THREAD.of (.core p)) = 0 ∧
      (s.giveUp p).filesOk = true := by
  have hcore : CoresOnly s ((s.setCore p { s.core p with running := none }).unpreempt p) :=
    ((CoresOnly.refl s).setCore ..).trans (unpreempt_cores ..)
  have hfiles : ((s.setCore p { s.core p with running := none }).unpreempt p).filesOk = true := (moves_unpreempt ..).files h
  unfold State.giveUp
  refine ⟨?_, hcore.set .., ?_, State.filesOk_set hfiles⟩
  · rw [core_of_sch (congrArg Barista.cores (State.set_sch ..)), running_unpreempt, core_setCore_self]
  · rw [State.get_set hfiles]
    exact Nat.zero_mod _

theorem suspendNow_state (s : State) (x : Nat) : ((s.suspendNow x).tcb x).state = 4 := congrArg Tcb.state (tcb_setTcb_self ..)

/-! ### The commands of a running core (R443 to R447) -/

section
variable {s : State} {p : Nat}

theorem perCore_core (h : s.silent (.core p) = false) (a : Nat) (f : Nat → State → State) : s.perCore (.core p) a f = f p s := by
  simp [State.perCore, State.open_, h]

/-- A per-core register written by one that has no thread: the host or the security core. -/
theorem perCore_of_firmless {who : Requester} (hwho : who = .pf0 ∨ who = .sec) (a : Nat) (f : Nat → State → State) : s.perCore who a f = s := by
  obtain rfl | rfl := hwho <;> simp [State.perCore, State.open_]

theorem perCore_of_silent {who : Requester} (h : s.silent who = true) (a : Nat) (f : Nat → State → State) : s.perCore who a f = s :=
  open_of_silent h ..

theorem silent_of_coreDown (h : s.coreUp p = false) : s.silent (.core p) = true := by simp [State.silent, h]

theorem coreUp_of_speaking (h : s.silent (.core p) = false) : s.coreUp p = true := by
  simp only [State.silent, Bool.or_eq_false_iff, Bool.not_eq_false'] at h
  exact h.2

/-- A core held in reset does nothing (R66, R79). -/
theorem exec_coreDown (h : s.coreUp p = false) (o : Nat) {c : Instr} (hc : c ∈ [Instr.getwork p, .schYield (.core p), .schExit (.core p),
    .schWait (.core p) o, .schSignal (.core p) o, .flowPost (.core p) o, .flowTake (.core p) o]) : exec c s = .next s := by
  have hsilent := silent_of_coreDown h
  simp only [List.mem_cons, List.not_mem_nil, or_false] at hc
  obtain rfl | rfl | rfl | rfl | rfl | rfl | rfl := hc
  · exact congrArg Host.Outcome.next (if_pos (by simp [h]))
  · exact congrArg Host.Outcome.next (perCore_of_silent hsilent ..)
  · exact congrArg Host.Outcome.next (perCore_of_silent hsilent ..)
  · exact congrArg Host.Outcome.next (perCore_of_silent hsilent ..)
  · exact congrArg Host.Outcome.next (perCore_of_silent hsilent ..)
  · exact congrArg Host.Outcome.next (if_pos hsilent)
  · exact congrArg Host.Outcome.next (if_pos hsilent)

/-- The host and the security core have no thread to act on (R440). -/
theorem exec_firmless {who : Requester} (hwho : who = .pf0 ∨ who = .sec) (o : Nat) {c : Instr} (hc : c ∈ [Instr.schYield who, .schExit who,
    .schPark who, .schWait who o, .flowPost who o, .flowTake who o]) : exec c s = .next s := by
  simp only [List.mem_cons, List.not_mem_nil, or_false] at hc
  obtain rfl | rfl | rfl | rfl | rfl | rfl := hc
  · exact congrArg Host.Outcome.next (perCore_of_firmless hwho ..)
  · exact congrArg Host.Outcome.next (perCore_of_firmless hwho ..)
  · exact congrArg Host.Outcome.next (perCore_of_firmless hwho ..)
  · exact congrArg Host.Outcome.next (perCore_of_firmless hwho ..)
  · obtain rfl | rfl := hwho <;> exact congrArg Host.Outcome.next (ite_self _)
  · obtain rfl | rfl := hwho <;> exact congrArg Host.Outcome.next (ite_self _)

/-- A thread that SUSPEND named is suspended as it gives up its core. -/
theorem suspended_holds (hfiles : s.filesOk = true) (x : Nat) :
    (((s.giveUp p).suspendNow x).tcb x).state = 4 ∧ (((s.giveUp p).suspendNow x).core p).running = none :=
  ⟨suspendNow_state .., (giveUp_holds hfiles p).1⟩

section
variable (h : s.silent (.core p) = false)
include h

/-- A core with a thread reads it again. -/
theorem goes_getwork_running (hfiles : s.filesOk = true) {x : Nat} (hrun : (s.core p).running = some x) (hx : x < 256) :
    Goes (.getwork p) s fun v => v.get (Reg.SCH_GETWORK.THREAD.of (.core p)) = x ∧ v.get (Reg.SCH_GETWORK.VALID.of (.core p)) = 1 ∧
      v.get (Reg.SCH_GETWORK.REASON.of (.core p)) = 4 ∧ v.sch = s.sch := by
  have hexec : exec (.getwork p) s = .next (s.answerWork p x true 4 (s.tcb x).obj) := by
    show execGetwork p s = _
    simp [execGetwork, coreUp_of_speaking h, hrun]
  obtain ⟨hthread, hvalid, hreason⟩ := answerWork_shows hfiles p x true 4 (s.tcb x).obj
  exact ⟨_, hexec, hthread.trans (Nat.mod_eq_of_lt hx), hvalid, hreason, answerWork_sch ..⟩

/-- A draining core is told so. -/
theorem goes_getwork_draining (hfiles : s.filesOk = true) (hrun : (s.core p).running = none) (hdrain : s.coreState p = 2) :
    Goes (.getwork p) s fun v => v.get (Reg.SCH_GETWORK.VALID.of (.core p)) = 0 ∧ v.get (Reg.SCH_GETWORK.REASON.of (.core p)) = 5 ∧
      v.sch = s.sch := by
  have hexec : exec (.getwork p) s = .next (s.answerWork p 0 false 5 0) := by
    show execGetwork p s = _
    simp [execGetwork, coreUp_of_speaking h, hrun, hdrain]
  obtain ⟨-, hvalid, hreason⟩ := answerWork_shows hfiles p 0 false 5 0
  exact ⟨_, hexec, hvalid, hreason, answerWork_sch ..⟩

/-- A core that may take threads gets the first one it may run. -/
theorem goes_getwork_thread (hfiles : s.filesOk = true) (hrun : (s.core p).running = none) (hstate : s.coreState p ≠ 2)
    {k x : Nat} (hk : s.logical p = some k)
    (hx : s.pickWork k = some x) :
    Goes (.getwork p) s fun v => (v.core p).running = some x ∧ (v.tcb x).state = 2 ∧ v.get (Reg.SCH_GETWORK.VALID.of (.core p)) = 1 := by
  have hexec : exec (.getwork p) s = .next (s.handOut p x) := by
    show execGetwork p s = _
    simp [execGetwork, coreUp_of_speaking h, hrun, hstate, hk, hx]
  obtain ⟨hout, hvalid⟩ := handOut_holds hfiles p x
  exact ⟨_, hexec, hout.running, hout.state, hvalid⟩

/-- A read that finds no thread stalls. -/
theorem goes_getwork_stalls (hrun : (s.core p).running = none) (hstate : s.coreState p ≠ 2)
    (hnone : ∀ k, s.logical p = some k → s.pickWork k = none) :
    Goes (.getwork p) s fun v => (v.core p).stalled = some s.time.elapsed ∧ Keeps [] [.sch] s v := by
  have hexec : exec (.getwork p) s = .next (s.setCore p { s.core p with stalled := some s.time.elapsed }) := by
    show execGetwork p s = _
    cases hk : s.logical p with
    | none => simp [execGetwork, coreUp_of_speaking h, hrun, hstate, hk]
    | some k => simp [execGetwork, coreUp_of_speaking h, hrun, hstate, hk, hnone k hk]
  exact ⟨_, hexec, by rw [core_setCore_self], (Keeps.refl _ _ s).moves (moves_setCore ..) rfl⟩

theorem exec_schYield {x : Nat} (hrun : (s.core p).running = some x) : exec (.schYield (.core p)) s = .next (
    if (s.tcb x).suspend then (s.giveUp p).suspendNow x else (s.giveUp p).makeReady x 4 (s.tcb x).obj) := by
  show execSchYield (.core p) s = _
  rw [execSchYield, perCore_core h]
  simp only [hrun]

theorem exec_schExit {x : Nat} (hrun : (s.core p).running = some x) : exec (.schExit (.core p)) s = .next (
    if (s.tcb x).suspend then (s.giveUp p).suspendNow x else (s.giveUp p).setTcb x { s.tcb x with state := 0 }) := by
  show execSchExit (.core p) s = _
  rw [execSchExit, perCore_core h]
  simp only [hrun]

/-- The state in which thread `x`, which core `p` ran, waits for object `o`. -/
def State.waitsOn (s : State) (p o x : Nat) (b : Tcb) : State :=
  let v := (s.giveUp p).setTcb x b
  { v with sch := { v.sch with waiting := v.sch.waiting ++ [(o, x)] } }

/-- The thread's block as its wait begins, and when the wait ends (R446). -/
theorem exec_schWait {x : Nat} (hrun : (s.core p).running = some x) (o : Nat) : ∃ b : Tcb, b.state = 3 ∧ exec (.schWait (.core p) o) s = .next (
    if 1 ≤ (s.obj o).count then
      (s.setObj o { s.obj o with count := (s.obj o).count - 1 }).set (Reg.SCH_SELF.LAST.of (.core p)) 1
    else if s.get (Reg.SCH_WAIT_TIMEOUT.US.of (.core p)) = 0 then s.set (Reg.SCH_SELF.LAST.of (.core p)) 2
    else if (s.tcb x).suspend then (s.giveUp p).suspendNow x
    else s.waitsOn p o x b) := by
  refine ⟨{ s.tcb x with
    state := 3, obj := o
    until_ := if s.get (Reg.SCH_WAIT_TIMEOUT.US.of (.core p)) = 0xFFFFFFFF then none
      else some (s.time.elapsed + s.get (Reg.SCH_WAIT_TIMEOUT.US.of (.core p)) * usUnit) }, rfl, ?_⟩
  show execSchWait (.core p) o s = _
  rw [execSchWait, perCore_core h]
  simp only [hrun]
  rfl

/-- With no thread running there is nothing to yield, to end or to make wait. -/
theorem exec_threadless (hrun : (s.core p).running = none) (o : Nat) {c : Instr}
    (hc : c ∈ [Instr.schYield (.core p), .schExit (.core p), .schWait (.core p) o]) : exec c s = .next s := by
  simp only [List.mem_cons, List.not_mem_nil, or_false] at hc
  obtain rfl | rfl | rfl := hc
  · show execSchYield (.core p) s = _
    rw [execSchYield, perCore_core h]
    simp only [hrun]
  · show execSchExit (.core p) s = _
    rw [execSchExit, perCore_core h]
    simp only [hrun]
  · show execSchWait (.core p) o s = _
    rw [execSchWait, perCore_core h]
    simp only [hrun]

theorem exec_schSignal (o : Nat) : exec (.schSignal (.core p) o) s = .next (s.objSignal o) := by
  show execSchSignal (.core p) o s = _
  rw [execSchSignal, perCore_core h]

end

/-! ### What a running thread does (R444, R446) -/

section
variable (hfiles : s.filesOk = true) (h : s.silent (.core p) = false) {x : Nat} (hrun : (s.core p).running = some x)
include hfiles h hrun

theorem goes_yield (hs : (s.tcb x).suspend = false) : Goes (.schYield (.core p)) s fun v => v.runnable x := by
  refine ⟨_, exec_schYield h hrun, ?_⟩
  rw [if_neg (by simp [hs])]
  obtain ⟨-, -, -, hgave⟩ := giveUp_holds hfiles p
  exact (makeReady_holds hgave x 4 _).1

theorem goes_exit (hs : (s.tcb x).suspend = false) :
    Goes (.schExit (.core p)) s fun v => (v.tcb x).state = 0 ∧ (v.core p).running = none ∧ v.get (Reg.SCH_SELF.THREAD.of (.core p)) = 0 := by
  refine ⟨_, exec_schExit h hrun, ?_⟩
  rw [if_neg (by simp [hs])]
  obtain ⟨hnone, -, hthread, -⟩ := giveUp_holds hfiles p
  exact ⟨congrArg Tcb.state (tcb_setTcb_self ..), hnone, (get_moves (moves_setTcb ..) rfl _).trans hthread⟩

theorem goes_suspended (hs : (s.tcb x).suspend = true) {c : Instr} (hc : c = .schYield (.core p) ∨ c = .schExit (.core p)) :
    Goes c s fun v => (v.tcb x).state = 4 ∧ (v.core p).running = none := by
  obtain rfl | rfl := hc
  · exact ⟨_, (exec_schYield h hrun).trans (by rw [if_pos hs]), suspended_holds hfiles x⟩
  · exact ⟨_, (exec_schExit h hrun).trans (by rw [if_pos hs]), suspended_holds hfiles x⟩

/-- A wait: a pending object is consumed, timeout 0 returns, a thread that SUSPEND named is suspended, any other waits. -/
theorem goes_wait (o : Nat) :
    (0 < (s.obj o).count → Goes (.schWait (.core p) o) s fun v => (v.obj o).count = (s.obj o).count - 1 ∧
      v.get (Reg.SCH_SELF.LAST.of (.core p)) = 1 ∧ Keeps [Reg.SCH_SELF.LAST.of (.core p)] [.sch] s v) ∧
    ((s.obj o).count = 0 → s.get (Reg.SCH_WAIT_TIMEOUT.US.of (.core p)) = 0 → Goes (.schWait (.core p) o) s fun v =>
      v.get (Reg.SCH_SELF.LAST.of (.core p)) = 2 ∧ Keeps [Reg.SCH_SELF.LAST.of (.core p)] [] s v) ∧
    ((s.obj o).count = 0 → s.get (Reg.SCH_WAIT_TIMEOUT.US.of (.core p)) ≠ 0 → (s.tcb x).suspend = false →
      Goes (.schWait (.core p) o) s fun v => (v.tcb x).state = 3 ∧ (o, x) ∈ v.sch.waiting ∧ (v.core p).running = none) ∧
    ((s.obj o).count = 0 → s.get (Reg.SCH_WAIT_TIMEOUT.US.of (.core p)) ≠ 0 → (s.tcb x).suspend = true →
      Goes (.schWait (.core p) o) s fun v => (v.tcb x).state = 4 ∧ (v.core p).running = none) := by
  obtain ⟨b, hb, hexec⟩ := exec_schWait h hrun o
  obtain ⟨hnone, -⟩ := giveUp_holds hfiles p
  refine ⟨fun hcount => ?_, fun hcount hus => ?_, fun hcount hus hs => ?_, fun hcount hus hs => ?_⟩
  · refine ⟨_, hexec.trans (by rw [if_pos (Nat.succ_le_of_lt hcount)]), ?_, State.get_set ((moves_setObj ..).files hfiles), ?_⟩
    · rw [obj_of_sch (congrArg Barista.objs (State.set_sch ..)), obj_setObj_self]
    · exact Keeps.set (List.mem_singleton_self _) ((Keeps.refl _ _ s).moves (moves_setObj ..) rfl)
  · exact ⟨_, hexec.trans (by rw [if_neg (by omega), if_pos hus]), State.get_set hfiles, (Keeps.refl _ _ s).set (List.mem_singleton_self _)⟩
  · refine ⟨s.waitsOn p o x b, hexec.trans (by rw [if_neg (by omega), if_neg hus, if_neg (by simp [hs])]), ?_, ?_, hnone⟩
    · exact (congrArg Tcb.state (tcb_setTcb_self (s.giveUp p) x b)).trans hb
    · exact List.mem_append_right _ (List.mem_singleton_self _)
  · exact ⟨_, hexec.trans (by rw [if_neg (by omega), if_neg hus, if_pos hs]), suspended_holds hfiles x⟩

end

/-! ### Instants of Barista (R443, R445, R446) -/

/-- A stalled read ends after IDLE_US. -/
theorem goes_idleTimeout (hfiles : s.filesOk = true) {t a : Tai} (hstalled : ((s.moveTo t).core p).stalled = some a)
    (hus : (s.moveTo t).get Reg.SCH_CFG.IDLE_US ≠ 0)
    (hlate : (s.moveTo t).get Reg.SCH_CFG.IDLE_US * usUnit ≤ (s.moveTo t).time.elapsed - a) :
    Goes (.getworkIdleTimeout p t) s fun v => (v.core p).stalled = none ∧ v.get (Reg.SCH_GETWORK.VALID.of (.core p)) = 0 ∧
      v.get (Reg.SCH_GETWORK.REASON.of (.core p)) = 0 := by
  have hexec : exec (.getworkIdleTimeout p t) s =
      .next (((s.moveTo t).answerWork p 0 false 0 0).setCore p { (s.moveTo t).core p with stalled := none }) := by
    show execGetworkIdleTimeout p t s = _
    simp only [execGetworkIdleTimeout, hstalled]
    rw [if_pos ⟨hus, hlate⟩]
  obtain ⟨-, hvalid, hreason⟩ := answerWork_shows ((moves_moveTo s t).files hfiles) p 0 false 0 0
  have hget (v : State) (c : Core) (g : Fld) : (v.setCore p c).get g = v.get g := get_moves (moves_setCore ..) rfl g
  exact ⟨_, hexec, by rw [core_setCore_self], (hget ..).trans hvalid, (hget ..).trans hreason⟩

/-- A request outstanding for more than 50 µs counts once. -/
theorem goes_preemptLate (hfiles : s.filesOk = true) {t a : Tai} {x : Option Nat} (hreq : ((s.moveTo t).core p).preempt = some (a, x, false))
    (hlate : 50 * usUnit < (s.moveTo t).time.elapsed - a) :
    Goes (.preemptLate p t) s fun v => Counted Reg.SCH.PREEMPT_LATE (s.moveTo t) v ∧ (v.core p).preempt = some (a, x, true) ∧
      Keeps [Reg.SCH.PREEMPT_LATE] [.time, .sch] s v := by
  have hexec : exec (.preemptLate p t) s =
      .next (((s.moveTo t).setCore p { (s.moveTo t).core p with preempt := some (a, x, true) }).count Reg.SCH.PREEMPT_LATE) := by
    show execPreemptLate p t s = _
    simp only [execPreemptLate, hreq]
    rw [if_pos hlate]
  have hcore (c : Core) : Moves [.sch] (s.moveTo t) ((s.moveTo t).setCore p c) := moves_setCore ..
  refine ⟨_, hexec, (counted_count ((hcore _).files ((moves_moveTo s t).files hfiles)) _).after (get_moves (hcore _) rfl _), ?_, ?_⟩
  · rw [State.count, core_of_sch (congrArg Barista.cores (State.set_sch ..)), core_setCore_self]
  · exact Keeps.count (List.mem_singleton_self _) (((Keeps.refl _ _ s).moves (moves_moveTo s t) rfl).moves (hcore _) rfl)

/-- A wait ends at its time: the thread is READY again. -/
theorem goes_waitTimeout (hfiles : s.filesOk = true) {t a : Tai} {x : Nat} (hstate : ((s.moveTo t).tcb x).state = 3)
    (huntil : ((s.moveTo t).tcb x).until_ = some a) (hlate : a ≤ (s.moveTo t).time.elapsed) :
    Goes (.waitTimeout x t) s fun v => v.runnable x := by
  have hexec : exec (.waitTimeout x t) s = .next (State.makeReady
      { s.moveTo t with sch := { (s.moveTo t).sch with waiting := (s.moveTo t).sch.waiting.filter fun e => e.2 != x } }
      x 3 ((s.moveTo t).tcb x).obj) := by
    show execWaitTimeout x t s = _
    simp only [execWaitTimeout, hstate, huntil]
    rw [if_pos (by simp [hlate])]
  exact ⟨_, hexec, (makeReady_holds (by exact (moves_moveTo s t).files hfiles) x 3 _).1⟩

/-! ### Signals (R447) -/

/-- A signal that finds a waiter wakes it. -/
theorem objSignal_wakes (hfiles : s.filesOk = true) {o x : Nat} (hx : s.wakes o = some x) :
    (s.objSignal o).runnable x ∧ ∀ e ∈ (s.objSignal o).sch.waiting, e.2 ≠ x := by
  simp only [State.objSignal, hx]
  obtain ⟨hrunnable, hwaiting⟩ := makeReady_holds (s := { s with sch := { s.sch with waiting := s.sch.waiting.filter fun e => e.2 != x } })
    hfiles x 2 o
  refine ⟨hrunnable, fun e he => ?_⟩
  rw [hwaiting] at he
  simpa using (List.mem_filter.mp he).2

/-- What an object can hold: a semaphore counts to 65,535, any other object to 1. -/
theorem objSignal_of_none {o : Nat} (hx : s.wakes o = none) : s.objSignal o =
    if (s.obj o).count < (if (s.obj o).sem then 65535 else 1) then s.setObj o { s.obj o with count := (s.obj o).count + 1 }
    else s.count Reg.SCH.SIG_ABSORBED := by
  simp only [State.objSignal, hx]
  cases hsem : (s.obj o).sem with
  | true => rfl
  | false =>
    by_cases hcount : (s.obj o).count = 0
    · simp [hcount]
    · simp [hcount]

theorem objSignal_counts (hfiles : s.filesOk = true) {o : Nat} (hx : s.wakes o = none) :
    ((s.obj o).count < (if (s.obj o).sem then 65535 else 1) →
      ((s.objSignal o).obj o).count = (s.obj o).count + 1 ∧ Keeps [] [.sch] s (s.objSignal o)) ∧
    ((if (s.obj o).sem then 65535 else 1) ≤ (s.obj o).count →
      Counted Reg.SCH.SIG_ABSORBED s (s.objSignal o) ∧ Keeps [Reg.SCH.SIG_ABSORBED] [] s (s.objSignal o)) := by
  rw [objSignal_of_none hx]
  refine ⟨fun hlt => ?_, fun hle => ?_⟩
  · rw [if_pos hlt]
    exact ⟨by rw [obj_setObj_self], (Keeps.refl _ _ s).moves (moves_setObj ..) rfl⟩
  · rw [if_neg (Nat.not_lt.mpr hle)]
    exact ⟨counted_count hfiles _, (Keeps.refl _ _ s).count (List.mem_singleton_self _)⟩

end

/-- Settles O56: each command of a running core is one operation on its tables, and each instant one of these at its time. -/
theorem threadsRunAndWait : Obligations.ThreadsRunAndWait := by
  unfold Obligations.ThreadsRunAndWait
  rintro s _ p t hfiles - rfl
  refine ⟨fun hdown o c hc => exec_coreDown hdown o hc, fun who o hwho c hc => exec_firmless hwho o hc, fun h x hrun hx => ?running,
    fun h hrun => ?idle, fun hnone => ?_, fun hnone => ?_, fun a hstalled hus hlate => goes_idleTimeout hfiles hstalled hus hlate,
    fun a x hreq hlate => goes_preemptLate hfiles hreq hlate, fun x a hstate huntil hlate => goes_waitTimeout hfiles hstate huntil hlate,
    fun x hstate => ?_, fun h o => ?signal⟩
  case running =>
    exact ⟨goes_getwork_running h hfiles hrun hx, fun hs => ⟨goes_yield hfiles h hrun hs, goes_exit hfiles h hrun hs⟩,
      fun hs c hc => goes_suspended hfiles h hrun hs hc, fun o => goes_wait hfiles h hrun o⟩
  case idle =>
    exact ⟨fun o c hc => exec_threadless h hrun o hc, fun hdrain => goes_getwork_draining h hfiles hrun hdrain, fun hstate =>
      ⟨fun k x hk hx => goes_getwork_thread h hfiles hrun hstate hk hx, fun hnone => goes_getwork_stalls h hrun hstate hnone⟩⟩
  case signal =>
    refine ⟨fun x hx => ⟨_, exec_schSignal h o, objSignal_wakes hfiles hx⟩, fun hx => ?_⟩
    obtain ⟨hcounts, habsorbed⟩ := objSignal_counts hfiles hx
    exact ⟨fun hlt => ⟨_, exec_schSignal h o, hcounts hlt⟩, fun hle => ⟨_, exec_schSignal h o, habsorbed hle⟩⟩
  · show execGetworkIdleTimeout p t s = _
    simp only [execGetworkIdleTimeout, hnone]
  · show execPreemptLate p t s = _
    simp only [execPreemptLate, hnone]
  · show execWaitTimeout x t s = _
    simp [execWaitTimeout, hstate]

end Sys2Proof.Machine

namespace Sys2Proof.Machine

/-! ### Two-bit states within a register (R439, R532) -/

/-- A field of bits reads back what it was given, whatever is cut off above it. -/
theorem bitsOf_putBits {w l n : Nat} (h : l + n ≤ w) (v x : Nat) : bitsOf (putBits v l n x % 2 ^ w) l n = x % 2 ^ n := by
  have hbits (a : Nat) : bitsOf a l n = a % 2 ^ (l + n) / 2 ^ l := by rw [bitsOf, pow_add, Nat.mod_mul_right_div_self]
  have hput : putBits v l n x = (v / 2 ^ l / 2 ^ n * 2 ^ n + x % 2 ^ n) * 2 ^ l + v % 2 ^ l := by
    have hv : v = v / 2 ^ l / 2 ^ n * 2 ^ n * 2 ^ l + v / 2 ^ l % 2 ^ n * 2 ^ l + v % 2 ^ l := by
      rw [← add_mul, Nat.div_add_mod', Nat.div_add_mod']
    rw [putBits, bitsOf, add_mul]
    generalize v / 2 ^ l / 2 ^ n * 2 ^ n * 2 ^ l = high at *
    generalize v / 2 ^ l % 2 ^ n * 2 ^ l = mid at *
    omega
  rw [hbits, Nat.mod_mod_of_dvd _ (pow_dvd_pow 2 h), ← hbits, hput, bitsOf, mul_comm, Nat.mul_add_div (Nat.two_pow_pos l),
    Nat.div_eq_of_lt (Nat.mod_lt _ (Nat.two_pow_pos l)), add_zero, mul_comm, Nat.mul_add_mod, Nat.mod_mod]

theorem unitState_setUnit {s : State} (h : s.filesOk = true) {u : Nat} (hu : u < 18) (v : Nat) : (s.setUnit u v).unitState u = v % 2 ^ 2 := by
  rw [State.unitState, State.setUnit, State.get_set h]
  exact bitsOf_putBits (show 2 * u + 2 ≤ 64 by omega) _ _

theorem coreState_setCoreState {s : State} (h : s.filesOk = true) {p : Nat} (hp : p < 9) (v : Nat) :
    (s.setCoreState p v).coreState p = v % 2 ^ 2 := by
  rw [State.coreState, State.setCoreState, State.get_set h]
  exact bitsOf_putBits (show 2 * p + 2 ≤ 18 by omega) _ _

/-! ### Interrupt bits -/

theorem flag_irq {s : State} (h : s.filesOk = true) {f : Fld} (hw : f.width = 1) (m : Fld) (vec : Nat) : (s.irq f m vec).flag f = true := by
  have hset : (s.set f (2 ^ f.width - 1)).flag f = true := by
    rw [State.flag, State.get_set h, hw]
    rfl
  unfold State.irq
  split
  · exact (flag_eq_of_get_eq (get_moves (moves_vector ..) rfl f)).trans hset
  · exact hset

theorem Keeps.pace_eq {fs : List Fld} {ps : List Part} {s t : State} (h : Keeps fs ps s t) (hp : ps.contains .pace = false) :
    t.pace = s.pace := h.2.1 .pace nofun hp

/-! ### Replica loops (R523) -/

/-- PACE_RATE of region `k` after a window. -/
def State.showRate (s : State) (loops : List Nat) (k : Nat) : State :=
  match regionRate loops k with
  | some r => (s.set (Reg.PACE_RATE.MHS.ix k) (r / 1000000)).setFlag (Reg.PACE_RATE.VALID.ix k) true
  | none => s.setFlag (Reg.PACE_RATE.VALID.ix k) false

/-- PACE_RATE shows a region's rate. -/
def RateShown (loops : List Nat) (k : Nat) (v : State) : Prop :=
  v.flag (Reg.PACE_RATE.VALID.ix k) = (regionRate loops k).isSome ∧
    ∀ r, regionRate loops k = some r → v.get (Reg.PACE_RATE.MHS.ix k) = r / 1000000

/-- A valid rate is at most 2,500 MHS. -/
theorem regionRate_le {loops : List Nat} {k r : Nat} (h : regionRate loops k = some r) : r ≤ 2500000000 := by
  have hrate {c r : Nat} (hc : loopRate c = some r) : r ≤ 2500000000 := by
    simp only [loopRate, Option.ite_none_right_eq_some, Option.some.injEq] at hc
    omega
  simp only [regionRate, Option.ite_none_right_eq_some] at h
  obtain ⟨-, h⟩ := h
  cases hl : ((loops.drop (4 * k)).take 4).filterMap loopRate with
  | nil => simp [hl, lowest] at h
  | cons a as =>
    have ha : a ∈ ((loops.drop (4 * k)).take 4).filterMap loopRate := hl ▸ List.mem_cons_self
    obtain ⟨c, -, hc⟩ := List.mem_filterMap.mp ha
    have hfold : ∀ (l : List Nat) (b : Nat), l.foldl min b ≤ b := by
      intro l
      induction l with
      | nil => exact fun b => le_rfl
      | cons x l ih => exact fun b => (ih _).trans (min_le_left b x)
    rw [hl, lowest, Option.some.injEq] at h
    exact h ▸ (hfold as a).trans (hrate hc)

theorem showRate_files {loops : List Nat} {s : State} (h : s.filesOk = true) (k : Nat) : (s.showRate loops k).filesOk = true := by
  unfold State.showRate
  split
  · exact filesOk_setFlag (State.filesOk_set h)
  · exact filesOk_setFlag h

theorem showRate_shows {loops : List Nat} {s : State} (h : s.filesOk = true) (k : Nat) : RateShown loops k (s.showRate loops k) := by
  unfold State.showRate RateShown
  cases hr : regionRate loops k with
  | none => exact ⟨flag_setFlag h rfl, nofun⟩
  | some r =>
    have hne : (Reg.PACE_RATE.VALID.ix k).key ≠ (Reg.PACE_RATE.MHS.ix k).key := Fld.ix_ne k (by decide) rfl
    refine ⟨flag_setFlag (State.filesOk_set h) rfl, ?_⟩
    rintro _ ⟨⟩
    have hle := regionRate_le hr
    exact (get_setFlag_ne (.inl hne)).trans ((State.get_set h).trans (Nat.mod_eq_of_lt (show r / 1000000 < 2 ^ 16 by omega)))

/-- Another region's PACE_RATE stays. -/
theorem showRate_spares {loops : List Nat} {j k : Nat} (hjk : j ≠ k) (s : State) :
    Spares (fun g => g = Reg.PACE_RATE.VALID.ix k ∨ g = Reg.PACE_RATE.MHS.ix k) s (s.showRate loops j) := by
  have hdims : Reg.PACE_RATE.VALID.dims = [(8, 0x4)] ∧ Reg.PACE_RATE.MHS.dims = [(8, 0x4)] := ⟨rfl, rfl⟩
  have hplace : Reg.PACE_RATE.VALID.key = Reg.PACE_RATE.MHS.key + 16 := by decide
  have hne (f : Fld) (hf : f = Reg.PACE_RATE.VALID ∨ f = Reg.PACE_RATE.MHS) :
      ∀ g, g = Reg.PACE_RATE.VALID.ix k ∨ g = Reg.PACE_RATE.MHS.ix k → (f.ix j).key ≠ g.key ∨ (f.ix j).dom ≠ g.dom := by
    have hvalid (i : Nat) : (Reg.PACE_RATE.VALID.ix i).key = _ := Fld.key_ix hdims.1 i
    have hmhs (i : Nat) : (Reg.PACE_RATE.MHS.ix i).key = _ := Fld.key_ix hdims.2 i
    intro g hg
    left
    obtain rfl | rfl := hf
    · obtain rfl | rfl := hg
      · rw [hvalid, hvalid]; omega
      · rw [hvalid, hmhs]; omega
    · obtain rfl | rfl := hg
      · rw [hmhs, hvalid]; omega
      · rw [hmhs, hmhs]; omega
  unfold State.showRate
  split
  · exact ((Spares.refl _ s).set (hne _ (.inr rfl))).setFlag (hne _ (.inl rfl))
  · exact (Spares.refl _ s).setFlag (hne _ (.inl rfl))

theorem showRates_show {loops : List Nat} {s : State} (h : s.filesOk = true) {k : Nat} (hk : k < 8) :
    RateShown loops k ((List.range 8).foldl (fun v k => v.showRate loops k) s) := by
  refine foldl_establishes (inv := fun v => v.filesOk = true) (List.mem_range.mpr hk) (fun v j hv => showRate_files hv j)
    (fun v hv => showRate_shows hv k) (fun v j hj _ hdone => ?_) h
  have hspares := showRate_spares (loops := loops) hj v
  exact ⟨(hspares.flag (.inl rfl)).trans hdone.1, fun r hr => (hspares.get_eq _ (.inr rfl)).trans (hdone.2 r hr)⟩

/-- A window joins those that are kept. -/
def State.addWindow (s : State) (w : PaceWindow) : State := { s with pace := { s.pace with windows := (w :: s.pace.windows).take 1024 } }

theorem goes_replicaWindow {s : State} (h : s.filesOk = true) (t : Tai) (loops : List Nat) :
    Goes (.replicaWindow t loops) s fun v =>
      v.pace.windows.head?.map (fun w => (w.t, w.rate)) = some (t, lowest (((List.range 8).map (regionRate loops)).filterMap id)) ∧
      ∀ k, k < 8 → RateShown loops k v := by
  have hexec : exec (.replicaWindow t loops) s = .next (State.addWindow ((List.range 8).foldl (fun v k => v.showRate loops k) (s.moveTo t))
      { t := t, rate := lowest (((List.range 8).map (regionRate loops)).filterMap id),
        allValid := ((List.range 8).map (regionRate loops)).all Option.isSome }) := by
    show execReplicaWindow t loops s = _
    unfold execReplicaWindow State.addWindow State.showRate
    rfl
  exact ⟨_, hexec, rfl, fun k hk => showRates_show ((moves_moveTo s t).files h) hk⟩


/-! ### The AVS loop's answers (R528) -/

theorem goes_avsRequestDone {s : State} (h : s.filesOk = true) {mv : Nat} {a : Tai} (hreq : s.pace.avsReq = some (mv, a)) (hmv : mv < 2 ^ 10) :
    Goes .avsRequestDone s fun v => v.pace.avsReq = none ∧ v.get Reg.PACE_STATUS.VCORE_MV = mv ∧
      v.flag Reg.PACE_STATUS.AVS_BUSY = false ∧ Keeps [Reg.PACE_STATUS.VCORE_MV, Reg.PACE_STATUS.AVS_BUSY] [.pace] s v := by
  have hexec : exec .avsRequestDone s = .next
      (({ s with pace := { s.pace with avsReq := none } }.set Reg.PACE_STATUS.VCORE_MV mv).setFlag Reg.PACE_STATUS.AVS_BUSY false) := by
    show execAvsRequestDone s = _
    simp only [execAvsRequestDone, hreq]
  refine ⟨_, hexec, ?_, ?_, flag_setFlag (State.filesOk_set (by exact h)) rfl, ?_⟩
  · rw [State.setFlag, State.set_pace, State.set_pace]
  · rw [get_setFlag_ne (.inl (by decide)), State.get_set (by exact h)]
    exact Nat.mod_eq_of_lt hmv
  · exact Keeps.setFlag (by simp) (Keeps.set (by simp) (Keeps.upd rfl rfl rfl rfl (Keeps.refl _ _ s) (h21 := .inl rfl)))

/-- A request without its answer for 1 ms has failed. -/
theorem goes_avsTimeout {s : State} (h : s.filesOk = true) {t a : Tai} {mv : Nat} (hreq : s.pace.avsReq = some (mv, a))
    (hlate : a + msUnit ≤ (s.moveTo t).time.elapsed) :
    Goes (.avsTimeout t) s fun v => v.pace.avsReq = none ∧ v.pace.avsFailReq = some mv ∧
      v.flag Reg.PACE_STATUS.AVS_FAIL = true ∧ v.flag Reg.PACE_STATUS.AVS_BUSY = false := by
  have hmove := moves_moveTo s t
  have hreq' : (s.moveTo t).pace.avsReq = some (mv, a) := by rw [hmove.touches.2 .pace rfl, hreq]
  have hfiles := filesOk_setFlag (f := Reg.PACE_STATUS.AVS_BUSY) (b := false)
    (s := { s.moveTo t with pace := { (s.moveTo t).pace with avsReq := none, avsFailReq := some mv } }) (hmove.files h)
  have hexec : exec (.avsTimeout t) s = .next (((({ s.moveTo t with
      pace := { (s.moveTo t).pace with avsReq := none, avsFailReq := some mv } }.setFlag Reg.PACE_STATUS.AVS_BUSY false).setFlag
      Reg.PACE_STATUS.AVS_FAIL true).log (evCode 3 1) 0 []).paceIrq Reg.PACE_IRQ.AVS_FAIL) := by
    show execAvsTimeout t s = _
    simp only [execAvsTimeout, hreq']
    rw [if_neg (Nat.not_lt.mpr hlate)]
  have hnoted (v : State) : Keeps (Reg.PACE_IRQ.AVS_FAIL :: logFields (evCode 3 1)) [.out, .evr] v
      ((v.log (evCode 3 1) 0 []).paceIrq Reg.PACE_IRQ.AVS_FAIL) :=
    Keeps.irq List.mem_cons_self rfl (Keeps.log (fun f hf => List.mem_cons_of_mem _ hf) rfl rfl (Keeps.refl _ _ v))
  refine ⟨_, hexec, ?_, ?_, ?_, ?_⟩
  · rw [(hnoted _).pace_eq rfl, State.setFlag, State.set_pace, State.setFlag, State.set_pace]
  · rw [(hnoted _).pace_eq rfl, State.setFlag, State.set_pace, State.setFlag, State.set_pace]
  · exact (flag_eq_of_get_eq ((hnoted _).get (by decide))).trans (flag_setFlag hfiles rfl)
  · exact (flag_eq_of_get_eq ((hnoted _).get (by decide))).trans ((flag_setFlag_ne (.inl (by decide))).trans
      (flag_setFlag (by exact hmove.files h) rfl))

/-- The failed request goes out again. -/
theorem goes_avsRetry {s : State} {who : Requester} (h : Ready s who) {mv : Nat} (hfail : s.pace.avsFailReq = some mv) :
    Goes (.avsRetry who) s fun v => v.flag Reg.PACE_STATUS.AVS_FAIL = false ∧ v.pace.avsReq = some (mv, s.time.elapsed) ∧
      v.out = .avs mv :: s.out ∧ Keeps [Reg.PACE_STATUS.AVS_FAIL, Reg.PACE_STATUS.AVS_BUSY] [.out, .pace] s v := by
  refine goes_guarded h rfl ?_
  simp only [hfail]
  unfold State.avsRequest
  refine ⟨?_, ?_, ?_, ?_⟩
  · refine (flag_eq_of_get_eq (State.get_upd ..)).trans ((flag_setFlag_ne (.inl (by decide))).trans ?_)
    exact (flag_eq_of_get_eq (State.get_upd ..)).trans (flag_setFlag (by exact h.1) rfl)
  · simp [State.setFlag, State.emit]
  · simp [State.setFlag, State.emit]
  · refine Keeps.upd rfl rfl rfl rfl (Keeps.setFlag (by simp) (Keeps.emit rfl (Keeps.setFlag (by simp) ?_))) (h21 := .inl rfl)
    exact Keeps.upd rfl rfl rfl rfl (Keeps.refl _ _ s) (h21 := .inl rfl)

/-! ### Sweep units (R532, R533) -/

section
variable {s : State} {who : Requester} (h : Ready s who) {x : Nat} (hx : x < 18)
include h hx

theorem exec_sweepRetire : exec (.sweepRetire who x) s = .next (s.retireUnit x) := by
  show execSweepRetire who x s = _
  rw [execSweepRetire, h.guarded, Nat.mod_eq_of_lt (by omega)]

theorem exec_sweepRestore : exec (.sweepRestore who x) s = .next (
    if s.unitState x = 3 ∧ (alookup x s.pace.passes).isNone then { s with pace := { s.pace with passes := aset x 0 s.pace.passes } } else s) := by
  show execSweepRestore who x s = _
  rw [execSweepRestore, h.guarded, Nat.mod_eq_of_lt (by omega)]
  simp only [hx, true_and]

/-- A spare unit is retired at once. -/
theorem goes_sweepRetire_spare (hstate : s.unitState x = 1) :
    Goes (.sweepRetire who x) s fun v => v.unitState x = 3 ∧ Keeps [Reg.PACE_SWEEP_STATE.STATE] [] s v := by
  refine ⟨_, exec_sweepRetire h hx, ?_⟩
  rw [State.retireUnit, if_neg (by omega), if_pos hstate]
  exact ⟨unitState_setUnit h.1 hx 3, (Keeps.refl _ _ s).set (List.mem_singleton_self _)⟩

/-- A mapped unit is retired at the next close where there is a spare, and else the want of one shows. -/
theorem goes_sweepRetire_active (hstate : s.unitState x = 0) (hnew : x ∉ s.pace.retire) :
    (s.spareUnit.isSome = true → Goes (.sweepRetire who x) s fun v => x ∈ v.pace.retire ∧ Keeps [] [.pace] s v) ∧
    (s.spareUnit = none → Goes (.sweepRetire who x) s fun v => v.flag Reg.PACE_STATUS.NO_SPARE = true ∧
      Keeps [Reg.PACE_STATUS.NO_SPARE] [] s v) := by
  have hretire : s.retireUnit x = if s.spareUnit.isSome then { s with pace := { s.pace with retire := s.pace.retire ++ [x] } }
      else s.setFlag Reg.PACE_STATUS.NO_SPARE true := by
    rw [State.retireUnit, if_neg (by omega), if_neg (by omega), if_neg (by simp [hstate, hnew])]
  refine ⟨fun hspare => ⟨_, exec_sweepRetire h hx, ?_⟩, fun hspare => ⟨_, exec_sweepRetire h hx, ?_⟩⟩
  · rw [hretire, if_pos hspare]
    exact ⟨List.mem_append_right _ (List.mem_singleton_self x), Keeps.upd rfl rfl rfl rfl (Keeps.refl _ _ s) (h21 := .inl rfl)⟩
  · rw [hretire, if_neg (by simp [hspare])]
    exact ⟨flag_setFlag h.1 rfl, (Keeps.refl _ _ s).setFlag (List.mem_singleton_self _)⟩

theorem exec_sweepRetire_retired (hstate : s.unitState x ∉ [0, 1]) : exec (.sweepRetire who x) s = .next s := by
  simp only [List.mem_cons, List.not_mem_nil, or_false, not_or] at hstate
  rw [exec_sweepRetire h hx, State.retireUnit, if_neg (by omega), if_neg hstate.2, if_pos (.inl hstate.1)]

theorem goes_sweepRestore (hstate : s.unitState x = 3) (hnew : alookup x s.pace.passes = none) :
    Goes (.sweepRestore who x) s fun v => alookup x v.pace.passes = some 0 ∧ Keeps [] [.pace] s v := by
  refine ⟨_, exec_sweepRestore h hx, ?_⟩
  rw [if_pos ⟨hstate, by simp [hnew]⟩]
  exact ⟨alookup_aset_self .., Keeps.upd rfl rfl rfl rfl (Keeps.refl _ _ s) (h21 := .inl rfl)⟩

theorem exec_sweepRestore_unretired (hstate : s.unitState x ≠ 3) : exec (.sweepRestore who x) s = .next s := by
  rw [exec_sweepRestore h hx, if_neg fun hc => hstate hc.1]

end

/-! ### Errors of a core's cache (R534) -/

section
variable {s : State} {p : Nat}

/-- The errors of physical core `p` that still count. -/
def State.setCacheErrs (s : State) (p : Nat) (l : List Tai) : State := { s with pace := { s.pace with cacheErrs := aset p l s.pace.cacheErrs } }

theorem moves_setCacheErrs (s : State) (p : Nat) (l : List Tai) : Moves [.pace] s (s.setCacheErrs p l) :=
  Moves.upd rfl rfl rfl rfl (Moves.refl _ s) (h21 := .inl rfl)

theorem cacheErrs_setCacheErrs (l : List Tai) : alookup p (s.setCacheErrs p l).pace.cacheErrs = some l := alookup_aset_self ..

theorem setCacheErrs_keeps (l : List Tai) : Keeps [] [.pace] s (s.setCacheErrs p l) := (Keeps.refl _ _ s).moves (moves_setCacheErrs ..) rfl

theorem coreState_setCacheErrs (l : List Tai) (q : Nat) : (s.setCacheErrs p l).coreState q = s.coreState q :=
  congrArg (bitsOf · (2 * q) 2) (get_moves (moves_setCacheErrs ..) rfl _)

/-- The lowest-numbered spare core. -/
def State.spareCore (s : State) : Option Nat := (List.range 9).find? fun q => s.coreState q == 1

/-- A core is at fault: without a spare core it is reported, and with one it is migrated where AUTO_CORE lets it. -/
def State.coreFault (s : State) (p : Nat) : State :=
  match s.spareCore with
  | none => s.paceIrq Reg.PACE_IRQ.CORE_FAULT
  | some q => if s.flag Reg.PACE_CTL.AUTO_CORE && p < 9 && s.coreState p == 0 && s.sch.migration.isNone then s.migrate p q false else s

theorem spareCore_setCacheErrs (l : List Tai) : (s.setCacheErrs p l).spareCore = s.spareCore := by
  simp only [State.spareCore, coreState_setCacheErrs]

theorem spareCore_eq_none (h : ∀ q, q < 9 → s.coreState q ≠ 1) : s.spareCore = none := by
  rw [State.spareCore, List.find?_eq_none]
  exact fun q hq => by simpa using h q (List.mem_range.mp hq)

theorem spareCore_eq_some {q : Nat} (hq : q < 9) (hstate : s.coreState q = 1) (hlow : ∀ r, r < q → s.coreState r ≠ 1) :
    s.spareCore = some q := by
  rw [State.spareCore, List.find?_range_eq_some]
  exact ⟨by simp [hstate], List.mem_range.mpr hq, fun r hr => by simpa using hlow r hr⟩

/-- The first error of an hour. -/
theorem exec_coreCacheError_first (hnone : alookup p s.pace.cacheErrs = none) :
    exec (.coreCacheError p false) s = .next (s.setCacheErrs p [s.time.elapsed]) := by
  show execCoreCacheError p false s = _
  simp [execCoreCacheError, hnone, State.setCacheErrs]

/-- An error that makes the core faulty: an uncorrectable one, or the third within an hour. -/
theorem exec_coreCacheError_fault {e : Bool} (he : e = true ∨ ∃ a b, alookup p s.pace.cacheErrs = some [a, b] ∧
      s.time.elapsed < a + 3600 * secUnit ∧ s.time.elapsed < b + 3600 * secUnit) :
    exec (.coreCacheError p e) s = .next ((s.setCacheErrs p []).coreFault p) := by
  show execCoreCacheError p e s = _
  cases e with
  | true => rfl
  | false =>
    obtain h | ⟨a, b, hab, ha, hb⟩ := he
    · exact absurd h nofun
    · have hrecent : [a, b].filter (fun t => decide (s.time.elapsed < t + 3600 * secUnit)) = [a, b] := by simp [ha, hb]
      simp only [execCoreCacheError, hab, Option.getD_some, hrecent]
      rfl

/-! ### A migration begins (R451) -/

theorem moves_startMigration (s : State) (m : Migration) : Moves [.sch] s { s with sch := { s.sch with migration := some m } } :=
  Moves.upd rfl rfl rfl rfl (Moves.refl _ s) (h22 := .inl rfl)

/-- A shared register that is not a core's own copy. -/
theorem ne_shared {f g : Fld} (hf : f.perReq = true) (hg : g.key < bankSpan) (p : Nat) :
    ∀ h, h = g → (f.of (.core p)).key ≠ h.key ∨ (f.of (.core p)).dom ≠ h.dom := by
  rintro _ rfl
  exact .inl (coreCopy_ne_shared hf hg p)

/-- FROM drains, and the migration stands with it. -/
theorem migrate_holds (h : s.filesOk = true) {a b : Nat} {retain : Bool} (ha : a < 9) (hb : b < 9) (hfrom : s.coreState a = 0)
    (hto : s.coreState b = 1) (hnone : s.sch.migration = none) :
    (s.migrate a b retain).sch.migration = some { fromCore := a, toCore := b, retain := retain, at_ := s.time.elapsed } ∧
      (s.migrate a b retain).coreState a = 2 := by
  rw [State.migrate, if_pos ⟨hfrom, ha, hb, hto, by simp [hnone]⟩]
  extract_lets _ s1 _ s2 _ s3 _
  suffices hdone : ∀ v, CoresOnly s1 v → Spares (· = Reg.SCH_CORE_STATUS.STATE) (s1.setCoreState a 2) v →
      v.sch.migration = some { fromCore := a, toCore := b, retain := retain, at_ := s.time.elapsed } ∧ v.coreState a = 2 by
    have hcores2 : CoresOnly s1 s2 := (((CoresOnly.refl s1).set ..).set ..).setCore ..
    have hspares2 : Spares (· = Reg.SCH_CORE_STATUS.STATE) (s1.setCoreState a 2) s2 :=
      ((Spares.refl _ _).set (f := Reg.SCH_CORE_STATUS.RESULT) (by rintro _ rfl; exact .inl (by decide))).moves (moves_setCore ..) rfl
    have hstalled : Spares (· = Reg.SCH_CORE_STATUS.STATE) s2 (s2.answerWork a 0 false 5 0) := by
      unfold State.answerWork
      exact ((((Spares.refl _ s2).set (ne_shared rfl (by decide) a)).setFlag (ne_shared rfl (by decide) a)).set
        (ne_shared rfl (by decide) a)).set (ne_shared rfl (by decide) a)
    have hraised : Spares (· = Reg.SCH_CORE_STATUS.STATE) s2 s3 :=
      Spares.ite (Spares.refl _ s2) (((Spares.refl _ s2).moves (moves_setCore ..) rfl).setFlag (ne_shared rfl (by decide) a))
    split
    · refine hdone _ ((hcores2.trans ?_).setCore ..) ((hspares2.trans hstalled).moves (moves_setCore ..) rfl)
      rw [CoresOnly, answerWork_sch]
    · split
      · exact hdone _ ((hcores2.trans (raisePreempt_cores ..)).setCore ..) ((hspares2.trans hraised).moves (moves_setCore ..) rfl)
      · exact hdone _ hcores2 hspares2
  intro v hcores hspares
  refine ⟨hcores.migration, ?_⟩
  rw [State.coreState, hspares.get_eq _ rfl]
  exact coreState_setCoreState ((moves_startMigration s _).files h) ha 2

section
variable {e : Bool} (he : e = true ∨ ∃ a b, alookup p s.pace.cacheErrs = some [a, b] ∧
  s.time.elapsed < a + 3600 * secUnit ∧ s.time.elapsed < b + 3600 * secUnit)
include he

theorem goes_coreCacheError_noSpare (h : s.filesOk = true) (hnone : ∀ q, q < 9 → s.coreState q ≠ 1) :
    Goes (.coreCacheError p e) s fun v => v.flag Reg.PACE_IRQ.CORE_FAULT = true := by
  refine ⟨_, exec_coreCacheError_fault he, ?_⟩
  simp only [State.coreFault, spareCore_setCacheErrs, spareCore_eq_none hnone]
  exact flag_irq ((moves_setCacheErrs ..).files h) rfl ..

theorem goes_coreCacheError_migrates (h : s.filesOk = true) {q : Nat} (hq : q < 9) (hstate : s.coreState q = 1)
    (hlow : ∀ r, r < q → s.coreState r ≠ 1)
    (hauto : s.flag Reg.PACE_CTL.AUTO_CORE = true) (hp : p < 9) (hfrom : s.coreState p = 0) (hmig : s.sch.migration = none) :
    Goes (.coreCacheError p e) s fun v => v.sch.migration.map (fun m => (m.fromCore, m.toCore, m.retain)) = some (p, q, false) ∧
      v.coreState p = 2 := by
  have hauto' : (s.setCacheErrs p []).flag Reg.PACE_CTL.AUTO_CORE = true :=
    (flag_eq_of_get_eq (get_moves (moves_setCacheErrs ..) rfl _)).trans hauto
  have hmig' : (s.setCacheErrs p []).sch.migration = none := hmig
  obtain ⟨hmigration, hdrains⟩ := migrate_holds (retain := false) ((moves_setCacheErrs s p []).files h) hp hq
    ((coreState_setCacheErrs [] p).trans hfrom) ((coreState_setCacheErrs [] q).trans hstate) hmig'
  refine ⟨_, exec_coreCacheError_fault he, ?_⟩
  simp only [State.coreFault, spareCore_setCacheErrs, spareCore_eq_some hq hstate hlow]
  rw [if_pos (by simp [hauto', hp, coreState_setCacheErrs, hfrom, hmig'])]
  exact ⟨by rw [hmigration]; rfl, hdrains⟩

theorem goes_coreCacheError_manual {q : Nat} (hq : q < 9) (hstate : s.coreState q = 1) (hlow : ∀ r, r < q → s.coreState r ≠ 1)
    (hauto : s.flag Reg.PACE_CTL.AUTO_CORE = false) :
    Goes (.coreCacheError p e) s fun v => alookup p v.pace.cacheErrs = some [] ∧ Keeps [] [.pace] s v := by
  have hauto' : (s.setCacheErrs p []).flag Reg.PACE_CTL.AUTO_CORE = false :=
    (flag_eq_of_get_eq (get_moves (moves_setCacheErrs ..) rfl _)).trans hauto
  refine ⟨_, exec_coreCacheError_fault he, ?_⟩
  simp only [State.coreFault, spareCore_setCacheErrs, spareCore_eq_some hq hstate hlow]
  rw [if_neg (by simp [hauto'])]
  exact ⟨cacheErrs_setCacheErrs [], setCacheErrs_keeps []⟩

end

end

/-! ### Errors of the Carafe (R535, R536) -/

section
variable {s : State} {row : Nat}

theorem remapRow_remaps (hnew : row ∉ s.nvs.remap) (hroom : s.nvs.remap.length + s.pace.remapping.length < 4096) :
    row ∈ (s.remapRow row).pace.remapping := by
  by_cases hrow : row ∈ s.pace.remapping
  · rwa [State.remapRow, if_pos (.inr (.inl hrow))]
  · rw [State.remapRow, if_neg (by simp [hnew, hrow, Nat.not_le.mpr hroom])]
    exact List.mem_append_right _ (List.mem_singleton_self row)

/-- The recent errors of a row. -/
def State.setRowErrs (s : State) (row : Nat) (l : List Tai) : State := { s with pace := { s.pace with rowErrs := aset row l s.pace.rowErrs } }

theorem moves_setRowErrs (s : State) (row : Nat) (l : List Tai) : Moves [.pace] s (s.setRowErrs row l) :=
  Moves.upd rfl rfl rfl rfl (Moves.refl _ s) (h21 := .inl rfl)

/-- The errors of a row within the last day, with the present one. -/
def State.rowRecent (s : State) (row : Nat) : List Tai :=
  s.time.elapsed :: ((alookup row s.pace.rowErrs).getD []).filter fun t => decide (s.time.elapsed < t + 86400 * secUnit)

/-- A correctable error is counted; the eighth of a row within a day gives the row up. -/
theorem exec_carafeEccError_correctable (place : CarafePlace) : exec (.carafeEccError place row false) s = .next (
    if 8 ≤ (s.rowRecent row).length then ((s.count Reg.CRF.CE).setRowErrs row (s.rowRecent row)).remapRow row
    else (s.count Reg.CRF.CE).setRowErrs row (s.rowRecent row)) := by
  have hpace : (s.count Reg.CRF.CE).pace = s.pace := State.set_pace ..
  show execCarafeEccError place row false s = _
  simp only [execCarafeEccError, Bool.false_eq_true, if_false, State.setRowErrs, State.rowRecent, hpace]

theorem goes_carafeEccError_first (h : s.filesOk = true) (place : CarafePlace) (hnone : alookup row s.pace.rowErrs = none) :
    Goes (.carafeEccError place row false) s fun v => Counted Reg.CRF.CE s v ∧ alookup row v.pace.rowErrs = some [s.time.elapsed] ∧
      Keeps [Reg.CRF.CE] [.pace] s v := by
  have hrecent : s.rowRecent row = [s.time.elapsed] := by simp [State.rowRecent, hnone]
  refine ⟨_, exec_carafeEccError_correctable place, ?_⟩
  rw [if_neg (by simp [hrecent]), hrecent]
  refine ⟨(get_moves (moves_setRowErrs ..) rfl _).trans (counted_count h _), alookup_aset_self .., ?_⟩
  exact ((Keeps.refl _ _ s).count (List.mem_singleton_self _)).moves (moves_setRowErrs ..) rfl

theorem goes_carafeEccError_eighth (h : s.filesOk = true) (place : CarafePlace) (hnew : row ∉ s.nvs.remap)
    (hroom : s.nvs.remap.length + s.pace.remapping.length < 4096) {l : List Tai} (hl : alookup row s.pace.rowErrs = some l)
    (hseven : 7 ≤ (l.filter fun x => decide (s.time.elapsed < x + 86400 * secUnit)).length) :
    Goes (.carafeEccError place row false) s fun v => Counted Reg.CRF.CE s v ∧ row ∈ v.pace.remapping := by
  have hrecent : 8 ≤ (s.rowRecent row).length := by
    rw [State.rowRecent, hl]
    exact Nat.succ_le_succ hseven
  have hmove : Moves [.files, .pace] s ((s.count Reg.CRF.CE).setRowErrs row (s.rowRecent row)) :=
    Moves.step (moves_setRowErrs ..) rfl (Moves.step (moves_count ..) rfl (Moves.refl _ s))
  refine ⟨_, exec_carafeEccError_correctable place, ?_⟩
  rw [if_pos hrecent]
  refine ⟨(get_moves (moves_remapRow ..) rfl _).trans ((get_moves (moves_setRowErrs ..) rfl _).trans (counted_count h _)), ?_⟩
  have hnvs : ((s.count Reg.CRF.CE).setRowErrs row (s.rowRecent row)).nvs = s.nvs := hmove.touches.2 .nvs rfl
  have hcounted : (s.count Reg.CRF.CE).pace = s.pace := State.set_pace ..
  have hpace : ((s.count Reg.CRF.CE).setRowErrs row (s.rowRecent row)).pace.remapping = s.pace.remapping := by
    rw [State.setRowErrs, hcounted]
  exact remapRow_remaps (by rwa [hnvs]) (by rwa [hnvs, hpace])

/-- What an uncorrectable error shows of itself: its counter and its interrupt. -/
def EccView (g : Fld) : Prop := g = Reg.CRF.UE ∨ g = Reg.CRF_IRQ.UE

theorem ne_eccView {f : Fld} (hk : f.key ≠ Reg.CRF.UE.key ∧ f.key ≠ Reg.CRF_IRQ.UE.key) :
    ∀ g, EccView g → f.key ≠ g.key ∨ f.dom ≠ g.dom := by
  rintro g (rfl | rfl)
  · exact .inl hk.1
  · exact .inl hk.2

/-- What the error does to the data read leaves its own registers alone. -/
theorem spares_lostRead (s : State) (place : CarafePlace) : Spares EccView s (s.lostRead place) := by
  cases place with
  | tile region copy tile =>
    have hmark : Spares EccView s (s.markCopy region copy tile true) := (Spares.refl _ s).moves (moves_markCopy ..) rfl
    refine hmark.ofKeeps (health_keeps _ 4 _) fun g hg f hf => ?_
    obtain rfl := List.mem_singleton.mp hf
    exact (ne_eccView (by decide) g hg).imp Ne.symm Ne.symm
  | history n u =>
    unfold State.lostRead
    dsimp only
    split
    · exact (Spares.refl _ s).moves (moves_setSlice ..) rfl
    · exact Spares.refl _ s
  | capture slot wave slices =>
    unfold State.lostRead
    dsimp only
    split
    · next x _ =>
      unfold State.capLost
      have hcount := (((Spares.refl EccView s).moves (moves_setCap s slot (x.lostParts wave slices)) rfl).count (n := slices.length)
        (f := Reg.CAP.SLICE_LOST) (ne_eccView (by decide))).count (n := wave.length) (f := Reg.CAP.WAVE_LOST) (ne_eccView (by decide))
      exact Spares.ite hcount (hcount.irq (ne_eccView (by decide)))
    · exact Spares.refl _ s
  | heap => exact (Spares.refl _ s).moves (moves_emit ..) rfl
  | other => exact Spares.refl _ s

/-- An uncorrectable error as it is counted, logged and raised. -/
def State.eccNoted (s : State) : State := ((s.count Reg.CRF.UE).log (evCode 23 0) 0 []).irq Reg.CRF_IRQ.UE Reg.CRF_IRQ_MASK.MASK 3

theorem moves_eccNoted (s : State) : Moves [.files, .out, .evr] s s.eccNoted :=
  Moves.step (moves_irq ..) rfl (Moves.step (moves_log ..) rfl (Moves.step (moves_count ..) rfl (Moves.refl _ s)))

theorem eccNoted_holds (h : s.filesOk = true) : Counted Reg.CRF.UE s s.eccNoted ∧ s.eccNoted.flag Reg.CRF_IRQ.UE = true := by
  have hlogged : ((s.count Reg.CRF.UE).log (evCode 23 0) 0 []).filesOk = true := (moves_log ..).files ((moves_count ..).files h)
  have hkeeps : Keeps (Reg.CRF_IRQ.UE :: logFields (evCode 23 0)) [.out, .evr] (s.count Reg.CRF.UE) s.eccNoted :=
    Keeps.irq List.mem_cons_self rfl (Keeps.log (fun f hf => List.mem_cons_of_mem _ hf) rfl rfl (Keeps.refl _ _ _))
  exact ⟨(hkeeps.get (by decide)).trans (counted_count h _), flag_irq hlogged rfl ..⟩

theorem goes_carafeEccError_uncorrectable (h : s.filesOk = true) (place : CarafePlace) :
    Goes (.carafeEccError place row true) s fun v => Counted Reg.CRF.UE s v ∧ v.flag Reg.CRF_IRQ.UE = true ∧
      (place = .heap → Output.busError ∈ v.out) ∧
      (row ∉ s.nvs.remap → s.nvs.remap.length + s.pace.remapping.length < 4096 → row ∈ v.pace.remapping) := by
  obtain ⟨hcount, hflag⟩ := eccNoted_holds h
  have hspares : Spares EccView s.eccNoted ((s.eccNoted.lostRead place).remapRow row) :=
    (spares_lostRead ..).moves (moves_remapRow ..) rfl
  have hmove : Moves [.files, .out, .pins, .roasts, .evr, .aln, .cap] s (s.eccNoted.lostRead place) :=
    Moves.step (moves_lostRead ..) rfl (Moves.step (moves_eccNoted s) rfl (Moves.refl _ s))
  have hnvs : (s.eccNoted.lostRead place).nvs = s.nvs := hmove.touches.2 .nvs rfl
  have hpace : (s.eccNoted.lostRead place).pace = s.pace := hmove.touches.2 .pace rfl
  have hexec : exec (.carafeEccError place row true) s = .next ((s.eccNoted.lostRead place).remapRow row) := rfl
  refine ⟨_, hexec, (hspares.get_eq _ (.inl rfl)).trans hcount, (hspares.flag (.inr rfl)).trans hflag, ?_, fun hnew hroom => ?_⟩
  · rintro rfl
    have hout : ((s.eccNoted.lostRead .heap).remapRow row).out = (s.eccNoted.lostRead .heap).out := (moves_remapRow ..).touches.2 .out rfl
    exact hout ▸ List.mem_cons_self
  · exact remapRow_remaps (by rwa [hnvs]) (by rwa [hnvs, hpace])

/-- A copied row leaves the rows being copied and enters the table. -/
def State.serveRow (s : State) (row : Nat) : State := { s with
  pace := { s.pace with remapping := s.pace.remapping.filter (· != row) }, nvs := { s.nvs with remap := s.nvs.remap ++ [row] } }

theorem showRemap_keeps (s : State) :
    Keeps [Reg.CRF_STATUS.REMAP_USED, Reg.CRF_STATUS.REMAP_FULL, Reg.CRF_STATUS.PPR_PENDING] [] s s.showRemap :=
  (((Keeps.refl _ _ s).set (by simp)).setFlag (by simp)).setFlag (by simp)

/-- The row is served from its spare. -/
theorem goes_rowRemapCopyDone (h : s.filesOk = true) (hrow : row ∈ s.pace.remapping) :
    Goes (.rowRemapCopyDone row) s fun v => row ∈ v.nvs.remap ∧ row ∉ v.pace.remapping ∧ Counted Reg.CRF.REMAPS s v := by
  have hexec : exec (.rowRemapCopyDone row) s = .next
      (((s.serveRow row).showRemap.count Reg.CRF.REMAPS).irq Reg.CRF_IRQ.REMAP Reg.CRF_IRQ_MASK.MASK 3) := by
    show execRowRemapCopyDone row s = _
    rw [execRowRemapCopyDone, if_pos hrow]
    rfl
  have hshown := moves_showRemap (s.serveRow row)
  have hmove : Moves [.files, .out] (s.serveRow row)
      (((s.serveRow row).showRemap.count Reg.CRF.REMAPS).irq Reg.CRF_IRQ.REMAP Reg.CRF_IRQ_MASK.MASK 3) :=
    Moves.step (moves_irq ..) rfl (Moves.step (moves_count ..) rfl (Moves.step hshown rfl (Moves.refl _ _)))
  have hraised (v : State) : Keeps [Reg.CRF_IRQ.REMAP] [.out] v (v.irq Reg.CRF_IRQ.REMAP Reg.CRF_IRQ_MASK.MASK 3) :=
    (Keeps.refl _ _ v).irq (List.mem_singleton_self _) rfl
  refine ⟨_, hexec, ?_, ?_, ?_⟩
  · rw [hmove.touches.2 .nvs rfl]
    exact List.mem_append_right _ (List.mem_singleton_self row)
  · rw [hmove.touches.2 .pace rfl]
    simp [State.serveRow]
  · have hcount : Counted Reg.CRF.REMAPS (s.serveRow row) ((s.serveRow row).showRemap.count Reg.CRF.REMAPS) :=
      (counted_count (hshown.files h) _).after ((showRemap_keeps _).get (by decide))
    exact ((hraised _).get (by decide)).trans (hcount.after rfl)

end

theorem goes_junctionTemperatureChange {s : State} (h : s.filesOk = true) (temp : Int) :
    Goes (.junctionTemperatureChange temp) s fun v => v.env.junction = temp ∧ v.bit Reg.BOOT_HEALTH.COND 7 = decide (temp ≤ 110000) := by
  refine ⟨_, rfl, ?_, health_bit (by exact h) (by decide) _⟩
  rw [(moves_health _ 7 _).touches.2 .env rfl]

/-- Settles O55: each of the monitor's instants is one shared operation of its own, and what it shows is what that operation writes. -/
theorem paceAndCarafe : Obligations.PaceAndCarafe := by
  unfold Obligations.PaceAndCarafe
  rintro s _ who t h rfl
  refine ⟨fun loops => goes_replicaWindow h.1 t loops, fun mv a hreq hmv => ⟨goes_avsRequestDone h.1 hreq hmv, fun hlate =>
    goes_avsTimeout h.1 hreq hlate⟩, fun mv hfail => goes_avsRetry h hfail, fun x hx => ?sweep, fun p => ?cache, fun row place => ?carafe,
    fun temp => goes_junctionTemperatureChange h.1 temp⟩
  case sweep =>
    exact ⟨goes_sweepRetire_spare h hx, goes_sweepRetire_active h hx, exec_sweepRetire_retired h hx, goes_sweepRestore h hx,
      exec_sweepRestore_unretired h hx⟩
  case cache =>
    refine ⟨fun hnone => ⟨_, exec_coreCacheError_first hnone, cacheErrs_setCacheErrs _, setCacheErrs_keeps _⟩, fun e he =>
      ⟨goes_coreCacheError_noSpare he h.1, fun q hq hstate hlow => ?_⟩⟩
    exact ⟨goes_coreCacheError_migrates he h.1 hq hstate hlow, goes_coreCacheError_manual he hq hstate hlow⟩
  case carafe =>
    exact ⟨goes_carafeEccError_first h.1 place, fun hnew hroom l hl hseven => goes_carafeEccError_eighth h.1 place hnew hroom hl hseven,
      goes_carafeEccError_uncorrectable h.1 place, goes_rowRemapCopyDone h.1⟩

end Sys2Proof.Machine

namespace Sys2Proof.Machine

/-! ### The hash of an address has nine bits (R154) -/

theorem crc32Bit_lt {c : Nat} (h : c < 2 ^ 32) : crc32Bit c < 2 ^ 32 := by
  unfold crc32Bit
  split
  · exact Nat.xor_lt_two_pow (by omega) (by norm_num)
  · omega

theorem crc32Byte_lt {c : Nat} (h : c < 2 ^ 32) (b : Byte) : crc32Byte c b < 2 ^ 32 := by
  have hbyte : b.toNat < 2 ^ 32 := b.isLt.trans (by norm_num)
  exact crc32Bit_lt (crc32Bit_lt (crc32Bit_lt (crc32Bit_lt (crc32Bit_lt (crc32Bit_lt (crc32Bit_lt (crc32Bit_lt
    (Nat.xor_lt_two_pow h hbyte))))))))

theorem hashBin_lt (da : Bytes) : hashBin da < 512 := by
  have hcrc : crc32 da < 2 ^ 32 := by
    refine Nat.xor_lt_two_pow ?_ (by norm_num)
    exact List.foldlRecOn (motive := fun c => c < 2 ^ 32) da _ (by norm_num) fun c hc b _ => crc32Byte_lt hc b
  rw [hashBin]
  omega

/-! ### What the counters of a frame's arrival leave alone (R153)

A port's configuration, its rings and its status stand below its counters in the port's register block. -/

/-- A field below the counters of a port's register block, or of another block of that size. -/
def RxConfig (g : Fld) : Prop := g.key % 0x80000 < 0x8000

theorem rxConfig_ix {f : Fld} (hd : f.dims = [(7, 0x10000)]) (hk : f.key % 0x80000 < 0x8000) (p : Nat) : RxConfig (f.ix p) := by
  rw [RxConfig, Fld.key_ix hd]
  omega

theorem rxConfig_ix2 {f : Fld} {n st : Nat} (hd : f.dims = [(7, 0x10000), (n, st)]) (hk : f.key % 0x80000 + 8 * (n * st) < 0x8000) (p : Nat)
    {j : Nat} (hj : j < n) : RxConfig (f.ix2 p j) := by
  have hinner : (f.ix p).dims = [(n, st)] := by rw [Fld.ix, hd]
  have hle : j * st ≤ n * st := Nat.mul_le_mul_right st hj.le
  rw [RxConfig, Fld.ix2, Fld.key_ix hinner, Fld.key_ix hd]
  omega

/-- A counter of a port. -/
theorem ne_rxConfig {f : Fld} (hd : f.dims = [(7, 0x10000)]) (hk : 0x8000 ≤ f.key % 0x80000) (p : Nat) :
    ∀ g, RxConfig g → (f.ix p).key ≠ g.key ∨ (f.ix p).dom ≠ g.dom := by
  intro g hg
  rw [RxConfig] at hg
  rw [Fld.key_ix hd]
  omega

/-- Entry `k` of a port's unicast table is an address. -/
def State.ucastHit (s : State) (p : Nat) (da : Bytes) (k : Nat) : Bool :=
  s.flag (Reg.MAC_UCAST_HI.EN.ix2 p k) && s.get (Reg.MAC_UCAST_HI.ADDR_HI.ix2 p k) == (addrWords da).1 &&
    s.get (Reg.MAC_UCAST_LO.ADDR_LO.ix2 p k) == (addrWords da).2

/-- Entry `k` of a port's VLAN table is a VLAN. -/
def State.vidHit (s : State) (p vid k : Nat) : Bool := s.flag (Reg.MAC_VID.EN.ix2 p k) && s.get (Reg.MAC_VID.VID.ix2 p k) == vid

/-- Entry `k` of a port's stream table is a datagram's. -/
def State.udpHit (s : State) (p : Nat) (u : UdpView) (bs : Bytes) (k : Nat) : Bool :=
  s.flag (Reg.MAC_STREAM_UDP.EN.ix2 p k) && s.get (Reg.MAC_STREAM_UDP.PORT.ix2 p k) == u.port bs &&
    (if u.v6 then s.flag (Reg.MAC_STREAM_UDP.V6.ix2 p k) else s.flag (Reg.MAC_STREAM_UDP.V4.ix2 p k))

section
variable {s t : State}

theorem range_any_congr {n : Nat} {f g : Nat → Bool} (h : ∀ k, k < n → f k = g k) : (List.range n).any f = (List.range n).any g := by
  rw [Bool.eq_iff_iff, List.any_eq_true, List.any_eq_true]
  exact exists_congr fun k => and_congr_right fun hk => by rw [h k (List.mem_range.mp hk)]

theorem Spares.bit {P : Fld → Prop} (h : Spares P s t) {g : Fld} (hg : P g) (k : Nat) : t.bit g k = s.bit g k := by
  rw [State.bit, State.bit, h.get_eq g hg]

section
variable (h : Spares RxConfig s t)
include h

theorem redMode_of_spares : t.redMode = s.redMode := h.get_eq _ (by unfold RxConfig; decide)

theorem addrFilter_of_spares (p : Nat) (bs : Bytes) : t.addrFilter p bs = s.addrFilter p bs := by
  have hbin : hashBin (dstOf bs) / 32 < 16 := by
    have := hashBin_lt (dstOf bs)
    omega
  have hbcast := h.flag (rxConfig_ix (f := Reg.MAC_FILT_CFG.BCAST) rfl (by decide) p)
  have hpromisc := h.flag (rxConfig_ix (f := Reg.MAC_FILT_CFG.PROMISC) rfl (by decide) p)
  have hgroup := h.flag (rxConfig_ix (f := Reg.MAC_FILT_CFG.ALLGROUP) rfl (by decide) p)
  have hhash := h.bit (rxConfig_ix2 (f := Reg.MAC_HASH.BINS) rfl (by decide) p hbin) (hashBin (dstOf bs) % 32)
  have hown : ((List.range 16).any fun k => t.ucastHit p (dstOf bs) k) = (List.range 16).any fun k => s.ucastHit p (dstOf bs) k :=
    range_any_congr fun k hk => by
      simp only [State.ucastHit, h.flag (rxConfig_ix2 (f := Reg.MAC_UCAST_HI.EN) rfl (by decide) p hk),
        h.get_eq _ (rxConfig_ix2 (f := Reg.MAC_UCAST_HI.ADDR_HI) rfl (by decide) p hk),
        h.get_eq _ (rxConfig_ix2 (f := Reg.MAC_UCAST_LO.ADDR_LO) rfl (by decide) p hk)]
  simp only [State.ucastHit] at hown
  simp only [State.addrFilter, hbcast, hpromisc, hgroup, hhash, hown]

theorem vlanFilter_of_spares (p : Nat) (bs : Bytes) : t.vlanFilter p bs = s.vlanFilter p bs := by
  have hmode := h.flag (rxConfig_ix (f := Reg.MAC_VLAN_CFG.MODE) rfl (by decide) p)
  have hvid : ((List.range 16).any fun k => t.vidHit p (viewOf bs).vid k) = (List.range 16).any fun k => s.vidHit p (viewOf bs).vid k :=
    range_any_congr fun k hk => by
      simp only [State.vidHit, h.flag (rxConfig_ix2 (f := Reg.MAC_VID.EN) rfl (by decide) p hk),
        h.get_eq _ (rxConfig_ix2 (f := Reg.MAC_VID.VID) rfl (by decide) p hk)]
  simp only [State.vidHit] at hvid
  simp only [State.vlanFilter, hmode, hvid]

theorem streamUdp_of_spares (p : Nat) (bs : Bytes) : t.streamUdp p bs = s.streamUdp p bs := by
  unfold State.streamUdp
  cases udpOf bs with
  | none => rfl
  | some u =>
    have hfind : (List.range 8).find? (fun k => t.udpHit p u bs k) = (List.range 8).find? fun k => s.udpHit p u bs k :=
      List.find?_congr fun k hk => by
        have hlt := List.mem_range.mp hk
        simp only [State.udpHit, h.flag (rxConfig_ix2 (f := Reg.MAC_STREAM_UDP.EN) rfl (by decide) p hlt),
          h.get_eq _ (rxConfig_ix2 (f := Reg.MAC_STREAM_UDP.PORT) rfl (by decide) p hlt),
          h.flag (rxConfig_ix2 (f := Reg.MAC_STREAM_UDP.V6) rfl (by decide) p hlt),
          h.flag (rxConfig_ix2 (f := Reg.MAC_STREAM_UDP.V4) rfl (by decide) p hlt)]
    simp only [State.udpHit] at hfind
    dsimp only
    rw [hfind]

theorem classify_of_spares (p : Nat) (bs : Bytes) : t.classify p bs = s.classify p bs := by
  have hptp := h.get_eq _ (rxConfig_ix (f := Reg.MAC_CLASS_CFG.PTP_RING) rfl (by decide) p)
  have hgroup := h.get_eq _ (rxConfig_ix (f := Reg.MAC_CLASS_CFG.GROUP_RING) rfl (by decide) p)
  have hother := h.get_eq _ (rxConfig_ix (f := Reg.MAC_CLASS_CFG.OTHER_RING) rfl (by decide) p)
  have hsv := h.flag (rxConfig_ix (f := Reg.MAC_CLASS_CFG.SV_EN) rfl (by decide) p)
  have hgoose := h.flag (rxConfig_ix (f := Reg.MAC_CLASS_CFG.GOOSE_EN) rfl (by decide) p)
  simp only [State.classify, hptp, hgroup, hother, hsv, hgoose, streamUdp_of_spares h p bs]

section
variable (p : Nat) {k : Nat} (hk : k < 4)
include hk

theorem rxBlockRuns_of_spares : t.blockRuns (.ring (.rx p k)) = s.blockRuns (.ring (.rx p k)) := by
  have hen := h.flag (rxConfig_ix2 (f := Reg.MAC_RXRING.EN) rfl (by decide) p hk)
  have hbusy := h.flag (rxConfig_ix2 (f := Reg.MAC_RXRING.BUSY) rfl (by decide) p hk)
  have hpend := h.flag (rxConfig_ix2 (f := Reg.MAC_RXRING.PEND) rfl (by decide) p hk)
  simp only [State.blockRuns, Block.en, Block.busy, Block.pend, Ring.fld, hen, hbusy, hpend]

theorem rxRingN_of_spares : t.ringN (.rx p k) = s.ringN (.rx p k) := by
  have hsize := h.get_eq _ (rxConfig_ix2 (f := Reg.MAC_RXRING.SIZE_LOG2) rfl (by decide) p hk)
  simp only [State.ringN, Ring.size, Ring.fld, hsize]

theorem rxHead_of_spares : t.get (Ring.rx p k).head = s.get (Ring.rx p k).head :=
  h.get_eq _ (rxConfig_ix2 (f := Reg.MAC_RXRING.HEAD) rfl (by decide) p hk)

theorem rxAvail_of_spares : t.ringAvail (.rx p k) = s.ringAvail (.rx p k) := by
  have htail := h.get_eq _ (rxConfig_ix2 (f := Reg.MAC_RXRING.TAIL) rfl (by decide) p hk)
  rw [State.ringAvail, State.ringAvail, rxRingN_of_spares h p hk, rxHead_of_spares h p hk]
  simp only [Ring.tail, Ring.fld, htail]

theorem rxHost_of_spares : t.ringHost (.rx p k) = s.ringHost (.rx p k) :=
  h.flag (rxConfig_ix2 (f := Reg.MAC_RXRING.OWNER) rfl (by decide) p hk)

end

end

end

/-! ### A frame's arrival is counted -/

section
variable {u : State} {p : Nat} {f : RxFrame}

/-- The state with a frame's codewords and fragments counted. -/
def State.rxArrived (s : State) (p : Nat) (f : RxFrame) : State := (s.fecCount p f).count (Reg.MAC.RX_FRAG.ix p) f.fragments

/-- The state with a good frame counted. -/
def State.rxCounted (s : State) (p : Nat) (f : RxFrame) : State :=
  ((s.rxArrived p f).count (Reg.MAC.RX_FRAMES.ix p)).count (Reg.MAC.RX_OCTETS.ix p) (f.bytes.length + 4)

theorem fecCount_keeps (s : State) (p : Nat) (f : RxFrame) :
    Keeps [Reg.MAC.FEC_CORRECTED.ix p, Reg.MAC.FEC_UNCORRECTABLE.ix p] [] s (s.fecCount p f) := by
  unfold State.fecCount
  exact Keeps.ite (((Keeps.refl _ _ s).count (by simp)).count (by simp)) (Keeps.refl _ _ s)

theorem fecCount_spares (s : State) (p : Nat) (f : RxFrame) : Spares RxConfig s (s.fecCount p f) := by
  unfold State.fecCount
  exact Spares.ite (((Spares.refl _ s).count (ne_rxConfig rfl (by decide) p)).count (ne_rxConfig rfl (by decide) p)) (Spares.refl _ s)

theorem rxArrived_keeps (s : State) (p : Nat) (f : RxFrame) :
    Keeps [Reg.MAC.FEC_CORRECTED.ix p, Reg.MAC.FEC_UNCORRECTABLE.ix p, Reg.MAC.RX_FRAG.ix p] [] s (s.rxArrived p f) :=
  Keeps.count (by simp) ((fecCount_keeps s p f).mono (by simp) (by simp))

theorem rxArrived_spares (s : State) (p : Nat) (f : RxFrame) : Spares RxConfig s (s.rxArrived p f) :=
  (fecCount_spares s p f).count (ne_rxConfig rfl (by decide) p)

theorem rxArrived_files {s : State} (h : s.filesOk = true) : (s.rxArrived p f).filesOk = true :=
  (moves_count ..).files ((moves_fecCount ..).files h)

theorem rxCounted_spares (s : State) (p : Nat) (f : RxFrame) : Spares RxConfig s (s.rxCounted p f) :=
  ((rxArrived_spares s p f).count (ne_rxConfig rfl (by decide) p)).count (ne_rxConfig rfl (by decide) p)

theorem rxCounted_files {s : State} (h : s.filesOk = true) : (s.rxCounted p f).filesOk = true :=
  (moves_count ..).files ((moves_count ..).files (rxArrived_files h))

/-- A counter of a port but those of codewords and fragments. -/
abbrev NotArrival (c : Fld) : Prop := c.dims.head? = some (7, 0x10000) ∧ c.key ≠ Reg.MAC.FEC_CORRECTED.key ∧
  c.key ≠ Reg.MAC.FEC_UNCORRECTABLE.key ∧ c.key ≠ Reg.MAC.RX_FRAG.key

/-- One that a good frame's arrival leaves alone. -/
abbrev NotCounted (c : Fld) : Prop := NotArrival c ∧ c.key ≠ Reg.MAC.RX_FRAMES.key ∧ c.key ≠ Reg.MAC.RX_OCTETS.key

theorem rxArrived_get {c : Fld} (hc : NotArrival c) (s : State) : (s.rxArrived p f).get (c.ix p) = s.get (c.ix p) := by
  obtain ⟨hdims, hcorr, huncorr, hfrag⟩ := hc
  refine (rxArrived_keeps s p f).get fun g hg => .inl ?_
  simp only [List.mem_cons, List.not_mem_nil, or_false] at hg
  obtain rfl | rfl | rfl := hg
  · exact Fld.ix_ne p hcorr hdims
  · exact Fld.ix_ne p huncorr hdims
  · exact Fld.ix_ne p hfrag hdims

theorem rxCounted_get {c : Fld} (hc : NotCounted c) (s : State) : (s.rxCounted p f).get (c.ix p) = s.get (c.ix p) := by
  obtain ⟨harrival, hframes, hoctets⟩ := hc
  exact (State.get_set_ne (.inl (Fld.ix_ne p hoctets harrival.1).symm)).trans
    ((State.get_set_ne (.inl (Fld.ix_ne p hframes harrival.1).symm)).trans (rxArrived_get harrival s))

/-- A good frame is counted. -/
theorem rxCounted_counted {s : State} (h : s.filesOk = true) : Counted (Reg.MAC.RX_FRAMES.ix p) s (s.rxCounted p f) := by
  have hne : (Reg.MAC.RX_OCTETS.ix p).key ≠ (Reg.MAC.RX_FRAMES.ix p).key := Fld.ix_ne p (by decide) rfl
  have hsame : (s.rxArrived p f).get (Reg.MAC.RX_FRAMES.ix p) = s.get (Reg.MAC.RX_FRAMES.ix p) := rxArrived_get (by decide) s
  exact (State.get_set_ne (.inl hne)).trans ((counted_count (rxArrived_files h) _).after hsame)

/-- What comes after a good frame's counters leaves the count of frames. -/
theorem Counted.then {c : Fld} {s v t : State} (h : Counted c s v) (hc : t.get c = v.get c) : Counted c s t := hc.trans h

/-- A drop or kind of frame is counted beside the good frame. -/
theorem rxCounted_count {s : State} (h : s.filesOk = true) {c : Fld} (hc : NotCounted c) :
    Counted (c.ix p) s ((s.rxCounted p f).count (c.ix p)) ∧ Counted (Reg.MAC.RX_FRAMES.ix p) s ((s.rxCounted p f).count (c.ix p)) :=
  ⟨(counted_count (rxCounted_files h) _).after (rxCounted_get hc s),
    (rxCounted_counted h).then (State.get_set_ne (.inl (Fld.ix_ne p hc.2.1 hc.1.1)))⟩

end

/-! ### A bad frame on its way to an ingress queue (R153, R168) -/

/-- A field below the registers of the ingress queues. -/
def BelowIngress (g : Fld) : Prop := g.key < Reg.ING_Q_CTL.EN.key

theorem ne_belowIngress {f : Fld} (hk : Reg.ING_Q_CTL.EN.key ≤ f.key) (n : Nat) :
    ∀ g, BelowIngress g → (f.ix n).key ≠ g.key ∨ (f.ix n).dom ≠ g.dom :=
  fun _ hg => .inl (Fld.ix_above n (lt_of_lt_of_le hg hk)).symm

theorem spares_ingShow (s : State) (n : Nat) : Spares BelowIngress s (s.ingShow n) := by
  unfold State.ingShow
  extract_lets was now thr s1
  have hshown : Spares BelowIngress s s1 :=
    ((Spares.refl _ s).set (ne_belowIngress (by decide) n)).set (ne_belowIngress (by decide) n)
  exact Spares.ite ((hshown.setFlag (ne_belowIngress (by decide) n)).moves (moves_vector ..) rfl) hshown

theorem spares_ingAdmit (s : State) (n : Nat) (k : IngPacket) (started : Bool) : Spares BelowIngress s (s.ingAdmit n k started) := by
  have hset (v : State) (q : IngQueue) : Spares BelowIngress v (v.setIngQ n q) := (Spares.refl _ v).parts rfl rfl rfl
  have hwrite (v : State) (w : Nat) : Spares BelowIngress v (v.ingWrite n w) := (Spares.refl _ v).set (ne_belowIngress (by decide) n)
  unfold State.ingAdmit
  extract_lets need q k' s1 thr
  have hstored : Spares BelowIngress s s1 := ((hset ..).trans (hwrite ..)).trans (spares_ingShow ..)
  refine Spares.ite (hset ..) (Spares.ite ((Spares.refl _ s).count (ne_belowIngress (by decide) n)) (Spares.ite hstored
    (Spares.ite (hstored.count (ne_belowIngress (by decide) n)) (Spares.count (ne_belowIngress (by decide) n) ?_))))
  exact ((hstored.trans (hset ..)).set (ne_belowIngress (by decide) n)).trans (spares_ingShow ..)

theorem spares_rxPlace_bad (s : State) (p : Nat) (f : RxFrame) (bs : Bytes) : Spares BelowIngress s (s.rxPlace p f bs false) := by
  unfold State.rxPlace
  dsimp only
  cases s.classify (s.cfgPort p) bs with
  | ring k cls => exact Spares.refl _ s
  | queue cls idx => exact spares_ingAdmit ..

theorem spares_rxBad (s : State) (p : Nat) (f : RxFrame) : Spares BelowIngress s (s.rxBad p f) := by
  unfold State.rxBad
  exact Spares.ite (spares_rxPlace_bad ..) (Spares.refl _ s)

theorem belowIngress_counter {f : Fld} (hd : f.dims = [(7, 0x10000)]) (hk : f.key + 8 * (6 * 0x10000) < Reg.ING_Q_CTL.EN.key) {p : Nat}
    (hp : p < 7) : BelowIngress (f.ix p) := by
  rw [BelowIngress, Fld.key_ix hd]
  exact lt_of_le_of_lt (by omega) hk

/-! ### A good frame at its ring (R158, R160 to R164) -/

section
variable {s : State} {p k : Nat}

/-- What a delivery to a host-owned ring leaves alone: the counter of good frames and HEAD as it stands. -/
def RxShown (p k : Nat) (g : Fld) : Prop := g = Reg.MAC.RX_FRAMES.ix p ∨ g = (Ring.rx p k).head

theorem key_rxHead (p k : Nat) : (Ring.rx p k).head.key = Reg.MAC_RXRING.HEAD.key + 8 * (p * 0x10000) + 8 * (k * 0x20) := by
  have hinner : (Reg.MAC_RXRING.HEAD.ix p).dims = [(4, 0x20)] := rfl
  rw [Ring.head, Ring.fld, Fld.ix2, Fld.key_ix hinner, Fld.key_ix (f := Reg.MAC_RXRING.HEAD) rfl]

/-- The port's interrupts. -/
theorem ne_rxShown_irq (p k : Nat) : ∀ g, RxShown p k g →
    (Reg.MAC_IRQ.RXRING.ix p).key ≠ g.key ∨ (Reg.MAC_IRQ.RXRING.ix p).dom ≠ g.dom := by
  have hkeys : Reg.MAC_IRQ.RXRING.key < Reg.MAC_RXRING.HEAD.key := by decide
  rintro g (rfl | rfl)
  · exact .inl (Fld.ix_ne p (by decide) rfl)
  · left
    rw [key_rxHead, Fld.key_ix (f := Reg.MAC_IRQ.RXRING) rfl]
    omega

/-- An event of a host-owned ring is an interrupt. -/
theorem spares_rxEvent (hhost : s.ringHost (.rx p k) = true) : Spares (RxShown p k) s (s.ringEvent (.rx p k)) := by
  have hraise (v : State) (hv : v.ringHost (.rx p k) = true) : Spares (RxShown p k) v (v.ringRaise (.rx p k)) := by
    rw [State.ringRaise, if_pos hv]
    exact (Spares.refl _ v).irqBit (ne_rxShown_irq p k)
  unfold State.ringEvent
  extract_lets due _
  exact Spares.ite ((hraise _ (by exact hhost)).ofParts rfl rfl rfl) ((Spares.refl _ s).parts rfl rfl rfl)

theorem ringN_le (s : State) (r : Ring) : s.ringN r ≤ 2 ^ 12 := by
  refine Nat.pow_le_pow_right (by norm_num) ?_
  unfold clampN
  split_ifs
  · norm_num
  · norm_num
  · omega

/-- A frame that the ring has room for. -/
theorem rxDeliver_holds (h : s.filesOk = true) (hk : k < 4) {m : RxMeta} {bufs : List Nat} {bs : Bytes}
    (hruns : s.blockRuns (.ring (.rx p k)) = true) (hhost : s.ringHost (.rx p k) = true) (hpos : bs ≠ [])
    (hroom : ceilDiv bs.length 2048 ≤ s.ringAvail (.rx p k)) :
    (s.rxDeliver p k m bufs bs).get (Ring.rx p k).head = (s.get (Ring.rx p k).head + ceilDiv bs.length 2048) % s.ringN (.rx p k) ∧
      (s.rxDeliver p k m bufs bs).get (Reg.MAC.RX_FRAMES.ix p) = s.get (Reg.MAC.RX_FRAMES.ix p) := by
  have hneed : 0 < ceilDiv bs.length 2048 := by
    have := List.length_pos_iff.mpr hpos
    unfold ceilDiv
    omega
  have hdeliver : s.rxDeliver p k m bufs bs =
      ((s.rxBuffers (.rx p k) m bufs false (ceilDiv bs.length 2048) 0 (ceilDiv bs.length 2048) bs).ringTake (.rx p k)
        (ceilDiv bs.length 2048)).ringEvent (.rx p k) := by
    unfold State.rxDeliver
    simp only [hruns, Bool.not_true, Bool.false_eq_true, or_false, min_eq_right hroom, decide_eq_false (Nat.not_lt.mpr hroom), if_false]
    rw [if_neg (by omega)]
  rw [hdeliver]
  generalize ceilDiv bs.length 2048 = n
  have hbuffers := moves_rxBuffers s (.rx p k) m bufs false n 0 n bs
  generalize s.rxBuffers (.rx p k) m bufs false n 0 n bs = v at hbuffers ⊢
  have hget (g : Fld) : v.get g = s.get g := get_moves hbuffers rfl g
  have hring : v.ringN (.rx p k) = s.ringN (.rx p k) := by rw [State.ringN, State.ringN, hget]
  have htaken : (v.ringTake (.rx p k) n).ringHost (.rx p k) = true := by
    refine Eq.trans (flag_eq_of_get_eq (State.get_set_ne (.inl ?_))) ((flag_eq_of_get_eq (hget _)).trans hhost)
    exact Fld.ix_ne k (f := Reg.MAC_RXRING.HEAD.ix p) (g := Reg.MAC_RXRING.OWNER.ix p) (Fld.ix_ne p (by decide) rfl) rfl
  have hframes : (Ring.rx p k).head.key ≠ (Reg.MAC.RX_FRAMES.ix p).key := by
    have hkeys : Reg.MAC_RXRING.HEAD.key + 8 * (4 * 0x20) < Reg.MAC.RX_FRAMES.key := by decide
    rw [key_rxHead, Fld.key_ix (f := Reg.MAC.RX_FRAMES) rfl]
    omega
  have hevent := spares_rxEvent htaken
  refine ⟨(hevent.get_eq _ (.inr rfl)).trans ?_, (hevent.get_eq _ (.inl rfl)).trans ((State.get_set_ne (.inl hframes)).trans (hget _))⟩
  rw [State.ringTake, State.get_set (hbuffers.files h), hget, hring]
  have hlt : (s.get (Ring.rx p k).head + n) % s.ringN (.rx p k) < 2 ^ 12 :=
    (Nat.mod_lt _ (Nat.two_pow_pos _)).trans_le (ringN_le s _)
  exact Nat.mod_eq_of_lt hlt

/-- A frame that finds no buffer. -/
theorem rxDeliver_nobuf (h : s.filesOk = true) (m : RxMeta) (bufs : List Nat) (bs : Bytes) (hnone : s.ringAvail (.rx p k) = 0) :
    Counted (Reg.MAC.RX_NOBUF_DROP.ix p) s (s.rxDeliver p k m bufs bs) := by
  unfold State.rxDeliver
  dsimp only
  rw [if_pos (.inl hnone)]
  have hirq (v : State) : Spares (· = Reg.MAC.RX_NOBUF_DROP.ix p) v (v.macIrq p Reg.MAC_IRQ.NOBUF_DROP) :=
    (Spares.refl _ v).irqBit (by rintro _ rfl; exact .inl (Fld.ix_ne p (by decide) rfl))
  exact (counted_count h _).then ((hirq _).get_eq _ rfl)

end

/-! ### FRAME_RECEIVE -/

theorem receives_of_on {u : State} {p : Nat} (hon : u.portOn p = true ∨ bitAt u.boot.timing p = true) :
    (!u.portOn p && !bitAt u.boot.timing p) = false := by
  obtain h | h := hon <;> simp [h]

/-- The frame with its stamp (R201). -/
def State.stampRx (s : State) (p : Nat) (f : RxFrame) : RxFrame :=
  { f with stamp := if p < 6 then s.tdcStamp (12 + 2 * p) f.stamp f.code else f.stamp }

section
variable {s u : State} {p : Nat} {f : RxFrame}

/-- A port that neither runs nor is brought up for timing drops all. -/
theorem exec_frameReceive_off (hu : u = s.moveTo f.stamp) (hport : u.portOn p = false) (htiming : bitAt u.boot.timing p = false) :
    exec (.frameReceive p f) s = .next u := by
  subst hu
  show execFrameReceive p f s = _
  simp [execFrameReceive, hport, htiming]

section
variable (hu : u = s.moveTo f.stamp) (hon : u.portOn p = true ∨ bitAt u.boot.timing p = true)
include hu hon

theorem exec_frameReceive_verify (hkind : f.kind = .verify) (hp : p < 6) (hen : u.flag (Reg.MAC_PREEMPT.EN.ix p) = true) :
    exec (.frameReceive p f) s = .next ((u.fecCount p f).emit (.mpacket p true)) := by
  have hen' : (u.fecCount p f).flag (Reg.MAC_PREEMPT.EN.ix p) = true ∧ p < 6 :=
    ⟨((fecCount_spares u p f).flag (rxConfig_ix rfl (by decide) p)).trans hen, hp⟩
  have hrun := receives_of_on hon
  subst hu
  show execFrameReceive p f s = _
  simp only [execFrameReceive, hrun, hkind]
  exact congrArg Host.Outcome.next (if_pos hen')

theorem exec_frameReceive_respond (hkind : f.kind = .respond) (hverify : u.get (Reg.MAC_STATUS.VERIFY.ix p) = 1) :
    exec (.frameReceive p f) s = .next ((u.fecCount p f).set (Reg.MAC_STATUS.VERIFY.ix p) 2) := by
  have hverify' : (u.fecCount p f).get (Reg.MAC_STATUS.VERIFY.ix p) = 1 :=
    ((fecCount_spares u p f).get_eq _ (rxConfig_ix rfl (by decide) p)).trans hverify
  have hrun := receives_of_on hon
  subst hu
  show execFrameReceive p f s = _
  simp only [execFrameReceive, hrun, hkind]
  exact congrArg Host.Outcome.next (if_pos hverify')

theorem exec_frameReceive_data (hkind : f.kind = .data) (hwhole : f.fragments = 0) :
    exec (.frameReceive p f) s = .next ((u.fecCount p f).rxFrame p (u.stampRx p f)) := by
  have hrun := receives_of_on hon
  have hfrag : ¬(f.fragments ≠ 0 ∧ !(u.fecCount p f).flag (Reg.MAC_PREEMPT.EN.ix p)) := fun h => h.1 hwhole
  subst hu
  show execFrameReceive p f s = _
  simp only [execFrameReceive, hrun, hkind]
  exact congrArg Host.Outcome.next (if_neg hfrag)

end

/-! ### The checks of a frame, in their order (R153) -/

/-- A whole frame that arrives, by its start-of-frame delimiter, at a port that receives. -/
structure RxData (s u : State) (p : Nat) (f : RxFrame) : Prop where
  files : u.filesOk = true
  moved : u = s.moveTo f.stamp
  on : u.portOn p = true ∨ bitAt u.boot.timing p = true
  kind : f.kind = .data
  whole : f.fragments = 0
  sfd : f.sfdOk = true

theorem exec_frameReceive_checked (h : RxData s u p f) : exec (.frameReceive p f) s = .next (
    if !f.assembled then (u.rxArrived p f).count (Reg.MAC.RX_ASSY_ERR.ix p)
    else if f.bytes.length + 4 < 64 ∨ u.get (Reg.MAC_MAXLEN.LEN.ix p) < f.bytes.length + 4 then
      ((u.rxArrived p f).count (Reg.MAC.RX_LEN_ERR.ix p)).rxBad p (u.stampRx p f)
    else if !f.fcsOk then ((u.rxArrived p f).count (Reg.MAC.RX_FCS_ERR.ix p)).rxBad p (u.stampRx p f)
    else if (viewOf f.bytes).etype = 0x8808 then (u.rxCounted p f).count (Reg.MAC.RX_PAUSE.ix p)
    else ((u.rxCounted p f).tcForward p (u.stampRx p f)).rxGood p (u.stampRx p f)) := by
  have hmax : (u.rxArrived p f).get (Reg.MAC_MAXLEN.LEN.ix p) = u.get (Reg.MAC_MAXLEN.LEN.ix p) :=
    (rxArrived_spares u p f).get_eq _ (rxConfig_ix rfl (by decide) p)
  rw [exec_frameReceive_data h.moved h.on h.kind h.whole, ← hmax]
  exact congrArg Host.Outcome.next (if_neg (by simp [State.stampRx, h.sfd]))

/-- A frame that a check stops is counted by that check's counter, whatever an ingress queue makes of it. -/
theorem goes_unassembled (h : RxData s u p f) (hassy : f.assembled = false) :
    Goes (.frameReceive p f) s (Counted (Reg.MAC.RX_ASSY_ERR.ix p) u) := by
  refine ⟨_, exec_frameReceive_checked h, ?_⟩
  rw [if_pos (by simp [hassy])]
  exact (counted_count (rxArrived_files h.files) _).after (rxArrived_get (by decide) u)

theorem goes_badLength (h : RxData s u p f) (hp : p < 7) (hassy : f.assembled = true)
    (hlen : f.bytes.length + 4 < 64 ∨ u.get (Reg.MAC_MAXLEN.LEN.ix p) < f.bytes.length + 4) :
    Goes (.frameReceive p f) s (Counted (Reg.MAC.RX_LEN_ERR.ix p) u) := by
  refine ⟨_, exec_frameReceive_checked h, ?_⟩
  rw [if_neg (by simp [hassy]), if_pos hlen]
  exact ((counted_count (rxArrived_files h.files) _).after (rxArrived_get (by decide) u)).then
    ((spares_rxBad ..).get_eq _ (belowIngress_counter rfl (by decide) hp))

/-- A frame of a length that its port takes. -/
structure RxSized (u : State) (p : Nat) (f : RxFrame) : Prop where
  assembled : f.assembled = true
  min : 60 ≤ f.bytes.length
  max : f.bytes.length + 4 ≤ u.get (Reg.MAC_MAXLEN.LEN.ix p)

theorem exec_frameReceive_sized (h : RxData s u p f) (hs : RxSized u p f) : exec (.frameReceive p f) s = .next (
    if !f.fcsOk then ((u.rxArrived p f).count (Reg.MAC.RX_FCS_ERR.ix p)).rxBad p (u.stampRx p f)
    else if (viewOf f.bytes).etype = 0x8808 then (u.rxCounted p f).count (Reg.MAC.RX_PAUSE.ix p)
    else ((u.rxCounted p f).tcForward p (u.stampRx p f)).rxGood p (u.stampRx p f)) := by
  obtain ⟨hassy, hmin, hmax⟩ := hs
  rw [exec_frameReceive_checked h, if_neg (by simp [hassy]), if_neg (by omega)]

theorem goes_badFcs (h : RxData s u p f) (hs : RxSized u p f) (hp : p < 7) (hfcs : f.fcsOk = false) :
    Goes (.frameReceive p f) s (Counted (Reg.MAC.RX_FCS_ERR.ix p) u) := by
  refine ⟨_, exec_frameReceive_sized h hs, ?_⟩
  rw [if_pos (by simp [hfcs])]
  exact ((counted_count (rxArrived_files h.files) _).after (rxArrived_get (by decide) u)).then
    ((spares_rxBad ..).get_eq _ (belowIngress_counter rfl (by decide) hp))

theorem goes_pause (h : RxData s u p f) (hs : RxSized u p f) (hfcs : f.fcsOk = true) (hpause : (viewOf f.bytes).etype = 0x8808) :
    Goes (.frameReceive p f) s fun t => Counted (Reg.MAC.RX_PAUSE.ix p) u t ∧ Counted (Reg.MAC.RX_FRAMES.ix p) u t := by
  refine ⟨_, exec_frameReceive_sized h hs, ?_⟩
  rw [if_neg (by simp [hfcs]), if_pos hpause]
  exact rxCounted_count h.files (by decide)

/-! ### A good frame outside redundancy and the transparent clock -/

/-- A good frame at a port that neither redundancy nor the transparent clock takes it from. -/
structure RxPlain (u : State) (p : Nat) (f : RxFrame) : Prop where
  sized : RxSized u p f
  fcs : f.fcsOk = true
  etype : (viewOf f.bytes).etype ≠ 0x8808
  plain : p = 4 ∨ p = 5 → u.redMode = 0 ∧ u.flag Reg.PTP_TC_CTL.EN = false

theorem exec_frameReceive_good (h : RxData s u p f) (hg : RxPlain u p f) : exec (.frameReceive p f) s = .next
    ((u.rxCounted p f).filtered p f.bytes fun v => v.rxPlace p (u.stampRx p f) f.bytes true) := by
  obtain ⟨hs, hfcs, hpause, hplain⟩ := hg
  rw [exec_frameReceive_sized h hs, if_neg (by simp [hfcs]), if_neg hpause]
  have hred := redMode_of_spares (rxCounted_spares u p f)
  have hclock := (rxCounted_spares u p f).flag (g := Reg.PTP_TC_CTL.EN) (by unfold RxConfig; decide)
  generalize u.rxCounted p f = v at *
  have hforward : v.tcForward p (u.stampRx p f) = v := by
    rw [State.tcForward, if_neg]
    rintro ⟨hport, hen, -⟩
    rw [hclock, (hplain hport).2] at hen
    exact absurd hen nofun
  rw [hforward, State.rxGood]
  dsimp only
  by_cases hport : p ≠ 4 ∧ p ≠ 5
  · rw [if_pos hport]
    rfl
  · have hzero : v.redMode = 0 := hred.trans (hplain (by omega)).1
    rw [if_neg hport, if_neg (by simp [hzero]), if_neg (by simp [hzero])]
    rfl

/-- The port serves itself. -/
theorem cfgPort_rxCounted (hg : RxPlain u p f) : (u.rxCounted p f).cfgPort p = p := by
  rw [State.cfgPort, if_neg]
  rintro ⟨rfl, hred⟩
  exact hred ((redMode_of_spares (rxCounted_spares u 5 f)).trans (hg.plain (.inr rfl)).1)

theorem goes_addrDrop (h : RxData s u p f) (hg : RxPlain u p f) (haddr : u.addrFilter p f.bytes = false) :
    Goes (.frameReceive p f) s fun t => Counted (Reg.MAC.RX_FILT_DROP.ix p) u t ∧ Counted (Reg.MAC.RX_FRAMES.ix p) u t := by
  refine ⟨_, exec_frameReceive_good h hg, ?_⟩
  rw [State.filtered, cfgPort_rxCounted hg, addrFilter_of_spares (rxCounted_spares u p f), if_pos (by simp [haddr])]
  exact rxCounted_count h.files (by decide)

theorem goes_vlanDrop (h : RxData s u p f) (hg : RxPlain u p f) (haddr : u.addrFilter p f.bytes = true)
    (hvlan : u.vlanFilter p f.bytes = false) :
    Goes (.frameReceive p f) s fun t => Counted (Reg.MAC.RX_VLAN_DROP.ix p) u t ∧ Counted (Reg.MAC.RX_FRAMES.ix p) u t := by
  refine ⟨_, exec_frameReceive_good h hg, ?_⟩
  rw [State.filtered, cfgPort_rxCounted hg, addrFilter_of_spares (rxCounted_spares u p f), vlanFilter_of_spares (rxCounted_spares u p f),
    if_neg (by simp [haddr]), if_pos (by simp [hvlan])]
  exact rxCounted_count h.files (by decide)

/-- A good frame that both filters pass, for a receive ring. -/
structure RxRouted (u : State) (p k cls : Nat) (f : RxFrame) : Prop where
  good : RxPlain u p f
  addr : u.addrFilter p f.bytes = true
  vlan : u.vlanFilter p f.bytes = true
  ring : u.classify p f.bytes = .ring k cls

variable {k cls : Nat}

/-- What the descriptors say of a frame. -/
def State.rxMeta (s : State) (p cls : Nat) (f : RxFrame) (bs : Bytes) : RxMeta :=
  { cls := cls, lanB := p == 5 && s.redMode != 0, vid := s.reportVid (s.cfgPort p) bs, pcp := (viewOf bs).pcp
    tagged := (viewOf bs).tagged, stamp := s.rxStamp p bs f.stamp }

theorem rxPlace_ring {v : State} {bs : Bytes} (h : v.classify (v.cfgPort p) bs = .ring k cls) : v.rxPlace p f bs true =
    if !f.fifoFits then v.count (Reg.MAC.RX_FIFO_DROP.ix p) else v.rxDeliver (v.cfgPort p) k (v.rxMeta p cls f bs) f.bufs bs := by
  rw [State.rxPlace, h]
  rfl

/-- A frame for a receive ring waits for the FIFO, then goes to the ring with what its descriptors say of it. -/
theorem exec_frameReceive_routed (h : RxData s u p f) (hr : RxRouted u p k cls f) : exec (.frameReceive p f) s = .next (
    if !f.fifoFits then (u.rxCounted p f).count (Reg.MAC.RX_FIFO_DROP.ix p)
    else (u.rxCounted p f).rxDeliver p k ((u.rxCounted p f).rxMeta p cls (u.stampRx p f) f.bytes) f.bufs f.bytes) := by
  obtain ⟨hg, haddr, hvlan, hring⟩ := hr
  have hspares := rxCounted_spares u p f
  have hcfg := cfgPort_rxCounted hg
  have hclass : (u.rxCounted p f).classify ((u.rxCounted p f).cfgPort p) f.bytes = .ring k cls := by
    rw [hcfg, classify_of_spares hspares p f.bytes, hring]
  rw [exec_frameReceive_good h hg, State.filtered, hcfg, addrFilter_of_spares hspares, vlanFilter_of_spares hspares,
    if_neg (by simp [haddr]), if_neg (by simp [hvlan]), rxPlace_ring hclass, hcfg]
  rfl

theorem goes_fifoDrop (h : RxData s u p f) (hr : RxRouted u p k cls f) (hfifo : f.fifoFits = false) :
    Goes (.frameReceive p f) s (Counted (Reg.MAC.RX_FIFO_DROP.ix p) u) := by
  have hexec := exec_frameReceive_routed h hr
  refine ⟨_, hexec, ?_⟩
  rw [if_pos (by simp [hfifo])]
  exact (rxCounted_count h.files (by decide)).1

section
variable (h : RxData s u p f) (hr : RxRouted u p k cls f) (hk : k < 4) (hfifo : f.fifoFits = true)
include h hr hk hfifo

theorem goes_nobufDrop (hnone : u.ringAvail (.rx p k) = 0) : Goes (.frameReceive p f) s (Counted (Reg.MAC.RX_NOBUF_DROP.ix p) u) := by
  have hexec := exec_frameReceive_routed h hr
  have hnone' := (rxAvail_of_spares (rxCounted_spares u p f) p hk).trans hnone
  refine ⟨_, hexec, ?_⟩
  rw [if_neg (by simp [hfifo])]
  exact (rxDeliver_nobuf (rxCounted_files h.files) _ f.bufs f.bytes hnone').after (rxCounted_get (by decide) u)

/-- A frame that its host-owned ring has room for takes its buffers. -/
theorem goes_delivered (hruns : u.blockRuns (.ring (.rx p k)) = true) (hhost : u.ringHost (.rx p k) = true)
    (hroom : ceilDiv f.bytes.length 2048 ≤ u.ringAvail (.rx p k)) :
    Goes (.frameReceive p f) s fun t => t.get (Ring.rx p k).head =
      (u.get (Ring.rx p k).head + ceilDiv f.bytes.length 2048) % u.ringN (.rx p k) ∧ Counted (Reg.MAC.RX_FRAMES.ix p) u t := by
  have hexec := exec_frameReceive_routed h hr
  have hspares := rxCounted_spares u p f
  have hpos : f.bytes ≠ [] := List.ne_nil_of_length_pos (Nat.lt_of_lt_of_le (by norm_num) hr.good.sized.min)
  obtain ⟨hhead, hframes⟩ := rxDeliver_holds (m := (u.rxCounted p f).rxMeta p cls (u.stampRx p f) f.bytes) (bufs := f.bufs)
    (rxCounted_files h.files) hk ((rxBlockRuns_of_spares hspares p hk).trans hruns) ((rxHost_of_spares hspares p hk).trans hhost) hpos
    (hroom.trans_eq (rxAvail_of_spares hspares p hk).symm)
  refine ⟨_, hexec, ?_⟩
  rw [if_neg (by simp [hfifo])]
  refine ⟨?_, (rxCounted_counted h.files).then hframes⟩
  rw [hhead, rxHead_of_spares hspares p hk, rxRingN_of_spares hspares p hk]

end

end

/-- Settles O36: the checks of a frame in their order, then the filters, the FIFO and the ring, none of which reads a counter. -/
theorem framesAreReceived : Obligations.FramesAreReceived := by
  unfold Obligations.FramesAreReceived
  intro s u p k cls f hfiles hu hp
  have hufiles : u.filesOk = true := hu ▸ (moves_moveTo s f.stamp).files hfiles
  refine ⟨exec_frameReceive_off hu, fun hon => ⟨fun hkind hp6 hen => ?verify, fun hkind hverify => ?respond, fun hkind hwhole hsfd => ?data⟩⟩
  case verify =>
    have hkeeps := (fecCount_keeps u p f).mono (fun _ hf => hf) (qs := [.out]) (by simp)
    refine ⟨_, exec_frameReceive_verify hu hon hkind hp6 hen, ?_, hkeeps.emit rfl⟩
    rw [State.emit, (moves_fecCount u p f).touches.2 .out rfl]
  case respond =>
    exact ⟨_, exec_frameReceive_respond hu hon hkind hverify, State.get_set ((moves_fecCount ..).files hufiles),
      Keeps.set (by simp) ((fecCount_keeps u p f).mono (by simp) (by simp))⟩
  case data =>
    have h : RxData s u p f := ⟨hufiles, hu, hon, hkind, hwhole, hsfd⟩
    refine ⟨goes_unassembled h, fun hassy => ⟨goes_badLength h hp hassy, fun hmin hmax => ?_⟩⟩
    have hs : RxSized u p f := ⟨hassy, hmin, hmax⟩
    refine ⟨goes_badFcs h hs hp, fun hfcs => ⟨goes_pause h hs hfcs, fun hpause hplain => ?_⟩⟩
    have hg : RxPlain u p f := ⟨hs, hfcs, hpause, hplain⟩
    refine ⟨goes_addrDrop h hg, goes_vlanDrop h hg, fun haddr hvlan hring hk => ?_⟩
    have hr : RxRouted u p k cls f := ⟨hg, haddr, hvlan, hring⟩
    exact ⟨goes_fifoDrop h hr, fun hfifo hruns => ⟨goes_nobufDrop h hr hk hfifo, goes_delivered h hr hk hfifo hruns⟩⟩

end Sys2Proof.Machine

namespace Sys2Proof.Machine

/-! ### Refused accesses of the host interface (R90, R94 to R96, R99) -/

/-- The error bits of HIF_ERR. -/
def hifErrBits : List Fld :=
  [Reg.HIF_ERR.NARROW_WR, Reg.HIF_ERR.GUARD, Reg.HIF_ERR.LOCKED, Reg.HIF_ERR.NO_TXN, Reg.HIF_ERR.TXN_FULL, Reg.HIF_ERR.OBSERVER,
    Reg.HIF_ERR.LONG_WR, Reg.HIF_ERR.BAR2_WR, Reg.HIF_ERR.SNAP_BUSY]

/-- Each is one bit of one register, a copy for each requester, which is what a refusal asks of it. -/
theorem hifErr_refuses {s : State} (h : s.filesOk = true) (who : Requester) {f : Fld} (addr : Nat) (hf : f ∈ hifErrBits) :
    RefusedWith who f addr s (s.hifErr who f addr) := by
  have hall : ∀ g ∈ hifErrBits, g.perReq = true ∧ g.base = 4 ∧ g.lsb < 32 ∧ g.width = 1 := by decide
  obtain ⟨hper, hbase, hlsb, hwidth⟩ := hall f hf
  exact refusedWith_hifErr h who addr hper hbase hlsb hwidth

theorem guarded_refused {s : State} {who : Requester} (hs : s.silent who = false) (hg : s.mayGuard who = false) (hne : who ≠ .pf1)
    (a : Nat) (f : State → State) : s.guarded who a f = s.hifErr who Reg.HIF_ERR.GUARD a := by
  simp [State.guarded, hs, hg, hne]

theorem guarded_observer {s : State} (hin : s.boot.inReset = false) (a : Nat) (f : State → State) :
    s.guarded .pf1 a f = s.hifErr .pf1 Reg.HIF_ERR.OBSERVER a := by
  simp [State.guarded, State.silent, hin, State.mayGuard, State.isOwner]

theorem open_observer {s : State} (hin : s.boot.inReset = false) (a : Nat) (f : State → State) :
    s.open_ .pf1 a f = s.hifErr .pf1 Reg.HIF_ERR.OBSERVER a := by
  simp [State.open_, State.silent, hin]

/-- The row of a guarded register is a guarded write at the register's offset; the soft reset is one while no reset is in force (R87). -/
theorem exec_guarded_row {c : Instr} {who : Requester} {addr : Nat} (h : c.register = some (true, who, addr)) :
    ∃ f, ∀ s : State, s.boot.inReset = false → exec c s = .next (s.guarded who addr f) := by
  cases c <;> simp only [Instr.register, Option.some.injEq, Prod.mk.injEq, reduceCtorEq, Bool.false_eq_true, false_and, true_and] at h
  case hostSoftReset w =>
    obtain ⟨rfl, rfl⟩ := h
    by_cases hkey : w.key = 0x5AFE0001
    · exact ⟨fun s => s.reset_ 2 false false, fun s hin => by
        show execHostSoftReset _ _ s = _
        simp [execHostSoftReset, hkey, hin]⟩
    · exact ⟨id, fun s _ => by
        show execHostSoftReset _ _ s = _
        rw [execHostSoftReset, if_pos hkey]⟩
  all_goals obtain ⟨rfl, rfl⟩ := h; exact ⟨_, fun _ _ => rfl⟩

/-- The row of any other register is an open write at the register's offset. -/
theorem exec_open_row {c : Instr} {who : Requester} {addr : Nat} (h : c.register = some (false, who, addr)) :
    ∃ f, ∀ s : State, exec c s = .next (s.open_ who addr f) := by
  cases c <;> simp only [Instr.register, Option.some.injEq, Prod.mk.injEq, reduceCtorEq, Bool.true_eq_false, false_and, true_and] at h
  all_goals obtain ⟨rfl, rfl⟩ := h; exact ⟨_, fun _ => rfl⟩

theorem inReset_of_silent {s : State} {who : Requester} (h : s.silent who = false) : s.boot.inReset = false := by
  simp only [State.silent, Bool.or_eq_false_iff] at h
  exact h.1

/-- A guarded register reads 0 to a requester that may not reach it, whether it stands in a window or not (R99). -/
theorem read_guarded {s : State} {who : Requester} {addr : Nat} (hg : s.mayGuard who = false) (hal : addr % 4 = 0)
    (hlow : addr % 0x10000 < 0x8000) (hguard : guardedAt addr = true) : s.read who addr = 0 := by
  have ha : addr / 4 * 4 = addr := Nat.div_mul_cancel (Nat.dvd_of_mod_eq_zero hal)
  have hreg : s.regWord who addr = 0 := by
    rw [State.regWord, if_pos]
    simpa [hg] using .inr (by simpa [guardedAt] using hguard)
  simp only [State.read, ha, if_neg (Nat.not_le.mpr hlow)]
  cases s.windowWord who addr with
  | none => exact hreg
  | some v => simp [hguard, hg]

/-- Settles O7: a guarded row is a guarded write, which such a requester does not pass, and both ways a read goes ask the same. -/
theorem guardedCommandsAreRefused : Obligations.GuardedCommandsAreRefused := by
  unfold Obligations.GuardedCommandsAreRefused
  intro who addr s hg
  refine ⟨fun c hreg hfiles hsilent hne => ?_, fun hal hlow hguard => read_guarded hg hal hlow hguard⟩
  obtain ⟨f, hexec⟩ := exec_guarded_row hreg
  exact ⟨_, by rw [hexec s (inReset_of_silent hsilent), guarded_refused hsilent hg hne], hifErr_refuses hfiles who addr (by decide)⟩

/-- Settles O8: a row is a guarded or an open write, and each turns PF1 away alike. -/
theorem observerCommandsAreRefused : Obligations.ObserverCommandsAreRefused := by
  unfold Obligations.ObserverCommandsAreRefused
  intro c g addr s hreg hfiles hin
  refine ⟨_, ?_, hifErr_refuses hfiles .pf1 addr (by decide)⟩
  cases g with
  | true =>
    obtain ⟨f, hexec⟩ := exec_guarded_row hreg
    rw [hexec s hin, guarded_observer hin]
  | false =>
    obtain ⟨f, hexec⟩ := exec_open_row hreg
    rw [hexec, open_observer hin]

/-! ### Malformed writes (R94 to R96) -/

theorem goes_longWrite {s : State} {who : Requester} (h : s.filesOk = true) (hs : s.silent who = false) (addr : Nat) {words : Nat}
    (hw : 2 < words) : Goes (.bar0LongWrite who addr words) s (RefusedWith who Reg.HIF_ERR.LONG_WR addr s) := by
  refine ⟨s.hifErr who Reg.HIF_ERR.LONG_WR addr, ?_, hifErr_refuses h who addr (by decide)⟩
  show execBar0LongWrite who addr words s = _
  simp [execBar0LongWrite, hs, hw]

theorem exec_shortWrite (s : State) (who : Requester) (addr : Nat) {words : Nat} (hw : words ≤ 2) :
    exec (.bar0LongWrite who addr words) s = .next s := by
  show execBar0LongWrite who addr words s = _
  simp [execBar0LongWrite, Nat.not_lt.mpr hw]

/-- A register write with a byte enable clear. -/
theorem exec_narrowWrite {s : State} {who : Requester} (hs : s.silent who = false) (addr value : Nat) {wide : Bool} {be : Nat}
    (hbe : be % (if wide then 256 else 16) ≠ (if wide then 255 else 15)) :
    exec (.registerWrite who addr wide value be) s =
      .next (if bar4Base ≤ addr / 4 * 4 then s else s.hifErr who Reg.HIF_ERR.NARROW_WR (addr / 4 * 4)) := by
  show execRegisterWrite who addr wide value be s = _
  have hfull : be % ((if wide = true then 255 else 15) + 1) ≠ if wide = true then 255 else 15 := by
    cases wide <;> simpa using hbe
  simp only [execRegisterWrite, hs, Bool.false_eq_true, if_false, if_neg hfull, if_pos hfull]

theorem goes_bar2Write {s : State} {who : Requester} (h : s.filesOk = true) (hs : s.silent who = false) :
    Goes (.bar2Write who) s fun t => t.get (Reg.HIF_ERR.BAR2_WR.of who) = 1 ∧
      Keeps [Reg.HIF_ERR.BAR2_WR.of who, Reg.HIF_ERR_ADDR.OFFSET.of who] [.out, .free] s t := by
  obtain ⟨hbit, -, hkeeps⟩ := hifErr_refuses h who (s.freeVal 25) (f := Reg.HIF_ERR.BAR2_WR) (by decide)
  refine ⟨(s.hifErr who Reg.HIF_ERR.BAR2_WR (s.freeVal 25)).tookFree, ?_, ?_, ?_⟩
  · show execBar2Write who s = _
    simp [execBar2Write, hs]
  · exact (get_moves (moves_tookFree _) rfl _).trans hbit
  · exact Keeps.moves (moves_tookFree _) rfl (hkeeps.mono (fun f hf => hf) fun p hp => by cases p <;> simp_all)

/-- Settles O10: each write by its shape. -/
theorem malformedWritesAreDiscarded : Obligations.MalformedWritesAreDiscarded := by
  unfold Obligations.MalformedWritesAreDiscarded
  intro s who h hs
  refine ⟨fun addr words hw => goes_longWrite h hs addr hw, fun addr words hw => exec_shortWrite s who addr hw,
    fun addr wide value be hbe => ⟨fun hlow => ?_, fun hbar4 => ?_⟩, goes_bar2Write h hs⟩
  · exact ⟨_, by rw [exec_narrowWrite hs addr value hbe, if_neg (Nat.not_le.mpr hlow)], hifErr_refuses h who _ (by decide)⟩
  · rw [exec_narrowWrite hs addr value hbe, if_pos hbar4]

/-! ### Staging (R107, R108) -/

/-- An RWT write of one register that its requester may write is its staging. -/
theorem exec_rwtWrite {s : State} {who : Requester} {a v : Nat} (h : Ready s who) (hal : a % 4 = 0) (hrwt : rwtAt a = true)
    (hmay : s.mayWrite who a = true) : exec (.rwtWrite who a false v) s = .next (s.stage who a (v % 2 ^ 32)) := by
  have ha : a / 4 * 4 = a := Nat.div_mul_cancel (Nat.dvd_of_mod_eq_zero hal)
  show execRwtWrite who a false v s = _
  simp [execRwtWrite, h.2.1, ha, accessWords, hrwt, hmay]

theorem hifErr_cfg (s : State) (who : Requester) (f : Fld) (addr : Nat) : (s.hifErr who f addr).cfg = s.cfg :=
  (moves_hifErr s who f addr).touches.2 .cfg rfl

/-- The 1,025th register: discarded, TXN_FULL set and the transaction marked. -/
theorem stage_full {s : State} {who : Requester} {a v : Nat} (h : s.filesOk = true) (hmay : s.mayStage who = true)
    (hnew : alookup a s.cfg.staged = none) (hfull : 1024 ≤ s.cfg.staged.length) :
    (s.stage who a v).get (Reg.HIF_ERR.TXN_FULL.of who) = 1 ∧ (s.stage who a v).get Reg.CFG_TXN_STATUS.OVERFLOW = 1 ∧
      (s.stage who a v).cfg = s.cfg := by
  have hstage : s.stage who a v = (s.hifErr who Reg.HIF_ERR.TXN_FULL a).setFlag Reg.CFG_TXN_STATUS.OVERFLOW true := by
    simp [State.stage, hmay, hnew, hfull]
  have hfiles : (s.hifErr who Reg.HIF_ERR.TXN_FULL a).filesOk = true := (moves_hifErr ..).files h
  have hne : Reg.CFG_TXN_STATUS.OVERFLOW.key ≠ (Reg.HIF_ERR.TXN_FULL.of who).key := by
    simp only [Fld.of, Reg.HIF_ERR.TXN_FULL, if_true, Fld.inBank, Fld.key, Reg.CFG_TXN_STATUS.OVERFLOW, bankSpan]
    omega
  rw [hstage]
  refine ⟨?_, get_setFlag hfiles rfl true, ?_⟩
  · exact (get_setFlag_ne (.inl hne)).trans (hifErr_refuses h who a (by decide)).1
  · exact (State.set_cfg ..).trans (hifErr_cfg ..)

/-- A staged register: the set maps its offset to the value, and STAGED counts. -/
theorem stage_stages {s : State} {who : Requester} {a v : Nat} (hmay : s.mayStage who = true) (hroom : s.cfg.staged.length < 1024) :
    (s.stage who a v).cfg.staged = aset a (v % 2 ^ 32) s.cfg.staged ∧ Keeps [Reg.CFG_TXN_STATUS.STAGED] [.cfg] s (s.stage who a v) := by
  have hfull : ¬((alookup a s.cfg.staged).isNone = true ∧ 1024 ≤ s.cfg.staged.length) := fun h => absurd h.2 (Nat.not_le.mpr hroom)
  simp only [State.stage, hmay, Bool.not_true, Bool.false_eq_true, if_false, if_neg hfull]
  exact ⟨by rw [State.set_cfg], Keeps.set (by simp) (Keeps.upd rfl rfl rfl rfl (Keeps.refl _ _ s) (h13 := .inl rfl))⟩

/-- Settles O12: the write is the staging of its register, in the three cases of R108. -/
theorem rwtWritesAreStaged : Obligations.RwtWritesAreStaged := by
  unfold Obligations.RwtWritesAreStaged
  intro s who a v h hal hrwt hmay
  have hexec := exec_rwtWrite (v := v) h hal hrwt hmay
  refine ⟨fun hstage => ⟨_, hexec, ?_⟩, fun hstage hnew hfull => ⟨_, hexec, stage_full h.1 hstage hnew hfull⟩,
    fun hstage hroom => ⟨_, hexec, ?_⟩⟩
  · have hrefused : s.stage who a (v % 2 ^ 32) = s.hifErr who Reg.HIF_ERR.NO_TXN a := by simp [State.stage, hstage]
    rw [hrefused]
    exact hifErr_refuses h.1 who a (by decide)
  · obtain ⟨hset, hkeeps⟩ := stage_stages (a := a) (v := v % 2 ^ 32) hstage hroom
    exact ⟨by rw [hset, Nat.mod_mod], hkeeps⟩

/-! ### A write that stores (R11, R105) -/

/-- A write of one whole register that is let through: its fields are stored, then its command is carried out. -/
theorem exec_registerWrite {s : State} {who : Requester} {a : Nat} (v : Nat) (hs : s.silent who = false) (hal : a % 4 = 0)
    (hlow : a < bar4Base) (hmay : s.mayWrite who a = true) (hign : s.ignores who a = false) (hrwt : rwtAt a = false) :
    exec (.registerWrite who a false v 15) s =
      .next ((s.storeFields who [(a, v % 2 ^ 32)]).wordEffect who a (v % 2 ^ 32)) := by
  have ha : a / 4 * 4 = a := Nat.div_mul_cancel (Nat.dvd_of_mod_eq_zero hal)
  have hheld : s.keyHeld a = false := by
    simp only [State.ignores, Bool.or_eq_false_iff] at hign
    exact hign.1.1
  show execRegisterWrite who a false v 15 s = _
  simp [execRegisterWrite, hs, ha, Nat.not_le.mpr hlow, State.accessWrite, State.busWrite, accessWords, hmay, hign, hheld, hrwt,
    State.refuseWord]

/-- The fields that a write of the register at an offset can change. -/
def storedAt (a : Nat) : List Fld :=
  (Reg.window (a / 0x10000)).filter fun f => (f.at? a).isSome && f.stored && decide (f.acc ≠ .ro)

/-- A field takes its bits of a written word. -/
def State.storeWord (s : State) (who : Requester) (a v : Nat) (f0 : Fld) : State :=
  match f0.at? a with
  | none => s
  | some p => s.writeField who a f0 (p.1.of who) (wordInto f0 (s.get (p.1.of who)) p.2 v)

theorem storeWord_of_ro {f0 : Fld} (h : f0.acc = .ro) (s : State) (who : Requester) (a v : Nat) : s.storeWord who a v f0 = s := by
  unfold State.storeWord State.writeField
  simp only [h]
  split
  · rfl
  · exact ite_self _

/-- A stored word is stored field by field, and a read-only field takes nothing. -/
theorem storeFields_word (s : State) (who : Requester) (a v : Nat) :
    s.storeFields who [(a, v)] = (storedAt a).foldl (fun s f0 => s.storeWord who a v f0) s := by
  have hfields : storedAt a = ((accessFields [(a, v)]).filter Fld.stored).filter fun f => decide (f.acc ≠ .ro) := by
    simp only [storedAt, accessFields, List.filter_filter, List.any_cons, List.any_nil, Bool.or_false]
    congr 1
    funext f
    rw [Bool.and_comm, Bool.and_comm (f.at? a).isSome]
  rw [hfields, List.foldl_filter, State.storeFields]
  congr 1
  funext u f0
  have hraw : u.rawNew who f0 [(a, v)] =
      (f0.at? a).map fun p => (p.1.of who, wordInto f0 (u.get (p.1.of who)) p.2 v) := by
    simp only [State.rawNew, List.foldl_cons, List.foldl_nil]
    cases f0.at? a <;> rfl
  have hstep : (if decide (f0.acc ≠ .ro) = true then u.storeWord who a v f0 else u) = u.storeWord who a v f0 := by
    by_cases hro : f0.acc = .ro
    · rw [storeWord_of_ro hro, ite_self]
    · rw [if_pos (decide_eq_true hro)]
  rw [hstep, hraw, State.storeWord]
  cases f0.at? a <;> rfl

/-- BOOT_ROAST_LEN and CFG_TXN_STATUS have one such field each. -/
theorem storedAt_roastLen : storedAt Reg.BOOT_ROAST_LEN.LEN.base = [Reg.BOOT_ROAST_LEN.LEN] := by decide +kernel

theorem storedAt_txnStatus : storedAt Reg.CFG_TXN_STATUS.DONE.base = [Reg.CFG_TXN_STATUS.DONE] := by decide +kernel

theorem Ready.mayWrite {s : State} {who : Requester} {a : Nat} (h : Ready s who) (hmapped : (fieldsAt a).isEmpty = false) :
    s.mayWrite who a = true := by
  have hwho : who ≠ .pf1 := fun heq => by
    have := h.2.2
    rw [heq] at this
    exact Bool.false_ne_true this
  simp [State.mayWrite, h.2.2, hwho, hmapped]

/-- No rule ignores a write below the windows of the key store, the scheduler and the ingress queues. -/
theorem ignores_of_lt {s : State} (who : Requester) {a : Nat} (h : a < 0x30000) : s.ignores who a = false := by
  have hlabel : Reg.KEY_LABEL.LABEL.indexAt a = none :=
    List.find?_eq_none.mpr fun i _ => by simp only [Reg.KEY_LABEL.LABEL, beq_iff_eq]; omega
  have hmsg : Reg.KEY_MSG.MSG.indexAt a = none :=
    List.find?_eq_none.mpr fun i _ => by simp only [Reg.KEY_MSG.MSG, beq_iff_eq]; omega
  have hlen : (a == Reg.KEY_ARG.MSG_LEN.base) = false := beq_false_of_ne (by simp only [Reg.KEY_ARG.MSG_LEN]; omega)
  have hwait : (a == Reg.SCH_WAIT_TIMEOUT.US.base) = false := beq_false_of_ne (by simp only [Reg.SCH_WAIT_TIMEOUT.US]; omega)
  have hqueue : decide (0x127140 ≤ a) = false := decide_eq_false (by omega)
  simp [State.ignores, State.keyHeld, State.unusedQueue, hlabel, hmsg, hlen, hwait, hqueue]

/-- A write of BOOT_ROAST_LEN stores its value. -/
theorem goes_roastLen {s : State} {who : Requester} (h : Ready s who) (v : Nat) :
    Goes (.registerWrite who Reg.BOOT_ROAST_LEN.LEN.base false v 15) s fun t =>
      t.get Reg.BOOT_ROAST_LEN.LEN = v % 2 ^ 32 ∧ Keeps [Reg.BOOT_ROAST_LEN.LEN] [] s t := by
  have hstore : s.storeFields who [(Reg.BOOT_ROAST_LEN.LEN.base, v % 2 ^ 32)] = s.set Reg.BOOT_ROAST_LEN.LEN (v % 2 ^ 32) := by
    rw [storeFields_word, storedAt_roastLen]
    show s.set Reg.BOOT_ROAST_LEN.LEN (v % 2 ^ 32 / 2 ^ 0 % 2 ^ 32 % 2 ^ 32) = _
    simp
  refine ⟨s.set Reg.BOOT_ROAST_LEN.LEN (v % 2 ^ 32), ?_, ?_, (Keeps.refl _ _ s).set (by simp)⟩
  · rw [exec_registerWrite v h.2.1 (by decide) (by decide) (h.mayWrite (by decide +kernel)) ?_ (by decide +kernel), hstore]
    · rfl
    · exact ignores_of_lt who (by decide)
  · rw [State.get_set h.1]
    exact Nat.mod_mod ..

/-- A write of 1 to DONE of CFG_TXN_STATUS clears it. -/
theorem goes_txnDone {s : State} {who : Requester} (h : Ready s who) :
    Goes (.registerWrite who Reg.CFG_TXN_STATUS.DONE.base false (2 ^ Reg.CFG_TXN_STATUS.DONE.lsb) 15) s fun t =>
      t.get Reg.CFG_TXN_STATUS.DONE = 0 ∧ Keeps [Reg.CFG_TXN_STATUS.DONE] [] s t := by
  have hstore : s.storeFields who [(Reg.CFG_TXN_STATUS.DONE.base, 2 ^ Reg.CFG_TXN_STATUS.DONE.lsb % 2 ^ 32)] =
      s.set Reg.CFG_TXN_STATUS.DONE (Nat.land (s.get Reg.CFG_TXN_STATUS.DONE) 0) := by
    rw [storeFields_word, storedAt_txnStatus]
    show s.set Reg.CFG_TXN_STATUS.DONE (Nat.land (s.get Reg.CFG_TXN_STATUS.DONE)
      (Nat.xor (2 ^ 1 - 1) (2 ^ 3 % 2 ^ 32 / 2 ^ 3 % 2 ^ 1 % 2 ^ 1))) = _
    rfl
  have hzero : Nat.land (s.get Reg.CFG_TXN_STATUS.DONE) 0 = 0 := Nat.and_zero _
  refine ⟨s.set Reg.CFG_TXN_STATUS.DONE 0, ?_, State.get_set h.1, (Keeps.refl _ _ s).set (by simp)⟩
  rw [exec_registerWrite _ h.2.1 (by decide) (by decide) (h.mayWrite (by decide +kernel)) ?_ (by decide +kernel), hstore, hzero]
  · rfl
  · exact ignores_of_lt who (by decide)

/-- Settles O11: one plain write and one write of 1, each of a register with one field that takes it. -/
theorem registerWritesTakeEffect : Obligations.RegisterWritesTakeEffect := by
  unfold Obligations.RegisterWritesTakeEffect
  exact fun s who v h => ⟨goes_roastLen h v, goes_txnDone h⟩

end Sys2Proof.Machine

namespace Sys2Proof.Machine

/-! ### Arrays written element by element -/

/-- Elements written one after the other, at places of their own: each holds its value at the end. The values may be read off the state, where
register writes leave them. -/
theorem get_foldl_set {place : Nat → Fld} {val : State → Nat → Nat} {n k : Nat} {s : State} (h : s.filesOk = true) (hk : k < n)
    (hval : ∀ v f x j, val (State.set v f x) j = val v j) (hne : ∀ j, j ≠ k → (place j).key ≠ (place k).key) :
    ((List.range n).foldl (fun s j => s.set (place j) (val s j)) s).get (place k) = val s k % 2 ^ (place k).width := by
  refine foldl_establishes (f := fun s j => s.set (place j) (val s j)) (inv := fun v => v.filesOk = true ∧ val v k = val s k)
    (done := fun v => v.get (place k) = val s k % 2 ^ (place k).width) (List.mem_range.mpr hk)
    (fun v j hv => ⟨State.filesOk_set hv.1, (hval ..).trans hv.2⟩) (fun v hv => ?_) (fun v j hj _ hdone => ?_) ⟨h, rfl⟩
  · rw [State.get_set hv.1, hv.2]
  · exact (State.get_set_ne (.inl (hne j hj))).trans hdone

/-! ### Snapshots (R103, R104) -/

/-- The state as a snapshot copies it: the counters in the holding set, which is busy, and the wrap counts. -/
def State.snapped (s : State) (set : Nat) : State :=
  { s with regs := holdCopy (holdBank set) s.regs, host := { s.host with snapBusy := set :: s.host.snapBusy } }.snapWraps set

theorem filesOk_snapped {s : State} (h : s.filesOk = true) (set : Nat) : (s.snapped set).filesOk = true := by
  refine (moves_snapWraps _ set).files ?_
  simp only [State.filesOk, Bool.and_eq_true] at h ⊢
  exact ⟨⟨RegFile.rising_foldl (fun _ _ => RegFile.rising_insert) (RegFile.rising_filter _ h.1.1), h.1.2⟩, h.2⟩

/-- HIF_SNAP_TIME of a holding set shows a time. -/
def State.showSnapTime (s : State) (set : Nat) : State :=
  (List.range 4).foldl (fun s k => s.set ((Reg.HIF_SNAP_TIME.TIME.ix k).inBank (holdBank set)) (taiWord s.time.tai k)) s

theorem moves_showSnapTime (s : State) (set : Nat) : Moves [.files] s (s.showSnapTime set) :=
  Moves.foldl (fun _ _ => moves_set ..) (Moves.refl _ _)

theorem showSnapTime_get {s : State} (h : s.filesOk = true) (set : Nat) {k : Nat} (hk : k < 4) :
    (s.showSnapTime set).get ((Reg.HIF_SNAP_TIME.TIME.ix k).inBank (holdBank set)) = taiWord s.time.tai k % 2 ^ 32 := by
  refine get_foldl_set (place := fun k => (Reg.HIF_SNAP_TIME.TIME.ix k).inBank (holdBank set)) (val := fun s k => taiWord s.time.tai k) h hk
    (fun v f x j => by rw [State.set_time]) fun j hj => ?_
  simp only [Fld.key, Fld.inBank, Fld.ix, Reg.HIF_SNAP_TIME.TIME]
  omega

theorem goes_snap {s : State} {who : Requester} (h : s.filesOk = true) (hs : s.silent who = false) (hidle : who.holdSet ∉ s.host.snapBusy) :
    Goes (.hifSnap who) s fun t => who.holdSet ∈ t.host.snapBusy ∧
      ∀ k, k < 4 → t.get ((Reg.HIF_SNAP_TIME.TIME.ix k).inBank (holdBank who.holdSet)) = taiWord s.time.tai k % 2 ^ 32 := by
  have htime : (s.snapped who.holdSet).time = s.time := (moves_snapWraps _ who.holdSet).touches.2 .time rfl
  have hhost : (s.snapped who.holdSet).host.snapBusy = who.holdSet :: s.host.snapBusy :=
    congrArg HostIf.snapBusy ((moves_snapWraps _ who.holdSet).touches.2 .host rfl)
  refine ⟨(s.snapped who.holdSet).showSnapTime who.holdSet, ?_, ?_, fun k hk => ?_⟩
  · show execHifSnap who s = _
    simp only [execHifSnap, hs, Bool.false_eq_true, if_false, if_neg hidle]
    rfl
  · rw [(moves_showSnapTime ..).touches.2 .host rfl, hhost]
    exact List.mem_cons_self
  · rw [showSnapTime_get (filesOk_snapped h _) _ hk, htime]

/-- Settles O21: an idle set takes the copy and the time, a busy one turns the request away, and the copy's end takes the set off the list. -/
theorem snapshotsTakeTheTime : Obligations.SnapshotsTakeTheTime := by
  unfold Obligations.SnapshotsTakeTheTime
  intro s who h hs
  refine ⟨goes_snap h hs, fun hbusy => ?_, ⟨_, rfl, by simp, Keeps.upd rfl rfl rfl rfl (Keeps.refl _ _ s) (h12 := .inl rfl)⟩⟩
  refine ⟨_, ?_, hifErr_refuses h who Reg.HIF_SNAP.GO.base (f := Reg.HIF_ERR.SNAP_BUSY) (by decide)⟩
  show execHifSnap who s = _
  simp only [execHifSnap, hs, Bool.false_eq_true, if_false, if_pos hbusy]

/-! ### The ends of a transaction (R110, R113) -/

/-- The fields that the end of a transaction writes. -/
def txnEndFields : List Fld :=
  [Reg.CFG_TXN_STATUS.STATE, Reg.CFG_TXN_STATUS.STAGED, Reg.CFG_TXN_STATUS.OVERFLOW, Reg.CFG_TXN_STATUS.RESULT, Reg.CFG_TXN_STATUS.DONE]

theorem txnEnd_keeps (s : State) (result : Nat) : Keeps txnEndFields [.cfg, .out] s (s.txnEnd result) := by
  refine Keeps.emit rfl (Keeps.setFlag ?_ (Keeps.set ?_ (Keeps.setFlag ?_ (Keeps.set ?_ (Keeps.set ?_
    (Keeps.upd rfl rfl rfl rfl (Keeps.refl _ _ s) (h13 := .inl rfl)))))))
  all_goals decide

/-- The end shows its result; of the state before, only what was put out counts. -/
theorem txnEnd_ended {s u : State} (h : u.filesOk = true) (hout : u.out = s.out) {result : Nat} (hr : result < 16) :
    TxnEnded result s (u.txnEnd result) := by
  have hstate := State.filesOk_set (f := Reg.CFG_TXN_STATUS.STATE) (v := 0)
    (show ({ u with cfg := { u.cfg with staged := [] } } : State).filesOk = true from h)
  have hstaged := State.filesOk_set (f := Reg.CFG_TXN_STATUS.STAGED) (v := 0) hstate
  have hover := filesOk_setFlag (f := Reg.CFG_TXN_STATUS.OVERFLOW) (b := false) hstaged
  have hresult := State.filesOk_set (f := Reg.CFG_TXN_STATUS.RESULT) (v := result) hover
  refine ⟨?_, ?_, ?_, ?_, get_setFlag hresult rfl true, ?_, ?_⟩ <;> simp only [State.txnEnd, State.emit, State.get_upd]
  · rw [get_setFlag_ne (.inl (by decide)), State.get_set_ne (.inl (by decide)), get_setFlag_ne (.inl (by decide)),
      State.get_set_ne (.inl (by decide))]
    exact State.get_set h
  · rw [get_setFlag_ne (.inl (by decide)), State.get_set_ne (.inl (by decide)), get_setFlag_ne (.inl (by decide))]
    exact State.get_set hstate
  · rw [get_setFlag_ne (.inl (by decide)), State.get_set_ne (.inl (by decide)), get_setFlag hstaged rfl]
    rfl
  · rw [get_setFlag_ne (.inl (by decide)), State.get_set hover]
    exact Nat.mod_eq_of_lt hr
  · simp only [State.setFlag, State.set_cfg]
  · simp only [State.setFlag, State.set_out, hout]

theorem mayStage_open {s : State} {who : Requester} (h : s.mayStage who = true) : s.get Reg.CFG_TXN_STATUS.STATE = 1 := by
  simp only [State.mayStage, Bool.and_eq_true, beq_iff_eq] at h
  exact h.1.1

/-! ### BEGIN, ROLLBACK and the timeout (R107, R109, R110) -/

theorem goes_begin {s : State} {who : Requester} (h : Ready s who) (hidle : s.get Reg.CFG_TXN_STATUS.STATE = 0) :
    Goes (.txnBegin who) s fun t => t.get Reg.CFG_TXN_STATUS.STATE = 1 ∧
      t.get Reg.CFG_TXN_STATUS.OWNER = txnOwnerCode who ∧ t.get Reg.CFG_TXN_STATUS.STAGED = 0 ∧ t.cfg.staged = [] ∧
      Keeps [Reg.CFG_TXN_STATUS.STATE, Reg.CFG_TXN_STATUS.OWNER, Reg.CFG_TXN_STATUS.STAGED, Reg.CFG_TXN_STATUS.OVERFLOW,
        Reg.CFG_TXN_STATUS.ELAPSED] [.cfg] s t := by
  refine goes_guarded h rfl ?_
  rw [if_neg (not_not.mpr hidle)]
  have hstate := State.filesOk_set (f := Reg.CFG_TXN_STATUS.STATE) (v := 1)
    (show ({ s with cfg := { s.cfg with staged := [], beginAt := s.time.elapsed } } : State).filesOk = true from h.1)
  have howner := State.filesOk_set (f := Reg.CFG_TXN_STATUS.OWNER) (v := txnOwnerCode who) hstate
  have hcode : txnOwnerCode who < 2 := by unfold txnOwnerCode; split <;> decide
  refine ⟨?_, ?_, ?_, by simp only [State.setFlag, State.set_cfg], ?_⟩
  · rw [State.get_set_ne (.inl (by decide)), get_setFlag_ne (.inl (by decide)), State.get_set_ne (.inl (by decide)),
      State.get_set_ne (.inl (by decide))]
    exact State.get_set h.1
  · rw [State.get_set_ne (.inl (by decide)), get_setFlag_ne (.inl (by decide)), State.get_set_ne (.inl (by decide)), State.get_set hstate]
    exact Nat.mod_eq_of_lt hcode
  · rw [State.get_set_ne (.inl (by decide)), get_setFlag_ne (.inl (by decide)), State.get_set howner]
    rfl
  · exact Keeps.set (by simp) (Keeps.setFlag (by simp) (Keeps.set (by simp) (Keeps.set (by simp) (Keeps.set (by simp)
      (Keeps.upd rfl rfl rfl rfl (Keeps.refl _ _ s) (h13 := .inl rfl))))))

/-- Settles O24: BEGIN in its two cases, and two of the ends. -/
theorem transactionsBeginAndRollBack : Obligations.TransactionsBeginAndRollBack := by
  unfold Obligations.TransactionsBeginAndRollBack
  intro s who h
  refine ⟨goes_begin h, fun hopen => goes_guarded h rfl ?_, fun hstage => goes_guarded h rfl ?_, fun hopen => ?_⟩
  · rw [if_pos hopen]
    exact ⟨State.get_set h.1, (Keeps.refl _ _ s).set (by simp)⟩
  · rw [if_neg (by rw [mayStage_open hstage]; decide), if_pos hstage]
    exact txnEnd_ended h.1 rfl (by decide)
  · refine ⟨(s.set Reg.CFG_TXN_STATUS.ELAPSED 1000).txnEnd 3, ?_, txnEnd_ended (State.filesOk_set h.1) (State.set_out ..) (by decide)⟩
    show execTxnTimeout s = _
    simp [execTxnTimeout, State.txnOpen, hopen]

/-! ### Suspension of the configuration CRC (R117) -/

theorem setSuspend_flag {s : State} (h : s.filesOk = true) (on : Bool) : (s.setSuspend on).flag Reg.CFG_CRC_CTL.SUSPEND = on := by
  unfold State.setSuspend
  split
  · assumption
  · have hset : (s.setFlag Reg.CFG_CRC_CTL.SUSPEND on).flag Reg.CFG_CRC_CTL.SUSPEND = on := flag_setFlag h rfl
    have hdrop : (s.setFlag Reg.CFG_CRC_CTL.SUSPEND on).dropScan.flag Reg.CFG_CRC_CTL.SUSPEND = on :=
      (flag_eq_of_get_eq (get_moves (moves_dropScan _) rfl _)).trans hset
    split
    · exact (flag_eq_of_get_eq (State.get_upd ..)).trans hdrop
    · exact hdrop

theorem setSuspend_keeps (s : State) (on : Bool) : Keeps [Reg.CFG_CRC_CTL.SUSPEND] [.cfg] s (s.setSuspend on) := by
  unfold State.setSuspend
  have hdrop : Keeps [Reg.CFG_CRC_CTL.SUSPEND] [.cfg] s (s.setFlag Reg.CFG_CRC_CTL.SUSPEND on).dropScan :=
    ((Keeps.refl _ _ s).setFlag (by simp)).moves (moves_dropScan _) rfl
  exact Keeps.ite (Keeps.refl _ _ s) (Keeps.ite (Keeps.upd rfl rfl rfl rfl hdrop (h13 := .inl rfl)) hdrop)

theorem setSuspend_scan {s : State} {on : Bool} (h : s.flag Reg.CFG_CRC_CTL.SUSPEND ≠ on) : (s.setSuspend on).cfg.scan = none := by
  rw [State.setSuspend, if_neg h]
  split <;> rfl

/-! ### The end of owner state (R101) -/

/-- In owner state the end clears STATE and SUSPEND, and an open transaction of PF0 is rolled back. -/
theorem endOwner_ends {s : State} (h : s.filesOk = true) (howner : s.get Reg.HIF_OWNER.STATE = 2) :
    s.endOwner.get Reg.HIF_OWNER.STATE = 0 ∧ s.endOwner.flag Reg.CFG_CRC_CTL.SUSPEND = false ∧
      (s.get Reg.CFG_TXN_STATUS.STATE = 1 → s.get Reg.CFG_TXN_STATUS.OWNER = 0 → TxnEnded 4 s s.endOwner) := by
  have hset : (s.set Reg.HIF_OWNER.STATE 0).filesOk = true := State.filesOk_set h
  have hkeeps := setSuspend_keeps (s.set Reg.HIF_OWNER.STATE 0) false
  have hstate : ((s.set Reg.HIF_OWNER.STATE 0).setSuspend false).get Reg.HIF_OWNER.STATE = 0 :=
    (hkeeps.get (by decide)).trans (State.get_set h)
  have hsuspend := setSuspend_flag hset false
  rw [State.endOwner, if_pos howner]
  dsimp only
  by_cases htxn : (s.txnOpen && s.get Reg.CFG_TXN_STATUS.OWNER == 0) = true
  · rw [if_pos htxn]
    have hend := txnEnd_keeps ((s.set Reg.HIF_OWNER.STATE 0).setSuspend false) 4
    refine ⟨(hend.get (by decide)).trans hstate, (flag_eq_of_get_eq (hend.get (by decide))).trans hsuspend, fun _ _ => ?_⟩
    refine txnEnd_ended ((moves_setSuspend ..).files hset) ?_ (by decide)
    exact (hkeeps.2.1 .out (by decide) rfl).trans (State.set_out ..)
  · rw [if_neg htxn]
    refine ⟨hstate, hsuspend, fun hopen hpf0 => absurd ?_ htxn⟩
    simp [State.txnOpen, hopen, hpf0]

/-- Settles O23: each of the four ends owner state, and what else they change the end does not look at. -/
theorem ownerStateEnds : Obligations.OwnerStateEnds := by
  unfold Obligations.OwnerStateEnds
  intro s c h hin howner hc
  have hpf0 : s.silent .pf0 = false := by simp [State.silent, hin]
  simp only [List.mem_cons, List.not_mem_nil, or_false] at hc
  obtain rfl | rfl | rfl | rfl := hc
  · refine ⟨s.endOwner, ?_, endOwner_ends h howner⟩
    show execOwnerRelease .pf0 s = _
    simp [execOwnerRelease, State.open_, hpf0]
  · exact ⟨_, rfl, endOwner_ends (s := { s with env := { s.env with link := false } }) h howner⟩
  · exact ⟨_, rfl, endOwner_ends h howner⟩
  · exact ⟨_, rfl, endOwner_ends (s := { s with
      env := { s.env with perst := true, link := false }, host := { s.host with msix0 := [], msix1 := [] } }) h howner⟩

/-! ### Claims (R100) -/

section
variable {s : State} (hin : s.boot.inReset = false) (hstate : s.get Reg.HIF_OWNER.STATE ∉ [1, 2])
include hin hstate

/-- A claim with no owner key provisioned. -/
theorem exec_ownerClaim_free (hkey : s.keySlot 4 = none) :
    exec (.ownerClaim .pf0) s = .next ((s.setFlag Reg.HIF_OWNER.AUTH_REQ false).drawNonce.set Reg.HIF_OWNER.STATE 2) := by
  simp only [List.mem_cons, List.not_mem_nil, or_false] at hstate
  show execOwnerClaim .pf0 s = _
  simp [execOwnerClaim, State.open_, State.silent, hin, hstate, hkey]

/-- A claim that goes to verification. -/
theorem exec_ownerClaim_verifies (hkey : s.keySlot 4 ≠ none) (hold : ∀ d, s.host.deniedAt = some d → secUnit ≤ s.time.elapsed - d) :
    exec (.ownerClaim .pf0) s = .next (
      let v := s.setFlag Reg.HIF_OWNER.AUTH_REQ true
      { v with host := { v.host with claimSig := v.claimSignature } }.set Reg.HIF_OWNER.STATE 1) := by
  simp only [List.mem_cons, List.not_mem_nil, or_false] at hstate
  obtain ⟨k, hk⟩ := Option.ne_none_iff_exists'.mp hkey
  show execOwnerClaim .pf0 s = _
  cases hd : s.host.deniedAt with
  | none => simp [execOwnerClaim, State.open_, State.silent, hin, hstate, hk, State.setFlag, hd]
  | some d => simp [execOwnerClaim, State.open_, State.silent, hin, hstate, hk, State.setFlag, hd, hold d hd]

/-- A claim within 1 s of a denial. -/
theorem exec_ownerClaim_denied (hkey : s.keySlot 4 ≠ none) {d : Nat} (hd : s.host.deniedAt = some d) (hnew : s.time.elapsed - d < secUnit) :
    exec (.ownerClaim .pf0) s = .next (s.setFlag Reg.HIF_OWNER.AUTH_REQ true).denyClaim := by
  simp only [List.mem_cons, List.not_mem_nil, or_false] at hstate
  obtain ⟨k, hk⟩ := Option.ne_none_iff_exists'.mp hkey
  show execOwnerClaim .pf0 s = _
  simp [execOwnerClaim, State.open_, State.silent, hin, hstate, hk, State.setFlag, hd, hnew]

end

theorem claimSignature_setFlag (s : State) (b : Bool) : (s.setFlag Reg.HIF_OWNER.AUTH_REQ b).claimSignature = s.claimSignature := by
  unfold State.claimSignature
  congr 1
  funext k
  rw [get_setFlag_ne (.inl (Fld.ix_above k (by decide)))]

theorem denyClaim_state {s : State} (h : s.filesOk = true) : s.denyClaim.get Reg.HIF_OWNER.STATE = 3 :=
  State.get_set (by exact (moves_drawNonce s).files h)

theorem drawNonce_owner {s : State} (h : s.filesOk = true) : (s.drawNonce.set Reg.HIF_OWNER.STATE 2).get Reg.HIF_OWNER.STATE = 2 :=
  State.get_set ((moves_drawNonce s).files h)

/-- Settles O22: a claim by what it finds, and the verification by what it answers. -/
theorem ownerClaims : Obligations.OwnerClaims := by
  unfold Obligations.OwnerClaims
  intro s h hin
  refine ⟨fun hstate => ⟨fun hkey => ?_, fun hkey hold => ?_, fun hkey d hd hnew => ?_⟩, fun hstate => ?_, fun pub hstate hpub => ?_⟩
  · exact ⟨_, exec_ownerClaim_free hin hstate hkey, drawNonce_owner (filesOk_setFlag h)⟩
  · refine ⟨_, exec_ownerClaim_verifies hin hstate hkey hold, State.get_set (by exact filesOk_setFlag h), ?_, ?_⟩
    · rw [State.set_host]
      exact claimSignature_setFlag s _
    · exact Keeps.set (by simp) (Keeps.upd rfl rfl rfl rfl ((Keeps.refl _ _ s).setFlag (by simp)) (h12 := .inl rfl))
  · refine ⟨_, exec_ownerClaim_denied hin hstate hkey hd hnew, denyClaim_state (filesOk_setFlag h), ?_⟩
    rw [State.denyClaim, State.set_host, State.setFlag, State.set_time]
  · simp only [List.mem_cons, List.not_mem_nil, or_false] at hstate
    show execOwnerClaim .pf0 s = _
    simp [execOwnerClaim, State.open_, State.silent, hin, hstate]
  · cases hok : Config.ed25519Verify pub s.claimMessage s.host.claimSig with
    | true =>
      refine ⟨s.drawNonce.set Reg.HIF_OWNER.STATE 2, ?_, drawNonce_owner h⟩
      show execOwnerVerifyDone s = _
      simp [execOwnerVerifyDone, hstate, hpub, hok]
    | false =>
      refine ⟨s.denyClaim, ?_, denyClaim_state h⟩
      show execOwnerVerifyDone s = _
      simp [execOwnerVerifyDone, hstate, hpub, hok]

end Sys2Proof.Machine

namespace Sys2Proof.Machine

/-! ### Scans of the configuration CRC (R114 to R117) -/

/-- The fields that a comparison may change. -/
def crcCompareFields : List Fld :=
  Reg.CFG_CRC_STATUS.MISMATCH :: Reg.CFG_CRC_STATUS.EPISODES :: Reg.BOOT_HEALTH.COND :: logFields (evCode 1 0)

theorem crcCompare_keeps (s : State) (c : Nat) : Keeps crcCompareFields [.cfg, .pins, .evr, .out] s (s.crcCompare c) := by
  have hcount (n : Nat) : Keeps crcCompareFields [.cfg, .pins, .evr, .out] s { s with cfg := { s.cfg with differing := n } } :=
    Keeps.upd rfl rfl rfl rfl (Keeps.refl _ _ s) (h13 := .inl rfl)
  unfold State.crcCompare
  refine Keeps.ite (Keeps.refl _ _ s) (Keeps.ite (Keeps.ite ?same (hcount _)) (Keeps.ite (hcount _) ?differs))
  case same => exact Keeps.health (by decide) rfl (Keeps.setFlag (by decide) (hcount _))
  case differs =>
    exact Keeps.health (by decide) rfl (Keeps.log (fun f hf => by simp [crcCompareFields, hf]) rfl rfl
      (Keeps.count (by decide) (Keeps.setFlag (by decide) (hcount _))))

theorem crcCompare_scan (s : State) (c : Nat) : (s.crcCompare c).cfg.scan = s.cfg.scan := by
  have hhealth (v : State) (k : Nat) (b : Bool) : (v.health k b).cfg = v.cfg := (moves_health v k b).touches.2 .cfg rfl
  have hlog (v : State) (code : Nat) : (v.log code 0 []).cfg = v.cfg := (moves_log v code 0 []).touches.2 .cfg rfl
  unfold State.crcCompare
  split
  · rfl
  · split <;> dsimp only <;> split <;> simp only [hhealth, hlog, State.count, State.setFlag, State.set_cfg]

/-- The reference an adopted scan leaves. -/
def State.adopted (s : State) (c : Nat) : State :=
  ((s.set Reg.CFG_CRC_COMMIT.REF c).setFlag Reg.CFG_CRC_STATUS.REF_VALID true).setFlag Reg.CFG_CRC_CTL.ADOPT false

theorem adopted_holds {s : State} (h : s.filesOk = true) (c : Nat) :
    (s.adopted c).get Reg.CFG_CRC_COMMIT.REF = c % 2 ^ 32 ∧ (s.adopted c).get Reg.CFG_CRC_STATUS.REF_VALID = 1 ∧
      (s.adopted c).get Reg.CFG_CRC_CTL.ADOPT = 0 := by
  have href := State.filesOk_set (f := Reg.CFG_CRC_COMMIT.REF) (v := c) h
  refine ⟨?_, ?_, get_setFlag (filesOk_setFlag href) rfl false⟩
  · exact (get_setFlag_ne (.inl (by decide))).trans ((get_setFlag_ne (.inl (by decide))).trans (State.get_set h))
  · exact (get_setFlag_ne (.inl (by decide))).trans (get_setFlag href rfl true)

theorem adopted_keeps (s : State) (c : Nat) :
    Keeps [Reg.CFG_CRC_COMMIT.REF, Reg.CFG_CRC_STATUS.REF_VALID, Reg.CFG_CRC_CTL.ADOPT] [] s (s.adopted c) :=
  (((Keeps.refl _ _ s).set (by simp)).setFlag (by simp)).setFlag (by simp)

/-- The end of a scan before its comparison: LIVE, and the reference where an adopt is requested. -/
def State.scanShown (s : State) (c : Nat) : State :=
  if s.flag Reg.CFG_CRC_CTL.ADOPT then (s.dropScan.set Reg.CFG_CRC_LIVE.LIVE c).adopted c else s.dropScan.set Reg.CFG_CRC_LIVE.LIVE c

theorem scanShown_scan (s : State) (c : Nat) : (s.scanShown c).cfg.scan = none := by
  unfold State.scanShown State.adopted State.setFlag
  split <;> simp only [State.set_cfg, State.dropScan]

theorem scanShown_live {s : State} (h : s.filesOk = true) (c : Nat) : (s.scanShown c).get Reg.CFG_CRC_LIVE.LIVE = c % 2 ^ 32 := by
  have hlive : (s.dropScan.set Reg.CFG_CRC_LIVE.LIVE c).get Reg.CFG_CRC_LIVE.LIVE = c % 2 ^ 32 := State.get_set (by exact h)
  unfold State.scanShown
  split
  · exact ((adopted_keeps _ c).get (by decide)).trans hlive
  · exact hlive

theorem goes_scanComplete {s : State} (h : s.filesOk = true) {c : Nat} (hscan : s.cfg.scan = some c) :
    Goes .crcScanComplete s fun t => t.cfg.scan = none ∧ t.get Reg.CFG_CRC_LIVE.LIVE = c % 2 ^ 32 ∧
      (s.get Reg.CFG_CRC_CTL.ADOPT = 1 → t.get Reg.CFG_CRC_COMMIT.REF = c % 2 ^ 32 ∧ t.get Reg.CFG_CRC_STATUS.REF_VALID = 1 ∧
        t.get Reg.CFG_CRC_CTL.ADOPT = 0) := by
  have hcmp := crcCompare_keeps (s.scanShown c) c
  refine ⟨(s.scanShown c).crcCompare c, ?_, (crcCompare_scan ..).trans (scanShown_scan s c),
    (hcmp.get (by decide)).trans (scanShown_live h c), fun hadopt => ?_⟩
  · show execCrcScanComplete s = _
    simp only [execCrcScanComplete, hscan]
    rfl
  · have hflag : s.flag Reg.CFG_CRC_CTL.ADOPT = true := beq_of_eq hadopt
    obtain ⟨href, hvalid, hctl⟩ := adopted_holds (s := s.dropScan.set Reg.CFG_CRC_LIVE.LIVE c) (State.filesOk_set (by exact h)) c
    rw [← if_pos hflag (t := (s.dropScan.set Reg.CFG_CRC_LIVE.LIVE c).adopted c) (e := s.dropScan.set Reg.CFG_CRC_LIVE.LIVE c)] at href hvalid hctl
    exact ⟨(hcmp.get (by decide)).trans href, (hcmp.get (by decide)).trans hvalid, (hcmp.get (by decide)).trans hctl⟩

theorem goes_suspendTimeout {s : State} (h : s.filesOk = true) (hset : s.flag Reg.CFG_CRC_CTL.SUSPEND = true) :
    Goes .crcSuspendTimeout s fun t => t.flag Reg.CFG_CRC_CTL.SUSPEND = false ∧ t.cfg.scan = none := by
  have hlog : Keeps (logFields (evCode 1 1)) [.evr, .out] (s.setSuspend false) ((s.setSuspend false).log (evCode 1 1) 0 []) :=
    Keeps.log (fun f hf => hf) rfl rfl (Keeps.refl _ _ _)
  refine ⟨(s.setSuspend false).log (evCode 1 1) 0 [], ?_, ?_, ?_⟩
  · show execCrcSuspendTimeout s = _
    rw [execCrcSuspendTimeout, if_pos hset]
  · exact (flag_eq_of_get_eq (hlog.get (by decide))).trans (setSuspend_flag h false)
  · exact (congrArg Cfg.scan (hlog.2.1 .cfg (by decide) rfl)).trans (setSuspend_scan (by rw [hset]; decide))

/-- Settles O25: the start, the end, and the three changes that discard a scan. -/
theorem configurationCrcScans : Obligations.ConfigurationCrcScans := by
  unfold Obligations.ConfigurationCrcScans
  intro s h hin
  refine ⟨⟨_, rfl, rfl, Keeps.upd rfl rfl rfl rfl (Keeps.refl _ _ s) (h13 := .inl rfl)⟩, fun c hscan => goes_scanComplete h hscan,
    fun who on hr => goes_guarded hr rfl ⟨setSuspend_flag h on, setSuspend_scan, setSuspend_keeps s on⟩, goes_suspendTimeout h,
    fun who hr => goes_guarded hr rfl ⟨?_, rfl, ?_⟩⟩
  · exact (get_moves (moves_dropScan _) rfl _).trans (get_setFlag h rfl true)
  · exact ((Keeps.refl _ _ s).setFlag (by simp)).moves (moves_dropScan _) rfl

/-! ### A commit (R110 to R113) -/

/-- A field below the aligner's window. -/
def BelowAligner (g : Fld) : Prop := g.key < 8 * 0x160000

theorem ne_belowAligner {f : Fld} (hk : 8 * 0x160000 ≤ f.key) (k : Nat) :
    ∀ g, BelowAligner g → (f.ix k).key ≠ g.key ∨ (f.ix k).dom ≠ g.dom := fun _ hg =>
  .inl fun heq => Fld.ix_above k (lt_of_lt_of_le hg hk) heq.symm

theorem spares_absentBits (s : State) : Spares BelowAligner s s.absentBits := by
  have hreq (v : State) (i : Nat) : Spares BelowAligner v (v.putStreamBit Reg.ALN_REQ.REQ i false) :=
    (Spares.refl _ v).set (ne_belowAligner (f := Reg.ALN_REQ.REQ) (by decide) _)
  exact Spares.foldl (fun v k _ => Spares.ite (Spares.refl _ v)
    ((Spares.refl _ v).set (ne_belowAligner (f := Reg.ALN_OSTREAM.EN) (by decide) k)))
    (Spares.foldl (fun v i _ => Spares.ite (hreq v i) (Spares.refl _ v)) (Spares.refl _ s))

section
variable {s u : State} {who : Requester} {t : Tai}

/-- A commit of the owner of the open transaction at its instant. -/
theorem exec_commit (h : Ready s who) (hu : u = s.moveTo t) (hstage : u.mayStage who = true) :
    exec (.txnCommit who t) s = .next (
      if u.cfg.beginAt + 1000 * msUnit ≤ u.time.elapsed then u.txnTick.txnEnd 3
      else if u.flag Reg.CFG_TXN_STATUS.OVERFLOW then u.txnEnd 7
      else if u.swapPending then u.set Reg.CFG_TXN_STATUS.RESULT 6
      else if u.blockRuns .aligner then
        ({ u.txnTick with cfg := { u.cfg with commitAt := u.time.tai } }.set Reg.CFG_TXN_STATUS.STATE 2).set
          Reg.CFG_TXN_APPLY_SLICE.SLICE u.nextClose
      else u.txnTick.txnApply.set Reg.CFG_TXN_APPLY_SLICE.SLICE ones64) := by
  subst hu
  show execTxnCommit who t s = _
  rw [execTxnCommit, (h.moveTo t).guarded, hstage, if_neg (by decide)]

theorem txnTick_of_open (hopen : u.get Reg.CFG_TXN_STATUS.STATE = 1) : u.txnTick =
    u.set Reg.CFG_TXN_STATUS.ELAPSED (min 1000 ((u.time.elapsed - u.cfg.beginAt) / msUnit)) :=
  if_pos (beq_of_eq hopen)

/-- A commit while the aligner runs: COMMITTING, with the next slice to close and the frozen ELAPSED. -/
theorem committing_holds (h : u.filesOk = true) (hopen : u.get Reg.CFG_TXN_STATUS.STATE = 1) {v : State}
    (hv : v = ({ u.txnTick with cfg := { u.cfg with commitAt := u.time.tai } }.set Reg.CFG_TXN_STATUS.STATE 2).set
      Reg.CFG_TXN_APPLY_SLICE.SLICE u.nextClose) :
    v.get Reg.CFG_TXN_STATUS.STATE = 2 ∧ v.get Reg.CFG_TXN_APPLY_SLICE.SLICE = u.nextClose % 2 ^ 64 ∧ v.cfg.commitAt = u.time.tai ∧
      v.get Reg.CFG_TXN_STATUS.ELAPSED = min 1000 ((u.time.elapsed - u.cfg.beginAt) / msUnit) ∧
      Keeps [Reg.CFG_TXN_STATUS.STATE, Reg.CFG_TXN_STATUS.ELAPSED, Reg.CFG_TXN_APPLY_SLICE.SLICE] [.cfg] u v := by
  have htick : u.txnTick.filesOk = true := (moves_txnTick u).files h
  subst hv
  refine ⟨?_, State.get_set (State.filesOk_set (by exact htick)), by simp only [State.set_cfg], ?_, ?_⟩
  · exact (State.get_set_ne (.inl (by decide))).trans (State.get_set (by exact htick))
  · rw [State.get_set_ne (.inl (by decide)), State.get_set_ne (.inl (by decide)), State.get_upd, txnTick_of_open hopen, State.get_set h]
    exact Nat.mod_eq_of_lt (lt_of_le_of_lt (min_le_left ..) (by decide))
  · refine Keeps.set (by simp) (Keeps.set (by simp) (Keeps.upd rfl rfl rfl rfl ?_ (h13 := .inl rfl)))
    rw [txnTick_of_open hopen]
    exact (Keeps.refl _ _ u).set (by simp)

/-- The register of CFG_CRC_COMMIT holds REF alone. -/
theorem fieldsAt_crcCommit : fieldsAt Reg.CFG_CRC_COMMIT.REF.base = [(Reg.CFG_CRC_COMMIT.REF, Reg.CFG_CRC_COMMIT.REF, 0)] := by decide +kernel

theorem applyStaged_crcCommit (x : Nat) :
    u.applyStaged Reg.CFG_CRC_COMMIT.REF.base x = u.set Reg.CFG_CRC_COMMIT.REF (x % 2 ^ 32) := by
  rw [State.applyStaged, fieldsAt_crcCommit]
  show u.set Reg.CFG_CRC_COMMIT.REF (x / 2 ^ 0 % 2 ^ 32) = _
  rw [pow_zero, Nat.div_one]

/-- A commit of CFG_CRC_COMMIT with the aligner stopped. -/
theorem applied_holds (h : u.filesOk = true) {x : Nat} (hstaged : u.cfg.staged = [(Reg.CFG_CRC_COMMIT.REF.base, x)]) {v : State}
    (hv : v = u.txnApply.set Reg.CFG_TXN_APPLY_SLICE.SLICE ones64) :
    v.get Reg.CFG_CRC_COMMIT.REF = x % 2 ^ 32 ∧ v.get Reg.CFG_CRC_STATUS.REF_VALID = 1 ∧ v.get Reg.CFG_TXN_STATUS.STATE = 0 ∧
      v.get Reg.CFG_TXN_STATUS.RESULT = 1 ∧ v.get Reg.CFG_TXN_APPLY_SLICE.SLICE = ones64 ∧ v.cfg.staged = [] := by
  let w := (u.set Reg.CFG_CRC_COMMIT.REF (x % 2 ^ 32)).setFlag Reg.CFG_CRC_STATUS.REF_VALID true
  have happly : u.txnApply = w.absentBits.dropScan.txnEnd 1 := by
    simp only [State.txnApply, hstaged, List.foldl_cons, List.foldl_nil, applyStaged_crcCommit]
    rfl
  have href : (u.set Reg.CFG_CRC_COMMIT.REF (x % 2 ^ 32)).filesOk = true := State.filesOk_set h
  have hdrop : w.absentBits.dropScan.filesOk = true := (moves_dropScan _).files ((moves_absentBits w).files (filesOk_setFlag href))
  obtain ⟨hstate, -, -, hresult, -, hcfg, -⟩ := txnEnd_ended hdrop rfl (result := 1) (by decide)
  have hspared : Spares BelowAligner w w.absentBits.dropScan := (spares_absentBits w).moves (moves_dropScan _) rfl
  have hshown {g : Fld} (hg : BelowAligner g) (hne : ∀ f ∈ Reg.CFG_TXN_APPLY_SLICE.SLICE :: txnEndFields, g.key ≠ f.key ∨ g.dom ≠ f.dom) :
      v.get g = w.get g := by
    have hend : (w.absentBits.dropScan.txnEnd 1).get g = w.absentBits.dropScan.get g :=
      (txnEnd_keeps ..).get fun f hf => hne f (List.mem_cons_of_mem _ hf)
    have hslice : v.get g = u.txnApply.get g := by
      rw [hv]
      exact State.get_set_ne ((hne _ List.mem_cons_self).imp Ne.symm Ne.symm)
    rw [hslice, happly, hend, hspared.get_eq g hg]
  have hgone {g : Fld} (hne : g.key ≠ Reg.CFG_TXN_APPLY_SLICE.SLICE.key) : v.get g = (w.absentBits.dropScan.txnEnd 1).get g := by
    rw [hv, happly]
    exact State.get_set_ne (.inl hne.symm)
  refine ⟨?_, ?_, (hgone (by decide)).trans hstate, (hgone (by decide)).trans hresult, ?_, ?_⟩
  · rw [hshown (by unfold BelowAligner; decide) (by decide), get_setFlag_ne (.inl (by decide)), State.get_set h]
    exact Nat.mod_mod ..
  · rw [hshown (by unfold BelowAligner; decide) (by decide), get_setFlag href rfl]
    rfl
  · rw [hv, happly, State.get_set ((moves_txnEnd ..).files hdrop)]
    exact Nat.mod_eq_of_lt (by decide)
  · rw [hv, happly, State.set_cfg, hcfg]

end

/-- Settles O29: the commit at its instant, in the order in which R110 and R111 ask. -/
theorem commitsWaitOrTakeEffect : Obligations.CommitsWaitOrTakeEffect := by
  unfold Obligations.CommitsWaitOrTakeEffect
  intro s u who t h hu hstage
  have hexec := exec_commit h hu hstage
  have hfiles : u.filesOk = true := hu ▸ (h.moveTo t).1
  have hopen := mayStage_open hstage
  have htick : u.txnTick.filesOk = true := (moves_txnTick u).files hfiles
  refine ⟨fun hlate => ?_, fun htime => ⟨fun hover => ?_, fun hover => ⟨fun hswap => ?_, fun hswap hrun => ?_, fun hswap hrun x hx => ?_⟩⟩⟩
  · rw [if_pos hlate] at hexec
    exact ⟨_, hexec, txnEnd_ended htick ((moves_txnTick u).touches.2 .out rfl) (by decide)⟩
  all_goals rw [if_neg (Nat.not_le.mpr htime)] at hexec
  · rw [if_pos hover] at hexec
    exact ⟨_, hexec, txnEnd_ended hfiles rfl (by decide)⟩
  all_goals rw [if_neg (by rw [hover]; decide)] at hexec
  · rw [if_pos hswap] at hexec
    exact ⟨_, hexec, State.get_set hfiles, (Keeps.refl _ _ u).set (by simp)⟩
  all_goals rw [if_neg (by rw [hswap]; decide)] at hexec
  · rw [if_pos hrun] at hexec
    exact ⟨_, hexec, committing_holds hfiles hopen rfl⟩
  · rw [if_neg (by rw [hrun]; decide)] at hexec
    refine ⟨_, hexec, applied_holds htick ?_ rfl⟩
    rw [(moves_txnTick u).touches.2 .cfg rfl, hx]

end Sys2Proof.Machine

namespace Sys2Proof.Machine

/-! ### Writing what a field holds -/

theorem RegFile.insert_self {d k v : Nat} {r : RegFile} (h : r.rising = true) (hg : r.get d k = v) (hv : v ≠ d) :
    RegFile.insert k v r = r := by
  induction r with
  | nil => exact absurd hg.symm hv
  | cons e r ih =>
    obtain ⟨j, x⟩ := e
    by_cases hk : k = j
    · subst hk
      obtain rfl : x = v := by simpa [RegFile.get] using hg
      simp [RegFile.insert]
    · have htail : RegFile.get d k r = v := by simpa [RegFile.get, hk] using hg
      have hlow : ¬k < j := fun hlt => by
        refine hv (htail.symm.trans (RegFile.get_none fun e he => hlt.trans ?_))
        exact RegFile.rising_head h e he
      simp [RegFile.insert, hk, hlow, ih (RegFile.rising_tail h) htail]

/-- A one-bit field that is 1, and not by its reset value, takes 1 again. -/
theorem setFlag_self {s : State} {f : Fld} (h : s.filesOk = true) (hf : s.flag f = true) (hw : f.width = 1) (hr : f.rst = 0) :
    s.setFlag f true = s := by
  have hget : RegFile.get 0 f.key (s.file f.dom) = 1 := by
    have : s.get f = 1 := eq_of_beq hf
    rwa [State.get, hr] at this
  have hset (r : RegFile) (hr : r.rising = true) (hg : RegFile.get 0 f.key r = 1) : RegFile.set 0 f.key (1 % 2 ^ 1) r = r :=
    RegFile.insert_self hr hg Nat.one_ne_zero
  simp only [State.filesOk, Bool.and_eq_true] at h
  unfold State.setFlag State.set
  simp only [hw, hr, b2n, if_true]
  cases hd : f.dom <;> simp only [hd, State.file] at hget <;> simp only
  · rw [hset _ h.1.1 hget]
  · rw [hset _ h.1.2 hget]
  · rw [hset _ h.2 hget]

/-! ### Writes of EN (R106) -/

theorem Block.en_rst (b : Block) : b.en.rst = 0 := by
  cases b with
  | ring r => cases r <;> rfl
  | _ => rfl

section
variable {s : State} {b : Block}

theorem enWrite_stays (hstate : 2 ≤ s.get Reg.BOOT_STATUS.STATE) (en : Bool) (start stop : State → State) :
    s.enWrite b en start stop = s := if_pos hstate

theorem enWrite_same (h : s.filesOk = true) (hstate : s.get Reg.BOOT_STATUS.STATE < 2) {en : Bool} (hen : s.flag b.en = en)
    (start stop : State → State) : s.enWrite b en start stop = s := by
  rw [State.enWrite, if_neg (Nat.not_le.mpr hstate)]
  split
  next hearly =>
    simp only [Bool.and_eq_true] at hearly
    exact setFlag_self h (hen.trans hearly.1.1) b.fields.1.1 b.en_rst
  · simp [State.enEffect, State.enFields, hen]

/-- EN set during a shutdown: PEND. -/
theorem enWrite_restart (hstate : s.get Reg.BOOT_STATUS.STATE < 2) (hen : s.flag b.en = false) (hbusy : s.flag b.busy = true)
    (start stop : State → State) : s.enWrite b true start stop = (s.setFlag b.en true).setFlag b.pend true := by
  simp [State.enWrite, Nat.not_le.mpr hstate, hbusy, State.enEffect, hen, State.enFields]

/-- EN cleared while PEND: the restart is withdrawn. -/
theorem enWrite_withdraw (hstate : s.get Reg.BOOT_STATUS.STATE < 2) (hen : s.flag b.en = true) (hpend : s.flag b.pend = true)
    (start stop : State → State) : s.enWrite b false start stop = (s.setFlag b.en false).setFlag b.pend false := by
  simp [State.enWrite, Nat.not_le.mpr hstate, hpend, State.enEffect, hen, State.enFields]

/-- EN set of a stopped block before its ledger step. -/
theorem enWrite_early (hstate : s.get Reg.BOOT_STATUS.STATE < 2) (hbusy : s.flag b.busy = false) (hmay : s.mayStart b = false)
    (start stop : State → State) : s.enWrite b true start stop = s.setFlag b.en true := by
  simp [State.enWrite, Nat.not_le.mpr hstate, hbusy, hmay]

/-- EN and PEND written together. -/
theorem enPend_holds (h : s.filesOk = true) (b : Block) (v : Bool) :
    ((s.setFlag b.en v).setFlag b.pend v).flag b.en = v ∧ ((s.setFlag b.en v).setFlag b.pend v).flag b.pend = v ∧
      Keeps [b.en, b.pend] [] s ((s.setFlag b.en v).setFlag b.pend v) := by
  obtain ⟨⟨hen, -, hpend⟩, -, hne, -⟩ := b.fields
  exact ⟨(flag_setFlag_ne (.inl hne.symm)).trans (flag_setFlag h hen), flag_setFlag (filesOk_setFlag h) hpend,
    ((Keeps.refl _ _ s).setFlag (by simp)).setFlag (by simp)⟩

end

/-- The command that writes EN of a block which the write reaches is `enWrite` of the block; a plain block does nothing of its own. -/
theorem exec_enable {s : State} {who : Requester} {b : Block} {en : Bool} (hwf : b.wellFormed = true) (h : MayWrite s who)
    (htakes : s.takesEnable b en = true) :
    ∃ start stop, exec (b.enable who en) s = .next (s.enWrite b en start stop) := by
  have hopen {c : Instr} {a : Nat} {f : State → State} {start stop : State → State} (hc : exec c s = .next (s.open_ who a f))
      (hf : f s = s.enWrite b en start stop) : ∃ start stop, exec c s = .next (s.enWrite b en start stop) :=
    ⟨start, stop, by rw [hc, h.open_, hf]⟩
  cases b with
  | port p =>
    refine hopen rfl (portEn_unlocked en (fun hen => ?_) who)
    simpa [State.takesEnable, hen] using htakes
  | ring r => exact hopen rfl (if_neg (by simpa [State.takesEnable] using htakes))
  | ingQueue n =>
    refine hopen rfl (if_neg fun ⟨hn, hmode⟩ => ?_)
    simp [State.takesEnable, hn, hmode] at htakes
  | filterGroup g => exact ⟨_, _, exec_fltGroupEnable h (of_decide_eq_true hwf) htakes en⟩
  | parser | filter | aligner | hostRing | alarm | capture | energy | cascade => exact hopen rfl rfl

/-- A write of EN of a block that only turns on and off. -/
theorem switches_of_enWrite {s : State} (h : s.filesOk = true) (hstate : s.get Reg.BOOT_STATUS.STATE < 2) {c : Instr} {b : Block} {en : Bool}
    (hc : exec c s = .next (s.enWrite b en id id)) : Switches c b en s := by
  intro hen
  refine ⟨_, hc, ?_⟩
  obtain ⟨⟨hwen, hwbusy, hwpend⟩, hnebusy, hnepend, hnebp⟩ := b.fields
  have hEn (v : Bool) : (s.setFlag b.en v).flag b.en = v := flag_setFlag h hwen
  have hEnBusy (v : Bool) : (s.setFlag b.en v).flag b.busy = s.flag b.busy := flag_setFlag_ne (.inl hnebusy)
  have hEnPend (v : Bool) : (s.setFlag b.en v).flag b.pend = s.flag b.pend := flag_setFlag_ne (.inl hnepend)
  have hkeepsEn (v : Bool) : Keeps [b.en, b.busy, b.pend] [] s (s.setFlag b.en v) := (Keeps.refl _ _ s).setFlag (by simp)
  have hboth (v : Bool) := enPend_holds h b v
  have hbothBusy (v : Bool) : ((s.setFlag b.en v).setFlag b.pend v).flag b.busy = s.flag b.busy :=
    (flag_setFlag_ne (.inl hnebp.symm)).trans (hEnBusy v)
  have hkeepsBoth (v : Bool) : Keeps [b.en, b.busy, b.pend] [] s ((s.setFlag b.en v).setFlag b.pend v) :=
    (hkeepsEn v).setFlag (by simp)
  cases en with
  | true =>
    have hoff : s.flag b.en = false := eq_false_of_ne_true hen
    by_cases hbusy : s.flag b.busy = true
    · rw [enWrite_restart hstate hoff hbusy]
      exact ⟨(hboth true).1, by rw [hbothBusy, hbusy]; rfl, by rw [(hboth true).2.1, hbusy]; rfl, hkeepsBoth true⟩
    · rw [Bool.not_eq_true] at hbusy
      by_cases hmay : s.mayStart b = true
      · rw [enWrite_start hstate hoff hbusy hmay, id]
        obtain ⟨hen', hbusy'⟩ := flags_started h b
        have hpend' : (s.started b).flag b.pend = s.flag b.pend := (flag_setFlag_ne (.inl hnebp)).trans (hEnPend true)
        exact ⟨hen', by rw [hbusy', hmay]; simp, by rw [hpend', hbusy]; rfl, (hkeepsEn true).setFlag (by simp)⟩
      · rw [Bool.not_eq_true] at hmay
        rw [enWrite_early hstate hbusy hmay]
        exact ⟨hEn true, by rw [hEnBusy, hmay]; simp, by rw [hEnPend, hbusy]; rfl, hkeepsEn true⟩
  | false =>
    have hon : s.flag b.en = true := eq_true_of_ne_false hen
    by_cases hpend : s.flag b.pend = true
    · rw [enWrite_withdraw hstate hon hpend]
      exact ⟨(hboth false).1, by rw [hbothBusy]; simp, (hboth false).2.1, hkeepsBoth false⟩
    · rw [Bool.not_eq_true] at hpend
      rw [enWrite_stop hstate hon hpend, id, ite_self]
      exact ⟨hEn false, by rw [hEnBusy]; simp, by rw [hEnPend, hpend]; rfl, hkeepsEn false⟩

/-! ### What a block does as its shutdown completes leaves its PEND -/

theorem ne_of_eq_fld {f a : Fld} (h : f.key ≠ a.key) : ∀ g, g = a → f.key ≠ g.key ∨ f.dom ≠ g.dom := fun _ hg => .inl (hg ▸ h)

theorem spares_alnIrq {f : Fld} (s : State) (h : f.key ≠ Reg.ALN_CTL.PEND.key) : Spares (· = Reg.ALN_CTL.PEND) s (s.alnIrq f) :=
  (Spares.refl _ s).irq (ne_of_eq_fld h)

theorem spares_hostRaise (s : State) : Spares (· = Reg.ALN_CTL.PEND) s s.hostRaise := by
  unfold State.hostRaise
  refine Spares.ite (Spares.ofParts (spares_alnIrq _ (by decide)) rfl rfl rfl) ?_
  exact (Spares.refl _ s).parts rfl rfl rfl

theorem spares_deliverSlice (s : State) (x : Slice) (final : Bool) (buf : Nat) :
    Spares (· = Reg.ALN_CTL.PEND) s (s.deliverSlice x final buf) := by
  unfold State.deliverSlice
  refine Spares.ite (Spares.refl _ s) (Spares.ite ?miss ?_)
  case miss => exact ((Spares.refl _ s).count (ne_of_eq_fld (by decide))).trans (spares_alnIrq _ (by decide))
  extract_lets only lse s1 s2 s3 word s4 y
  have h2 : Spares (· = Reg.ALN_CTL.PEND) s s2 := by
    have h1 : Spares (· = Reg.ALN_CTL.PEND) s s1 := (Spares.refl _ s).moves (moves_emit ..) rfl
    exact Spares.ite h1 (h1.moves (moves_emit ..) rfl)
  have h3 : Spares (· = Reg.ALN_CTL.PEND) s s3 := by
    unfold s3
    clear_value lse
    cases lse with
    | none => exact h2
    | some o => exact Spares.ite h2 (h2.moves (moves_emit ..) rfl)
  have h4 : Spares (· = Reg.ALN_CTL.PEND) s s4 := h3.moves (moves_emit ..) rfl
  exact ((h4.moves (moves_setSlice ..) rfl).set (ne_of_eq_fld (by decide))).trans (spares_hostRaise _)

theorem spares_retireSlice (s : State) (x : Slice) (buf : Nat) : Spares (· = Reg.ALN_CTL.PEND) s (s.retireSlice x buf) := by
  unfold State.retireSlice
  have hset := (Spares.refl (· = Reg.ALN_CTL.PEND) s).moves (moves_setSlice s { x with state := 5 }) rfl
  exact Spares.ite (hset.trans (spares_deliverSlice ..)) hset

theorem spares_alnStopped (bufs : List Nat) (s : State) : Spares (· = Reg.ALN_CTL.PEND) s (s.alnStopped bufs) := by
  unfold State.alnStopped
  have hjournal : Spares (· = Reg.ALN_CTL.PEND) s { s with aln := { s.aln with journal := [] } } := (Spares.refl _ s).parts rfl rfl rfl
  exact Spares.set (ne_of_eq_fld (by decide)) (Spares.foldl (fun v e _ => spares_retireSlice ..)
    (hjournal.set (ne_of_eq_fld (by decide))))

theorem fltCtl_groupPend {g : Nat} (hg : g < 32) : FltCtl (Block.filterGroup g).pend := by
  simp only [FltCtl, Block.pend, Fld.key_ix (f := Reg.FLT_G_CTL.PEND) rfl]
  simp only [Fld.key, Reg.FLT_G_CTL.PEND]
  omega

theorem groupsStop_pend (s : State) : s.groupsStop.get Reg.FLT_CTL.PEND = s.get Reg.FLT_CTL.PEND := by
  have hgroups : Spares (· = Reg.FLT_CTL.PEND) s ((List.range 32).foldl (fun s g =>
      (s.setFlag (Reg.FLT_G_CTL.BUSY.ix g) false).setFlag (Reg.FLT_G_CTL.PEND.ix g) false) s) := by
    refine Spares.foldl (fun v g _ => ((Spares.refl _ v).setFlag ?_).setFlag ?_) (Spares.refl _ s)
    · exact fun e he => he ▸ group_ne_chain g _ (by simp [Block.pend]) _ (by simp [Block.busy])
    · exact fun e he => he ▸ group_ne_chain g _ (by simp [Block.pend]) _ (by simp [Block.pend])
  exact ((spares_showSdm _).get_eq _ (.inl (by decide))).trans (hgroups.get_eq _ rfl)

theorem almStopped_pend (s : State) : s.almStopped.get Reg.ALM_CTL.PEND = s.get Reg.ALM_CTL.PEND := by
  unfold State.almStopped State.almLevels
  exact (get_setFlag_ne (.inl (by decide))).trans ((State.get_set_ne (.inl (by decide))).trans (by simp only [State.get_upd]))

/-- PEND of a block that stops reads as before. -/
theorem blockStopped_pend {b : Block} (hwf : b.wellFormed = true) (s : State) (bufs : List Nat) :
    (s.blockStopped bufs b).flag b.pend = s.flag b.pend := by
  refine flag_eq_of_get_eq ?_
  cases b with
  | port p => exact get_moves (moves_portStopped s p) rfl _
  | filter => exact groupsStop_pend s
  | filterGroup g => exact (spares_showSdm s).get_eq _ (fltCtl_groupPend (of_decide_eq_true hwf))
  | aligner => exact (spares_alnStopped bufs s).get_eq _ rfl
  | alarm => exact almStopped_pend s
  | cascade => exact get_moves (moves_casStopped s) rfl _
  | ring _ | ingQueue _ | parser | hostRing | capture | energy => rfl

theorem blockStopped_plain {b : Block} (h : b.plain = true) (s : State) (bufs : List Nat) : s.blockStopped bufs b = s := by
  cases b with
  | ring _ | ingQueue _ | parser | hostRing | capture => rfl
  | port _ | filter | filterGroup _ | aligner | alarm | energy | cascade => exact absurd h Bool.false_ne_true

theorem blockStart_plain {b : Block} (h : b.plain = true) (s : State) : s.blockStart b = s := by
  cases b with
  | ring _ | ingQueue _ | parser | hostRing | capture => rfl
  | port _ | filter | filterGroup _ | aligner | alarm | energy | cascade => exact absurd h Bool.false_ne_true

theorem goes_shutdown {s : State} (h : s.filesOk = true) {b : Block} (hwf : b.wellFormed = true) (bufs : List Nat) (hstop : s.stopping b = true)
    (hquiet : s.quiet b = true) (hpend : s.flag b.pend = false) : Goes (.blockShutdownComplete b bufs) s fun t =>
      t.flag b.busy = false ∧ (b.plain = true → Keeps [b.busy] [] s t) := by
  refine goes_stopped hstop hquiet ((blockStopped_pend hwf s bufs).trans hpend)
    ⟨flag_setFlag ((moves_blockStopped s bufs b).files h) b.fields.1.2.1, fun hplain => ?_⟩
  rw [blockStopped_plain hplain]
  exact (Keeps.refl _ _ s).setFlag (by simp)

/-- A plain block with PEND starts again as its shutdown completes. -/
theorem goes_plainRestart {s : State} (h : s.filesOk = true) {b : Block} (bufs : List Nat) (hplain : b.plain = true)
    (hstop : s.stopping b = true) (hquiet : s.quiet b = true) (hpend : s.flag b.pend = true) :
    Goes (.blockShutdownComplete b bufs) s fun t => t.flag b.pend = false ∧ t.flag b.busy = true ∧ Keeps [b.pend] [] s t := by
  have hbusy : s.flag b.busy = true := by
    simp only [State.stopping, Bool.and_eq_true] at hstop
    exact hstop.1
  refine ⟨s.setFlag b.pend false, ?_, flag_setFlag h b.fields.1.2.2, (flag_setFlag_ne (.inl b.fields.2.2.2.symm)).trans hbusy,
    (Keeps.refl _ _ s).setFlag (by simp)⟩
  show execBlockShutdownComplete b bufs s = _
  simp [execBlockShutdownComplete, hstop, hquiet, State.enQuiesced, blockStopped_plain hplain, hpend, blockStart_plain hplain]

/-- Settles O33: a write of EN is `enWrite` in the row of R106's table that its premises name, and the end of a shutdown leaves PEND. -/
theorem blocksFollowTheEnableTable : Obligations.BlocksFollowTheEnableTable := by
  unfold Obligations.BlocksFollowTheEnableTable
  intro s who b en hwf h
  refine ⟨fun htakes => ?table, fun bufs hstop hquiet hpend => goes_shutdown h.1 hwf bufs hstop hquiet hpend,
    fun bufs hplain hstop hquiet hpend => goes_plainRestart h.1 bufs hplain hstop hquiet hpend, fun hstate => ?switches⟩
  case table =>
    obtain ⟨start, stop, hexec⟩ := exec_enable hwf h htakes
    refine ⟨fun hstate => by rw [hexec, enWrite_stays hstate], fun hstate => ⟨fun hen => by rw [hexec, enWrite_same h.1 hstate hen], ?_, ?_, ?_⟩⟩
    · rintro hen hbusy rfl
      exact ⟨_, hexec, by rw [enWrite_restart hstate hen hbusy]; exact enPend_holds h.1 b true⟩
    · rintro hen hpend rfl
      exact ⟨_, hexec, by rw [enWrite_withdraw hstate hen hpend]; exact enPend_holds h.1 b false⟩
    · rintro hen hbusy hmay rfl
      refine ⟨_, hexec, ?_⟩
      rw [enWrite_early hstate hbusy hmay]
      exact ⟨flag_setFlag h.1 b.fields.1.1, (Keeps.refl _ _ s).setFlag (by simp)⟩
  case switches =>
    have hplain {c : Instr} {a : Nat} {f : State → State} {b : Block} (hc : exec c s = .next (s.open_ who a f))
        (hf : f s = s.enWrite b en id id) : Switches c b en s := switches_of_enWrite h.1 hstate (by rw [hc, h.open_, hf])
    refine ⟨?_, ?_, hplain rfl rfl, hplain rfl rfl, hplain rfl rfl⟩
    · rintro r rfl hused
      exact hplain rfl (if_neg (by rw [hused]; decide))
    · rintro n rfl hused
      exact hplain rfl (if_neg (by rintro ⟨hn, hmode⟩; exact hused.elim (· hn) hmode))

end Sys2Proof.Machine

namespace Sys2Proof.Machine

/-! ### What the end of a key command shows (R466) -/

/-- The fields outside KEY_OUT that the end of a key command writes. -/
def keyEndFields : List Fld := [Reg.KEY_STATUS.RESULT, Reg.KEY_STATUS.BUSY, Reg.SEC.KEY_OPS, Reg.SEC_IRQ.KEY_DONE, Reg.KEY_STATUS.OUT_LEN]

/-- A field that every requester shares and that the end of a key command does not write. -/
def keyAside (g : Fld) : Prop := g.key < bankSpan ∧ ∀ f ∈ keyEndFields, g.key ≠ f.key ∨ g.dom ≠ f.dom

theorem leVal_lt (bs : Bytes) : leVal bs < 256 ^ bs.length := by
  induction bs with
  | nil => exact Nat.one_pos
  | cons b bs ih =>
    rw [leVal, List.length_cons, pow_succ']
    have := b.isLt
    omega

theorem leAt_four_lt (bs : Bytes) (off : Nat) : leAt bs off 4 < 2 ^ 32 := by
  have hlen : (slice bs off 4).length ≤ 4 := by simp [slice]
  calc leAt bs off 4 < 256 ^ (slice bs off 4).length := leVal_lt _
    _ ≤ 256 ^ 4 := Nat.pow_le_pow_right (by decide) hlen
    _ = 2 ^ 32 := by decide

theorem keyOut_word_key (who : Requester) (k : Nat) :
    ((Reg.KEY_OUT.OUT.ix k).of who).key = who.bank * bankSpan + 8 * (0x54800 + k * 4) := by
  simp [Fld.key, Fld.of, Fld.inBank, Fld.ix, Reg.KEY_OUT.OUT]

theorem keyOut_word_ne_shared {g : Fld} (hg : g.key < bankSpan) (who : Requester) (k : Nat) : ((Reg.KEY_OUT.OUT.ix k).of who).key ≠ g.key := by
  have hbank : 1 ≤ who.bank := by cases who <;> simp only [Requester.bank] <;> omega
  have : bankSpan ≤ who.bank * bankSpan := Nat.le_mul_of_pos_left _ hbank
  rw [keyOut_word_key]
  omega

/-- The copy of KEY_OUT of the previous issuer returns to zero. -/
def State.keyOutCleared (s : State) : State :=
  match s.keys.issuer with
  | some w => State.keyOut.keyOutClear s w
  | none => s

/-- The bytes of an answer stand in a requester's KEY_OUT, in words. -/
def State.keyOutWords (s : State) (who : Requester) (bs : Bytes) : State :=
  (List.range 128).foldl (fun s k => s.set ((Reg.KEY_OUT.OUT.ix k).of who) (leAt bs (4 * k) 4)) s.keyOutCleared

theorem moves_keyOutCleared (s : State) : Moves [.files] s s.keyOutCleared := by
  unfold State.keyOutCleared
  split
  · exact moves_keyOut_keyOutClear ..
  · exact Moves.refl _ _

theorem moves_keyOutWords (s : State) (who : Requester) (bs : Bytes) : Moves [.files] s (s.keyOutWords who bs) :=
  Moves.foldl (fun _ _ => moves_set ..) (moves_keyOutCleared s)

/-- KEY_OUT is the requester's own: the fields that all share read the same. -/
theorem spares_keyOutWords (s : State) (who : Requester) (bs : Bytes) : Spares (·.key < bankSpan) s (s.keyOutWords who bs) := by
  refine Spares.foldl (fun v k _ => (Spares.refl _ v).set fun g hg => .inl (keyOut_word_ne_shared hg who k)) ?_
  unfold State.keyOutCleared
  split
  next w _ => exact Spares.foldl (fun v k _ => (Spares.refl _ v).set fun g hg => .inl (keyOut_word_ne_shared hg w k)) (Spares.refl _ s)
  · exact Spares.refl _ s

theorem keyOutWords_get {s : State} (h : s.filesOk = true) (who : Requester) (bs : Bytes) {k : Nat} (hk : k < 128) :
    (s.keyOutWords who bs).get ((Reg.KEY_OUT.OUT.ix k).of who) = leAt bs (4 * k) 4 := by
  refine (get_foldl_set (place := fun k => (Reg.KEY_OUT.OUT.ix k).of who) (val := fun _ k => leAt bs (4 * k) 4)
    ((moves_keyOutCleared s).files h) hk (fun _ _ _ _ => rfl) fun j hj => ?_).trans (Nat.mod_eq_of_lt (leAt_four_lt bs _))
  simp only [keyOut_word_key]
  omega

/-- The end of a command up to what STATUS shows: the answer and its length stand, and no command runs. -/
def State.keyAnswered (s : State) (who : Requester) (bs : Bytes) : State :=
  let s1 := (s.keyOutWords who bs).set Reg.KEY_STATUS.OUT_LEN bs.length
  { s1 with keys := { s1.keys with job := none, issuer := some who } }

theorem keyEnd_eq (s : State) (who : Requester) (r : Nat) (bs : Bytes) :
    s.keyEnd who r bs = ((((s.keyAnswered who bs).set Reg.KEY_STATUS.RESULT r).setFlag Reg.KEY_STATUS.BUSY false).count Reg.SEC.KEY_OPS).irq
      Reg.SEC_IRQ.KEY_DONE Reg.SEC_IRQ_MASK.MASK 104 := rfl

theorem keyAnswered_keeps (s : State) (who : Requester) (bs : Bytes) :
    Keeps keyEndFields [.keys, .out] (s.keyOutWords who bs) (s.keyAnswered who bs) := by
  unfold State.keyAnswered
  exact Keeps.upd rfl rfl rfl rfl (Keeps.set (by decide) (Keeps.refl _ _ _)) (h16 := .inl rfl)

theorem filesOk_keyAnswered {s : State} (h : s.filesOk = true) (who : Requester) (bs : Bytes) : (s.keyAnswered who bs).filesOk = true := by
  unfold State.keyAnswered
  exact (State.filesOk_upd ..).trans (State.filesOk_set ((moves_keyOutWords s who bs).files h))

theorem keyEnd_keeps (s : State) (who : Requester) (r : Nat) (bs : Bytes) :
    Keeps keyEndFields [.keys, .out] (s.keyOutWords who bs) (s.keyEnd who r bs) := by
  rw [keyEnd_eq]
  exact Keeps.irq (by decide) rfl (Keeps.count (by decide) (Keeps.setFlag (by decide) (Keeps.set (by decide) (keyAnswered_keeps s who bs))))

theorem keyEnd_slots (s : State) (who : Requester) (r : Nat) (bs : Bytes) :
    (s.keyEnd who r bs).keys = { s.keys with job := none, issuer := some who } := by
  have hend : (s.keyEnd who r bs).keys = (s.keyAnswered who bs).keys := by
    rw [keyEnd_eq, (moves_irq ..).touches.2 .keys rfl, (moves_count ..).touches.2 .keys rfl, (moves_setFlag ..).touches.2 .keys rfl,
      State.set_keys]
  have hout : ((s.keyOutWords who bs).set Reg.KEY_STATUS.OUT_LEN bs.length).keys = s.keys := by
    rw [State.set_keys, (moves_keyOutWords ..).touches.2 .keys rfl]
  rw [hend, State.keyAnswered, hout]

theorem keyEnd_result {s : State} (h : s.filesOk = true) (who : Requester) {r : Nat} (hr : r < 16) (bs : Bytes) :
    (s.keyEnd who r bs).get Reg.KEY_STATUS.RESULT = r := by
  have hkeep : Keeps [Reg.KEY_STATUS.BUSY, Reg.SEC.KEY_OPS, Reg.SEC_IRQ.KEY_DONE] [.out] ((s.keyAnswered who bs).set Reg.KEY_STATUS.RESULT r)
      (s.keyEnd who r bs) := by
    rw [keyEnd_eq]
    exact Keeps.irq (by decide) rfl (Keeps.count (by decide) (Keeps.setFlag (by decide) (Keeps.refl _ _ _)))
  rw [hkeep.get (by decide), State.get_set (filesOk_keyAnswered h who bs)]
  exact Nat.mod_eq_of_lt hr

theorem keyEnd_idle {s : State} (h : s.filesOk = true) (who : Requester) (r : Nat) (bs : Bytes) :
    (s.keyEnd who r bs).flag Reg.KEY_STATUS.BUSY = false := by
  have hkeep : Keeps [Reg.SEC.KEY_OPS, Reg.SEC_IRQ.KEY_DONE] [.out]
      (((s.keyAnswered who bs).set Reg.KEY_STATUS.RESULT r).setFlag Reg.KEY_STATUS.BUSY false) (s.keyEnd who r bs) := by
    rw [keyEnd_eq]
    exact Keeps.irq (by decide) rfl (Keeps.count (by decide) (Keeps.refl _ _ _))
  rw [flag_eq_of_get_eq (hkeep.get (by decide)), flag_setFlag (State.filesOk_set (filesOk_keyAnswered h who bs)) rfl]

theorem keyEnd_raises {s : State} (h : s.filesOk = true) (who : Requester) (r : Nat) (bs : Bytes) :
    (s.keyEnd who r bs).flag Reg.SEC_IRQ.KEY_DONE = true := by
  rw [keyEnd_eq]
  exact flag_irq ((moves_count ..).files (filesOk_setFlag (State.filesOk_set (filesOk_keyAnswered h who bs)))) rfl ..

theorem spares_keyEnd (s : State) (who : Requester) (r : Nat) (bs : Bytes) : Spares keyAside s (s.keyEnd who r bs) :=
  ((spares_keyOutWords s who bs).mono fun _ hg => hg.1).trans ⟨fun _ hg => (keyEnd_keeps s who r bs).get hg.2⟩

theorem keyEnd_out {s : State} (h : s.filesOk = true) (who : Requester) (r : Nat) (bs : Bytes) {k : Nat} (hk : k < 128) :
    (s.keyEnd who r bs).get ((Reg.KEY_OUT.OUT.ix k).of who) = leAt bs (4 * k) 4 := by
  have hfar : ∀ f ∈ keyEndFields, ((Reg.KEY_OUT.OUT.ix k).of who).key ≠ f.key ∨ ((Reg.KEY_OUT.OUT.ix k).of who).dom ≠ f.dom := by
    have hlow : ∀ f ∈ keyEndFields, f.key < bankSpan := by decide
    exact fun f hf => .inl (keyOut_word_ne_shared (hlow f hf) who k)
  rw [(keyEnd_keeps s who r bs).get hfar, keyOutWords_get h who bs hk]

/-! ### New shares (R465) -/

/-- A slot without its share: the value and its usage. -/
def KeySlot.unmasked (k : KeySlot) : KeySlot := { k with mask := 0 }

/-- One secret slot gets new shares. -/
def State.refreshShare (s : State) (i : Nat) : State :=
  match alookup i s.keys.slots with
  | some k => if k.kind = 2 then (s.putSlot i { k with mask := s.freeVal 256 }).tookFree else s
  | none => s

theorem refreshShares_eq (s : State) : s.refreshShares = (s.keys.slots.map Prod.fst).foldl State.refreshShare s := rfl

theorem refreshShare_slot (s : State) (i n : Nat) :
    (alookup n (s.refreshShare i).keys.slots).map KeySlot.unmasked = (alookup n s.keys.slots).map KeySlot.unmasked := by
  unfold State.refreshShare
  split
  next k hk =>
    split
    · rcases eq_or_ne n i with rfl | hne
      · simp [State.tookFree, State.putSlot, hk, KeySlot.unmasked]
      · simp [State.tookFree, State.putSlot, alookup_aset_of_ne hne]
    · rfl
  · rfl

theorem refreshShare_job (s : State) (i : Nat) : (s.refreshShare i).keys.job = s.keys.job := by
  unfold State.refreshShare
  split
  · split <;> rfl
  · rfl

theorem refreshShares_slot (s : State) (n : Nat) :
    (alookup n s.refreshShares.keys.slots).map KeySlot.unmasked = (alookup n s.keys.slots).map KeySlot.unmasked := by
  rw [refreshShares_eq]
  generalize s.keys.slots.map Prod.fst = l
  induction l generalizing s with
  | nil => rfl
  | cons i l ih => exact (ih _).trans (refreshShare_slot s i n)

theorem refreshShares_job (s : State) : s.refreshShares.keys.job = s.keys.job := by
  rw [refreshShares_eq]
  generalize s.keys.slots.map Prod.fst = l
  induction l generalizing s with
  | nil => rfl
  | cons i l ih => exact (ih _).trans (refreshShare_job s i)

theorem keySlot_unmasked (s : State) (i : Nat) :
    (s.keySlot i).map KeySlot.unmasked = ((alookup i s.keys.slots).map KeySlot.unmasked).filter (·.valid) := by
  unfold State.keySlot
  cases alookup i s.keys.slots with
  | none => rfl
  | some k => cases hv : k.valid <;> simp [KeySlot.unmasked, hv, Option.filter]

/-! ### A key command has ended -/

/-- A key command of a requester has ended from `u`, with a result and an answer, and the shares are new. -/
structure KeyEnded (u : State) (who : Requester) (r : Nat) (bs : Bytes) (t : State) : Prop where
  result : t.get Reg.KEY_STATUS.RESULT = r
  idle : t.flag Reg.KEY_STATUS.BUSY = false
  job : t.keys.job = none
  out : ∀ k, k < 128 → t.get ((Reg.KEY_OUT.OUT.ix k).of who) = leAt bs (4 * k) 4
  unmasked : ∀ i, (t.keySlot i).map KeySlot.unmasked = (u.keySlot i).map KeySlot.unmasked
  nvs : t.nvs = u.nvs
  spares : Spares keyAside u t

section
variable {u t : State} {who : Requester} {r : Nat} {bs : Bytes}

theorem keyEnded_refresh (h : u.filesOk = true) (hr : r < 16) : KeyEnded u who r bs (u.keyEnd who r bs).refreshShares := by
  have hfresh := moves_refreshShares (u.keyEnd who r bs)
  have hget (g : Fld) := get_moves hfresh rfl g
  refine ⟨(hget _).trans (keyEnd_result h who hr bs), (flag_eq_of_get_eq (hget _)).trans (keyEnd_idle h who r bs), ?_,
    fun k hk => (hget _).trans (keyEnd_out h who r bs hk), fun i => ?_, ?_, (spares_keyEnd u who r bs).moves hfresh rfl⟩
  · rw [refreshShares_job, keyEnd_slots]
  · rw [keySlot_unmasked, keySlot_unmasked, refreshShares_slot, keyEnd_slots]
  · rw [hfresh.touches.2 .nvs rfl, (moves_keyEnd ..).touches.2 .nvs rfl]

/-- What the shares do not show is the same of every slot. -/
theorem KeyEnded.slot_eq (h : KeyEnded u who r bs t) {β : Type} {f : KeySlot → β} (hf : ∀ k, f k.unmasked = f k) (i : Nat) :
    (t.keySlot i).map f = (u.keySlot i).map f := by
  have hcomp : f ∘ KeySlot.unmasked = f := funext hf
  simpa [hcomp] using congrArg (Option.map f) (h.unmasked i)

theorem KeyEnded.isSome_slot (h : KeyEnded u who r bs t) (i : Nat) : (t.keySlot i).isSome = (u.keySlot i).isSome := by
  simpa using congrArg Option.isSome (h.unmasked i)

theorem KeyEnded.slot_none (h : KeyEnded u who r bs t) {i : Nat} (hi : u.keySlot i = none) : t.keySlot i = none := by
  simpa [hi] using h.isSome_slot i

end

end Sys2Proof.Machine

namespace Sys2Proof.Machine

/-! ### The start of a key command (R466) -/

section
variable {s : State} {who : Requester} {op slot parent gen : Nat}

theorem keyMayIssue_set_requester (s : State) (v : Nat) (who : Requester) (op slot : Nat) :
    (s.set Reg.KEY_STATUS.REQUESTER v).keyMayIssue who op slot = s.keyMayIssue who op slot := by
  have hquar : (s.set Reg.KEY_STATUS.REQUESTER v).flag Reg.SEC_STATUS.QUARANTINE = s.flag Reg.SEC_STATUS.QUARANTINE :=
    flag_eq_of_get_eq (State.get_set_ne (.inl (by decide)))
  have howner : (s.set Reg.KEY_STATUS.REQUESTER v).isOwner who = s.isOwner who := by
    unfold State.isOwner
    rw [State.get_set_ne (.inl (by decide))]
  simp only [State.keyMayIssue, hquar, howner]

/-- The command that a write of KEY_CMD starts, with its arguments as they stand. -/
def State.keyJob (s : State) (who : Requester) (op slot parent gen : Nat) : KeyJob :=
  { op := op, slot := slot % 256, parent := parent % 256, gen := gen % 32, msg := s.keyMsg 1024, label := s.keyLabel 32
    msgLen := s.get Reg.KEY_ARG.MSG_LEN, labelLen := s.get Reg.KEY_ARG.LABEL_LEN
    uSign := s.flag Reg.KEY_ARG.U_SIGN, uDerive := s.flag Reg.KEY_ARG.U_DERIVE, who := who }

/-- A command is in progress. -/
def State.keyRun (s : State) (j : KeyJob) : State :=
  ({ s with keys := { s.keys with job := some j } }.setFlag Reg.KEY_STATUS.BUSY true).set Reg.KEY_STATUS.RESULT 2

theorem keyStart_busy (h : MayWrite s who) (hbusy : s.flag Reg.KEY_STATUS.BUSY = true) :
    s.keyStart who op slot parent gen = s.count Reg.SEC.KEY_REFUSED := by
  rw [State.keyStart, h.open_, if_pos hbusy]

theorem keyStart_denied (h : MayWrite s who) (hbusy : s.flag Reg.KEY_STATUS.BUSY = false) (hmay : s.keyMayIssue who op (slot % 256) = false) :
    s.keyStart who op slot parent gen = (s.set Reg.KEY_STATUS.REQUESTER who.code).keyEnd who 3 [] := by
  simp only [State.keyStart, h.open_, hbusy, Bool.false_eq_true, if_false, keyMayIssue_set_requester, hmay, Bool.not_false, if_true]

theorem keyStart_runs (h : MayWrite s who) (hbusy : s.flag Reg.KEY_STATUS.BUSY = false) (hmay : s.keyMayIssue who op (slot % 256) = true) :
    s.keyStart who op slot parent gen =
      (s.set Reg.KEY_STATUS.REQUESTER who.code).keyRun ((s.set Reg.KEY_STATUS.REQUESTER who.code).keyJob who op slot parent gen) := by
  simp only [State.keyStart, h.open_, hbusy, Bool.false_eq_true, if_false, keyMayIssue_set_requester, hmay, Bool.not_true]
  rfl

theorem keyRun_holds (h : s.filesOk = true) (j : KeyJob) :
    (s.keyRun j).flag Reg.KEY_STATUS.BUSY = true ∧ (s.keyRun j).get Reg.KEY_STATUS.RESULT = 2 ∧ (s.keyRun j).keys.job = some j ∧
      Keeps [Reg.KEY_STATUS.BUSY, Reg.KEY_STATUS.RESULT, Reg.KEY_STATUS.REQUESTER] [.keys] s (s.keyRun j) := by
  have hfiles : ({ s with keys := { s.keys with job := some j } } : State).filesOk = true := h
  unfold State.keyRun
  refine ⟨?_, State.get_set (filesOk_setFlag hfiles), ?_, ?_⟩
  · exact (flag_eq_of_get_eq (State.get_set_ne (.inl (by decide)))).trans (flag_setFlag hfiles rfl)
  · simp [State.setFlag]
  · exact Keeps.set (by simp) (Keeps.setFlag (by simp) (Keeps.upd rfl rfl rfl rfl (Keeps.refl _ _ s) (h16 := .inl rfl)))

/-- The write of KEY_CMD that each command is, with the arguments it uses reduced to their fields. -/
theorem exec_keyCommand {c : Instr} {a b g : Nat} (hc : (c, op, slot, parent, gen) ∈ [(Instr.keyDerive who a b g, 1, a % 256, b % 256, g % 32),
        (.keySign who a, 2, a % 256, 0, 0), (.keyVerify who, 3, 0, 0, 0), (.pubkey who a, 4, a % 256, 0, 0), (.keyAttest who, 5, 0, 0, 0),
        (.erase who a, 6, a % 256, 0, 0), (.invalidate who a g, 7, a % 256, 0, g % 32), (.provision who a, 8, a % 256, 0, 0),
        (.debugReq who, 9, 0, 0, 0), (.tamperCfg who, 10, 0, 0, 0)]) :
    (∀ s, exec c s = .next (s.keyStart who op slot parent gen)) ∧ slot % 256 = slot ∧ parent % 256 = parent ∧ gen % 32 = gen := by
  have hreduce (s : State) (op a b g : Nat) : s.keyStart who op a b g = s.keyStart who op (a % 256) (b % 256) (g % 32) := by
    simp only [State.keyStart, Nat.mod_mod]
  simp only [List.mem_cons, List.not_mem_nil, or_false, Prod.mk.injEq] at hc
  obtain ⟨rfl, rfl, rfl, rfl, rfl⟩ | ⟨rfl, rfl, rfl, rfl, rfl⟩ | ⟨rfl, rfl, rfl, rfl, rfl⟩ | ⟨rfl, rfl, rfl, rfl, rfl⟩ |
    ⟨rfl, rfl, rfl, rfl, rfl⟩ | ⟨rfl, rfl, rfl, rfl, rfl⟩ | ⟨rfl, rfl, rfl, rfl, rfl⟩ | ⟨rfl, rfl, rfl, rfl, rfl⟩ |
    ⟨rfl, rfl, rfl, rfl, rfl⟩ | ⟨rfl, rfl, rfl, rfl, rfl⟩ := hc
  all_goals exact ⟨fun s => congrArg Host.Outcome.next (hreduce s ..), by simp, by simp, by simp⟩

end

/-! ### The journal (R469) -/

/-- The current record is valid, and stands in the first place or, where another stands there, in the second. -/
theorem journal_place {n : Nvs} {r : JournalRec} (h : n.journal = some r) : r.valid = true ∧ (n.j0 = r ∨ n.j0 ≠ r ∧ n.j1 = r) := by
  unfold Nvs.journal at h
  split at h
  next h0 =>
    split at h
    next h1 =>
      simp only [Bool.and_eq_true, decide_eq_true_eq] at h1
      obtain rfl := Option.some.inj h
      exact ⟨h1.1, .inr ⟨fun heq => by simp [heq] at h1, rfl⟩⟩
    · exact ⟨Option.some.inj h ▸ h0, .inl (Option.some.inj h)⟩
  next h0 =>
    split at h
    next h1 =>
      obtain rfl := Option.some.inj h
      exact ⟨h1, .inr ⟨fun heq => h0 (heq ▸ h1), rfl⟩⟩
    · cases h

section
variable {s : State} {r r' : JournalRec}

theorem journalPut_nvs (h : s.nvs.journal = some r) (r' : JournalRec) (rb : Bool) :
    (s.journalPut r' rb).nvs = if s.nvs.j0 = r then { s.nvs with j1 := { r' with seq := r'.seq + 1, valid := rb } }
      else { s.nvs with j0 := { r' with seq := r'.seq + 1, valid := rb } } := by
  have hcur : (s.nvs.journal == some s.nvs.j0) = true ↔ s.nvs.j0 = r := by
    rw [h, beq_iff_eq, Option.some.injEq]
    exact eq_comm
  unfold State.journalPut
  cases rb
  · rw [if_neg Bool.false_ne_true, (moves_irq ..).touches.2 .nvs rfl, (moves_count ..).touches.2 .nvs rfl]
    simp only [hcur]
  · rw [if_pos rfl, (moves_count ..).touches.2 .nvs rfl]
    simp only [hcur]

/-- An update that reads back is the current record. -/
theorem journalPut_written (h : s.nvs.journal = some r) (hseq : r'.seq = r.seq) :
    (s.journalPut r' true).nvs.journal = some { r' with seq := r'.seq + 1, valid := true } := by
  rw [journalPut_nvs h]
  obtain ⟨hvalid, rfl | ⟨hne, rfl⟩⟩ := journal_place h
  · simp [Nvs.journal, hvalid, hseq]
  · simp [if_neg hne, Nvs.journal, hseq]

/-- An update that reads back wrong leaves the current record. -/
theorem journalPut_failed (h : s.nvs.journal = some r) (r' : JournalRec) : (s.journalPut r' false).nvs.journal = some r := by
  rw [journalPut_nvs h]
  obtain ⟨hvalid, rfl | ⟨hne, rfl⟩⟩ := journal_place h
  · simp [Nvs.journal, hvalid]
  · simp [if_neg hne, Nvs.journal, hvalid]

theorem journalPut_keys (s : State) (r' : JournalRec) (rb : Bool) : (s.journalPut r' rb).keys = s.keys :=
  (moves_journalPut s r' rb).touches.2 .keys rfl

theorem filesOk_journalPut (h : s.filesOk = true) (r' : JournalRec) (rb : Bool) : (s.journalPut r' rb).filesOk = true :=
  (moves_journalPut s r' rb).files h

end

/-! ### Filled and emptied slots -/

theorem keySlot_putSlot (s : State) (i : Nat) {k : KeySlot} (hk : k.valid = true) : (s.putSlot i k).keySlot i = some k := by
  simp [State.keySlot, State.putSlot, hk]

theorem keySlot_putSlot_ne (s : State) {i n : Nat} (k : KeySlot) (h : n ≠ i) : (s.putSlot i k).keySlot n = s.keySlot n := by
  simp only [State.keySlot, State.putSlot, alookup_aset_of_ne h]

theorem keySlot_dropSlot (s : State) (i : Nat) : (s.dropSlot i).keySlot i = none := by
  simp only [State.keySlot, State.dropSlot, alookup_aerase_self]

theorem keySlot_eq_none {s : State} {i : Nat} (h : alookup i s.keys.slots = none) : s.keySlot i = none := by
  simp only [State.keySlot, h]

theorem alookup_of_keySlot {s : State} {i : Nat} {k : KeySlot} (h : s.keySlot i = some k) : alookup i s.keys.slots = some k := by
  unfold State.keySlot at h
  split at h
  next k' hk' => split at h <;> simp_all
  · cases h

theorem mem_of_alookup {κ α : Type} [DecidableEq κ] {k : κ} {a : α} {l : List (κ × α)} (h : alookup k l = some a) : (k, a) ∈ l := by
  induction l with
  | nil => cases h
  | cons e l ih =>
    obtain ⟨j, b⟩ := e
    rw [alookup] at h
    split at h
    next hkj => simp [hkj, Option.some.inj h]
    · exact List.mem_cons_of_mem _ (ih h)

theorem keySlot_mem {s : State} {i : Nat} {k : KeySlot} (h : s.keySlot i = some k) : (i, k) ∈ s.keys.slots :=
  mem_of_alookup (alookup_of_keySlot h)

/-- Emptying slots one after the other leaves what stands in the others. -/
theorem keySlot_foldl_dropSlot {s : State} {l : List Nat} {i : Nat} {k : KeySlot} (h : (l.foldl State.dropSlot s).keySlot i = some k) :
    i ∉ l ∧ s.keySlot i = some k := by
  induction l generalizing s with
  | nil => exact ⟨List.not_mem_nil, h⟩
  | cons n l ih =>
    obtain ⟨hl, hs⟩ := ih h
    have hne : i ≠ n := by
      rintro rfl
      rw [keySlot_dropSlot] at hs
      cases hs
    refine ⟨by simp [hne, hl], ?_⟩
    simpa only [State.keySlot, State.dropSlot, alookup_aerase_of_ne hne] using hs

/-- An invalidation of a generation empties each slot derived under it, and no round takes one back (R464). -/
theorem mem_doomed {slots : List (Nat × KeySlot)} {c i : Nat} {k : KeySlot} (hmem : (i, k) ∈ slots) (hi : 16 ≤ i) (hgen : k.gen = c) (n : Nat) :
    i ∈ doomed slots c n := by
  induction n with
  | zero => exact List.mem_map.mpr ⟨(i, k), List.mem_filter.mpr ⟨hmem, by simp [hi, hgen]⟩, rfl⟩
  | succ n ih => exact List.mem_map.mpr ⟨(i, k), List.mem_filter.mpr ⟨hmem, by simp [ih]⟩, rfl⟩

end Sys2Proof.Machine

namespace Sys2Proof.Machine

/-! ### The key commands' own ends (R463, R464, R467) -/

/-- What a command does as it completes, before the shares are drawn anew. -/
def State.keyDone (s : State) (j : KeyJob) (rb : Bool) : State :=
  match j.op with
  | 1 => s.keyDeriveDone j
  | 2 => s.keySignDone j
  | 3 => s.keyVerifyDone j
  | 4 => s.keyPubDone j
  | 5 => s.keyAttestDone j
  | 6 => if j.slot < 16 then s.keyEnd j.who 4 [] else (s.dropSlot j.slot).keyEnd j.who 1 []
  | 7 => s.keyInvalidateDone j rb
  | 8 => s.keyProvisionDone j rb
  | 9 => s.keyDebugDone j
  | _ => s.keyTamperCfgDone j rb

/-- The slots from 16 on are emptied. -/
def State.dropSealed (s : State) : State := { s with keys := { s.keys with slots := s.keys.slots.filter fun e => decide (e.1 < 16) } }

/-- A command of a requester has ended, by a result that the field holds. -/
def KeyEnds (who : Requester) (t : State) : Prop := ∃ u r bs, State.filesOk u = true ∧ r < 16 ∧ t = u.keyEnd who r bs

theorem keyEnds_keyEnd {u : State} (h : u.filesOk = true) (who : Requester) {r : Nat} (hr : r < 16) (bs : Bytes) : KeyEnds who (u.keyEnd who r bs) :=
  ⟨u, r, bs, h, hr, rfl⟩

section
variable {s : State} {j : KeyJob} {rb : Bool}

theorem exec_keyCommandDone (hj : s.keys.job = some j) : exec (.keyCommandDone rb) s = .next (s.keyDone j rb).refreshShares := by
  show execKeyCommandDone rb s = _
  simp only [execKeyCommandDone, hj]
  rfl

theorem keyDeriveDone_ends (h : s.filesOk = true) (j : KeyJob) : KeyEnds j.who (s.keyDeriveDone j) := by
  unfold State.keyDeriveDone
  split
  · exact keyEnds_keyEnd h _ (by decide) _
  · split
    · exact keyEnds_keyEnd h _ (by decide) _
    · split
      · exact keyEnds_keyEnd h _ (by decide) _
      · exact keyEnds_keyEnd ((moves_putSlot ..).files h) _ (by decide) _

theorem keySignDone_ends (h : s.filesOk = true) (j : KeyJob) : KeyEnds j.who (s.keySignDone j) := by
  unfold State.keySignDone
  split
  · exact keyEnds_keyEnd h _ (by decide) _
  · split
    · exact keyEnds_keyEnd h _ (by decide) _
    · split <;> exact keyEnds_keyEnd h _ (by decide) _

theorem keyVerifyDone_eq (s : State) (h64 : 64 ≤ j.msgLen) (h1024 : j.msgLen ≤ 1024) : s.keyVerifyDone j =
    s.keyEnd j.who (if Config.ed25519Verify j.label ((j.msg.take j.msgLen).drop 64) (j.msg.take 64) then 1 else 6) [] := by
  rw [State.keyVerifyDone, if_neg (by omega)]
  split <;> rfl

theorem keyVerifyDone_ends (h : s.filesOk = true) (j : KeyJob) : KeyEnds j.who (s.keyVerifyDone j) := by
  unfold State.keyVerifyDone
  split
  · exact keyEnds_keyEnd h _ (by decide) _
  · split <;> exact keyEnds_keyEnd h _ (by decide) _

theorem keyPubDone_ends (h : s.filesOk = true) (j : KeyJob) : KeyEnds j.who (s.keyPubDone j) := by
  unfold State.keyPubDone
  split <;> exact keyEnds_keyEnd h _ (by decide) _

theorem keyAttestDone_ends (h : s.filesOk = true) (j : KeyJob) : KeyEnds j.who (s.keyAttestDone j) := by
  unfold State.keyAttestDone
  split
  · exact keyEnds_keyEnd h _ (by decide) _
  · refine keyEnds_keyEnd ?_ _ (by decide) _
    split <;> exact h

theorem keyDebugDone_ends (h : s.filesOk = true) (j : KeyJob) : KeyEnds j.who (s.keyDebugDone j) := by
  unfold State.keyDebugDone
  refine keyEnds_keyEnd ((moves_drawDebugNonce _).files ?_) _ ?_ _
  · split
    · exact filesOk_setFlag h
    · exact h
  · split <;> decide

theorem filesOk_deriveSlot (h : s.filesOk = true) (i : Nat) : (s.deriveSlot i).filesOk = true := (moves_deriveSlot s i).files h

theorem filesOk_dropSealed (h : s.filesOk = true) : s.dropSealed.filesOk = true := h

theorem filesOk_foldl_dropSlot (h : s.filesOk = true) (l : List Nat) : (l.foldl State.dropSlot s).filesOk = true :=
  (Moves.foldl (fun _ _ => moves_dropSlot ..) (Moves.refl [.keys] s)).files h

theorem keyInvalidateDone_ends (h : s.filesOk = true) (j : KeyJob) (rb : Bool) : KeyEnds j.who (s.keyInvalidateDone j rb) := by
  unfold State.keyInvalidateDone
  split
  · exact keyEnds_keyEnd h _ (by decide) _
  next r _ =>
    have hput (r' : JournalRec) := filesOk_journalPut h r' rb
    split
    · exact keyEnds_keyEnd h _ (by decide) _
    · dsimp only
      split
      · exact keyEnds_keyEnd (hput _) _ (by decide) _
      · refine keyEnds_keyEnd ?_ _ (by decide) _
        split
        · exact (State.filesOk_upd ..).trans (filesOk_deriveSlot (filesOk_deriveSlot (filesOk_deriveSlot (hput _) 8) 9) 10)
        · split
          · exact filesOk_deriveSlot (filesOk_dropSealed (hput _)) 11
          · exact filesOk_foldl_dropSlot (hput _) _

theorem keyProvisionDone_ends (h : s.filesOk = true) (j : KeyJob) (rb : Bool) : KeyEnds j.who (s.keyProvisionDone j rb) := by
  unfold State.keyProvisionDone
  split
  · exact keyEnds_keyEnd h _ (by decide) _
  · split
    · exact keyEnds_keyEnd h _ (by decide) _
    · dsimp only
      split
      · exact keyEnds_keyEnd (filesOk_journalPut h _ rb) _ (by decide) _
      · refine keyEnds_keyEnd (filesOk_setFlag ?_) _ (by decide) _
        split
        · exact (moves_dropSlot ..).files (filesOk_journalPut h _ rb)
        · exact (moves_putSlot ..).files (filesOk_journalPut h _ rb)

theorem keyTamperCfgDone_ends (h : s.filesOk = true) (j : KeyJob) (rb : Bool) : KeyEnds j.who (s.keyTamperCfgDone j rb) := by
  unfold State.keyTamperCfgDone
  split
  · exact keyEnds_keyEnd h _ (by decide) _
  · dsimp only
    split
    · exact keyEnds_keyEnd ((moves_setTamperCfg ..).files (filesOk_journalPut h _ rb)) _ (by decide) _
    · exact keyEnds_keyEnd (filesOk_journalPut h _ rb) _ (by decide) _

/-- Every command ends, whatever it does before. -/
theorem keyDone_ends (h : s.filesOk = true) (j : KeyJob) (rb : Bool) : KeyEnds j.who (s.keyDone j rb) := by
  unfold State.keyDone
  split
  · exact keyDeriveDone_ends h j
  · exact keySignDone_ends h j
  · exact keyVerifyDone_ends h j
  · exact keyPubDone_ends h j
  · exact keyAttestDone_ends h j
  · split
    · exact keyEnds_keyEnd h _ (by decide) _
    · exact keyEnds_keyEnd ((moves_dropSlot ..).files h) _ (by decide) _
  · exact keyInvalidateDone_ends h j rb
  · exact keyProvisionDone_ends h j rb
  · exact keyDebugDone_ends h j
  · exact keyTamperCfgDone_ends h j rb

/-- A command whose end is known leaves what the end shows. -/
theorem goes_keyDone {u : State} {r : Nat} {bs : Bytes} {P : State → Prop} (hj : s.keys.job = some j)
    (hdone : s.keyDone j rb = u.keyEnd j.who r bs) (h : u.filesOk = true) (hr : r < 16) (hP : ∀ t, KeyEnded u j.who r bs t → P t) :
    Goes (.keyCommandDone rb) s P :=
  ⟨_, by rw [exec_keyCommandDone hj, hdone], hP _ (keyEnded_refresh h hr)⟩

theorem goes_keyCommandDone (h : s.filesOk = true) (hj : s.keys.job = some j) (rb : Bool) :
    Goes (.keyCommandDone rb) s fun v => v.keys.job = none ∧ v.flag Reg.KEY_STATUS.BUSY = false := by
  obtain ⟨u, r, bs, hu, hr, hdone⟩ := keyDone_ends h j rb
  exact goes_keyDone hj hdone hu hr fun t ht => ⟨ht.job, ht.idle⟩

/-- The slot that DERIVE fills from its parent. -/
def State.childSlot (s : State) (j : KeyJob) (p : KeySlot) : KeySlot :=
  { valid := true, kind := 2, sign := j.uSign, derive := j.uDerive, parent := j.parent, gen := j.gen, depth := p.depth + 1
    value := Config.hkdf (ascii "MZ7416 child") p.value (j.label.take j.labelLen ++ leBytes 4 (s.gGen j.gen)) 32 }

theorem keyDone_derive {k : KeySlot} (hop : j.op = 1) (hparent : j.parent = 11 ∨ 16 ≤ j.parent) (hk : s.keySlot j.parent = some k)
    (hderive : k.derive = true) (hdepth : k.depth < 8) (hslot : 16 ≤ j.slot) (hempty : s.keySlot j.slot = none) (hmin : 1 ≤ j.labelLen)
    (hmax : j.labelLen ≤ 32) : s.keyDone j rb = (s.putSlot j.slot (s.childSlot j k)).keyEnd j.who 1 [] := by
  have hgood : ¬(j.slot < 16 ∨ (s.keySlot j.slot).isSome ∨ !k.derive ∨ 8 ≤ k.depth) := by
    simp [hempty, hderive, hslot, hdepth]
  have hlabel : ¬(j.labelLen < 1 ∨ 32 < j.labelLen) := by omega
  simp only [State.keyDone, hop, State.keyDeriveDone, if_pos hparent, hk, if_neg hgood, if_neg hlabel]
  rfl

theorem keyDone_sign {k : KeySlot} (hop : j.op = 2) (hslot : 16 ≤ j.slot) (hk : s.keySlot j.slot = some k) (hsign : k.sign = true)
    (hlen : j.msgLen ≤ 1024) : s.keyDone j rb = s.keyEnd j.who 1 (Config.ed25519Sign k.value (j.msg.take j.msgLen)) := by
  simp [State.keyDone, hop, State.keySignDone, hslot, hk, hsign, hlen]

theorem keyDone_pubkey {k : KeySlot} (hop : j.op = 4) (hslot : 16 ≤ j.slot) (hquar : s.flag Reg.SEC_STATUS.QUARANTINE = false)
    (hk : s.keySlot j.slot = some k) (hsign : k.sign = true) : s.keyDone j rb = s.keyEnd j.who 1 (Config.ed25519Public k.value) := by
  have hkey : s.keyForPub j.slot = some k.value := by
    have hdevice : ¬(8 ≤ j.slot ∧ j.slot ≤ 10) := by omega
    simp [State.keyForPub, hquar, hdevice, hslot, hk, hsign]
  simp only [State.keyDone, hop, State.keyPubDone, hkey]

theorem goes_keyErase (h : s.filesOk = true) (hj : s.keys.job = some j) (hop : j.op = 6) : Goes (.keyCommandDone rb) s fun v =>
    v.get Reg.KEY_STATUS.RESULT = (if j.slot < 16 then 4 else 1) ∧ (16 ≤ j.slot → v.keySlot j.slot = none) := by
  by_cases hslot : j.slot < 16
  · have hdone : s.keyDone j rb = s.keyEnd j.who 4 [] := by simp only [State.keyDone, hop, if_pos hslot]
    exact goes_keyDone hj hdone h (by decide) fun t ht => ⟨by rw [ht.result, if_pos hslot], fun hge => absurd hslot (by omega)⟩
  · have hdone : s.keyDone j rb = (s.dropSlot j.slot).keyEnd j.who 1 [] := by simp only [State.keyDone, hop, if_neg hslot]
    exact goes_keyDone hj hdone ((moves_dropSlot ..).files h) (by decide) fun t ht =>
      ⟨by rw [ht.result, if_neg hslot], fun _ => ht.slot_none (keySlot_dropSlot s _)⟩

/-! ### The commands that update the journal (R464, R467, R469) -/

variable {r : JournalRec}

/-- Where the update reads back wrong, the command only answers that. -/
theorem keyDone_unread (hr : s.nvs.journal = some r) (hrow : (j.op = 7 ∧ j.slot ∈ [8, 11, 0xFF]) ∨ (j.op = 8 ∧ j.slot ≤ 4) ∨ j.op = 10) :
    ∃ r', s.keyDone j false = (s.journalPut r' false).keyEnd j.who 8 [] := by
  obtain ⟨hop, hslot⟩ | ⟨hop, hslot⟩ | hop := hrow
  · have hknown : ¬(j.slot ≠ 8 ∧ j.slot ≠ 11 ∧ j.slot ≠ 0xFF) := by
      simp only [List.mem_cons, List.not_mem_nil, or_false] at hslot
      omega
    exact ⟨_, by simp only [State.keyDone, hop, State.keyInvalidateDone, hr, if_neg hknown]; rfl⟩
  · exact ⟨_, by simp only [State.keyDone, hop, State.keyProvisionDone, hr, if_neg (Nat.not_lt.mpr hslot)]; rfl⟩
  · exact ⟨_, by simp only [State.keyDone, hop, State.keyTamperCfgDone, hr]; rfl⟩

theorem keyDone_invalidateIdentity (hr : s.nvs.journal = some r) (hop : j.op = 7) (hslot : j.slot = 8) :
    ∃ u, Moves [.keys] (s.journalPut { r with gId := r.gId + 1 } true) u ∧ s.keyDone j true = u.keyEnd j.who 1 [] := by
  refine ⟨_, ?_, by simp only [State.keyDone, hop, State.keyInvalidateDone, hr, hslot]; rfl⟩
  exact Moves.upd rfl rfl rfl rfl (((moves_deriveSlot _ 8).trans (moves_deriveSlot _ 9)).trans (moves_deriveSlot _ 10))

theorem keyDone_invalidateSeal (hr : s.nvs.journal = some r) (hop : j.op = 7) (hslot : j.slot = 11) :
    s.keyDone j true = ((s.journalPut { r with gSeal := r.gSeal + 1 } true).dropSealed.deriveSlot 11).keyEnd j.who 1 [] := by
  simp only [State.keyDone, hop, State.keyInvalidateDone, hr, hslot]
  rfl

theorem keySlot_dropSealed (s : State) {i : Nat} (hi : 16 ≤ i) : (s.dropSealed.deriveSlot 11).keySlot i = none := by
  have hgone : s.dropSealed.keySlot i = none := by
    rw [← Option.not_isSome_iff_eq_none, Option.isSome_iff_exists]
    rintro ⟨k, hk⟩
    have := (List.mem_filter.mp (keySlot_mem hk)).2
    simp only [decide_eq_true_eq] at this
    omega
  unfold State.deriveSlot
  split
  · exact hgone
  · exact (keySlot_putSlot_ne _ _ (by omega)).trans hgone

theorem keyDone_invalidateGeneration (hr : s.nvs.journal = some r) (hop : j.op = 7) (hslot : j.slot = 0xFF) :
    ∃ r', s.keyDone j true =
      ((doomed (s.journalPut r' true).keys.slots j.gen 8).foldl State.dropSlot (s.journalPut r' true)).keyEnd j.who 1 [] :=
  ⟨_, by simp only [State.keyDone, hop, State.keyInvalidateDone, hr, hslot]; rfl⟩

/-- No slot derived under the generation is left. -/
theorem gen_ne_of_keySlot_doomed {c n i : Nat} {k : KeySlot} (hi : 16 ≤ i)
    (hk : ((doomed s.keys.slots c n).foldl State.dropSlot s).keySlot i = some k) : k.gen ≠ c := fun hgen =>
  have ⟨hout, hslot⟩ := keySlot_foldl_dropSlot hk
  hout (mem_doomed (keySlot_mem hslot) hi hgen n)

theorem goes_invalidateGeneration (h : s.filesOk = true) (hj : s.keys.job = some j) (hr : s.nvs.journal = some r) (hop : j.op = 7)
    (hslot : j.slot = 0xFF) : Goes (.keyCommandDone true) s fun v => v.get Reg.KEY_STATUS.RESULT = 1 ∧
      ∀ i k, 16 ≤ i → v.keySlot i = some k → k.gen ≠ j.gen := by
  obtain ⟨r', hdone⟩ := keyDone_invalidateGeneration hr hop hslot
  refine goes_keyDone hj hdone (filesOk_foldl_dropSlot (filesOk_journalPut h _ _) _) (by decide) fun t ht => ⟨ht.result, fun i k hi hk => ?_⟩
  obtain ⟨k', hk', hgen⟩ : ∃ k' : KeySlot, _ = some k' ∧ k'.gen = k.gen := by
    simpa [hk] using (ht.slot_eq (f := KeySlot.gen) (fun _ => rfl) i).symm
  exact hgen ▸ gen_ne_of_keySlot_doomed hi hk'

/-- The slot takes the key that PROVISION names, or is emptied by a key of zeros. -/
def State.provisioned (s : State) (i : Nat) (v : Bytes) : State :=
  if v.all (· == 0) then s.dropSlot i else s.putSlot i { valid := true, kind := if i = 4 then 1 else 0, value := v }

theorem moves_provisioned (s : State) (i : Nat) (v : Bytes) : Moves [.keys] s (s.provisioned i v) :=
  Moves.ite (moves_dropSlot ..) (moves_putSlot ..)

theorem keySlot_provisioned (s : State) (i : Nat) (v : Bytes) :
    ((s.provisioned i v).keySlot i).map (·.value) = if v.all (· == 0) then none else some v := by
  unfold State.provisioned
  split
  · rw [keySlot_dropSlot, Option.map_none]
  · rw [keySlot_putSlot _ _ rfl, Option.map_some]

/-- AUTH_REQ says whether slot 4 holds an owner key (R100). -/
def State.showAuthReq (s : State) : State := s.setFlag Reg.HIF_OWNER.AUTH_REQ (s.keySlot 4).isSome

theorem keySlot_showAuthReq (s : State) (i : Nat) : s.showAuthReq.keySlot i = s.keySlot i := by
  simp only [State.keySlot, State.showAuthReq, State.setFlag, State.set_keys]

theorem keyDone_provision (hr : s.nvs.journal = some r) (hop : j.op = 8) (hslot : j.slot ≤ 4) :
    ∃ r', s.keyDone j true = ((s.journalPut r' true).provisioned j.slot (j.msg.take 32)).showAuthReq.keyEnd j.who 1 [] :=
  ⟨_, by simp only [State.keyDone, hop, State.keyProvisionDone, hr, if_neg (Nat.not_lt.mpr hslot)]; rfl⟩

theorem goes_provision (h : s.filesOk = true) (hj : s.keys.job = some j) (hr : s.nvs.journal = some r) (hop : j.op = 8)
    (hslot : j.slot ≤ 4) : Goes (.keyCommandDone true) s fun v => v.get Reg.KEY_STATUS.RESULT = 1 ∧
      (v.keySlot j.slot).map (·.value) = (if (j.msg.take 32).all (· == 0) then none else some (j.msg.take 32)) ∧
      v.flag Reg.HIF_OWNER.AUTH_REQ = (v.keySlot 4).isSome := by
  obtain ⟨r', hdone⟩ := keyDone_provision hr hop hslot
  have hfiles := (moves_provisioned _ j.slot (j.msg.take 32)).files (filesOk_journalPut h r' true)
  refine goes_keyDone hj hdone (filesOk_setFlag hfiles) (by decide) fun t ht => ⟨ht.result, ?_, ?_⟩
  · rw [ht.slot_eq (fun _ => rfl), keySlot_showAuthReq, keySlot_provisioned]
  · rw [ht.spares.flag ⟨by decide, by decide⟩, ht.isSome_slot, keySlot_showAuthReq]
    exact flag_setFlag hfiles rfl

theorem keyDone_tamperCfg (hr : s.nvs.journal = some r) (hop : j.op = 10) : s.keyDone j true =
    ((s.journalPut { r with tamperCfg := bitsOf (leVal (j.msg.take 4)) 0 10 } true).setTamperCfg (leVal (j.msg.take 4))).keyEnd j.who 1 [] := by
  simp only [State.keyDone, hop, State.keyTamperCfgDone, hr]
  rfl

theorem setTamperCfg_en (h : s.filesOk = true) (v : Nat) : (s.setTamperCfg v).get Reg.SEC_TAMPER_CFG.EN = v % 16 := by
  unfold State.setTamperCfg
  rw [State.get_set_ne (.inl (by decide)), State.get_set_ne (.inl (by decide)), State.get_set_ne (.inl (by decide)), State.get_set h]
  simp [bitsOf, Reg.SEC_TAMPER_CFG.EN]

theorem goes_tamperCfg (h : s.filesOk = true) (hj : s.keys.job = some j) (hr : s.nvs.journal = some r) (hop : j.op = 10) :
    Goes (.keyCommandDone true) s fun v => v.get Reg.KEY_STATUS.RESULT = 1 ∧
      v.nvs.journal.map (·.tamperCfg) = some (leVal (j.msg.take 4) % 2 ^ 10) ∧ v.get Reg.SEC_TAMPER_CFG.EN = leVal (j.msg.take 4) % 16 := by
  have hput := filesOk_journalPut h { r with tamperCfg := bitsOf (leVal (j.msg.take 4)) 0 10 } true
  refine goes_keyDone hj (keyDone_tamperCfg hr hop) ((moves_setTamperCfg ..).files hput) (by decide) fun t ht => ⟨ht.result, ?_, ?_⟩
  · rw [ht.nvs, (moves_setTamperCfg ..).touches.2 .nvs rfl, journalPut_written hr (r' := { r with tamperCfg := bitsOf (leVal (j.msg.take 4)) 0 10 }) rfl]
    simp [bitsOf]
  · rw [ht.spares.get_eq _ ⟨by decide, by decide⟩, setTamperCfg_en hput]

theorem goes_invalidateIdentity (h : s.filesOk = true) (hj : s.keys.job = some j) (hr : s.nvs.journal = some r) (hop : j.op = 7)
    (hslot : j.slot = 8) : Goes (.keyCommandDone true) s fun v => v.get Reg.KEY_STATUS.RESULT = 1 ∧
      v.nvs.journal.map (·.gId) = some (r.gId + 1) := by
  obtain ⟨u, hmove, hdone⟩ := keyDone_invalidateIdentity hr hop hslot
  refine goes_keyDone hj hdone (hmove.files (filesOk_journalPut h _ _)) (by decide) fun t ht => ⟨ht.result, ?_⟩
  rw [ht.nvs, hmove.touches.2 .nvs rfl, journalPut_written hr (r' := { r with gId := r.gId + 1 }) rfl, Option.map_some]

theorem goes_invalidateSeal (h : s.filesOk = true) (hj : s.keys.job = some j) (hr : s.nvs.journal = some r) (hop : j.op = 7)
    (hslot : j.slot = 11) : Goes (.keyCommandDone true) s fun v => v.get Reg.KEY_STATUS.RESULT = 1 ∧
      v.nvs.journal.map (·.gSeal) = some (r.gSeal + 1) ∧ ∀ i, 16 ≤ i → v.keySlot i = none := by
  have hput := filesOk_journalPut h { r with gSeal := r.gSeal + 1 } true
  refine goes_keyDone hj (keyDone_invalidateSeal hr hop hslot) (filesOk_deriveSlot (filesOk_dropSealed hput) 11) (by decide) fun t ht =>
    ⟨ht.result, ?_, fun i hi => ht.slot_none (keySlot_dropSealed _ hi)⟩
  have hnvs {u : State} : (u.dropSealed.deriveSlot 11).nvs = u.nvs := (moves_deriveSlot u.dropSealed 11).touches.2 .nvs rfl
  rw [ht.nvs, hnvs, journalPut_written hr (r' := { r with gSeal := r.gSeal + 1 }) rfl, Option.map_some]

end

/-! ### Key commands -/

theorem goes_keyShareRefresh (s : State) : Goes .keyShareRefresh s fun v => (∀ i, (alookup i v.keys.slots).map (fun k => { k with mask := 0 }) =
    (alookup i s.keys.slots).map fun k => { k with mask := 0 }) ∧ Keeps [] [.free, .keys] s v :=
  ⟨s.refreshShares, rfl, refreshShares_slot s, Keeps.moves (moves_refreshShares s) rfl (Keeps.refl _ _ s)⟩

/-- Settles O58: the start is one of three rows of `keyStart`; a command in progress ends through `keyEnd`, from the state that its own rule
leaves, and the shares drawn anew after it change no slot but in its mask. -/
theorem keyCommands : Obligations.KeyCommands := by
  unfold Obligations.KeyCommands
  intro s who a b g h
  refine ⟨fun c op slot parent gen hc => ?start, fun rb hj => ?idle, fun j rb hj => ?done, goes_keyShareRefresh s⟩
  case start =>
    obtain ⟨hexec, hslot, hparent, hgen⟩ := exec_keyCommand hc
    refine ⟨fun hbusy => ⟨_, hexec s, ?_⟩, fun hbusy hmay => ⟨_, hexec s, ?_⟩, fun hbusy hmay => ⟨_, hexec s, ?_⟩⟩
    · rw [keyStart_busy h hbusy]
      exact ⟨counted_count h.1 _, Keeps.count (by simp) (Keeps.refl _ _ s)⟩
    · rw [keyStart_runs h hbusy (hslot.symm ▸ hmay)]
      have hkeep : Keeps [Reg.KEY_STATUS.BUSY, Reg.KEY_STATUS.RESULT, Reg.KEY_STATUS.REQUESTER] [.keys] s
        (s.set Reg.KEY_STATUS.REQUESTER who.code) := Keeps.set (by simp) (Keeps.refl _ _ s)
      obtain ⟨hrun, hresult, hjob, hrest⟩ := keyRun_holds (State.filesOk_set h.1 (f := Reg.KEY_STATUS.REQUESTER) (v := who.code))
        ((s.set Reg.KEY_STATUS.REQUESTER who.code).keyJob who op slot parent gen)
      refine ⟨hrun, hresult, ?_, hkeep.trans hrest⟩
      rw [hjob]
      simp only [State.keyJob, Option.map_some, hslot, hparent, hgen]
    · rw [keyStart_denied h hbusy (hslot.symm ▸ hmay)]
      have hfiles := State.filesOk_set h.1 (f := Reg.KEY_STATUS.REQUESTER) (v := who.code)
      refine ⟨keyEnd_result hfiles who (by decide) [], keyEnd_idle hfiles who 3 [], keyEnd_raises hfiles who 3 [], ?_⟩
      rw [keyEnd_slots, State.set_keys]
  case idle =>
    show execKeyCommandDone rb s = _
    simp only [execKeyCommandDone, hj]
  case done =>
    refine ⟨goes_keyCommandDone h.1 hj rb, ?derive, ?sign, ?verify, ?pubkey, goes_keyErase h.1 hj, fun r hr => ⟨?unread, ?read⟩⟩
    case derive =>
      intro k hop hparent hk hderive hdepth hslot hempty hmin hmax
      refine goes_keyDone hj (keyDone_derive hop hparent hk hderive hdepth hslot hempty hmin hmax) ((moves_putSlot ..).files h.1) (by decide)
        fun t ht => ⟨ht.result, ?_⟩
      rw [ht.slot_eq (fun _ => rfl), keySlot_putSlot _ _ rfl]
      rfl
    case sign =>
      intro k hop hslot hk hsign hlen
      exact goes_keyDone hj (keyDone_sign hop hslot hk hsign hlen) h.1 (by decide) fun t ht => ⟨ht.result, fun i hi => ht.out i (by omega)⟩
    case verify =>
      intro hop h64 h1024
      have hdone := (show s.keyDone j rb = s.keyVerifyDone j by simp only [State.keyDone, hop]).trans (keyVerifyDone_eq s h64 h1024)
      exact goes_keyDone hj hdone h.1 (by split <;> decide) fun t ht => ht.result
    case pubkey =>
      intro k hop hslot hquar hk hsign
      exact goes_keyDone hj (keyDone_pubkey hop hslot hquar hk hsign) h.1 (by decide) fun t ht => ⟨ht.result, fun i hi => ht.out i (by omega)⟩
    case unread =>
      rintro rfl hrow
      obtain ⟨r', hdone⟩ := keyDone_unread hr hrow
      exact goes_keyDone hj hdone (filesOk_journalPut h.1 r' false) (by decide) fun t ht =>
        ⟨ht.result, by rw [ht.nvs, journalPut_failed hr]⟩
    case read =>
      rintro rfl
      exact ⟨goes_invalidateIdentity h.1 hj hr, goes_invalidateSeal h.1 hj hr, goes_invalidateGeneration h.1 hj hr, goes_provision h.1 hj hr,
        goes_tamperCfg h.1 hj hr⟩

end Sys2Proof.Machine

namespace Sys2Proof.Machine

/-! ### Fuses (R457, R458) -/

/-- Settles O6: a command that lists no fuses among its parts leaves them as they are. -/
theorem fusesChangeByTheirCommandsOnly : Obligations.FusesChangeByTheirCommandsOnly := by
  unfold Obligations.FusesChangeByTheirCommandsOnly
  intro c s t hexec hchanged
  by_contra hblows
  exact hchanged ((moves_of_exec hexec).touches.2 .fuses (Bool.eq_false_of_not_eq_true hblows))

/-! ### The two regions (R139) -/

theorem Moves.roasts_eq {m : List Part} {s t : State} (h : Moves m s t) (hm : m.contains .roasts = false) : t.roasts = s.roasts :=
  h.touches.2 .roasts hm

theorem Keeps.roasts_eq {fs : List Fld} {ps : List Part} {s t : State} (h : Keeps fs ps s t) (hp : ps.contains .roasts = false) :
    t.roasts = s.roasts := h.2.1 .roasts (by decide) hp

theorem region_eq {s t : State} (h : t.roasts = s.roasts) (r : Nat) : t.region r = s.region r := by rw [State.region, State.region, h]

theorem region_setRegion (s : State) (r : Nat) (x : Option Roast) : (s.setRegion r x).region r = x := by
  unfold State.setRegion State.region
  split <;> rfl

/-- The fields that ask for a repair (R142). -/
def repairFields : List Fld := [Reg.CFG_ROAST_STATUS.REPAIR_REQ, Reg.CFG_REPAIR_SECTION.SECTION, Reg.CFG_REPAIR_SECTION.REGION]

theorem repairHead_keeps {ps : List Part} (hp : ps.contains .out = true) (s : State) : Keeps repairFields ps s s.repairHead := by
  have hreq (b : Bool) : Keeps repairFields ps s (s.setFlag Reg.CFG_ROAST_STATUS.REPAIR_REQ b) := (Keeps.refl _ _ s).setFlag (by simp [repairFields])
  unfold State.repairHead
  split
  · exact hreq false
  · exact Keeps.ite (hreq false) (Keeps.ite (Keeps.refl _ _ s)
      (Keeps.vector hp (((hreq true).set (by simp [repairFields])).set (by simp [repairFields]))))

theorem emptyRegion_keeps (s : State) (r : Nat) : Keeps repairFields [.out, .roasts] s (s.emptyRegion r) := by
  have hset : Keeps repairFields [.out, .roasts] s (s.setRegion r none) := (Keeps.refl _ _ s).moves (moves_setRegion ..) rfl
  exact (Keeps.upd rfl rfl rfl rfl hset (h14 := .inl rfl)).trans (repairHead_keeps rfl _)

theorem region_emptyRegion (s : State) (r : Nat) : (s.emptyRegion r).region r = none :=
  (region_eq ((moves_repairHead _).roasts_eq rfl) r).trans (region_setRegion s r none)

/-- The fields that show the roast in the other region. -/
def shadowFields : List Fld := [Reg.CFG_ROAST_SHADOW.SERIAL, Reg.CFG_ROAST_SHADOW.SVN, Reg.CFG_ROAST_SHADOW.TAG]

theorem showShadow_keeps (s : State) : Keeps shadowFields [] s s.showShadow :=
  (((Keeps.refl _ _ s).set (by simp [shadowFields])).set (by simp [shadowFields])).set (by simp [shadowFields])

theorem showShadow_serial {s : State} (h : s.filesOk = true) :
    s.showShadow.get Reg.CFG_ROAST_SHADOW.SERIAL = s.otherRoast.serial % 2 ^ 64 :=
  (State.get_set_ne (.inl (by decide))).trans ((State.get_set_ne (.inl (by decide))).trans (State.get_set h))

theorem tileHealth_keeps (s : State) : Keeps [Reg.BOOT_HEALTH.COND] [.pins] s s.tileHealth := health_keeps s 4 _

/-! ### Loading and discarding a shadow roast (R134, R143, R144) -/

section
variable {s : State} {who : Requester}

theorem roastLoad_starts (h : s.filesOk = true) {src : Nat} (hsrc : src % 4 ≠ 3) (hswap : s.swapPending = false)
    (hshadow : s.get Reg.CFG_ROAST_STATUS.SHADOW ∉ [1, 4]) :
    (s.roastLoad src).get Reg.CFG_ROAST_STATUS.SHADOW = 1 ∧ (s.roastLoad src).roasts.shadowSrc = src % 4 ∧
      (s.roastLoad src).region (1 - s.activeRegion) = none := by
  simp only [List.mem_cons, List.not_mem_nil, or_false, not_or] at hshadow
  obtain ⟨h1, h4⟩ := hshadow
  have hfiles : ((s.set Reg.CFG_ROAST_CTL.SRC src).emptyRegion (1 - s.activeRegion)).filesOk = true :=
    (moves_emptyRegion ..).files (State.filesOk_set h)
  rw [State.roastLoad, if_neg (by simp [h1, h4, hswap, hsrc])]
  refine ⟨State.get_set hfiles, by rw [State.set_roasts], ?_⟩
  rw [region_eq (State.set_roasts ..)]
  exact region_emptyRegion (s.set Reg.CFG_ROAST_CTL.SRC src) _

theorem roastLoad_refused (h : s.filesOk = true) {src : Nat}
    (hc : src % 4 = 3 ∨ s.swapPending = true ∨ s.get Reg.CFG_ROAST_STATUS.SHADOW ∈ [1, 4]) :
    (s.roastLoad src).get Reg.CFG_ROAST_STATUS.CTL_REFUSED = 1 ∧
      Keeps [Reg.CFG_ROAST_CTL.SRC, Reg.CFG_ROAST_STATUS.CTL_REFUSED] [] s (s.roastLoad src) := by
  simp only [List.mem_cons, List.not_mem_nil, or_false] at hc
  rw [State.roastLoad, if_pos (by tauto)]
  exact ⟨get_setFlag (State.filesOk_set h) rfl true, ((Keeps.refl _ _ s).set (by simp)).setFlag (by simp)⟩

/-- A shadow that ends FAILED, with its detail code and vector 1 raised. -/
def State.shadowFailed (s : State) (code : Nat) : State :=
  ((s.set Reg.CFG_ROAST_STATUS.SHADOW 3).set Reg.CFG_ROAST_STATUS.ERROR code).vector 1

theorem shadowFailed_holds (h : s.filesOk = true) (code : Nat) :
    (s.shadowFailed code).out = .msix 1 1 :: .msix 0 1 :: s.out ∧ (s.shadowFailed code).get Reg.CFG_ROAST_STATUS.SHADOW = 3 ∧
      (s.shadowFailed code).get Reg.CFG_ROAST_STATUS.ERROR = code % 2 ^ Reg.CFG_ROAST_STATUS.ERROR.width ∧
      Keeps [Reg.CFG_ROAST_STATUS.SHADOW, Reg.CFG_ROAST_STATUS.ERROR] [.out] s (s.shadowFailed code) := by
  have hget (f : Fld) : (s.shadowFailed code).get f = ((s.set Reg.CFG_ROAST_STATUS.SHADOW 3).set Reg.CFG_ROAST_STATUS.ERROR code).get f :=
    get_moves (moves_vector ..) rfl f
  refine ⟨by simp only [State.shadowFailed, State.vector, State.emit, State.set_out], ?_, ?_, ?_⟩
  · rw [hget, State.get_set_ne (.inl (by decide)), State.get_set h]
    rfl
  · rw [hget, State.get_set (State.filesOk_set h)]
  · exact Keeps.vector rfl (((Keeps.refl _ _ s).set (by simp)).set (by simp))

/-- A shadow that ends READY in the other region. -/
def State.shadowReady (s : State) (r : Roast) : State :=
  (((s.setRegion (1 - s.activeRegion) (some r)).set Reg.CFG_ROAST_STATUS.SHADOW 2).showShadow).vector 1

theorem shadowReady_holds (h : s.filesOk = true) (r : Roast) :
    (s.shadowReady r).out = .msix 1 1 :: .msix 0 1 :: s.out ∧ (s.shadowReady r).get Reg.CFG_ROAST_STATUS.SHADOW = 2 ∧
      (s.shadowReady r).region (1 - s.activeRegion) = some r ∧
      (s.shadowReady r).get Reg.CFG_ROAST_SHADOW.SERIAL = r.serial % 2 ^ 64 := by
  let v := s.setRegion (1 - s.activeRegion) (some r)
  let w := v.set Reg.CFG_ROAST_STATUS.SHADOW 2
  have hv : Moves [.roasts] s v := moves_setRegion ..
  have hw : w.filesOk = true := State.filesOk_set (hv.files h)
  have hshow := showShadow_keeps w
  have hvector : Moves [.out] w.showShadow (s.shadowReady r) := moves_vector ..
  have hregion : w.region (1 - s.activeRegion) = some r := (region_eq (State.set_roasts ..) _).trans (region_setRegion ..)
  have hactive : w.activeRegion = s.activeRegion := (State.get_set_ne (.inl (by decide))).trans (get_moves hv rfl _)
  refine ⟨?_, ?_, ?_, ?_⟩
  · have hout : w.showShadow.out = s.out :=
      (hshow.2.1 .out (by decide) rfl).trans ((State.set_out ..).trans (hv.touches.2 .out rfl))
    rw [← hout]
    rfl
  · rw [get_moves hvector rfl, hshow.get (by decide)]
    exact State.get_set (hv.files h)
  · exact (region_eq ((hvector.roasts_eq rfl).trans (hshow.roasts_eq rfl)) _).trans hregion
  · rw [get_moves hvector rfl, showShadow_serial hw, State.otherRoast, hactive, hregion, Option.getD_some]

theorem exec_shadowLoadDone (hloading : s.get Reg.CFG_ROAST_STATUS.SHADOW = 1) (d : LoadReport) :
    exec (.shadowLoadDone d) s = .next (match s.loadFails (s.roasts.shadowSrc == 2) d (some (s.get Reg.CFG_FW_API.API)) with
      | some c => s.shadowFailed c
      | none => s.shadowReady d.image.loaded) := by
  show execShadowLoadDone d s = _
  rw [execShadowLoadDone, if_neg (not_not.mpr hloading)]
  rfl

theorem discard_empties (h : s.filesOk = true) :
    let t := (s.emptyRegion (1 - s.activeRegion)).set Reg.CFG_ROAST_STATUS.SHADOW 0
    t.get Reg.CFG_ROAST_STATUS.SHADOW = 0 ∧ t.region (1 - s.activeRegion) = none :=
  ⟨State.get_set ((moves_emptyRegion ..).files h), (region_eq (State.set_roasts ..) _).trans (region_emptyRegion ..)⟩

end

/-- Settles O30: each command by what it finds in SHADOW, and the end of a load by the first check that fails. -/
theorem shadowRoastsLoad : Obligations.ShadowRoastsLoad := by
  unfold Obligations.ShadowRoastsLoad
  intro s who h
  refine ⟨fun src hsrc hswap hshadow => goes_guarded h rfl (roastLoad_starts h.1 hsrc hswap hshadow),
    fun src hc => goes_guarded h rfl (roastLoad_refused h.1 hc), fun d hloading => ⟨_, exec_shadowLoadDone hloading d, ?done⟩,
    fun hswap => ⟨fun hloading => goes_guarded h rfl ?cancel, fun hheld => goes_guarded h rfl ?empty,
      fun hretiring => goes_guarded h rfl ?refused⟩, goes_guarded h rfl ⟨?floor, State.get_set h.1, ?frame⟩⟩
  case done =>
    cases s.loadFails (s.roasts.shadowSrc == 2) d (some (s.get Reg.CFG_FW_API.API)) with
    | some c => exact shadowFailed_holds h.1 c
    | none => exact shadowReady_holds h.1 _
  case cancel =>
    simp only [State.roastDiscard, hswap, hloading]
    obtain ⟨hout, hshadow, herror, -⟩ := shadowFailed_holds h.1 0
    exact ⟨hshadow, herror, hout⟩
  case empty =>
    simp only [List.mem_cons, List.not_mem_nil, or_false] at hheld
    obtain hheld | hheld := hheld <;> simp only [State.roastDiscard, hswap, hheld] <;> exact discard_empties h.1
  case refused =>
    simp only [State.roastDiscard, hswap, hretiring]
    exact ⟨get_setFlag h.1 rfl true, (Keeps.refl _ _ s).setFlag (by simp)⟩
  case floor => rw [State.raiseFloor, State.set_nvs]
  case frame => exact Keeps.set (by simp) (Keeps.upd rfl rfl rfl rfl (Keeps.refl _ _ s) (h19 := .inl rfl))

end Sys2Proof.Machine

namespace Sys2Proof.Machine

/-! ### Swap requests (R145, R150) -/

section
variable {s : State}

theorem swapEnd_refused (h : s.filesOk = true) {result : Nat} (hr : result < 16) : SwapRefused result (s.swapEnd result) := by
  have hstate : (s.set Reg.CFG_SWAP_RESULT.STATE 0).filesOk = true := State.filesOk_set h
  refine ⟨?_, ?_, get_setFlag (State.filesOk_set hstate) rfl true⟩
  · exact (get_setFlag_ne (.inl (by decide))).trans ((State.get_set_ne (.inl (by decide))).trans (State.get_set h))
  · exact (get_setFlag_ne (.inl (by decide))).trans ((State.get_set hstate).trans (Nat.mod_eq_of_lt hr))

theorem swapEnd_keeps (s : State) (result : Nat) :
    Keeps [Reg.CFG_SWAP_RESULT.STATE, Reg.CFG_SWAP_RESULT.RESULT, Reg.CFG_SWAP_RESULT.DONE] [] s (s.swapEnd result) :=
  (((Keeps.refl _ _ s).set (by simp)).set (by simp)).setFlag (by simp)

/-- D and AUTO of a request in their registers. -/
def State.requested (s : State) (d : Nat) (auto : Bool) : State :=
  (s.set Reg.CFG_SWAP_SLICE.SLICE d).setFlag Reg.CFG_SWAP_CTL.AUTO auto

theorem requested_keeps (s : State) (d : Nat) (auto : Bool) {ps : List Part} :
    Keeps [Reg.CFG_SWAP_SLICE.SLICE, Reg.CFG_SWAP_CTL.AUTO] ps s (s.requested d auto) :=
  ((Keeps.refl _ _ s).set (by simp)).setFlag (by simp)

theorem requested_files (h : s.filesOk = true) (d : Nat) (auto : Bool) : (s.requested d auto).filesOk = true :=
  filesOk_setFlag (State.filesOk_set h)

/-- A request as it is judged: its instant noted. -/
def State.asked (s : State) (d : Nat) (auto : Bool) : State :=
  let v := s.requested d auto
  { v with roasts := { v.roasts with swapAsked := v.time.tai } }

theorem asked_roasts (s : State) (d : Nat) (auto : Bool) : (s.asked d auto).roasts = { s.roasts with swapAsked := s.time.tai } := by
  simp only [State.asked, State.requested, State.setFlag, State.set_roasts, State.set_time]

theorem asked_keeps (s : State) (d : Nat) (auto : Bool) :
    Keeps [Reg.CFG_SWAP_SLICE.SLICE, Reg.CFG_SWAP_CTL.AUTO] [.roasts] s (s.asked d auto) :=
  Keeps.upd rfl rfl rfl rfl (requested_keeps s d auto) (h14 := .inl rfl)

theorem asked_files (h : s.filesOk = true) (d : Nat) (auto : Bool) : (s.asked d auto).filesOk = true := requested_files h d auto

theorem asked_region (s : State) (d : Nat) (auto : Bool) (r : Nat) : (s.asked d auto).region r = s.region r := by
  simp only [State.region, asked_roasts]

theorem asked_roast (s : State) (d : Nat) (auto : Bool) : (s.asked d auto).roast = s.roast := by
  rw [State.roast, State.roast, asked_region, State.activeRegion, (asked_keeps ..).get (by decide)]
  rfl

theorem asked_otherRoast (s : State) (d : Nat) (auto : Bool) : (s.asked d auto).otherRoast = s.otherRoast := by
  rw [State.otherRoast, State.otherRoast, asked_region, State.activeRegion, (asked_keeps ..).get (by decide)]
  rfl

theorem asked_fs (s : State) (d : Nat) (auto : Bool) : (s.asked d auto).fs = s.fs := congrArg Roast.rate (asked_roast s d auto)

theorem asked_aln (s : State) (d : Nat) (auto : Bool) : (s.asked d auto).aln = s.aln := (asked_keeps s d auto).2.1 .aln (by decide) rfl

/-- The margin does not hang on the request. -/
theorem asked_swapMargin (s : State) (d : Nat) (auto : Bool) : (s.asked d auto).swapMargin = s.swapMargin := by
  have hk := asked_keeps s d auto
  have hpace : (s.asked d auto).pace = s.pace := hk.pace_eq rfl
  have hshed : (s.asked d auto).shedRanks = s.shedRanks := by
    rw [State.shedRanks, State.shedRanks, hk.get (g := Reg.PACE_STATUS.SHED) (by decide)]
  have hexpected (r : Roast) (k e : Nat) : (s.asked d auto).expected r k e = s.expected r k e := by
    rw [State.expected, State.expected, hk.get (g := Reg.PACE_REV_HS.HS) (by decide)]
  simp only [State.swapMargin, asked_otherRoast, hpace, hshed, hexpected]

/-- The slice a request asks for: D as SLICE holds it, or under AUTO the first one two ahead of the present slice and of every written one. -/
def State.swapSlice (s : State) (d : Nat) (auto : Bool) : Nat :=
  if auto then s.writtenSlices.foldl (fun m n => max m (n + 2)) (sliceOf s.fs s.time.tai + 2) else d % 2 ^ 64

/-- A request accepted for slice x. -/
def State.swapPends (s : State) (x : Nat) : State :=
  let v := { s with roasts := { s.roasts with swapD := x }, ing := { s.ing with shadowSusp := [] } }
  ((v.set Reg.CFG_SWAP_SLICE.SLICE x).set Reg.CFG_SWAP_RESULT.STATE 2).set Reg.CFG_SWAP_RESULT.RESULT 0

/-- R145's conditions in their order, read off the state before the request. -/
theorem swapJudge_asked (h : s.filesOk = true) (d : Nat) (auto : Bool) : (s.asked d auto).swapJudge =
    if s.get Reg.CFG_ROAST_STATUS.SHADOW ≠ 2 then (s.asked d auto).swapEnd 3
    else if s.otherRoast.rate ≠ s.fs ∨ s.otherRoast.laneWord ≠ s.roast.laneWord then (s.asked d auto).swapEnd 4
    else if s.swapSlice d auto ≤ sliceOf s.fs s.time.tai ∨ sliceOf s.fs s.time.tai + 16777216 < s.swapSlice d auto ∨
      s.openFrom (s.swapSlice d auto) then (s.asked d auto).swapEnd 2
    else if !s.swapMargin then (s.asked d auto).swapEnd 5
    else (s.asked d auto).swapPends (s.swapSlice d auto) := by
  have hk := asked_keeps s d auto
  have hshadow : (s.asked d auto).get Reg.CFG_ROAST_STATUS.SHADOW = s.get Reg.CFG_ROAST_STATUS.SHADOW := hk.get (by decide)
  have hauto : (s.asked d auto).flag Reg.CFG_SWAP_CTL.AUTO = auto := flag_setFlag (State.filesOk_set h) rfl
  have hslice : (s.asked d auto).get Reg.CFG_SWAP_SLICE.SLICE = d % 2 ^ 64 := (get_setFlag_ne (.inl (by decide))).trans (State.get_set h)
  have hat : (s.asked d auto).roasts.swapAsked = s.time.tai := by rw [asked_roasts]
  have hwritten : (s.asked d auto).writtenSlices = s.writtenSlices := by simp only [State.writtenSlices, asked_aln]
  have hopen (x : Nat) : (s.asked d auto).openFrom x = s.openFrom x := by simp only [State.openFrom, asked_aln]
  simp only [State.swapJudge, hshadow, hauto, hslice, hat, hwritten, hopen, asked_otherRoast, asked_roast, asked_fs, asked_swapMargin]
  rfl

theorem swapJudge_pends (h : s.filesOk = true) {d : Nat} {auto : Bool} (hready : s.get Reg.CFG_ROAST_STATUS.SHADOW = 2)
    (hrate : s.otherRoast.rate = s.fs) (hlanes : s.otherRoast.laneWord = s.roast.laneWord)
    (hahead : sliceOf s.fs s.time.tai < s.swapSlice d auto) (hnear : s.swapSlice d auto ≤ sliceOf s.fs s.time.tai + 16777216)
    (hfree : s.openFrom (s.swapSlice d auto) = false) (hmargin : s.swapMargin = true) :
    (s.asked d auto).swapJudge = (s.asked d auto).swapPends (s.swapSlice d auto) := by
  rw [swapJudge_asked h, if_neg (not_not.mpr hready), if_neg (by simp [hrate, hlanes]), if_neg (by simp [hfree]; omega),
    if_neg (by simp [hmargin])]

theorem swapSlice_given {d : Nat} (hd : d < 2 ^ 64) : s.swapSlice d false = d := Nat.mod_eq_of_lt hd

/-- Under AUTO with no slice written, the slice after the next one. -/
theorem swapSlice_auto (hnone : s.aln.slices = []) (d : Nat) : s.swapSlice d true = sliceOf s.fs s.time.tai + 2 := by
  simp [State.swapSlice, State.writtenSlices, hnone]

theorem openFrom_nil (hnone : s.aln.slices = []) (d : Nat) : s.openFrom d = false := by simp [State.openFrom, hnone]

theorem swapPends_holds (h : s.filesOk = true) (x : Nat) :
    (s.swapPends x).get Reg.CFG_SWAP_RESULT.STATE = 2 ∧ (s.swapPends x).get Reg.CFG_SWAP_RESULT.RESULT = 0 ∧
      (s.swapPends x).get Reg.CFG_SWAP_SLICE.SLICE = x % 2 ^ 64 ∧ (s.swapPends x).roasts.swapD = x := by
  have hslice := State.filesOk_set (f := Reg.CFG_SWAP_SLICE.SLICE) (v := x)
    (show ({ s with roasts := { s.roasts with swapD := x }, ing := { s.ing with shadowSusp := [] } } : State).filesOk = true from h)
  refine ⟨?_, State.get_set (State.filesOk_set hslice), ?_, ?_⟩
  · exact (State.get_set_ne (.inl (by decide))).trans (State.get_set hslice)
  · exact (State.get_set_ne (.inl (by decide))).trans ((State.get_set_ne (.inl (by decide))).trans (State.get_set (by exact h)))
  · simp only [State.swapPends, State.set_roasts]

end

section
variable {s : State} {who : Requester} (h : Ready s who)
include h

theorem exec_swapRequest (d : Nat) (auto : Bool) : exec (.swapRequest who d auto) s = .next (s.requested d auto).swapRequest :=
  congrArg Host.Outcome.next (h.guarded ..)

/-- A request that finds no other one is judged at once where no transaction is committing. -/
theorem goes_swapRequest {d : Nat} {auto : Bool} {P : State → Prop} (hidle : s.get Reg.CFG_SWAP_RESULT.STATE = 0)
    (htxn : s.get Reg.CFG_TXN_STATUS.STATE ≠ 2) (hp : P (s.asked d auto).swapJudge) : Goes (.swapRequest who d auto) s P := by
  have hv := requested_keeps s d auto (ps := [])
  have hvidle : (s.requested d auto).get Reg.CFG_SWAP_RESULT.STATE = 0 := (hv.get (by decide)).trans hidle
  have hvtxn : (s.requested d auto).get Reg.CFG_TXN_STATUS.STATE ≠ 2 := by rwa [hv.get (by decide)]
  refine ⟨_, exec_swapRequest h d auto, ?_⟩
  rwa [State.swapRequest, if_neg (by omega), if_neg (by omega), if_neg hvtxn]

/-- A request while another one waits behind a commit. -/
theorem goes_swapRequest_held (d : Nat) (auto : Bool) (hheld : s.get Reg.CFG_SWAP_RESULT.STATE = 1) :
    Goes (.swapRequest who d auto) s fun t => t.get Reg.CFG_SWAP_RESULT.STATE = 1 ∧ t.get Reg.CFG_SWAP_RESULT.RESULT = 6 ∧
      t.get Reg.CFG_SWAP_RESULT.DONE = 1 := by
  have hvheld : (s.requested d auto).get Reg.CFG_SWAP_RESULT.STATE = 1 := ((requested_keeps s d auto (ps := [])).get (by decide)).trans hheld
  have hfiles := requested_files h.1 d auto
  refine ⟨_, exec_swapRequest h d auto, ?_⟩
  rw [State.swapRequest, if_neg (by omega), if_pos (by omega)]
  exact ⟨(get_setFlag_ne (.inl (by decide))).trans ((State.get_set_ne (.inl (by decide))).trans hvheld),
    (get_setFlag_ne (.inl (by decide))).trans (State.get_set hfiles), get_setFlag (State.filesOk_set hfiles) rfl true⟩

end

/-! ### The end of a retiring roast (R149) -/

section
variable {s : State}

/-- The retiring roast's region emptied, once every engine has taken over. -/
def State.retireRegion (s : State) : State := (s.roasts.carry.foldl State.carryNow s).emptyRegion (1 - s.activeRegion)

/-- What ingest held of the retiring roast dropped. -/
def State.dropOldStreams (s : State) : State :=
  { s with ing := { s.ing with
    oldEn := [], oldSusp := [], oldTpl := [], oldRec := [], oldResume := [], keys := s.ing.keys.filter fun e => decide (e.1 < 8192) } }

theorem retireRegion_files (h : s.filesOk = true) : s.retireRegion.filesOk = true :=
  (moves_emptyRegion ..).files ((Moves.foldl (fun _ _ => moves_carryNow ..) (Moves.refl _ _)).files h)

theorem exec_retiringEnd {t : Tai} {u : State} (hu : u = s.moveTo t) (hretiring : u.get Reg.CFG_ROAST_STATUS.SHADOW = 4)
    (hend : u.roasts.retireEnd ≤ u.time.tai) (hruns : ∀ r ∈ u.runs, u.roasts.retireD ≤ r.n) : exec (.retiringEnd t) s =
      .next (u.retireRegion.dropOldStreams.set Reg.CFG_ROAST_STATUS.SHADOW 0).showShadow.tileHealth := by
  subst hu
  have hdone : ¬((s.moveTo t).runs.any fun r => decide (r.n < (s.moveTo t).roasts.retireD)) = true := by
    simpa using hruns
  show execRetiringEnd t s = _
  rw [execRetiringEnd, if_neg (by rintro (hc | hc | hc); exacts [hc hretiring, hdone hc, not_lt.mpr hend hc])]
  rfl

theorem retired_holds (h : s.filesOk = true) {v : State}
    (hv : v = (s.retireRegion.dropOldStreams.set Reg.CFG_ROAST_STATUS.SHADOW 0).showShadow.tileHealth) :
    v.get Reg.CFG_ROAST_STATUS.SHADOW = 0 ∧ v.region (1 - s.activeRegion) = none ∧ v.ing.oldEn = [] ∧ v.ing.oldRec = [] := by
  let w := s.retireRegion.dropOldStreams.set Reg.CFG_ROAST_STATUS.SHADOW 0
  have hshow := showShadow_keeps w
  have hhealth := tileHealth_keeps w.showShadow
  have hroasts : v.roasts = s.retireRegion.roasts := by
    rw [hv, hhealth.roasts_eq rfl, hshow.roasts_eq rfl]
    exact State.set_roasts ..
  have hing : v.ing = s.retireRegion.dropOldStreams.ing := by
    rw [hv, hhealth.2.1 .ing (by decide) rfl, hshow.2.1 .ing (by decide) rfl]
    exact State.set_ing ..
  refine ⟨?_, (region_eq hroasts _).trans (region_emptyRegion ..), by rw [hing]; rfl, by rw [hing]; rfl⟩
  rw [hv, hhealth.get (by decide), hshow.get (by decide)]
  exact State.get_set (retireRegion_files h)

end

/-- Settles O31: a request by the first condition of R145 that fails, a cancel by what it finds, and the retiring roast once it is done with. -/
theorem swapsAreJudged : Obligations.SwapsAreJudged := by
  unfold Obligations.SwapsAreJudged
  intro s who h
  have hasked (d : Nat) (auto : Bool) := asked_files h.1 d auto
  refine ⟨fun d hd hidle htxn => ⟨fun hnot auto => goes_swapRequest h hidle htxn ?unready, fun hready => ⟨fun hdiff auto =>
    goes_swapRequest h hidle htxn ?differs, fun hrate hlanes => ⟨fun hlate => goes_swapRequest h hidle htxn ?late, fun hlo hhi hfree =>
      ⟨fun hmargin => goes_swapRequest h hidle htxn ?margin, fun hmargin => goes_swapRequest h hidle htxn ?pends⟩⟩⟩⟩,
    fun d auto => goes_swapRequest_held h d auto, fun hpending hfree => goes_guarded h rfl ?cancel, fun t hretiring hend hruns => ?retire⟩
  case unready =>
    rw [swapJudge_asked h.1, if_pos hnot]
    exact swapEnd_refused (hasked d auto) (by decide)
  case differs =>
    rw [swapJudge_asked h.1, if_neg (not_not.mpr hready), if_pos hdiff]
    exact swapEnd_refused (hasked d auto) (by decide)
  case late =>
    rw [swapJudge_asked h.1, if_neg (not_not.mpr hready), if_neg (by simp [hrate, hlanes]), if_pos (by rwa [swapSlice_given hd])]
    exact swapEnd_refused (hasked d false) (by decide)
  case margin =>
    rw [swapJudge_asked h.1, if_neg (not_not.mpr hready), if_neg (by simp [hrate, hlanes]),
      if_neg (by simp [swapSlice_given hd, hfree]; omega), if_pos (by simp [hmargin])]
    exact swapEnd_refused (hasked d false) (by decide)
  case pends =>
    have hgiven : s.swapSlice d false = d := swapSlice_given hd
    rw [swapJudge_pends h.1 hready hrate hlanes (by omega) (by omega) (by rwa [hgiven]) hmargin, hgiven]
    obtain ⟨hstate, hresult, hslice, hslot⟩ := swapPends_holds (hasked d false) d
    refine ⟨hstate, hresult, hslice.trans (Nat.mod_eq_of_lt hd), hslot, fun hnone x => goes_swapRequest h hidle htxn ?_⟩
    have hauto := swapSlice_auto hnone x
    rw [swapJudge_pends h.1 hready hrate hlanes (by omega) (by omega) (openFrom_nil hnone _) hmargin, hauto]
    exact (swapPends_holds (hasked x true) _).2.2.2
  case cancel =>
    simp only [State.swapCancel, hpending, hfree]
    obtain ⟨hstate, hresult, hdone⟩ := swapEnd_refused h.1 (result := 7) (by decide)
    exact ⟨hstate, hresult, hdone, swapEnd_keeps s 7⟩
  case retire =>
    have hmove := moves_moveTo s t
    have hroasts : (s.moveTo t).roasts = s.roasts := hmove.roasts_eq rfl
    have hactive : (s.moveTo t).activeRegion = s.activeRegion := get_moves hmove rfl _
    rw [← hactive]
    exact ⟨_, exec_retiringEnd rfl ((get_moves hmove rfl _).trans hretiring) (by rwa [hroasts]) (by rwa [hroasts, hmove.touches.2 .runs rfl]),
      retired_holds (hmove.files h.1) rfl⟩

end Sys2Proof.Machine

namespace Sys2Proof.Machine

/-! ### Tile copies (R140, R142) -/

theorem copyBad_eq {s t : State} (h : t.roasts.bad = s.roasts.bad) (region copy tile : Nat) :
    t.copyBad region copy tile = s.copyBad region copy tile := by rw [State.copyBad, State.copyBad, h]

theorem copyBad_markCopy (s : State) (region copy tile : Nat) (bad : Bool) :
    (s.markCopy region copy tile bad).copyBad region copy tile = bad := by
  cases bad <;> simp [State.markCopy, State.copyBad]

/-- Marking a copy good makes no copy bad. -/
theorem copyBad_markGood {s : State} {region copy tile : Nat} (h : s.copyBad region copy tile = false) (r c t : Nat) :
    (s.markCopy r c t false).copyBad region copy tile = false := by
  simp only [State.copyBad, List.contains_eq_mem, decide_eq_false_iff_not] at h ⊢
  exact fun hmem => h (List.mem_of_mem_filter hmem)

theorem queueRepair_bad (s : State) (region sect : Nat) : (s.queueRepair region sect).roasts.bad = s.roasts.bad := by
  have hlog (v : State) (code : Nat) : (v.log code 0 []).roasts = v.roasts := (moves_log v code 0 []).roasts_eq rfl
  unfold State.queueRepair
  split_ifs
  · rfl
  · exact (congrArg Roasts.bad ((moves_repairHead _).roasts_eq rfl)).trans rfl
  · exact (congrArg Roasts.bad (hlog ..)).trans rfl
  · rfl

theorem scrubbed_bad (s : State) : s.scrubbed.roasts.bad = s.roasts.bad := by
  unfold State.scrubbed
  split
  · rw [State.count, State.set_roasts]
  · rfl

theorem scrubbed_keeps (s : State) : Keeps [Reg.CFG_TILE_FAULT.PASSES] [.roasts] s s.scrubbed := by
  have hreads (n : Nat) : Keeps [Reg.CFG_TILE_FAULT.PASSES] [.roasts] s { s with roasts := { s.roasts with scrubReads := n } } :=
    Keeps.upd rfl rfl rfl rfl (Keeps.refl _ _ s) (h14 := .inl rfl)
  exact Keeps.ite ((hreads _).count (by simp)) (hreads _)

/-- What the check of a copy makes of its tile, before BOOT_HEALTH follows. -/
def State.scrubJudged (s : State) (region copy tile sect : Nat) (good : Bool) : State :=
  if good then s.markCopy region copy tile false
  else if !s.copyBad region (1 - copy) tile then (s.markCopy region copy tile false).count Reg.CFG_TILE_FAULT.REPAIRED
  else (s.markCopy region copy tile true).queueRepair region sect

theorem exec_scrubTileRead {s : State} {region copy tile sect : Nat} (hr : region < 2) (hc : copy < 2)
    (hsect : ((s.region region).getD {}).sectionOf tile = some sect) (good : Bool) :
    exec (.scrubTileRead region copy tile good) s = .next (s.scrubbed.scrubJudged region copy tile sect good).tileHealth := by
  show execScrubTileRead region copy tile good s = _
  simp only [execScrubTileRead, Nat.mod_eq_of_lt hr, Nat.mod_eq_of_lt hc, hsect]
  rfl

theorem scrubJudged_copyBad (s : State) (region copy tile sect : Nat) (good : Bool) :
    (s.scrubJudged region copy tile sect good).copyBad region copy tile = (!good && s.copyBad region (1 - copy) tile) := by
  unfold State.scrubJudged
  cases good with
  | true => exact copyBad_markCopy ..
  | false =>
    cases htwin : s.copyBad region (1 - copy) tile with
    | false =>
      show ((s.markCopy region copy tile false).count Reg.CFG_TILE_FAULT.REPAIRED).copyBad region copy tile = false
      exact (copyBad_eq (congrArg Roasts.bad (State.set_roasts ..)) ..).trans (copyBad_markCopy ..)
    | true => exact (copyBad_eq (queueRepair_bad ..) ..).trans (copyBad_markCopy ..)

theorem scrubJudged_rewrites {s : State} (h : s.filesOk = true) {region copy tile : Nat} (htwin : s.copyBad region (1 - copy) tile = false)
    (sect : Nat) : Counted Reg.CFG_TILE_FAULT.REPAIRED s (s.scrubJudged region copy tile sect false) := by
  have hmark := moves_markCopy s region copy tile false
  simp only [State.scrubJudged, htwin]
  exact (counted_count (hmark.files h) _).after (get_moves hmark rfl _)

theorem goes_scrubTileRead {s : State} (h : s.filesOk = true) {region copy tile : Nat} (good : Bool) (hr : region < 2) (hc : copy < 2)
    (hsect : (((s.region region).getD {}).sectionOf tile).isSome = true) : Goes (.scrubTileRead region copy tile good) s fun t =>
      t.copyBad region copy tile = (!good && s.copyBad region (1 - copy) tile) ∧
      (good = false → s.copyBad region (1 - copy) tile = false → Counted Reg.CFG_TILE_FAULT.REPAIRED s t) := by
  obtain ⟨sect, hsect⟩ := Option.isSome_iff_exists.mp hsect
  have hread : s.scrubbed.copyBad region (1 - copy) tile = s.copyBad region (1 - copy) tile := copyBad_eq (scrubbed_bad s) ..
  have hhealth := tileHealth_keeps (s.scrubbed.scrubJudged region copy tile sect good)
  refine ⟨_, exec_scrubTileRead hr hc hsect good, ?_, ?_⟩
  · rw [copyBad_eq (congrArg Roasts.bad (hhealth.roasts_eq rfl)), scrubJudged_copyBad, hread]
  · rintro rfl htwin
    exact ((scrubJudged_rewrites ((moves_scrubbed s).files h) (hread.trans htwin) sect).then (hhealth.get (by decide))).after
      ((scrubbed_keeps s).get (by decide))

/-! ### Sections repaired from source (R142) -/

/-- Both copies of a tile rewritten. -/
def State.rewriteTile (s : State) (region tile : Nat) : State :=
  ((s.markCopy region 0 tile false).markCopy region 1 tile false).count Reg.CFG_TILE_FAULT.REPAIRED 2

theorem rewriteTile_copyBad_eq (s : State) (region tile r c t : Nat) : (s.rewriteTile region tile).copyBad r c t =
    ((s.markCopy region 0 tile false).markCopy region 1 tile false).copyBad r c t :=
  copyBad_eq (congrArg Roasts.bad (State.set_roasts ..)) ..

theorem rewriteTile_good (s : State) (region tile : Nat) {copy : Nat} (hc : copy < 2) :
    (s.rewriteTile region tile).copyBad region copy tile = false := by
  rw [rewriteTile_copyBad_eq]
  obtain rfl | rfl : copy = 0 ∨ copy = 1 := by omega
  · exact copyBad_markGood (copyBad_markCopy ..) ..
  · exact copyBad_markCopy ..

theorem rewriteTile_stays_good {s : State} {r c t : Nat} (h : s.copyBad r c t = false) (region tile : Nat) :
    (s.rewriteTile region tile).copyBad r c t = false := by
  rw [rewriteTile_copyBad_eq]
  exact copyBad_markGood (copyBad_markGood h ..) ..

/-- The tiles of a section with a bad copy. -/
def State.badTiles (s : State) (region : Nat) (x : Section) : List Nat :=
  x.tiles.filter fun t => s.copyBad region 0 t || s.copyBad region 1 t

theorem copyBad_of_not_mem_badTiles {s : State} {region tile : Nat} {x : Section} (ht : tile ∈ x.tiles) (hnot : tile ∉ s.badTiles region x)
    {copy : Nat} (hc : copy < 2) : s.copyBad region copy tile = false := by
  simp only [State.badTiles, List.mem_filter, ht, true_and, Bool.or_eq_true, not_or, Bool.not_eq_true] at hnot
  obtain ⟨h0, h1⟩ := hnot
  obtain rfl | rfl : copy = 0 ∨ copy = 1 := by omega
  · exact h0
  · exact h1

/-- The section's bad tiles rewritten. -/
def State.rewriteSection (s : State) (region : Nat) (x : Section) : State :=
  (s.badTiles region x).foldl (fun s t => s.rewriteTile region t) s

theorem rewriteSection_good (s : State) (region : Nat) {x : Section} {tile copy : Nat} (ht : tile ∈ x.tiles) (hc : copy < 2) :
    (s.rewriteSection region x).copyBad region copy tile = false := by
  by_cases hbad : tile ∈ s.badTiles region x
  · exact foldl_establishes (inv := fun _ => True) (done := fun v => v.copyBad region copy tile = false) hbad (fun _ _ _ => trivial)
      (fun v _ => rewriteTile_good v region tile hc) (fun _ t _ _ hv => rewriteTile_stays_good hv region t) trivial
  · exact List.foldlRecOn (motive := fun v : State => v.copyBad region copy tile = false) _ _ (copyBad_of_not_mem_badTiles ht hbad hc)
      fun _ hv t _ => rewriteTile_stays_good hv region t

theorem rewriteSection_busy (s : State) (region : Nat) (x : Section) : (s.rewriteSection region x).roasts.repairBusy = s.roasts.repairBusy :=
  List.foldlRecOn (motive := fun v : State => v.roasts.repairBusy = s.roasts.repairBusy) _ _ rfl fun v hv t _ => by
    rw [State.rewriteTile, State.count, State.set_roasts]
    exact hv

/-- A section is repaired: it waits no longer, and every copy of its tiles is good. -/
def SectionRepaired (region sect : Nat) (x : Section) (t : State) : Prop :=
  (region, sect) ∉ t.roasts.repairQueue ∧ ∀ tile ∈ x.tiles, ∀ copy, copy < 2 → t.copyBad region copy tile = false

theorem repairFrom_repairs {s : State} {region sect : Nat} {x : Section} {tiles : List Bytes}
    (hx : (((s.region region).getD {}).secs)[sect]? = some x) (hdigest : Config.sha512 tiles.flatten = x.digest) :
    ∃ t, s.repairFrom region sect tiles = some t ∧ t.roasts.repairBusy = s.roasts.repairBusy ∧ SectionRepaired region sect x t := by
  unfold State.repairFrom
  simp only [hx, if_neg (not_not.mpr hdigest)]
  refine ⟨_, rfl, ?_⟩
  have hafter (v : State) : v.repairHead.tileHealth.roasts = v.roasts :=
    ((tileHealth_keeps _).roasts_eq rfl).trans ((moves_repairHead v).roasts_eq rfl)
  refine ⟨?_, ?_, fun tile ht copy hc => ?_⟩
  · rw [hafter]
    exact rewriteSection_busy s region x
  · rw [hafter]
    simp
  · rw [copyBad_eq (congrArg Roasts.bad (hafter _))]
    exact rewriteSection_good s region ht hc

section
variable {s : State} {region sect : Nat} {rest : List (Nat × Nat)} {x : Section} {d : LoadReport}
  (hqueue : s.roasts.repairQueue = (region, sect) :: rest) (hx : (((s.region region).getD {}).secs)[sect]? = some x)
  (hdigest : Config.sha512 d.image.tiles.flatten = x.digest)
include hqueue hx hdigest

theorem goes_flashSectionReread (hflash : d.flashErr = false) (hhost : s.regionHost region = false) :
    Goes (.flashSectionReread d) s (SectionRepaired region sect x) := by
  obtain ⟨t, ht, -, hrepaired⟩ := repairFrom_repairs hx hdigest
  refine ⟨t, ?_, hrepaired⟩
  show execFlashSectionReread d s = _
  simp [execFlashSectionReread, hqueue, hflash, hhost, ht]

theorem goes_repairDeliveryDone (hdma : d.dmaErr = false) (hbusy : s.roasts.repairBusy = true) :
    Goes (.repairDeliveryDone d) s fun t => t.roasts.repairBusy = false ∧ SectionRepaired region sect x t := by
  show ∃ t, execRepairDeliveryDone d s = .next t ∧ _
  rw [execRepairDeliveryDone, if_neg (by simp [hbusy])]
  extract_lets _ u
  obtain ⟨t, ht, hidle, hrepaired⟩ := repairFrom_repairs (s := u) hx hdigest
  have hwaits : u.roasts.repairQueue = (region, sect) :: rest := hqueue
  exact ⟨t, by simp [hwaits, hdma, ht], hidle, hrepaired⟩

end

theorem flag_of_get {s : State} {f : Fld} (h : s.get f = 1) : s.flag f = true := beq_of_eq h

/-- Settles O32: what a scrub read finds, a repair by the tiles whose digest matches, and the host's side of a delivery. -/
theorem tilesAreRepaired : Obligations.TilesAreRepaired := by
  unfold Obligations.TilesAreRepaired
  intro s h
  refine ⟨fun region copy tile good hr hc hsect => goes_scrubTileRead h good hr hc hsect, fun d region sect rest x hqueue hx hdigest =>
    ⟨goes_flashSectionReread hqueue hx hdigest, goes_repairDeliveryDone hqueue hx hdigest⟩, fun hreq => ⟨s.vector 1, ?_, rfl,
      Keeps.vector rfl (Keeps.refl _ _ s)⟩, fun who hready hreq => goes_guarded hready rfl ?_⟩
  · show execRepairReqReminder s = _
    rw [execRepairReqReminder, if_pos (flag_of_get hreq)]
  · rw [if_pos (flag_of_get hreq)]
    exact ⟨rfl, Keeps.upd rfl rfl rfl rfl (Keeps.refl _ _ s) (h14 := .inl rfl)⟩

end Sys2Proof.Machine

namespace Sys2Proof.Machine

/-! ### Ring events held back (R164, R294) -/

section
variable {s : State} {t l : Tai}

theorem goes_ringHoldoff {r : Ring} (hev : alookup r s.ports.ringEv = some (l, true))
    (hdue : l + s.get r.holdoff * usUnit ≤ (s.moveTo t).time.elapsed) :
    Goes (.ringEventHoldoffExpiry (some r) t) s fun v => alookup r v.ports.ringEv = some ((s.moveTo t).time.elapsed, false) := by
  refine ⟨(s.moveTo t).ringLate r, rfl, ?_⟩
  have hmove := moves_moveTo s t
  generalize s.moveTo t = u at hmove hdue ⊢
  have hev' : alookup r u.ports.ringEv = some (l, true) := by rw [hmove.touches.2 .ports rfl, hev]
  rw [← get_moves hmove rfl] at hdue
  simp only [State.ringLate, State.ringEvent, hev', hdue, decide_true, Bool.or_true, if_true]
  rw [(moves_ringRaise ..).touches.2 .ports rfl]
  exact alookup_aset_self ..

theorem goes_hostHoldoff (hfiles : s.filesOk = true) (hev : s.aln.hostEv = some (l, true))
    (hdue : l + s.get Reg.ALN_HOST_RING.HOLDOFF * usUnit ≤ (s.moveTo t).time.elapsed) :
    Goes (.ringEventHoldoffExpiry none t) s fun v => v.aln.hostEv = some ((s.moveTo t).time.elapsed, false) ∧
      v.get Reg.ALN_IRQ.HOST = 1 ∧ Keeps [Reg.ALN_IRQ.HOST] [.time, .aln, .out] s v := by
  refine ⟨(s.moveTo t).hostLate, rfl, ?_⟩
  have hmove := moves_moveTo s t
  generalize s.moveTo t = u at hmove hdue ⊢
  have hev' : u.aln.hostEv = some (l, true) := by rw [hmove.touches.2 .aln rfl, hev]
  rw [← get_moves hmove rfl] at hdue
  simp only [State.hostLate, State.hostRaise, hev', hdue, decide_true, if_true]
  let v : State := { u with aln := { u.aln with hostEv := some (u.time.elapsed, false) } }
  have hkeeps : Keeps [Reg.ALN_IRQ.HOST] [.time, .aln, .out] s v := ((Keeps.refl _ _ s).moves hmove rfl).upd rfl rfl rfl rfl
  have hflag : (v.alnIrq Reg.ALN_IRQ.HOST).flag Reg.ALN_IRQ.HOST = true := flag_irq (s := v) (hmove.files hfiles) rfl _ _
  exact ⟨congrArg Align.hostEv ((moves_alnIrq ..).touches.2 .aln rfl), beq_iff_eq.mp hflag, hkeeps.irq (by simp) rfl⟩

/-! ### The duplicate table (R184) -/

theorem goes_duplicateEntryExpiry (s : State) (t : Tai) : Goes (.duplicateEntryExpiry t) s fun v =>
    (∀ e, e ∈ v.ports.dup ↔ e ∈ s.ports.dup ∧ (s.moveTo t).dupAlive e = true) ∧ Keeps [] [.time, .ports] s v := by
  have hmove := moves_moveTo s t
  refine ⟨_, rfl, fun e => ?_, ((Keeps.refl _ _ s).moves hmove rfl).upd rfl rfl rfl rfl⟩
  rw [List.mem_filter, hmove.touches.2 .ports rfl]

end



/-! ### Dregs (R171, R172) -/

section
variable {s : State} {n : Nat}

theorem ingQ_setIngQ (s : State) (n : Nat) (q : IngQueue) : (s.setIngQ n q).ingQ n = q := by
  simp [State.ingQ, State.setIngQ]

theorem ingQ_eq {t : State} (h : t.ports.ing = s.ports.ing) (n : Nat) : t.ingQ n = s.ingQ n := by rw [State.ingQ, State.ingQ, h]

/-- The fields that show what a queue holds, which follow its pointers. -/
def ingShown (n : Nat) : List Fld := [Reg.ING_Q_STATUS.OCC.ix n, Reg.ING_Q_STATUS.HEAD_SEQ.ix n, Reg.ING_Q_STATUS.FILL_HIT.ix n]

theorem ingShow_keeps (s : State) (n : Nat) : Keeps (ingShown n) [.out] s (s.ingShow n) := by
  unfold State.ingShow
  extract_lets was now thr s1
  have hshown : Keeps (ingShown n) [.out] s s1 := ((Keeps.refl _ _ s).set (by simp [ingShown])).set (by simp [ingShown])
  exact Keeps.ite ((hshown.setFlag (by simp [ingShown])).vector rfl) hshown

/-- Another register of a queue stands apart from those that show what it holds. -/
theorem get_ingShow {f : Fld} (hd : f.dims.head? = some (6, 0x40)) (hf : f.key ≠ Reg.ING_Q_STATUS.OCC.key ∧
    f.key ≠ Reg.ING_Q_STATUS.HEAD_SEQ.key ∧ f.key ≠ Reg.ING_Q_STATUS.FILL_HIT.key) (s : State) (n : Nat) :
    (s.ingShow n).get (f.ix n) = s.get (f.ix n) := by
  obtain ⟨hocc, hseq, hhit⟩ := hf
  refine (ingShow_keeps s n).get fun g hg => .inl ?_
  simp only [ingShown, List.mem_cons, List.not_mem_nil, or_false] at hg
  obtain rfl | rfl | rfl := hg
  · exact Fld.ix_ne n hocc hd
  · exact Fld.ix_ne n hseq hd
  · exact Fld.ix_ne n hhit hd

theorem ingCap_eq {t : State} (h : t.redMode = s.redMode) (n : Nat) : t.ingCap n = s.ingCap n := by rw [State.ingCap, State.ingCap, h]

/-- Pointers are 16 bits wide, and twice the capacity is at most 65,536 words. -/
theorem pointer_lt (s : State) (n x : Nat) : x % (2 * s.ingCap n) < 2 ^ 16 := by
  have hcap : 0 < s.ingCap n ∧ s.ingCap n ≤ 32768 := by
    unfold State.ingCap
    split_ifs <;> decide
  have := Nat.mod_lt x (show 0 < 2 * s.ingCap n by omega)
  omega

/-- A queue's registers stand above the station pair's mode. -/
theorem redMode_ingSet {f : Fld} (hf : Reg.ING_Q_CTL.EN.key ≤ f.key) (s : State) (n v : Nat) : (s.set (f.ix n) v).redMode = s.redMode :=
  State.get_set_ne (ne_belowIngress hf n _ (by unfold BelowIngress; decide))

theorem redMode_ingShow (s : State) (n : Nat) : (s.ingShow n).redMode = s.redMode :=
  (spares_ingShow s n).get_eq _ (by unfold BelowIngress; decide)

/-- RP moves on by a discarded packet's words, and Dregs counts it: the queue is as it was taken, and WP stays. -/
theorem ingRead_counted (h : s.filesOk = true) (n words : Nat) {t : State}
    (ht : t = ((s.ingRead n words).ingShow n).count (Reg.ING_Q.DREGS.ix n)) :
    t.ingQ n = s.ingQ n ∧ t.get (Reg.ING_Q_PTR.RP.ix n) = (s.get (Reg.ING_Q_PTR.RP.ix n) + words) % (2 * s.ingCap n) ∧
      t.get (Reg.ING_Q_PTR.WP.ix n) = s.get (Reg.ING_Q_PTR.WP.ix n) ∧ Counted (Reg.ING_Q.DREGS.ix n) s t := by
  have hread : (s.ingRead n words).get (Reg.ING_Q_PTR.RP.ix n) = (s.get (Reg.ING_Q_PTR.RP.ix n) + words) % (2 * s.ingCap n) :=
    (State.get_set h).trans (Nat.mod_eq_of_lt (pointer_lt ..))
  have hcounted (v : State) {f : Fld} (hd : f.dims = [(6, 0x40)]) (hf : Reg.ING_Q.DREGS.key ≠ f.key) :
      (v.count (Reg.ING_Q.DREGS.ix n)).get (f.ix n) = v.get (f.ix n) := State.get_set_ne (.inl (Fld.ix_ne n hf (by rw [hd]; rfl)))
  have hmoved {f : Fld} (hd : f.dims = [(6, 0x40)]) (hf : Reg.ING_Q_PTR.RP.key ≠ f.key) :
      (s.ingRead n words).get (f.ix n) = s.get (f.ix n) := State.get_set_ne (.inl (Fld.ix_ne n hf (by rw [hd]; rfl)))
  have hmove := moves_ingRead s n words
  subst ht
  refine ⟨ingQ_eq (congrArg Ports.ing ?_) n, ?_, ?_, (counted_count ((moves_ingShow ..).files (hmove.files h)) _).after ?_⟩
  · rw [(moves_count ..).touches.2 .ports rfl, (moves_ingShow ..).touches.2 .ports rfl, hmove.touches.2 .ports rfl]
  · rw [hcounted _ rfl (by decide), get_ingShow rfl (by decide), hread]
  · rw [hcounted _ rfl (by decide), get_ingShow rfl (by decide), hmoved rfl (by decide)]
  · rw [get_ingShow rfl (by decide), hmoved rfl (by decide)]

/-- WP moves on by the words stored of a packet; the queue's other registers but those that show what it holds stay. -/
theorem ingWrite_shown (h : s.filesOk = true) (n words : Nat) {t : State} (ht : t = (s.ingWrite n words).ingShow n) :
    t.filesOk = true ∧ t.ports = s.ports ∧ t.ingCap n = s.ingCap n ∧
      t.get (Reg.ING_Q_PTR.WP.ix n) = (s.get (Reg.ING_Q_PTR.WP.ix n) + words) % (2 * s.ingCap n) ∧
      t.get (Reg.ING_Q_PTR.RP.ix n) = s.get (Reg.ING_Q_PTR.RP.ix n) ∧ t.get (Reg.ING_Q.DREGS.ix n) = s.get (Reg.ING_Q.DREGS.ix n) := by
  have hwrite : (s.ingWrite n words).get (Reg.ING_Q_PTR.WP.ix n) = (s.get (Reg.ING_Q_PTR.WP.ix n) + words) % (2 * s.ingCap n) :=
    (State.get_set h).trans (Nat.mod_eq_of_lt (pointer_lt ..))
  have hmoved {f : Fld} (hd : f.dims = [(6, 0x40)]) (hf : Reg.ING_Q_PTR.WP.key ≠ f.key) :
      (s.ingWrite n words).get (f.ix n) = s.get (f.ix n) := State.get_set_ne (.inl (Fld.ix_ne n hf (by rw [hd]; rfl)))
  have hmove := moves_ingWrite s n words
  subst ht
  refine ⟨(moves_ingShow ..).files (hmove.files h), ?_, ingCap_eq ((redMode_ingShow ..).trans (redMode_ingSet (by decide) ..)) n, ?_, ?_, ?_⟩
  · rw [(moves_ingShow ..).touches.2 .ports rfl, hmove.touches.2 .ports rfl]
  · rw [get_ingShow rfl (by decide), hwrite]
  · rw [get_ingShow rfl (by decide), hmoved rfl (by decide)]
  · rw [get_ingShow rfl (by decide), hmoved rfl (by decide)]

/-- Dregs discards the packet at the head. -/
theorem ingPop_counted (h : s.filesOk = true) {k : IngPacket} {rest : List IngPacket} (hq : (s.ingQ n).packets = k :: rest) {t : State}
    (ht : t = (s.ingPop n).count (Reg.ING_Q.DREGS.ix n)) : (t.ingQ n).packets = rest ∧
      t.get (Reg.ING_Q_PTR.RP.ix n) = (s.get (Reg.ING_Q_PTR.RP.ix n) + k.words) % (2 * s.ingCap n) ∧ Counted (Reg.ING_Q.DREGS.ix n) s t := by
  have hmove := moves_setIngQ s n { s.ingQ n with packets := rest }
  have hget (g : Fld) := get_moves hmove rfl g
  simp only [State.ingPop, hq] at ht
  obtain ⟨hqueue, hrp, -, hcount⟩ := ingRead_counted (hmove.files h) n k.words ht
  rw [hget, ingCap_eq (hget _)] at hrp
  exact ⟨by rw [hqueue, ingQ_setIngQ], hrp, hcount.after (hget _)⟩

/-- Dregs discards a packet that still arrives: both pointers pass what is stored of it. -/
theorem dregsArriving_holds (h : s.filesOk = true) (n w : Nat) {t : State} (ht : t = s.dregsArriving n w) :
    (t.ingQ n).packets = (s.ingQ n).packets ∧ (t.ingQ n).cut = true ∧
      t.get (Reg.ING_Q_PTR.RP.ix n) = (s.get (Reg.ING_Q_PTR.RP.ix n) + w) % (2 * s.ingCap n) ∧
      t.get (Reg.ING_Q_PTR.WP.ix n) = (s.get (Reg.ING_Q_PTR.WP.ix n) + w) % (2 * s.ingCap n) ∧ Counted (Reg.ING_Q.DREGS.ix n) s t := by
  have hmove := moves_setIngQ s n { s.ingQ n with nextSeq := ((s.ingQ n).nextSeq + 1) % 65536, cut := true }
  have hget (g : Fld) := get_moves hmove rfl g
  obtain ⟨hfiles, hports, hcap, hwp, hrp, hdregs⟩ := ingWrite_shown (hmove.files h) n w rfl
  obtain ⟨hq, hrp', hwp', hcount⟩ := ingRead_counted hfiles n w ht
  have hqueue := hq.trans ((ingQ_eq (congrArg Ports.ing hports) n).trans (ingQ_setIngQ ..))
  have hcap' := hcap.trans (ingCap_eq (hget _) n)
  rw [ingCap_eq (hget _), hget] at hwp
  rw [hcap', hrp, hget] at hrp'
  exact ⟨by rw [hqueue], by rw [hqueue], hrp', hwp'.trans hwp, hcount.after (hdregs.trans (hget _))⟩

end

section
variable {s : State} {who : Requester} {n : Nat} {m : Bool} {d : DregsMark} {P : State → Prop}

/-- On a queue in use the command is Dregs of that queue. -/
theorem goes_dregs (h : MayWrite s who) (hused : n ≠ 5 ∨ s.redMode = 0) (hp : P (s.dregs n m d)) : Goes (.dregs who n m d) s P := by
  have hne : ¬(n = 5 ∧ s.redMode ≠ 0) := by tauto
  exact goes_open h rfl (by rwa [if_neg hne])

theorem exec_dregs_unused (h : MayWrite s who) (hred : s.redMode ≠ 0) : exec (.dregs who 5 m d) s = .next s := by
  show execDregs who 5 m d s = _
  rw [execDregs, h.open_, if_pos ⟨rfl, hred⟩]

/-- A command that finds nothing to discard, or another packet than it names, only says so. -/
theorem goes_dregsIgnored (h : MayWrite s who) (hused : n ≠ 5 ∨ s.redMode = 0)
    (hignored : s.dregs n m d = s.setFlag (Reg.ING_Q_STATUS.DREGS_IGN.ix n) true) : Goes (.dregs who n m d) s fun t =>
      t.flag (Reg.ING_Q_STATUS.DREGS_IGN.ix n) = true ∧ Keeps [Reg.ING_Q_STATUS.DREGS_IGN.ix n] [] s t := by
  refine goes_dregs h hused ?_
  rw [hignored]
  exact ⟨flag_setFlag h.1 rfl, (Keeps.refl _ _ s).setFlag (by simp)⟩

end

/-- Settles O37: an event held back is raised as if it came at its holdoff's end, Dregs is one of three rows by what stands at the head, and the
table is filtered. -/
theorem ringEventsAndDregs : Obligations.RingEventsAndDregs := by
  unfold Obligations.RingEventsAndDregs
  intro s hfiles
  refine ⟨fun r t l => goes_ringHoldoff, fun t l => goes_hostHoldoff hfiles, fun who n m seq arr h hn => ⟨?unused, fun hused => ?used⟩,
    goes_duplicateEntryExpiry s⟩
  case unused =>
    rintro rfl hred
    exact exec_dregs_unused h hred
  case used =>
    refine ⟨fun k rest hq => ⟨fun hmatch => goes_dregs h hused (ingPop_counted hfiles hq ?_), fun hm hne => goes_dregsIgnored h hused ?_⟩,
      fun hq => ⟨?_, ?_⟩⟩
    · have hnamed : ¬(m = true ∧ k.seq ≠ seq % 65536) := fun ⟨hm, hne⟩ => hmatch.elim (by simp [hm]) hne
      simp only [State.dregs, hq, if_neg hnamed]
    · simp only [State.dregs, hq, if_pos (And.intro hm hne)]
    · rintro rfl
      exact goes_dregsIgnored h hused (by simp only [State.dregs, hq])
    · rintro w rfl hmatch hruns hcut
      have harriving : ¬((m = true ∧ (s.ingQ n).nextSeq ≠ seq % 65536) ∨ (!s.blockRuns (.ingQueue n)) = true ∨ (s.ingQ n).cut = true) := by
        rintro (⟨hm, hne⟩ | hstopped | hcut')
        · exact hmatch.elim (by simp [hm]) hne
        · simp [hruns] at hstopped
        · simp [hcut] at hcut'
      have hold := dregsArriving_holds hfiles n w rfl
      rw [hq] at hold
      refine goes_dregs h hused ?_
      simpa only [State.dregs, hq, if_neg harriving] using hold

end Sys2Proof.Machine

namespace Sys2Proof.Machine

/-! ### What the way of a frame to the wire changes beside the ports

Sending and dropping frames, and the ring events of their descriptors, write a few fields of the ports, Barista's registers and the
recorder's; they put out more and take nothing back; and they leave the output frames that the aligner holds. -/

/-- The fields of a port's register block among them. -/
def txPortFields : List Fld := [Reg.MAC_STATUS.LPI_TX, Reg.MAC_IRQ.RXRING, Reg.MAC_IRQ.TXRING, Reg.MAC.TX_FRAG, Reg.MAC.TX_PREEMPT,
  Reg.MAC.TX_LINKDOWN_DROP, Reg.MAC.TX_Q7_DROP]

/-- A register field that these operations write. -/
inductive TxWrites : Fld → Prop
  | port {f : Fld} (p : Nat) (hf : f ∈ txPortFields) : TxWrites (f.ix p)
  | core {f : Fld} (p : Nat) (hf : f.perReq = true) : TxWrites (f.of (.core p))
  | log {f : Fld} (code : Nat) (hf : f ∈ logFields code) : TxWrites f
  | single {f : Fld} (hf : f ∈ [Reg.SCH.HANDOUTS, Reg.SCH.SIG_ABSORBED, Reg.ALM_IRQ.PUB_DROP]) : TxWrites f

/-- A field apart from all of these. -/
def TxApart (g : Fld) : Prop := ∀ f, TxWrites f → f.key ≠ g.key ∨ f.dom ≠ g.dom

/-- A field below the alarm engine's interrupts that is neither of Barista's two counters nor at the place of one of these of a port. -/
theorem txApart_of_place {g : Fld} (hlow : g.key < Reg.ALM_IRQ.PUB_DROP.key)
    (hsch : g.key ≠ Reg.SCH.HANDOUTS.key ∧ g.key ≠ Reg.SCH.SIG_ABSORBED.key)
    (hport : g.key < Reg.MAC_STATUS.LPI_TX.key ∨ ∀ f ∈ txPortFields, g.key % 0x80000 ≠ f.key % 0x80000) : TxApart g := by
  intro f hf
  left
  cases hf with
  | @port f p hf =>
    have hplace : f.dims = [(7, 0x10000)] ∧ Reg.MAC_STATUS.LPI_TX.key ≤ f.key := by
      revert f
      decide
    rw [Fld.key_ix hplace.1]
    rcases hport with hbelow | hother
    · have := hplace.2
      omega
    · have := hother f hf
      omega
  | @core f p hf =>
    have hspan : Reg.ALM_IRQ.PUB_DROP.key < bankSpan := by decide
    simp only [Fld.of, hf, if_true, Fld.inBank, Requester.bank]
    rw [Fld.key]
    simp only [bankSpan] at *
    omega
  | log code hf =>
    simp only [logFields, List.mem_cons, List.not_mem_nil, or_false] at hf
    have hcount : Reg.ALM_IRQ.PUB_DROP.key < (Reg.EVR_SUPP.COUNT.ix code).key := by
      rw [Fld.key_ix (f := Reg.EVR_SUPP.COUNT) rfl]
      exact lt_of_lt_of_le (by decide) (Nat.le_add_right _ _)
    have hrec : ∀ f ∈ [Reg.EVR.ACCEPTED, Reg.EVR.SUPPRESSED, Reg.EVR_STATUS.HOLD, Reg.EVR.HOLD_OVF, Reg.EVR_IRQ.HOLD_OVF, Reg.EVR.DROP_FULL],
      Reg.ALM_IRQ.PUB_DROP.key < f.key := by decide
    obtain rfl | hf := hf
    · omega
    · have := hrec f (by simpa using hf)
      omega
  | single hf =>
    simp only [List.mem_cons, List.not_mem_nil, or_false] at hf
    obtain rfl | rfl | rfl := hf
    · exact hsch.1.symm
    · exact hsch.2.symm
    · omega

/-- From `s` to `t`, a step on a frame's way to the wire. -/
structure TxStep (s t : State) : Prop where
  spares : Spares TxApart s t
  out : s.out <:+ t.out
  outHeld : t.sch.outHeld = s.sch.outHeld

section
variable {s u t : State}

theorem TxStep.refl (s : State) : TxStep s s := ⟨Spares.refl _ s, List.suffix_rfl, rfl⟩

theorem TxStep.trans (h : TxStep s u) (k : TxStep u t) : TxStep s t :=
  ⟨h.spares.trans k.spares, h.out.trans k.out, k.outHeld.trans h.outHeld⟩

theorem TxStep.set {f : Fld} {v : Nat} (hf : TxWrites f) (h : TxStep s u) : TxStep s (u.set f v) :=
  ⟨h.spares.set fun _ hg => hg f hf, by simpa using h.out, by simpa using h.outHeld⟩

theorem TxStep.setFlag {f : Fld} {b : Bool} (hf : TxWrites f) (h : TxStep s u) : TxStep s (u.setFlag f b) := h.set hf

theorem TxStep.count {f : Fld} {n : Nat} (hf : TxWrites f) (h : TxStep s u) : TxStep s (u.count f n) := h.set hf

/-- Parts other than the register files are replaced. -/
theorem TxStep.parts (h : TxStep s u) (hr : t.regs = u.regs) (hb : t.bkp = u.bkp) (hf : t.fuse = u.fuse) (ho : t.out = u.out)
    (hh : t.sch.outHeld = u.sch.outHeld) : TxStep s t :=
  ⟨h.spares.parts hr hb hf, ho ▸ h.out, hh.trans h.outHeld⟩

/-- A step that begins after such parts were replaced. -/
theorem TxStep.ofParts (h : TxStep u t) (hr : u.regs = s.regs) (hb : u.bkp = s.bkp) (hf : u.fuse = s.fuse) (ho : u.out = s.out)
    (hh : u.sch.outHeld = s.sch.outHeld) : TxStep s t := ((TxStep.refl s).parts hr hb hf ho hh).trans h

/-- A move that leaves the register files, what was put out and Barista alone. -/
theorem TxStep.moves {m : List Part} (k : Moves m u t) (hm : m.contains .files = false ∧ m.contains .out = false ∧ m.contains .sch = false)
    (h : TxStep s u) : TxStep s t := by
  obtain ⟨hfiles, hout, hsch⟩ := hm
  obtain ⟨hr, hb, hf⟩ := k.touches.2 .files hfiles
  exact h.parts hr hb hf (k.touches.2 .out hout) (congrArg Barista.outHeld (k.touches.2 .sch hsch))

theorem TxStep.emit {o : Output} (h : TxStep s u) : TxStep s (u.emit o) :=
  ⟨h.spares.parts rfl rfl rfl, h.out.trans (List.suffix_cons ..), h.outHeld⟩

theorem TxStep.vector {v : Nat} (h : TxStep s u) : TxStep s (u.vector v) := h.emit.emit

theorem TxStep.ite {c : Prop} [Decidable c] (h : TxStep s u) (k : TxStep s t) : TxStep s (if c then u else t) := by
  split <;> assumption

theorem TxStep.irq {f m : Fld} {vec : Nat} (hf : TxWrites f) (h : TxStep s u) : TxStep s (u.irq f m vec) :=
  (h.set hf).vector.ite (h.set hf)

theorem TxStep.irqBit {f m : Fld} {k vec : Nat} (hf : TxWrites f) (h : TxStep s u) : TxStep s (u.irqBit f m k vec) :=
  TxStep.ite (TxStep.vector (h.set hf)) (h.set hf)

theorem TxStep.foldl {α : Type} {f : State → α → State} {l : List α} (hf : ∀ v, ∀ a ∈ l, TxStep v (f v a)) (h : TxStep s u) :
    TxStep s (l.foldl f u) := by
  induction l generalizing u with
  | nil => exact h
  | cons a l ih => exact ih (fun v b hb => hf v b (List.mem_cons_of_mem _ hb)) (h.trans (hf u a List.mem_cons_self))

theorem TxStep.logReady {r : LogRec} (h : TxStep s u) : TxStep s (u.logReady r) :=
  TxStep.ite (h.count (.log 0 (by simp [logFields]))) (h.parts rfl rfl rfl rfl rfl)

theorem TxStep.logPut {r : LogRec} (h : TxStep s u) : TxStep s (u.logPut r) := by
  have hevr (e : Evr) : TxStep s { u with evr := e } := h.parts rfl rfl rfl rfl rfl
  unfold State.logPut
  exact TxStep.ite (TxStep.ite ((hevr _).set (.log 0 (by simp [logFields])))
    (((hevr _).count (.log 0 (by simp [logFields]))).irq (.log 0 (by simp [logFields])))) h.logReady

/-- An event accepted or suppressed. -/
theorem TxStep.log {code source : Nat} {data : Bytes} (h : TxStep s u) : TxStep s (u.log code source data) := by
  have hevr (e : Evr) : TxStep s { u with evr := e } := h.parts rfl rfl rfl rfl rfl
  unfold State.log
  exact TxStep.ite ((TxStep.logPut ((hevr _).set (.log code (by simp [logFields])))).count (.log 0 (by simp [logFields])))
    (((hevr _).count (.log code (by simp [logFields]))).count (.log 0 (by simp [logFields])))

end

/-! ### Barista hears of a ring (R164, R443, R445, R447) -/

theorem txStep_unpreempt (s : State) (p : Nat) : TxStep s (s.unpreempt p) := by
  unfold State.unpreempt State.setCore
  exact TxStep.setFlag (.core p rfl) ((TxStep.refl s).parts rfl rfl rfl rfl rfl)

theorem txStep_answerWork (s : State) (p thread : Nat) (valid : Bool) (reason obj : Nat) :
    TxStep s (s.answerWork p thread valid reason obj) := by
  unfold State.answerWork
  exact ((((TxStep.refl s).set (.core p rfl)).setFlag (.core p rfl)).set (.core p rfl)).set (.core p rfl)

theorem txStep_handOut (s : State) (p x : Nat) : TxStep s (s.handOut p x) := by
  unfold State.handOut
  extract_lets b s1 _ s2 _ s3 s4
  have h3 : TxStep s s3 := (TxStep.refl s).parts rfl rfl rfl rfl rfl
  have h4 : TxStep s s4 := TxStep.count (.single (by simp)) (TxStep.set (.core p rfl) (h3.trans (txStep_answerWork ..)))
  exact h4.foldl fun v e _ => txStep_unpreempt v e.1

theorem txStep_raisePreempt (s : State) (p : Nat) (x : Option Nat) : TxStep s (s.raisePreempt p x) := by
  unfold State.raisePreempt State.setCore
  exact (TxStep.refl s).ite (TxStep.setFlag (.core p rfl) ((TxStep.refl s).parts rfl rfl rfl rfl rfl))

theorem txStep_makeReady (s : State) (x reason obj : Nat) : TxStep s (s.makeReady x reason obj) := by
  unfold State.makeReady
  extract_lets b s1 _ s2
  have h2 : TxStep s s2 := (TxStep.refl s).parts rfl rfl rfl rfl rfl
  split
  · exact h2.trans (txStep_handOut ..)
  · split
    · exact h2.trans (txStep_raisePreempt ..)
    · exact h2

theorem txStep_objSignal (s : State) (o : Nat) : TxStep s (s.objSignal o) := by
  unfold State.objSignal State.setObj
  have hcount : TxStep s (s.count Reg.SCH.SIG_ABSORBED) := (TxStep.refl s).count (.single (by simp))
  split
  · exact (txStep_makeReady ..).ofParts rfl rfl rfl rfl rfl
  · exact TxStep.ite (TxStep.ite ((TxStep.refl s).parts rfl rfl rfl rfl rfl) hcount)
      (TxStep.ite ((TxStep.refl s).parts rfl rfl rfl rfl rfl) hcount)

/-! ### Descriptors complete (R164, R180) -/

theorem txStep_ringRaise (s : State) (r : Ring) : TxStep s (s.ringRaise r) := by
  unfold State.ringRaise
  split
  · cases r with
    | rx p k => exact (TxStep.refl s).irqBit (.port p (by simp [txPortFields]))
    | tx p k => exact (TxStep.refl s).irqBit (.port p (by simp [txPortFields]))
    | ptp p => exact (TxStep.refl s).vector
    | inj => exact TxStep.refl s
  · exact (TxStep.refl s).emit.trans (txStep_objSignal ..)

theorem txStep_ringEvent (s : State) (r : Ring) : TxStep s (s.ringEvent r) := by
  unfold State.ringEvent
  extract_lets due _
  exact TxStep.ite ((txStep_ringRaise ..).ofParts rfl rfl rfl rfl rfl) ((TxStep.refl s).parts rfl rfl rfl rfl rfl)

theorem txStep_ringWrite (s : State) (r : Ring) (addr : Nat) (bs : Bytes) : TxStep s (s.ringWrite r addr bs) := by
  unfold State.ringWrite
  exact (TxStep.refl s).emit.ite (TxStep.refl s).emit

theorem txStep_descDone (s : State) (r : Ring) (addr word : Nat) (linkDrop refused : Bool) (stamp : Option Tai) :
    TxStep s (s.descDone r addr word linkDrop refused stamp) := by
  unfold State.descDone
  extract_lets w s1 s2
  have h1 : TxStep s s1 := txStep_ringWrite ..
  have h2 : TxStep s s2 := by
    simp only [s2]
    split
    · exact TxStep.ite (h1.trans (txStep_ringWrite ..)) h1
    · exact h1
  exact h2.trans (txStep_ringEvent ..)

theorem txStep_frameDone (s : State) (f : TxFrame) (linkDrop refused : Bool) (stamp : Option Tai) :
    TxStep s (s.frameDone f linkDrop refused stamp) := by
  unfold State.frameDone
  split
  · exact (TxStep.refl s).ite (txStep_descDone ..)
  · exact TxStep.refl s

/-! ### Transmit queues (R174 to R177, R183) -/

theorem txStep_pubDrop (s : State) (f : TxFrame) : TxStep s (s.pubDrop f) := by
  unfold State.pubDrop
  split
  · exact (TxStep.refl s).irq (.single (by simp))
  · exact TxStep.refl s

theorem txStep_linkDropFrame (s : State) (p : Nat) (f : TxFrame) : TxStep s (s.linkDropFrame p f) :=
  (TxStep.count (.port p (by simp [txPortFields])) (TxStep.refl s)).trans ((txStep_frameDone ..).trans (txStep_pubDrop ..))

theorem txStep_setPort (s : State) (p : Nat) (x : Port) : TxStep s (s.setPort p x) := (TxStep.refl s).parts rfl rfl rfl rfl rfl

theorem txStep_startFrom (s : State) (p q : Nat) : TxStep s (s.startFrom p q) := by
  unfold State.startFrom
  split
  · exact TxStep.refl s
  · exact TxStep.ite ((txStep_setPort ..).setFlag (.port p (by simp [txPortFields]))) (txStep_setPort ..)

theorem txStep_startTx (s : State) (p : Nat) : TxStep s (s.startTx p) := by
  unfold State.startTx
  dsimp only
  refine TxStep.ite (TxStep.refl s) (TxStep.ite (txStep_startFrom ..) ?_)
  split
  · exact (txStep_setPort ..).count (.port p (by simp [txPortFields]))
  · split
    · exact (txStep_startFrom ..).ite (TxStep.refl s)
    · exact TxStep.refl s

theorem txStep_preempt (s : State) (p : Nat) : TxStep s (s.preempt p) := by
  unfold State.preempt
  dsimp only
  split
  · exact TxStep.ite (TxStep.moves (moves_tookFree _) (by decide)
      (TxStep.ite ((txStep_setPort ..).count (.port p (by simp [txPortFields]))) (TxStep.refl s))) (TxStep.refl s)
  · exact TxStep.refl s

theorem txStep_enqueue (s : State) (p q : Nat) (f : TxFrame) : TxStep s (s.enqueue p q f) := by
  unfold State.enqueue
  exact (txStep_linkDropFrame ..).ite
    (TxStep.trans (TxStep.ite ((txStep_setPort ..).trans (txStep_preempt ..)) (txStep_setPort ..)) (txStep_startTx ..))

theorem txStep_enqueue7 (s : State) (p : Nat) (f : TxFrame) : TxStep s (s.enqueue7 p f) := by
  unfold State.enqueue7
  exact (txStep_enqueue ..).ite (TxStep.trans (TxStep.log (TxStep.count (.port p (by simp [txPortFields])) (TxStep.refl s)))
    ((txStep_frameDone ..).trans (txStep_pubDrop ..)))

theorem txStep_send (s : State) (p q : Nat) (f : TxFrame) : TxStep s (s.send p q f) := by
  have hput (v : State) (p : Nat) (f : TxFrame) : TxStep v (if q = 7 then v.enqueue7 p f else v.enqueue p q f) :=
    (txStep_enqueue7 ..).ite (txStep_enqueue ..)
  unfold State.send
  exact TxStep.ite (((hput ..).trans (hput ..)).ofParts rfl rfl rfl rfl rfl) (hput ..)

theorem txStep_hsrDrain (s : State) (p : Nat) : TxStep s (s.hsrDrain p) := by
  unfold State.hsrDrain
  exact (TxStep.refl s).foldl fun v e _ => TxStep.ite ((txStep_setPort ..).trans (txStep_enqueue ..)) (TxStep.refl v)

theorem txStep_flushLink (s : State) (p : Nat) : TxStep s (s.flushLink p) := by
  unfold State.flushLink
  exact TxStep.trans (TxStep.foldl (fun v f _ => txStep_linkDropFrame v p f) (txStep_setPort ..)) (txStep_hsrDrain ..)

end Sys2Proof.Machine

namespace Sys2Proof.Machine

theorem modAt_eq_modify {α : Type} (f : α → α) (n : Nat) (l : List α) : modAt f n l = l.modify n f := by
  induction l generalizing n with
  | nil => cases n <;> rfl
  | cons a l ih =>
    cases n with
    | zero => rfl
    | succ n => rw [modAt, ih, List.modify_succ_cons]

/-! ### A port's transmit side -/

@[simp] theorem port_setPort_self (s : State) (p : Nat) (x : Port) : (s.setPort p x).port p = x := by
  simp [State.port, State.setPort]

theorem port_eq {s t : State} (h : t.ports.port = s.ports.port) (p : Nat) : t.port p = s.port p := by rw [State.port, State.port, h]

@[simp] theorem port_set (s : State) (f : Fld) (v p : Nat) : (s.set f v).port p = s.port p := port_eq (congrArg Ports.port (State.set_ports ..)) p

@[simp] theorem port_setFlag (s : State) (f : Fld) (b : Bool) (p : Nat) : (s.setFlag f b).port p = s.port p := port_set ..

@[simp] theorem port_count (s : State) (f : Fld) (n p : Nat) : (s.count f n).port p = s.port p := port_set ..

theorem Port.mem_sending {x : Port} {f : TxFrame} : f ∈ x.sending ↔ (∃ q, x.cur = some (q, f)) ∨ ∃ q, x.held = some (q, f) := by
  unfold Port.sending
  rcases x.cur with _ | ⟨q, g⟩ <;> rcases x.held with _ | ⟨q', g'⟩ <;> simp [eq_comm]

theorem Port.mem_all {x : Port} {f : TxFrame} : f ∈ x.all ↔
    (∃ q, x.cur = some (q, f)) ∨ (∃ q, x.held = some (q, f)) ∨ ∃ (i : Nat) (l : List TxFrame), x.queues[i]? = some l ∧ f ∈ l := by
  have hqueues : (∃ l, l ∈ x.queues ∧ f ∈ l) ↔ ∃ (i : Nat) (l : List TxFrame), x.queues[i]? = some l ∧ f ∈ l := by
    simp only [List.mem_iff_getElem?, ← exists_and_right]
    exact exists_comm
  simp only [Port.all, List.mem_append, Port.mem_sending, or_assoc, List.mem_flatten, List.mem_reverse, hqueues]

/-- What a start of transmission can do to a port, where `lpi` says that low-power idle is asserted: nothing, deassert it, take up the
interrupted frame, or take the head of a queue. -/
inductive TxStart (lpi : Bool) (x : Port) : Port → Prop
  | stay : TxStart lpi x x
  | wake (h : lpi = true) : TxStart lpi x { x with waking := true }
  | resume {h : Nat × TxFrame} (hcur : x.cur = none) (hheld : x.held = some h) : TxStart lpi x { x with cur := some h, held := none }
  | head {q : Nat} {f : TxFrame} {r : List TxFrame} (hcur : x.cur = none) (hq : x.queues[q]? = some (f :: r)) :
      TxStart lpi x { x with queues := setAt r q x.queues, cur := some (q, f) }

theorem Port.pop_eq_some {x y : Port} {q : Nat} {f : TxFrame} (h : x.pop q = some (f, y)) :
    ∃ r, x.queues[q]? = some (f :: r) ∧ y = { x with queues := setAt r q x.queues } := by
  unfold Port.pop at h
  split at h
  next g r hq =>
    cases h
    refine ⟨r, ?_, rfl⟩
    cases hget : x.queues[q]? with
    | none => simp [hget] at hq
    | some l => simp [hget] at hq; rw [hq]
  next => cases h

theorem startTx_starts (s : State) (p : Nat) : TxStart (s.flag (Reg.MAC_STATUS.LPI_TX.ix p)) (s.port p) ((s.startTx p).port p) := by
  have hfrom (hcur : (s.port p).cur = none) (q : Nat) :
      TxStart (s.flag (Reg.MAC_STATUS.LPI_TX.ix p)) (s.port p) ((s.startFrom p q).port p) := by
    unfold State.startFrom
    split
    next => exact .stay
    next f y hpop =>
      obtain ⟨r, hq, rfl⟩ := Port.pop_eq_some hpop
      split
      next hlpi => simpa using .wake hlpi
      next => simpa using .head hcur hq
  unfold State.startTx
  extract_lets x
  split
  next => exact .stay
  next hidle =>
    have hcur : x.cur = none := by
      simp only [Bool.or_eq_true, not_or] at hidle
      simpa using hidle.1.1.1
    split
    next => exact hfrom hcur 7
    next =>
      split
      next h hheld => simpa using .resume hcur hheld
      next =>
        split
        next q _ =>
          split
          · exact hfrom hcur q
          · exact .stay
        next => exact .stay

theorem TxStart.waking {x y : Port} (h : TxStart false x y) : y.waking = x.waking := by
  cases h with
  | wake h => cases h
  | stay | resume | head => rfl

/-- A start of transmission loses no frame. -/
theorem TxStart.mem_all {lpi : Bool} {x y : Port} (h : TxStart lpi x y) {f : TxFrame} (hf : f ∈ x.all) : f ∈ y.all := by
  rw [Port.mem_all] at hf ⊢
  cases h with
  | stay => exact hf
  | wake => exact hf
  | resume hcur hheld =>
    rcases hf with ⟨q, hq⟩ | ⟨q, hq⟩ | hqueue
    · rw [hcur] at hq
      cases hq
    · exact .inl ⟨q, by rw [← hq, hheld]⟩
    · exact .inr (.inr hqueue)
  | @head q g r hcur hq =>
    rcases hf with ⟨q', hq'⟩ | hheld | ⟨i, l, hl, hmem⟩
    · rw [hcur] at hq'
      cases hq'
    · exact .inr (.inl hheld)
    · by_cases hi : i = q
      · subst hi
        rw [hq] at hl
        cases hl
        obtain rfl | hr := List.mem_cons.mp hmem
        · exact .inl ⟨i, rfl⟩
        · exact .inr (.inr ⟨i, r, by simp [setAt, modAt_eq_modify, hq], hr⟩)
      · exact .inr (.inr ⟨i, l, by simp [setAt, modAt_eq_modify, hl, Ne.symm hi], hmem⟩)

/-- A frame put at the end of a queue that there is. -/
theorem Port.mem_all_push {x : Port} {q : Nat} (hq : q < x.queues.length) (f : TxFrame) : f ∈ (x.push q f).all := by
  refine Port.mem_all.mpr (.inr (.inr ⟨q, x.queues[q] ++ [f], ?_, by simp⟩))
  simp [Port.push, modAt_eq_modify, hq]

end Sys2Proof.Machine

namespace Sys2Proof.Machine

/-- A field of a port's register block apart from those that the way to the wire writes. -/
theorem txApart_ix {f : Fld} (hd : f.dims = [(7, 0x10000)]) (hblock : 8 * 0x80000 ≤ f.key ∧ f.key < 8 * 0x90000)
    (hother : ∀ g ∈ txPortFields, f.key % 0x80000 ≠ g.key % 0x80000) {p : Nat} (hp : p < 7) : TxApart (f.ix p) := by
  have hkey := Fld.key_ix hd p
  have hpub : 8 * 0x1e0000 < Reg.ALM_IRQ.PUB_DROP.key := by decide
  have hsch : Reg.SCH.HANDOUTS.key < 8 * 0x80000 ∧ Reg.SCH.SIG_ABSORBED.key < 8 * 0x80000 := by decide
  refine txApart_of_place (by omega) (by omega) (.inr fun g hg => ?_)
  have := hother g hg
  omega

/-! ### The link (R176, R177) -/

/-- The bits of MAC_STATUS that a link's change reports. -/
def linkFlags : List Fld := [Reg.MAC_STATUS.LINK, Reg.MAC_STATUS.PCS_LOCK, Reg.MAC_STATUS.FEC_LOCK, Reg.MAC_STATUS.AN_DONE]

/-- One of them, of port `p`. -/
def LinkFlag (p : Nat) (g : Fld) : Prop := ∃ f ∈ linkFlags, g = f.ix p

theorem ne_linkFlag {f : Fld} (hd : f.dims = [(7, 0x10000)]) (hf : ∀ g ∈ linkFlags, f.key ≠ g.key) (p : Nat) :
    ∀ g, LinkFlag p g → (f.ix p).key ≠ g.key ∨ (f.ix p).dom ≠ g.dom := by
  have hdims : ∀ g ∈ linkFlags, g.dims = [(7, 0x10000)] := by decide
  rintro _ ⟨g, hg, rfl⟩
  exact .inl (Fld.ix_ne p (hf g hg) (by rw [hd, hdims g hg]))

theorem txApart_linkFlag {p : Nat} (hp : p < 7) : ∀ g, LinkFlag p g → TxApart g := by
  have hplace : ∀ f ∈ linkFlags, f.dims = [(7, 0x10000)] ∧ (8 * 0x80000 ≤ f.key ∧ f.key < 8 * 0x90000) ∧
    ∀ g ∈ txPortFields, f.key % 0x80000 ≠ g.key % 0x80000 := by decide
  rintro _ ⟨f, hf, rfl⟩
  obtain ⟨hd, hblock, hother⟩ := hplace f hf
  exact txApart_ix hd hblock hother hp

/-- MAC_STATUS as a link's report leaves it. -/
def State.showLink (s : State) (p : Nat) (l : LinkReport) : State :=
  ((((s.setFlag (Reg.MAC_STATUS.LINK.ix p) l.up).setFlag (Reg.MAC_STATUS.PCS_LOCK.ix p) l.pcsLock).setFlag
    (Reg.MAC_STATUS.FEC_LOCK.ix p) l.fecLock).setFlag (Reg.MAC_STATUS.AN_DONE.ix p) l.anDone).set (Reg.MAC_STATUS.SPEED.ix p) l.speed

theorem showLink_shows {s : State} (h : s.filesOk = true) (p : Nat) (l : LinkReport) :
    (s.showLink p l).flag (Reg.MAC_STATUS.LINK.ix p) = l.up ∧ (s.showLink p l).flag (Reg.MAC_STATUS.PCS_LOCK.ix p) = l.pcsLock ∧
      (s.showLink p l).flag (Reg.MAC_STATUS.FEC_LOCK.ix p) = l.fecLock ∧ (s.showLink p l).flag (Reg.MAC_STATUS.AN_DONE.ix p) = l.anDone := by
  have h1 := filesOk_setFlag (f := Reg.MAC_STATUS.LINK.ix p) (b := l.up) h
  have h2 := filesOk_setFlag (f := Reg.MAC_STATUS.PCS_LOCK.ix p) (b := l.pcsLock) h1
  have h3 := filesOk_setFlag (f := Reg.MAC_STATUS.FEC_LOCK.ix p) (b := l.fecLock) h2
  have hspeed (v : State) {f : Fld} (hf : f ∈ linkFlags) : (v.set (Reg.MAC_STATUS.SPEED.ix p) l.speed).flag (f.ix p) = v.flag (f.ix p) :=
    flag_eq_of_get_eq (State.get_set_ne (ne_linkFlag rfl (by decide) p _ ⟨f, hf, rfl⟩))
  have hne (v : State) {f g : Fld} (b : Bool) (hf : f ∈ linkFlags) (hg : g ∈ linkFlags) (hfg : f.key ≠ g.key) :
      (v.setFlag (f.ix p) b).flag (g.ix p) = v.flag (g.ix p) := by
    have hdims : ∀ g ∈ linkFlags, g.dims = [(7, 0x10000)] := by decide
    exact flag_setFlag_ne (.inl (Fld.ix_ne p hfg (by rw [hdims f hf, hdims g hg])))
  unfold State.showLink
  refine ⟨?_, ?_, ?_, ?_⟩
  · rw [hspeed _ (by decide), hne _ _ (by decide) (by decide) (by decide), hne _ _ (by decide) (by decide) (by decide),
      hne _ _ (by decide) (by decide) (by decide)]
    exact flag_setFlag h rfl
  · rw [hspeed _ (by decide), hne _ _ (by decide) (by decide) (by decide), hne _ _ (by decide) (by decide) (by decide)]
    exact flag_setFlag h1 rfl
  · rw [hspeed _ (by decide), hne _ _ (by decide) (by decide) (by decide)]
    exact flag_setFlag h2 rfl
  · rw [hspeed _ (by decide)]
    exact flag_setFlag h3 rfl

theorem spares_verifyStart {P : Fld → Prop} {s : State} {p : Nat}
    (hf : ∀ g, P g → (Reg.MAC_STATUS.VERIFY.ix p).key ≠ g.key ∨ (Reg.MAC_STATUS.VERIFY.ix p).dom ≠ g.dom) : Spares P s (s.verifyStart p) :=
  Spares.parts ((Spares.refl P s).set (v := 1) hf) rfl rfl rfl

/-- What follows a link's change: an interrupt, the frames dropped where it went down, a verification where it came up. -/
def State.followLink (s : State) (p : Nat) (up : Bool) : State :=
  let u := s.macIrq p Reg.MAC_IRQ.LINK_CHG
  let down := u.set (Reg.MAC_STATUS.VERIFY.ix p) 0
  if !up then if down.portOn p then down.flushLink p else down
  else if u.flag (Reg.MAC_PREEMPT.EN.ix p) ∧ p < 6 then
    (if u.flag (Reg.MAC_PREEMPT.VERIFY_DIS.ix p) then u.set (Reg.MAC_STATUS.VERIFY.ix p) 2 else u.verifyStart p).startTx p
  else u.startTx p

theorem spares_followLink (s : State) {p : Nat} (hp : p < 7) (up : Bool) : Spares (LinkFlag p) s (s.followLink p up) := by
  have hset (v : State) (x : Nat) : Spares (LinkFlag p) v (v.set (Reg.MAC_STATUS.VERIFY.ix p) x) :=
    (Spares.refl _ v).set (ne_linkFlag rfl (by decide) p)
  have hstart (v : State) : Spares (LinkFlag p) v (v.startTx p) := (txStep_startTx v p).spares.mono (txApart_linkFlag hp)
  have hflush (v : State) : Spares (LinkFlag p) v (v.flushLink p) := (txStep_flushLink v p).spares.mono (txApart_linkFlag hp)
  unfold State.followLink
  extract_lets u down
  have hirq : Spares (LinkFlag p) s u := (Spares.refl _ s).irqBit (ne_linkFlag rfl (by decide) p)
  have hdown : Spares (LinkFlag p) s down := hirq.trans (hset ..)
  exact Spares.ite (Spares.ite (hdown.trans (hflush _)) hdown) (Spares.ite (Spares.trans (Spares.ite (hirq.trans (hset ..))
    (hirq.trans (spares_verifyStart (ne_linkFlag rfl (by decide) p)))) (hstart _)) (hirq.trans (hstart _)))

theorem goes_linkStateChange {s : State} (h : s.filesOk = true) {p : Nat} (hp : p < 7) (l : LinkReport) :
    Goes (.linkStateChange p l) s fun t => t.flag (Reg.MAC_STATUS.LINK.ix p) = l.up ∧
      t.flag (Reg.MAC_STATUS.PCS_LOCK.ix p) = l.pcsLock ∧ t.flag (Reg.MAC_STATUS.FEC_LOCK.ix p) = l.fecLock ∧
      t.flag (Reg.MAC_STATUS.AN_DONE.ix p) = l.anDone ∧
      (s.flag (Reg.MAC_STATUS.LINK.ix p) = l.up → Keeps [Reg.MAC_STATUS.LINK.ix p, Reg.MAC_STATUS.PCS_LOCK.ix p,
        Reg.MAC_STATUS.FEC_LOCK.ix p, Reg.MAC_STATUS.AN_DONE.ix p, Reg.MAC_STATUS.SPEED.ix p] [] s t) := by
  obtain ⟨hlink, hpcs, hfec, han⟩ := showLink_shows h p l
  let t := if s.flag (Reg.MAC_STATUS.LINK.ix p) = l.up then s.showLink p l else (s.showLink p l).followLink p l.up
  have hexec : exec (.linkStateChange p l) s = .next t := rfl
  have hspares : Spares (LinkFlag p) (s.showLink p l) t := Spares.ite (Spares.refl _ _) (spares_followLink _ hp _)
  refine ⟨t, hexec, (hspares.flag ⟨_, by decide, rfl⟩).trans hlink, (hspares.flag ⟨_, by decide, rfl⟩).trans hpcs,
    (hspares.flag ⟨_, by decide, rfl⟩).trans hfec, (hspares.flag ⟨_, by decide, rfl⟩).trans han, fun hsame => ?_⟩
  simp only [t, if_pos hsame, State.showLink]
  exact (((((Keeps.refl _ _ s).setFlag (by simp)).setFlag (by simp)).setFlag (by simp)).setFlag (by simp)).set (by simp)

/-! ### Preemption is verified (R177) -/

theorem goes_preemptVerifyTimeout {s : State} (h : s.filesOk = true) {p : Nat} (hverify : s.get (Reg.MAC_STATUS.VERIFY.ix p) = 1) :
    Goes (.preemptVerifyTimeout p) s fun t =>
      ((s.port p).tries < 3 → t.port p = { s.port p with tries := (s.port p).tries + 1 } ∧ t.out = .mpacket p false :: s.out ∧
        Keeps [] [.ports, .out] s t) ∧
      (3 ≤ (s.port p).tries → t.get (Reg.MAC_STATUS.VERIFY.ix p) = 3) := by
  refine ⟨_, rfl, ?_⟩
  rw [if_pos hverify]
  refine ⟨fun htries => ?_, fun htries => ?_⟩
  · rw [if_pos htries]
    exact ⟨port_setPort_self .., rfl, Keeps.emit rfl ((Keeps.refl _ _ s).moves (moves_setPort ..) rfl)⟩
  · rw [if_neg (Nat.not_lt.mpr htries)]
    have hirq (v : State) : Spares (· = Reg.MAC_STATUS.VERIFY.ix p) v (v.macIrq p Reg.MAC_IRQ.VERIFY_FAIL) :=
      (Spares.refl _ v).irqBit (by rintro _ rfl; exact .inl (Fld.ix_ne p (by decide) rfl))
    exact ((hirq _).get_eq _ rfl).trans (State.get_set h)

/-! ### Low-power idle on M0 (R185) -/

theorem goes_lpiIdleExpiry {s : State} (h : s.filesOk = true) (hen : s.flag Reg.MACM0_EEE.EN = true)
    (hspeed : 1 ≤ s.get Reg.MACM0_RGMII_CFG.SPEED) (htop : (s.port 6).topQueue = none) (hcur : (s.port 6).cur = none)
    (hwaking : (s.port 6).waking = false) (hlpi : s.flag (Reg.MAC_STATUS.LPI_TX.ix 6) = false) (hon : s.portOn 6 = true) :
    Goes .lpiIdleExpiry s fun t => t.flag (Reg.MAC_STATUS.LPI_TX.ix 6) = true ∧
      Keeps [Reg.MAC_STATUS.LPI_TX.ix 6, Reg.MAC.EEE_TX_LPI.ix 6] [] s t := by
  refine ⟨_, rfl, ?_⟩
  rw [if_pos (by simp [hen, hspeed, htop, hcur, hwaking, hlpi, hon])]
  exact ⟨(flag_eq_of_get_eq (State.get_set_ne (.inl (by decide)))).trans (flag_setFlag h rfl),
    ((Keeps.refl _ _ s).setFlag (by simp)).count (by simp)⟩

theorem goes_twSysExpiry {s : State} (hwaking : (s.port 6).waking = true) (hlpi : s.flag (Reg.MAC_STATUS.LPI_TX.ix 6) = false) :
    Goes .twSysExpiry s fun t => (t.port 6).waking = false := by
  refine ⟨_, rfl, ?_⟩
  rw [if_pos hwaking]
  let u := s.setPort 6 { s.port 6 with waking := false }
  have hstart := startTx_starts u 6
  rw [(flag_eq_of_get_eq (get_moves (moves_setPort ..) rfl _)).trans hlpi, port_setPort_self] at hstart
  exact hstart.waking

theorem goes_lpiRxChange {s : State} (h : s.filesOk = true) {on : Bool} (hon : on ≠ s.flag (Reg.MAC_STATUS.LPI_RX.ix 6)) :
    Goes (.lpiRxChange on) s fun t => t.flag (Reg.MAC_STATUS.LPI_RX.ix 6) = on ∧
      Keeps [Reg.MAC_STATUS.LPI_RX.ix 6, Reg.MAC.EEE_RX_LPI.ix 6] [] s t := by
  refine ⟨_, rfl, ?_⟩
  rw [if_neg hon]
  have hset : (s.setFlag (Reg.MAC_STATUS.LPI_RX.ix 6) on).flag (Reg.MAC_STATUS.LPI_RX.ix 6) = on := flag_setFlag h rfl
  have hkeeps : Keeps [Reg.MAC_STATUS.LPI_RX.ix 6, Reg.MAC.EEE_RX_LPI.ix 6] [] s (s.setFlag (Reg.MAC_STATUS.LPI_RX.ix 6) on) :=
    (Keeps.refl _ _ s).setFlag (by simp)
  split
  · exact ⟨(flag_eq_of_get_eq (State.get_set_ne (.inl (by decide)))).trans hset, hkeeps.count (by simp)⟩
  · exact ⟨hset, hkeeps⟩

/-! ### MDIO (R186) -/

theorem mdioGo_holds {s : State} {who : Requester} (h : MayWrite s who) (hidle : s.flag Reg.MACM0_MDIO.GO = false) {op : Nat} (hop : op < 4)
    (phy reg data : Nat) {t : State} (ht : t = s.mdioGo who op phy reg data) :
    t.flag Reg.MACM0_MDIO.GO = true ∧ t.get Reg.MACM0_MDIO.OP = op ∧ t.get Reg.MACM0_MDIO.PHY = phy % 32 ∧
      t.get Reg.MACM0_MDIO.REG = reg % 32 ∧ t.get Reg.MACM0_MDIO.DATA = data % 65536 ∧ t.ports.mdio = some op ∧
      t.out = .mdio op (phy % 32) (reg % 32) (data % 65536) :: s.out := by
  rw [State.mdioGo, h.open_, if_neg (by simp [hidle])] at ht
  let v := (((s.set Reg.MACM0_MDIO.OP op).set Reg.MACM0_MDIO.PHY phy).set Reg.MACM0_MDIO.REG reg).set Reg.MACM0_MDIO.DATA data
  have h1 := State.filesOk_set (f := Reg.MACM0_MDIO.OP) (v := op) h.1
  have h2 := State.filesOk_set (f := Reg.MACM0_MDIO.PHY) (v := phy) h1
  have h3 := State.filesOk_set (f := Reg.MACM0_MDIO.REG) (v := reg) h2
  have h4 : v.filesOk = true := State.filesOk_set h3
  have hget (f : Fld) : t.get f = (v.setFlag Reg.MACM0_MDIO.GO true).get f := by
    rw [ht]
    exact State.get_upd ..
  have hne (u : State) (x : Nat) {f g : Fld} (hfg : f.key ≠ g.key) : (u.set f x).get g = u.get g := State.get_set_ne (.inl hfg)
  refine ⟨(flag_eq_of_get_eq (hget _)).trans (flag_setFlag h4 rfl), (hget _).trans ?_, (hget _).trans ?_, (hget _).trans ?_, (hget _).trans ?_,
    ?_, ?_⟩
  · exact (hne _ _ (by decide)).trans ((hne _ _ (by decide)).trans ((hne _ _ (by decide)).trans ((hne _ _ (by decide)).trans
      ((State.get_set h.1).trans (Nat.mod_eq_of_lt hop)))))
  · exact (hne _ _ (by decide)).trans ((hne _ _ (by decide)).trans ((hne _ _ (by decide)).trans (State.get_set h1)))
  · exact (hne _ _ (by decide)).trans ((hne _ _ (by decide)).trans (State.get_set h2))
  · exact (hne _ _ (by decide)).trans (State.get_set h3)
  · rw [ht]
    exact congrArg some (Nat.mod_eq_of_lt hop)
  · rw [ht]
    have hout : (v.setFlag Reg.MACM0_MDIO.GO true).out = s.out := by simp [State.setFlag, v]
    exact congrArg (_ :: ·) hout

theorem goes_mdioDone {s : State} (h : s.filesOk = true) {op : Nat} (data : Nat) (hop : s.ports.mdio = some op) :
    Goes (.mdioDone data) s fun t => t.ports.mdio = none ∧ t.flag Reg.MACM0_MDIO.GO = false ∧
      (op % 2 = 1 → t.get Reg.MACM0_MDIO.DATA = data % 65536) ∧ Keeps [Reg.MACM0_MDIO.GO, Reg.MACM0_MDIO.DATA] [.ports] s t := by
  let u : State := { s with ports := { s.ports with mdio := none } }
  have hexec : exec (.mdioDone data) s = .next (
      if op % 2 = 1 then (u.setFlag Reg.MACM0_MDIO.GO false).set Reg.MACM0_MDIO.DATA data else u.setFlag Reg.MACM0_MDIO.GO false) := by
    show execMdioDone data s = _
    simp only [execMdioDone, hop, u]
  have hu : u.filesOk = true := h
  have hgo : (u.setFlag Reg.MACM0_MDIO.GO false).flag Reg.MACM0_MDIO.GO = false := flag_setFlag hu rfl
  have hmdio (b : Bool) : (u.setFlag Reg.MACM0_MDIO.GO b).ports.mdio = none := congrArg Ports.mdio (State.set_ports ..)
  have hkeeps : Keeps [Reg.MACM0_MDIO.GO, Reg.MACM0_MDIO.DATA] [.ports] s (u.setFlag Reg.MACM0_MDIO.GO false) :=
    ((Keeps.refl _ _ s).upd rfl rfl rfl rfl).setFlag (by simp)
  refine ⟨_, hexec, ?_⟩
  split
  next hodd =>
    exact ⟨(congrArg Ports.mdio (State.set_ports ..)).trans (hmdio _), (flag_eq_of_get_eq (State.get_set_ne (.inl (by decide)))).trans hgo,
      fun _ => State.get_set (filesOk_setFlag hu), hkeeps.set (by simp)⟩
  next heven => exact ⟨hmdio _, hgo, fun hodd => absurd hodd heven, hkeeps⟩

/-- Each of the four MDIO commands starts the operation of its code. -/
theorem exec_mdio {who : Requester} {phy reg data op : Nat} {c : Instr} (hc : (op, c) ∈ [(0, .mdioWrite who phy reg data),
    (1, .mdioRead who phy reg data), (2, .mdioC45Address who phy reg data), (3, Instr.mdioC45Read who phy reg data)]) (s : State) :
    op < 4 ∧ exec c s = .next (s.mdioGo who op phy reg data) := by
  simp only [List.mem_cons, List.not_mem_nil, or_false, Prod.mk.injEq] at hc
  obtain ⟨rfl, rfl⟩ | ⟨rfl, rfl⟩ | ⟨rfl, rfl⟩ | ⟨rfl, rfl⟩ := hc <;> exact ⟨by decide, rfl⟩

/-- Settles O35: what follows a link's change spares the bits it reports; the other commands write what they show. -/
theorem linksAndManagement : Obligations.LinksAndManagement := by
  unfold Obligations.LinksAndManagement
  intro s hfiles
  refine ⟨fun p l hp => goes_linkStateChange hfiles hp l, fun p _ hverify => goes_preemptVerifyTimeout hfiles hverify,
    goes_lpiIdleExpiry hfiles, goes_twSysExpiry, fun on hon => goes_lpiRxChange hfiles hon, fun who phy reg data op c h hidle hc => ?_,
    fun op data hop => goes_mdioDone hfiles data hop⟩
  obtain ⟨hop, hexec⟩ := exec_mdio hc s
  exact ⟨_, hexec, mdioGo_holds h hidle hop phy reg data rfl⟩

end Sys2Proof.Machine

namespace Sys2Proof.Machine

/-! ### What the Saucer reads (R388 to R392) -/

/-- HEAD of a transmit ring. -/
theorem key_txHead (p k : Nat) : (Ring.tx p k).head.key = Reg.MAC_TXRING.HEAD.key + 8 * (p * 0x10000) + 8 * (k * 0x20) := by
  have hinner : (Reg.MAC_TXRING.HEAD.ix p).dims = [(4, 0x20)] := rfl
  rw [Ring.head, Ring.fld, Fld.ix2, Fld.key_ix hinner, Fld.key_ix (f := Reg.MAC_TXRING.HEAD) rfl]

/-- A field that stands before HEAD of the transmit rings in a port's register block, or so in another block of that size. -/
def BeforeTxHead (g : Fld) : Prop := g.key % 0x80000 < Reg.MAC_TXRING.HEAD.key % 0x80000

theorem beforeTxHead_ix {f : Fld} (hd : f.dims = [(7, 0x10000)]) (hf : BeforeTxHead f) (p : Nat) : BeforeTxHead (f.ix p) := by
  rw [BeforeTxHead, Fld.key_ix hd] at *
  omega

theorem ringTake_spares (s : State) (p n : Nat) {k : Nat} (hk : k < 4) : Spares BeforeTxHead s (s.ringTake (.tx p k) n) := by
  refine (Spares.refl _ s).set fun g hg => .inl ?_
  have hhead : Reg.MAC_TXRING.HEAD.key % 0x80000 = 0x2880 := by decide
  rw [BeforeTxHead] at hg
  rw [key_txHead]
  omega

section
variable {s t : State} (h : Spares BeforeTxHead s t)
include h

theorem redMode_of_offered : t.redMode = s.redMode := h.get_eq _ (by unfold BeforeTxHead; decide)

theorem paired_of_offered (p : Nat) (f : TxFrame) : t.paired p f = s.paired p f := by
  rw [State.paired, State.paired, redMode_of_offered h]

theorem roast_of_offered (hroasts : t.roasts = s.roasts) : t.roast = s.roast :=
  roast_eq (h.get_eq _ (by unfold BeforeTxHead; decide)) hroasts

variable (hroasts : t.roasts = s.roasts) (hsau : t.sau = s.sau) (htime : t.time = s.time)
include hroasts hsau htime

theorem bucketLevel_of_offered (p q : Nat) : t.bucketLevel p q = s.bucketLevel p q := by
  rw [State.bucketLevel, State.bucketLevel, roast_of_offered h hroasts, hsau, htime]

theorem saucerReason_of_offered (p q len : Nat) (f : TxFrame) : t.saucerReason p q len f = s.saucerReason p q len f := by
  have hlen (i : Nat) : t.get (Reg.MAC_MAXLEN.LEN.ix i) = s.get (Reg.MAC_MAXLEN.LEN.ix i) :=
    h.get_eq _ (beforeTxHead_ix rfl (by unfold BeforeTxHead; decide) i)
  have hhi (i : Nat) : t.get (Reg.MAC_SA_HI.ADDR_HI.ix i) = s.get (Reg.MAC_SA_HI.ADDR_HI.ix i) :=
    h.get_eq _ (beforeTxHead_ix rfl (by unfold BeforeTxHead; decide) i)
  have hlo (i : Nat) : t.get (Reg.MAC_SA_LO.ADDR_LO.ix i) = s.get (Reg.MAC_SA_LO.ADDR_LO.ix i) :=
    h.get_eq _ (beforeTxHead_ix rfl (by unfold BeforeTxHead; decide) i)
  have hport : t.cfgPort p = s.cfgPort p := by rw [State.cfgPort, State.cfgPort, redMode_of_offered h]
  have hmac : t.srcMac p = s.srcMac p := by rw [State.srcMac, State.srcMac, hport, State.ownAddr, State.ownAddr, hhi, hlo]
  have hpermit : t.flag Reg.SAU_STATUS.GM_PERMIT = s.flag Reg.SAU_STATUS.GM_PERMIT := h.flag (by unfold BeforeTxHead; decide)
  simp only [State.saucerReason, hport, hlen, hmac, hpermit, roast_of_offered h hroasts, bucketLevel_of_offered h hroasts hsau htime]

end

/-- There are five reasons. -/
theorem saucerReason_lt {s : State} {p q len r : Nat} {f : TxFrame} (h : s.saucerReason p q len f = some r) : r < 5 := by
  unfold State.saucerReason at h
  dsimp only at h
  split_ifs at h <;> cases h <;> decide

/-! ### Frames that pass (R388, R391) -/

/-- The bucket of a queue after a frame that passes. -/
def State.charged (s : State) (p q len : Nat) : State :=
  { s with sau := { s.sau with buckets := aset (p, q) (s.bucketLevel p q - bucketCost len * secUnit, s.time.elapsed) s.sau.buckets } }

theorem offer_ring {s : State} {p q len k : Nat} {f : TxFrame} (hsrc : f.src = .ring p k) (hpass : s.saucerReason p q len f = none) :
    s.offer p q len f = (s.charged p q len).send p q f := by
  simp only [State.offer, hpass, hsrc, TxSrc.bucketQueue, State.charged]

theorem offer_ostream {s : State} {p q len k : Nat} {f : TxFrame} (hsrc : f.src = .ostream k) (hpass : s.saucerReason p q len f = none) :
    s.offer p q len f = ((s.charged p q len).count (Reg.ALN.OUT_SENT.ix k)).send p q f := by
  simp only [State.offer, hpass, hsrc, TxSrc.bucketQueue, State.charged]

/-- A frame for a queue below 7 of a port with its link up. -/
theorem send_linkUp {s : State} {p q : Nat} {f : TxFrame} (hpair : s.paired p f = false) (hq : q < 7)
    (hlink : s.flag (Reg.MAC_STATUS.LINK.ix p) = true) : s.send p q f = (s.setPort p ((s.port p).push q f)).startTx p := by
  have hne : q ≠ 7 := by omega
  simp [State.send, State.enqueue, hpair, hne, hlink]

/-! ### Frames that are refused (R389) -/

/-- A frame's completion is no matter of the port's queues. -/
theorem frameDone_port (s : State) (f : TxFrame) (linkDrop refused : Bool) (stamp : Option Tai) :
    (s.frameDone f linkDrop refused stamp).ports.port = s.ports.port := by
  have hwrite (v : State) (r : Ring) (a : Nat) (bs : Bytes) : (v.ringWrite r a bs).ports = v.ports := (moves_ringWrite ..).touches.2 .ports rfl
  have hevent (v : State) (r : Ring) : (v.ringEvent r).ports.port = v.ports.port := by
    unfold State.ringEvent
    extract_lets due ports
    split
    · exact Eq.trans (congrArg Ports.port ((moves_ringRaise ..).touches.2 .ports rfl)) rfl
    · rfl
  unfold State.frameDone
  split
  · split
    · rfl
    · unfold State.descDone
      dsimp only
      rw [hevent]
      split
      · split
        · rw [hwrite, hwrite]
        · rw [hwrite]
      · rw [hwrite]
  · rfl

theorem key_refuse (p r : Nat) : (Reg.SAU.REFUSE.ix2 p r).key = Reg.SAU.REFUSE.key + 8 * (p * 0x40) + 8 * (r * 0x8) := by
  have hinner : (Reg.SAU.REFUSE.ix p).dims = [(5, 0x8)] := rfl
  rw [Fld.ix2, Fld.key_ix hinner, Fld.key_ix (f := Reg.SAU.REFUSE) rfl]

theorem txApart_refuse {p r : Nat} (hp : p < 7) (hr : r < 5) : TxApart (Reg.SAU.REFUSE.ix2 p r) := by
  have hkey := key_refuse p r
  have hbelow : Reg.SAU.REFUSE.key + 0x10000 < Reg.MAC_STATUS.LPI_TX.key ∧ Reg.SAU.REFUSE.key + 0x10000 < Reg.ALM_IRQ.PUB_DROP.key := by decide
  have hsch : Reg.SCH.HANDOUTS.key < Reg.SAU.REFUSE.key ∧ Reg.SCH.SIG_ABSORBED.key < Reg.SAU.REFUSE.key := by decide
  exact txApart_of_place (by omega) (by omega) (.inl (by omega))

/-- A refusal counted by its reason and raised. -/
def State.refusalNoted (s : State) (p reason : Nat) : State :=
  let u := (s.count (Reg.SAU.REFUSE.ix2 p reason)).irq Reg.SAU_IRQ.REFUSED Reg.SAU_IRQ_MASK.MASK 73
  { u with sau := { u.sau with refused := true } }

/-- SAU_LAST takes the refusal where it holds none. -/
def State.showRefusal (s : State) (p reason : Nat) (f : TxFrame) : State :=
  if s.flag Reg.SAU_LAST.VALID then s
  else (((((s.set Reg.SAU_LAST.PORT p).set Reg.SAU_LAST.REASON reason).set Reg.SAU_LAST.SOURCE f.src.lastCode.1).set
    Reg.SAU_LAST.INDEX f.src.lastCode.2).setFlag Reg.SAU_LAST.VALID true)

theorem refuse_ring {s : State} {p k : Nat} {f : TxFrame} (hsrc : f.src = .ring p k) (r : Nat) :
    s.refuse p r f = ((s.refusalNoted p r).showRefusal p r f |>.log (evCode 6 0) p []).frameDone f false true none := by
  cases f
  cases hsrc
  rfl

/-- Every register of the Saucer that a refusal writes beside its counter stands below the counters. -/
theorem spares_refusal {p r : Nat} (hp : p < 7) (hr : r < 5) {k : Nat} {f : TxFrame} (hsrc : f.src = .ring p k) (s : State) :
    Spares (· = Reg.SAU.REFUSE.ix2 p r) (s.count (Reg.SAU.REFUSE.ix2 p r)) (s.refuse p r f) := by
  have hbelow {g : Fld} (hg : g.key < Reg.SAU.REFUSE.key) : ∀ c, c = Reg.SAU.REFUSE.ix2 p r → g.key ≠ c.key ∨ g.dom ≠ c.dom := by
    rintro _ rfl
    have := key_refuse p r
    exact .inl (by omega)
  have hnoted : Spares (· = Reg.SAU.REFUSE.ix2 p r) (s.count (Reg.SAU.REFUSE.ix2 p r)) (s.refusalNoted p r) :=
    ((Spares.refl _ _).irq (hbelow (by decide))).parts rfl rfl rfl
  have hshown : Spares (· = Reg.SAU.REFUSE.ix2 p r) (s.count (Reg.SAU.REFUSE.ix2 p r)) ((s.refusalNoted p r).showRefusal p r f) :=
    hnoted.ite (((((hnoted.set (hbelow (by decide))).set (hbelow (by decide))).set (hbelow (by decide))).set (hbelow (by decide))).setFlag
      (hbelow (by decide)))
  have hway : TxStep ((s.refusalNoted p r).showRefusal p r f) (s.refuse p r f) := by
    rw [refuse_ring hsrc]
    exact (TxStep.refl _).log.trans (txStep_frameDone ..)
  exact hshown.trans (hway.spares.mono fun g hg => hg ▸ txApart_refuse hp hr)

theorem refuse_holds {s : State} (h : s.filesOk = true) {p r k : Nat} (hp : p < 7) (hr : r < 5) {f : TxFrame} (hsrc : f.src = .ring p k) :
    Counted (Reg.SAU.REFUSE.ix2 p r) s (s.refuse p r f) ∧ (s.refuse p r f).sau.refused = true ∧ (s.refuse p r f).port p = s.port p := by
  have hshown (v : State) : (v.showRefusal p r f).sau = v.sau ∧ (v.showRefusal p r f).ports = v.ports := by
    unfold State.showRefusal
    split <;> simp [State.setFlag]
  have hnoted : (s.refusalNoted p r).ports = s.ports := by
    exact (moves_irq ..).touches.2 .ports rfl |>.trans ((moves_count ..).touches.2 .ports rfl)
  refine ⟨(counted_count h _).then ((spares_refusal hp hr hsrc s).get_eq _ rfl), ?_, ?_⟩
  · rw [refuse_ring hsrc, (moves_frameDone ..).touches.2 .sau rfl, (moves_log ..).touches.2 .sau rfl, (hshown _).1]
    rfl
  · refine port_eq ?_ p
    rw [refuse_ring hsrc, frameDone_port, (moves_log ..).touches.2 .ports rfl, (hshown _).2, hnoted]

/-! ### A transmit ring's frame is offered (R174, R180, R388) -/

section
variable {s u : State} {t : Tai} {p k q w : Nat} {bs : Bytes} {f : TxFrame}

/-- The frame at the head of a transmit ring, as its descriptor states it, for a queue below 7 that has room for it. -/
structure RingOffer (s u : State) (t : Tai) (p k q w : Nat) (bs : Bytes) (f : TxFrame) : Prop where
  files : u.filesOk = true
  instant : u = s.moveTo t
  port_lt : p < 7
  ring_lt : k < 4
  queue : q = u.get (Reg.MAC_TXRING.QUEUE.ix2 p k)
  queue_lt : q < 7
  frame : f = { src := .ring p k, bytes := bs.take (w % 2 ^ 14), tsReq := bitAt w 16, oneStep := false
                descAddr := u.descAt (.tx p k) 0, descWord := w }
  single : u.paired p f = false
  ringRuns : u.blockRuns (.ring (.tx p k)) = true
  posted : u.ringAvail (.tx p k) ≠ 0
  portRuns : u.blockRuns (.port p) = true
  room : u.hasRoom p q = true

/-- It is taken off its ring and offered. -/
theorem exec_ringOffer (h : RingOffer s u t p k q w bs f) :
    exec (.txFrameOffer t (.ring (.tx p k) bs w)) s = .next ((u.ringTake (.tx p k) 1).offer p q (w % 2 ^ 14) f) := by
  obtain ⟨-, rfl, -, -, rfl, hq, rfl, hsingle, hring, hposted, hport, hroom⟩ := h
  have hone : (bitAt w 17 && (s.moveTo t).get (Reg.MAC_TXRING.QUEUE.ix2 p k) == 7) = false := by simp; omega
  show execTxFrameOffer t (.ring (.tx p k) bs w) s = _
  simp [-Nat.reducePow, execTxFrameOffer, State.offerRing, State.txRoom, hone, hsingle, hring, hposted, hport, hroom]

theorem RingOffer.src (h : RingOffer s u t p k q w bs f) : f.src = .ring p k := by rw [h.frame]

/-- What the Saucer reads is not touched as the frame is taken off its ring. -/
theorem RingOffer.saucerReason_taken (h : RingOffer s u t p k q w bs f) (len : Nat) :
    (u.ringTake (.tx p k) 1).saucerReason p q len f = u.saucerReason p q len f :=
  have hmove := moves_ringTake u (.tx p k) 1
  saucerReason_of_offered (ringTake_spares u p 1 h.ring_lt) (hmove.touches.2 .roasts rfl) (hmove.touches.2 .sau rfl)
    (hmove.touches.2 .time rfl) p q len f

theorem txApart_txHead (hp : p < 7) (hk : k < 4) : TxApart (Ring.tx p k).head := by
  have hkey := key_txHead p k
  have hhead : Reg.MAC_TXRING.HEAD.key = 0x402880 ∧ 0x900000 < Reg.ALM_IRQ.PUB_DROP.key := by decide
  have hsch : Reg.SCH.HANDOUTS.key < 0x402880 ∧ Reg.SCH.SIG_ABSORBED.key < 0x402880 := by decide
  have hother : ∀ g ∈ txPortFields, g.key % 0x80000 < 0x2880 ∨ 0x2c80 ≤ g.key % 0x80000 := by decide
  refine txApart_of_place (by omega) (by omega) (.inr fun g hg => ?_)
  have := hother g hg
  omega

theorem goes_ringPassed (h : RingOffer s u t p k q w bs f) (hlen : q < (u.port p).queues.length)
    (hlink : u.flag (Reg.MAC_STATUS.LINK.ix p) = true) (hpass : u.saucerReason p q (w % 2 ^ 14) f = none) :
    Goes (.txFrameOffer t (.ring (.tx p k) bs w)) s fun v =>
      v.get (Ring.tx p k).head = (u.get (Ring.tx p k).head + 1) % u.ringN (.tx p k) ∧ f ∈ (v.port p).all ∧
      alookup (p, q) v.sau.buckets = some (u.bucketLevel p q - bucketCost (w % 2 ^ 14) * secUnit, u.time.elapsed) := by
  let taken := u.ringTake (.tx p k) 1
  let charged := taken.charged p q (w % 2 ^ 14)
  let queued := charged.setPort p ((charged.port p).push q f)
  have hmove : Moves [.files] u taken := moves_ringTake ..
  have htaken : Spares BeforeTxHead u taken := ringTake_spares u p 1 h.ring_lt
  have hspares : Spares BeforeTxHead u charged := htaken.parts rfl rfl rfl
  have hoffer : taken.offer p q (w % 2 ^ 14) f = queued.startTx p := by
    rw [offer_ring h.src ((h.saucerReason_taken _).trans hpass)]
    refine send_linkUp ((paired_of_offered hspares p f).trans h.single) h.queue_lt ((hspares.flag ?_).trans hlink)
    exact beforeTxHead_ix rfl (by unfold BeforeTxHead; decide) p
  have hports : charged.port p = u.port p := port_eq (congrArg Ports.port (hmove.touches.2 .ports rfl)) p
  have htime : taken.time = u.time := hmove.touches.2 .time rfl
  refine ⟨_, exec_ringOffer h, ?_⟩
  rw [hoffer]
  refine ⟨((txStep_startTx queued p).spares.get_eq _ (txApart_txHead h.port_lt h.ring_lt)).trans ?_, (startTx_starts queued p).mem_all ?_, ?_⟩
  · have hget : queued.get (Ring.tx p k).head = taken.get (Ring.tx p k).head :=
      ((Spares.refl (fun _ => True) taken).parts rfl rfl rfl).get_eq _ trivial
    rw [hget]
    exact (State.get_set h.files).trans (Nat.mod_eq_of_lt ((Nat.mod_lt _ (Nat.two_pow_pos _)).trans_le (ringN_le u _)))
  · rw [port_setPort_self, hports]
    exact Port.mem_all_push hlen f
  · rw [(moves_startTx ..).touches.2 .sau rfl]
    refine (alookup_aset_self ..).trans ?_
    rw [bucketLevel_of_offered htaken (hmove.touches.2 .roasts rfl) (hmove.touches.2 .sau rfl) htime, htime]

theorem goes_ringRefused (h : RingOffer s u t p k q w bs f) {r : Nat} (hrefused : u.saucerReason p q (w % 2 ^ 14) f = some r) :
    Goes (.txFrameOffer t (.ring (.tx p k) bs w)) s fun v =>
      Counted (Reg.SAU.REFUSE.ix2 p r) u v ∧ v.sau.refused = true ∧ v.port p = u.port p := by
  have hr := saucerReason_lt hrefused
  have hoffer : (u.ringTake (.tx p k) 1).offer p q (w % 2 ^ 14) f = (u.ringTake (.tx p k) 1).refuse p r f := by
    simp only [State.offer, h.saucerReason_taken, hrefused]
  have hsame : (u.ringTake (.tx p k) 1).get (Reg.SAU.REFUSE.ix2 p r) = u.get (Reg.SAU.REFUSE.ix2 p r) := by
    have hport := h.port_lt
    have hkeys : Reg.SAU.REFUSE.key + 0x10000 < Reg.MAC_TXRING.HEAD.key := by decide
    refine State.get_set_ne (.inl ?_)
    rw [key_txHead, key_refuse]
    omega
  obtain ⟨hcount, hflag, hport⟩ := refuse_holds ((moves_ringTake ..).files h.files) h.port_lt hr h.src
  refine ⟨_, exec_ringOffer h, ?_⟩
  rw [hoffer]
  exact ⟨hcount.after hsame, hflag, hport.trans (port_eq (congrArg Ports.port ((moves_ringTake ..).touches.2 .ports rfl)) p)⟩

end

/-! ### An output frame whose hold has passed (R298, R388) -/

theorem txApart_outSent {k : Nat} (hk : k < 16) : TxApart (Reg.ALN.OUT_SENT.ix k) := by
  have hkey := Fld.key_ix (f := Reg.ALN.OUT_SENT) rfl k
  have hbase : Reg.ALN.OUT_SENT.key = 0xb08800 ∧ 0xb10000 < Reg.ALM_IRQ.PUB_DROP.key := by decide
  have hsch : Reg.SCH.HANDOUTS.key < 0xb08800 ∧ Reg.SCH.SIG_ABSORBED.key < 0xb08800 := by decide
  have hother : ∀ g ∈ txPortFields, g.key % 0x80000 < 0x8800 ∨ 0x9000 ≤ g.key % 0x80000 := by decide
  refine txApart_of_place (by omega) (by omega) (.inr fun g hg => ?_)
  have := hother g hg
  omega

/-- By either command the only frame held is offered. -/
theorem exec_singleHeld {s : State} {t : Tai} {k : Nat} {x : Nat × Nat × Bytes × Tai} (hx : x.1 = k) (hheld : (s.moveTo t).sch.outHeld = [x]) :
    exec (.outputHoldExpiry t) s = .next ((s.moveTo t).offerHeld x) ∧
      exec (.txFrameOffer t (.output k)) s = .next ((s.moveTo t).offerHeld x) := by
  have hmine : [x].filter (fun y => y.1 == k) = [x] := List.filter_cons_of_pos (by simp [hx])
  constructor
  · show execOutputHoldExpiry t s = _
    simp only [execOutputHoldExpiry, hheld, List.foldl]
  · show execTxFrameOffer t (.output k) s = _
    simp only [execTxFrameOffer, hheld, hmine, List.foldl]

/-- It leaves the held frames, is counted and sent. -/
theorem offerHeld_sends {u : State} (h : u.filesOk = true) {k : Nat} (hk : k < 16) {x : Nat × Nat × Bytes × Tai} (hx : x.1 = k)
    (hheld : u.sch.outHeld = [x]) {b : Bytes} (hrec : u.roast.outRec k = some b) (hdue : x.2.2.2 ≤ u.time.tai) {f : TxFrame}
    (hf : f = { src := .ostream k, bytes := x.2.2.1 }) (hroom : u.txRoom (leAt b 2 1) (leAt b 3 1) f = true)
    (hpass : u.saucerReason (leAt b 2 1) (leAt b 3 1) x.2.2.1.length f = none) :
    (u.offerHeld x).sch.outHeld = [] ∧ Counted (Reg.ALN.OUT_SENT.ix k) u (u.offerHeld x) := by
  let v : State := { u with sch := { u.sch with outHeld := u.sch.outHeld.filter (· != x) } }
  let w := v.charged (leAt b 2 1) (leAt b 3 1) x.2.2.1.length
  have hgone : v.sch.outHeld = [] := by simp [v, hheld]
  have hpass' : v.saucerReason (leAt b 2 1) (leAt b 3 1) x.2.2.1.length f = none :=
    (saucerReason_of_offered ((Spares.refl _ u).parts rfl rfl rfl) rfl rfl rfl ..).trans hpass
  have hoffer : u.offerHeld x = (w.count (Reg.ALN.OUT_SENT.ix k)).send (leAt b 2 1) (leAt b 3 1) f := by
    have hsrc : f.src = .ostream k := by rw [hf]
    rw [← offer_ostream hsrc hpass']
    subst hx hf
    simp only [State.offerHeld, hrec]
    exact if_neg (by simp [hroom, hdue])
  have hsend := txStep_send (w.count (Reg.ALN.OUT_SENT.ix k)) (leAt b 2 1) (leAt b 3 1) f
  rw [hoffer]
  refine ⟨hsend.outHeld.trans ?_, Counted.then ?_ (hsend.spares.get_eq _ (txApart_outSent hk))⟩
  · rw [State.count, State.set_sch]
    exact hgone
  · exact (counted_count (s := w) h _).after (((Spares.refl (fun _ => True) u).parts rfl rfl rfl).get_eq _ trivial)

/-! ### The end of a transmission (R174, R179) -/

/-- The frame in transmission gone out and counted. -/
def State.txGone (s : State) (p q : Nat) (wire : Bytes) : State :=
  (((s.setPort p { s.port p with cur := none }).emit (.frame p q wire)).count (Reg.MAC.TX_FRAMES.ix p)).count (Reg.MAC.TX_OCTETS.ix p)
    (wire.length + 4)

theorem mem_txGone_out (s : State) (p q : Nat) (wire : Bytes) : .frame p q wire ∈ (s.txGone p q wire).out := by
  simp [State.txGone, State.count, State.emit]

theorem goes_txFrameComplete {s u : State} {t : Tai} {p q code : Nat} {f : TxFrame} (hu : u = s.moveTo t)
    (hcur : (u.port p).cur = some (q, f)) : Goes (.txFrameComplete p ⟨t, code⟩) s fun v =>
      .frame p q (padTo 60 (u.egressBytes p f (u.txStamp p f (if p < 6 then u.tdcStamp (13 + 2 * p) t code else t)))) ∈ v.out := by
  let stamp := u.txStamp p f (if p < 6 then u.tdcStamp (13 + 2 * p) t code else t)
  let gone := u.txGone p q (padTo 60 (u.egressBytes p f stamp))
  have hexec : exec (.txFrameComplete p ⟨t, code⟩) s = .next
      (((gone.frameDone f false false (if f.tsReq then some stamp else none)).hsrDrain p).startTx p) := by
    subst hu
    show execTxFrameComplete p ⟨t, code⟩ s = _
    simp only [execTxFrameComplete, hcur]
    rfl
  exact ⟨_, hexec, ((txStep_frameDone gone ..).trans ((txStep_hsrDrain ..).trans (txStep_startTx ..))).out.subset (mem_txGone_out ..)⟩

/-- Settles O38: a ring's frame by what the Saucer says of it, the one output frame that is due by either command, and the frame in
transmission. -/
theorem framesAreSent : Obligations.FramesAreSent := by
  unfold Obligations.FramesAreSent
  refine ⟨fun s u t p k q w bs f hfiles hu hp hk hqueue hq hf hpair hring hposted hport hroom => ?ring,
    fun s u t k p q x b f hfiles hu hx hk hheld hrec hdue hp hq _ _ hf hroom hpass => ?output,
    fun s u t p q code f _ hu _ hcur => goes_txFrameComplete hu hcur⟩
  case ring =>
    have h : RingOffer s u t p k q w bs f :=
      ⟨hu ▸ (moves_moveTo s t).files hfiles, hu, hp, hk, hqueue, hq, hf, hpair, hring, hposted, hport, hroom⟩
    exact ⟨goes_ringPassed h, fun r => goes_ringRefused h⟩
  case output =>
    subst hp hq
    have hsent := offerHeld_sends (hu ▸ (moves_moveTo s t).files hfiles) hk hx hheld hrec hdue hf hroom hpass
    subst hu
    obtain ⟨hexpiry, hoffer⟩ := exec_singleHeld hx hheld
    exact ⟨⟨_, hexpiry, hsent⟩, ⟨_, hoffer, hsent⟩⟩

end Sys2Proof.Machine

namespace Sys2Proof.Machine

/-! ### Time moves on (R188) -/

section
variable {s : State} {t : Tai}

theorem moveTo_passed (h : t ≤ s.time.tai) : s.moveTo t = s := if_neg (Nat.not_lt.mpr h)

theorem moveTo_tai (h : s.time.tai ≤ t) : (s.moveTo t).time.tai = t := by
  unfold State.moveTo
  split
  · rfl
  · exact Nat.le_antisymm h (Nat.not_lt.mp ‹_›)

theorem moveTo_elapsed (s : State) (d : Nat) : (s.moveTo (s.time.tai + d)).time.elapsed = s.time.elapsed + d := by
  unfold State.moveTo
  split
  · simp
  · next h => rw [Nat.eq_zero_of_not_pos fun hd => h (Nat.lt_add_of_pos_right hd), Nat.add_zero]

/-- What an instant's move of time leaves alone, with what follows it. -/
theorem Keeps.of_moveTo {fs : List Fld} {ps : List Part} {u v : State} (hu : u = s.moveTo t) (hp : ps.contains .time = true)
    (h : Keeps fs ps u v) : Keeps fs ps s v :=
  ((Keeps.refl fs ps s).moves (hu ▸ moves_moveTo s t) (by simpa using hp)).trans h

end

/-! ### A reference's history (R194) -/

section
variable {s : State} {k : Nat}

theorem refHist_setRefHist (hk : 1 ≤ k) (h : RefHist) : (s.setRefHist k h).refHist k = h := by
  have hlt : k - 1 < (s.time.refs ++ List.replicate (k - s.time.refs.length) ({} : RefHist)).length := by
    simp only [List.length_append, List.length_replicate]
    omega
  simp [State.refHist, State.setRefHist, setAt, modAt_eq_modify, List.getElem?_eq_getElem hlt]

theorem take_lastTod (h : RefHist) (rec : Bytes) (now : Tai) (o : Int) : (h.take rec now o).lastTod = h.lastTod := rfl

theorem refHist_eq {t : State} (h : t.time = s.time) (k : Nat) : t.refHist k = s.refHist k := by rw [State.refHist, State.refHist, h]

theorem roast_set {f : Fld} (hf : f.key ≠ Reg.CFG_ROAST_STATUS.ACTIVE_REGION.key) (v : Nat) : (s.set f v).roast = s.roast :=
  roast_eq (State.get_set_ne (.inl hf)) (State.set_roasts ..)

/-- A sample as it stands in the history and the registers of its reference (R193, R194). -/
def State.sampled (s : State) (k : Nat) (o : Int) : State :=
  ((s.setRefHist k ((s.refHist k).take (s.roast.refRec k) s.time.elapsed o)).setInt (Reg.TSU_REF.LAST.ix (k - 1)) (roundDiv o nsUnit)).set
    (Reg.TSU_REF.AGE.ix (k - 1)) 0

/-- A sample of a reference that is not selected goes no further. -/
theorem refSample_unselected (h : k ≠ s.selected) (o : Int) (tau : Rat) : s.refSample k o tau = s.sampled k o :=
  if_neg fun hsel => h hsel.1

theorem sampled_time (s : State) (k : Nat) (o : Int) :
    (s.sampled k o).time = (s.setRefHist k ((s.refHist k).take (s.roast.refRec k) s.time.elapsed o)).time := by
  simp only [State.sampled, State.setInt, State.set_time]

theorem sampled_refHist (hk : 1 ≤ k) (o : Int) :
    (s.sampled k o).refHist k = (s.refHist k).take (s.roast.refRec k) s.time.elapsed o :=
  (refHist_eq (sampled_time s k o) k).trans (refHist_setRefHist hk _)

theorem sampled_age (h : s.filesOk = true) (k : Nat) (o : Int) : (s.sampled k o).get (Reg.TSU_REF.AGE.ix (k - 1)) = 0 := by
  refine (State.get_set ?_).trans (Nat.zero_mod _)
  exact (moves_setInt ..).files ((moves_setRefHist ..).files h)

theorem keeps_setRefHist (fs : List Fld) (s : State) (k : Nat) (h : RefHist) : Keeps fs [.time] s (s.setRefHist k h) :=
  (Keeps.refl _ _ s).moves (moves_setRefHist ..) rfl

theorem sampled_keeps (s : State) (k : Nat) (o : Int) :
    Keeps [Reg.TSU_REF.LAST.ix (k - 1), Reg.TSU_REF.AGE.ix (k - 1)] [.time] s (s.sampled k o) :=
  ((keeps_setRefHist _ s k _).setInt (by simp)).set (by simp)

end

/-! ### Samples of references (R193, R197, R199, R201) -/

section
variable {s u : State} {t : Tai} {k : Nat}

theorem goes_ppsInEdge (hfiles : u.filesOk = true) (hu : u = s.moveTo t) (hk : 1 ≤ k) (hsel : k ≠ u.selected)
    (href : u.roast.refOfKind 2 = some k) (code : Nat) : Goes (.ppsInEdge ⟨t, code⟩) s fun v =>
      v.refHist k = (u.refHist k).take (u.roast.refRec k) u.time.elapsed
        (toSecond ((u.tdcStamp 0 t code : Int) - refComp (u.roast.refRec k))) ∧
      v.get (Reg.TSU_REF.AGE.ix (k - 1)) = 0 ∧ Keeps [Reg.TSU_REF.LAST.ix (k - 1), Reg.TSU_REF.AGE.ix (k - 1)] [.time] s v := by
  refine ⟨u.sampled k _, ?_, sampled_refHist hk _, sampled_age hfiles k _, ?_⟩
  · rw [← refSample_unselected hsel _ 1]
    subst hu
    show execPpsInEdge ⟨t, code⟩ s = _
    simp only [execPpsInEdge, href]
  · exact (sampled_keeps u k _).of_moveTo hu rfl

/-- What an IRIG-B frame shows of its time: its UTC second, the second of its day, and whether a deletion ends the day. -/
def State.irigTod (s : State) (f : IrigFrame) : Nat × Nat × Bool :=
  (f.utc s.calYear, f.sod, (f.ext && f.leapPending && f.leapDel) || s.get Reg.TSU_UTC.PENDING == 2)

/-- The state that an IRIG-B frame finds for its sample: its time noted. -/
def State.irigNoted (s : State) (k : Nat) (f : IrigFrame) : State :=
  s.setRefHist k { s.refHist k with lastTod := some (s.irigTod f) }

/-- A frame that fails its parity or does not follow the one before it gives no sample. -/
theorem exec_irigBFrame_bad {f : IrigFrame} (hu : u = s.moveTo f.stamp) (href : u.roast.refOfKind 1 = some k)
    (hbad : f.parityOk = false ∨ ∃ l, (u.refHist k).lastTod = some l ∧ irigFollows l (f.utc u.calYear) f.sod = false) :
    exec (.irigBFrame f) s = .next (u.irigNoted k f) := by
  subst hu
  show execIrigBFrame f s = _
  simp only [execIrigBFrame, href]
  rw [if_pos]
  · rfl
  · obtain h | ⟨l, hl, h⟩ := hbad
    · simp [h]
    · simp [hl, h]

/-- A good frame in its turn, without the extension where none is asked for, of a reference that is not selected. -/
theorem exec_irigBFrame_good {f : IrigFrame} (hu : u = s.moveTo f.stamp) (href : u.roast.refOfKind 1 = some k) (hsel : k ≠ u.selected)
    (hparity : f.parityOk = true) (hext : f.ext = false) (hplain : bitAt (leAt (u.roast.refRec k) 5 1) 2 = false)
    (hturn : ∀ l, (u.refHist k).lastTod = some l → irigFollows l (f.utc u.calYear) f.sod = true) :
    ∃ o, exec (.irigBFrame f) s = .next ((u.irigNoted k f).sampled k o) := by
  have hsample (o : Int) : (u.irigNoted k f).refSample k o 1 = (u.irigNoted k f).sampled k o :=
    refSample_unselected (by rwa [State.selected, State.irigNoted, State.setRefHist, State.get_upd]) o 1
  simp only [← hsample]
  subst hu
  refine ⟨((s.moveTo f.stamp).tdcStamp 10 f.stamp f.code : Int) - refComp ((s.moveTo f.stamp).roast.refRec k) -
    ((f.utc (s.moveTo f.stamp).calYear : Int) + (s.moveTo f.stamp).utcOffset) * secUnit, ?_⟩
  show execIrigBFrame f s = _
  simp only [execIrigBFrame, href]
  rw [if_neg, if_neg]
  · rfl
  · simp [hext]
  · cases hl : ((s.moveTo f.stamp).refHist k).lastTod with
    | none => simp [hparity, hext, hplain]
    | some l => simp [hparity, hext, hplain, hturn l hl]

theorem irigNoted_files {f : IrigFrame} (h : u.filesOk = true) : (u.irigNoted k f).filesOk = true := h

theorem irigNoted_refHist (hk : 1 ≤ k) (f : IrigFrame) :
    (u.irigNoted k f).refHist k = { u.refHist k with lastTod := some (u.irigTod f) } := refHist_setRefHist hk _

theorem goes_irigBFrame_bad {f : IrigFrame} (hu : u = s.moveTo f.stamp) (hk : 1 ≤ k) (href : u.roast.refOfKind 1 = some k)
    (hbad : f.parityOk = false ∨ ∃ l, (u.refHist k).lastTod = some l ∧ irigFollows l (f.utc u.calYear) f.sod = false) :
    Goes (.irigBFrame f) s fun v => v.refHist k = { u.refHist k with lastTod := some (u.irigTod f) } ∧ Keeps [] [.time] s v :=
  ⟨_, exec_irigBFrame_bad hu href hbad, irigNoted_refHist hk f, (keeps_setRefHist [] u k _).of_moveTo hu rfl⟩

theorem goes_irigBFrame_good {f : IrigFrame} (hfiles : u.filesOk = true) (hu : u = s.moveTo f.stamp) (hk : 1 ≤ k)
    (href : u.roast.refOfKind 1 = some k) (hsel : k ≠ u.selected) (hparity : f.parityOk = true) (hext : f.ext = false)
    (hplain : bitAt (leAt (u.roast.refRec k) 5 1) 2 = false)
    (hturn : ∀ l, (u.refHist k).lastTod = some l → irigFollows l (f.utc u.calYear) f.sod = true) : Goes (.irigBFrame f) s fun v =>
      v.get (Reg.TSU_REF.AGE.ix (k - 1)) = 0 ∧ (v.refHist k).lastTod = some (u.irigTod f) ∧
      Keeps [Reg.TSU_REF.LAST.ix (k - 1), Reg.TSU_REF.AGE.ix (k - 1)] [.time] s v := by
  obtain ⟨o, hexec⟩ := exec_irigBFrame_good hu href hsel hparity hext hplain hturn
  refine ⟨_, hexec, sampled_age (irigNoted_files hfiles) k o, ?_, ?_⟩
  · rw [sampled_refHist hk, take_lastTod, irigNoted_refHist hk]
  · exact ((keeps_setRefHist _ u k _).trans (sampled_keeps ..)).of_moveTo hu rfl

/-- A second of REF10M_IN joins the mean in LOCKED (R199). -/
theorem goes_ref10mSecond (hfiles : u.filesOk = true) (hu : u = s.moveTo t) (hsel : k ≠ u.selected)
    (href : u.roast.refOfKind 3 = some k) (hlocked : u.tsu = 3) (y : Int) : Goes (.ref10mSecond t y) s fun v =>
      v.time.ref10m = (y :: u.time.ref10m).take 1000 ∧ v.get (Reg.TSU_REF.AGE.ix (k - 1)) = 0 := by
  let o := roundDiv (y * 1000000000) (2 ^ 32)
  let w := u.sampled k o
  let l := (y :: w.time.ref10m).take 1000
  have hexec : exec (.ref10mSecond t y) s =
      .next ({ w with time := { w.time with ref10m := l } }.setInt Reg.TSU_REF10M_OFS.OFS (roundDiv l.sum l.length)) := by
    simp only [l, w, ← refSample_unselected hsel o 1]
    subst hu
    show execRef10mSecond t y s = _
    simp only [execRef10mSecond, href, if_pos hlocked]
    rfl
  have hmean : w.time.ref10m = u.time.ref10m := by
    simp only [w, sampled_time]
    rfl
  refine ⟨_, hexec, ?_, ?_⟩
  · simp only [State.setInt, State.set_time, l, hmean]
  · rw [State.setInt, State.get_set_ne (.inl (Fld.ix_above (k - 1) (by decide))), State.get_upd]
    exact sampled_age hfiles k o

/-- Whether a requester's accesses take effect, read off the boot state and the cores' registers. -/
theorem silent_eq {v : State} (hboot : v.boot = s.boot) (hsch : v.sch = s.sch)
    (hget : ∀ g ∈ [Reg.BOOT_STATUS.STATE, Reg.BOOT_STATUS.STEP, Reg.SCH_CORE_STATUS.STATE], v.get g = s.get g) (who : Requester) :
    v.silent who = s.silent who := by
  simp only [List.forall_mem_cons, List.not_mem_nil, false_implies, implies_true, and_true] at hget
  obtain ⟨hstate, hstep, hcores⟩ := hget
  have hcore (p : Nat) : v.coreUp p = s.coreUp p := by
    simp only [State.coreUp, State.coresRun, State.coreState, hboot, hsch, hstate, hstep, hcores]
  simp only [State.silent, hboot, hcore]

/-- An offset stored leaves what the write of TSU_SAMPLE_GO asks. -/
theorem MayWrite.set_sample {who : Requester} (h : MayWrite s who) (ofs : Nat) : MayWrite (s.set Reg.TSU_SAMPLE.OFS ofs) who := by
  obtain ⟨hfiles, hsilent, hwho⟩ := h
  refine ⟨State.filesOk_set hfiles, (silent_eq (State.set_boot ..) (State.set_sch ..) (fun g hg => State.get_set_ne ?_) who).trans hsilent,
    hwho⟩
  revert g
  decide

theorem goes_tsuSampleGo {who : Requester} (h : MayWrite s who) (hk : 1 ≤ k) (hsel : k ≠ s.selected)
    (hcount : k ≤ s.roast.refCount) (hkind : refKind (s.roast.refRec k) = 0) (ofs : Nat) : Goes (.tsuSampleGo who k ofs) s fun v =>
      v.get Reg.TSU_SAMPLE.OFS = ofs % 2 ^ 64 ∧ v.get (Reg.TSU_REF.AGE.ix (k - 1)) = 0 ∧
      Keeps [Reg.TSU_SAMPLE.OFS, Reg.TSU_REF.LAST.ix (k - 1), Reg.TSU_REF.AGE.ix (k - 1)] [.time] s v := by
  let w := s.set Reg.TSU_SAMPLE.OFS ofs
  have hw : MayWrite w who := h.set_sample ofs
  have hroast : w.roast = s.roast := roast_set (by decide) ofs
  have hselw : k ≠ w.selected := by rwa [State.selected, State.get_set_ne (.inl (by decide))]
  have hsample : w.sampleGo who k = w.sampled k (w.getInt Reg.TSU_SAMPLE.OFS) := by
    rw [State.sampleGo, hw.open_, if_pos ⟨hk, hroast ▸ hcount, hroast ▸ hkind⟩]
    exact refSample_unselected hselw ..
  refine ⟨w.sampled k (w.getInt Reg.TSU_SAMPLE.OFS), ?_, ?_, sampled_age hw.1 k _, ?_⟩
  · show execTsuSampleGo who k ofs s = _
    rw [execTsuSampleGo, h.open_, hsample]
  · rw [(sampled_keeps w k _).get]
    · exact State.get_set h.1
    · simp only [List.forall_mem_cons, List.not_mem_nil, false_implies, implies_true, and_true]
      exact ⟨.inl (Fld.ix_above _ (by decide)), .inl (Fld.ix_above _ (by decide))⟩
  · exact ((Keeps.refl _ _ s).set (by simp)).trans ((sampled_keeps w k _).mono (by simp) fun _ hp => hp)

/-- Settles O40: a sample of a reference that is not selected reaches its history and its registers alone. -/
theorem referencesAreSampled : Obligations.ReferencesAreSampled := by
  unfold Obligations.ReferencesAreSampled
  intro s u t k h hu hk _ hsel
  have hfiles : u.filesOk = true := hu ▸ (moves_moveTo s t).files h
  refine ⟨fun href code => goes_ppsInEdge hfiles hu hk hsel href code, fun href f tod hstamp htod => ?irig,
    fun href hlocked y => goes_ref10mSecond hfiles hu hsel href hlocked y,
    fun who ofs hmay hsel hcount hkind => goes_tsuSampleGo hmay hk hsel hcount hkind ofs⟩
  case irig =>
    subst hstamp htod
    exact ⟨fun hbad => goes_irigBFrame_bad hu hk href hbad,
      fun hparity hext hplain hturn => goes_irigBFrame_good hfiles hu hk href hsel hparity hext hplain hturn⟩

end

end Sys2Proof.Machine

namespace Sys2Proof.Machine

/-! ### Signed fields (R10) -/

theorem codeOf_mod (w : Nat) (i : Int) : codeOf w i % 2 ^ w = codeOf w i := by
  have hpos : (0 : Int) < (2 ^ w : Nat) := by exact_mod_cast Nat.two_pow_pos w
  have hlt := Int.emod_lt_of_pos i hpos
  exact Nat.mod_eq_of_lt (by unfold codeOf; omega)

/-- A number within a signed field's range reads back as itself. -/
theorem signedOf_codeOf {w : Nat} {i : Int} (hw : 1 ≤ w) (hlo : -((2 ^ (w - 1) : Nat) : Int) ≤ i) (hhi : i < ((2 ^ (w - 1) : Nat) : Int)) :
    signedOf w (codeOf w i) = i := by
  have hpow : 2 ^ w = 2 * 2 ^ (w - 1) := by rw [← Nat.pow_succ', Nat.succ_eq_add_one, Nat.sub_add_cancel hw]
  rw [signedOf, codeOf_mod, codeOf, hpow]
  generalize 2 ^ (w - 1) = m at hlo hhi ⊢
  obtain hneg | hpos := lt_or_ge i 0
  · have : i % ((2 * m : Nat) : Int) = i + (2 * m : Nat) := by
      rw [← Int.add_emod_right, Int.emod_eq_of_lt (by omega) (by omega)]
    rw [this, if_neg (by omega)]
    omega
  · rw [Int.emod_eq_of_lt hpos (by omega), if_pos (by omega)]
    omega

theorem saturate_of_fits {w : Nat} {i : Int} (hlo : -((2 ^ (w - 1) : Nat) : Int) ≤ i) (hhi : i < ((2 ^ (w - 1) : Nat) : Int)) :
    saturate w i = i := by
  rw [saturate, if_neg (not_lt.mpr hlo), if_neg (not_le.mpr hhi)]

theorem getInt_setInt {s : State} {f : Fld} {i : Int} (h : s.filesOk = true) (hw : 1 ≤ f.width)
    (hlo : -((2 ^ (f.width - 1) : Nat) : Int) ≤ i) (hhi : i < ((2 ^ (f.width - 1) : Nat) : Int)) : (s.setInt f i).getInt f = i := by
  rw [State.getInt, State.setInt, State.get_set h, saturate_of_fits hlo hhi, codeOf_mod, signedOf_codeOf hw hlo hhi]

/-! ### TDC calibration (R202, R203) -/

theorem bit_putBit {s : State} {f : Fld} {k : Nat} {b : Bool} (h : s.filesOk = true) (hk : k < f.width) : (s.putBit f k b).bit f k = b := by
  rw [State.bit, State.putBit, State.get_set h, bitAt_mod_two_pow hk, bitAt_setBit_self]

section
variable {s : State} {ch : Nat} {bins : List Nat}

theorem goes_tdcCalibration_good (h : s.filesOk = true) (hch : ch < 32) (hgood : ∀ h ∈ bins, 4096 ≤ h ∧ h ≤ 32768) :
    Goes (.tdcCalibration ch bins) s fun v => alookup ch v.time.tdcTab = some (tdcTable 0 bins) ∧ v.bit Reg.TSU_TDC_FAIL.MAP ch = false ∧
      Keeps [Reg.TSU_TDC_CALS.COUNT, Reg.TSU_TDC_FAIL.MAP] [.time] s v := by
  let c := s.count Reg.TSU_TDC_CALS.COUNT
  let w : State := { c with time := { c.time with tdcTab := aset ch (tdcTable 0 bins) c.time.tdcTab } }
  have hw : w.filesOk = true := (moves_count s _ _).files h
  refine ⟨w.putBit Reg.TSU_TDC_FAIL.MAP ch false, ?_, ?_, bit_putBit hw hch, ?_⟩
  · show execTdcCalibration ch bins s = _
    rw [execTdcCalibration]
    exact congrArg Host.Outcome.next (if_pos (List.all_eq_true.mpr fun h hh => decide_eq_true (hgood h hh)))
  · rw [State.putBit, State.set_time]
    exact alookup_aset_self ..
  · exact (Keeps.upd rfl rfl rfl rfl ((Keeps.refl _ _ s).count (by simp)) (h15 := .inl rfl)).putBit (by simp)

theorem goes_tdcCalibration_bad (h : s.filesOk = true) (hch : ch < 32) (hbad : ∃ h ∈ bins, h < 4096 ∨ 32768 < h) :
    Goes (.tdcCalibration ch bins) s fun v => v.bit Reg.TSU_TDC_FAIL.MAP ch = true ∧ v.time = s.time := by
  let w := (s.count Reg.TSU_TDC_CALS.COUNT).putBit Reg.TSU_TDC_FAIL.MAP ch true
  let v := (w.irq Reg.TSU_IRQ.TDC Reg.TSU_IRQ_MASK.MASK 24).log (evCode 10 2) ch []
  have hspares : Spares (· = Reg.TSU_TDC_FAIL.MAP) w v :=
    (Spares.irq (by rintro g rfl; decide) (Spares.refl _ w)).log (by rintro g rfl; decide)
  refine ⟨v, ?_, ?_, ?_⟩
  · obtain ⟨b, hb, hout⟩ := hbad
    show execTdcCalibration ch bins s = _
    rw [execTdcCalibration]
    refine congrArg Host.Outcome.next (if_neg fun hall => ?_)
    have := of_decide_eq_true (List.all_eq_true.mp hall b hb)
    omega
  · rw [State.bit, hspares.get_eq _ rfl]
    exact bit_putBit ((moves_count ..).files h) hch
  · calc v.time = (w.irq _ _ _).time := (moves_log ..).touches.2 .time rfl
      _ = w.time := (moves_irq ..).touches.2 .time rfl
      _ = (s.count Reg.TSU_TDC_CALS.COUNT).time := (moves_putBit ..).touches.2 .time rfl
      _ = s.time := (moves_count ..).touches.2 .time rfl

end

/-! ### Leap seconds (R217) -/

/-- A leap of the offset in force, none held over: TSU_UTC and the backup domain's note of it. -/
theorem leapApply_holds {u : State} (h : u.filesOk = true) (t : Tai) (del : Bool) (hheld : u.time.leapHeld = 0)
    (hlo : -30000 ≤ u.utcOffset) (hhi : u.utcOffset ≤ 30000) :
    (u.leapApply t del).utcOffset = u.utcOffset + (if del then -1 else 1) ∧ (u.leapApply t del).get Reg.TSU_UTC.PENDING = 0 ∧
      (u.leapApply t del).get Reg.TSU_UTC.OCCURRED = 1 ∧ (u.leapApply t del).backup.leapAt = some t ∧
      (u.leapApply t del).backup.leapDel = del := by
  let o := u.utcOffset + (if del then -1 else 1)
  have ho : -30001 ≤ o ∧ o ≤ 30001 := by
    simp only [o]
    split <;> omega
  let s1 := u.setOffset o
  let s2 := s1.set Reg.TSU_UTC.PENDING 0
  let s3 : State := { s2 with time := { s2.time with leapHeld := 0 }, backup := { s2.backup with leapAt := some t, leapDel := del } }
  let s4 := s3.set Reg.TSU_UTC.OCCURRED 1
  have hleap : u.leapApply t del = s4.irq Reg.TSU_IRQ.LEAP Reg.TSU_IRQ_MASK.MASK 24 := by
    simp only [State.leapApply, hheld, ne_eq, not_true_eq_false, if_false]
    rfl
  have h1 : s1.filesOk = true := (moves_setOffset u o).files h
  have h2 : s2.filesOk = true := State.filesOk_set h1
  have hspares : Spares (fun g => g = Reg.TSU_UTC.OFFSET ∨ g = Reg.TSU_UTC.PENDING ∨ g = Reg.TSU_UTC.OCCURRED) s4 (u.leapApply t del) :=
    hleap ▸ Spares.irq (by rintro g (rfl | rfl | rfl) <;> decide) (Spares.refl _ s4)
  have hbackup : (u.leapApply t del).backup = s3.backup := by
    rw [hleap, (moves_irq ..).touches.2 .backup rfl, State.set_backup]
  refine ⟨?_, ?_, ?_, congrArg _ hbackup, congrArg _ hbackup⟩
  · have hoffset : (u.leapApply t del).get Reg.TSU_UTC.OFFSET = s1.get Reg.TSU_UTC.OFFSET := by
      rw [hspares.get_eq _ (.inl rfl), State.get_set_ne (.inl (by decide)), State.get_upd,
        State.get_set_ne (.inl (by decide))]
    rw [State.utcOffset, State.getInt, hoffset]
    exact getInt_setInt h (by decide) (le_trans (by decide) ho.1) (lt_of_le_of_lt ho.2 (by decide))
  · rw [hspares.get_eq _ (.inr (.inl rfl)), State.get_set_ne (.inl (by decide)), State.get_upd, State.get_set h1]
    rfl
  · rw [hspares.get_eq _ (.inr (.inr rfl)), State.get_set (by exact h2)]
    rfl

theorem exec_leapSecond {s u : State} {t : Tai} {del : Bool} (hu : u = s.moveTo t) (hdue : u.leapDue (t - 1) = some (t, del)) :
    exec (.leapSecond t) s = .next (u.leapApply t del) := by
  subst hu
  show execLeapSecond t s = _
  simp only [execLeapSecond, hdue, if_true]

/-! ### The PPS output (R219) -/

/-- An instant at which the output rises. -/
def State.ppsRises (s : State) (t : Tai) : Prop :=
  t % secUnit = 0 ∧ s.time.tai = t ∧ s.pinsLive = true ∧ s.flag Reg.TSU_PPS_OUT.EN = true ∧
    (2 ≤ s.tsu ∨ s.flag Reg.TSU_PPS_OUT.FREE = true)

section
variable {s u : State} {t : Tai}

theorem exec_ppsOutPulse_none (hu : u = s.moveTo t) (h : ¬u.ppsRises t) : exec (.ppsOutPulse t) s = .next u := by
  subst hu
  exact congrArg Host.Outcome.next (if_neg h)

theorem goes_ppsOutPulse (hu : u = s.moveTo t) (h : u.ppsRises t) : Goes (.ppsOutPulse t) s fun v => v.pins.ppsOut = true ∧
    v.time.ppsUntil = some (u.time.elapsed + clampN 1 200 (u.get Reg.TSU_PPS_OUT.WIDTH) * msUnit) ∧ Keeps [] [.time, .pins] s v := by
  subst hu
  refine ⟨_, congrArg Host.Outcome.next (if_pos h), rfl, rfl, ?_⟩
  exact (Keeps.upd rfl rfl rfl rfl (Keeps.refl _ _ (s.moveTo t)) (h10 := .inl rfl) (h15 := .inl rfl)).of_moveTo rfl rfl

theorem exec_ppsOutWidthEnd_none (h : s.time.ppsUntil = none) : exec .ppsOutWidthEnd s = .next s := by
  show execPpsOutWidthEnd s = _
  simp only [execPpsOutWidthEnd, h]

theorem goes_ppsOutWidthEnd {x : Tai} (h : s.time.ppsUntil = some x) : Goes .ppsOutWidthEnd s fun v => v.pins.ppsOut = false ∧
    v.time.ppsUntil = none ∧ v.time.elapsed = max s.time.elapsed x ∧ Keeps [] [.time, .pins] s v := by
  let w := s.moveTo (s.time.tai + (x - s.time.elapsed))
  have hend : w.time.elapsed = max s.time.elapsed x := by
    rw [moveTo_elapsed, Nat.add_comm, Nat.sub_add_eq_max, Nat.max_comm]
  refine ⟨{ w with pins := { w.pins with ppsOut := false }, time := { w.time with ppsUntil := none } }, ?_, rfl, rfl, hend, ?_⟩
  · show execPpsOutWidthEnd s = _
    simp only [execPpsOutWidthEnd, h]
    rfl
  · exact (Keeps.upd rfl rfl rfl rfl (Keeps.refl _ _ w) (h10 := .inl rfl) (h15 := .inl rfl)).of_moveTo rfl rfl

end

/-- Settles O41: each clause by the law of its command. -/
theorem leapsAndPulses : Obligations.LeapsAndPulses := by
  unfold Obligations.LeapsAndPulses
  intro s u t h hu
  have hfiles : u.filesOk = true := hu ▸ (moves_moveTo s t).files h
  refine ⟨fun ch bins hch hgood => goes_tdcCalibration_good h hch hgood, fun ch bins hch hbad => goes_tdcCalibration_bad h hch hbad,
    fun del hdue hheld hlo hhi => ⟨_, exec_leapSecond hu hdue, leapApply_holds hfiles t del hheld hlo hhi⟩,
    fun hnot => exec_ppsOutPulse_none hu ?still,
    fun hwhole htai hlive hen hmay => goes_ppsOutPulse hu ⟨hwhole, htai, hlive, hen, hmay⟩,
    fun x hx => goes_ppsOutWidthEnd hx, exec_ppsOutWidthEnd_none⟩
  case still =>
    rintro ⟨hwhole, htai, hlive, hen, hmay⟩
    obtain h | h | h | h | ⟨hlow, hfree⟩ := hnot
    · exact h hwhole
    · exact h htai
    · simp [h] at hlive
    · simp [h] at hen
    · obtain hmay | hmay := hmay
      · omega
      · simp [hfree] at hmay

end Sys2Proof.Machine

namespace Sys2Proof.Machine

/-! ### What the work of a tick leaves alone (R190, R195)

From the applied step to the counts of milliseconds, a tick's work leaves the time itself, the step requests and the step that the engines
are yet to follow as they are, and BUSY of the aligner and BOOT_ELAPSED beside them. -/

/-- BUSY of the aligner, and BOOT_ELAPSED. -/
def TickView (g : Fld) : Prop := g = Reg.ALN_CTL.BUSY ∨ g = Reg.BOOT_ELAPSED.ELAPSED

/-- A field at another place than both. -/
abbrev TickApart (f : Fld) : Prop := f.key ≠ Reg.ALN_CTL.BUSY.key ∧ f.key ≠ Reg.BOOT_ELAPSED.ELAPSED.key

theorem TickApart.ne {f : Fld} (h : TickApart f) : ∀ g, TickView g → f.key ≠ g.key ∨ f.dom ≠ g.dom := by
  rintro g (rfl | rfl)
  · exact .inl h.1
  · exact .inl h.2

/-- Registers of references stand 16 bytes apart, and none of their fields begins at the bit of the aligner's BUSY. -/
theorem tickApart_ref {f : Fld} (hd : f.dims = [(8, 0x10)]) (hbase : 8 * 0x104100 ≤ f.key) (hbit : f.key % 128 ≠ 1) (k : Nat) :
    TickApart (f.ix k) := by
  have hkey := Fld.key_ix hd k
  have hbusy : Reg.ALN_CTL.BUSY.key = 8 * 0x160000 + 1 := by decide
  have helapsed : Reg.BOOT_ELAPSED.ELAPSED.key = 8 * 0x20030 := by decide
  constructor <;> omega

/-- A part of a tick's work. -/
structure TickStep (s t : State) : Prop where
  spares : Spares TickView s t
  tai : t.time.tai = s.time.tai
  hostStep : t.time.hostStep = s.time.hostStep
  stepped : t.time.stepped = s.time.stepped

section
variable {s u t : State}

theorem TickStep.refl (s : State) : TickStep s s := ⟨Spares.refl _ s, rfl, rfl, rfl⟩

theorem TickStep.trans (h : TickStep s u) (k : TickStep u t) : TickStep s t :=
  ⟨h.spares.trans k.spares, k.tai.trans h.tai, k.hostStep.trans h.hostStep, k.stepped.trans h.stepped⟩

/-- Registers apart, with the time base as it was. -/
theorem TickStep.of_time_eq (h : TickStep s u) (hs : Spares TickView u t) (ht : t.time = u.time) : TickStep s t :=
  h.trans ⟨hs, by rw [ht], by rw [ht], by rw [ht]⟩

theorem TickStep.set {f : Fld} {v : Nat} (hf : TickApart f) (h : TickStep s u) : TickStep s (u.set f v) :=
  h.of_time_eq (Spares.set hf.ne (Spares.refl _ u)) (State.set_time ..)

theorem TickStep.setFlag {f : Fld} {b : Bool} (hf : TickApart f) (h : TickStep s u) : TickStep s (u.setFlag f b) := h.set hf

theorem TickStep.setInt {f : Fld} {i : Int} (hf : TickApart f) (h : TickStep s u) : TickStep s (u.setInt f i) := h.set hf

theorem TickStep.putBit {f : Fld} {k : Nat} {b : Bool} (hf : TickApart f) (h : TickStep s u) : TickStep s (u.putBit f k b) := h.set hf

theorem TickStep.count {f : Fld} {n : Nat} (hf : TickApart f) (h : TickStep s u) : TickStep s (u.count f n) := h.set hf

/-- A move of neither the register files nor the time base. -/
theorem TickStep.moves {m : List Part} (k : Moves m u t) (hm : m.contains .files = false ∧ m.contains .time = false) (h : TickStep s u) :
    TickStep s t :=
  h.of_time_eq (Spares.moves k hm.1 (Spares.refl _ u)) (k.touches.2 .time hm.2)

/-- The time base replaced but for what a tick's work leaves alone. -/
theorem TickStep.withTime {x : TimeB} (htai : x.tai = u.time.tai) (hhost : x.hostStep = u.time.hostStep)
    (hstepped : x.stepped = u.time.stepped) (h : TickStep s u) : TickStep s { u with time := x } :=
  h.trans ⟨(Spares.refl _ u).parts rfl rfl rfl, htai, hhost, hstepped⟩

theorem TickStep.ite {c : Prop} [Decidable c] (h : TickStep s u) (k : TickStep s t) : TickStep s (if c then u else t) := by
  split <;> assumption

theorem TickStep.foldl {α : Type} {f : State → α → State} {l : List α} (hf : ∀ v a, TickStep v (f v a)) (h : TickStep s u) :
    TickStep s (l.foldl f u) := by
  induction l generalizing u with
  | nil => exact h
  | cons a l ih => exact ih (h.trans (hf u a))

theorem TickStep.irq {f m : Fld} {vec : Nat} (hf : TickApart f) (h : TickStep s u) : TickStep s (u.irq f m vec) :=
  h.of_time_eq (Spares.irq hf.ne (Spares.refl _ u)) ((moves_irq ..).touches.2 .time rfl)

theorem TickStep.log {code source : Nat} {data : Bytes} (hf : ∀ f ∈ logFields code, TickApart f) (h : TickStep s u) :
    TickStep s (u.log code source data) :=
  h.of_time_eq (Spares.log (fun g hg f hm => ((hf f hm).ne g hg).imp Ne.symm Ne.symm) (Spares.refl _ u))
    ((moves_log ..).touches.2 .time rfl)

theorem TickStep.health {k : Nat} {b : Bool} (h : TickStep s u) : TickStep s (u.health k b) :=
  (h.putBit (f := Reg.BOOT_HEALTH.COND) (by decide)).trans ⟨(Spares.refl _ _).parts rfl rfl rfl, rfl, rfl, rfl⟩

end

theorem TickStep.setTsu {s u : State} (h : TickStep s u) (st : Nat) : TickStep s (u.setTsu st) := (h.set (by decide)).setFlag (by decide)

/-- The time-stamp unit's events are logged apart. -/
theorem tickApart_event {e : Nat} (he : e < 8) : ∀ f ∈ logFields (evCode 10 e), TickApart f := by
  revert e
  decide

/-! ### The time-stamp unit at a tick -/

section
variable (s : State)

theorem tickStep_setRefHist (k : Nat) (h : RefHist) : TickStep s (s.setRefHist k h) := (TickStep.refl s).withTime rfl rfl rfl

theorem tickStep_refTick (k : Nat) : TickStep s (s.refTick k) := by
  unfold State.refTick
  extract_lets h rr now age win s1 ok was s2
  have h1 : TickStep s s1 :=
    ((TickStep.refl s).set (tickApart_ref rfl (by decide) (by decide) _)).set (tickApart_ref rfl (by decide) (by decide) _)
  have h2 : TickStep s s2 :=
    (h1.setFlag (tickApart_ref rfl (by decide) (by decide) _)).putBit (by decide)
  refine .ite ?lost (.ite (h2.trans (tickStep_setRefHist ..)) (.ite (h2.trans (tickStep_setRefHist ..)) h2))
  case lost => exact (h2.trans (tickStep_setRefHist ..)).count (tickApart_ref rfl (by decide) (by decide) _)

theorem tickStep_holdCount : TickStep s s.holdCount :=
  .ite ((TickStep.refl s).count (by decide)) (.refl s)

theorem tickStep_reselect (k : Nat) : TickStep s (s.reselect k) := by
  unfold State.reselect
  refine .ite (.refl s) ?_
  extract_lets e logged _ s1 c _ _ held o _ s2
  have hlogged : TickStep s logged := (((TickStep.refl s).set (by decide)).irq (by decide)).log (tickApart_event (by decide))
  have h1 : TickStep s s1 := hlogged.withTime rfl rfl rfl
  have hheld : TickStep s held := (h1.setTsu 4).withTime rfl rfl rfl
  have h2 : TickStep s s2 := (h1.setInt (by decide)).withTime rfl rfl rfl
  refine .ite (.ite ?holdIn h1) (.ite ?holdOut (.ite h2 (h2.setTsu 2)))
  case holdIn =>
    exact ((((hheld.set (by decide)).setFlag (by decide)).set (by decide)).irq (by decide)).log (tickApart_event (by decide))
  case holdOut => exact (((h2.setTsu 2).setFlag (by decide)).irq (by decide)).log (tickApart_event (by decide))

theorem tickStep_holdTick : TickStep s s.holdTick := by
  unfold State.holdTick
  refine .ite (.refl s) ?_
  extract_lets q _ s1 e _
  have h1 : TickStep s s1 := TickStep.setFlag (by decide) ((TickStep.refl s).withTime rfl rfl rfl)
  exact .ite (.set (by decide) (h1.withTime rfl rfl rfl)) h1

theorem tickStep_leapTick : TickStep s s.leapTick := (TickStep.refl s).setFlag (by decide)

theorem tickStep_timeQuality : TickStep s s.timeQuality := by
  unfold State.timeQuality
  extract_lets e s1 s2
  have h1 : TickStep s s1 := ((((TickStep.refl s).setFlag (by decide)).set (by decide)).set (by decide)).set (by decide)
  have h2 : TickStep s s2 := (h1.set (by decide)).setFlag (by decide)
  exact h2.health

/-- After its steps, what is left of the unit's tick is such a part, and the tick is noted. -/
theorem tickStep_timeTick (t : Tai) : TickStep (s.moveTo t).applySteps (s.timeTick t) ∧
    (s.timeTick t).time.lastTick = some (s.timeTick t).time.tai := by
  unfold State.timeTick
  extract_lets a b c d e x
  have hb : TickStep a b := .foldl tickStep_refTick (.refl a)
  have hd : TickStep a d := ((hb.trans (tickStep_holdCount b)).trans (tickStep_reselect c _)).trans (tickStep_holdTick _)
  obtain ⟨hx, hlast⟩ : x = e.time ∧ TickStep d e := ⟨rfl, (tickStep_leapTick d).trans (tickStep_timeQuality _)⟩
  clear_value x e
  subst hx
  exact ⟨(hd.trans hlast).withTime rfl rfl rfl, congrArg some hlast.tai.symm⟩

end

/-! ### The step applied (R190) -/

section
variable {s : State}

theorem applySteps_none (hservo : s.time.servoStep = none) (hhost : s.time.hostStep = none) : s.applySteps = s := by
  simp only [State.applySteps, hservo, hhost]

/-- The time base as the host's step leaves it. -/
def State.hostStepped (s : State) (d : Int) : State :=
  let s0 := s.endSlew
  { s0 with time := { s0.time with
    tai := addTai s.time.tai d, ctr := ((s.time.ctr : Int) + d * ((2 ^ 48 : Nat) : Int)).toNat, lastTick := none
    servoStep := none, hostStep := none, stepped := some d } }

/-- A step of the host alone: the time takes it, the request is done, and the engines are yet to follow. -/
theorem applySteps_host {d : Int} (hservo : s.time.servoStep = none) (hhost : s.time.hostStep = some d) :
    s.applySteps.time = (s.hostStepped d).time ∧ Spares TickView s s.applySteps := by
  have hsteps : s.applySteps = (((s.hostStepped d).setFlag Reg.TSU_CTL.STEP_GO false).irq Reg.TSU_IRQ.STEP Reg.TSU_IRQ_MASK.MASK 24).log
      (evCode 10 0) 0 (evNum d) := by
    simp only [State.applySteps, hservo, hhost, Option.getD_none, Option.getD_some, zero_add]
    rfl
  have hend : Spares TickView s s.endSlew :=
    Spares.setFlag (TickApart.ne (by decide)) ((Spares.refl _ s).parts rfl rfl rfl)
  have hstepped : Spares TickView s (s.hostStepped d) := hend.parts rfl rfl rfl
  have hshown : TickStep (s.hostStepped d) s.applySteps :=
    hsteps ▸ (((TickStep.refl _).setFlag (by decide)).irq (by decide)).log (tickApart_event (by decide))
  refine ⟨?_, hstepped.trans hshown.spares⟩
  rw [hsteps, (moves_log ..).touches.2 .time rfl, (moves_irq ..).touches.2 .time rfl, (moves_setFlag ..).touches.2 .time rfl]

end

/-! ### What follows a step, and the counts of a tick -/

section
variable {s u : State} {t : Tai}

/-- With the aligner stopped its part of a step is to tell its instants in the new time. -/
theorem alnStep_down (h : s.alnUp = false) (d : Int) : s.alnStep d = s.stepTimes d := by
  have hbusy : (s.stepTimes d).flag (Block.busy .aligner) = false :=
    (flag_eq_of_get_eq (get_moves (moves_stepTimes s d) rfl _)).trans h
  have hruns : (s.stepTimes d).blockRuns .aligner = false := by simp [State.blockRuns, hbusy]
  simp only [State.alnStep, hruns]
  rfl

/-- With the aligner stopped the engines follow a step, and the time base only drops its note of it. -/
theorem stepFollows_down (h : s.alnUp = false) {d : Int} (hstep : s.time.stepped = some d) :
    s.stepFollows.time = { s.time with stepped := none } := by
  let s1 : State := { s with time := { s.time with stepped := none } }
  let s2 := (((s1.fltStep).nrgStep d).capFlag 0).paceStep d
  have hmoves : Moves [.flt, .nrg, .cap, .pace] s1 s2 :=
    .step (moves_paceStep ..) rfl (.step (moves_capFlag ..) rfl (.step (moves_nrgStep ..) rfl (.step (moves_fltStep s1) rfl (.refl _ s1))))
  have hdown : s2.alnUp = false :=
    (flag_eq_of_get_eq ((get_moves hmoves rfl _).trans (State.get_upd ..))).trans h
  have hfollows : s.stepFollows = s2.stepTimes d := by
    rw [← alnStep_down hdown]
    simp only [State.stepFollows, hstep]
    rfl
  rw [hfollows, (moves_stepTimes ..).touches.2 .time rfl, hmoves.touches.2 .time rfl]

/-- What a tick ends with: the time quality noted, the interval's flag, and the registers that count milliseconds. -/
def State.tickCounts (s : State) : State :=
  let s4 := (s.noteTq).nrgInvalid.txnTick
  if s4.boot.inReset then s4 else s4.count Reg.BOOT_ELAPSED.ELAPSED

theorem tickStep_beforeCount (s : State) :
    TickStep s s.noteTq.nrgInvalid.txnTick ∧ Moves [.flt, .nrg, .files] s s.noteTq.nrgInvalid.txnTick := by
  constructor
  · refine (((TickStep.refl s).moves (moves_noteTq s) ⟨rfl, rfl⟩).moves (moves_nrgInvalid _) ⟨rfl, rfl⟩).trans ?_
    exact .ite ((TickStep.refl _).set (by decide)) (.refl _)
  · exact .step (moves_txnTick _) rfl (.step (moves_nrgInvalid _) rfl (.step (moves_noteTq s) rfl (.refl _ s)))

theorem tickCounts_time (s : State) : s.tickCounts.time = s.time := by
  have h := (tickStep_beforeCount s).2.touches.2 .time rfl
  unfold State.tickCounts
  dsimp only
  split
  · exact h
  · rw [State.count, State.set_time]
    exact h

theorem tickCounts_counted (h : s.filesOk = true) (hup : s.boot.inReset = false) : Counted Reg.BOOT_ELAPSED.ELAPSED s s.tickCounts := by
  obtain ⟨hstep, hmoves⟩ := tickStep_beforeCount s
  have hup' : s.noteTq.nrgInvalid.txnTick.boot.inReset = false := by rwa [hmoves.boot_eq rfl]
  simp only [State.tickCounts, hup', Bool.false_eq_true, if_false]
  exact (counted_count (hmoves.files h) _).after (hstep.spares.get_eq _ (.inr rfl))

/-! ### The 1 ms tick (R188, R190, R195) -/

theorem exec_timeBaseTick_none (h : s.tickAt t = false) : exec (.timeBaseTick t) s = .next s := by
  show execTimeBaseTick t s = _
  simp [execTimeBaseTick, h]

theorem tai_of_tickAt (h : s.tickAt t = true) : (s.moveTo t).time.tai = t := by
  simp only [State.tickAt, Bool.and_eq_true, decide_eq_true_eq] at h
  exact moveTo_tai h.1.2

theorem closes_down (h : s.alnUp = false) (before : State) : s.closes before = s := by
  simp [State.closes, h]

/-- A tick with the aligner stopped: the time-stamp unit's part `w`, what follows its step, and the counts. -/
theorem exec_timeBaseTick_down (htick : s.tickAt t = true) (hu : u = s.moveTo t) (hdown : u.alnUp = false) {w : State}
    (hw : w = u.timeTick t) (hwdown : w.alnUp = false) :
    exec (.timeBaseTick t) s = .next (if w.time.stepped.isSome then w.stepFollows else w).tickCounts := by
  subst hu
  have hcloses : (s.moveTo t).closes s = s.moveTo t := closes_down hdown s
  show execTimeBaseTick t s = _
  simp only [execTimeBaseTick, htick, Bool.not_true, Bool.false_eq_true, if_false, hcloses, ← hw, closes_down hwdown]
  rfl

theorem goes_tick_hostStep {d : Int} (htick : s.tickAt t = true) (hu : u = s.moveTo t) (hdown : u.alnUp = false)
    (hservo : u.time.servoStep = none) (hhost : u.time.hostStep = some d) : Goes (.timeBaseTick t) s fun v =>
      v.time.tai = addTai u.time.tai d ∧ v.time.hostStep = none ∧ v.time.stepped = none ∧ v.time.lastTick = some v.time.tai := by
  have hmoved : u.moveTo t = u := moveTo_passed (by rw [hu, tai_of_tickAt htick])
  obtain ⟨htime, hspares⟩ := applySteps_host hservo hhost
  obtain ⟨hrest, hlast⟩ := tickStep_timeTick u t
  rw [hmoved] at hrest
  generalize hw : u.timeTick t = w at hrest hlast
  have hwdown : w.alnUp = false := ((hspares.trans hrest.spares).flag (.inl rfl)).trans hdown
  have hstepped : w.time.stepped = some d := hrest.stepped.trans (congrArg TimeB.stepped htime)
  have hexec := exec_timeBaseTick_down htick hu hdown hw.symm hwdown
  rw [hstepped, Option.isSome_some, if_pos rfl] at hexec
  refine ⟨_, hexec, ?_⟩
  dsimp only
  rw [tickCounts_time, stepFollows_down hwdown hstepped]
  exact ⟨hrest.tai.trans (congrArg TimeB.tai htime), hrest.hostStep.trans (congrArg TimeB.hostStep htime), rfl, hlast⟩

theorem goes_tick_noStep (hfiles : u.filesOk = true) (htick : s.tickAt t = true) (hu : u = s.moveTo t) (hdown : u.alnUp = false)
    (hservo : u.time.servoStep = none) (hhost : u.time.hostStep = none) (hstepped : u.time.stepped = none) :
    Goes (.timeBaseTick t) s fun v => v.time.tai = u.time.tai ∧ v.time.lastTick = some t ∧
      (u.boot.inReset = false → Counted Reg.BOOT_ELAPSED.ELAPSED u v) := by
  have htai : u.time.tai = t := hu ▸ tai_of_tickAt htick
  obtain ⟨hrest, hlast⟩ := tickStep_timeTick u t
  rw [moveTo_passed htai.ge, applySteps_none hservo hhost] at hrest
  have hwdown : (u.timeTick t).alnUp = false := (hrest.spares.flag (.inl rfl)).trans hdown
  have hexec := exec_timeBaseTick_down htick hu hdown rfl hwdown
  rw [hrest.stepped, hstepped, Option.isSome_none, if_neg Bool.false_ne_true] at hexec
  refine ⟨_, hexec, ?_, ?_, fun hup => ?_⟩
  · rw [tickCounts_time, hrest.tai]
  · rw [tickCounts_time, hlast, hrest.tai, htai]
  · have hmoves := moves_timeTick u t
    exact (tickCounts_counted (hmoves.files hfiles) (by rwa [hmoves.boot_eq rfl])).after (hrest.spares.get_eq _ (.inr rfl))

end

/-! ### STEP_GO, slews and TSU_TIME_LATCH (R190, R191, R200) -/

section
variable {s : State}

theorem goes_stepGo {who : Requester} (h : Ready s who) : Goes (.stepGo who) s fun v =>
    v.time.hostStep = some (s.getInt Reg.TSU_STEP.STEP) ∧ v.flag Reg.TSU_CTL.STEP_GO = true ∧
    Keeps [Reg.TSU_CTL.STEP_GO] [.time] s v := by
  let w : State := { s with time := { s.time with hostStep := some (s.getInt Reg.TSU_STEP.STEP) } }
  refine ⟨w.setFlag Reg.TSU_CTL.STEP_GO true, ?_, ?_, flag_setFlag (by exact h.1) rfl, ?_⟩
  · exact congrArg Host.Outcome.next (h.guarded ..)
  · rw [State.setFlag, State.set_time]
  · exact (Keeps.upd rfl rfl rfl rfl (Keeps.refl _ _ s) (h15 := .inl rfl)).setFlag (by simp)

/-- The cycles that a slew still takes, none where none runs. -/
theorem passSlew_cycles (s : State) :
    s.passSlew.time.cycles = s.time.cycles + ceilDiv s.time.slew.natAbs (81920 * s.slewRate) := by
  unfold State.passSlew
  split
  · next h =>
    have hnone (b : Nat) : ceilDiv 0 b = 0 := by
      unfold ceilDiv
      cases b with
      | zero => rfl
      | succ b => exact Nat.div_eq_of_lt (by omega)
    rw [h, Int.natAbs_zero, hnone, Nat.add_zero]
  · rfl

theorem goes_slewComplete (h : s.filesOk = true) (hruns : s.time.slew = 0 ∨ 0 < s.slewRate) : Goes .slewComplete s fun v =>
    v.time.slew = 0 ∧ v.flag Reg.TSU_STATUS.SLEW = false ∧
    v.time.cycles = s.time.cycles + ceilDiv s.time.slew.natAbs (81920 * s.slewRate) ∧ Keeps [Reg.TSU_STATUS.SLEW] [.time] s v := by
  have hmoves := moves_passSlew s
  refine ⟨s.passSlew.endSlew, ?_, ?_, flag_setFlag (by exact hmoves.files h) rfl, ?_, ?_⟩
  · refine congrArg Host.Outcome.next (if_neg ?_)
    rintro ⟨hslew, hrate⟩
    obtain hzero | hpos := hruns
    · exact hslew hzero
    · omega
  · rw [State.endSlew, State.setFlag, State.set_time]
  · rw [State.endSlew, State.setFlag, State.set_time, ← passSlew_cycles]
  · exact (Keeps.upd rfl rfl rfl rfl ((Keeps.refl _ _ s).moves hmoves rfl) (h15 := .inl rfl)).setFlag (by simp)

theorem exec_slewComplete_stopped (hslew : s.time.slew ≠ 0) (hrate : s.slewRate = 0) : exec .slewComplete s = .next s :=
  congrArg Host.Outcome.next (if_pos ⟨hslew, hrate⟩)

theorem goes_tsuTimeLatch {u : State} {t : Tai} (h : u.filesOk = true) (hu : u = s.moveTo t) (who : Requester) :
    Goes (.tsuTimeLatch who t) s fun v =>
      (∀ k, k < 4 → v.get ((Reg.TSU_TIME.TIME.ix k).of who) = taiWord (u.time.ctr / 2 ^ 48) k % 2 ^ 32) ∧
      Keeps (windowFields Reg.TSU_TIME.TIME who 4) [.time] s v := by
  subst hu
  refine ⟨_, rfl, fun k hk => ?_, ?_⟩
  · refine get_foldl_set (place := fun k => (Reg.TSU_TIME.TIME.ix k).of who) (val := fun v k => taiWord (v.time.ctr / 2 ^ 48) k) h hk
      (fun v f x j => by rw [State.set_time]) fun j hj => ?_
    simp only [Fld.key, Fld.of, Fld.inBank, Fld.ix, Reg.TSU_TIME.TIME, if_true]
    omega
  · refine Keeps.of_moveTo (u := s.moveTo t) rfl rfl (Keeps.foldl (fun v k hk => Keeps.set ?_ (Keeps.refl _ _ v)) (Keeps.refl _ _ _))
    exact List.mem_map_of_mem hk

end

/-- Settles O39: the tick by its parts, the other clauses by the laws of their commands. -/
theorem ticksApplySteps : Obligations.TicksApplySteps := by
  unfold Obligations.TicksApplySteps
  intro s u t h hu
  have hfiles : u.filesOk = true := hu ▸ (moves_moveTo s t).files h
  exact ⟨exec_timeBaseTick_none,
    fun htick hdown hservo => ⟨fun d hhost => goes_tick_hostStep htick hu hdown hservo hhost,
      fun hhost hstepped => goes_tick_noStep hfiles htick hu hdown hservo hhost hstepped⟩,
    fun who hready => goes_stepGo hready, goes_slewComplete h, exec_slewComplete_stopped,
    fun who => goes_tsuTimeLatch hfiles hu who⟩

end Sys2Proof.Machine

namespace Sys2Proof.Machine

/-! ### The start of a template command (R241) -/

/-- A template command in progress, to end with result `r`. -/
def State.tplRunning (s : State) (r : Nat) : State :=
  { s with ing := { s.ing with tplJob := some r } }.setFlag Reg.ING_TPL_STATUS.BUSY true

section
variable {s u : State}

theorem tplCommand_idle (hidle : s.flag Reg.ING_TPL_STATUS.BUSY = false) (f : State → State × Nat) :
    s.tplCommand f = (f s).1.tplRunning (f s).2 := by
  simp [State.tplCommand, hidle, State.tplRunning]

@[simp] theorem tplRunning_ing (s : State) (r : Nat) : (s.tplRunning r).ing = { s.ing with tplJob := some r } :=
  State.set_ing ..

theorem tplRunning_busy (h : s.filesOk = true) (r : Nat) : (s.tplRunning r).flag Reg.ING_TPL_STATUS.BUSY = true :=
  flag_setFlag (by exact h) rfl

theorem keeps_tplRunning {fs : List Fld} {ps : List Part} (hf : Reg.ING_TPL_STATUS.BUSY ∈ fs) (hp : ps.contains .ing = true) (r : Nat)
    (h : Keeps fs ps s u) : Keeps fs ps s (u.tplRunning r) :=
  (Keeps.upd rfl rfl rfl rfl h (h24 := .inl hp)).setFlag hf

theorem alnUp_tplRunning (s : State) (r : Nat) : (s.tplRunning r).alnUp = s.alnUp :=
  flag_setFlag_ne (.inl (by decide))

/-! ### Staged images (R238) -/

/-- The staged images replaced, and their number shown. -/
def State.withStaged (s : State) (l : List StagedItem) : State :=
  { s with ing := { s.ing with staged := l } }.showStaged

@[simp] theorem withStaged_ing (s : State) (l : List StagedItem) : (s.withStaged l).ing = { s.ing with staged := l } :=
  State.set_ing ..

/-- An image takes the place of an earlier one for its record, so below 32 staged images there is room. -/
theorem stageItem_fits (h : s.ing.staged.length < 32) (x : StagedItem) :
    s.stageItem x = (s.withStaged ((s.ing.staged.filter fun y => y.stream != x.stream || y.isRec != x.isRec) ++ [x]), 1) :=
  if_neg (Nat.not_le.mpr (lt_of_le_of_lt (List.length_filter_le ..) h))

/-- A command that only replaces the staged images. -/
theorem restaged_holds (h : s.filesOk = true) (l : List StagedItem) (r : Nat) :
    ((s.withStaged l).tplRunning r).flag Reg.ING_TPL_STATUS.BUSY = true ∧ ((s.withStaged l).tplRunning r).ing.tplJob = some r ∧
      ((s.withStaged l).tplRunning r).ing.staged = l ∧
      Keeps [Reg.ING_TPL_STATUS.STAGED, Reg.ING_TPL_STATUS.BUSY] [.ing] s ((s.withStaged l).tplRunning r) := by
  refine ⟨tplRunning_busy (State.filesOk_set (by exact h)) r, by simp, by simp, keeps_tplRunning (by simp) rfl r ?_⟩
  exact (Keeps.upd rfl rfl rfl rfl (Keeps.refl _ _ s) (h24 := .inl rfl)).set (by simp)

/-- STAGE_TPL and STAGE_REC: the command `c` stages the image `x`. -/
theorem goes_stage {who : Requester} {c : Instr} {x : StagedItem} (h : Ready s who) (hidle : s.flag Reg.ING_TPL_STATUS.BUSY = false)
    (hroom : s.ing.staged.length < 32) {f : State → State} (hf : f s = s.tplCommand (State.stageItem x))
    (hexec : exec c s = .next (s.guarded who Reg.ING_TPL_CMD.OP.base f)) : Goes c s fun t =>
      t.flag Reg.ING_TPL_STATUS.BUSY = true ∧ t.ing.tplJob = some 1 ∧ x ∈ t.ing.staged ∧
      Keeps [Reg.ING_TPL_STATUS.STAGED, Reg.ING_TPL_STATUS.BUSY] [.ing] s t := by
  refine goes_guarded h hexec ?_
  rw [hf, tplCommand_idle hidle, stageItem_fits hroom]
  obtain ⟨hbusy, hjob, hstaged, hkeeps⟩ := restaged_holds h.1 _ 1
  exact ⟨hbusy, hjob, hstaged ▸ List.mem_append_right _ List.mem_cons_self, hkeeps⟩

theorem tplDiscard_idle (hidle : s.flag Reg.ING_TPL_STATUS.BUSY = false) : s.tplDiscard =
    (s.withStaged (s.ing.staged.filter fun x => !(s.groupOf (s.firstOf s.tplSel)).contains x.stream)).tplRunning 11 :=
  tplCommand_idle hidle _

theorem goes_tplDiscard {who : Requester} (h : Ready s who) (hidle : s.flag Reg.ING_TPL_STATUS.BUSY = false) :
    Goes (.tplDiscard who) s fun t => t.flag Reg.ING_TPL_STATUS.BUSY = true ∧ t.ing.tplJob = some 11 ∧
      (∀ x ∈ t.ing.staged, x.stream ∉ s.groupOf (s.firstOf s.tplSel)) ∧
      Keeps [Reg.ING_TPL_STATUS.STAGED, Reg.ING_TPL_STATUS.BUSY] [.ing] s t := by
  refine goes_guarded h rfl ?_
  rw [tplDiscard_idle hidle]
  obtain ⟨hbusy, hjob, hstaged, hkeeps⟩ := restaged_holds h.1 _ 11
  refine ⟨hbusy, hjob, fun x hx => ?_, hkeeps⟩
  rw [hstaged, List.mem_filter] at hx
  simpa using hx.2

/-! ### Suspension and resumption (R237, R238)

ALN_CTL.BUSY does not stand at a word's lowest bit, so no word of ING_SUSP has its place, whatever the stream: with the aligner stopped, it
is stopped still when the closes are looked at. -/

theorem susp_apart_aligner (i : Nat) : (Reg.ING_SUSP.SUSP.ix i).key ≠ (Block.busy .aligner).key := by
  rw [Fld.key_ix (f := Reg.ING_SUSP.SUSP) rfl]
  simp only [Fld.key, Reg.ING_SUSP.SUSP, Block.busy, Reg.ALN_CTL.BUSY]
  omega

/-- Streams suspended or resumed one after the other. -/
theorem spares_putSusp (is : List Nat) (b : Bool) (h : Spares (· = Block.busy .aligner) s u) :
    Spares (· = Block.busy .aligner) s (is.foldl (fun s i => s.putStreamBit Reg.ING_SUSP.SUSP i b) u) := by
  refine Spares.foldl (fun v i _ => ?_) h
  rw [State.putStreamBit, State.putBit]
  refine (Spares.refl _ v).set ?_
  rintro _ rfl
  exact .inl (susp_apart_aligner _)

theorem spares_suspend (s : State) (f : Nat) : Spares (· = Block.busy .aligner) s (s.suspend .active f) := by
  refine Spares.ite (Spares.refl _ s) (Spares.log ?_ (Spares.irq ?_ (spares_putSusp _ true ?_)))
  · rintro _ rfl
    decide
  · rintro _ rfl
    decide
  · exact (Spares.refl _ s).parts rfl rfl rfl

theorem goes_suspend {who : Requester} (h : Ready s who) (hidle : s.flag Reg.ING_TPL_STATUS.BUSY = false) (hdown : s.alnUp = false) :
    Goes (.suspend who) s fun t => t.flag Reg.ING_TPL_STATUS.BUSY = true ∧ t.ing.tplJob = some 10 := by
  have hcmd : s.suspendCmd = (s.suspend .active (s.firstOf s.tplSel)).tplRunning 10 := tplCommand_idle hidle _
  have hdown' : s.suspendCmd.alnUp = false := by
    rw [hcmd, alnUp_tplRunning]
    exact ((spares_suspend s _).flag rfl).trans hdown
  refine ⟨s.suspendCmd, ?_, ?_⟩
  · show execSuspend who s = _
    rw [execSuspend, h.guarded, closes_down hdown']
  · rw [hcmd]
    exact ⟨tplRunning_busy ((moves_suspend ..).files h.1) 10, by simp⟩

/-- A RESUME that nothing refuses notes the group's resume slice. -/
theorem resume_accepted (hidle : s.flag Reg.ING_TPL_STATUS.BUSY = false)
    (hmay : s.resumeFails s.tplSel (sliceOf s.fs s.time.tai + 2) = 0) : ∃ u, s.resume = u.tplRunning 2 ∧
      alookup s.tplSel u.ing.resume = some (sliceOf s.fs s.time.tai + 2) ∧ Spares (· = Block.busy .aligner) s u := by
  rw [State.resume, tplCommand_idle hidle]
  simp only [hmay]
  refine ⟨_, rfl, ?_, Spares.set ?_ (Spares.set ?_ (spares_putSusp _ true (Spares.parts (Spares.ite ?_ (Spares.refl _ s)) rfl rfl rfl)))⟩
  · rw [State.set_ing, State.showStaged, State.set_ing,
      (Moves.foldl (fun v i => moves_putStreamBit v Reg.ING_SUSP.SUSP i true) (Moves.refl [.files] _)).touches.2 .ing rfl]
    exact alookup_aset_self ..
  · rintro _ rfl
    decide
  · rintro _ rfl
    decide
  · exact (Spares.refl _ s).moves (moves_tookFree s) rfl

theorem goes_resume {who : Requester} (h : Ready s who) (hidle : s.flag Reg.ING_TPL_STATUS.BUSY = false) (hdown : s.alnUp = false)
    (hmay : s.resumeFails s.tplSel (sliceOf s.fs s.time.tai + 2) = 0) : Goes (.resume who) s fun t =>
      t.ing.tplJob = some 2 ∧ alookup s.tplSel t.ing.resume = some (sliceOf s.fs s.time.tai + 2) := by
  obtain ⟨u, hcmd, hslice, hspares⟩ := resume_accepted hidle hmay
  have hdown' : (u.tplRunning 2).alnUp = false := (alnUp_tplRunning u 2).trans ((hspares.flag rfl).trans hdown)
  refine ⟨u.tplRunning 2, ?_, by simp, by simpa using hslice⟩
  show execResume who s = _
  rw [execResume, h.guarded, hcmd, closes_down hdown']

/-! ### The end of a template command (R241) -/

theorem goes_templateCommandDone (h : s.filesOk = true) {r : Nat} (hjob : s.ing.tplJob = some r) : Goes .templateCommandDone s fun t =>
    t.ing.tplJob = none ∧ t.flag Reg.ING_TPL_STATUS.BUSY = false ∧
    t.get Reg.ING_TPL_STATUS.RESULT = r % 2 ^ Reg.ING_TPL_STATUS.RESULT.width := by
  let w : State := { s with ing := { s.ing with tplJob := none } }.setFlag Reg.ING_TPL_STATUS.BUSY false
  have hw : w.filesOk = true := filesOk_setFlag (by exact h)
  have hspares : Spares (fun g => g = Reg.ING_TPL_STATUS.BUSY ∨ g = Reg.ING_TPL_STATUS.RESULT) (w.set Reg.ING_TPL_STATUS.RESULT r)
      ((w.set Reg.ING_TPL_STATUS.RESULT r).ingIrq Reg.ING_IRQ.TPL_DONE) :=
    Spares.irq (by rintro _ (rfl | rfl) <;> decide) (Spares.refl _ _)
  refine ⟨(w.set Reg.ING_TPL_STATUS.RESULT r).ingIrq Reg.ING_IRQ.TPL_DONE, ?_, ?_, ?_, ?_⟩
  · show execTemplateCommandDone s = _
    simp only [execTemplateCommandDone, hjob]
    rfl
  · rw [(moves_ingIrq ..).touches.2 .ing rfl, State.set_ing]
    exact congrArg Ingest.tplJob (State.set_ing ..)
  · rw [hspares.flag (.inl rfl), flag_eq_of_get_eq (State.get_set_ne (.inl (by decide)))]
    exact flag_setFlag (by exact h) rfl
  · rw [hspares.get_eq _ (.inr rfl), State.get_set hw]

end

/-- Settles O45: each command by its own law, over the common start of a template command. -/
theorem templateCommands : Obligations.TemplateCommands := by
  unfold Obligations.TemplateCommands
  intro s who h hidle
  exact ⟨fun hroom => goes_stage h hidle hroom rfl rfl, fun hroom => goes_stage h hidle hroom rfl rfl, goes_tplDiscard h hidle,
    fun hdown => ⟨goes_suspend h hidle hdown, goes_resume h hidle hdown⟩, fun _ hjob => goes_templateCommandDone h.1 hjob⟩

end Sys2Proof.Machine

namespace Sys2Proof.Machine

section
variable {s : State} {who : Requester}

/-! ### Stream keys (R235) -/

/-- The keys of a stream of the active roast read back as they were replaced. -/
@[simp] theorem spduKeys_setSpduKeys_active (s : State) (i : Nat) (x : SpduKeys) : (s.setSpduKeys .active i x).spduKeys .active i = x := by
  simp [State.spduKeys, State.setSpduKeys, State.keyIndex]

/-- ING_KEY_DATA cleared. -/
def State.keyDataCleared (s : State) : State := (List.range 8).foldl (fun s k => s.set (Reg.ING_KEY_DATA.KEY.ix k) 0) s

theorem keyDataCleared_get (h : s.filesOk = true) {k : Nat} (hk : k < 8) : s.keyDataCleared.get (Reg.ING_KEY_DATA.KEY.ix k) = 0 :=
  (get_foldl_set (place := Reg.ING_KEY_DATA.KEY.ix) (val := fun _ _ => 0) h hk (fun _ _ _ _ => rfl)
    fun _ hj => Fld.ix_inj rfl (by decide) hj).trans (Nat.zero_mod _)

theorem keeps_keyDataCleared (s : State) (ps : List Part) :
    Keeps ((List.range 8).map fun k => Reg.ING_KEY_DATA.KEY.ix k) ps s s.keyDataCleared :=
  Keeps.foldl (fun v _ hk => (Keeps.refl _ _ v).set (List.mem_map_of_mem hk)) (Keeps.refl _ _ s)

theorem goes_ingKeyLoadNext (h : Ready s who) (hkind : recKind (s.recOf (s.get Reg.ING_KEY_SEL.STREAM)) = 3) :
    Goes (.ingKeyLoadNext who) s fun t => (∀ k, k < 8 → t.get (Reg.ING_KEY_DATA.KEY.ix k) = 0) ∧
      (t.spduKeys .active (s.get Reg.ING_KEY_SEL.STREAM)).next = some (s.get Reg.ING_KEY_ID.ID, s.bufBytes Reg.ING_KEY_DATA.KEY 8) ∧
      Keeps ((List.range 8).map fun k => Reg.ING_KEY_DATA.KEY.ix k) [.ing] s t := by
  refine goes_guarded h rfl ?_
  rw [State.ingKeyLoad, if_pos hkind]
  have hmoves := moves_setSpduKeys s.keyDataCleared .active (s.get Reg.ING_KEY_SEL.STREAM)
  refine ⟨fun k hk => ?_, by rw [spduKeys_setSpduKeys_active], (keeps_keyDataCleared s [.ing]).moves (hmoves _) rfl⟩
  exact (get_moves (hmoves _) rfl _).trans (keyDataCleared_get h.1 hk)

theorem goes_ingKeyLoadNext_other (h : Ready s who) (hkind : recKind (s.recOf (s.get Reg.ING_KEY_SEL.STREAM)) ≠ 3) :
    Goes (.ingKeyLoadNext who) s fun t => (∀ k, k < 8 → t.get (Reg.ING_KEY_DATA.KEY.ix k) = 0) ∧
      Keeps ((List.range 8).map fun k => Reg.ING_KEY_DATA.KEY.ix k) [] s t := by
  refine goes_guarded h rfl ?_
  rw [State.ingKeyLoad, if_neg hkind]
  exact ⟨fun _ hk => keyDataCleared_get h.1 hk, keeps_keyDataCleared s []⟩

theorem goes_ingKeyErase (h : Ready s who) (hkind : recKind (s.recOf (s.get Reg.ING_KEY_SEL.STREAM)) = 3) :
    Goes (.ingKeyErase who) s fun t => (t.spduKeys .active (s.get Reg.ING_KEY_SEL.STREAM)).cur = none ∧
      (t.spduKeys .active (s.get Reg.ING_KEY_SEL.STREAM)).next = none ∧ Keeps [] [.ing] s t := by
  refine goes_guarded h rfl ?_
  rw [State.ingKeyErase, if_pos hkind, spduKeys_setSpduKeys_active]
  exact ⟨rfl, rfl, (Keeps.refl _ _ s).moves (moves_setSpduKeys ..) rfl⟩

theorem exec_ingKeyErase_other (h : Ready s who) (hkind : recKind (s.recOf (s.get Reg.ING_KEY_SEL.STREAM)) ≠ 3) :
    exec (.ingKeyErase who) s = .next s := by
  show execIngKeyErase who s = _
  rw [execIngKeyErase, h.guarded, State.ingKeyErase, if_neg hkind]

/-! ### Unclaimed IDs -/

/-- The fields of entry `n` of the list of unclaimed IDs. -/
def unclaimedFields (n : Nat) : List Fld :=
  [Reg.ING_UNCLAIMED_ID.KEY.ix n, Reg.ING_UNCLAIMED_ID.SOURCE.ix n, Reg.ING_UNCLAIMED_ID.KIND.ix n, Reg.ING_UNCLAIMED_ID.ADDR.ix n,
    Reg.ING_UNCLAIMED_ID.VALID.ix n]

/-- Entry `n` of the list goes. -/
def State.dropUnclaimed (s : State) (n : Nat) : State :=
  ((((s.set (Reg.ING_UNCLAIMED_ID.KEY.ix n) 0).set (Reg.ING_UNCLAIMED_ID.SOURCE.ix n) 0).set (Reg.ING_UNCLAIMED_ID.KIND.ix n) 0).set
    (Reg.ING_UNCLAIMED_ID.ADDR.ix n) 0).setFlag (Reg.ING_UNCLAIMED_ID.VALID.ix n) false

theorem unclaimedClr_eq (s : State) : s.unclaimedClr = (List.range 8).foldl State.dropUnclaimed s := rfl

theorem keeps_dropUnclaimed (s : State) (n : Nat) : Keeps (unclaimedFields n) [] s (s.dropUnclaimed n) :=
  (((((Keeps.refl _ _ s).set (by simp [unclaimedFields])).set (by simp [unclaimedFields])).set (by simp [unclaimedFields])).set
    (by simp [unclaimedFields])).setFlag (by simp [unclaimedFields])

theorem filesOk_dropUnclaimed (h : s.filesOk = true) (n : Nat) : (s.dropUnclaimed n).filesOk = true :=
  filesOk_setFlag (State.filesOk_set (State.filesOk_set (State.filesOk_set (State.filesOk_set h))))

theorem dropUnclaimed_valid (h : s.filesOk = true) (n : Nat) : (s.dropUnclaimed n).flag (Reg.ING_UNCLAIMED_ID.VALID.ix n) = false :=
  flag_setFlag (State.filesOk_set (State.filesOk_set (State.filesOk_set (State.filesOk_set h)))) rfl

/-- No field of an entry stands where another entry's VALID does. -/
theorem valid_apart_unclaimed {n m : Nat} (h : m ≠ n) :
    ∀ f ∈ unclaimedFields m, (Reg.ING_UNCLAIMED_ID.VALID.ix n).key ≠ f.key := by
  simp only [unclaimedFields, List.forall_mem_cons, List.not_mem_nil, false_implies, implies_true, and_true, Fld.key, Fld.ix,
    Reg.ING_UNCLAIMED_ID.KEY, Reg.ING_UNCLAIMED_ID.SOURCE, Reg.ING_UNCLAIMED_ID.KIND, Reg.ING_UNCLAIMED_ID.ADDR,
    Reg.ING_UNCLAIMED_ID.VALID]
  omega

theorem unclaimedClr_valid (h : s.filesOk = true) {n : Nat} (hn : n < 8) :
    s.unclaimedClr.flag (Reg.ING_UNCLAIMED_ID.VALID.ix n) = false := by
  rw [unclaimedClr_eq]
  refine foldl_establishes (inv := fun v => v.filesOk = true) (done := fun v => v.flag (Reg.ING_UNCLAIMED_ID.VALID.ix n) = false)
    (List.mem_range.mpr hn) (fun v m hv => filesOk_dropUnclaimed hv m) (fun v hv => dropUnclaimed_valid hv n)
    (fun v m hm _ hdone => ?_) h
  have hget := (keeps_dropUnclaimed v m).get fun f hf => .inl (valid_apart_unclaimed hm f hf)
  exact (flag_eq_of_get_eq hget).trans hdone

theorem keeps_unclaimedClr (s : State) : Keeps ((List.range 8).flatMap unclaimedFields) [] s s.unclaimedClr := by
  rw [unclaimedClr_eq]
  refine Keeps.foldl (fun v n hn => (keeps_dropUnclaimed v n).mono (fun f hf => ?_) fun _ hp => hp) (Keeps.refl _ _ s)
  exact List.mem_flatMap.mpr ⟨n, hn, hf⟩

theorem goes_unclaimedClr (h : MayWrite s who) : Goes (.unclaimedClr who) s fun t =>
    (∀ n, n < 8 → t.flag (Reg.ING_UNCLAIMED_ID.VALID.ix n) = false) ∧ Keeps ((List.range 8).flatMap unclaimedFields) [] s t :=
  goes_open h rfl ⟨fun _ hn => unclaimedClr_valid h.1 hn, keeps_unclaimedClr s⟩

end

/-- Settles O46: the key commands by the kind of the selected stream, and the list entry by entry. -/
theorem ingestKeys : Obligations.IngestKeys := by
  unfold Obligations.IngestKeys
  intro s who h
  exact ⟨goes_ingKeyLoadNext h, goes_ingKeyErase h, fun hkind => ⟨exec_ingKeyErase_other h hkind, goes_ingKeyLoadNext_other h hkind⟩,
    fun w hw => goes_unclaimedClr hw⟩

end Sys2Proof.Machine

namespace Sys2Proof.Machine

/-! ### Lanes and groups of the filter chain -/

section
variable {s t : State} {l g : Nat} {b : Bytes}

/-- What the lane obligations ask of lane `l`: it is a member of the running group that record `b` describes. -/
structure LaneRuns (s : State) (l : Nat) (b : Bytes) : Prop where
  lt : l < 256
  record : s.roast.groupRec (l / 8) = some b
  runs : s.groupRuns (l / 8) = true
  member : l % 8 ∈ gMembers b

theorem Moves.roast_eq {m : List Part} (h : Moves m s t) (hf : m.contains .files = false) (hr : m.contains .roasts = false) :
    t.roast = s.roast := Machine.roast_eq (get_moves h hf _) (h.roasts_eq hr)

/-- Whether a group runs is read off the registers and the roast. -/
theorem groupRuns_moves {m : List Part} (h : Moves m s t) (hf : m.contains .files = false) (hr : m.contains .roasts = false) (g : Nat) :
    t.groupRuns g = s.groupRuns g := by
  simp only [State.groupRuns, State.blockRuns, flag_eq_of_get_eq (get_moves h hf _), h.roast_eq hf hr]

theorem LaneRuns.moves {m : List Part} (h : LaneRuns s l b) (k : Moves m s t) (hf : m.contains .files = false)
    (hr : m.contains .roasts = false) : LaneRuns t l b where
  lt := h.lt
  record := by rw [k.roast_eq hf hr, h.record]
  runs := (groupRuns_moves k hf hr _).trans h.runs
  member := h.member

@[simp] theorem lane_setLane_self (s : State) (l : Nat) (x : FltLane) : (s.setLane l x).lane l = x := by
  simp [State.lane, State.setLane]

theorem lane_eq (h : t.flt.lanes = s.flt.lanes) (l : Nat) : t.lane l = s.lane l := by rw [State.lane, State.lane, h]

theorem Moves.flt_eq {m : List Part} (h : Moves m s t) (hm : m.contains .flt = false) : t.flt = s.flt := h.touches.2 .flt hm

theorem Moves.lane_eq {m : List Part} (h : Moves m s t) (hm : m.contains .flt = false) (l : Nat) : t.lane l = s.lane l :=
  Machine.lane_eq (congrArg Filter.lanes (h.flt_eq hm)) l

/-! ### Sigma-delta bits (R244, R245) -/

/-- A CIC output before the one that the FIR waits for: the bits pass the integrators and one output joins the FIR's inputs. -/
theorem cicOutput_lane (h : (s.lane l).phase + 1 < gD b) (bits : List Bool) (edge : Tai) :
    ((s.cicOutput b l bits edge).lane l).phase = (s.lane l).phase + 1 ∧
    ((s.cicOutput b l bits edge).lane l).integ = bits.foldl (fun st x => cicBit st (if x then 1 else -1)) (s.lane l).integ ∧
    ((s.cicOutput b l bits edge).lane l).cic.length = min 64 ((s.lane l).cic.length + 1) := by
  unfold State.cicOutput
  extract_lets a integ c v ones bad delay at_ cic full s1 s2 s3
  have hfalse : full = false := decide_eq_false (Nat.not_le.mpr h)
  have hmoves : Moves [.files, .out] s1 s3 :=
    have hovr : Moves [.files, .out] s1 s2 := (moves_setFlag ..).step rfl (Moves.refl _ s1)
    Moves.ite ((moves_fltIrq ..).step rfl ((moves_count ..).step rfl hovr)) hovr
  have hlane : s3.lane l = { a with integ := integ, comb := c.1, cic := cic.take 64, phase := a.phase + 1 } := by
    rw [hmoves.lane_eq rfl, lane_setLane_self, hfalse]
    rfl
  rw [hfalse, if_neg Bool.false_ne_true, hlane]
  exact ⟨rfl, rfl, List.length_take⟩

theorem exec_cicOutput (h : LaneRuns s l b) {bits : List Bool} (hkind : gKind b (l % 8) = 1) (hbits : bits.length = gR b) (t : Tai) :
    exec (.cicOutput l bits t) s = .next ((s.moveTo t).cicOutput b l bits t) := by
  show execCicOutput l bits t s = _
  simp [execCicOutput, h.record, h.lt, h.runs, h.member, hkind, hbits]

/-! ### Missing sampled values (R246) -/

theorem svMissed_lane {q : Nat} (h : (s.lane l).svNext = some q) :
    ((s.svMissed b l).lane l).svNext = some (q + 1) ∧ ((s.svMissed b l).lane l).miss = (s.lane l).miss + 1 := by
  unfold State.svMissed
  extract_lets a
  split
  next hnone => exact absurd (h.symm.trans hnone) nofun
  next n rate hole _ q' hq =>
    obtain rfl : q = q' := Option.some.inj (h.symm.trans hq)
    extract_lets holes xs s1
    have hcount : s1.lane l = { a with svNext := some (q + 1), miss := n, x := xs.drop (xs.length - 64) } :=
      ((moves_count ..).lane_eq rfl l).trans (lane_setLane_self ..)
    have hirq : Moves [.files, .out] s1 (if n = 1 then s1.fltIrq Reg.FLT_IRQ.SV_GAP else s1) :=
      Moves.ite (moves_fltIrq ..) (Moves.refl _ s1)
    rw [(moves_setFlag ..).lane_eq rfl, hirq.lane_eq rfl, hcount]
    exact ⟨rfl, rfl⟩

theorem exec_svWaitExpiry {u : State} {t : Tai} {q : Nat} (hu : u = s.moveTo t) (h : LaneRuns u l b) (hkind : gKind b (l % 8) = 2)
    (hnext : (u.lane l).svNext = some q) (hdue : q * secUnit / u.roast.svRate (gSrc b (l % 8)) + gSvWait b * usUnit ≤ t) :
    exec (.svWaitExpiry l t) s = .next (u.svMissed b l) := by
  show execSvWaitExpiry l t s = _
  simp [execSvWaitExpiry, ← hu, h.record, h.lt, h.runs, h.member, hkind, hnext, hdue]

/-! ### The resampler (R249) -/

theorem laneOutput_lane {s1 : State} {o : FltOut} (h : s.laneOutput b l = some (s1, o)) :
    (s1.lane l).k = (s.lane l).k + 1 ∧ (s1.lane l).outs = (o :: (s.lane l).outs).take 8192 := by
  unfold State.laneOutput at h
  extract_lets a act n step next at h
  cases htaps : a.taps with
  | none => simp [htaps] at h
  | some e =>
    rw [htaps] at h
    obtain ⟨rfl, rfl⟩ := Prod.mk.inj (Option.some.inj h)
    rw [lane_setLane_self]
    exact ⟨rfl, rfl⟩

theorem settleShow_lanes (s : State) (g : Nat) (o : FltOut) : (s.settleShow g o).flt.lanes = s.flt.lanes := by
  unfold State.settleShow
  extract_lets now s1
  have hshown : s1.flt.lanes = s.flt.lanes := congrArg Filter.lanes (State.set_flt ..)
  split
  · rw [(moves_fltIrq ..).flt_eq rfl]
    exact hshown
  · exact hshown

theorem cmpEval_lanes (s : State) (b : Bytes) (v : F32) (t : Tai) : (s.cmpEval b v t).flt.lanes = s.flt.lanes := by
  unfold State.cmpEval
  extract_lets u x thr hyst high hit n flip y s1
  split
  · rw [(moves_log ..).flt_eq rfl, (moves_fltIrq ..).flt_eq rfl, State.putBit, State.set_flt, State.putBit, State.set_flt]
  · rfl

theorem cmpUnits_lanes (s : State) (r : Bytes) (l : Nat) (o : FltOut) : (s.cmpUnits r l o).flt.lanes = s.flt.lanes := by
  unfold State.cmpUnits
  refine List.foldlRecOn (motive := fun v : State => v.flt.lanes = s.flt.lanes) _ _ rfl fun v hv r _ => ?_
  extract_lets n win
  split_ifs
  · exact hv
  · exact (cmpEval_lanes ..).trans hv
  · exact hv
  · exact (cmpEval_lanes ..).trans hv

/-- What an output drives touches no lane. -/
theorem resamplerOutput_lane {s1 : State} {o : FltOut} (h : s.laneOutput b l = some (s1, o)) :
    ((s.resamplerOutput b l).lane l).k = (s.lane l).k + 1 ∧
    ((s.resamplerOutput b l).lane l).outs = (o :: (s.lane l).outs).take 8192 := by
  have hdriven : (s.resamplerOutput b l).lane l = s1.lane l := by
    simp only [State.resamplerOutput, h]
    refine lane_eq ?_ l
    rw [cmpUnits_lanes, (moves_decimate ..).flt_eq rfl, (moves_waveStore ..).flt_eq rfl, settleShow_lanes]
  rw [hdriven]
  exact laneOutput_lane h

theorem exec_resamplerOutput (h : LaneRuns s l b) : exec (.resamplerOutput l) s = .next (s.resamplerOutput b l) := by
  show execResamplerOutput l s = _
  simp [execResamplerOutput, h.record, h.lt, h.runs, h.member]

/-! ### A synchronising reset (R256) -/

theorem goes_fltSync {who : Requester} (h : MayWrite s who) (hg : g < 32) (hrec : s.roast.groupRec g = some b)
    (hruns : s.groupRuns g = true) : Goes (.fltSync who g) s fun v => (v.fgroup g).resetAt = s.time.tai := by
  refine goes_open h rfl ?_
  rw [Nat.mod_eq_of_lt hg, if_pos hruns]
  exact (fullReset_groups (by simp [hrec])).1

/-! ### The estimate of a group (R251)

No write of an estimate reaches ALN_CTL.BUSY: with the aligner stopped, it is stopped still when the closes are looked at. -/

theorem noteEstimate_fgroup (s : State) (b : Bytes) (g n : Nat) (e : Estimate) :
    ((s.noteEstimate b g n e).fgroup g).lastN = some n ∧ ((s.noteEstimate b g n e).fgroup g).freq = e.f.1 := by
  unfold State.noteEstimate
  generalize hx : { s.fgroup g with freq := e.f.1, freqFlags := e.f.2, lastN := some n } = x
  have hset : ((s.setFgroup g x).set (Reg.FLT_G.FREQ.ix g) e.f.1.toNat).fgroup g = x :=
    (fgroup_eq (congrArg Filter.groups (State.set_flt ..)) g).trans (fgroup_setFgroup_self ..)
  obtain ⟨v, hv⟩ := track_flt ((s.setFgroup g x).set (Reg.FLT_G.FREQ.ix g) e.f.1.toNat) b g
  rw [fgroup_eq (congrArg Filter.groups hv), fgroup_setFgroup_self, hset, ← hx]
  exact ⟨rfl, rfl⟩

/-- A group's fields stand at other bits of their words than ALN_CTL.BUSY, whatever the group. -/
theorem groupFld_apart_aligner {f : Fld} (hd : f.dims = [(32, 0x20)]) (hk : f.key % 8 ≠ 1) (g : Nat) :
    ∀ y, y = Block.busy .aligner → (f.ix g).key ≠ y.key ∨ (f.ix g).dom ≠ y.dom := by
  rintro _ rfl
  have hbusy : (Block.busy .aligner).key % 8 = 1 := by decide
  rw [Fld.key_ix hd]
  omega

theorem aligner_track (s : State) (b : Bytes) (g : Nat) : Spares (· = Block.busy .aligner) s (s.track b g) := by
  unfold State.track
  extract_lets src nom fall lo hi v _
  exact (((Spares.refl _ s).moves (moves_setFgroup ..) rfl).setFlag (groupFld_apart_aligner rfl (by decide) g)).setFlag
    (groupFld_apart_aligner rfl (by decide) g)

theorem aligner_noteEstimate (s : State) (b : Bytes) (g n : Nat) (e : Estimate) :
    Spares (· = Block.busy .aligner) s (s.noteEstimate b g n e) := by
  refine Spares.trans (Spares.set ?_ ((Spares.refl _ s).moves (moves_setFgroup ..) rfl)) (aligner_track ..)
  exact groupFld_apart_aligner rfl (by decide) g

theorem aligner_enterFrame_down (h : s.alnUp = false) (f : AlnFrame) : Spares (· = Block.busy .aligner) s (s.enterFrame f) := by
  have hcount : s.enterFrame f = s.count Reg.ALN.TOO_OLD := by simp [State.enterFrame, h]
  rw [hcount]
  exact (Spares.refl _ s).count (by rintro _ rfl; decide)

/-- The state with a group's outputs for slice `n` handed to the aligner, where the group's stream `i` takes them. -/
def State.outputsEntered (s : State) (n i : Nat) (e : Estimate) : State :=
  let v := s.view (s.genOf n)
  let tn := sliceTime s.fs n
  if v.streamOn i && !v.streamSusp i then
    s.enterFrame { streams := [i], t := tn, stamp := s.time.tai, writes := estWrites (v.tplOf i) e (s.tqAt tn) }
  else s

theorem outputsEntered_down (h : s.alnUp = false) (n i : Nat) (e : Estimate) : (s.outputsEntered n i e).alnUp = false :=
  ((Spares.ite (aligner_enterFrame_down h _) (Spares.refl _ s)).flag rfl).trans h

/-- With the aligner stopped no slice closes, before the estimate or after it. -/
theorem exec_phasorEstimate {u : State} {n i : Nat} {t : Tai} (hu : u = s.moveTo t) (hg : g < 32) (hdown : u.alnUp = false)
    (hrec : u.roast.groupRec g = some b) (hruns : u.groupRuns g = true) (hstream : (u.view (u.genOf n)).roast.groupStream g = some i)
    (hdiv : n % max 1 (recDiv ((u.view (u.genOf n)).recOf i)) = 0) (hreset : (u.fgroup g).resetAt ≤ sliceTime u.fs n)
    (hlast : (u.fgroup g).lastN = none) (hready : u.estReady b g (sliceTime u.fs n) = true) {e : Estimate}
    (he : e = u.estimate b g (sliceTime u.fs n)) :
    exec (.phasorEstimate g n t) s = .next ((u.outputsEntered n i e).noteEstimate b g n e) := by
  have hafter : ((u.outputsEntered n i e).noteEstimate b g n e).closes u = (u.outputsEntered n i e).noteEstimate b g n e :=
    closes_down (((aligner_noteEstimate ..).flag rfl).trans (outputsEntered_down hdown n i e)) u
  show execPhasorEstimate g n t s = _
  simp only [execPhasorEstimate, State.atInstant, ← hu, closes_down hdown, Nat.mod_eq_of_lt hg, hrec, hstream, hlast, hruns, hdiv,
    hreset, hready, beq_self_eq_true, decide_true, Bool.and_self, if_true, ← he]
  exact congrArg Host.Outcome.next hafter

end

/-- Settles O48: each clause by the law of its command for a lane of a running group. -/
theorem lanesTakeSamples : Obligations.LanesTakeSamples := by
  unfold Obligations.LanesTakeSamples
  intro s u t l b _ hu hl hrec hruns hmem
  have hlane : LaneRuns s l b := ⟨hl, hrec, hruns, hmem⟩
  have hmoves : Moves [.time] s u := hu ▸ moves_moveTo s t
  have hmoved : LaneRuns u l b := hlane.moves hmoves rfl rfl
  have hg : l / 8 < 32 := by omega
  refine ⟨fun bits hkind hbits hphase => ⟨_, exec_cicOutput hlane hkind hbits t, hu ▸ cicOutput_lane hphase bits t⟩,
    fun q hkind hnext hdue => ⟨_, exec_svWaitExpiry hu hmoved hkind hnext ?_, svMissed_lane hnext⟩,
    fun s1 o ho => ⟨_, exec_resamplerOutput hlane, resamplerOutput_lane ho⟩, fun who h => goes_fltSync h hg hrec hruns, ?_⟩
  · rwa [hmoves.roast_eq rfl rfl]
  · rintro _ n i rfl hdown hstream hdiv hreset hlast hready
    exact ⟨_, exec_phasorEstimate hu hg hdown hmoved.record hmoved.runs hstream hdiv hreset hlast hready rfl, noteEstimate_fgroup ..⟩

end Sys2Proof.Machine

namespace Sys2Proof.Machine

/-! ### A resume beyond the words of ING_SUSP

Word 64,770 of an array with ING_SUSP's base and stride stands where ALN_NEXT_CLOSE does, so the end of the suspension of a stream that high
clears a bit of N_next. A roast holds at most 8,192 streams (R137), but the obligation speaks of every state whose register files have their
form. -/

/-- A stream whose suspension bit has the place of bit 9 of ALN_NEXT_CLOSE.SLICE. -/
def strayStream : Nat := 32 * 64770 + 9

/-- 50 slices a second, 11 s into the epoch: slices up to 550 are due to open. A forward step has passed over slices 0 to 512, the aligner runs
with N_next 512, and strayStream resumes with the next slice. -/
def strayResume : State :=
  let s : State := { State.reset with
    roasts := { region0 := some { header := List.replicate 40 0 ++ leBytes 2 50, secs := [] } }
    time := { State.reset.time with tai := 11 * secUnit }
    aln := { State.reset.aln with gap := some (0, 513) }
    ing := { State.reset.ing with resume := [(strayStream, 0)] } }
  ((s.setFlag Reg.ALN_CTL.EN true).setFlag Reg.ALN_CTL.BUSY true).set Reg.ALN_NEXT_CLOSE.SLICE 512

theorem strayResume_runs : strayResume.blockRuns .aligner = true ∧ strayResume.nextClose = 512 := by decide +kernel

/-- Slice 513 is due: it lies beyond the gap, and the eighth of a period before its time has begun. -/
theorem strayResume_due : strayResume.slice? 513 = none ∧ strayResume.inGap 513 = false ∧
    8 * 513 * secUnit ≤ 8 * strayResume.time.tai * strayResume.fs + secUnit := by decide +kernel

/-- The resume at slice 512 takes N_next from 512 to 0. From there on the slices considered for opening are 1 to 511, all in the gap: none
opens. -/
theorem strayResume_opens_none : Goes (.sliceOpen 0) strayResume fun t => t.nextClose = 0 ∧ t.aln.slices = [] :=
  ⟨_, rfl, by decide +kernel⟩

/-- Refutes O50: its clause on SLICE_OPEN fails in strayResume. The resume at slice 512 moves N_next back under the opening, and slice 513, which
is due, stays EMPTY. -/
theorem not_slicesOpenCloseAndRetire : ¬ Obligations.SlicesOpenCloseAndRetire := by
  unfold Obligations.SlicesOpenCloseAndRetire
  intro h
  have hbefore : (strayResume.moveTo 0).closes strayResume = strayResume := closes_eq_self _ rfl
  obtain ⟨-, -, hopen, -, -⟩ := h strayResume strayResume 0 [] (by decide +kernel)
  obtain ⟨w, hexec, -, hruns⟩ := hopen hbefore.symm
  obtain ⟨haligner, hnext⟩ := strayResume_runs
  obtain ⟨hempty, hgap, hdue⟩ := strayResume_due
  obtain ⟨-, hopens, -⟩ := hruns haligner 513 (by omega) (by omega)
  obtain ⟨t, ht, -, hslices⟩ := strayResume_opens_none
  obtain rfl : t = w.closes strayResume := Host.Outcome.next.inj (ht.symm.trans hexec)
  have hnone : w.aln.slices = [] := closes_eq_self_of_slices_eq_nil hslices ▸ hslices
  have hslice : w.slice? 513 = some { n := 513 } := hopens hempty hdue hgap
  simp [State.slice?, hnone, alookup] at hslice

end Sys2Proof.Machine

namespace Sys2Proof.Machine

/-- Settles O4: a command that ends in a next state moved there as its meaning's law says. -/
theorem everyCommandTouchesOnlyItsParts : Obligations.EveryCommandTouchesOnlyItsParts :=
  fun _ _ _ h => (moves_of_exec h).touches

/-- Settles O1: the two arms of the step. -/
theorem stepRunsTheFrontCommand : Obligations.StepRunsTheFrontCommand :=
  ⟨fun _ _ _ => step_of_pending_cons rfl, fun _ h => step_of_pending_nil h⟩

/-- Settles O5: each arm of exec is a meaning that answers a next state. -/
theorem everyCommandEndsInANextState : Obligations.EveryCommandEndsInANextState := fun c s => by
  obtain ⟨t, ht, -⟩ := exec_moves c s
  exact ⟨t, ht⟩

/-! ### The image-update service (R537) -/

section
variable {s : State}

/-- A flash command in progress. -/
def State.flashRunning (s : State) (op : Nat) (slot : Bool) : State :=
  ({ s with boot := { s.boot with flash := some (op, slot) } }.setFlag Reg.BOOT_FLASH_CMD.BUSY true).set Reg.BOOT_FLASH_CMD.RESULT 0

theorem flashStart_idle (hidle : s.get Reg.BOOT_FLASH_CMD.BUSY = 0) {op : Nat} (hop : op = 1 → s.flashInUse = []) (slot : Bool) :
    s.flashStart op slot = s.flashRunning op slot := by
  have hbusy : s.flag Reg.BOOT_FLASH_CMD.BUSY = false := by simp [State.flag, hidle]
  unfold State.flashStart
  rw [if_neg (by simp [hbusy]), if_neg fun ⟨h, hany⟩ => by simp [hop h] at hany]
  rfl

theorem flashRunning_holds (h : s.filesOk = true) (op : Nat) (slot : Bool) :
    (s.flashRunning op slot).get Reg.BOOT_FLASH_CMD.BUSY = 1 ∧ (s.flashRunning op slot).get Reg.BOOT_FLASH_CMD.RESULT = 0 ∧
      (s.flashRunning op slot).boot.flash = some (op, slot) ∧
      Keeps [Reg.BOOT_FLASH_CMD.BUSY, Reg.BOOT_FLASH_CMD.RESULT] [.boot] s (s.flashRunning op slot) := by
  refine ⟨?_, State.get_set (filesOk_setFlag (by exact h)), by simp [State.flashRunning, State.setFlag], ?_⟩
  · exact (State.get_set_ne (.inl (by decide))).trans (get_setFlag (by exact h) rfl true)
  · exact ((Keeps.upd rfl rfl rfl rfl (Keeps.refl _ _ s) (h7 := .inl rfl)).setFlag (by simp)).set (by simp)

/-- A flash command with none in progress, and no region in use where it is a WRITE. -/
theorem goes_flashStart {who : Requester} (h : Ready s who) (hidle : s.get Reg.BOOT_FLASH_CMD.BUSY = 0) {c : Instr} {op : Nat} {slot : Bool}
    (hop : op = 1 → s.flashInUse = [])
    (hexec : exec c s = .next (s.guarded who Reg.BOOT_FLASH_CMD.OP.base fun s => s.flashStart op slot)) :
    Goes c s fun t => t.get Reg.BOOT_FLASH_CMD.BUSY = 1 ∧ t.get Reg.BOOT_FLASH_CMD.RESULT = 0 ∧ t.boot.flash = some (op, slot) ∧
      Keeps [Reg.BOOT_FLASH_CMD.BUSY, Reg.BOOT_FLASH_CMD.RESULT] [.boot] s t := by
  refine goes_guarded h hexec ?_
  rw [flashStart_idle hidle hop]
  exact flashRunning_holds h.1 op slot

/-- A flash command has ended with a result. -/
def State.flashEnded (s : State) (res : Nat) : State :=
  ({ s with boot := { s.boot with flash := none } }.setFlag Reg.BOOT_FLASH_CMD.BUSY false).set Reg.BOOT_FLASH_CMD.RESULT res

theorem flashEnded_holds (h : s.filesOk = true) (res : Nat) :
    (s.flashEnded res).get Reg.BOOT_FLASH_CMD.BUSY = 0 ∧
      (s.flashEnded res).get Reg.BOOT_FLASH_CMD.RESULT = res % 2 ^ Reg.BOOT_FLASH_CMD.RESULT.width ∧
      (s.flashEnded res).boot.flash = none ∧
      Keeps [Reg.BOOT_FLASH_CMD.BUSY, Reg.BOOT_FLASH_CMD.RESULT] [.boot] s (s.flashEnded res) := by
  refine ⟨?_, State.get_set (filesOk_setFlag (by exact h)), by simp [State.flashEnded, State.setFlag], ?_⟩
  · exact (State.get_set_ne (.inl (by decide))).trans (get_setFlag (by exact h) rfl false)
  · exact ((Keeps.upd rfl rfl rfl rfl (Keeps.refl _ _ s) (h7 := .inl rfl)).setFlag (by simp)).set (by simp)

/-- What the command in progress found where the flash answered: WRITE found nothing wrong. -/
def State.flashVerifies (s : State) (r : FlashReport) : Nat → Bool
  | 2 => (s.stage1Fails false r.stage1).isNone && (s.mainFails false r.stage1.pub r.main).isNone
  | 3 => s.roastSlotOk { r.load with flashErr := false }
  | _ => true

theorem exec_flashCmdDone {op : Nat} {slot : Bool} (hcmd : s.boot.flash = some (op, slot)) (r : FlashReport) :
    exec (.flashCmdDone r) s = .next (s.flashEnded (if r.flashErr then 4 else if s.flashVerifies r op then 1 else 3)) := by
  show execFlashCmdDone r s = _
  rw [execFlashCmdDone, hcmd]
  rfl

theorem goes_flashCmdDone (h : s.filesOk = true) {op : Nat} {slot : Bool} (hcmd : s.boot.flash = some (op, slot)) (r : FlashReport) :
    Goes (.flashCmdDone r) s fun t => t.get Reg.BOOT_FLASH_CMD.BUSY = 0 ∧ (r.flashErr = true → t.get Reg.BOOT_FLASH_CMD.RESULT = 4) ∧
      (r.flashErr = false → op = 1 → t.get Reg.BOOT_FLASH_CMD.RESULT = 1) ∧ t.boot.flash = none ∧
      Keeps [Reg.BOOT_FLASH_CMD.BUSY, Reg.BOOT_FLASH_CMD.RESULT] [.boot] s t := by
  obtain ⟨hbusy, hres, hnone, hkeeps⟩ := flashEnded_holds h (if r.flashErr then 4 else if s.flashVerifies r op then 1 else 3)
  refine ⟨_, exec_flashCmdDone hcmd r, hbusy, fun he => ?_, fun he ho => ?_, hnone, hkeeps⟩
  · rw [hres, if_pos he]; rfl
  · subst ho
    rw [hres, he]; rfl

end

/-- Settles O19: the three commands start alike, and every command ends alike. -/
theorem flashCommands : Obligations.FlashCommands := by
  unfold Obligations.FlashCommands
  intro s who slot h
  refine ⟨fun hidle => ⟨?_, ?_, fun hfree => ?_⟩, fun r op hcmd => goes_flashCmdDone h.1 hcmd r⟩
  · exact goes_flashStart h hidle nofun rfl
  · exact goes_flashStart h hidle nofun rfl
  · exact goes_flashStart h hidle (fun _ => hfree) rfl

/-! ### Live firmware update (R538) -/

section
variable {s : State} {who : Requester}

/-- BOOT_FW_LIVE.STATE and the firmware's own state replaced. -/
def State.fwLive (s : State) (state : Nat) (fw : FwRun) : State := { s with fw := fw }.set Reg.BOOT_FW_LIVE.STATE state

theorem fwLive_holds (h : s.filesOk = true) {state : Nat} (hstate : state < 2 ^ Reg.BOOT_FW_LIVE.STATE.width) (fw : FwRun) :
    (s.fwLive state fw).get Reg.BOOT_FW_LIVE.STATE = state ∧ (s.fwLive state fw).fw = fw ∧
      Keeps [Reg.BOOT_FW_LIVE.STATE] [.fw] s (s.fwLive state fw) := by
  refine ⟨(State.get_set (by exact h)).trans (Nat.mod_eq_of_lt hstate), State.set_fw .., ?_⟩
  exact (Keeps.upd rfl rfl rfl rfl (Keeps.refl _ _ s) (h9 := .inl rfl)).set (by simp)

theorem goes_fwLiveStage (h : Ready s who) (hstate : s.get Reg.BOOT_FW_LIVE.STATE ≠ 2) (im : FwImage) (flashErr : Bool) {ok : Bool}
    (hok : ok = ((s.mainFails flashErr s.fw.pubkey im).isNone && s.roast.apiOk im.api &&
      (s.get Reg.CFG_ROAST_STATUS.SHADOW != 2 || s.otherRoast.apiOk im.api))) : Goes (.fwLiveStage who im flashErr) s fun t =>
      t.get Reg.BOOT_FW_LIVE.STATE = (if ok then 1 else 3) ∧
      t.fw.staged = (if ok then some (im.digest, im.svn, im.api) else none) ∧ Keeps [Reg.BOOT_FW_LIVE.STATE] [.fw] s t := by
  refine goes_guarded h rfl ?_
  rw [if_neg hstate]
  have hverifies : ((s.mainFails flashErr s.fw.pubkey im).isNone ∧ s.roast.apiOk im.api ∧
      (s.get Reg.CFG_ROAST_STATUS.SHADOW ≠ 2 ∨ s.otherRoast.apiOk im.api)) ↔ ok = true := by
    rw [hok]
    simp [and_assoc]
  simp only [hverifies]
  cases ok with
  | true =>
    obtain ⟨hget, hfw, hkeeps⟩ := fwLive_holds h.1 (state := 1) (by decide) { s.fw with staged := some (im.digest, im.svn, im.api) }
    exact ⟨hget, congrArg FwRun.staged hfw, hkeeps⟩
  | false =>
    obtain ⟨hget, hfw, hkeeps⟩ := fwLive_holds h.1 (state := 3) (by decide) { s.fw with staged := none }
    exact ⟨hget, congrArg FwRun.staged hfw, hkeeps⟩

theorem exec_fwLiveStage_switching (h : Ready s who) (hstate : s.get Reg.BOOT_FW_LIVE.STATE = 2) (im : FwImage) (flashErr : Bool) :
    exec (.fwLiveStage who im flashErr) s = .next s := by
  show execFwLiveStage who im flashErr s = _
  rw [execFwLiveStage, h.guarded, if_pos hstate]

theorem goes_fwLiveSwitch (h : Ready s who) {p : Nat} (hp : p < 9) (hstate : s.get Reg.BOOT_FW_LIVE.STATE = 1) (hspare : s.coreState p = 1) :
    Goes (.fwLiveSwitch who) s fun t =>
      t.get Reg.BOOT_FW_LIVE.STATE = 2 ∧ t.fw.switched = true ∧ Keeps [Reg.BOOT_FW_LIVE.STATE] [.fw] s t := by
  refine goes_guarded h rfl ?_
  have hany : ((List.range 9).any fun p => s.coreState p == 1) = true :=
    List.any_eq_true.mpr ⟨p, List.mem_range.mpr hp, beq_of_eq hspare⟩
  rw [if_pos ⟨hstate, hany⟩]
  obtain ⟨hget, hfw, hkeeps⟩ := fwLive_holds h.1 (state := 2) (by decide) { s.fw with switched := true }
  exact ⟨hget, congrArg FwRun.switched hfw, hkeeps⟩

theorem goes_fwLiveAbort (h : Ready s who) (hstate : s.get Reg.BOOT_FW_LIVE.STATE = 2) : Goes (.fwLiveAbort who) s fun t =>
    t.get Reg.BOOT_FW_LIVE.STATE = 1 ∧ t.fw.switched = false ∧ Keeps [Reg.BOOT_FW_LIVE.STATE] [.fw] s t := by
  refine goes_guarded h rfl ?_
  rw [if_pos hstate]
  obtain ⟨hget, hfw, hkeeps⟩ := fwLive_holds h.1 (state := 1) (by decide) { s.fw with switched := false }
  exact ⟨hget, congrArg FwRun.switched hfw, hkeeps⟩

theorem goes_fwLiveCommit (h : Ready s who) {d : Bytes} {svn api : Nat} (hstaged : s.fw.staged = some (d, svn, api))
    (hstate : s.get Reg.BOOT_FW_LIVE.STATE = 2) : Goes (.fwLiveCommit who) s fun t =>
      t.get Reg.BOOT_FW_LIVE.STATE = 0 ∧ t.get Reg.CFG_FW_API.API = api % 2 ^ Reg.CFG_FW_API.API.width ∧ t.fw.mainDigest = d ∧
      t.fw.mainSvn = svn ∧ t.fw.staged = none ∧ Keeps [Reg.BOOT_FW_LIVE.STATE, Reg.CFG_FW_API.API] [.fw, .sch] s t := by
  refine goes_guarded h rfl ?_
  simp only [hstaged, if_pos hstate, State.set_fw, true_and]
  refine ⟨State.get_set (State.filesOk_set (by exact h.1)), ?_, ?_⟩
  · exact (State.get_set_ne (.inl (by decide))).trans (State.get_set (by exact h.1))
  · exact ((Keeps.upd rfl rfl rfl rfl (Keeps.refl _ _ s) (h9 := .inl rfl) (h22 := .inl rfl)).set (by simp)).set (by simp)

end

/-- Settles O20: the four commands, each by its own law. -/
theorem liveFirmwareUpdate : Obligations.LiveFirmwareUpdate := by
  unfold Obligations.LiveFirmwareUpdate
  intro s who h
  exact ⟨fun im flashErr _ hstate hok => goes_fwLiveStage h hstate im flashErr hok, exec_fwLiveStage_switching h,
    fun _ hp hstate hspare => goes_fwLiveSwitch h hp hstate hspare, fun _ _ _ hstaged hstate => goes_fwLiveCommit h hstaged hstate,
    goes_fwLiveAbort h⟩

end Sys2Proof.Machine

namespace Sys2Proof.Machine

/-! ### What decides whether records are held (R498), and what an entry adds to the log (R493) -/

/-- The freeze and the clear stand as they stood. -/
structure HoldsAlike (s t : State) : Prop where
  frozenAt : t.evr.frozenAt = s.evr.frozenAt
  clearing : t.evr.clearing = s.evr.clearing

section
variable {s u t : State}

theorem HoldsAlike.refl (s : State) : HoldsAlike s s := ⟨rfl, rfl⟩

theorem HoldsAlike.trans (h : HoldsAlike s u) (k : HoldsAlike u t) : HoldsAlike s t :=
  ⟨k.frozenAt.trans h.frozenAt, k.clearing.trans h.clearing⟩

theorem HoldsAlike.moves {m : List Part} (k : Moves m u t) (hm : m.contains .evr = false) (h : HoldsAlike s u) : HoldsAlike s t := by
  have hevr : t.evr = u.evr := k.touches.2 .evr hm
  exact h.trans ⟨by rw [hevr], by rw [hevr]⟩

theorem holdsAlike_logReady (s : State) (r : LogRec) : HoldsAlike s (s.logReady r) := by
  rw [State.logReady]
  split
  · exact (HoldsAlike.refl s).moves (moves_count ..) rfl
  · exact ⟨rfl, rfl⟩

theorem holdsAlike_logPut (s : State) (r : LogRec) : HoldsAlike s (s.logPut r) := by
  rw [State.logPut]
  split
  · split
    · exact (⟨rfl, rfl⟩ : HoldsAlike s { s with evr := { s.evr with held := s.evr.held ++ [r] } }).moves (moves_set ..) rfl
    · exact ((⟨rfl, rfl⟩ : HoldsAlike s { s with evr := { s.evr with lost := s.evr.lost + 1 } }).moves (moves_count ..) rfl).moves
        (moves_irq ..) rfl
  · exact holdsAlike_logReady s r

theorem holdsAlike_logOwn (s : State) (code source : Nat) (data : Bytes) : HoldsAlike s (s.logOwn code source data) :=
  (holdsAlike_logPut s _).moves (moves_count ..) rfl

theorem holdsAlike_foldl_logReady (l : List LogRec) (s : State) : HoldsAlike s (l.foldl State.logReady s) := by
  induction l generalizing s with
  | nil => exact HoldsAlike.refl s
  | cons r l ih => exact (holdsAlike_logReady s r).trans (ih _)

theorem holdsAlike_logRelease (s : State) : HoldsAlike s s.logRelease := by
  rw [State.logRelease]
  split
  · exact HoldsAlike.refl s
  · have hempty : HoldsAlike s ({ s with evr := { s.evr with held := [], lost := 0 } }.set Reg.EVR_STATUS.HOLD 0) :=
      HoldsAlike.moves (moves_set ..) rfl ⟨rfl, rfl⟩
    refine HoldsAlike.trans ?_ (holdsAlike_foldl_logReady _ _)
    split
    · exact hempty
    · exact hempty.trans (holdsAlike_logOwn ..)

/-- From `s` to `t` the log grew by `n` entries behind the older ones, and no hold began or ended. -/
structure Logged (n : Nat) (s t : State) : Prop where
  log : ∃ es : List Bytes, es.length = n ∧ t.nvs.log = s.nvs.log ++ es
  nextSeq : t.nvs.nextSeq = s.nvs.nextSeq + n
  logFull : t.nvs.logFull = s.nvs.logFull
  holds : HoldsAlike s t

theorem Logged.length {n : Nat} (h : Logged n s t) : t.nvs.log.length = s.nvs.log.length + n := by
  obtain ⟨es, rfl, hlog⟩ := h.log
  rw [hlog, List.length_append]

theorem Logged.older {n : Nat} (h : Logged n s t) : t.nvs.log.take s.nvs.log.length = s.nvs.log := by
  obtain ⟨es, -, hlog⟩ := h.log
  rw [hlog, List.take_left]

theorem Logged.refl (s : State) : Logged 0 s s := ⟨⟨[], rfl, (List.append_nil _).symm⟩, rfl, rfl, HoldsAlike.refl s⟩

theorem Logged.trans {m n : Nat} (h : Logged m s u) (k : Logged n u t) : Logged (m + n) s t := by
  obtain ⟨es, rfl, hes⟩ := h.log
  obtain ⟨fs, rfl, hfs⟩ := k.log
  refine ⟨⟨es ++ fs, List.length_append, by rw [hfs, hes, List.append_assoc]⟩, ?_, k.logFull.trans h.logFull, h.holds.trans k.holds⟩
  rw [k.nextSeq, h.nextSeq, Nat.add_assoc]

theorem Logged.moves {m : List Part} {n : Nat} (k : Moves m u t) (hm : m.contains .evr = false ∧ m.contains .nvs = false)
    (h : Logged n s u) : Logged n s t := by
  have hnvs : t.nvs = u.nvs := k.touches.2 .nvs hm.2
  exact ⟨by rw [hnvs]; exact h.log, by rw [hnvs]; exact h.nextSeq, by rw [hnvs]; exact h.logFull, h.holds.moves k hm.1⟩

theorem Logged.logOwn {n : Nat} (h : Logged n s u) (code source : Nat) (data : Bytes) : Logged n s (u.logOwn code source data) := by
  have hnvs : (u.logOwn code source data).nvs = u.nvs := (moves_logOwn ..).touches.2 .nvs rfl
  exact ⟨by rw [hnvs]; exact h.log, by rw [hnvs]; exact h.nextSeq, by rw [hnvs]; exact h.logFull, h.holds.trans (holdsAlike_logOwn ..)⟩

/-- A checkpoint takes no position of the log. -/
theorem logged_logCheckpoint (s : State) (clear : Bool) : Logged 0 s (s.logCheckpoint clear) := by
  have hput (c : Checkpoint) : Logged 0 s
      ((({ s with nvs := { s.nvs with checkpoints := (c :: s.nvs.checkpoints).take 130 } }).count Reg.EVR.CHECKPOINTS).irq
        Reg.EVR_IRQ.CKPT Reg.EVR_IRQ_MASK.MASK 113) :=
    Logged.moves (moves_irq ..) ⟨rfl, rfl⟩ (Logged.moves (moves_count ..) ⟨rfl, rfl⟩
      ⟨⟨[], rfl, (List.append_nil _).symm⟩, rfl, rfl, ⟨rfl, rfl⟩⟩)
  rw [State.logCheckpoint]
  split
  · exact hput _
  · exact (hput _).logOwn ..

theorem logged_putEntry (s : State) (r : LogRec) (k n : Nat) (clear : Bool) : Logged 1 s (s.putEntry r k n clear) := by
  unfold State.putEntry
  extract_lets e _ s1 s2 s3
  have h1 : Logged 1 s s1 := ⟨⟨[e], rfl, rfl⟩, rfl, rfl, ⟨rfl, rfl⟩⟩
  have h3 : Logged 1 s s3 := (h1.moves (moves_set ..) ⟨rfl, rfl⟩).moves (Moves.ite (moves_set ..) (Moves.refl [.files] _)) ⟨rfl, rfl⟩
  split
  · exact h3.trans (logged_logCheckpoint s3 clear)
  · exact h3

theorem logged_foldl_putEntry (r : LogRec) (n : Nat) (clear : Bool) (ks : List Nat) (s : State) :
    Logged ks.length s (ks.foldl (fun s k => s.putEntry r k n clear) s) := by
  induction ks generalizing s with
  | nil => exact Logged.refl s
  | cons k ks ih => simpa [Nat.add_comm] using (logged_putEntry s r k n clear).trans (ih _)

theorem logged_writeRecord (s : State) (r : LogRec) (clear : Bool) : Logged r.entries s (s.writeRecord r clear) := by
  have hfold := logged_foldl_putEntry r r.entries clear (List.range r.entries) s
  rwa [List.length_range] at hfold

/-! ### Writing and clearing the log (R493, R496, R500) -/

theorem goes_logEntryWrite {r : LogRec} {rest : List LogRec} (hfrozen : s.evr.frozenAt = none) (hclear : s.evr.clearing = none)
    (hmounted : s.evr.mounted = true) (hready : s.evr.ready = r :: rest) (hroom : s.nvs.log.length + r.entries < logPositions) :
    Goes .logEntryWrite s fun t => t.nvs.log.length = s.nvs.log.length + r.entries ∧ t.nvs.nextSeq = s.nvs.nextSeq + r.entries ∧
      t.nvs.log.take s.nvs.log.length = s.nvs.log := by
  let u : State := { s with evr := { s.evr with ready := rest } }
  have hlogged : Logged r.entries u (u.writeRecord r false) := logged_writeRecord u r false
  refine ⟨_, ?_, hlogged.length, hlogged.nextSeq, hlogged.older⟩
  show execLogEntryWrite s = _
  rw [execLogEntryWrite, if_neg (by simp [hfrozen, hclear, hmounted]), hready]
  exact congrArg Host.Outcome.next (if_pos hroom)

theorem goes_evrClear {who : Requester} (h : Ready s who) (hfrozen : s.evr.frozenAt = none) (hclear : s.evr.clearing = none) :
    Goes (.evrClear who 0xC1EA0001) s fun t =>
      t.get Reg.EVR_STATUS.CLEARING = 1 ∧ t.evr.clearing = some who.code ∧ Keeps [Reg.EVR_STATUS.CLEARING] [.evr] s t := by
  refine goes_guarded h rfl ?_
  rw [if_neg (by simp), if_neg (by simp [hfrozen, hclear])]
  refine ⟨get_setFlag (by exact h.1) rfl true, ?_, ?_⟩
  · exact congrArg Evr.clearing (State.set_evr ..)
  · exact (Keeps.upd rfl rfl rfl rfl (Keeps.refl _ _ s) (h18 := .inl rfl)).setFlag (by simp)

/-- The CLEAR record: the last sequence number, the entries that stood in the log, and who cleared it. -/
def State.clearRecord (s : State) (who : Nat) : LogRec :=
  s.mkRec 1 0 (leBytes 8 (s.nvs.nextSeq - 1) ++ leBytes 4 (s.nvs.log.filter fun e => leAt e 0 8 != 0).length ++ leBytes 1 who) 0

theorem clearRecord_entries (s : State) (who : Nat) : (s.clearRecord who).entries = 1 := by
  simp [State.clearRecord, State.mkRec, LogRec.entries, leBytes, ceilDiv]

/-- The log emptied, and no clear in progress. -/
def State.logEmptied (s : State) : State :=
  { s with nvs := { s.nvs with log := [], logFull := false }, evr := { s.evr with clearing := none } }

/-- The CLEAR record written, and the end of the clear shown. -/
def State.logCleared (s : State) (who : Nat) : State :=
  (((s.logEmptied.writeRecord (s.clearRecord who) true).count Reg.EVR.ACCEPTED).setFlag Reg.EVR_STATUS.FULL false).setFlag
    Reg.EVR_STATUS.CLEARING false

theorem logged_logCleared (s : State) (who : Nat) : Logged 1 s.logEmptied (s.logCleared who) := by
  have hrecord : Logged 1 s.logEmptied (s.logEmptied.writeRecord (s.clearRecord who) true) :=
    clearRecord_entries s who ▸ logged_writeRecord s.logEmptied (s.clearRecord who) true
  unfold State.logCleared State.setFlag
  exact Logged.moves (moves_set ..) ⟨rfl, rfl⟩ (Logged.moves (moves_set ..) ⟨rfl, rfl⟩ (Logged.moves (moves_count ..) ⟨rfl, rfl⟩ hrecord))

theorem goes_logClearComplete {w : Nat} (hclear : s.evr.clearing = some w) : Goes .logClearComplete s fun t =>
    t.evr.clearing = none ∧ t.nvs.log.length = 1 ∧ t.nvs.logFull = false ∧ t.nvs.nextSeq = s.nvs.nextSeq + 1 := by
  have hlogged := logged_logCleared s w
  have hnvs : (s.logCleared w).logRelease.nvs = (s.logCleared w).nvs := (moves_logRelease _).touches.2 .nvs rfl
  refine ⟨(s.logCleared w).logRelease, ?_, ?_, ?_, ?_, ?_⟩
  · show execLogClearComplete s = _
    rw [execLogClearComplete, hclear]
    rfl
  · exact (holdsAlike_logRelease _).clearing.trans hlogged.holds.clearing
  · rw [hnvs, hlogged.length]
    rfl
  · rw [hnvs, hlogged.logFull]
    rfl
  · rw [hnvs, hlogged.nextSeq]
    rfl

end

/-- Settles O26: a record's entries one by one, each of which adds one position and one sequence number. -/
theorem logRecordsTakePositions : Obligations.LogRecordsTakePositions := by
  unfold Obligations.LogRecordsTakePositions
  intro s _ _
  exact ⟨fun _ _ => goes_logEntryWrite, fun _ => goes_evrClear, fun _ => goes_logClearComplete⟩

/-! ### Freezing (R498) -/

section
variable {s : State} {who : Requester}

/-- FREEZE and FROZEN shown, and the time of the freeze noted or forgotten. -/
def State.showFreeze (s : State) (at_ : Option Tai) : State :=
  ({ s with evr := { s.evr with frozenAt := at_ } }.setFlag Reg.EVR_FREEZE.FREEZE at_.isSome).setFlag Reg.EVR_STATUS.FROZEN at_.isSome

theorem showFreeze_evr (s : State) (at_ : Option Tai) : (s.showFreeze at_).evr = { s.evr with frozenAt := at_ } := by
  simp [State.showFreeze, State.setFlag]

theorem showFreeze_shows (h : s.filesOk = true) (at_ : Option Tai) :
    (s.showFreeze at_).get Reg.EVR_FREEZE.FREEZE = b2n at_.isSome ∧ (s.showFreeze at_).get Reg.EVR_STATUS.FROZEN = b2n at_.isSome := by
  refine ⟨?_, get_setFlag (filesOk_setFlag (by exact h)) rfl _⟩
  exact (get_setFlag_ne (.inl (by decide))).trans (get_setFlag (by exact h) rfl _)

theorem showFreeze_keeps (s : State) (at_ : Option Tai) :
    Keeps [Reg.EVR_FREEZE.FREEZE, Reg.EVR_STATUS.FROZEN] [.evr] s (s.showFreeze at_) :=
  ((Keeps.upd rfl rfl rfl rfl (Keeps.refl _ _ s) (h18 := .inl rfl)).setFlag (by simp)).setFlag (by simp)

theorem goes_freeze (h : MayWrite s who) : Goes (.evrFreeze who true) s fun t => t.get Reg.EVR_FREEZE.FREEZE = 1 ∧
    t.get Reg.EVR_STATUS.FROZEN = 1 ∧ t.evr.frozenAt.isSome = true ∧ Keeps [Reg.EVR_FREEZE.FREEZE, Reg.EVR_STATUS.FROZEN] [.evr] s t := by
  let since : Tai := match s.evr.frozenAt with | some t => t | none => s.time.elapsed
  refine ⟨s.showFreeze (some since), ?_, (showFreeze_shows h.1 _).1, (showFreeze_shows h.1 _).2, by rw [showFreeze_evr]; rfl, showFreeze_keeps s _⟩
  show execEvrFreeze who true s = _
  rw [execEvrFreeze, h.open_]
  rfl

/-- Where nothing is held, a release shows that nothing is. -/
theorem logRelease_nothing_held (hheld : s.evr.held = []) (hlost : s.evr.lost = 0) : s.logRelease = s ∨
    s.logRelease = { s with evr := { s.evr with held := [], lost := 0 } }.set Reg.EVR_STATUS.HOLD 0 := by
  rw [State.logRelease]
  split
  · exact .inl rfl
  · right
    simp only [hheld, hlost, if_true, List.foldl_nil]

theorem goes_unfreeze (h : MayWrite s who) (hheld : s.evr.held = []) (hlost : s.evr.lost = 0) : Goes (.evrFreeze who false) s fun t =>
    t.evr.frozenAt = none ∧ t.get Reg.EVR_FREEZE.FREEZE = 0 ∧ t.get Reg.EVR_STATUS.FROZEN = 0 := by
  obtain ⟨hfreeze, hfrozen⟩ := showFreeze_shows h.1 none
  have hspares : Spares (fun g => g = Reg.EVR_FREEZE.FREEZE ∨ g = Reg.EVR_STATUS.FROZEN) (s.showFreeze none) (s.showFreeze none).logRelease := by
    obtain he | he := logRelease_nothing_held (s := s.showFreeze none) (by rw [showFreeze_evr]; exact hheld) (by rw [showFreeze_evr]; exact hlost) <;> rw [he]
    · exact Spares.refl _ _
    · exact Spares.set (by rintro _ (rfl | rfl) <;> decide) ((Spares.refl _ _).parts rfl rfl rfl)
  refine ⟨(s.showFreeze none).logRelease, ?_, ?_, (hspares.get_eq _ (.inl rfl)).trans hfreeze, (hspares.get_eq _ (.inr rfl)).trans hfrozen⟩
  · show execEvrFreeze who false s = _
    rw [execEvrFreeze, h.open_]
    rfl
  · rw [(holdsAlike_logRelease _).frozenAt, showFreeze_evr]

theorem goes_freezeTimeout (hfrozen : s.evr.frozenAt.isSome = true) : Goes .freezeTimeout s fun t => t.evr.frozenAt = none := by
  refine ⟨_, congrArg Host.Outcome.next (if_pos hfrozen), ?_⟩
  have halike := ((holdsAlike_logRelease (s.showFreeze none)).trans (holdsAlike_logOwn _ 5 0 [])).moves
    (moves_irq _ Reg.EVR_IRQ.FREEZE_TIMEOUT Reg.EVR_IRQ_MASK.MASK 113) rfl
  exact halike.frozenAt.trans (congrArg Evr.frozenAt (showFreeze_evr s none))

end

/-- Settles O27: the freeze shown and noted, and forgotten by its two ends, which a release does not undo. -/
theorem logFreezes : Obligations.LogFreezes := by
  unfold Obligations.LogFreezes
  intro s _ _
  exact ⟨fun _ => goes_freeze, fun _ => goes_unfreeze, goes_freezeTimeout⟩

end Sys2Proof.Machine

namespace Sys2Proof.Machine

/-! ### Reading windows: consecutive words of a requester's own copy (R103, R323, R350, R373, R395, R428, R501) -/

section
variable {s : State} {who : Requester} {f : Fld} {n : Nat}

/-- The first `n` words of a requester's window on `f` shown. -/
def State.showWords (s : State) (who : Requester) (f : Fld) (n : Nat) (w : Nat → Nat) : State :=
  (List.range n).foldl (fun s k => s.set ((f.ix k).of who) (w k)) s

/-- A window's words: of one requester each, 32 bits wide and next to each other. -/
structure IsWindow (f : Fld) : Prop where
  perReq : f.perReq = true
  width : f.width = 32
  stride : ∃ m, f.dims = [(m, 4)]

theorem IsWindow.key (h : IsWindow f) (who : Requester) (k : Nat) :
    ((f.ix k).of who).key = who.bank * bankSpan + 8 * (f.base + k * 4) + f.lsb := by
  obtain ⟨m, hm⟩ := h.stride
  simp [Fld.of, Fld.ix, hm, h.perReq, Fld.inBank, Fld.key]

theorem IsWindow.width_of (h : IsWindow f) (who : Requester) (k : Nat) : ((f.ix k).of who).width = 32 := by
  obtain ⟨m, hm⟩ := h.stride
  simp [Fld.of, Fld.ix, hm, h.perReq, Fld.inBank, h.width]

theorem showWords_get (hf : IsWindow f) (h : s.filesOk = true) (w : Nat → Nat) {k : Nat} (hk : k < n) :
    (s.showWords who f n w).get ((f.ix k).of who) = w k % 2 ^ 32 := by
  rw [← hf.width_of who k]
  refine get_foldl_set (place := fun k => (f.ix k).of who) (val := fun _ => w) h hk (fun _ _ _ _ => rfl) fun j hj => ?_
  simp only [hf.key]
  omega

theorem keeps_showWords (ps : List Part) (s : State) (who : Requester) (f : Fld) (n : Nat) (w : Nat → Nat) :
    Keeps (windowFields f who n) ps s (s.showWords who f n w) :=
  Keeps.foldl (fun v _ hk => (Keeps.refl _ _ v).set (List.mem_map_of_mem hk)) (Keeps.refl _ _ s)

/-! ### The event recorder's windows (R501) -/

theorem isWindow_evrWindow : IsWindow Reg.EVR_WINDOW.WORD := ⟨rfl, rfl, 16, rfl⟩

theorem isWindow_evrCkpt : IsWindow Reg.EVR_CKPT.WORD := ⟨rfl, rfl, 64, rfl⟩

/-- The cursor stands below every word of the window. -/
theorem evrWindow_ne_cursor (who : Requester) (k : Nat) : ((Reg.EVR_WINDOW.WORD.ix k).of who).key ≠ (Reg.EVR_CURSOR.POS.of who).key := by
  rw [isWindow_evrWindow.key]
  simp only [Fld.of, Fld.inBank, Fld.key, Reg.EVR_WINDOW.WORD, Reg.EVR_CURSOR.POS, if_true]
  omega

/-- The latched window, and the cursor moved on where the read goes through to the last word. -/
theorem goes_evrWindowLatch (h : s.filesOk = true) (who : Requester) (through : Bool) : Goes (.evrWindowLatch who through) s fun t =>
    (∀ k, k < 16 → t.get ((Reg.EVR_WINDOW.WORD.ix k).of who) =
      leAt ((s.nvs.log[s.get (Reg.EVR_CURSOR.POS.of who)]?).getD []) (4 * k) 4 % 2 ^ 32) ∧
    Keeps (Reg.EVR_CURSOR.POS.of who :: windowFields Reg.EVR_WINDOW.WORD who 16) [] s t := by
  let v := s.showWords who Reg.EVR_WINDOW.WORD 16 fun k => leAt ((s.nvs.log[s.get (Reg.EVR_CURSOR.POS.of who)]?).getD []) (4 * k) 4
  have hkeeps : Keeps (Reg.EVR_CURSOR.POS.of who :: windowFields Reg.EVR_WINDOW.WORD who 16) [] s v :=
    (keeps_showWords [] s who _ 16 _).mono (fun _ hf => List.mem_cons_of_mem _ hf) fun _ hp => hp
  refine ⟨_, rfl, fun k hk => ?_, Keeps.ite (hkeeps.set List.mem_cons_self) hkeeps⟩
  refine Eq.trans ?_ (showWords_get (who := who) isWindow_evrWindow h (fun k => leAt _ (4 * k) 4) hk)
  split
  · exact State.get_set_ne (.inl (evrWindow_ne_cursor who k).symm)
  · rfl

theorem goes_evrCkptLatch (h : s.filesOk = true) {c : Checkpoint}
    (hc : s.nvs.checkpoints[s.get (Reg.EVR_CKPT_SEL.INDEX.of who)]? = some c) : Goes (.evrCkptLatch who) s fun t =>
      (∀ k, k < 64 → t.get ((Reg.EVR_CKPT.WORD.ix k).of who) = leAt c.bytes (4 * k) 4 % 2 ^ 32) ∧
      Keeps (windowFields Reg.EVR_CKPT.WORD who 64) [] s t := by
  refine ⟨s.showWords who Reg.EVR_CKPT.WORD 64 fun k => leAt c.bytes (4 * k) 4, ?_, fun k hk => showWords_get isWindow_evrCkpt h _ hk,
    keeps_showWords ..⟩
  show execEvrCkptLatch who s = _
  rw [execEvrCkptLatch, hc]
  rfl

end

/-- Settles O28: both windows are latched word by word. -/
theorem logWindowsLatch : Obligations.LogWindowsLatch := by
  unfold Obligations.LogWindowsLatch
  intro s who h
  exact ⟨goes_evrWindowLatch h who, fun _ => goes_evrCkptLatch h⟩

/-! ### The engines' windows (R323, R350, R373, R395, R428) -/

section
variable {s : State} {who : Requester}

/-- A latch of the words of a list, nothing beyond its end. -/
theorem goes_latch {c : Instr} {f : Fld} {n : Nat} {ws : List Nat} (h : s.filesOk = true) (hf : IsWindow f)
    (hc : exec c s = .next (s.showWords who f n fun k => (ws[k]?).getD 0)) : Goes c s fun t =>
      (∀ k, k < n → t.get ((f.ix k).of who) = (ws[k]?).getD 0 % 2 ^ 32) ∧ Keeps (windowFields f who n) [] s t :=
  ⟨_, hc, fun _ hk => showWords_get hf h _ hk, keeps_showWords ..⟩

theorem exec_lseSummaryLatch (s : State) (who : Requester) : exec (.lseSummaryLatch who) s = .next (s.showWords who Reg.LSE_SUM.WORD 12
    fun k => ((((alookup (s.get (Reg.LSE_SUM_SEL.SLICE.of who) % 512) s.lse.ring).map LseOut.summary).getD (List.replicate 12 0))[k]?).getD 0) := by
  show execLseSummaryLatch who s = _
  rw [execLseSummaryLatch]
  cases alookup (s.get (Reg.LSE_SUM_SEL.SLICE.of who) % 512) s.lse.ring <;> rfl

/-- Words of an oscillation item, present or not. -/
theorem oscWords_length (s : State) (who : Requester) (item : OscItem) :
    (s.oscWords who item).length = match item with | .band => 8 | .flow => 4 | .subsync => 5 := by
  cases item <;> simp only [State.oscWords] <;> split <;> rfl

theorem isWindow_osc (item : OscItem) : IsWindow item.word := by
  cases item
  · exact ⟨rfl, rfl, 8, rfl⟩
  · exact ⟨rfl, rfl, 4, rfl⟩
  · exact ⟨rfl, rfl, 5, rfl⟩

theorem goes_oscResultLatch (h : s.filesOk = true) (item : OscItem) {n : Nat}
    (hn : n = match item with | .band => 8 | .flow => 4 | .subsync => 5) : Goes (.oscResultLatch who item) s fun t =>
      (∀ k, k < n → t.get ((item.word.ix k).of who) = ((s.oscWords who item)[k]?).getD 0 % 2 ^ 32) ∧
      Keeps (windowFields item.word who n) [] s t := by
  obtain rfl : n = (s.oscWords who item).length := hn.trans (oscWords_length ..).symm
  exact goes_latch h (isWindow_osc item) rfl

theorem isWindow_isl (item : IslItem) : IsWindow item.word := by
  cases item
  · exact ⟨rfl, rfl, 4, rfl⟩
  · exact ⟨rfl, rfl, 4, rfl⟩
  · exact ⟨rfl, rfl, 6, rfl⟩
  · exact ⟨rfl, rfl, 6, rfl⟩
  · exact ⟨rfl, rfl, 6, rfl⟩

/-- The slice an island item is of. -/
def IslItem.slice (item : IslItem) (s : State) : Option Nat := if item = .dev ∨ item = .node then s.isl.topoSlice else s.isl.islSlice

/-- The latch of an island item's window: its slice and its words, zeros before any result. -/
theorem exec_islItemLatch (s : State) (who : Requester) (item : IslItem) {ws : List Nat}
    (hws : ws = match item.slice s with
      | some n => [n % 2 ^ 32, n / 2 ^ 32 % 2 ^ 32] ++ s.islWords who item
      | none => List.replicate (2 + (s.islWords who item).length) 0) :
    exec (.islItemLatch who item) s = .next (s.showWords who item.word ws.length fun k => (ws[k]?).getD 0) := by
  subst hws
  cases item <;> rfl

theorem goes_islItemLatch (h : s.filesOk = true) {item : IslItem} {n : Nat} (hn : item.slice s = some n) : Goes (.islItemLatch who item) s fun t =>
    t.get ((item.word.ix 0).of who) = n % 2 ^ 32 ∧ t.get ((item.word.ix 1).of who) = n / 2 ^ 32 % 2 ^ 32 ∧
    (∀ k w, (s.islWords who item)[k]? = some w → t.get ((item.word.ix (2 + k)).of who) = w % 2 ^ 32) ∧
    Keeps (windowFields item.word who (2 + (s.islWords who item).length)) [] s t := by
  let ws := [n % 2 ^ 32, n / 2 ^ 32 % 2 ^ 32] ++ s.islWords who item
  have hlen : ws.length = 2 + (s.islWords who item).length := by simp only [ws, List.length_append, List.length_cons, List.length_nil]
  obtain ⟨t, hexec, hget, hkeeps⟩ := goes_latch h (isWindow_isl item) (exec_islItemLatch s who item (ws := ws) (by rw [hn]))
  refine ⟨t, hexec, ?_, ?_, fun k w hw => ?_, hlen ▸ hkeeps⟩
  · exact (hget 0 (by omega)).trans (Nat.mod_mod ..)
  · exact (hget 1 (by omega)).trans (Nat.mod_mod ..)
  · have hk : k < (s.islWords who item).length := (List.getElem?_eq_some_iff.mp hw).1
    have hword : ws[2 + k]? = some w := (List.getElem?_append_right (by simp)).trans (by simpa using hw)
    rw [hget (2 + k) (by omega), hword]
    rfl

theorem goes_islItemLatch_none (h : s.filesOk = true) {item : IslItem} (hn : item.slice s = none) : Goes (.islItemLatch who item) s fun t =>
    (∀ k, k < 2 + (s.islWords who item).length → t.get ((item.word.ix k).of who) = 0) ∧
    Keeps (windowFields item.word who (2 + (s.islWords who item).length)) [] s t := by
  let ws := List.replicate (2 + (s.islWords who item).length) 0
  have hlen : ws.length = 2 + (s.islWords who item).length := List.length_replicate
  obtain ⟨t, hexec, hget, hkeeps⟩ := goes_latch h (isWindow_isl item) (exec_islItemLatch s who item (ws := ws) (by rw [hn]))
  refine ⟨t, hexec, fun k hk => ?_, hlen ▸ hkeeps⟩
  rw [hget k (by omega), List.getElem?_replicate_of_lt hk]
  rfl

/-- The two lowest bits of an alarm term's word 3. -/
theorem termWord_bits (on valid start notDue : Bool) : ∀ w, w = (b2n on + 2 * b2n valid + 4 * b2n start + 8 * b2n notDue) % 2 ^ 32 →
    bitAt w 0 = on ∧ bitAt w 1 = valid := by
  rintro _ rfl
  revert on valid start notDue
  decide

theorem goes_almTermLatch (h : s.filesOk = true) {m : TermMem} (hm : m = s.term (s.get (Reg.ALM_TERM_SEL.TERM.of who))) :
    Goes (.almTermLatch who) s fun t =>
      t.get ((Reg.ALM_TERM.WORD.ix 0).of who) = m.n % 2 ^ 32 ∧ t.get ((Reg.ALM_TERM.WORD.ix 1).of who) = m.n / 2 ^ 32 % 2 ^ 32 ∧
      t.get ((Reg.ALM_TERM.WORD.ix 2).of who) = m.x.toNat ∧
      bitAt (t.get ((Reg.ALM_TERM.WORD.ix 3).of who)) 0 = m.on ∧ bitAt (t.get ((Reg.ALM_TERM.WORD.ix 3).of who)) 1 = m.valid ∧
      Keeps (windowFields Reg.ALM_TERM.WORD who 5) [] s t := by
  subst hm
  obtain ⟨t, hexec, hget, hkeeps⟩ := goes_latch (c := .almTermLatch who) (who := who) h ⟨rfl, rfl, 5, rfl⟩ rfl
  have hbits := termWord_bits _ _ _ _ _ (hget 3 (by decide))
  exact ⟨t, hexec, (hget 0 (by decide)).trans (Nat.mod_mod ..), (hget 1 (by decide)).trans (Nat.mod_mod ..),
    (hget 2 (by decide)).trans (Nat.mod_eq_of_lt (BitVec.isLt _)), hbits.1, hbits.2, hkeeps⟩

theorem goes_custodyRecordLatch (h : s.filesOk = true) (who : Requester) : Goes (.custodyRecordLatch who) s fun t =>
    (∀ k, k < 128 → t.get ((Reg.NRG_REC.WORD.ix k).of who) =
      leAt ((s.nvs.custody.find? fun r => recordSeq r == s.get (Reg.NRG_REC_SEL.SEQ.of who)).getD []) (4 * k) 4) ∧
    Keeps (windowFields Reg.NRG_REC.WORD who 128) [] s t :=
  ⟨_, rfl, fun _ hk => (showWords_get ⟨rfl, rfl, 128, rfl⟩ h _ hk).trans (Nat.mod_eq_of_lt (leAt_four_lt ..)), keeps_showWords ..⟩

end

/-- Settles O51: every latch shows a list of words in its requester's window. -/
theorem windowsLatch : Obligations.WindowsLatch := by
  unfold Obligations.WindowsLatch
  intro s who h
  refine ⟨fun c f n ws hc => ?_, fun item n => goes_islItemLatch h (item := item), fun item => goes_islItemLatch_none h (item := item), fun m =>
    goes_almTermLatch h, goes_custodyRecordLatch h who⟩
  simp only [List.mem_cons, Prod.mk.injEq, List.not_mem_nil, or_false] at hc
  obtain ⟨rfl, rfl, rfl, rfl⟩ | ⟨rfl, rfl, rfl, rfl⟩ | ⟨rfl, rfl, rfl, rfl⟩ | ⟨rfl, rfl, rfl, rfl⟩ := hc
  · exact goes_latch h ⟨rfl, rfl, 12, rfl⟩ (exec_lseSummaryLatch s who)
  · exact goes_oscResultLatch h .band rfl
  · exact goes_oscResultLatch h .flow rfl
  · exact goes_oscResultLatch h .subsync rfl

end Sys2Proof.Machine

namespace Sys2Proof.Machine

/-! ### Lanes and wraps (R506, R507, R510, R511) -/

section
variable {s u : State} {east : Bool}

/-- WRAP and LANES of a side. -/
def SideView (east : Bool) (g : Fld) : Prop := g = wrapFld east ∨ g = lanesFld east

theorem ne_wrapFld {f : Fld} (east : Bool) (hf : f.key ≠ Reg.CAS_STATUS.WRAP_E.key ∧ f.key ≠ Reg.CAS_STATUS.WRAP_W.key) :
    ∀ g, g = wrapFld east → f.key ≠ g.key ∨ f.dom ≠ g.dom := by
  rintro _ rfl
  cases east
  · exact .inl hf.2
  · exact .inl hf.1

theorem wrap_flag (h : s.filesOk = true) (east : Bool) : (s.wrap east).flag (wrapFld east) = true := by
  unfold State.wrap
  split
  · assumption
  · have hset : (s.setFlag (wrapFld east) true).flag (wrapFld east) = true := flag_setFlag h (by cases east <;> rfl)
    refine (Spares.flag (P := (· = wrapFld east)) ?_ rfl).trans hset
    refine Spares.irq (ne_wrapFld east (by decide)) (Spares.count (ne_wrapFld east (by decide)) (Spares.set (ne_wrapFld east ?_) (Spares.refl _ _)))
    cases east <;> decide

/-- A change of L writes its own field, and those of the event and the interrupt. -/
theorem spares_setLanes (s : State) (east : Bool) (l : Nat) : Spares (· = wrapFld east) s (s.setLanes east l) := by
  refine Spares.ite (Spares.refl _ s) (Spares.irq (ne_wrapFld east (by decide)) (Spares.log ?_ ((Spares.refl _ s).set (ne_wrapFld east ?_))))
  · rintro _ rfl
    cases east <;> decide
  · cases east <;> decide

theorem setLanes_lanes (h : s.filesOk = true) (east : Bool) (l : Nat) : (s.setLanes east l).get (lanesFld east) = l % 8 := by
  unfold State.setLanes
  split
  · assumption
  · have hset : (s.set (lanesFld east) l).get (lanesFld east) = l % 8 := by
      rw [State.get_set h]
      cases east <;> rfl
    refine (Spares.get_eq (P := (· = lanesFld east)) ?_ _ rfl).trans hset
    refine Spares.irq ?_ (Spares.log ?_ (Spares.refl _ _)) <;> rintro _ rfl <;> cases east <;> decide

theorem lost_shows (h : s.filesOk = true) (east : Bool) :
    ((s.wrap east).setLanes east 0).flag (wrapFld east) = true ∧ ((s.wrap east).setLanes east 0).get (lanesFld east) = 0 :=
  ⟨((spares_setLanes _ east 0).flag rfl).trans (wrap_flag h east), setLanes_lanes ((moves_wrap s east).files h) east 0⟩

theorem goes_neighbourAbsent (h : s.filesOk = true) (hcas : s.roast.has 0x60 = true) (east locked : Bool) :
    Goes (.neighbourAbsent east locked) s fun t => t.flag (wrapFld east) = true ∧ (locked = false → t.get (lanesFld east) = 0) := by
  refine ⟨_, congrArg Host.Outcome.next (if_pos hcas), ?_⟩
  cases locked with
  | true => exact ⟨wrap_flag h east, nofun⟩
  | false => exact ⟨(lost_shows h east).1, fun _ => (lost_shows h east).2⟩

theorem goes_laneLoss (h : s.filesOk = true) (hcas : s.roast.has 0x60 = true) (east : Bool) :
    Goes (.laneLoss east) s fun t => t.flag (wrapFld east) = true ∧ t.get (lanesFld east) = 0 :=
  ⟨_, congrArg Host.Outcome.next (if_pos hcas), lost_shows h east⟩

theorem goes_laneRetrainDone (h : s.filesOk = true) (hcas : s.roast.has 0x60 = true) (east : Bool) (lanes : Nat) :
    Goes (.laneRetrainDone east lanes) s fun t => t.get (lanesFld east) = min 4 lanes := by
  refine ⟨_, congrArg Host.Outcome.next (if_pos hcas), ?_⟩
  refine (setLanes_lanes h east _).trans ?_
  omega

theorem goes_ringUnwrap (h : s.filesOk = true) (hcas : s.roast.has 0x60 = true) (hlanes : s.get (lanesFld east) ≠ 0) :
    Goes (.ringUnwrap east) s fun t => t.flag (wrapFld east) = false ∧ Keeps [wrapFld east] [] s t := by
  refine ⟨_, congrArg Host.Outcome.next (if_pos (by simp [hcas, hlanes])), flag_setFlag h (by cases east <;> rfl), ?_⟩
  exact (Keeps.refl _ _ s).setFlag (by simp)

/-! ### Tokens (R508, R512) -/

/-- The generations and the arrival times of the tokens seen, and the tokens held, stand as they stood. -/
structure TokensAlike (s t : State) : Prop where
  gens : t.cas.gens = s.cas.gens
  seenAt : t.cas.seenAt = s.cas.seenAt

theorem TokensAlike.refl (s : State) : TokensAlike s s := ⟨rfl, rfl⟩

theorem TokensAlike.trans {t : State} (h : TokensAlike s u) (k : TokensAlike u t) : TokensAlike s t :=
  ⟨k.gens.trans h.gens, k.seenAt.trans h.seenAt⟩

theorem ringEmit_cas (s : State) (ring : Nat) (f : Nat → Output) : (s.ringEmit ring f).cas = s.cas := (moves_ringEmit ..).touches.2 .cas rfl

theorem tokensAlike_ringEmit (s : State) (ring : Nat) (f : Nat → Output) : TokensAlike s (s.ringEmit ring f) :=
  ⟨by rw [ringEmit_cas], by rw [ringEmit_cas]⟩

theorem tokensAlike_sentMark (s : State) (m : RingMsg) : TokensAlike s (s.sentMark m) := by
  unfold State.sentMark
  split
  · exact ⟨rfl, rfl⟩
  · exact ⟨by rw [State.count, State.set_cas], by rw [State.count, State.set_cas]⟩
  · exact TokensAlike.refl s

/-- Sending while a token is held moves no token. -/
theorem tokensAlike_sendOut (ring k : Nat) : ∀ (s : State) (room : Nat), TokensAlike s (s.sendOut ring k room).1 := by
  induction k with
  | zero => exact fun s _ => TokensAlike.refl s
  | succ k ih =>
    intro s room
    unfold State.sendOut
    split
    · exact TokensAlike.refl s
    · next o _ =>
      split
      · refine TokensAlike.trans (.trans (.trans ?_ (tokensAlike_sentMark _ o.m)) (tokensAlike_ringEmit ..)) (ih _ _)
        exact ⟨rfl, rfl⟩
      · exact TokensAlike.refl s

theorem tokensAlike_passToken (s : State) (ring gen : Nat) : TokensAlike s (s.passToken ring gen) := by
  refine TokensAlike.trans ?_ (tokensAlike_ringEmit ..)
  exact ⟨rfl, rfl⟩

/-- A token of a current generation as it is noted, before anything is sent. -/
def State.tokenSeen (s : State) (ring gen : Nat) : State :=
  { s with cas := { s.cas with gens := aset ring gen s.cas.gens, seenAt := aset ring s.time.elapsed s.cas.seenAt } }

/-- What happens to a token once the device has sent: it is passed on, or held with the room that is left. -/
def State.holdOrPass (ring gen : Nat) (r : State × Option Nat) : State :=
  match r.2 with
  | none => r.1.passToken ring gen
  | some room => { r.1 with cas := { r.1.cas with token := aset ring gen r.1.cas.token, room := aset ring room r.1.cas.room } }

theorem takeToken_eq {ring gen : Nat} (hgen : (alookup ring s.cas.gens).getD 0 ≤ gen) : s.takeToken ring gen =
    .holdOrPass ring gen ((s.tokenSeen ring gen).sendOut ring s.cas.out.length ((s.tokenSeen ring gen).holdBytes ring)) :=
  if_neg (Nat.not_lt.mpr hgen)

theorem tokensAlike_holdOrPass (ring gen : Nat) (r : State × Option Nat) : TokensAlike r.1 (.holdOrPass ring gen r) := by
  unfold State.holdOrPass
  split
  · exact tokensAlike_passToken ..
  · exact ⟨rfl, rfl⟩

theorem takeToken_alike {ring gen : Nat} (hgen : (alookup ring s.cas.gens).getD 0 ≤ gen) :
    TokensAlike (s.tokenSeen ring gen) (s.takeToken ring gen) := by
  rw [takeToken_eq hgen]
  exact (tokensAlike_sendOut ..).trans (tokensAlike_holdOrPass ..)

theorem takeToken_notes {ring gen : Nat} (hgen : (alookup ring s.cas.gens).getD 0 ≤ gen) :
    alookup ring (s.takeToken ring gen).cas.gens = some gen ∧ alookup ring (s.takeToken ring gen).cas.seenAt = some s.time.elapsed := by
  rw [(takeToken_alike hgen).gens, (takeToken_alike hgen).seenAt]
  exact ⟨alookup_aset_self .., alookup_aset_self ..⟩

/-- With nothing to send a token goes on at once. -/
theorem takeToken_idle {ring gen : Nat} (hgen : (alookup ring s.cas.gens).getD 0 ≤ gen) (hout : s.cas.out = []) :
    s.takeToken ring gen = (s.tokenSeen ring gen).passToken ring gen := by
  rw [takeToken_eq hgen, hout]
  rfl

theorem alookup_passToken (s : State) (ring gen : Nat) : alookup ring (s.passToken ring gen).cas.token = none := by
  rw [passToken_token]
  exact alookup_aerase_self ..

theorem goes_tokenReceive {ring gen : Nat} (hcas : s.roast.has 0x60 = true) (hring : ring < 2)
    (hgen : (alookup ring s.cas.gens).getD 0 ≤ gen) (t : Tai) : Goes (.tokenReceive ring gen t) s fun v =>
      alookup ring v.cas.gens = some gen ∧ alookup ring v.cas.seenAt = some (s.moveTo t).time.elapsed ∧
      (s.cas.out = [] → alookup ring v.cas.token = none) := by
  have hmove := moves_moveTo s t
  have hsame : (s.moveTo t).cas = s.cas := hmove.touches.2 .cas rfl
  have hgen' : (alookup ring (s.moveTo t).cas.gens).getD 0 ≤ gen := by rwa [hsame]
  obtain ⟨hgens, hseen⟩ := takeToken_notes hgen'
  refine ⟨(s.moveTo t).takeToken ring gen, ?_, hgens, hseen, fun hout => ?_⟩
  · show execTokenReceive ring gen t s = _
    simp only [execTokenReceive, hmove.roast_eq rfl rfl, hcas, if_true, Nat.mod_eq_of_lt hring]
  · rw [takeToken_idle hgen' (by rwa [hsame])]
    exact alookup_passToken ..

theorem goes_tokenHoldExpiry {ring gen : Nat} (hring : ring < 2) (htoken : alookup ring s.cas.token = some gen) (t : Tai) :
    Goes (.tokenHoldExpiry ring t) s fun v => alookup ring v.cas.token = none ∧ Keeps [] [.time, .cas, .out] s v := by
  have hmove := moves_moveTo s t
  have hsame : (s.moveTo t).cas = s.cas := hmove.touches.2 .cas rfl
  obtain ⟨v, hv, hexec⟩ : ∃ v, Moves [.cas, .out] (s.moveTo t) v ∧ exec (.tokenHoldExpiry ring t) s = .next (v.passToken ring gen) := by
    cases hnext : (s.moveTo t).nextOut ring with
    | none =>
      refine ⟨s.moveTo t, Moves.refl _ _, ?_⟩
      show execTokenHoldExpiry ring t s = _
      simp only [execTokenHoldExpiry, Nat.mod_eq_of_lt hring, hsame, htoken, hnext]
    | some o =>
      refine ⟨({ s.moveTo t with cas := { s.cas with out := s.cas.out.map fun x =>
        if x = o then { o with left := o.left - min ((alookup ring s.cas.room).getD 0) (o.left - 1) } else x } }).ringEmit ring
          fun p => .ringPart p (min ((alookup ring s.cas.room).getD 0) (o.left - 1)), ?_, ?_⟩
      · exact Moves.step (moves_ringEmit ..) rfl (Moves.upd rfl rfl rfl rfl (Moves.refl _ _))
      · show execTokenHoldExpiry ring t s = _
        simp only [execTokenHoldExpiry, Nat.mod_eq_of_lt hring, hsame, htoken, hnext]
  refine ⟨v.passToken ring gen, hexec, alookup_passToken .., ?_⟩
  exact (((Keeps.refl _ _ s).moves hmove rfl).moves hv rfl).moves (moves_passToken ..) rfl

theorem goes_tokenRegenerate {ring : Nat} {t : Tai} (hcas : s.roast.has 0x60 = true) (hring : ring < 2) (hop : s.operating = true)
    (hquiet : (alookup ring s.cas.seenAt).getD 0 + 2 * s.rotation + 10 * usUnit ≤ (s.moveTo t).time.elapsed)
    (hlowest : ∀ p, p < s.casId → s.bit Reg.CAS_PEER.PRESENT p = false) (htoken : alookup ring s.cas.token = none) :
    Goes (.tokenRegenerate ring t) s fun v => alookup ring v.cas.gens = some ((alookup ring s.cas.gens).getD 0 + 1) := by
  have hmove := moves_moveTo s t
  have hsame : (s.moveTo t).cas = s.cas := hmove.touches.2 .cas rfl
  have hget (g : Fld) : (s.moveTo t).get g = s.get g := get_moves hmove rfl g
  have hroast : (s.moveTo t).roast = s.roast := hmove.roast_eq rfl rfl
  have hbit (p : Nat) : (s.moveTo t).bit Reg.CAS_PEER.PRESENT p = s.bit Reg.CAS_PEER.PRESENT p := by rw [State.bit, State.bit, hget]
  have hrotation : (s.moveTo t).rotation = s.rotation := by simp only [State.rotation, State.present, hroast, hbit]
  have hid : (s.moveTo t).casId = s.casId := hget _
  have hoperating : (s.moveTo t).operating = true := by rwa [State.operating, hget]
  have hall : ((List.range s.casId).all fun p => !s.bit Reg.CAS_PEER.PRESENT p) = true := by
    simpa using hlowest
  let gen := (alookup ring s.cas.gens).getD 0 + 1
  have hcount : ((s.moveTo t).count Reg.CAS.TOKEN_REGEN).cas = s.cas := (State.set_cas ..).trans hsame
  refine ⟨((s.moveTo t).count Reg.CAS.TOKEN_REGEN).takeToken ring gen, ?_, (takeToken_notes ?_).1⟩
  · show execTokenRegenerate ring t s = _
    simp only [execTokenRegenerate, Nat.mod_eq_of_lt hring, hsame, hroast, hbit, hrotation, hid, hoperating, hall, hcas, htoken, decide_eq_true hquiet,
      Option.isNone_none, Bool.and_self, if_true]
    rfl
  · rw [hcount]
    exact Nat.le_succ _

end

/-- Settles O42: lanes and wraps side by side, and the tokens by what a holding does. -/
theorem ringsWrapAndPassTokens : Obligations.RingsWrapAndPassTokens := by
  unfold Obligations.RingsWrapAndPassTokens
  intro s h hcas
  exact ⟨goes_neighbourAbsent h hcas, goes_laneLoss h hcas, goes_laneRetrainDone h hcas, fun _ => goes_ringUnwrap h hcas,
    fun _ _ t hring hgen => goes_tokenReceive hcas hring hgen t, fun _ _ t hring htoken => goes_tokenHoldExpiry hring htoken t,
    fun _ _ hring hop hquiet hlowest htoken => goes_tokenRegenerate hcas hring hop hquiet hlowest htoken⟩

end Sys2Proof.Machine

namespace Sys2Proof.Machine

/-! ### The bits of a mask -/

theorem testBit_add_two_pow_of_clear {u k j : Nat} (h : u.testBit k = false) (hj : j ≠ k) : (u + 2 ^ k).testBit j = u.testBit j := by
  rcases Nat.lt_or_gt_of_ne hj with hj | hj
  · exact Nat.testBit_two_pow_add_gt hj u ▸ by rw [Nat.add_comm]
  · have hclear : u / 2 ^ k % 2 = 0 := by
      simpa [Nat.testBit_eq_decide_div_mod_eq] using h
    have hhigh (x : Nat) : x.testBit j = (x / 2 ^ k / 2).testBit (j - (k + 1)) := by
      rw [Nat.div_div_eq_div_mul, ← pow_succ, Nat.testBit_div_two_pow, Nat.sub_add_cancel hj]
    rw [hhigh, hhigh u, Nat.add_div_right _ (Nat.two_pow_pos k)]
    congr 1
    omega

/-- Clearing a set bit is undone by adding its weight, so one lemma about the sum serves both directions. -/
theorem bitAt_setBit_of_ne {j k : Nat} (hj : j ≠ k) (v : Nat) (b : Bool) : bitAt (setBit v k b) j = bitAt v j := by
  unfold setBit
  cases hset : bitAt v k
  · cases b
    · rfl
    · simpa [bitAt_eq_testBit] using testBit_add_two_pow_of_clear (bitAt_eq_testBit v k ▸ hset) hj
  · cases b
    · have hle : 2 ^ k ≤ v := Nat.ge_two_pow_of_testBit (bitAt_eq_testBit v k ▸ hset)
      have hclear : (v - 2 ^ k).testBit k = false := by
        have hself := bitAt_setBit_self v k false
        rwa [setBit, if_pos hset, if_neg Bool.false_ne_true, bitAt_eq_testBit] at hself
      have hsame := testBit_add_two_pow_of_clear hclear hj
      rw [Nat.sub_add_cancel hle] at hsame
      simpa [bitAt_eq_testBit] using hsame.symm
    · rfl

section
variable {s u : State} {t : Tai}

theorem bit_putBit_of_ne (h : s.filesOk = true) {f : Fld} {j k : Nat} (hj : j < f.width) (hne : j ≠ k) (b : Bool) :
    (s.putBit f k b).bit f j = s.bit f j := by
  rw [State.bit, State.putBit, State.get_set h, bitAt_mod_two_pow hj, bitAt_setBit_of_ne hne]
  rfl

/-- Clearing the bits of a list one by one clears exactly those. -/
theorem bit_foldl_clear {f : Fld} {j : Nat} (hj : j < f.width) (l : List Nat) (h : s.filesOk = true) :
    (l.foldl (fun s p => s.putBit f p false) s).bit f j = (s.bit f j && !l.contains j) := by
  induction l generalizing s with
  | nil => simp
  | cons p l ih =>
    have hfiles : (s.putBit f p false).filesOk = true := State.filesOk_set h
    rw [List.foldl_cons, ih hfiles]
    by_cases hp : j = p
    · subst hp
      simp [bit_putBit_self h hj]
    · rw [bit_putBit_of_ne h hj hp]
      simp [hp]

/-! ### TAKE and RELEASE (R517, R518) -/

theorem filter_bitAt_two_pow : ∀ p < 8, (List.range 8).filter (bitAt (2 ^ p)) = [p] := by decide

theorem goes_casTake {who : Requester} {p : Nat} (h : Ready s who) (hcas : s.roast.has 0x60 = true) (hp : p < 8)
    (hstandby : bitAt s.roast.standbyFor p = true) (htaken : s.bit Reg.CAS_PEER.TAKEN p = false) (htakes : s.cas.takes = [])
    (hmay : s.mayTake p = true) (horiginates : s.originates (.takeover p) = true) : Goes (.casTake who (2 ^ p)) s fun v =>
      v.cas.takes = [(p, none)] ∧ v.cas.seq = (s.cas.seq + 1) % 2 ^ 32 ∧ Keeps [] [.cas] s v := by
  let noted : State := { s with cas := { s.cas with takes := [(p, none)] } }
  have hnoted : noted.originates (.takeover p) = true := horiginates
  have htake : s.takeover p = noted.originate [0, 1] (s.get Reg.ALN_LAST_CLOSE.SLICE) (.takeover p) := by
    simp only [State.takeover, hstandby, htaken, htakes, hmay, horiginates, List.any_nil]
    rfl
  have hsent : noted.originate [0, 1] (s.get Reg.ALN_LAST_CLOSE.SLICE) (.takeover p) = _ := if_neg (by simp [hnoted])
  refine goes_guarded h rfl ?_
  rw [if_pos hcas, filter_bitAt_two_pow p hp]
  show _ ∧ _ ∧ Keeps [] [.cas] s (s.takeover p)
  refine ⟨?_, ?_, ?_⟩
  · show (s.takeover p).cas.takes = _
    rw [htake, hsent]
  · show (s.takeover p).cas.seq = _
    rw [htake, hsent]
  · rw [htake]
    refine Keeps.moves (moves_originate ..) rfl ?_
    exact (Keeps.refl _ _ s).upd rfl rfl rfl rfl

theorem goes_casRelease {who : Requester} (h : Ready s who) (mask : Nat) : Goes (.casRelease who mask) s fun v =>
    (∀ p, p < 8 → v.bit Reg.CAS_PEER.TAKEN p = (s.bit Reg.CAS_PEER.TAKEN p && !bitAt mask p)) ∧ Keeps [Reg.CAS_PEER.TAKEN] [] s v := by
  refine goes_guarded h rfl ⟨fun p hp => (bit_foldl_clear hp _ h.1).trans ?_, ?_⟩
  · simp [hp]
  · exact Keeps.foldl (fun _ _ _ => (Keeps.refl _ _ _).putBit (by simp)) (Keeps.refl _ _ s)

/-! ### Messages on the rings (R505, R509) -/

/-- With the aligner stopped, and left so, an instant's work is all that an instant does. -/
theorem atInstant_down {f : State → State} (hu : u = s.moveTo t) (hdown : u.alnUp = false) (hf : (f u).alnUp = false) :
    s.atInstant t f = f u := by
  rw [State.atInstant, ← hu, closes_down hdown, closes_down hf]

theorem goes_ringMessage_bad (hfiles : u.filesOk = true) (hu : u = s.moveTo t) (hdown : u.alnUp = false) (hcas : u.roast.has 0x60 = true)
    (ring : Nat) (m : RingMsg) (link : Option Nat) : Goes (.ringMessageReceive ring m false link t) s fun v =>
      Counted Reg.CAS.MSG_BAD u v ∧ Keeps [Reg.CAS.MSG_BAD] [.time] s v := by
  have hbad : u.ringReceive (ring % 2) m false link t = u.count Reg.CAS.MSG_BAD :=
    (if_neg (by simp [hcas])).trans (if_pos rfl)
  have hkeeps : Keeps [Reg.CAS.MSG_BAD] [.time] u (u.count Reg.CAS.MSG_BAD) := (Keeps.refl _ _ u).count (by simp)
  refine ⟨_, congrArg Host.Outcome.next ((atInstant_down hu hdown ?_).trans hbad), counted_count hfiles _, hkeeps.of_moveTo hu rfl⟩
  rw [hbad]
  exact (flag_eq_of_get_eq (hkeeps.get (by decide))).trans hdown

/-- A peer's presence as it is noted: what the device knows of the peer, and its PRESENT bit. -/
def State.notePresence (s : State) (p n : Nat) (ok : Bool) (rate taken : Nat) : State :=
  (s.setPeer p { s.peer p with
    any := (n :: (s.peer p).any).take 256, healthy := if ok then (n :: (s.peer p).healthy).take 256 else (s.peer p).healthy
    quiet := 0, known := true, rate := rate, taken := taken }).putBit Reg.CAS_PEER.PRESENT p true

theorem peer_setPeer_self (s : State) (p : Nat) (x : Peer) : (s.setPeer p x).peer p = x := by
  simp [State.peer, State.setPeer]

theorem peers_releaseLater (s : State) (p : Nat) : (s.releaseLater p).cas.peers = s.cas.peers := by
  unfold State.releaseLater
  split <;> rfl

/-- Beyond the noted presence a device back from a failure is shown, and releases are set out. -/
theorem presence_notes (s : State) (p n : Nat) (ok : Bool) (rate taken : Nat) :
    (s.presence p n ok rate taken).cas.peers = (s.notePresence p n ok rate taken).cas.peers ∧
    Keeps [Reg.CAS_PEER.FAILED, Reg.CAS_PEER.BACK, Reg.CAS_IRQ.PEER] [.cas, .out] (s.notePresence p n ok rate taken) (s.presence p n ok rate taken) := by
  have hback (v : State) : (((v.putBit Reg.CAS_PEER.FAILED p false).putBit Reg.CAS_PEER.BACK p true).casIrq Reg.CAS_IRQ.PEER).cas.peers = v.cas.peers ∧
      Keeps [Reg.CAS_PEER.FAILED, Reg.CAS_PEER.BACK, Reg.CAS_IRQ.PEER] [.cas, .out] v
        (((v.putBit Reg.CAS_PEER.FAILED p false).putBit Reg.CAS_PEER.BACK p true).casIrq Reg.CAS_IRQ.PEER) := by
    refine ⟨congrArg Cascade.peers ((moves_casIrq ..).touches.2 .cas rfl), Keeps.irq (by simp) rfl ?_⟩
    exact ((Keeps.refl _ _ v).putBit (by simp)).putBit (by simp)
  have hrelease (v : State) (l : List Nat) : (l.foldl State.releaseLater v).cas.peers = v.cas.peers ∧
      Keeps [Reg.CAS_PEER.FAILED, Reg.CAS_PEER.BACK, Reg.CAS_IRQ.PEER] [.cas, .out] v (l.foldl State.releaseLater v) := by
    refine ⟨List.foldlRecOn l _ (motive := fun w => w.cas.peers = v.cas.peers) rfl fun w hw q _ => (peers_releaseLater w q).trans hw,
      Keeps.foldl (fun w q _ => ?_) (Keeps.refl _ _ v)⟩
    exact (Keeps.refl _ _ w).moves (moves_releaseLater w q) rfl
  have hboth {a b c : State} (h : b.cas.peers = a.cas.peers ∧ Keeps [Reg.CAS_PEER.FAILED, Reg.CAS_PEER.BACK, Reg.CAS_IRQ.PEER] [.cas, .out] a b)
      (k : c.cas.peers = b.cas.peers ∧ Keeps [Reg.CAS_PEER.FAILED, Reg.CAS_PEER.BACK, Reg.CAS_IRQ.PEER] [.cas, .out] b c) :
      c.cas.peers = a.cas.peers ∧ Keeps [Reg.CAS_PEER.FAILED, Reg.CAS_PEER.BACK, Reg.CAS_IRQ.PEER] [.cas, .out] a c :=
    ⟨k.1.trans h.1, h.2.trans k.2⟩
  unfold State.presence
  extract_lets x s1 s2 s3
  have hs3 : s3.cas.peers = s2.cas.peers ∧ Keeps [Reg.CAS_PEER.FAILED, Reg.CAS_PEER.BACK, Reg.CAS_IRQ.PEER] [.cas, .out] s2 s3 := by
    unfold s3
    split
    · exact hback s2
    · exact ⟨rfl, Keeps.refl _ _ s2⟩
  split
  · exact hboth hs3 (hrelease s3 _)
  · exact hs3

/-- A peer whose tag has changed is a new one: its first message takes effect, whatever its number. -/
theorem ringTakes_presence_first {m : RingMsg} {ok : Bool} {rate tag le lw taken : Nat} (hbody : m.body = .presence ok rate tag le lw taken)
    (htag : (s.peer m.id).tag ≠ m.tag) (t : Tai) : s.ringTakes m t =
      (s.setPeer m.id { s.peer m.id with tag := m.tag, seq := some m.seq, seen := [m.seq] }).presence m.id m.n ok rate taken := by
  simp only [State.ringTakes, if_neg htag, hbody]
  rfl

theorem goes_ringMessage_presence {m : RingMsg} {ok : Bool} {rate tag le lw taken : Nat} (hfiles : u.filesOk = true) (hu : u = s.moveTo t)
    (hdown : u.alnUp = false) (hcas : u.roast.has 0x60 = true) (hid : m.id < 8) (hother : m.id ≠ u.casId)
    (hbody : m.body = .presence ok rate tag le lw taken) (htag : (u.peer m.id).tag ≠ m.tag) (ring : Nat) :
    Goes (.ringMessageReceive ring m true none t) s fun v =>
      v.bit Reg.CAS_PEER.PRESENT m.id = true ∧ (v.peer m.id).known = true ∧ (v.peer m.id).quiet = 0 := by
  let known := u.setPeer m.id { u.peer m.id with tag := m.tag, seq := some m.seq, seen := [m.seq] }
  let noted := known.notePresence m.id m.n ok rate taken
  have hreceive : u.ringReceive (ring % 2) m true none t = (known.presence m.id m.n ok rate taken).ringEmit (ring % 2) (.ring · m) := by
    rw [← ringTakes_presence_first hbody htag t]
    simp only [State.ringReceive, hcas, hother, false_and, if_false]
    rfl
  obtain ⟨hpeers, hkeeps⟩ := presence_notes known m.id m.n ok rate taken
  have hemit : (u.ringReceive (ring % 2) m true none t).cas.peers = noted.cas.peers := by
    rw [hreceive, ringEmit_cas, hpeers]
  have hkeeps : Keeps [Reg.CAS_PEER.FAILED, Reg.CAS_PEER.BACK, Reg.CAS_IRQ.PEER] [.cas, .out] noted (u.ringReceive (ring % 2) m true none t) := by
    rw [hreceive]
    exact hkeeps.moves (moves_ringEmit ..) rfl
  have hpeer : (u.ringReceive (ring % 2) m true none t).peer m.id = noted.peer m.id := by
    rw [State.peer, hemit]
    rfl
  have hself : noted.peer m.id = _ := peer_setPeer_self known m.id _
  have hnoted : Keeps [Reg.CAS_PEER.PRESENT] [.cas] u noted :=
    (((Keeps.refl _ _ u).moves (moves_setPeer ..) rfl).moves (moves_setPeer ..) rfl).putBit (by simp)
  refine ⟨_, congrArg Host.Outcome.next (atInstant_down hu hdown ?_), ?_, ?_, ?_⟩
  · exact (flag_eq_of_get_eq ((hkeeps.get (by decide)).trans (hnoted.get (by decide)))).trans hdown
  · have hbit : noted.bit Reg.CAS_PEER.PRESENT m.id = true := bit_putBit_self (by exact hfiles) hid true
    exact (congrArg (bitAt · m.id) (hkeeps.get (by decide))).trans hbit
  · rw [hpeer, hself]
  · rw [hpeer, hself]

/-! ### CAS_PPS (R519) -/

theorem goes_casPpsDrive (hu : u = s.moveTo t) (hsecond : t % secUnit = 0) (hop : u.operating = true) (hcas : u.roast.has 0x60 = true)
    (hmaster : u.roast.ppsMaster = u.casId) (hvalid : u.flag Reg.TSU_STATUS.TIME_VALID = true) :
    Goes (.casPpsDrive t) s fun v => v.pins.casPpsLow = true ∧ Keeps [] [.time, .pins] s v := by
  subst hu
  refine ⟨_, congrArg Host.Outcome.next (if_pos (by simp [hsecond, hop, hcas, hmaster, hvalid])), rfl, ?_⟩
  exact ((Keeps.refl _ _ s).moves (moves_moveTo s t) rfl).upd rfl rfl rfl rfl

theorem exec_casPpsDrive_elsewhere (hu : u = s.moveTo t)
    (helse : t % secUnit ≠ 0 ∨ u.roast.ppsMaster ≠ u.casId ∨ u.flag Reg.TSU_STATUS.TIME_VALID = false) : exec (.casPpsDrive t) s = .next u := by
  subst hu
  refine congrArg Host.Outcome.next (if_neg ?_)
  rcases helse with helse | helse | helse <;> simp [helse]

theorem goes_casPpsEdge (hu : u = s.moveTo t) (code : Nat) :
    Goes (.casPpsEdge ⟨t, code⟩) s fun v => v.cas.ppsAt = u.time.elapsed ∧ v.cas.ppsMissed = false := by
  subst hu
  have hirq (v : State) : (v.casIrq Reg.CAS_IRQ.PPS).cas = v.cas := (moves_casIrq ..).touches.2 .cas rfl
  refine ⟨_, rfl, ?_⟩
  dsimp only
  split
  · rw [hirq]
    exact ⟨rfl, rfl⟩
  · exact ⟨rfl, rfl⟩

theorem goes_casPpsMiss (hfiles : u.filesOk = true) (hu : u = s.moveTo t) (hmissed : u.cas.ppsMissed = false)
    (hlate : 2 * u.cas.ppsAt + 3 * secUnit ≤ 2 * u.time.elapsed) : Goes (.casPpsMiss t) s fun v =>
      v.cas.ppsMissed = true ∧ Counted Reg.CAS.PPS_MISS u v ∧ Keeps [Reg.CAS.PPS_MISS] [.time, .cas] s v := by
  subst hu
  refine ⟨_, congrArg Host.Outcome.next (if_pos (by simp [hmissed, hlate])), rfl, counted_count (by exact hfiles) _, Keeps.count (by simp) ?_⟩
  exact ((Keeps.refl _ _ s).moves (moves_moveTo s t) rfl).upd rfl rfl rfl rfl

end

/-- Settles O43: the masks of TAKE and RELEASE bit by bit, the messages with the aligner stopped, and CAS_PPS. -/
theorem cascadeCommands : Obligations.CascadeCommands := by
  unfold Obligations.CascadeCommands
  intro s u t h hu
  have hfiles : u.filesOk = true := hu ▸ (moves_moveTo s t).files h
  exact ⟨fun _ _ => goes_casTake, fun _ mask hready => goes_casRelease hready mask,
    fun ring m link hdown hcas => goes_ringMessage_bad hfiles hu hdown hcas ring m link,
    fun ring _ _ _ _ _ _ _ hdown hcas hid hother hbody htag => goes_ringMessage_presence hfiles hu hdown hcas hid hother hbody htag ring,
    goes_casPpsDrive hu, exec_casPpsDrive_elsewhere hu, ⟨_, rfl, rfl, (Keeps.refl _ _ s).upd rfl rfl rfl rfl⟩, goes_casPpsEdge hu,
    goes_casPpsMiss hfiles hu⟩

end Sys2Proof.Machine

namespace Sys2Proof.Machine

/-! ### Fuses and floors (R458, R462) -/

section
variable {s : State} {who : Requester} {c : Instr}

theorem goes_blowFuse (h : Ready s who) {lcs : List Nat} {f : Fuses → Fuses} (hc : exec c s = .next (s.blowFuse who lcs f)) :
    (s.get Reg.SEC_STATUS.LIFECYCLE ∈ lcs → Goes c s fun v =>
      v.fuses = f s.fuses ∧ v.get Reg.SEC_STATUS.LIFECYCLE = s.get Reg.SEC_STATUS.LIFECYCLE) ∧
    (s.get Reg.SEC_STATUS.LIFECYCLE ∉ lcs → Goes c s fun v => Counted Reg.SEC.KEY_REFUSED s v ∧ Keeps [Reg.SEC.KEY_REFUSED] [] s v) := by
  constructor
  · intro hin
    refine goes_guarded h hc ?_
    rw [if_pos hin]
    let blown : State := { s with fuses := f s.fuses }
    have hlog : Keeps (logFields (evCode 5 0)) [.evr, .out] blown (blown.log (evCode 5 0) 0 []) :=
      Keeps.log (fun _ m => m) rfl rfl (Keeps.refl _ _ blown)
    exact ⟨(moves_log ..).touches.2 .fuses rfl, hlog.get (by decide)⟩
  · intro hout
    refine goes_guarded h hc ?_
    rw [if_neg hout]
    exact ⟨counted_count h.1 _, (Keeps.refl _ _ s).count (by simp)⟩

theorem goes_burnFloor (h : Ready s who) (hlc : s.get Reg.SEC_STATUS.LIFECYCLE ∈ [2, 3]) : Goes (.burnFloor who) s fun v =>
    v.fuses = { s.fuses with fwSvn := max s.fuses.fwSvn (min s.fw.stage1Svn 64) } ∧ Keeps [] [.fuses] s v := by
  refine goes_guarded h rfl ?_
  rw [if_pos (by simpa using hlc)]
  exact ⟨rfl, (Keeps.refl _ _ s).upd rfl rfl rfl rfl⟩

theorem exec_burnFloor_elsewhere (h : Ready s who) (hlc : s.get Reg.SEC_STATUS.LIFECYCLE ∉ [2, 3]) : exec (.burnFloor who) s = .next s := by
  refine congrArg Host.Outcome.next ((h.guarded ..).trans (if_neg ?_))
  simpa using hlc

section
variable {r : JournalRec}

theorem exec_secRaiseFloor_without (h : Ready s who) (hnone : s.nvs.journal = none) (rb : Bool) : exec (.secRaiseFloor who rb) s = .next s := by
  refine congrArg Host.Outcome.next ((h.guarded ..).trans ?_)
  rw [hnone]

theorem exec_secRaiseFloor_high (h : Ready s who) (hr : s.nvs.journal = some r) (hhigh : s.fw.stage1Svn ≤ r.fwFloor) (rb : Bool) :
    exec (.secRaiseFloor who rb) s = .next s := by
  refine congrArg Host.Outcome.next ((h.guarded ..).trans ?_)
  rw [hr]
  exact if_neg (Nat.not_lt.mpr hhigh)

/-- The journal with the running stage-1 SVN for its floor. -/
def State.floorPut (s : State) (r : JournalRec) (rb : Bool) : State := s.journalPut { r with fwFloor := s.fw.stage1Svn } rb

theorem exec_secRaiseFloor (h : Ready s who) (hr : s.nvs.journal = some r) (hlow : r.fwFloor < s.fw.stage1Svn) (rb : Bool) :
    exec (.secRaiseFloor who rb) s = .next ((s.floorPut r rb).set Reg.SEC_FW_FLOOR.SVN (s.floorPut r rb).fwFloor) := by
  refine congrArg Host.Outcome.next ((h.guarded ..).trans ?_)
  rw [hr]
  exact if_pos hlow

theorem goes_secRaiseFloor_good (h : Ready s who) (hr : s.nvs.journal = some r) (hlow : r.fwFloor < s.fw.stage1Svn) :
    Goes (.secRaiseFloor who true) s fun v => v.nvs.journal.map (·.fwFloor) = some s.fw.stage1Svn ∧
      Counted Reg.SEC.JOURNAL_WRITES s v ∧ Keeps [Reg.SEC.JOURNAL_WRITES, Reg.SEC_FW_FLOOR.SVN] [.nvs] s v := by
  refine ⟨_, exec_secRaiseFloor h hr hlow true, ?_, ?_, ?_⟩
  · rw [State.set_nvs, State.floorPut, journalPut_written hr (r' := { r with fwFloor := s.fw.stage1Svn }) rfl]
    rfl
  · exact (counted_count (by exact h.1) Reg.SEC.JOURNAL_WRITES).then (State.get_set_ne (.inl (by decide)))
  · have hput : Keeps [Reg.SEC.JOURNAL_WRITES, Reg.SEC_FW_FLOOR.SVN] [.nvs] s (s.floorPut r true) := by
      unfold State.floorPut State.journalPut
      exact Keeps.count (by simp) ((Keeps.refl _ _ s).upd rfl rfl rfl rfl)
    exact hput.set (by simp)

theorem goes_secRaiseFloor_bad (h : Ready s who) (hr : s.nvs.journal = some r) (hlow : r.fwFloor < s.fw.stage1Svn) :
    Goes (.secRaiseFloor who false) s fun v => v.nvs.journal = some r ∧ v.flag Reg.SEC_IRQ.JOURNAL = true := by
  refine ⟨_, exec_secRaiseFloor h hr hlow false, ?_, ?_⟩
  · rw [State.set_nvs, State.floorPut, journalPut_failed hr]
  · refine (flag_eq_of_get_eq (State.get_set_ne (.inl (by decide)))).trans ?_
    exact flag_irq (State.filesOk_set (by exact h.1)) rfl ..

end

/-! ### The tamper latch's clear (R474) -/

theorem goes_secTamperClr (h : Ready s who) (hkilled : s.fuses.killed = false) : Goes (.secTamperClr who 0x7A4D0001 false) s fun v =>
    v.flag Reg.SEC_TAMPER_LATCH.VALID = false ∧ v.bit Reg.BOOT_HEALTH.COND 8 = true := by
  refine goes_guarded h rfl ?_
  rw [if_pos (by simp [hkilled])]
  have hfiles : ((s.set Reg.SEC_TAMPER_LATCH.SOURCE 0).set Reg.SEC_TAMPER_LATCH.PHASE 0).filesOk = true :=
    State.filesOk_set (State.filesOk_set h.1)
  refine ⟨(flag_eq_of_get_eq ((health_keeps ..).get (by decide))).trans (flag_setFlag hfiles rfl), ?_⟩
  exact health_bit (filesOk_setFlag hfiles) (by decide) true

theorem exec_secTamperClr_refused (h : Ready s who) {key : Nat} {active : Bool}
    (hrefused : key ≠ 0x7A4D0001 ∨ active = true ∨ s.fuses.killed = true) : exec (.secTamperClr who key active) s = .next s := by
  refine congrArg Host.Outcome.next ((h.guarded ..).trans (if_neg ?_))
  rcases hrefused with hrefused | hrefused | hrefused <;> simp [hrefused]

end

/-! ### What a tamper's response leaves of the security block (R472, R473)

Quarantine writes no field between SEC_STATUS.QUARANTINE and KEY_STATUS.RESULT but the former, so one view serves for all it stops. -/

/-- The fields from SEC_STATUS.QUARANTINE to KEY_STATUS.RESULT. -/
def SecView (g : Fld) : Prop := Reg.SEC_STATUS.QUARANTINE.key ≤ g.key ∧ g.key ≤ Reg.KEY_STATUS.RESULT.key

theorem ne_secView {f : Fld} (hk : f.key < Reg.SEC_STATUS.QUARANTINE.key ∨ Reg.KEY_STATUS.RESULT.key < f.key) :
    ∀ g, SecView g → f.key ≠ g.key ∨ f.dom ≠ g.dom := by
  rintro g ⟨hlow, hhigh⟩
  left
  omega

/-- Every element of an array above the view. -/
theorem ne_secView_ix {f : Fld} (hk : Reg.KEY_STATUS.RESULT.key < f.key) (i : Nat) :
    ∀ g, SecView g → (f.ix i).key ≠ g.key ∨ (f.ix i).dom ≠ g.dom :=
  fun _ hg => .inl (Fld.ix_above i (lt_of_le_of_lt hg.2 hk)).symm

theorem window_rwt_sec (w : Nat) : (Reg.window w).all (fun f => decide (f.acc ≠ .rwt) ||
    decide (Reg.KEY_STATUS.RESULT.key < f.key) || (decide (f.dims = []) && decide (f.key < Reg.SEC_STATUS.QUARANTINE.key))) = true := by
  unfold Reg.window
  split <;> decide +kernel

theorem ne_secView_staged {addr : Nat} {p : Fld × Fld × Nat} (hp : p ∈ fieldsAt addr) (hacc : p.1.acc = .rwt) :
    ∀ g, SecView g → p.2.1.key ≠ g.key ∨ p.2.1.dom ≠ g.dom := by
  obtain ⟨f0, hmem, hat⟩ := List.mem_filterMap.mp hp
  simp only [Fld.at?, Option.map_map, Option.map_eq_some_iff, Function.comp] at hat
  obtain ⟨⟨b, w⟩, hloc, rfl⟩ := hat
  obtain ⟨hle, heq⟩ := locate_base hloc
  have hplace := List.all_eq_true.mp (window_rwt_sec _) _ hmem
  simp only [Bool.or_eq_true, Bool.and_eq_true, decide_eq_true_eq] at hplace
  refine ne_secView ?_
  obtain (hne | habove) | ⟨hdims, hbelow⟩ := hplace
  · exact absurd hacc hne
  · have hkey : f0.key ≤ Fld.key { f0 with base := b, dims := [] } := by simp only [Fld.key]; omega
    exact .inr (habove.trans_le hkey)
  · have hsame : Fld.key { f0 with base := b, dims := [] } = f0.key := by simp only [Fld.key, heq hdims]
    exact .inl (hsame.trans_lt hbelow)

section
variable (s : State)

theorem sec_applyStaged (addr v : Nat) : Spares SecView s (s.applyStaged addr v) := by
  unfold State.applyStaged
  refine Spares.foldl (fun u p hp => ?_) (Spares.refl _ _)
  split
  · next h =>
    simp only [Bool.and_eq_true, decide_eq_true_eq] at h
    exact (Spares.refl _ _).set (ne_secView_staged hp h.1)
  · exact Spares.refl _ _

theorem sec_absentBits : Spares SecView s s.absentBits := by
  unfold State.absentBits State.putStreamBit
  refine Spares.foldl (fun u k _ => ?_) (Spares.foldl (fun u i _ => ?_) (Spares.refl _ _))
  · exact Spares.ite (Spares.refl _ _) ((Spares.refl _ _).set (ne_secView_ix (by decide) k))
  · exact Spares.ite ((Spares.refl _ _).set (ne_secView_ix (by decide) _)) (Spares.refl _ _)

theorem sec_txnApply : Spares SecView s s.txnApply := by
  unfold State.txnApply
  have hstaged : Spares SecView s (s.cfg.staged.foldl (fun s e => s.applyStaged e.1 e.2) s) :=
    Spares.foldl (fun u e _ => sec_applyStaged u e.1 e.2) (Spares.refl _ _)
  have hend (v : State) : Spares SecView v (v.txnEnd 1) := by
    have h : Spares SecView v { v with cfg := { v.cfg with staged := [] } } := (Spares.refl _ v).parts rfl rfl rfl
    exact (((((h.set (ne_secView (by decide))).set (ne_secView (by decide))).setFlag (ne_secView (by decide))).set
      (ne_secView (by decide))).setFlag (ne_secView (by decide))).moves (moves_emit ..) rfl
  refine Spares.trans (Spares.moves (moves_dropScan _) rfl (Spares.trans ?_ (sec_absentBits _))) (hend _)
  exact Spares.ite (hstaged.setFlag (ne_secView (by decide))) hstaged

theorem sec_swapUnhold : Spares SecView s s.swapUnhold := by
  have hend (v : State) (result : Nat) : Spares SecView v (v.swapEnd result) :=
    (((Spares.refl _ v).set (ne_secView (by decide))).set (ne_secView (by decide))).setFlag (ne_secView (by decide))
  have hjudge (v : State) : Spares SecView v v.swapJudge := by
    unfold State.swapJudge
    refine Spares.ite (hend ..) (Spares.ite (hend ..) (Spares.ite (hend ..) (Spares.ite (hend ..) ?_)))
    exact Spares.set (ne_secView (by decide)) (Spares.set (ne_secView (by decide)) (Spares.set (ne_secView (by decide))
      ((Spares.refl _ _).parts rfl rfl rfl)))
  exact Spares.ite (((Spares.refl _ s).set (ne_secView (by decide))).trans (hjudge _)) (Spares.refl _ _)

theorem sec_txnStopped : Spares SecView s s.txnStopped :=
  Spares.ite (Spares.refl _ _) (((sec_txnApply s).set (ne_secView (by decide))).trans (sec_swapUnhold _))

theorem sec_cutPulses : Spares SecView s s.cutPulses := by
  unfold State.cutPulses
  refine Spares.parts (Spares.foldl (fun u e _ => Spares.ite ?_ (Spares.refl _ _)) (Spares.refl _ s)) rfl rfl rfl
  exact Spares.set (ne_secView_ix (by decide) _) ((Spares.refl _ _).parts rfl rfl rfl)

theorem stoppedBlocks_above_sec : ∀ b ∈ stoppedBlocks, Reg.KEY_STATUS.RESULT.key < b.busy.key ∧ Reg.KEY_STATUS.RESULT.key < b.pend.key := by
  decide +kernel

theorem sec_stopBlocks : Spares SecView s s.stopBlocks := by
  refine Spares.foldl (fun u b hb => ?_) (Spares.refl _ _)
  obtain ⟨hbusy, hpend⟩ := stoppedBlocks_above_sec b hb
  exact ((Spares.refl _ _).setFlag (ne_secView (.inr hbusy))).setFlag (ne_secView (.inr hpend))

theorem sec_showSdm : Spares SecView s s.showSdm :=
  Spares.foldl (fun _ k _ => ((Spares.refl _ _).setFlag (ne_secView_ix (by decide) k)).set (ne_secView_ix (by decide) k)) (Spares.refl _ _)

theorem sec_health (k : Nat) (b : Bool) : Spares SecView s (s.health k b) :=
  Spares.parts ((Spares.refl _ s).set (ne_secView (by decide))) rfl rfl rfl

theorem evr_above_sec : ∀ f ∈ logFields (evCode 2 1), Reg.KEY_STATUS.RESULT.key < f.key := by decide

theorem sec_stopAll (step : Nat) : Spares SecView s (s.stopAll step) := by
  unfold State.stopAll
  extract_lets s1 s2 _ _ s3 s4
  have h1 : Spares SecView s s1 := ((sec_cutPulses s).moves (moves_nrgPush _) rfl).moves (moves_cutSave _) rfl
  have h2 : Spares SecView s s2 := h1.trans ((sec_stopBlocks _).trans ((sec_showSdm _).trans (sec_txnStopped _)))
  clear_value s2
  have h3 : Spares SecView s s3 := h2.parts rfl rfl rfl
  have hqueue : Spares SecView s s3.showQueue.safePins :=
    ((h3.set (ne_secView (by decide))).setFlag (ne_secView (by decide))).moves (moves_safePins _) rfl
  have hstep : Spares SecView s (((s3.showQueue.safePins.setFlag Reg.BOOT_STATUS.ROAST_REQ false).setFlag
      Reg.BOOT_STATUS.TIME_WAIT false).set Reg.BOOT_STATUS.SAFE_STEP step) :=
    ((hqueue.setFlag (ne_secView (by decide))).setFlag (ne_secView (by decide))).set (ne_secView (by decide))
  have h4 : Spares SecView s s4 := Spares.parts (Spares.setFlag (ne_secView (by decide)) ((hstep.trans (sec_health _ 1 false)).moves (moves_emit ..) rfl))
    rfl rfl rfl
  refine Spares.log (fun g hg f hf => .inl ?_) h4
  exact ((hg.2.trans_lt (evr_above_sec f hf))).ne

/-- What stops leaves no slice in work and no core running. -/
theorem stopAll_stops (step : Nat) : (s.stopAll step).runs = [] ∧ (s.stopAll step).sch.cores = [] ∧ (s.stopAll step).boot.released = false := by
  unfold State.stopAll
  extract_lets s1 s2 _ _ s3 s4
  have hafter : Moves [.files, .out, .pins, .evr, .pace, .cap] s3 (s4.log (evCode 2 1) 0 (leBytes 1 step)) :=
    Moves.step (moves_log ..) rfl (Moves.step (moves_avsRequest ..) rfl (Moves.step (moves_health ..) rfl (Moves.step (moves_set ..) rfl
      (Moves.step (moves_setFlag ..) rfl (Moves.step (moves_setFlag ..) rfl (Moves.step (moves_safePins _) rfl (Moves.step (moves_showQueue _) rfl
        (Moves.refl _ _))))))))
  refine ⟨hafter.touches.2 .runs rfl, ?_, ?_⟩
  · rw [hafter.touches.2 .sch rfl]
  · rw [hafter.touches.2 .boot rfl]

theorem ledger_below_sec : ∀ i < 16, (Reg.BOOT_LEDGER.OUTCOME.ix i).key < Reg.SEC_STATUS.QUARANTINE.key ∧
    (Reg.BOOT_LEDGER.ATTEMPTS.ix i).key < Reg.SEC_STATUS.QUARANTINE.key := by decide

theorem sec_setLed {f : Fld} {k v : Nat} (hk : (f.ix ((k - 1) % 16)).key < Reg.SEC_STATUS.QUARANTINE.key) : Spares SecView s (s.setLed f k v) :=
  ((Spares.refl _ s).set (f := f.ix ((k - 1) % 16)) (v := v) (ne_secView (.inl hk))).parts rfl rfl rfl

theorem sec_interruptStep : Spares SecView s s.interruptStep := by
  refine Spares.ite ?_ (Spares.refl _ s)
  have hi : (s.get Reg.BOOT_STATUS.STEP - 1) % 16 < 16 := Nat.mod_lt _ (by decide)
  obtain ⟨houtcome, hattempts⟩ := ledger_below_sec _ hi
  exact ((sec_setLed s houtcome).trans (sec_setLed _ hattempts)).moves (moves_saveLed ..) rfl

/-- Quarantine shows itself, and leaves the rest of the view. -/
theorem enterQuarantine_get {g : Fld} (hg : SecView g) (hne : g.key ≠ Reg.SEC_STATUS.QUARANTINE.key) :
    s.enterQuarantine.get g = s.get g := by
  have hshown : ((s.set Reg.BOOT_STATUS.STATE 3).setFlag Reg.SEC_STATUS.QUARANTINE true).get g = s.get g :=
    (State.get_set_ne (.inl hne.symm)).trans (State.get_set_ne (ne_secView (by decide) g hg))
  have hdrop (v : State) : Spares SecView v v.dropSecrets := (Spares.refl _ v).parts rfl rfl rfl
  exact (((hdrop _).trans ((sec_stopAll _ _).trans (sec_health _ _ _))).get_eq g hg).trans hshown

end

/-- All of a stop's writes but its step's leave the state shown. -/
theorem stopAll_state (s : State) (step : Nat) : (s.stopAll step).get Reg.BOOT_STATUS.STATE = s.get Reg.BOOT_STATUS.STATE := by
  obtain ⟨v, hspares, -, -, heq⟩ := stopAll_eq s step
  have hafter := (safe_health (v.set Reg.BOOT_STATUS.SAFE_STEP step) 1 false).trans
    ((safe_avsRequest _ 800).trans (safe_log _ 0 (leBytes 1 step)))
  rw [heq, hafter.get_eq _ (.inl rfl), State.get_set_ne (.inl (by decide)), hspares.get_eq _ (.inl rfl)]

/-- What quarantine shows and stops (R473). -/
structure Quarantined (v : State) : Prop where
  state : v.get Reg.BOOT_STATUS.STATE = 3
  shown : v.flag Reg.SEC_STATUS.QUARANTINE = true
  runs : v.runs = []
  cores : v.sch.cores = []
  held : v.boot.released = false
  slots : ∀ e ∈ v.keys.slots, e.1 < 6

theorem enterQuarantine_quarantined {s : State} (h : s.filesOk = true) : Quarantined s.enterQuarantine := by
  unfold State.enterQuarantine
  have hstate : ((s.set Reg.BOOT_STATUS.STATE 3).setFlag Reg.SEC_STATUS.QUARANTINE true).get Reg.BOOT_STATUS.STATE = 3 :=
    (State.get_set_ne (.inl (by decide))).trans (State.get_set h)
  have hshown : ((s.set Reg.BOOT_STATUS.STATE 3).setFlag Reg.SEC_STATUS.QUARANTINE true).flag Reg.SEC_STATUS.QUARANTINE = true :=
    flag_setFlag (State.filesOk_set h) rfl
  generalize (s.set Reg.BOOT_STATUS.STATE 3).setFlag Reg.SEC_STATUS.QUARANTINE true = shown at hstate hshown
  have hslots : ∀ e ∈ shown.dropSecrets.keys.slots, e.1 < 6 := fun e he => of_decide_eq_true (List.mem_filter.mp he).2
  have hdrop : Spares SecView shown shown.dropSecrets := (Spares.refl _ shown).parts rfl rfl rfl
  have hstate : shown.dropSecrets.get Reg.BOOT_STATUS.STATE = 3 := hstate
  have hshown : shown.dropSecrets.flag Reg.SEC_STATUS.QUARANTINE = true := (hdrop.flag ⟨by decide, by decide⟩).trans hshown
  generalize shown.dropSecrets = open_ at hslots hstate hshown
  generalize s.get Reg.BOOT_STATUS.SAFE_STEP = step
  generalize (!s.flag Reg.SEC_TAMPER_LATCH.VALID) = ok
  obtain ⟨hruns, hcores, hheld⟩ := stopAll_stops open_ step
  have hhealth := moves_health (open_.stopAll step) 8 ok
  constructor
  case state => exact ((health_keeps ..).get (by decide)).trans ((stopAll_state open_ step).trans hstate)
  case shown => exact (((sec_stopAll open_ step).trans (sec_health _ 8 ok)).flag ⟨by decide, by decide⟩).trans hshown
  case runs => rw [hhealth.touches.2 .runs rfl, hruns]
  case cores => rw [hhealth.touches.2 .sch rfl, hcores]
  case held => rw [hhealth.touches.2 .boot rfl, hheld]
  case slots => rwa [hhealth.touches.2 .keys rfl, (moves_stopAll open_ step).touches.2 .keys rfl]

/-! ### The tamper latch and the key operation (R471, R472) -/

section
variable {s : State}

theorem latchTamper_first (h : s.filesOk = true) (hclear : s.flag Reg.SEC_TAMPER_LATCH.VALID = false) {k : Nat} (hk : k < 5) (phase : Nat) :
    (s.latchTamper k phase).flag Reg.SEC_TAMPER_LATCH.VALID = true ∧ (s.latchTamper k phase).get Reg.SEC_TAMPER_LATCH.SOURCE = 2 ^ k := by
  let noted := (s.set Reg.SEC_TAMPER_LATCH.SOURCE (2 ^ k)).set Reg.SEC_TAMPER_LATCH.PHASE phase
  have hsource : noted.get Reg.SEC_TAMPER_LATCH.SOURCE = 2 ^ k := by
    rw [State.get_set_ne (.inl (by decide)), State.get_set h]
    exact Nat.mod_eq_of_lt (Nat.pow_lt_pow_right (by decide) (hk.trans_le (by decide)))
  have hkeeps : Keeps [Reg.SEC_TAMPER_TIME_0.SEC, Reg.SEC_TAMPER_TIME_1.SUB, Reg.SEC_IRQ.TAMPER, Reg.BOOT_HEALTH.COND] [.out, .pins]
      (noted.setFlag Reg.SEC_TAMPER_LATCH.VALID true) (s.latchTamper k phase) := by
    rw [State.latchTamper, if_neg (by simp [hclear])]
    exact Keeps.health (by simp) rfl (Keeps.irq (by simp) rfl (Keeps.set (by simp) (Keeps.set (by simp) (Keeps.refl _ _ _))))
  constructor
  · exact (flag_eq_of_get_eq (hkeeps.get (by decide))).trans (flag_setFlag (State.filesOk_set (State.filesOk_set h)) rfl)
  · exact (hkeeps.get (by decide)).trans ((State.get_set_ne (.inl (by decide))).trans hsource)

theorem latchTamper_again (h : s.filesOk = true) (hlatched : s.flag Reg.SEC_TAMPER_LATCH.VALID = true) (k phase : Nat) :
    Counted Reg.SEC.TAMPER_EVENTS s (s.latchTamper k phase) := by
  rw [State.latchTamper, if_pos hlatched]
  exact counted_count h _

/-- The key operations that a tamper cuts: derive, sign and attest. -/
def KeyJob.cut (j : KeyJob) : Bool := j.op == 1 || j.op == 2 || j.op == 5

/-- The slot a cut operation worked with is emptied, where it is a secret one. -/
def State.dropUsed (s : State) (j : KeyJob) : State :=
  let used := if j.op = 5 then 8 else j.slot
  if used < 6 then s else s.dropSlot used

/-- The tamper's effect on the key operation in progress. -/
def State.cutKeyOp (s : State) (job : Option KeyJob) : State :=
  match job with
  | some j => if j.cut then ((s.keyEnd j.who 7 []).dropUsed j).refreshShares else s
  | none => s

theorem tamper_eq (hin : s.boot.inReset = false) (k : Nat) : ∃ phase, s.tamper k =
    if s.get Reg.BOOT_STATUS.STATE = 3 then (s.latchTamper k phase).cutKeyOp s.keys.job
    else ((s.latchTamper k phase).cutKeyOp s.keys.job).interruptStep.enterQuarantine := by
  unfold State.tamper
  extract_lets keyOp phase s1 s2
  rw [if_neg (by simp [hin])]
  refine ⟨phase, ?_⟩
  clear_value phase
  have hs2 : s2 = s1.cutKeyOp s.keys.job := by
    cases hjob : s.keys.job with
    | none =>
      simp only [s2, hjob]
      rfl
    | some j =>
      have hcut : keyOp = j.cut := by
        simp only [keyOp, hjob]
        rfl
      simp only [State.cutKeyOp, State.dropUsed, s2, hjob, hcut]
      cases j.cut
      · rfl
      · simp only [Bool.not_true, Bool.false_eq_true, if_false, if_true]
        exact (apply_ite State.refreshShares _ _ _).symm
  rw [hs2]

theorem moves_dropUsed (s : State) (j : KeyJob) : Moves [.keys] s (s.dropUsed j) :=
  Moves.ite (Moves.refl _ s) (moves_dropSlot ..)

theorem dropUsed_job (s : State) (j : KeyJob) : (s.dropUsed j).keys.job = s.keys.job := by
  unfold State.dropUsed
  exact (apply_ite (fun v : State => v.keys.job) _ _ _).trans (ite_self _)

/-- After the command's end only slots change. -/
theorem moves_afterKeyEnd (s : State) (j : KeyJob) : Moves [.free, .keys] s (s.dropUsed j).refreshShares :=
  Moves.step (moves_refreshShares _) rfl (Moves.step (moves_dropUsed s j) rfl (Moves.refl _ s))

theorem moves_cutKeyOp (s : State) (job : Option KeyJob) : Moves [.files, .free, .out, .keys] s (s.cutKeyOp job) := by
  cases job with
  | none => exact Moves.refl _ s
  | some j => exact Moves.ite (Moves.step (moves_afterKeyEnd ..) rfl (Moves.step (moves_keyEnd ..) rfl (Moves.refl _ s))) (Moves.refl _ s)

/-- Cutting a key operation leaves the latch as it is. -/
theorem cutKeyOp_spares (s : State) (job : Option KeyJob) : Spares keyAside s (s.cutKeyOp job) := by
  cases job with
  | none => exact Spares.refl _ s
  | some j => exact Spares.ite ((spares_keyEnd ..).moves (moves_afterKeyEnd ..) rfl) (Spares.refl _ s)

/-- A cut operation ends with RESULT 7. -/
theorem cutKeyOp_ends (h : s.filesOk = true) {j : KeyJob} (hcut : j.cut = true) :
    (s.cutKeyOp (some j)).get Reg.KEY_STATUS.RESULT = 7 ∧ (s.cutKeyOp (some j)).keys.job = none := by
  have hend : s.cutKeyOp (some j) = ((s.keyEnd j.who 7 []).dropUsed j).refreshShares := if_pos hcut
  rw [hend]
  refine ⟨(get_moves (moves_afterKeyEnd ..) rfl _).trans (keyEnd_result h _ (by decide) _), ?_⟩
  rw [refreshShares_job, dropUsed_job, keyEnd_slots]

/-! ### TAMPER_DETECT (R471 to R474) -/

section
variable {who : Requester} {k : Nat}

theorem Ready.outOfReset (h : Ready s who) : s.boot.inReset = false := by
  have hsilent := h.2.1
  unfold State.silent at hsilent
  exact (Bool.or_eq_false_iff.mp hsilent).1

/-- An enabled source's tamper, with the state `u` where the latch and the key operation have been dealt with. -/
theorem exec_tamperDetect (h : Ready s who) (hon : s.tamperOn k = true) : ∃ phase, ∀ u, u = (s.latchTamper k phase).cutKeyOp s.keys.job →
    exec (.tamperDetect k) s = .next (if s.get Reg.BOOT_STATUS.STATE = 3 then u else u.interruptStep.enterQuarantine) := by
  obtain ⟨phase, heq⟩ := tamper_eq h.outOfReset k
  refine ⟨phase, ?_⟩
  rintro _ rfl
  refine congrArg Host.Outcome.next ((if_neg (by simp [hon])).trans ((if_neg ?_).trans heq))
  simp [State.mainPower, h.outOfReset]

theorem tamperOn_lt (hon : s.tamperOn k = true) : k < 5 := by
  unfold State.tamperOn at hon
  split at hon
  · omega
  · have : k = 4 := by simpa using (Bool.and_eq_true_iff.mp hon).1
    omega

/-- What the latch and the end of a key operation show stands in quarantine too. -/
theorem get_tamper_end {u : State} {g : Fld} (hg : SecView g) (hne : g.key ≠ Reg.SEC_STATUS.QUARANTINE.key) :
    (if s.get Reg.BOOT_STATUS.STATE = 3 then u else u.interruptStep.enterQuarantine).get g = u.get g := by
  split
  · rfl
  · exact (enterQuarantine_get _ hg hne).trans ((sec_interruptStep u).get_eq g hg)

theorem goes_tamper_first (h : Ready s who) (hon : s.tamperOn k = true) (hclear : s.flag Reg.SEC_TAMPER_LATCH.VALID = false) :
    Goes (.tamperDetect k) s fun v => v.flag Reg.SEC_TAMPER_LATCH.VALID = true ∧ v.get Reg.SEC_TAMPER_LATCH.SOURCE = 2 ^ k := by
  obtain ⟨phase, hexec⟩ := exec_tamperDetect h hon
  obtain ⟨hvalid, hsource⟩ := latchTamper_first h.1 hclear (tamperOn_lt hon) phase
  have hcut := cutKeyOp_spares (s.latchTamper k phase) s.keys.job
  refine ⟨_, hexec _ rfl, ?_, ?_⟩
  · exact (flag_eq_of_get_eq (get_tamper_end ⟨by decide, by decide⟩ (by decide))).trans ((hcut.flag ⟨by decide, by decide⟩).trans hvalid)
  · exact (get_tamper_end ⟨by decide, by decide⟩ (by decide)).trans ((hcut.get_eq _ ⟨by decide, by decide⟩).trans hsource)

theorem goes_tamper_again (h : Ready s who) (hon : s.tamperOn k = true) (hlatched : s.flag Reg.SEC_TAMPER_LATCH.VALID = true) :
    Goes (.tamperDetect k) s (Counted Reg.SEC.TAMPER_EVENTS s) := by
  obtain ⟨phase, hexec⟩ := exec_tamperDetect h hon
  have hcut := cutKeyOp_spares (s.latchTamper k phase) s.keys.job
  refine ⟨_, hexec _ rfl, (latchTamper_again h.1 hlatched k phase).then ?_⟩
  exact (get_tamper_end ⟨by decide, by decide⟩ (by decide)).trans (hcut.get_eq _ ⟨by decide, by decide⟩)

theorem goes_tamper_quarantine (h : Ready s who) (hon : s.tamperOn k = true) (hstate : s.get Reg.BOOT_STATUS.STATE ≠ 3) :
    Goes (.tamperDetect k) s Quarantined := by
  obtain ⟨phase, hexec⟩ := exec_tamperDetect h hon
  refine ⟨_, (hexec _ rfl).trans (congrArg Host.Outcome.next (if_neg hstate)), enterQuarantine_quarantined ?_⟩
  exact (moves_interruptStep _).files ((moves_cutKeyOp ..).files ((moves_latchTamper ..).files h.1))

theorem goes_tamper_keyOp (h : Ready s who) (hon : s.tamperOn k = true) {j : KeyJob} (hjob : s.keys.job = some j) (hop : j.op ∈ [1, 2, 5]) :
    Goes (.tamperDetect k) s fun v => v.get Reg.KEY_STATUS.RESULT = 7 ∧ v.keys.job = none := by
  obtain ⟨phase, hexec⟩ := exec_tamperDetect h hon
  have hcut : j.cut = true := by
    simpa [KeyJob.cut, or_assoc] using hop
  obtain ⟨hresult, hnone⟩ := cutKeyOp_ends ((moves_latchTamper s k phase).files h.1) hcut
  rw [← hjob] at hresult hnone
  refine ⟨_, hexec _ rfl, (get_tamper_end ⟨by decide, by decide⟩ (by decide)).trans hresult, ?_⟩
  have hquarantine (v : State) : v.interruptStep.enterQuarantine.keys.job = v.keys.job := by
    unfold State.enterQuarantine
    rw [(moves_health ..).touches.2 .keys rfl, (moves_stopAll ..).touches.2 .keys rfl]
    have hsame : v.interruptStep.keys = v.keys := (moves_interruptStep v).touches.2 .keys rfl
    exact (congrArg Keys.job hsame :)
  split
  · exact hnone
  · rw [hquarantine]
    exact hnone

end

end

/-- Settles O59: the fuse codes as one blow, the floors, and a tamper as its latch, its cut of a key operation and its quarantine. -/
theorem fusesAndTamper : Obligations.FusesAndTamper := by
  unfold Obligations.FusesAndTamper
  intro s who h
  refine ⟨?_, goes_burnFloor h, exec_burnFloor_elsewhere h, exec_secRaiseFloor_without h,
    fun _ hr => ⟨fun hlow => ⟨goes_secRaiseFloor_good h hr hlow, goes_secRaiseFloor_bad h hr hlow⟩, exec_secRaiseFloor_high h hr⟩,
    fun _ => ⟨?_, fun _ => exec_secTamperClr_refused h⟩, fun k => ⟨fun hoff => congrArg Host.Outcome.next (if_pos (by simp [hoff])), fun hon =>
      ⟨goes_tamper_first h hon, goes_tamper_again h hon, fun hstate => ?_, fun _ => goes_tamper_keyOp h hon⟩⟩⟩
  · intro c lcs f hmem
    simp only [List.mem_cons, Prod.mk.injEq, List.not_mem_nil, or_false] at hmem
    obtain ⟨rfl, rfl, rfl⟩ | ⟨rfl, rfl, rfl⟩ | ⟨rfl, rfl, rfl⟩ | ⟨rfl, rfl, rfl⟩ | ⟨rfl, rfl, rfl⟩ | ⟨rfl, rfl, rfl⟩ := hmem
    · exact goes_blowFuse h (f := fun f => { f with gm := true }) rfl
    · exact goes_blowFuse h (f := fun f => { f with tamperKill := true }) rfl
    · exact goes_blowFuse h (f := fun f => { f with debugAllowed := true }) rfl
    · exact goes_blowFuse h (f := fun f => { f with lcDev := true }) rfl
    · exact goes_blowFuse h (f := fun f => { f with lcProd := true }) rfl
    · exact goes_blowFuse h (f := fun f => { f with lcRma := true }) rfl
  · rintro hkilled rfl
    exact goes_secTamperClr h hkilled
  · obtain ⟨v, hexec, hq⟩ := goes_tamper_quarantine h hon hstate
    exact ⟨v, hexec, hq.state, hq.shown, hq.runs, hq.cores, hq.held, hq.slots⟩

end Sys2Proof.Machine

namespace Sys2Proof.Machine

/-! ### Pins, masks and acknowledgements (R379, R382, R384) -/

section
variable {s u : State} {who : Requester}

theorem almPins_keeps (s : State) : Keeps [Reg.ALM_PIN_OUT.OUT, Reg.ALM_STATUS.TEST_ACTIVE] [.pins] s s.almPins :=
  ((Keeps.upd rfl rfl rfl rfl (Keeps.refl _ _ s)).set (by simp)).setFlag (by simp)

/-- A register that the pins follow holds what is written. -/
theorem almPins_set (h : s.filesOk = true) {f : Fld} {v : Nat} (hv : v < 2 ^ f.width)
    (hne : ∀ g ∈ [Reg.ALM_PIN_OUT.OUT, Reg.ALM_STATUS.TEST_ACTIVE], f.key ≠ g.key ∨ f.dom ≠ g.dom) :
    (s.set f v).almPins.get f = v ∧ Keeps [f, Reg.ALM_PIN_OUT.OUT, Reg.ALM_STATUS.TEST_ACTIVE] [.pins] s (s.set f v).almPins := by
  refine ⟨?_, ?_⟩
  · rw [(almPins_keeps _).get hne, State.get_set h, Nat.mod_eq_of_lt hv]
  · exact ((Keeps.refl _ _ s).set (by simp)).trans ((almPins_keeps _).mono (by simp) (fun _ hp => hp))

theorem goes_almPinMaskWrite {v : Nat} (h : MayWrite s who) (hv : v < 2 ^ 16) : Goes (.almPinMaskWrite who v) s fun t =>
    t.get Reg.ALM_PIN_MASK.MASK = v ∧ Keeps [Reg.ALM_PIN_MASK.MASK, Reg.ALM_PIN_OUT.OUT, Reg.ALM_STATUS.TEST_ACTIVE] [.pins] s t :=
  goes_open h rfl (almPins_set h.1 (f := Reg.ALM_PIN_MASK.MASK) hv (by decide))

theorem goes_almTest {v : Nat} (h : Ready s who) (hv : v < 2 ^ 16) (hpermit : v = 0 ∨ s.flag Reg.SAU_STATUS.TEST_PERMIT = true) :
    Goes (.almTest who v) s fun t => t.get Reg.ALM_TEST.PIN = v ∧
      Keeps [Reg.ALM_TEST.PIN, Reg.ALM_PIN_OUT.OUT, Reg.ALM_STATUS.TEST_ACTIVE] [.pins] s t := by
  refine goes_guarded h rfl ?_
  rw [if_neg]
  · exact almPins_set h.1 (f := Reg.ALM_TEST.PIN) hv (by decide)
  · rcases hpermit with rfl | hpermit
    · simp
    · simp [hpermit]

theorem goes_almTest_refused {v : Nat} (h : Ready s who) (hv : v < 2 ^ 16) (hne : v ≠ 0) (hpermit : s.flag Reg.SAU_STATUS.TEST_PERMIT = false) :
    Goes (.almTest who v) s fun t => t.get Reg.SAU.TEST_REFUSED = min (s.get Reg.SAU.TEST_REFUSED + 1) (2 ^ 64 - 1) ∧
      Keeps [Reg.SAU.TEST_REFUSED] [] s t := by
  refine goes_guarded h rfl ?_
  rw [if_pos]
  · exact ⟨counted_count h.1 Reg.SAU.TEST_REFUSED, (Keeps.refl _ _ s).count (by simp)⟩
  · exact ⟨(Nat.mod_eq_of_lt hv).trans_ne hne, by simp [hpermit]⟩

theorem goes_almRuleAck {j : Nat} (h : MayWrite s who) (hj : j < 16) (v : Nat) : Goes (.almRuleAck who j v) s fun t =>
    (∀ i, i < 32 → bitAt v i = true → 32 * j + i ∈ t.alm.acks) ∧ (∀ k ∈ s.alm.acks, k ∈ t.alm.acks) ∧ Keeps [] [.alm] s t := by
  refine goes_open h rfl ⟨fun i hi hbit => ?_, fun k hk => ?_, (Keeps.refl _ _ s).upd rfl rfl rfl rfl⟩
  · by_cases hold : 32 * j + i ∈ s.alm.acks
    · exact List.mem_append_left _ hold
    · refine List.mem_append_right _ (List.mem_filter.mpr ⟨List.mem_map.mpr ⟨i, ?_, ?_⟩, by simp [hold]⟩)
      · exact List.mem_filter.mpr ⟨List.mem_range.mpr hi, hbit⟩
      · rw [Nat.mod_eq_of_lt hj]
  · exact List.mem_append_left _ hk

/-! ### Keys (R383, R395) and OSC_CMD (R345) -/

/-- KEYED of a publication and the key data never share a place: they stand at different bits. -/
theorem keyed_ne_keyData (k i : Nat) : (Reg.ALM_PUB.KEYED.ix k).key ≠ (Reg.ALM_KEY_DATA.KEY.ix i).key := by
  rw [Fld.key_ix (f := Reg.ALM_PUB.KEYED) rfl, Fld.key_ix (f := Reg.ALM_KEY_DATA.KEY) rfl]
  have hkeyed : Reg.ALM_PUB.KEYED.key % 8 = 1 := by decide
  have hdata : Reg.ALM_KEY_DATA.KEY.key % 8 = 0 := by decide
  omega

theorem goes_almKeyLoad (h : Ready s who) : Goes (.almKeyLoad who) s fun t =>
    t.flag (Reg.ALM_PUB.KEYED.ix (s.get Reg.ALM_KEY_SEL.PUB)) = true ∧
    (∀ i, i < 8 → t.get (Reg.ALM_KEY_DATA.KEY.ix i) = 0) ∧ alookup (s.get Reg.ALM_KEY_SEL.PUB) t.alm.keys =
      some (s.get Reg.ALM_KEY_ID.ID, (List.range 8).flatMap fun i => leBytes 4 (s.get (Reg.ALM_KEY_DATA.KEY.ix i))) ∧
    Keeps (Reg.ALM_PUB.KEYED.ix (s.get Reg.ALM_KEY_SEL.PUB) :: (List.range 8).map fun i => Reg.ALM_KEY_DATA.KEY.ix i) [.alm] s t := by
  let k := s.get Reg.ALM_KEY_SEL.PUB
  let key := (List.range 8).flatMap fun i => leBytes 4 (s.get (Reg.ALM_KEY_DATA.KEY.ix i))
  let loaded : State := { s with alm := { s.alm with keys := aset k (s.get Reg.ALM_KEY_ID.ID, key) s.alm.keys } }
  let cleared := (List.range 8).foldl (fun v i => v.set (Reg.ALM_KEY_DATA.KEY.ix i) 0) loaded
  have hmoves : Moves [.files] loaded cleared := Moves.foldl (fun v i => moves_set ..) (Moves.refl _ loaded)
  have hfiles : cleared.filesOk = true := hmoves.files (by exact h.1)
  refine goes_guarded h rfl (show _ ∧ _ ∧ _ ∧ _ from ⟨flag_setFlag hfiles rfl, fun i hi => ?_, ?_, ?_⟩)
  · refine (State.get_set_ne (f := Reg.ALM_PUB.KEYED.ix k) (.inl (keyed_ne_keyData k i))).trans ?_
    refine (get_foldl_set (place := fun i => Reg.ALM_KEY_DATA.KEY.ix i) (val := fun _ _ => 0) (s := loaded) (by exact h.1) hi
      (fun _ _ _ _ => rfl) fun j hj => ?_).trans rfl
    exact Fld.ix_inj rfl (by decide) hj
  · show alookup k (cleared.setFlag _ true).alm.keys = _
    rw [(moves_setFlag ..).touches.2 .alm rfl, hmoves.touches.2 .alm rfl]
    exact alookup_aset_self ..
  · have hloaded : Keeps (Reg.ALM_PUB.KEYED.ix k :: (List.range 8).map fun i => Reg.ALM_KEY_DATA.KEY.ix i) [.alm] s loaded :=
      (Keeps.refl _ _ s).upd rfl rfl rfl rfl
    refine Keeps.setFlag (by simp) (hloaded.foldl fun v i hi => (Keeps.refl _ _ v).set ?_)
    exact List.mem_cons_of_mem _ (List.mem_map_of_mem hi)

theorem goes_almKeyErase (h : Ready s who) : Goes (.almKeyErase who) s fun t =>
    t.flag (Reg.ALM_PUB.KEYED.ix (s.get Reg.ALM_KEY_SEL.PUB)) = false ∧
    alookup (s.get Reg.ALM_KEY_SEL.PUB) t.alm.keys = none ∧ Keeps [Reg.ALM_PUB.KEYED.ix (s.get Reg.ALM_KEY_SEL.PUB)] [.alm] s t :=
  goes_guarded h rfl ⟨flag_setFlag (by exact h.1) rfl, alookup_aerase_self ..,
    Keeps.setFlag (by simp) ((Keeps.refl _ _ s).upd rfl rfl rfl rfl)⟩

theorem goes_oscCmd {kind i : Nat} (h : Ready s who) (hkind : kind < 4) (hi : i < 4096) : Goes (.oscCmd who kind i) s fun t =>
    t.osc.cmd = some (kind, i) ∧ t.flag Reg.OSC_CMD_STATUS.PENDING = true ∧ Keeps [Reg.OSC_CMD_STATUS.PENDING] [.osc] s t := by
  refine goes_guarded h rfl ⟨?_, flag_setFlag (by exact h.1) rfl, Keeps.setFlag (by simp) ((Keeps.refl _ _ s).upd rfl rfl rfl rfl)⟩
  show some (kind % 4, i % 4096) = _
  rw [Nat.mod_eq_of_lt hkind, Nat.mod_eq_of_lt hi]

/-! ### Frame masks and the frames they change (R384) -/

/-- A frame mask is none of the registers on a frame's way to the wire. -/
theorem txApart_frameMask {j : Nat} (hj : j < 16) : TxApart (Reg.ALM_FRAME_MASK.MASK.ix j) := by
  intro f hf
  left
  have hkey : (Reg.ALM_FRAME_MASK.MASK.ix j).key = Reg.ALM_FRAME_MASK.MASK.key + 32 * j := by
    rw [Fld.key_ix (f := Reg.ALM_FRAME_MASK.MASK) rfl]
    omega
  have hplace : Reg.ALM_FRAME_MASK.MASK.key % 0x80000 = 3072 ∧ Reg.ALM_FRAME_MASK.MASK.key + 512 < bankSpan := by decide
  cases hf with
  | @port f p hf =>
    have hfar : f.dims = [(7, 0x10000)] ∧ (f.key % 0x80000 < 3072 ∨ 3072 + 512 ≤ f.key % 0x80000) := by
      revert f
      decide
    rw [Fld.key_ix hfar.1]
    omega
  | @core f p hf =>
    simp only [Fld.of, hf, if_true, Fld.inBank, Requester.bank]
    rw [Fld.key]
    simp only [bankSpan] at *
    omega
  | log code hf =>
    simp only [logFields, List.mem_cons] at hf
    have hrec : ∀ f ∈ [Reg.EVR.ACCEPTED, Reg.EVR.SUPPRESSED, Reg.EVR_STATUS.HOLD, Reg.EVR.HOLD_OVF, Reg.EVR_IRQ.HOLD_OVF, Reg.EVR.DROP_FULL],
      Reg.ALM_FRAME_MASK.MASK.key + 512 < f.key := by decide
    obtain rfl | hf := hf
    · have hcount : (Reg.ALM_FRAME_MASK.MASK.ix j).key < Reg.EVR_SUPP.COUNT.key := by
        rw [hkey]
        exact lt_of_lt_of_le (Nat.add_lt_add_left (show 32 * j < 512 by omega) _) (by decide)
      exact (Fld.ix_above code hcount).symm
    · have := hrec _ (by simpa using hf)
      omega
  | single hf =>
    have hfar : ∀ f ∈ [Reg.SCH.HANDOUTS, Reg.SCH.SIG_ABSORBED, Reg.ALM_IRQ.PUB_DROP], f.key < Reg.ALM_FRAME_MASK.MASK.key := by decide
    have := hfar f hf
    omega

/-- The frame masks. -/
def MaskView (g : Fld) : Prop := ∃ j < 16, g = Reg.ALM_FRAME_MASK.MASK.ix j

theorem ne_maskView {f : Fld} (hf : f.key < Reg.ALM_FRAME_MASK.MASK.key ∨ Reg.ALM_FRAME_MASK.MASK.key + 512 ≤ f.key) :
    ∀ g, MaskView g → f.key ≠ g.key ∨ f.dom ≠ g.dom := by
  rintro _ ⟨j, hj, rfl⟩
  rw [Fld.key_ix (f := Reg.ALM_FRAME_MASK.MASK) rfl]
  left
  omega

/-- Every element of an array above the masks. -/
theorem ne_maskView_ix {f : Fld} (hf : Reg.ALM_FRAME_MASK.MASK.key + 512 ≤ f.key) (i : Nat) :
    ∀ g, MaskView g → (f.ix i).key ≠ g.key ∨ (f.ix i).dom ≠ g.dom := by
  rintro _ ⟨j, hj, rfl⟩
  refine .inl (Fld.ix_above i ?_).symm
  rw [Fld.key_ix (f := Reg.ALM_FRAME_MASK.MASK) rfl]
  omega

theorem mask_enqueueAlarm (s : State) (p k : Nat) (f : TxFrame) : Spares MaskView s (s.enqueueAlarm p k f) := by
  unfold State.enqueueAlarm
  extract_lets x q mine rest isAlarm s1 s2 s3 y q'
  have h1 : Spares MaskView s s1 := (Spares.refl _ s).moves (moves_setPort ..) rfl
  have h2 : Spares MaskView s s2 := Spares.ite (h1.count (ne_maskView (by decide))) h1
  have h3 : Spares MaskView s2 s3 := by
    refine (txStep_enqueue7 s2 p f).spares.mono ?_
    rintro _ ⟨j, hj, rfl⟩
    exact txApart_frameMask hj
  exact (h2.trans h3).moves (moves_setPort ..) rfl

theorem mask_pubSend (s : State) (k : Nat) (b : Bytes) (from_ : Tai) : Spares MaskView s (s.pubSend k b from_) := by
  unfold State.pubSend
  extract_lets p iv port key v6 goose apdu payload s0 h f s1 s2 c _ s3
  refine Spares.ite ?_ ?_
  · exact Spares.irq (ne_maskView (by decide)) (Spares.count (ne_maskView (by decide)) ((Spares.refl _ s).moves (moves_setPub ..) rfl))
  · have h0 : Spares MaskView s s0 := (Spares.refl _ s).moves (moves_tookFree ..) rfl
    have h1 : Spares MaskView s s1 := Spares.count (ne_maskView_ix (by decide) k) ((h0.moves (moves_tookFree ..) rfl).moves (moves_setPub ..) rfl)
    have h2 : Spares MaskView s s2 := (h1.set (ne_maskView_ix (by decide) k)).set (ne_maskView_ix (by decide) k)
    have h3 : Spares MaskView s s3 := h2.parts rfl rfl rfl
    exact Spares.ite (h3.trans ((mask_enqueueAlarm ..).trans (mask_enqueueAlarm ..))) (h2.trans (mask_enqueueAlarm ..))

theorem mask_pubCheck (s : State) (t : Tai) (k : Nat) : Spares MaskView s (s.pubCheck t k) := by
  have hset (x : PubMem) : Spares MaskView s (s.setPub k x) := (Spares.refl _ s).moves (moves_setPub ..) rfl
  unfold State.pubCheck
  split
  · exact Spares.refl _ s
  · exact Spares.ite (Spares.refl _ s) (Spares.ite ((hset _).trans (mask_pubSend ..)) ((hset _).trans (mask_pubSend ..)))

theorem MayWrite.moveTo (h : MayWrite s who) (t : Tai) : MayWrite (s.moveTo t) who :=
  have hmove := moves_moveTo s t
  ⟨hmove.files h.1, (silent_eq (hmove.touches.2 .boot rfl) (hmove.touches.2 .sch rfl) (fun g _ => get_moves hmove rfl g) who).trans h.2.1, h.2.2⟩

theorem blockRuns_of_gets {v : State} {b : Block} (h : ∀ g ∈ [b.en, b.busy, b.pend], v.get g = s.get g) : v.blockRuns b = s.blockRuns b := by
  have hflag {g : Fld} (hg : g ∈ [b.en, b.busy, b.pend]) : v.flag g = s.flag g := flag_eq_of_get_eq (h g hg)
  simp only [State.blockRuns, hflag (g := b.en) (by simp), hflag (g := b.busy) (by simp), hflag (g := b.pend) (by simp)]

theorem alarm_below_masks : ∀ g ∈ [(Block.alarm).en, (Block.alarm).busy, (Block.alarm).pend], g.key < Reg.ALM_FRAME_MASK.MASK.key := by decide

theorem goes_almFrameMaskWrite {j v : Nat} {t : Tai} (h : MayWrite s who) (hj : j < 16) (hv : v < 2 ^ 32) :
    Goes (.almFrameMaskWrite who j v t) s fun x => x.get (Reg.ALM_FRAME_MASK.MASK.ix j) = v ∧
      (s.blockRuns .alarm = false → Keeps [Reg.ALM_FRAME_MASK.MASK.ix j] [.time] s x) := by
  let written := (s.moveTo t).set (Reg.ALM_FRAME_MASK.MASK.ix j) v
  have hmove := moves_moveTo s t
  have hset : written.get (Reg.ALM_FRAME_MASK.MASK.ix j) = v := (State.get_set (h.moveTo t).1).trans (Nat.mod_eq_of_lt hv)
  have hruns : written.blockRuns .alarm = s.blockRuns .alarm := by
    refine blockRuns_of_gets fun g hg => (State.get_set_ne (.inl ?_)).trans (get_moves hmove rfl g)
    exact (Fld.ix_above j (alarm_below_masks g hg)).symm
  have hexec : exec (.almFrameMaskWrite who j v t) s = .next (if written.blockRuns .alarm then written.pubsCheck written.time.tai else written) := by
    refine congrArg Host.Outcome.next (((h.moveTo t).open_ _ _).trans ?_)
    rw [Nat.mod_eq_of_lt hj]
  refine ⟨_, hexec, ?_, fun hidle => ?_⟩
  · have hcheck : Spares MaskView written (written.pubsCheck written.time.tai) := Spares.foldl (fun v k _ => mask_pubCheck v _ k) (Spares.refl _ _)
    exact ((Spares.ite hcheck (Spares.refl _ _)).get_eq _ ⟨j, hj, rfl⟩).trans hset
  · rw [if_neg (by simp [hruns, hidle])]
    exact ((Keeps.refl _ _ s).moves hmove rfl).set (by simp)

/-! ### Retransmissions (R384) -/

section
variable {k : Nat} {t : Tai} (hu : u = s.moveTo t) (hk : k < 16)
include hu hk

theorem exec_pubRetransmit_idle (hidle : (u.pub k).next = none ∨ u.blockRuns .alarm = false) : exec (.pubRetransmit k t) s = .next u := by
  subst hu
  show execPubRetransmit k t s = _
  unfold execPubRetransmit
  dsimp only
  rw [Nat.mod_eq_of_lt hk]
  split
  · next hnext _ => simp_all
  · rfl

theorem exec_pubRetransmit {x : Tai} {b : Bytes} (hnext : (u.pub k).next = some x) (hruns : u.blockRuns .alarm = true)
    (hrec : u.almRoast.pubRec k = some b) : exec (.pubRetransmit k t) s = .next
      (if x ≤ u.time.tai then (u.setPub k { u.pub k with j := (u.pub k).j + 1, sq := pubNext (u.pub k).sq }).pubSend k b x else u) := by
  subst hu
  show execPubRetransmit k t s = _
  simp only [execPubRetransmit, Nat.mod_eq_of_lt hk, hnext, hrec, hruns, and_true]

end

theorem pub_setPub_self (s : State) (k : Nat) (x : PubMem) : (s.setPub k x).pub k = x := by
  simp [State.pub, State.setPub]

theorem pub_eq_of_alm {v : State} (h : v.alm = s.alm) (k : Nat) : v.pub k = s.pub k := by rw [State.pub, State.pub, h]

/-- A publication with no key is off the schedule; any other is on it again, after the interval table. -/
theorem pubSend_next (s : State) (k : Nat) (b : Bytes) (from_ : Tai) :
    ((s.pubSend k b from_).pub k).next = if s.noKey k b then none else some (from_ + pubInterval b (s.pub k).j * msUnit) := by
  unfold State.pubSend
  extract_lets p iv port key v6 goose apdu payload s0 h f s1 s2 c s3
  split
  · rw [pub_eq_of_alm ((moves_irq ..).touches.2 .alm rfl), pub_eq_of_alm ((moves_count ..).touches.2 .alm rfl), pub_setPub_self]
  · have h2 : s2.alm = s1.alm := by rw [State.set_alm, State.set_alm]
    have h1 : (s1.pub k).next = some (from_ + pubInterval b (s.pub k).j * msUnit) := by
      rw [pub_eq_of_alm ((moves_count ..).touches.2 .alm rfl), pub_setPub_self]
    split
    · rw [pub_eq_of_alm ((moves_enqueueAlarm ..).touches.2 .alm rfl), pub_eq_of_alm ((moves_enqueueAlarm ..).touches.2 .alm rfl)]
      exact (congrArg PubMem.next (pub_eq_of_alm h2 k)).trans h1
    · rw [pub_eq_of_alm ((moves_enqueueAlarm ..).touches.2 .alm rfl), pub_eq_of_alm h2, h1]

theorem goes_pubRetransmit {k : Nat} {t x : Tai} {b : Bytes} (hu : u = s.moveTo t) (hk : k < 16) (hnext : (u.pub k).next = some x)
    (hruns : u.blockRuns .alarm = true) (hrec : u.almRoast.pubRec k = some b) (hdue : x ≤ u.time.tai) : Goes (.pubRetransmit k t) s fun v =>
      (v.pub k).next = if u.noKey k b then none else some (x + pubInterval b ((u.pub k).j + 1) * msUnit) := by
  refine ⟨_, (exec_pubRetransmit hu hk hnext hruns hrec).trans (congrArg Host.Outcome.next (if_pos hdue)), ?_⟩
  refine (pubSend_next ..).trans ?_
  rw [pub_setPub_self]
  rfl

end

/-- Settles O52: the pins' registers and the keys by their fields, and a publication's schedule by what it sends. -/
theorem alarmCommands : Obligations.AlarmCommands := by
  unfold Obligations.AlarmCommands
  intro s who h
  refine ⟨fun v hv hw => goes_almPinMaskWrite hw hv, fun _ _ _ hj hv hw => goes_almFrameMaskWrite hw hj hv,
    fun _ v hj hw => goes_almRuleAck hw hj v, fun v hv => ⟨goes_almTest h hv, goes_almTest_refused h hv⟩, goes_almKeyLoad h, goes_almKeyErase h,
    fun _ _ => goes_oscCmd h, fun k t u hk hu => ⟨exec_pubRetransmit_idle hu hk, fun x b hnext hruns hrec => ⟨fun hearly => ?_, ?_⟩⟩⟩
  · exact (exec_pubRetransmit hu hk hnext hruns hrec).trans (congrArg Host.Outcome.next (if_neg (Nat.not_le.mpr hearly)))
  · exact goes_pubRetransmit hu hk hnext hruns hrec

end Sys2Proof.Machine

namespace Sys2Proof.Machine

/-! ### A thread's priority through its hand-out (R442, R443) -/

section
variable {s u v : State} {who : Requester} {x : Nat}

theorem runnable_of_sch (h : v.sch = s.sch) (hrun : s.runnable x) : v.runnable x := by
  unfold State.runnable State.tcb State.core at *
  rwa [h]

theorem handOut_tcb (s : State) (p x : Nat) : (s.handOut p x).tcb x = { s.tcb x with state := 2 } := by
  unfold State.handOut
  extract_lets b s1 _ s2 _ s3 s4
  have hsch : s4.sch = s3.sch := by simp only [s4, State.count, State.set_sch, answerWork_sch]
  have h4 : s4.tcb x = { s.tcb x with state := 2 } :=
    (tcb_of_sch (congrArg Barista.tcbs hsch) x).trans (tcb_setTcb_self s x _)
  exact List.foldlRecOn (motive := fun v : State => v.tcb x = { s.tcb x with state := 2 }) _ _ h4
    fun v hv e _ => ((unpreempt_cores v e.1).tcb x).trans hv

/-- Becoming READY, and RUNNING at once where a core waits, changes no priority. -/
theorem makeReady_prio (s : State) (x reason obj : Nat) : ((s.makeReady x reason obj).tcb x).prio = (s.tcb x).prio := by
  unfold State.makeReady
  extract_lets b s1 _ s2
  have hself : s2.tcb x = { b with state := 1, reason := reason, obj := obj, until_ := none } := tcb_setTcb_self s x _
  have h2 : (s2.tcb x).prio = (s.tcb x).prio := by rw [hself]
  split
  · rw [handOut_tcb]
    exact h2
  · split
    · rw [(raisePreempt_cores ..).tcb, h2]
    · exact h2

/-! ### Commands on a thread's block (R441, R442, R444) -/

theorem tcbCommand_host (h : MayWrite s .pf0) (f : State → Nat → Option State) : s.tcbCommand .pf0 f = s :=
  (h.open_ _ _).trans (if_pos rfl)

section
variable {c : Instr} {f : State → Nat → Option State} (h : MayWrite s who) (hwho : who ≠ .pf0)
  (hc : exec c s = .next (s.tcbCommand who f))
include h hwho hc

theorem exec_tcb_accepted (hf : f s (s.get (Reg.SCH_TCB_SEL.THREAD.of who)) = some v) : exec c s = .next (v.set Reg.SCH_TCB_CMD.RESULT 1) := by
  rw [hc, State.tcbCommand, h.open_, if_neg hwho, hf]

theorem goes_tcb_refused (hf : f s (s.get (Reg.SCH_TCB_SEL.THREAD.of who)) = none) : Goes c s fun v =>
    v.get Reg.SCH_TCB_CMD.RESULT = 2 ∧ Keeps [Reg.SCH_TCB_CMD.RESULT] [] s v := by
  refine ⟨s.set Reg.SCH_TCB_CMD.RESULT 2, ?_, State.get_set h.1, (Keeps.refl _ _ s).set (by simp)⟩
  rw [hc, State.tcbCommand, h.open_, if_neg hwho, hf]

/-- A command accepted that replaces the block alone. -/
theorem goes_tcb_replaced {b : Tcb} (hf : f s (s.get (Reg.SCH_TCB_SEL.THREAD.of who)) = some (s.setTcb x b)) : Goes c s fun v =>
    v.get Reg.SCH_TCB_CMD.RESULT = 1 ∧ v.tcb x = b ∧ Keeps [Reg.SCH_TCB_CMD.RESULT] [.sch] s v := by
  have hmoves : Moves [.sch] s (s.setTcb x b) := moves_setTcb ..
  refine ⟨_, exec_tcb_accepted h hwho hc hf, State.get_set (hmoves.files h.1), ?_, ((Keeps.refl _ _ s).moves hmoves rfl).set (by simp)⟩
  rw [tcb_of_sch (congrArg Barista.tcbs (State.set_sch ..)), tcb_setTcb_self]

/-- A command accepted that makes the thread READY. -/
theorem goes_tcb_ready {w : State} {reason obj : Nat} (hw : Moves [.sch] s w)
    (hf : f s (s.get (Reg.SCH_TCB_SEL.THREAD.of who)) = some (w.makeReady x reason obj)) : Goes c s fun v =>
      v.get Reg.SCH_TCB_CMD.RESULT = 1 ∧ v.runnable x ∧ (v.tcb x).prio = (w.tcb x).prio := by
  have hfiles : w.filesOk = true := hw.files h.1
  refine ⟨_, exec_tcb_accepted h hwho hc hf, State.get_set ((moves_makeReady ..).files hfiles), ?_, ?_⟩
  · exact runnable_of_sch (State.set_sch ..) (makeReady_holds hfiles x reason obj).1
  · rw [tcb_of_sch (congrArg Barista.tcbs (State.set_sch ..)), makeReady_prio]

end

section
variable (h : MayWrite s who) (hwho : who ≠ .pf0) (hx : x = s.get (Reg.SCH_TCB_SEL.THREAD.of who))
include h hwho hx

theorem goes_tcb_ill {c : Instr} (hc : (c = .tcbCreate who ∧ ((s.tcb x).state ≠ 0 ∨ bitsOf (s.get (Reg.SCH_TCB.WORD.ix 2)) 8 8 = 0)) ∨
      (c = .tcbResume who ∧ (s.tcb x).state ≠ 4) ∨ (c = .setPrio who ∧ (s.tcb x).state = 0) ∨
      (c = .tcbSuspend who ∧ (s.tcb x).state ∉ [1, 2, 3]) ∨ (c = .tcbFree who ∧ (s.tcb x).state ∉ [4, 5])) :
    Goes c s fun v => v.get Reg.SCH_TCB_CMD.RESULT = 2 ∧ Keeps [Reg.SCH_TCB_CMD.RESULT] [] s v := by
  subst hx
  obtain ⟨rfl, hill⟩ | ⟨rfl, hill⟩ | ⟨rfl, hill⟩ | ⟨rfl, hill⟩ | ⟨rfl, hill⟩ := hc
  · exact goes_tcb_refused h hwho rfl (if_pos hill)
  · exact goes_tcb_refused h hwho rfl (if_neg hill)
  · exact goes_tcb_refused h hwho rfl (if_pos hill)
  · exact goes_tcb_refused h hwho rfl (if_neg (by simpa using hill))
  · exact goes_tcb_refused h hwho rfl (if_neg (by simpa using hill))

theorem goes_tcbCreate (hfree : (s.tcb x).state = 0) (haff : bitsOf (s.get (Reg.SCH_TCB.WORD.ix 2)) 8 8 ≠ 0) :
    Goes (.tcbCreate who) s fun v => v.get Reg.SCH_TCB_CMD.RESULT = 1 ∧ v.runnable x ∧
      (v.tcb x).prio = bitsOf (s.get (Reg.SCH_TCB.WORD.ix 2)) 0 5 := by
  subst hx
  obtain ⟨v, hexec, hres, hrun, hprio⟩ := goes_tcb_ready (c := .tcbCreate who) h hwho rfl (moves_setTcb ..) (if_neg (not_or.mpr ⟨not_not.mpr hfree, haff⟩))
  exact ⟨v, hexec, hres, hrun, hprio.trans (congrArg Tcb.prio (tcb_setTcb_self ..))⟩

theorem goes_tcbResume (hsusp : (s.tcb x).state = 4) :
    Goes (.tcbResume who) s fun v => v.get Reg.SCH_TCB_CMD.RESULT = 1 ∧ v.runnable x := by
  subst hx
  obtain ⟨v, hexec, hres, hrun, -⟩ := goes_tcb_ready (c := .tcbResume who) h hwho rfl (Moves.refl _ s) (if_pos hsusp)
  exact ⟨v, hexec, hres, hrun⟩

theorem goes_setPrio (hused : (s.tcb x).state ≠ 0) : Goes (.setPrio who) s fun v => v.get Reg.SCH_TCB_CMD.RESULT = 1 ∧
    (v.tcb x).prio = bitsOf (s.get (Reg.SCH_TCB.WORD.ix 2)) 0 5 := by
  subst hx
  by_cases hready : (s.tcb (s.get (Reg.SCH_TCB_SEL.THREAD.of who))).state = 1
  · obtain ⟨v, hexec, hres, -, hprio⟩ := goes_tcb_ready (c := .setPrio who) h hwho rfl (moves_setTcb ..) ((if_neg hused).trans (if_pos hready))
    exact ⟨v, hexec, hres, hprio.trans (congrArg Tcb.prio (tcb_setTcb_self ..))⟩
  · obtain ⟨v, hexec, hres, hb, -⟩ := goes_tcb_replaced (c := .setPrio who) h hwho rfl ((if_neg hused).trans (if_neg hready))
    exact ⟨v, hexec, hres, congrArg Tcb.prio hb⟩

theorem goes_tcbSuspend (hrun : (s.tcb x).state ∈ [1, 2, 3]) : Goes (.tcbSuspend who) s fun v =>
    v.get Reg.SCH_TCB_CMD.RESULT = 1 ∧ (v.tcb x).suspend = true ∧ Keeps [Reg.SCH_TCB_CMD.RESULT] [.sch] s v := by
  subst hx
  obtain ⟨v, hexec, hres, hb, hkeeps⟩ := goes_tcb_replaced (c := .tcbSuspend who) h hwho rfl (if_pos (by simpa using hrun))
  exact ⟨v, hexec, hres, congrArg Tcb.suspend hb, hkeeps⟩

theorem goes_tcbFree (hstopped : (s.tcb x).state ∈ [4, 5]) : Goes (.tcbFree who) s fun v =>
    v.get Reg.SCH_TCB_CMD.RESULT = 1 ∧ (v.tcb x).state = 0 ∧ Keeps [Reg.SCH_TCB_CMD.RESULT] [.sch] s v := by
  subst hx
  obtain ⟨v, hexec, hres, hb, hkeeps⟩ := goes_tcb_replaced (c := .tcbFree who) h hwho rfl (if_pos (by simpa using hstopped))
  exact ⟨v, hexec, hres, congrArg Tcb.state hb, hkeeps⟩

end

/-! ### Wait objects' kinds (R446) -/

theorem goes_schObjCfgWrite (h : MayWrite s who) (kind : Bool) (hfree : ∀ e ∈ s.sch.waiting, e.1 ≠ s.get (Reg.SCH_OBJ_SEL.OBJ.of who)) :
    Goes (.schObjCfgWrite who kind) s fun v =>
      v.obj (s.get (Reg.SCH_OBJ_SEL.OBJ.of who)) = { sem := kind, count := 0 } ∧ Keeps [] [.sch] s v := by
  refine goes_open h rfl ?_
  rw [if_neg]
  · exact ⟨obj_setObj_self .., (Keeps.refl _ _ s).moves (moves_setObj ..) rfl⟩
  · rw [List.any_eq_true]
    rintro ⟨e, he, heq⟩
    exact hfree e he (eq_of_beq heq)

theorem exec_schObjCfgWrite_waited (h : MayWrite s who) (hwaits : ∃ e ∈ s.sch.waiting, e.1 = s.get (Reg.SCH_OBJ_SEL.OBJ.of who)) (kind : Bool) :
    exec (.schObjCfgWrite who kind) s = .next s :=
  congrArg Host.Outcome.next ((h.open_ _ _).trans (if_pos (by simpa using hwaits)))

/-! ### Flows and the migration through signals and hand-outs -/

/-- The flows and the migration stand as they stood. -/
structure TablesAlike (s t : State) : Prop where
  flows : t.sch.flows = s.sch.flows
  migration : t.sch.migration = s.sch.migration

theorem TablesAlike.trans (h : TablesAlike s u) (k : TablesAlike u v) : TablesAlike s v :=
  ⟨k.flows.trans h.flows, k.migration.trans h.migration⟩

theorem tablesAlike_of_sch (h : v.sch = s.sch) : TablesAlike s v := ⟨by rw [h], by rw [h]⟩

theorem CoresOnly.tables (h : CoresOnly s v) : TablesAlike s v := ⟨by rw [h], by rw [h]⟩

theorem handOut_tables (s : State) (p x : Nat) : TablesAlike s (s.handOut p x) := by
  unfold State.handOut
  extract_lets b s1 _ s2 _ s3 s4
  have hsch : s4.sch = s3.sch := by simp only [s4, State.count, State.set_sch, answerWork_sch]
  have h3 : TablesAlike s s3 := ⟨rfl, rfl⟩
  exact List.foldlRecOn (motive := TablesAlike s) _ _ (h3.trans (tablesAlike_of_sch hsch))
    fun v hv e _ => hv.trans (unpreempt_cores v e.1).tables

theorem makeReady_tables (s : State) (x reason obj : Nat) : TablesAlike s (s.makeReady x reason obj) := by
  unfold State.makeReady
  extract_lets b s1 _ s2
  have h2 : TablesAlike s s2 := ⟨rfl, rfl⟩
  split
  · exact h2.trans (handOut_tables ..)
  · split
    · exact h2.trans (raisePreempt_cores ..).tables
    · exact h2

theorem objSignal_tables (s : State) (o : Nat) : TablesAlike s (s.objSignal o) := by
  cases hw : s.wakes o with
  | some x =>
    simp only [State.objSignal, hw]
    refine TablesAlike.trans ?_ (makeReady_tables ..)
    exact ⟨rfl, rfl⟩
  | none =>
    rw [objSignal_of_none hw]
    by_cases hroom : (s.obj o).count < (if (s.obj o).sem then 65535 else 1)
    · rw [if_pos hroom]
      exact ⟨rfl, rfl⟩
    · rw [if_neg hroom]
      exact tablesAlike_of_sch (State.set_sch ..)

theorem flow_of_tables (h : TablesAlike s v) (f : Nat) : v.flow f = s.flow f := by rw [State.flow, State.flow, h.flows]

theorem flow_setFlow_self (s : State) (f : Nat) (x : Flow) : (s.setFlow f x).flow f = x := by simp [State.flow, State.setFlow]

/-! ### Releases of a firmware flow (R449, R450) -/

/-- A firmware item released with its status: noted for its consumer, whose object is signalled. -/
def State.noteRelease (s : State) (f : Nat) (i : FlowItem) (st : Nat) : State :=
  (s.setFlow f { s.flow f with released := (s.flow f).released ++ [(i.seq, st)] }).objSignal
    ((s.setFlow f { s.flow f with released := (s.flow f).released ++ [(i.seq, st)] }).get (Reg.SCH_FLOW_CFG.RELEASE_OBJ.ix f))

/-- An abandonment is counted and reported. -/
def State.noteAbandoned (s : State) : State := (s.count Reg.SCH.ABANDONED).irq Reg.SCH_IRQ.ABANDONED Reg.SCH_IRQ_MASK.MASK 96

section
variable {f : Nat} {i : FlowItem}

theorem releaseItem_done (hnone : s.roast.flowStream f = none) : s.releaseItem f i false = s.noteRelease f i 1 := by
  unfold State.releaseItem
  extract_lets s1 s2
  rw [show s1.roast.flowStream f = none from hnone]
  rfl

theorem noteAbandoned_moves (s : State) : Moves [.files, .out] s s.noteAbandoned :=
  Moves.step (moves_irq ..) rfl (Moves.step (moves_count ..) rfl (Moves.refl _ s))

theorem noteAbandoned_roast (s : State) : s.noteAbandoned.roast = s.roast := by
  have hkeeps : Keeps [Reg.SCH.ABANDONED, Reg.SCH_IRQ.ABANDONED] [.out] s s.noteAbandoned :=
    Keeps.irq (by simp) rfl ((Keeps.refl _ _ s).count (by simp))
  exact roast_eq (hkeeps.get (by decide)) ((noteAbandoned_moves s).touches.2 .roasts rfl)

theorem releaseItem_abandoned (hnone : s.roast.flowStream f = none) : s.releaseItem f i true = s.noteAbandoned.noteRelease f i 2 := by
  unfold State.releaseItem
  extract_lets s1 s2
  rw [show s1.roast.flowStream f = none from (congrArg (Roast.flowStream · f) (noteAbandoned_roast s)).trans hnone]
  rfl

theorem flow_noteRelease (s : State) (f : Nat) (i : FlowItem) (st : Nat) :
    (s.noteRelease f i st).flow f = { s.flow f with released := (s.flow f).released ++ [(i.seq, st)] } :=
  (flow_of_tables (objSignal_tables ..) f).trans (flow_setFlow_self ..)

theorem release_of_empty (h : (s.flow f).items = []) : s.release f = s.showItems f := by
  have hrun (n : Nat) : s.releaseRun f n = s := by
    cases n with
    | zero => rfl
    | succ n => simp only [State.releaseRun, h]
  rw [State.release, hrun]

theorem flow_showItems (s : State) (f : Nat) : (s.showItems f).flow f = s.flow f := by
  unfold State.showItems
  split
  · exact flow_of_tables (tablesAlike_of_sch (State.set_sch ..)) f
  · rfl

/-- The last item held, complete, is released. -/
theorem release_last (hnone : s.roast.flowStream f = none) (hitems : (s.flow f).items = [i]) (hdone : i.done = true) :
    ((s.release f).flow f).items = [] ∧ ((s.release f).flow f).released = (s.flow f).released ++ [(i.seq, 1)] := by
  let popped := s.setFlow f { s.flow f with items := [] }
  have hpopped : popped.flow f = { s.flow f with items := [] } := flow_setFlow_self ..
  have hnote := flow_noteRelease popped f i 1
  have hrun : s.releaseRun f 256 = (popped.noteRelease f i 1).releaseRun f 255 := by
    rw [State.releaseRun, hitems]
    dsimp only
    rw [if_pos hdone, releaseItem_done (s := s.setFlow f { s.flow f with items := [] }) hnone]
  have hempty : (popped.noteRelease f i 1).releaseRun f 255 = popped.noteRelease f i 1 := by
    rw [State.releaseRun, hnote, hpopped]
  rw [State.release, hrun, hempty, flow_showItems, hnote, hpopped]
  exact ⟨rfl, rfl⟩

end

/-! ### Posts, completions and takes (R449, R450) -/

/-- Two fields of one register's copies. -/
theorem coreCopy_ne_lsb {f g : Fld} (hf : f.perReq = true) (hg : g.perReq = true) (hbase : f.base = g.base) (hlsb : f.lsb ≠ g.lsb) (p : Nat) :
    (f.of (.core p)).key ≠ (g.of (.core p)).key := by
  simp only [Fld.of, hf, hg, if_true, Fld.inBank, Fld.key, hbase]
  omega

section
variable {f p : Nat}

/-- What a read of SCH_FLOW_POST shows. -/
def State.showPost (s : State) (p f q : Nat) (ok : Bool) : State :=
  (s.set ((Reg.SCH_FLOW_POST.SEQ.ix f).of (.core p)) q).setFlag ((Reg.SCH_FLOW_POST.OK.ix f).of (.core p)) ok

theorem showPost_shows (h : s.filesOk = true) (p f q : Nat) (ok : Bool) :
    (s.showPost p f q ok).get ((Reg.SCH_FLOW_POST.SEQ.ix f).of (.core p)) = q % 2 ^ 16 ∧
    (s.showPost p f q ok).get ((Reg.SCH_FLOW_POST.OK.ix f).of (.core p)) = b2n ok ∧
    Keeps [(Reg.SCH_FLOW_POST.SEQ.ix f).of (.core p), (Reg.SCH_FLOW_POST.OK.ix f).of (.core p)] [] s (s.showPost p f q ok) := by
  refine ⟨?_, get_setFlag (State.filesOk_set h) rfl ok, ((Keeps.refl _ _ s).set (by simp)).setFlag (by simp)⟩
  exact (State.get_set_ne (.inl (coreCopy_ne_lsb (f := Reg.SCH_FLOW_POST.OK.ix f) (g := Reg.SCH_FLOW_POST.SEQ.ix f) rfl rfl rfl
    (show Reg.SCH_FLOW_POST.OK.lsb ≠ Reg.SCH_FLOW_POST.SEQ.lsb by decide) p))).trans (State.get_set h)

theorem exec_flowPost (h : s.silent (.core p) = false) : exec (.flowPost (.core p) f) s = .next (
    if (s.roast.flowStream f).isSome then s.showPost p f 0 false
    else match s.post f none with
    | (s', some q) => s'.showPost p f q true
    | (s', none) => (s'.count Reg.SCH.POST_FULL).showPost p f 0 false) :=
  congrArg Host.Outcome.next (if_neg (by simp [h]))

theorem goes_flowPost_stream (h : s.filesOk = true) (hs : s.silent (.core p) = false) (hstream : (s.roast.flowStream f).isSome = true) :
    Goes (.flowPost (.core p) f) s fun v => v.get ((Reg.SCH_FLOW_POST.OK.ix f).of (.core p)) = 0 ∧
      Keeps [(Reg.SCH_FLOW_POST.SEQ.ix f).of (.core p), (Reg.SCH_FLOW_POST.OK.ix f).of (.core p)] [] s v := by
  obtain ⟨-, hok, hkeeps⟩ := showPost_shows h p f 0 false
  exact ⟨_, (exec_flowPost hs).trans (congrArg Host.Outcome.next (if_pos hstream)), hok, hkeeps⟩

theorem goes_flowPost (h : s.filesOk = true) (hnone : s.roast.flowStream f = none) (hs : s.silent (.core p) = false)
    (hroom : (s.flow f).items.length < 256) (hnext : (s.flow f).next < 65536) : Goes (.flowPost (.core p) f) s fun v =>
      v.get ((Reg.SCH_FLOW_POST.SEQ.ix f).of (.core p)) = (s.flow f).next ∧ v.get ((Reg.SCH_FLOW_POST.OK.ix f).of (.core p)) = 1 ∧
      (v.flow f).next = ((s.flow f).next + 1) % 65536 ∧ (v.flow f).items.length = (s.flow f).items.length + 1 ∧
      Keeps [(Reg.SCH_FLOW_POST.SEQ.ix f).of (.core p), (Reg.SCH_FLOW_POST.OK.ix f).of (.core p)] [.sch] s v := by
  let posted := s.setFlow f { s.flow f with
    next := ((s.flow f).next + 1) % 65536, items := (s.flow f).items ++ [{ seq := (s.flow f).next, posted := s.time.elapsed, out := none }] }
  have hpost : s.post f none = (posted, some (s.flow f).next) := by
    have hshow : posted.showItems f = posted := by
      rw [State.showItems, show posted.roast.flowStream f = none from hnone]
    rw [State.post, if_neg (Nat.not_le.mpr hroom)]
    exact congrArg (·, some (s.flow f).next) hshow
  have hmoves : Moves [.sch] s posted := moves_setFlow ..
  have hflow : (posted.showPost p f (s.flow f).next true).flow f = _ :=
    (flow_of_tables (tablesAlike_of_sch ((State.set_sch ..).trans (State.set_sch ..))) f).trans (flow_setFlow_self s f _)
  obtain ⟨hseq, hok, hkeeps⟩ := showPost_shows (hmoves.files h) p f (s.flow f).next true
  refine ⟨_, (exec_flowPost hs).trans (congrArg Host.Outcome.next (if_neg (by simp [hnone]))), ?_⟩
  rw [hpost]
  refine ⟨hseq.trans (Nat.mod_eq_of_lt hnext), hok, ?_, ?_, ?_⟩
  · rw [hflow]
  · rw [hflow]
    exact List.length_append
  · exact ((Keeps.refl _ _ s).moves hmoves rfl).trans (hkeeps.mono (fun _ hf => hf) (by simp))

theorem goes_flowPost_full (h : s.filesOk = true) (hnone : s.roast.flowStream f = none) (hs : s.silent (.core p) = false)
    (hfull : 256 ≤ (s.flow f).items.length) : Goes (.flowPost (.core p) f) s fun v =>
      v.get ((Reg.SCH_FLOW_POST.OK.ix f).of (.core p)) = 0 ∧ Counted Reg.SCH.POST_FULL s v ∧ v.sch = s.sch := by
  have hpost : s.post f none = (s, none) := if_pos hfull
  have hfiles : (s.count Reg.SCH.POST_FULL).filesOk = true := State.filesOk_set h
  obtain ⟨-, hok, hkeeps⟩ := showPost_shows hfiles p f 0 false
  refine ⟨_, (exec_flowPost hs).trans (congrArg Host.Outcome.next (if_neg (by simp [hnone]))), ?_⟩
  rw [hpost]
  refine ⟨hok, (counted_count h _).then (hkeeps.get ?_), ?_⟩
  · intro g hg
    simp only [List.mem_cons, List.not_mem_nil, or_false] at hg
    obtain rfl | rfl := hg <;> exact .inl (coreCopy_ne_shared rfl (by decide) p).symm
  · exact ((State.set_sch ..).trans (State.set_sch ..)).trans (State.set_sch ..)

theorem goes_flowDone_late (h : MayWrite s who) {q : Nat} (hlate : ∀ i ∈ (s.flow f).items, i.seq ≠ q) :
    Goes (.flowDone who f q) s fun v => Counted Reg.SCH.LATE_DONE s v ∧ Keeps [Reg.SCH.LATE_DONE] [] s v := by
  have hcomplete : s.complete f q = s.count Reg.SCH.LATE_DONE := by
    refine if_neg ?_
    rw [List.any_eq_true]
    rintro ⟨i, hi, heq⟩
    exact hlate i hi (eq_of_beq heq)
  refine goes_open h rfl ?_
  rw [hcomplete]
  exact ⟨counted_count h.1 _, (Keeps.refl _ _ s).count (by simp)⟩

theorem goes_flowDone_last (h : MayWrite s who) (hnone : s.roast.flowStream f = none) {i : FlowItem} (hitems : (s.flow f).items = [i]) :
    Goes (.flowDone who f i.seq) s fun v => (v.flow f).items = [] ∧ (v.flow f).released = (s.flow f).released ++ [(i.seq, 1)] := by
  let marked := s.setFlow f { s.flow f with items := [{ i with done := true }] }
  have hcomplete : s.complete f i.seq = marked.release f := by
    rw [State.complete, hitems, if_pos (by simp)]
    simp only [List.map_cons, List.map_nil, if_true]
    rfl
  have hmarked : marked.flow f = { s.flow f with items := [{ i with done := true }] } := flow_setFlow_self ..
  refine goes_open h rfl ?_
  rw [hcomplete]
  have hlast := release_last (s := marked) (f := f) (i := { i with done := true }) hnone (by rw [hmarked]) rfl
  rwa [hmarked] at hlast

theorem goes_flowStall (h : u.filesOk = true) {t : Tai} (hu : u = s.moveTo t) (hnone : s.roast.flowStream f = none) {i : FlowItem}
    (hitems : (s.flow f).items = [i]) (hus : u.get (Reg.SCH_FLOW_CFG.STALL_US.ix f) ≠ 0)
    (hlate : u.get (Reg.SCH_FLOW_CFG.STALL_US.ix f) * usUnit < u.time.elapsed - i.posted) : Goes (.flowStallExpiry f t) s fun v =>
      (v.flow f).items = [] ∧ (v.flow f).released = (s.flow f).released ++ [(i.seq, 2)] ∧ Counted Reg.SCH.ABANDONED s v := by
  have hmove : Moves [.time] s u := hu ▸ moves_moveTo s t
  have hflow : u.flow f = s.flow f := flow_of_tables (tablesAlike_of_sch (hmove.touches.2 .sch rfl)) f
  let popped := u.setFlow f { u.flow f with items := [] }
  have hpopped : Moves [.sch] u popped := moves_setFlow ..
  have hnone' : popped.roast.flowStream f = none := by
    rw [hpopped.roast_eq rfl rfl, hmove.roast_eq rfl rfl, hnone]
  let noted := popped.noteAbandoned.noteRelease f i 2
  have hexec : exec (.flowStallExpiry f t) s = .next (noted.showItems f) := by
    show execFlowStallExpiry f t s = _
    have hempty : (noted.flow f).items = [] := by
      rw [flow_noteRelease, flow_of_tables (tablesAlike_of_sch ((noteAbandoned_moves popped).touches.2 .sch rfl)), flow_setFlow_self]
    simp only [execFlowStallExpiry, ← hu, hflow, hitems]
    rw [if_pos ⟨hus, hlate⟩, ← hflow, releaseItem_abandoned hnone', release_of_empty hempty]
  have hnoted : noted.flow f = { u.flow f with items := [], released := (u.flow f).released ++ [(i.seq, 2)] } := by
    rw [flow_noteRelease, flow_of_tables (tablesAlike_of_sch ((noteAbandoned_moves popped).touches.2 .sch rfl)), flow_setFlow_self]
  refine ⟨_, hexec, ?_, ?_, ?_⟩
  · rw [flow_showItems, hnoted]
  · rw [flow_showItems, hnoted, hflow]
  · have hcount : Counted Reg.SCH.ABANDONED popped (popped.count Reg.SCH.ABANDONED) := counted_count (hpopped.files h) _
    have hspares : Spares (· = Reg.SCH.ABANDONED) (popped.count Reg.SCH.ABANDONED) popped.noteAbandoned :=
      (Spares.refl _ _).irq (by rintro _ rfl; exact .inl (by decide))
    have hsignal : Spares TxApart (popped.noteAbandoned.setFlow f _) noted := (txStep_objSignal ..).spares
    have hsame : noted.get Reg.SCH.ABANDONED = popped.noteAbandoned.get Reg.SCH.ABANDONED :=
      (hsignal.get_eq _ (txApart_of_place (by decide) (by decide) (.inl (by decide)))).trans (get_moves (moves_setFlow ..) rfl _)
    have hshow : (noted.showItems f).get Reg.SCH.ABANDONED = noted.get Reg.SCH.ABANDONED := by
      unfold State.showItems
      split
      · exact State.get_set_ne (.inl (Fld.ix_above _ (by decide)).symm)
      · rfl
    refine ((hcount.then (hspares.get_eq _ rfl)).then hsame).then hshow |>.after ?_
    exact (get_moves hpopped rfl _).trans (get_moves hmove rfl _)

theorem goes_flowTake (h : s.filesOk = true) (hs : s.silent (.core p) = false) {q st : Nat} {rest : List (Nat × Nat)}
    (hreleased : (s.flow f).released = (q, st) :: rest) : Goes (.flowTake (.core p) f) s fun v => (v.flow f).released = rest ∧
      v.get ((Reg.SCH_FLOW_TAKE.SEQ.ix f).of (.core p)) = q % 65536 ∧ v.get ((Reg.SCH_FLOW_TAKE.STATUS.ix f).of (.core p)) = st % 4 ∧
      Keeps [(Reg.SCH_FLOW_TAKE.SEQ.ix f).of (.core p), (Reg.SCH_FLOW_TAKE.STATUS.ix f).of (.core p)] [.sch] s v := by
  let taken := s.setFlow f { s.flow f with released := rest }
  have hmoves : Moves [.sch] s taken := moves_setFlow ..
  have hexec : exec (.flowTake (.core p) f) s = .next ((taken.set ((Reg.SCH_FLOW_TAKE.SEQ.ix f).of (.core p)) q).set
      ((Reg.SCH_FLOW_TAKE.STATUS.ix f).of (.core p)) st) := by
    refine congrArg Host.Outcome.next ((if_neg (by simp [hs])).trans ?_)
    simp only [hreleased]
    rfl
  have hfiles : taken.filesOk = true := hmoves.files h
  refine ⟨_, hexec, ?_, ?_, State.get_set (State.filesOk_set hfiles), ?_⟩
  · rw [flow_of_tables (tablesAlike_of_sch ((State.set_sch ..).trans (State.set_sch ..))) f, flow_setFlow_self]
  · exact (State.get_set_ne (.inl (coreCopy_ne_lsb (f := Reg.SCH_FLOW_TAKE.STATUS.ix f) (g := Reg.SCH_FLOW_TAKE.SEQ.ix f) rfl rfl rfl
      (show Reg.SCH_FLOW_TAKE.STATUS.lsb ≠ Reg.SCH_FLOW_TAKE.SEQ.lsb by decide) p))).trans (State.get_set hfiles)
  · exact (((Keeps.refl _ _ s).moves hmoves rfl).set (by simp)).set (by simp)

end

/-! ### Migration (R451, R452) -/

/-- A replaced field leaves all above it and all below it. -/
theorem putBits_div_mod (v l n x : Nat) : putBits v l n x / 2 ^ (l + n) = v / 2 ^ (l + n) ∧ putBits v l n x % 2 ^ l = v % 2 ^ l := by
  have hl : 0 < 2 ^ l := Nat.two_pow_pos l
  have hsplit : putBits v l n x = (v / 2 ^ l / 2 ^ n * 2 ^ n + x % 2 ^ n) * 2 ^ l + v % 2 ^ l := by
    have hv : v = v / 2 ^ l / 2 ^ n * 2 ^ n * 2 ^ l + v / 2 ^ l % 2 ^ n * 2 ^ l + v % 2 ^ l := by
      rw [← add_mul, Nat.div_add_mod', Nat.div_add_mod']
    rw [putBits, bitsOf, add_mul]
    omega
  constructor
  · rw [hsplit, pow_add, ← Nat.div_div_eq_div_mul, ← Nat.div_div_eq_div_mul, Nat.add_comm, Nat.add_mul_div_right _ _ hl,
      Nat.div_eq_of_lt (Nat.mod_lt _ hl), Nat.zero_add, Nat.add_comm, Nat.add_mul_div_right _ _ (Nat.two_pow_pos n),
      Nat.div_eq_of_lt (Nat.mod_lt _ (Nat.two_pow_pos n)), Nat.zero_add]
  · rw [hsplit, Nat.add_comm, Nat.add_mul_mod_self_right, Nat.mod_mod]

theorem bitsOf_mod_two_pow {l n w : Nat} (h : l + n ≤ w) (v : Nat) : bitsOf (v % 2 ^ w) l n = bitsOf v l n := by
  have hbits (a : Nat) : bitsOf a l n = a % 2 ^ (l + n) / 2 ^ l := by rw [bitsOf, pow_add, Nat.mod_mul_right_div_self]
  rw [hbits, hbits, Nat.mod_mod_of_dvd _ (pow_dvd_pow 2 h)]

/-- A field of bits apart from a replaced one reads as it did. -/
theorem bitsOf_putBits_apart {l n l' n' : Nat} (h : l + n ≤ l' ∨ l' + n' ≤ l) (v x : Nat) :
    bitsOf (putBits v l n x) l' n' = bitsOf v l' n' := by
  obtain ⟨hdiv, hmod⟩ := putBits_div_mod v l n x
  rcases h with h | h
  · have hhigh (a : Nat) : bitsOf a l' n' = a / 2 ^ (l + n) / 2 ^ (l' - (l + n)) % 2 ^ n' := by
      rw [bitsOf, Nat.div_div_eq_div_mul, ← pow_add, Nat.add_sub_cancel' h]
    rw [hhigh, hdiv, ← hhigh]
  · rw [← bitsOf_mod_two_pow h (putBits v l n x), hmod, bitsOf_mod_two_pow h]

theorem coreState_setCoreState_of_ne (h : s.filesOk = true) {p q : Nat} (hq : q < 9) (hne : p ≠ q) (n : Nat) :
    (s.setCoreState p n).coreState q = s.coreState q := by
  rw [State.coreState, State.setCoreState, State.get_set h]
  refine (bitsOf_mod_two_pow (show 2 * q + 2 ≤ 18 by omega) _).trans (bitsOf_putBits_apart ?_ _ _)
  omega

/-- The map, the cores' states and the result of a migration. -/
def MigView (g : Fld) : Prop := g = Reg.SCH_CORE_MAP.MAP ∨ g = Reg.SCH_CORE_STATUS.STATE ∨ g = Reg.SCH_CORE_STATUS.RESULT

theorem ne_migView {f : Fld} (hf : f.key ≠ Reg.SCH_CORE_MAP.MAP.key ∧ f.key ≠ Reg.SCH_CORE_STATUS.STATE.key ∧
    f.key ≠ Reg.SCH_CORE_STATUS.RESULT.key) : ∀ g, MigView g → f.key ≠ g.key ∨ f.dom ≠ g.dom := by
  rintro g (rfl | rfl | rfl)
  · exact .inl hf.1
  · exact .inl hf.2.1
  · exact .inl hf.2.2

/-- A register of a core's own is none of them. -/
theorem ne_migView_core {f : Fld} (hf : f.perReq = true) (p : Nat) :
    ∀ g, MigView g → (f.of (.core p)).key ≠ g.key ∨ (f.of (.core p)).dom ≠ g.dom := by
  rintro g (rfl | rfl | rfl) <;> exact .inl (coreCopy_ne_shared hf (by decide) p)

theorem migView_txApart : ∀ g, MigView g → TxApart g := by
  rintro g (rfl | rfl | rfl) <;> exact txApart_of_place (by decide) (by decide) (.inl (by decide))

theorem mig_showCores (s : State) : Spares MigView s s.showCores :=
  Spares.foldl (fun _ p _ => ((Spares.refl _ _).set (ne_migView_core rfl p)).set (ne_migView_core rfl p)) (Spares.refl _ s)

theorem mig_answerWork (s : State) (p thread : Nat) (valid : Bool) (reason obj : Nat) : Spares MigView s (s.answerWork p thread valid reason obj) := by
  unfold State.answerWork
  exact ((((Spares.refl _ s).set (ne_migView_core rfl p)).setFlag (ne_migView_core rfl p)).set (ne_migView_core rfl p)).set (ne_migView_core rfl p)

theorem mig_raisePreempt (s : State) (p : Nat) (x : Option Nat) : Spares MigView s (s.raisePreempt p x) :=
  Spares.ite (Spares.refl _ s) (((Spares.refl _ s).moves (moves_setCore ..) rfl).setFlag (ne_migView_core rfl p))

theorem mig_log (s : State) (k source : Nat) (data : Bytes) : Spares MigView s (s.log (evCode 4 k) source data) := by
  refine Spares.log (fun g hg f hf => ?_) (Spares.refl _ s)
  exact (migView_txApart g hg f (.log _ hf)).imp Ne.symm Ne.symm

theorem migrate_result (h : s.filesOk = true) {a b : Nat} (ha : a < 9) (hb : b < 9) (retain : Bool) (hfrom : s.coreState a = 0)
    (hto : s.coreState b = 1) (hnone : s.sch.migration = none) : (s.migrate a b retain).get Reg.SCH_CORE_STATUS.RESULT = 0 := by
  rw [State.migrate, if_pos ⟨hfrom, ha, hb, hto, by simp [hnone]⟩]
  extract_lets _ s1 _ s2 _ s3 _
  have h2 : s2.get Reg.SCH_CORE_STATUS.RESULT = 0 :=
    (get_moves (moves_setCore ..) rfl _).trans (State.get_set ((moves_setCoreState ..).files ((moves_startMigration s _).files h)))
  have hcore (v : State) (p : Nat) (c : Core) : Spares MigView v (v.setCore p c) := (Spares.refl _ v).moves (moves_setCore ..) rfl
  split
  · exact (((mig_answerWork ..).trans (hcore ..)).get_eq _ (.inr (.inr rfl))).trans h2
  · split
    · exact (((mig_raisePreempt s2 a none).trans (hcore ..)).get_eq _ (.inr (.inr rfl))).trans h2
    · exact h2

theorem goes_schMigrate {a b : Nat} (h : Ready s who) (retain : Bool) (ha : a < 9) (hb : b < 9) (hfrom : s.coreState a = 0)
    (hto : s.coreState b = 1) (hnone : s.sch.migration = none) : Goes (.schMigrate who a b retain) s fun v =>
      v.sch.migration = some { fromCore := a, toCore := b, retain := retain, at_ := s.time.elapsed } ∧ v.coreState a = 2 ∧
      v.get Reg.SCH_CORE_STATUS.RESULT = 0 := by
  obtain ⟨hmigration, hdrains⟩ := migrate_holds (retain := retain) h.1 ha hb hfrom hto hnone
  exact goes_guarded h rfl ⟨hmigration, hdrains, migrate_result h.1 ha hb retain hfrom hto hnone⟩

theorem goes_schMigrate_refused {a b : Nat} (h : Ready s who) (retain : Bool)
    (hill : s.coreState a ≠ 0 ∨ s.coreState b ≠ 1 ∨ s.sch.migration.isSome = true) : Goes (.schMigrate who a b retain) s fun v =>
      v.get Reg.SCH_CORE_STATUS.RESULT = 2 ∧ Keeps [Reg.SCH_CORE_STATUS.RESULT] [] s v := by
  refine goes_guarded h rfl ?_
  rw [State.migrate, if_neg]
  · exact ⟨State.get_set h.1, (Keeps.refl _ _ s).set (by simp)⟩
  · rintro ⟨hfrom, -, -, hto, hnone⟩
    rw [Option.isNone_iff_eq_none] at hnone
    simp [hfrom, hto, hnone] at hill

/-- A logical index has passed from one core to the other. -/
structure Migrated (m : Migration) (k fromState result : Nat) (v : State) : Prop where
  none : v.sch.migration = none
  physical : v.physical k = m.toCore
  taken : v.coreState m.toCore = 0
  left : v.coreState m.fromCore = fromState
  result : v.get Reg.SCH_CORE_STATUS.RESULT = result

theorem Migrated.spares {m : Migration} {k fromState result : Nat} (h : Migrated m k fromState result u) (hs : Spares MigView u v)
    (ht : TablesAlike u v) : Migrated m k fromState result v where
  none := ht.migration.trans h.none
  physical := (congrArg (bitsOf · (4 * k) 4) (hs.get_eq _ (.inl rfl))).trans h.physical
  taken := (congrArg (bitsOf · (2 * m.toCore) 2) (hs.get_eq _ (.inr (.inl rfl)))).trans h.taken
  left := (congrArg (bitsOf · (2 * m.fromCore) 2) (hs.get_eq _ (.inr (.inl rfl)))).trans h.left
  result := (hs.get_eq _ (.inr (.inr rfl))).trans h.result

/-- A migration's effect on the map, the two cores and the recorder, up to the service of TO's stalled read. -/
def State.passIndex (s : State) (m : Migration) (k fromState result : Nat) : State :=
  let s0 := s.giveUp m.fromCore
  let s1 := { s0 with sch := { s0.sch with migration := none } }
  let s2 := s1.set Reg.SCH_CORE_MAP.MAP (putBits (s.get Reg.SCH_CORE_MAP.MAP) (4 * k) 4 m.toCore)
  let s3 := (((s2.setCoreState m.fromCore fromState).setCoreState m.toCore 0).setCore m.fromCore {}).set
    Reg.SCH_CORE_STATUS.RESULT result
  (s3.showCores.irq Reg.SCH_IRQ.MIGRATED Reg.SCH_IRQ_MASK.MASK 96).log (evCode 4 0) 0 []

/-- A core stalled in its read gets the first thread that logical core k may run. -/
def State.serveStalled (s : State) (p k : Nat) : State :=
  if (s.core p).stalled.isSome then
    match s.pickWork k with
    | some t => s.handOut p t
    | none => s
  else s

theorem migrated_eq {m : Migration} {k : Nat} (hk : s.logical m.fromCore = some k) (fromState result : Nat) :
    s.migrated m fromState result = (s.passIndex m k fromState result).serveStalled m.toCore k := by
  unfold State.migrated
  rw [hk]
  rfl

theorem passIndex_holds {m : Migration} {k : Nat} (hk8 : k < 8) (hfrom : m.fromCore < 9) (hto : m.toCore < 9) (hne : m.fromCore ≠ m.toCore)
    (h : s.filesOk = true) {fromState result : Nat} (hstate : fromState < 4) (hresult : result < 4) :
    Migrated m k fromState result (s.passIndex m k fromState result) ∧
      (s.passIndex m k fromState result).sch.waiting = s.sch.waiting ∧ (s.passIndex m k fromState result).filesOk = true := by
  unfold State.passIndex
  extract_lets s0 _ s1 s2 s3
  obtain ⟨-, hcores, -, hfiles⟩ := giveUp_holds h m.fromCore
  have h1 : s1.filesOk = true := (State.filesOk_upd ..).trans hfiles
  have h2 : s2.filesOk = true := State.filesOk_set h1
  have hstates : (s2.setCoreState m.fromCore fromState).filesOk = true := State.filesOk_set h2
  have hmoved : ((s2.setCoreState m.fromCore fromState).setCoreState m.toCore 0).filesOk = true := State.filesOk_set hstates
  have hget3 {g : Fld} (hg : Reg.SCH_CORE_STATUS.RESULT.key ≠ g.key) :
      s3.get g = ((s2.setCoreState m.fromCore fromState).setCoreState m.toCore 0).get g :=
    (State.get_set_ne (.inl hg)).trans (get_moves (moves_setCore ..) rfl g)
  have hcoreState (q : Nat) : s3.coreState q = ((s2.setCoreState m.fromCore fromState).setCoreState m.toCore 0).coreState q :=
    congrArg (bitsOf · (2 * q) 2) (hget3 (by decide))
  have hwaiting : s3.sch.waiting = s.sch.waiting := by
    rw [State.set_sch, State.setCore, State.setCoreState, State.set_sch, State.setCoreState, State.set_sch, State.set_sch]
    exact hcores.waiting
  have h3 : Migrated m k fromState result s3 := by
    constructor
    case none => rw [State.set_sch, State.setCore, State.setCoreState, State.set_sch, State.setCoreState, State.set_sch, State.set_sch]
    case result => exact (State.get_set ((moves_setCore ..).files hmoved)).trans (Nat.mod_eq_of_lt hresult)
    case physical =>
      have hmap : s3.get Reg.SCH_CORE_MAP.MAP = s2.get Reg.SCH_CORE_MAP.MAP :=
        (hget3 (by decide)).trans ((State.get_set_ne (.inl (by decide))).trans (State.get_set_ne (.inl (by decide))))
      rw [State.physical, hmap, State.get_set h1]
      exact (bitsOf_putBits (show 4 * k + 4 ≤ 32 by omega) _ _).trans (Nat.mod_eq_of_lt (by omega))
    case taken => exact (hcoreState _).trans (coreState_setCoreState hstates hto 0)
    case left =>
      rw [hcoreState, coreState_setCoreState_of_ne hstates hfrom hne.symm, coreState_setCoreState h2 hfrom]
      exact Nat.mod_eq_of_lt hstate
  have hshown : Spares MigView s3 ((s3.showCores.irq Reg.SCH_IRQ.MIGRATED Reg.SCH_IRQ_MASK.MASK 96).log (evCode 4 0) 0 []) :=
    ((mig_showCores s3).irq (ne_migView (by decide))).trans (mig_log ..)
  have hmove : Moves [.files, .out, .evr] s3 ((s3.showCores.irq Reg.SCH_IRQ.MIGRATED Reg.SCH_IRQ_MASK.MASK 96).log (evCode 4 0) 0 []) :=
    Moves.step (moves_log ..) rfl (Moves.step (moves_irq ..) rfl (Moves.step (moves_showCores _) rfl (Moves.refl _ s3)))
  have hsch := hmove.touches.2 .sch rfl
  exact ⟨h3.spares hshown (tablesAlike_of_sch hsch), (congrArg Barista.waiting hsch).trans hwaiting,
    hmove.files (State.filesOk_set ((moves_setCore ..).files hmoved))⟩

/-- A migration does not count a forced end of its own. -/
theorem forced_passIndex (s : State) (m : Migration) (k fromState result : Nat) :
    Spares (· = Reg.SCH.FORCED) s (s.passIndex m k fromState result) := by
  have hcore {f : Fld} (hf : f.perReq = true) (p : Nat) := ne_shared hf (show Reg.SCH.FORCED.key < bankSpan by decide) p
  have hne {f : Fld} (hf : f.key ≠ Reg.SCH.FORCED.key) : ∀ g, g = Reg.SCH.FORCED → f.key ≠ g.key ∨ f.dom ≠ g.dom := by
    rintro _ rfl
    exact .inl hf
  have hsetCore (v : State) (p : Nat) (c : Core) : Spares (· = Reg.SCH.FORCED) v (v.setCore p c) := (Spares.refl _ v).moves (moves_setCore ..) rfl
  unfold State.passIndex
  extract_lets s0 _ s1 s2 s3
  have h0 : Spares (· = Reg.SCH.FORCED) s s0 :=
    (((hsetCore ..).trans (hsetCore ..)).setFlag (hcore rfl _)).set (hcore rfl _)
  have h1 : Spares (· = Reg.SCH.FORCED) s s1 := h0.parts rfl rfl rfl
  have h2 : Spares (· = Reg.SCH.FORCED) s s2 := h1.set (hne (by decide))
  have h3 : Spares (· = Reg.SCH.FORCED) s s3 :=
    (((h2.set (hne (by decide))).set (hne (by decide))).trans (hsetCore ..)).set (hne (by decide))
  have hshown : Spares (· = Reg.SCH.FORCED) s3 s3.showCores :=
    Spares.foldl (fun _ p _ => ((Spares.refl _ _).set (hcore rfl p)).set (hcore rfl p)) (Spares.refl _ s3)
  refine Spares.log (fun g hg f hf => ?_) ((h3.trans hshown).irq (hne (by decide)))
  subst hg
  have happart : TxApart Reg.SCH.FORCED := txApart_of_place (by decide) (by decide) (.inl (by decide))
  exact (happart f (.log _ hf)).imp Ne.symm Ne.symm

theorem forced_migrated {m : Migration} {k : Nat} (hk : s.logical m.fromCore = some k) (fromState result : Nat) : (s.migrated m fromState result).get Reg.SCH.FORCED = s.get Reg.SCH.FORCED := by
  rw [migrated_eq hk]
  refine Eq.trans ?_ ((forced_passIndex s m k fromState result).get_eq _ rfl)
  unfold State.serveStalled
  split
  · split
    · exact (txStep_handOut ..).spares.get_eq _ (txApart_of_place (by decide) (by decide) (.inl (by decide)))
    · rfl
  · rfl

/-- A signal that finds no waiter leaves every thread's block. -/
theorem objSignal_tcb (h : s.sch.waiting = []) (o x : Nat) : (s.objSignal o).tcb x = s.tcb x := by
  rw [objSignal_of_none (by simp [State.wakes, h])]
  by_cases hroom : (s.obj o).count < (if (s.obj o).sem then 65535 else 1)
  · rw [if_pos hroom]
    rfl
  · rw [if_neg hroom]
    exact tcb_of_sch (congrArg Barista.tcbs (State.set_sch ..)) x

/-- A thread that ran on a retired core is faulted, and the fault reported. -/
def State.faultThread (s : State) (y : Nat) : State :=
  let faulted := (s.setTcb y { s.tcb y with state := 5 }).irq Reg.SCH_IRQ.FAULTED Reg.SCH_IRQ_MASK.MASK 96
  (faulted.objSignal (faulted.get Reg.SCH_CFG.FAULT_OBJ)).log (evCode 4 1) 0 (evIndex y)

theorem faultThread_holds (s : State) (y : Nat) : Spares MigView s (s.faultThread y) ∧
    (s.faultThread y).get Reg.SCH.FORCED = s.get Reg.SCH.FORCED ∧ TablesAlike s (s.faultThread y) ∧
    (s.sch.waiting = [] → ((s.faultThread y).tcb y).state = 5) := by
  unfold State.faultThread
  extract_lets _ faulted
  have hsch : faulted.sch = (s.setTcb y { s.tcb y with state := 5 }).sch := (moves_irq ..).touches.2 .sch rfl
  have hstep : TxStep faulted ((faulted.objSignal (faulted.get Reg.SCH_CFG.FAULT_OBJ)).log (evCode 4 1) 0 (evIndex y)) :=
    TxStep.log (txStep_objSignal ..)
  have hlog : ((faulted.objSignal (faulted.get Reg.SCH_CFG.FAULT_OBJ)).log (evCode 4 1) 0 (evIndex y)).sch =
      (faulted.objSignal (faulted.get Reg.SCH_CFG.FAULT_OBJ)).sch := (moves_log ..).touches.2 .sch rfl
  refine ⟨?_, ?_, ?_, fun hnobody => ?_⟩
  · exact (((Spares.refl _ s).moves (moves_setTcb ..) rfl).irq (ne_migView (by decide))).trans (hstep.spares.mono migView_txApart)
  · refine (hstep.spares.get_eq _ (txApart_of_place (by decide) (by decide) (.inl (by decide)))).trans ?_
    exact (((Spares.refl (· = Reg.SCH.FORCED) s).moves (moves_setTcb ..) rfl).irq (by rintro _ rfl; exact .inl (by decide))).get_eq _ rfl
  · refine TablesAlike.trans (.trans ?_ (objSignal_tables ..)) (tablesAlike_of_sch hlog)
    refine TablesAlike.trans (u := s.setTcb y { s.tcb y with state := 5 }) ?_ (tablesAlike_of_sch hsch)
    exact ⟨rfl, rfl⟩
  · rw [tcb_of_sch (congrArg Barista.tcbs hlog), objSignal_tcb ((congrArg Barista.waiting hsch).trans hnobody),
      tcb_of_sch (congrArg Barista.tcbs hsch), tcb_setTcb_self]

section
variable {m : Migration} {k : Nat} (hk : s.logical m.fromCore = some k) (hk8 : k < 8) (hfrom : m.fromCore < 9) (hto : m.toCore < 9)
  (hne : m.fromCore ≠ m.toCore)
include hk hk8 hfrom hto hne

theorem migrated_holds (h : s.filesOk = true) {fromState result : Nat} (hstate : fromState < 4) (hresult : result < 4) :
    Migrated m k fromState result (s.migrated m fromState result) ∧ (s.migrated m fromState result).sch.waiting = s.sch.waiting := by
  rw [migrated_eq hk]
  obtain ⟨hpassed, hwaiting, hfiles⟩ := passIndex_holds hk8 hfrom hto hne h hstate hresult
  unfold State.serveStalled
  split
  · split
    · next x _ =>
      exact ⟨hpassed.spares ((txStep_handOut ..).spares.mono migView_txApart) (handOut_tables ..),
        (handOut_holds hfiles m.toCore x).1.waiting.trans hwaiting⟩
    · exact ⟨hpassed, hwaiting⟩
  · exact ⟨hpassed, hwaiting⟩

theorem goes_schPark (h : s.filesOk = true) (hmig : s.sch.migration = some m) (hs : s.silent (.core m.fromCore) = false)
    (hidle : (s.core m.fromCore).running = none) : Goes (.schPark (.core m.fromCore)) s
      (Migrated m k (if m.retain then 1 else 3) 1) := by
  have hexec : exec (.schPark (.core m.fromCore)) s = .next (s.migrated m (if m.retain then 1 else 3) 1) := by
    refine congrArg Host.Outcome.next ((perCore_core hs _ _).trans ?_)
    rw [hmig]
    exact if_pos ⟨rfl, hidle⟩
  refine ⟨_, hexec, (migrated_holds hk hk8 hfrom hto hne h ?_ (by decide)).1⟩
  split <;> decide

/-- The forced end of a migration (R452). -/
theorem goes_migrationForce (h : s.filesOk = true) (hmig : s.sch.migration = some m) : Goes .migrationForce s fun v =>
    Migrated m k 3 3 v ∧ Counted Reg.SCH.FORCED s v ∧
    ∀ y, (s.core m.fromCore).running = some y → s.sch.waiting = [] → (v.tcb y).state = 5 := by
  let w := (s.migrated m 3 3).count Reg.SCH.FORCED
  obtain ⟨hmigrated, hwaiting⟩ := migrated_holds hk hk8 hfrom hto hne h (show 3 < 4 by decide) (show 3 < 4 by decide)
  have hfiles : (s.migrated m 3 3).filesOk = true := (moves_migrated ..).files h
  have hw : Migrated m k 3 3 w := hmigrated.spares ((Spares.refl _ _).count (ne_migView (by decide))) (tablesAlike_of_sch (State.set_sch ..))
  have hcount : Counted Reg.SCH.FORCED s w := (counted_count hfiles _).after (forced_migrated hk 3 3)
  cases hrun : (s.core m.fromCore).running with
  | none =>
    refine ⟨w, ?_, hw, hcount, nofun⟩
    show execMigrationForce s = _
    simp only [execMigrationForce, hmig, hrun]
    rfl
  | some y =>
    obtain ⟨hspares, hforced, htables, htcb⟩ := faultThread_holds w y
    refine ⟨w.faultThread y, ?_, hw.spares hspares htables, hcount.then hforced, ?_⟩
    · show execMigrationForce s = _
      simp only [execMigrationForce, hmig, hrun]
      rfl
    · rintro _ ⟨rfl⟩ hnobody
      exact htcb ((congrArg Barista.waiting (State.set_sch ..)).trans (hwaiting.trans hnobody))

end

end

/-- Settles O57: a thread command is refused, or acts on its block; flows keep their items in order; a migration passes one index. -/
theorem threadCommandsAndFlows : Obligations.ThreadCommandsAndFlows := by
  unfold Obligations.ThreadCommandsAndFlows
  intro s u who t x h hu
  have hfiles : u.filesOk = true := hu ▸ (moves_moveTo s t).files h.1
  refine ⟨?host, fun hwho hx => ⟨fun c => goes_tcb_ill h hwho hx, goes_tcbCreate h hwho hx, goes_tcbResume h hwho hx, goes_setPrio h hwho hx,
      goes_tcbSuspend h hwho hx, goes_tcbFree h hwho hx⟩, goes_schObjCfgWrite h, exec_schObjCfgWrite_waited h,
    fun f p _ hstream hs => goes_flowPost_stream h.1 hs hstream, fun f _ hnone => ⟨fun p hs => goes_flowPost h.1 hnone hs,
      fun p hs => goes_flowPost_full h.1 hnone hs, fun q => goes_flowDone_late h,
      fun i hitems => ⟨goes_flowDone_last h hnone hitems, goes_flowStall hfiles hu hnone hitems⟩,
      fun p q st rest hs => goes_flowTake h.1 hs⟩,
    fun a b retain hready => ⟨goes_schMigrate hready retain, goes_schMigrate_refused hready retain⟩,
    fun m k hmig hk hk8 hfrom hto hne => ⟨fun hs hidle => ?park, ?force⟩⟩
  case host =>
    rintro rfl c hc
    simp only [List.mem_cons, List.not_mem_nil, or_false] at hc
    obtain rfl | rfl | rfl | rfl | rfl := hc <;> exact congrArg Host.Outcome.next (tcbCommand_host h _)
  case park =>
    obtain ⟨v, hexec, hv⟩ := goes_schPark hk hk8 hfrom hto hne h.1 hmig hs hidle
    exact ⟨v, hexec, hv.none, hv.physical, hv.taken, hv.left, hv.result⟩
  case force =>
    obtain ⟨v, hexec, hv, hcount, hfaulted⟩ := goes_migrationForce hk hk8 hfrom hto hne h.1 hmig
    exact ⟨v, hexec, hv.none, hv.physical, hv.taken, hv.left, hv.result, hcount, hfaulted⟩

end Sys2Proof.Machine

namespace Sys2Proof.Machine

/-! ### A backlog beyond its register's width

The form of the register files asks for rising keys alone: in a state that has it, a file may hold a number wider than its field.
NRG_PLS.BACKLOG has 16 bits. From 65,537 a pulse leaves 65,536, which the write cuts to 0. No write leaves such a number behind, but the obligation
speaks of every state whose register files have their form. -/

/-- An operating device with the energy engine running, and output 0 enabled with one pulse per 100 s at most; its backlog reads 65,537. -/
def overfullBacklog : State :=
  let s : State := { State.reset with
    boot := { State.reset.boot with inReset := false }
    roasts := { region0 := some { secs := [{ kind := 0x58, recs := [[1, 0, 0, 0, 1, 0]] }] } } }
  let s := (((s.set Reg.BOOT_STATUS.STATE 1).setFlag Reg.NRG_CTL.EN true).setFlag Reg.NRG_CTL.BUSY true).setFlag (Reg.NRG_PLS.EN.ix 0) true
  { s with regs := s.regs.set (Reg.NRG_PLS.BACKLOG.ix 0).rst (Reg.NRG_PLS.BACKLOG.ix 0).key 65537 }

theorem overfullBacklog_ready : Ready overfullBacklog .sec := by
  unfold Ready
  decide +kernel

/-- Output 0 may start a pulse. -/
theorem overfullBacklog_starts : overfullBacklog.operating = true ∧ overfullBacklog.blockRuns .energy = true ∧
    overfullBacklog.flag (Reg.NRG_PLS.EN.ix 0) = true ∧ overfullBacklog.get (Reg.NRG_PLS.BACKLOG.ix 0) = 65537 ∧
    0 < overfullBacklog.roast.plsMax 0 := by decide +kernel

theorem overfullBacklog_emptied : Goes (.pulseStart 0 0) overfullBacklog fun v => v.get (Reg.NRG_PLS.BACKLOG.ix 0) = 0 :=
  ⟨_, rfl, by decide +kernel⟩

/-- Refutes O54: its clause on PULSE_START fails in overfullBacklog, whose backlog the pulse takes from 65,537 to 0. -/
theorem not_energyCommands : ¬ Obligations.EnergyCommands := by
  unfold Obligations.EnergyCommands
  intro h
  have hnow : overfullBacklog.moveTo 0 = overfullBacklog := moveTo_passed (Nat.zero_le _)
  obtain ⟨-, -, hpulses, -⟩ := h overfullBacklog overfullBacklog .sec 0 overfullBacklog_ready hnow.symm
  obtain ⟨hstart, -, -⟩ := hpulses 0 {} (by decide) rfl
  obtain ⟨hop, hruns, hen, hbacklog, hmax⟩ := overfullBacklog_starts
  obtain ⟨v, hv, hless, -⟩ := hstart hop hruns hen (by rw [hbacklog]; decide) hmax rfl nofun nofun
  obtain ⟨w, hw, hzero⟩ := overfullBacklog_emptied
  obtain rfl : v = w := Host.Outcome.next.inj (hv.symm.trans hw)
  rw [hbacklog] at hless
  exact absurd (hless.symm.trans hzero) (by decide)

end Sys2Proof.Machine

namespace Sys2Proof.Machine

/-! ### Counting: what the crystal's ticks do to the calendar (R482, R486, R488, R491) -/

section
variable {s u w : State} {who : Requester} {ticks now : Nat}

theorem mainPower_of_boot (h : u.boot = s.boot) : u.mainPower = s.mainPower := by rw [State.mainPower, State.mainPower, h]

theorem Ready.mainPower (h : Ready s who) : s.mainPower = true := by simp [State.mainPower, h.outOfReset]

theorem getInt_eq_of_get_eq {f : Fld} (h : u.get f = s.get f) : u.getInt f = s.getInt f := by rw [State.getInt, State.getInt, h]

theorem alarm_keeps (s : State) : Keeps [Reg.RTC_STATUS.ALARM, Reg.RTC_IRQ.ALARM] [.out, .pins, .backup] s s.alarm := by
  have hraised : Keeps [Reg.RTC_STATUS.ALARM, Reg.RTC_IRQ.ALARM] [.out, .pins, .backup] s (s.setFlag Reg.RTC_STATUS.ALARM true).raiseAlarm := by
    unfold State.raiseAlarm
    have hset := (Keeps.refl [Reg.RTC_STATUS.ALARM, Reg.RTC_IRQ.ALARM] [.out, .pins, .backup] s).setFlag (f := Reg.RTC_STATUS.ALARM) (b := true) (by simp)
    exact Keeps.ite (hset.irq (by simp) rfl) (hset.upd rfl rfl rfl rfl)
  exact Keeps.ite (hraised.upd rfl rfl rfl rfl) hraised

theorem setOsf_keeps (s : State) : Keeps [Reg.RTC_STATUS.OSF, Reg.RTC_STATUS.SET_SINCE_OSF] [] s s.setOsf :=
  ((Keeps.refl _ _ s).setFlag (by simp)).setFlag (by simp)

/-- The fields that the calendar's end writes. -/
def rangeFields : List Fld := [Reg.RTC_STATUS.RANGE_END, Reg.RTC_STATUS.OSF, Reg.RTC_STATUS.SET_SINCE_OSF] ++ logFields (evCode 21 2)

theorem logRange_keeps (s : State) : Keeps (logFields (evCode 21 2)) [.out, .evr, .backup] s s.logRange :=
  Keeps.ite (Keeps.log (fun _ m => m) rfl rfl (Keeps.refl _ _ s)) ((Keeps.refl _ _ s).upd rfl rfl rfl rfl)

/-- The calendar stands at its last second. -/
def State.calStopped (s : State) : State := { s with backup := { s.backup with sec := calendarEnd - 1, sub := 0, running := false } }

theorem calStopped_keeps (s : State) : Keeps rangeFields [.out, .evr, .backup] s s.calStopped := (Keeps.refl _ _ s).upd rfl rfl rfl rfl

theorem rangeEnd_eq (s : State) : s.rangeEnd = (s.calStopped.setFlag Reg.RTC_STATUS.RANGE_END true).setOsf.logRange := rfl

theorem rangeEnd_keeps (s : State) : Keeps rangeFields [.out, .evr, .backup] s s.rangeEnd :=
  (((calStopped_keeps s).setFlag (by simp [rangeFields])).trans ((setOsf_keeps _).mono (by simp [rangeFields]) (by simp))).trans
    ((logRange_keeps _).mono (fun _ m => List.mem_append_right _ m) (fun _ hp => hp))

/-- The fields that counting writes. -/
def calFields : List Fld := [Reg.RTC_HOLD_ELAPSED.TICKS, Reg.RTC_STATUS.ALARM, Reg.RTC_IRQ.ALARM] ++ rangeFields

theorem calTicks_keeps (s : State) (t : Nat) : Keeps calFields [.out, .pins, .evr, .backup] s (s.calTicks t) := by
  unfold State.calTicks
  extract_lets c _ s1 now m _ s2 s3
  have h1 : Keeps calFields [.out, .pins, .evr, .backup] s s1 := (Keeps.refl _ _ s).upd rfl rfl rfl rfl
  have h2 : Keeps calFields [.out, .pins, .evr, .backup] s s2 := h1.trans ((Keeps.refl _ _ s1).upd rfl rfl rfl rfl)
  have h3 : Keeps calFields [.out, .pins, .evr, .backup] s s3 :=
    Keeps.ite (h2.trans ((alarm_keeps _).mono (by simp [calFields]) (by simp +contextual))) h2
  exact Keeps.ite (Keeps.refl _ _ s) (Keeps.ite (h1.count (by simp [calFields])) (Keeps.ite
    (h3.trans ((rangeEnd_keeps _).mono (fun _ m => List.mem_append_right _ m) (by simp +contextual))) h3))

theorem filesOk_calTicks (h : s.filesOk = true) (t : Nat) : (s.calTicks t).filesOk = true := (moves_calTicks s t).files h

theorem calTicks_idle (h : s.counting = false) : s.calTicks ticks = s := by simp [State.calTicks, h]

/-- The place in the compensation's period after some ticks. -/
def State.calPos (s : State) (t : Nat) : State := { s with backup := { s.backup with pos := min (s.backup.pos + t) 1048576 } }

/-- A held calendar keeps its time and counts the ticks. -/
theorem calTicks_held (hcount : s.counting = true) (hcomp : s.flag Reg.BKP_TCOMP_CTL.EN = false) (hhold : s.flag Reg.RTC_CTL.HOLD = true) :
    s.calTicks ticks = (s.calPos ticks).count Reg.RTC_HOLD_ELAPSED.TICKS ticks := by
  simp [State.calTicks, State.compTicks, State.calPos, hcount, hcomp, hhold]

theorem get_count {f : Fld} (h : s.filesOk = true) (n : Nat) : (s.count f n).get f = min (s.get f + n) (2 ^ f.width - 1) := by
  have hlt : min (s.get f + n) (2 ^ f.width - 1) < 2 ^ f.width := by
    have := Nat.two_pow_pos f.width
    omega
  exact (State.get_set h).trans (Nat.mod_eq_of_lt hlt)

theorem held_counts (h : s.filesOk = true) (hw : w = s.calTicks ticks) (hcount : s.counting = true) (hcomp : s.flag Reg.BKP_TCOMP_CTL.EN = false)
    (hhold : s.flag Reg.RTC_CTL.HOLD = true) : w.backup.sec = s.backup.sec ∧ w.backup.sub = s.backup.sub ∧
      w.get Reg.RTC_HOLD_ELAPSED.TICKS = min (s.get Reg.RTC_HOLD_ELAPSED.TICKS + ticks) (2 ^ Reg.RTC_HOLD_ELAPSED.TICKS.width - 1) := by
  rw [calTicks_held hcount hcomp hhold] at hw
  subst hw
  have hbackup : ((s.calPos ticks).count Reg.RTC_HOLD_ELAPSED.TICKS ticks).backup = (s.calPos ticks).backup :=
    (moves_count ..).touches.2 .backup rfl
  exact ⟨(congrArg Backup.sec hbackup :), (congrArg Backup.sub hbackup :), get_count (by exact h) ticks⟩

/-- The state with its calendar `t` ticks later: no flag, no interrupt and no end of the range yet. -/
def State.calMoved (s : State) (t : Nat) : State :=
  { s with backup := { s.backup with
      pos := min (s.backup.pos + t) 1048576
      sec := (s.backup.sec * tickHz + s.backup.sub + t) / tickHz
      sub := (s.backup.sec * tickHz + s.backup.sub + t) % tickHz
      leapSecond := false } }

/-- The alarm fires where the calendar comes to its time. -/
def State.calAlarmed (s : State) (t : Nat) : State :=
  if s.reachesAlarm (s.backup.sec * tickHz + s.backup.sub) (s.backup.sec * tickHz + s.backup.sub + t) false then (s.calMoved t).alarm
  else s.calMoved t

/-- A calendar that counts without compensation, a leap second or the automatic sync takes the ticks one by one. -/
structure PlainCount (s : State) : Prop where
  counting : s.counting = true
  comp : s.flag Reg.BKP_TCOMP_CTL.EN = false
  hold : s.flag Reg.RTC_CTL.HOLD = false
  sync : s.flag Reg.RTC_CTL.AUTO_SYNC = false
  leap : s.backup.leapSecond = false

theorem PlainCount.calTicks (h : PlainCount s) (hnow : now = s.backup.sec * tickHz + s.backup.sub) :
    s.calTicks ticks = if calendarEnd * tickHz ≤ now + ticks then (s.calAlarmed ticks).rangeEnd else s.calAlarmed ticks := by
  obtain ⟨hcount, hcomp, hhold, hsync, hleap⟩ := h
  simp [State.calTicks, State.compTicks, State.leapMove, State.calAlarmed, State.calMoved, hcount, hcomp, hhold, hsync, hleap, hnow]

theorem alarm_backup (h : s.mainPower = true) : s.alarm.backup = s.backup := by
  have hflag : (s.setFlag Reg.RTC_STATUS.ALARM true).raiseAlarm.backup = s.backup := by
    rw [State.raiseAlarm, if_pos ((mainPower_of_boot ((moves_setFlag ..).touches.2 .boot rfl)).trans h)]
    exact ((moves_irq ..).touches.2 .backup rfl).trans ((moves_setFlag ..).touches.2 .backup rfl)
  unfold State.alarm
  dsimp only
  split <;> exact hflag

theorem calAlarmed_backup (h : s.mainPower = true) : (s.calAlarmed ticks).backup = (s.calMoved ticks).backup := by
  unfold State.calAlarmed
  split
  · exact alarm_backup (s := s.calMoved ticks) (by exact h)
  · rfl

theorem filesOk_calAlarmed (h : s.filesOk = true) : (s.calAlarmed ticks).filesOk = true := by
  unfold State.calAlarmed
  split
  · exact (moves_alarm _).files (by exact h)
  · exact h

/-- Within the calendar's range the count is the sum. -/
theorem PlainCount.adds (h : PlainCount s) (hpower : s.mainPower = true) (hnow : now = s.backup.sec * tickHz + s.backup.sub)
    (hw : w = s.calTicks ticks) (hin : now + ticks < calendarEnd * tickHz) :
    w.backup.sec * tickHz + w.backup.sub = now + ticks ∧ w.backup.sub < tickHz := by
  rw [h.calTicks hnow, if_neg (Nat.not_le.mpr hin)] at hw
  rw [hw, calAlarmed_backup hpower, hnow]
  exact ⟨Nat.div_add_mod' .., Nat.mod_lt _ (by decide)⟩

theorem alarm_fires (h : s.filesOk = true) (hpower : s.mainPower = true) : s.alarm.flag Reg.RTC_STATUS.ALARM = true ∧
    s.alarm.flag Reg.RTC_IRQ.ALARM = true ∧ (s.flag Reg.RTC_CTL.WAKE_EN = true → s.alarm.pins.pwrOn = true) := by
  let set := s.setFlag Reg.RTC_STATUS.ALARM true
  have hset : set.filesOk = true := filesOk_setFlag h
  have hraise : set.raiseAlarm = set.irq Reg.RTC_IRQ.ALARM Reg.RTC_IRQ_MASK.MASK 112 :=
    if_pos ((mainPower_of_boot ((moves_setFlag ..).touches.2 .boot rfl)).trans hpower)
  have hget (g : Fld) : s.alarm.get g = set.raiseAlarm.get g := by
    unfold State.alarm
    dsimp only
    split <;> rfl
  refine ⟨(flag_eq_of_get_eq (hget _)).trans ?_, (flag_eq_of_get_eq (hget _)).trans ?_, fun hwake => ?_⟩
  · rw [hraise, (Spares.irq (P := (· = Reg.RTC_STATUS.ALARM)) (by rintro _ rfl; decide) (Spares.refl _ set)).flag rfl]
    exact flag_setFlag h rfl
  · rw [hraise]
    exact flag_irq hset rfl ..
  · unfold State.alarm
    dsimp only
    rw [if_pos hwake]

/-- What the end of the range writes afterwards leaves the alarm's flags and PWR_ON as they are. -/
theorem PlainCount.alarms (h : PlainCount s) (hr : Ready s who) (hnow : now = s.backup.sec * tickHz + s.backup.sub)
    (hen : s.flag Reg.RTC_CTL.ALARM_EN = true) (hok : s.alarmDate.ok = true) (hbefore : now < s.alarmDate.secs * tickHz)
    (hreach : s.alarmDate.secs * tickHz ≤ now + ticks) : Goes (.rtcAlarm ticks) s fun v =>
      v.flag Reg.RTC_STATUS.ALARM = true ∧ v.flag Reg.RTC_IRQ.ALARM = true ∧ (s.flag Reg.RTC_CTL.WAKE_EN = true → v.pins.pwrOn = true) := by
  have hreaches : s.reachesAlarm now (now + ticks) false = true := by
    simp only [State.reachesAlarm, hen, hok, hbefore, hreach, and_self, decide_true, Bool.false_and, Bool.not_false, Bool.and_self]
  have halarmed : s.calAlarmed ticks = (s.calMoved ticks).alarm := by rw [State.calAlarmed, ← hnow, if_pos hreaches]
  obtain ⟨hstatus, hirq, hwake⟩ := alarm_fires (s := s.calMoved ticks) (by exact hr.1) (by exact hr.mainPower)
  refine ⟨_, rfl, ?_⟩
  rw [h.calTicks hnow, halarmed]
  split
  · have hkeep := rangeEnd_keeps (s.calMoved ticks).alarm
    refine ⟨(flag_eq_of_get_eq (hkeep.get (by decide))).trans hstatus, (flag_eq_of_get_eq (hkeep.get (by decide))).trans hirq, fun h => ?_⟩
    exact (congrArg Pins.pwrOn (hkeep.2.1 .pins (by decide) rfl)).trans (hwake h)
  · exact ⟨hstatus, hirq, hwake⟩

theorem setOsf_sets (h : s.filesOk = true) : s.setOsf.flag Reg.RTC_STATUS.OSF = true ∧ s.setOsf.flag Reg.RTC_STATUS.SET_SINCE_OSF = false :=
  ⟨(flag_eq_of_get_eq (get_setFlag_ne (by decide))).trans (flag_setFlag h rfl), flag_setFlag (filesOk_setFlag h) rfl⟩

theorem logRange_running (s : State) : s.logRange.backup.running = s.backup.running ∧ s.logRange.backup.sec = s.backup.sec := by
  unfold State.logRange
  split
  · rw [show (s.log (evCode 21 2) 0 []).backup = s.backup from (moves_log ..).touches.2 .backup rfl]
    exact ⟨rfl, rfl⟩
  · exact ⟨rfl, rfl⟩

theorem rangeEnd_stops (h : s.filesOk = true) : s.rangeEnd.backup.running = false ∧ s.rangeEnd.backup.sec = calendarEnd - 1 ∧
    s.rangeEnd.flag Reg.RTC_STATUS.RANGE_END = true ∧ s.rangeEnd.flag Reg.RTC_STATUS.OSF = true := by
  let stopped := s.calStopped
  have hfiles : (stopped.setFlag Reg.RTC_STATUS.RANGE_END true).filesOk = true := filesOk_setFlag (by exact h)
  have hbackup : (stopped.setFlag Reg.RTC_STATUS.RANGE_END true).setOsf.backup = stopped.backup :=
    ((moves_setOsf _).touches.2 .backup rfl).trans ((moves_setFlag ..).touches.2 .backup rfl)
  have hlog := logRange_keeps (stopped.setFlag Reg.RTC_STATUS.RANGE_END true).setOsf
  obtain ⟨hrun, hsec⟩ := logRange_running (stopped.setFlag Reg.RTC_STATUS.RANGE_END true).setOsf
  refine ⟨hrun.trans (congrArg Backup.running hbackup), hsec.trans (congrArg Backup.sec hbackup), ?_, ?_⟩
  · refine (flag_eq_of_get_eq (hlog.get (by decide))).trans ((flag_eq_of_get_eq ((setOsf_keeps _).get (by decide))).trans ?_)
    exact flag_setFlag (by exact h) rfl
  · exact (flag_eq_of_get_eq (hlog.get (by decide))).trans (setOsf_sets hfiles).1

theorem PlainCount.ends (h : PlainCount s) (hf : s.filesOk = true) (hnow : now = s.backup.sec * tickHz + s.backup.sub)
    (hend : calendarEnd * tickHz ≤ now + ticks) : Goes (.calendarRangeEnd ticks) s fun v => v.backup.running = false ∧
      v.backup.sec = calendarEnd - 1 ∧ v.flag Reg.RTC_STATUS.RANGE_END = true ∧ v.flag Reg.RTC_STATUS.OSF = true := by
  refine ⟨_, rfl, ?_⟩
  rw [h.calTicks hnow, if_pos hend]
  exact rangeEnd_stops (filesOk_calAlarmed hf)

end

end Sys2Proof.Machine

namespace Sys2Proof.Machine

/-! ### The calendar's commands, once the ticks they name are counted (R487, R488, R490) -/

section
variable {s u w : State} {who : Requester} {ticks : Nat}

/-- A list of writes to places that differ leaves each place with its value. -/
theorem get_writes {ws : List (Fld × Nat)} {f : Fld} {v : Nat} (h : s.filesOk = true) (hmem : (f, v) ∈ ws)
    (hne : ws.Pairwise fun a b => a.1.key ≠ b.1.key) : (ws.foldl (fun t p => t.set p.1 p.2) s).get f = v % 2 ^ f.width := by
  induction ws generalizing s with
  | nil => simp at hmem
  | cons a ws ih =>
    obtain ⟨hhead, htail⟩ := List.pairwise_cons.mp hne
    rcases List.mem_cons.mp hmem with rfl | hmem
    · have hlater : Spares (· = f) (s.set f v) (ws.foldl (fun t p => t.set p.1 p.2) (s.set f v)) :=
        (Spares.refl _ _).foldl fun t b hb => (Spares.refl _ t).set fun g hg => .inl (hg ▸ (hhead b hb).symm)
      exact (hlater.get_eq f rfl).trans (State.get_set h)
    · exact ih (State.filesOk_set h) hmem htail

/-- What a read of RTC_SEC shows, field by field. -/
def State.dateShown (s : State) : List (Fld × Nat) :=
  let d := dateOf s.backup.sec
  [(Reg.RTC_SEC.SUBSEC, s.backup.sub), (Reg.RTC_SEC.SEC, d.sec), (Reg.RTC_TIME.MIN, d.min), (Reg.RTC_TIME.HOUR, d.hour),
    (Reg.RTC_DATE.DAY, d.day), (Reg.RTC_DATE.MONTH, d.month), (Reg.RTC_DATE.WEEKDAY, weekday s.backup.sec), (Reg.RTC_DATE.YEAR, d.year)]

/-- The fields of a read of RTC_SEC. -/
def dateFields : List Fld :=
  [Reg.RTC_SEC.SUBSEC, Reg.RTC_SEC.SEC, Reg.RTC_TIME.MIN, Reg.RTC_TIME.HOUR, Reg.RTC_DATE.DAY, Reg.RTC_DATE.MONTH, Reg.RTC_DATE.WEEKDAY,
    Reg.RTC_DATE.YEAR]

theorem dateShown_fields (s : State) : s.dateShown.map Prod.fst = dateFields := rfl

theorem dateFields_apart : dateFields.Pairwise fun f g => f.key ≠ g.key := by decide

theorem dateFields_own : ∀ f ∈ dateFields, f.perReq = true ∧ f.bank = 0 := by decide

theorem key_of_own {f : Fld} (h : f.perReq = true ∧ f.bank = 0) (who : Requester) : (f.of who).key = who.bank * bankSpan + f.key := by
  obtain ⟨hown, hbank⟩ := h
  simp only [Fld.of, hown, if_true, Fld.inBank, Fld.key, hbank]
  omega

/-- The writes of a read of RTC_SEC: each to the requester's own copy. -/
def State.dateWrites (s : State) (who : Requester) : List (Fld × Nat) := s.dateShown.map fun p => (p.1.of who, p.2)

theorem dateWrites_apart (s : State) (who : Requester) : (s.dateWrites who).Pairwise fun a b => a.1.key ≠ b.1.key := by
  have hmem {p : Fld × Nat} (hp : p ∈ s.dateShown) : p.1 ∈ dateFields := dateShown_fields s ▸ List.mem_map_of_mem hp
  refine List.pairwise_map.mpr ?_
  refine (List.pairwise_map.mp (dateShown_fields s ▸ dateFields_apart)).imp_of_mem fun ha hb hne => ?_
  rw [key_of_own (dateFields_own _ (hmem ha)), key_of_own (dateFields_own _ (hmem hb))]
  omega

theorem dateWrites_keeps (s : State) (who : Requester) :
    Keeps (dateFields.map fun f => f.of who) [] s ((s.dateWrites who).foldl (fun t p => t.set p.1 p.2) s) := by
  refine (Keeps.refl _ _ s).foldl fun t p hp => (Keeps.refl _ _ t).set ?_
  obtain ⟨q, hq, rfl⟩ := List.mem_map.mp hp
  exact List.mem_map_of_mem (dateShown_fields s ▸ List.mem_map_of_mem hq)

theorem exec_rtcSecLatch (hw : w = s.calTicks ticks) : exec (.rtcSecLatch who ticks) s =
    .next ((w.dateWrites who).foldl (fun t p => t.set p.1 p.2) w) := hw ▸ rfl

theorem goes_rtcSecLatch (h : s.filesOk = true) (hw : w = s.calTicks ticks) : Goes (.rtcSecLatch who ticks) s fun v =>
    v.get (Reg.RTC_SEC.SEC.of who) = (dateOf w.backup.sec).sec ∧ v.get (Reg.RTC_SEC.SUBSEC.of who) = w.backup.sub % 2 ^ 15 ∧
    v.get (Reg.RTC_TIME.MIN.of who) = (dateOf w.backup.sec).min ∧ v.get (Reg.RTC_TIME.HOUR.of who) = (dateOf w.backup.sec).hour ∧
    v.get (Reg.RTC_DATE.WEEKDAY.of who) = weekday w.backup.sec ∧ v.get (Reg.RTC_DATE.YEAR.of who) = (dateOf w.backup.sec).year % 2 ^ 9 ∧
    Keeps (dateFields.map fun f => f.of who) [] w v := by
  have hfiles : w.filesOk = true := hw ▸ filesOk_calTicks h ticks
  have hget {f : Fld} {v : Nat} (hmem : (f, v) ∈ w.dateShown) :
      ((w.dateWrites who).foldl (fun t p => t.set p.1 p.2) w).get (f.of who) = v % 2 ^ (f.of who).width :=
    get_writes hfiles (List.mem_map.mpr ⟨(f, v), hmem, rfl⟩) (dateWrites_apart w who)
  have hsec : (dateOf w.backup.sec).sec < 2 ^ 6 := (Nat.mod_lt _ (by decide : 60 > 0)).trans (by decide)
  have hmin : (dateOf w.backup.sec).min < 2 ^ 6 := (Nat.mod_lt _ (by decide : 60 > 0)).trans (by decide)
  have hhour : (dateOf w.backup.sec).hour < 2 ^ 5 := (Nat.mod_lt _ (by decide : 24 > 0)).trans (by decide)
  have hday : weekday w.backup.sec < 2 ^ 3 := by
    unfold weekday
    omega
  refine ⟨_, exec_rtcSecLatch hw, ?_, ?_, ?_, ?_, ?_, ?_, dateWrites_keeps w who⟩
  · exact (hget (f := Reg.RTC_SEC.SEC) (by simp [State.dateShown])).trans (Nat.mod_eq_of_lt hsec)
  · exact hget (f := Reg.RTC_SEC.SUBSEC) (by simp [State.dateShown])
  · exact (hget (f := Reg.RTC_TIME.MIN) (by simp [State.dateShown])).trans (Nat.mod_eq_of_lt hmin)
  · exact (hget (f := Reg.RTC_TIME.HOUR) (by simp [State.dateShown])).trans (Nat.mod_eq_of_lt hhour)
  · exact (hget (f := Reg.RTC_DATE.WEEKDAY) (by simp [State.dateShown])).trans (Nat.mod_eq_of_lt hday)
  · exact hget (f := Reg.RTC_DATE.YEAR) (by simp [State.dateShown])

/-! HOLD -/

theorem exec_rtcHold (h : Ready s who) (hw : w = s.calTicks ticks) : exec (.rtcHold who ticks) s = .next
    (if w.flag Reg.RTC_CTL.HOLD then w else (w.setFlag Reg.RTC_CTL.HOLD true).set Reg.RTC_HOLD_ELAPSED.TICKS 0) := by
  subst hw
  exact congrArg Host.Outcome.next (h.guarded ..)

/-- The staged date is transferred. -/
def State.transferred (s : State) : State :=
  (((s.setCalendar s.staged.secs).setFlag Reg.RTC_STATUS.RANGE_END false).setFlag Reg.RTC_STATUS.DATE_INVALID false).setFlag Reg.RTC_CTL.HOLD false

/-- The staged date is refused. -/
def State.dateRefused (s : State) : State :=
  (s.setFlag Reg.RTC_STATUS.DATE_INVALID true).irq Reg.RTC_IRQ.DATE_INVALID Reg.RTC_IRQ_MASK.MASK 112

theorem exec_rtcHoldClear (h : Ready s who) (hw : w = s.calTicks ticks) : exec (.rtcHoldClear who ticks) s = .next
    (if !w.flag Reg.RTC_CTL.HOLD then w else if w.staged.ok then w.transferred else w.dateRefused) := by
  subst hw
  exact congrArg Host.Outcome.next (h.guarded ..)

theorem goes_rtcHold (h : Ready s who) (hw : w = s.calTicks ticks) (hrun : w.flag Reg.RTC_CTL.HOLD = false) :
    Goes (.rtcHold who ticks) s fun v => v.flag Reg.RTC_CTL.HOLD = true ∧ v.get Reg.RTC_HOLD_ELAPSED.TICKS = 0 ∧
      Keeps [Reg.RTC_CTL.HOLD, Reg.RTC_HOLD_ELAPSED.TICKS] [] w v := by
  have hfiles : w.filesOk = true := hw ▸ filesOk_calTicks h.1 ticks
  refine ⟨_, (exec_rtcHold h hw).trans (congrArg Host.Outcome.next (if_neg (by simp [hrun]))), ?_, ?_, ?_⟩
  · exact (flag_eq_of_get_eq (State.get_set_ne (by decide))).trans (flag_setFlag hfiles rfl)
  · exact (State.get_set (filesOk_setFlag hfiles)).trans (Nat.zero_mod _)
  · exact ((Keeps.refl _ _ w).setFlag (by simp)).set (by simp)

theorem transferred_spec (h : w.filesOk = true) : w.transferred.flag Reg.RTC_CTL.HOLD = false ∧ w.transferred.backup.sec = w.staged.secs ∧
    w.transferred.backup.sub = 0 ∧ w.transferred.backup.running = true ∧ w.transferred.flag Reg.RTC_STATUS.SET_SINCE_OSF = true ∧
    Keeps [Reg.RTC_CTL.HOLD, Reg.RTC_STATUS.SET_SINCE_OSF, Reg.RTC_STATUS.RANGE_END, Reg.RTC_STATUS.DATE_INVALID] [.backup] w w.transferred := by
  let set := w.setCalendar w.staged.secs
  let invalid := (set.setFlag Reg.RTC_STATUS.RANGE_END false).setFlag Reg.RTC_STATUS.DATE_INVALID false
  have hset : set.filesOk = true := (moves_setCalendar ..).files h
  have hinvalid : invalid.filesOk = true := filesOk_setFlag (filesOk_setFlag hset)
  have hsince : set.flag Reg.RTC_STATUS.SET_SINCE_OSF = true := flag_setFlag (by exact h) rfl
  have hspares : Spares (· = Reg.RTC_STATUS.SET_SINCE_OSF) set w.transferred :=
    Spares.setFlag (by rintro _ rfl; decide) (Spares.setFlag (by rintro _ rfl; decide) (Spares.setFlag (by rintro _ rfl; decide) (Spares.refl _ set)))
  have hbackup : w.transferred.backup = { w.backup with sec := w.staged.secs, sub := 0, running := true, leapSecond := false } := by
    unfold State.transferred State.setCalendar State.setFlag
    simp only [State.set_backup]
  refine ⟨flag_setFlag hinvalid rfl, by rw [hbackup], by rw [hbackup], by rw [hbackup], (hspares.flag rfl).trans hsince, ?_⟩
  exact Keeps.setFlag (by simp) (Keeps.setFlag (by simp) (Keeps.setFlag (by simp) (Keeps.setFlag (by simp) ((Keeps.refl _ _ w).upd rfl rfl rfl rfl))))

theorem goes_rtcHoldClear (h : Ready s who) (hw : w = s.calTicks ticks) (hhold : w.flag Reg.RTC_CTL.HOLD = true) (hok : w.staged.ok = true) :
    Goes (.rtcHoldClear who ticks) s fun v => v.flag Reg.RTC_CTL.HOLD = false ∧ v.backup.sec = w.staged.secs ∧ v.backup.sub = 0 ∧
      v.backup.running = true ∧ v.flag Reg.RTC_STATUS.SET_SINCE_OSF = true ∧
      Keeps [Reg.RTC_CTL.HOLD, Reg.RTC_STATUS.SET_SINCE_OSF, Reg.RTC_STATUS.RANGE_END, Reg.RTC_STATUS.DATE_INVALID] [.backup] w v :=
  ⟨_, (exec_rtcHoldClear h hw).trans (by rw [if_neg (by simp [hhold]), if_pos hok]), transferred_spec (hw ▸ filesOk_calTicks h.1 ticks)⟩

theorem goes_rtcHoldClear_refused (h : Ready s who) (hw : w = s.calTicks ticks) (hhold : w.flag Reg.RTC_CTL.HOLD = true)
    (hbad : w.staged.ok = false) : Goes (.rtcHoldClear who ticks) s fun v => v.flag Reg.RTC_CTL.HOLD = true ∧
      v.flag Reg.RTC_STATUS.DATE_INVALID = true ∧ Keeps [Reg.RTC_STATUS.DATE_INVALID, Reg.RTC_IRQ.DATE_INVALID] [.out] w v := by
  have hfiles : w.filesOk = true := hw ▸ filesOk_calTicks h.1 ticks
  have hkeep : Keeps [Reg.RTC_STATUS.DATE_INVALID, Reg.RTC_IRQ.DATE_INVALID] [.out] w w.dateRefused :=
    ((Keeps.refl _ _ w).setFlag (by simp)).irq (by simp) rfl
  refine ⟨_, (exec_rtcHoldClear h hw).trans (by rw [if_neg (by simp [hhold]), if_neg (by simp [hbad])]), ?_, ?_, hkeep⟩
  · exact (flag_eq_of_get_eq (hkeep.get (by decide))).trans hhold
  · refine ((Spares.irq (P := (· = Reg.RTC_STATUS.DATE_INVALID)) (by rintro _ rfl; decide) (Spares.refl _ _)).flag rfl).trans ?_
    exact flag_setFlag hfiles rfl

/-! The automatic sync -/

/-- The state in which the automatic sync is judged. -/
def State.atSync (s : State) (t : Tai) (ticks : Nat) : State := (s.moveTo t).calTicks ticks

/-- Counting leaves every field but its own as it was. -/
theorem get_atSync {t : Tai} {g : Fld} (hg : ∀ f ∈ calFields, g.key ≠ f.key ∨ g.dom ≠ f.dom) : (s.atSync t ticks).get g = s.get g :=
  ((calTicks_keeps (s.moveTo t) ticks).get hg).trans (get_moves (moves_moveTo s t) rfl g)

theorem exec_rtcAutoSync_idle {t : Tai} (hidle : s.flag Reg.RTC_CTL.AUTO_SYNC = false ∨ s.flag Reg.RTC_CTL.HOLD = true ∨
    s.get Reg.TSU_STATUS.STATE ≠ 3) : exec (.rtcAutoSync t ticks) s = .next ((s.moveTo t).calTicks ticks) := by
  have hsync : (s.atSync t ticks).flag Reg.RTC_CTL.AUTO_SYNC = s.flag Reg.RTC_CTL.AUTO_SYNC := flag_eq_of_get_eq (get_atSync (by decide))
  have hhold : (s.atSync t ticks).flag Reg.RTC_CTL.HOLD = s.flag Reg.RTC_CTL.HOLD := flag_eq_of_get_eq (get_atSync (by decide))
  have hstate : (s.atSync t ticks).get Reg.TSU_STATUS.STATE = s.get Reg.TSU_STATUS.STATE := get_atSync (by decide)
  refine congrArg Host.Outcome.next (if_neg ?_)
  rw [State.atSync] at hsync hhold hstate
  rw [hsync, hhold, hstate]
  rcases hidle with hidle | hidle | hidle <;> simp [hidle]

/-- The calendar takes second `q` from the time base and shows by how much it was off. -/
def State.synced (s : State) (q : Nat) : State :=
  ((s.setInt Reg.RTC_SYNC_DIFF.DIFF (((s.backup.sec * tickHz + s.backup.sub : Nat) : Int) - q * tickHz)).setCalendar q).irq Reg.RTC_IRQ.SYNC
    Reg.RTC_IRQ_MASK.MASK 112

theorem synced_spec {q : Nat} (h : s.filesOk = true) : (s.synced q).backup.sec = q ∧ (s.synced q).backup.sub = 0 ∧
    (s.synced q).backup.running = true ∧ (s.synced q).flag Reg.RTC_STATUS.SET_SINCE_OSF = true ∧ (s.synced q).flag Reg.RTC_IRQ.SYNC = true := by
  let diff := ((s.backup.sec * tickHz + s.backup.sub : Nat) : Int) - q * tickHz
  let shown := s.setInt Reg.RTC_SYNC_DIFF.DIFF diff
  have hshown : shown.filesOk = true := State.filesOk_set h
  have hset : (shown.setCalendar q).filesOk = true := (moves_setCalendar ..).files hshown
  have hbackup : (s.synced q).backup = { shown.backup with sec := q, sub := 0, running := true, leapSecond := false } := by
    refine ((moves_irq ..).touches.2 .backup rfl).trans ?_
    unfold State.setCalendar State.setFlag
    rw [State.set_backup]
  refine ⟨by rw [hbackup], by rw [hbackup], by rw [hbackup], ?_, flag_irq hset rfl ..⟩
  refine ((Spares.irq (P := (· = Reg.RTC_STATUS.SET_SINCE_OSF)) (by rintro _ rfl; decide) (Spares.refl _ _)).flag rfl).trans ?_
  exact flag_setFlag (by exact hshown) rfl

/-- What the automatic sync makes of the state it is judged in. -/
def State.syncLogged (s : State) (q : Nat) : State :=
  let diff := ((s.backup.sec * tickHz + s.backup.sub : Nat) : Int) - q * tickHz
  if 32 < diff.natAbs then (s.synced q).log (evCode 21 3) 0 (leBytes 4 (codeOf 32 (saturate 32 diff))) else s.synced q

theorem syncLogged_keeps (s : State) (q : Nat) : Keeps (logFields (evCode 21 3)) [.evr, .out] (s.synced q) (s.syncLogged q) :=
  Keeps.ite (Keeps.log (fun _ m => m) rfl rfl (Keeps.refl _ _ _)) (Keeps.refl _ _ _)

/-- A whole UTC second at which the automatic sync acts. -/
structure SyncDue (s : State) (t q : Nat) : Prop where
  sync : s.flag Reg.RTC_CTL.AUTO_SYNC = true
  hold : s.flag Reg.RTC_CTL.HOLD = false
  locked : s.get Reg.TSU_STATUS.STATE = 3
  whole : t % secUnit = 0
  utc : ((t / secUnit : Nat) : Int) = q + s.getInt Reg.TSU_UTC.OFFSET + (epoch2000 : Nat)
  inRange : q < calendarEnd
  multiple : q % 86400 % (60 * if s.get Reg.RTC_CTL.SYNC_MIN = 0 then 60 else s.get Reg.RTC_CTL.SYNC_MIN) = 0

theorem SyncDue.exec {t q : Nat} (h : SyncDue s t q) : exec (.rtcAutoSync t ticks) s = .next ((s.atSync t ticks).syncLogged q) := by
  obtain ⟨hsync, hhold, hlocked, hwhole, hutc, hin, hmultiple⟩ := h
  have hget {g : Fld} (hg : ∀ f ∈ calFields, g.key ≠ f.key ∨ g.dom ≠ f.dom) : ((s.moveTo t).calTicks ticks).get g = s.get g := get_atSync hg
  have hsync' : ((s.moveTo t).calTicks ticks).flag Reg.RTC_CTL.AUTO_SYNC = true := (flag_eq_of_get_eq (hget (by decide))).trans hsync
  have hhold' : ((s.moveTo t).calTicks ticks).flag Reg.RTC_CTL.HOLD = false := (flag_eq_of_get_eq (hget (by decide))).trans hhold
  have hsecond : ((t / secUnit : Nat) : Int) - ((s.moveTo t).calTicks ticks).getInt Reg.TSU_UTC.OFFSET - (epoch2000 : Nat) = q := by
    rw [getInt_eq_of_get_eq (hget (by decide)), hutc]
    ring
  have hdue (m : Nat) (hm : q % 86400 % (60 * m) = 0) :
      0 ≤ (q : Int) ∧ (q : Int) % 86400 % (60 * m : Nat) = 0 ∧ (q : Int) < (calendarEnd : Nat) :=
    ⟨Int.natCast_nonneg q, by exact_mod_cast hm, by exact_mod_cast hin⟩
  show execRtcAutoSync t ticks s = _
  unfold execRtcAutoSync
  dsimp only
  rw [hsecond, hsync', hhold', hget (g := Reg.TSU_STATUS.STATE) (by decide), hget (g := Reg.RTC_CTL.SYNC_MIN) (by decide), hlocked, hwhole,
    decide_eq_true (hdue _ hmultiple)]
  rfl

theorem SyncDue.goes {t q : Nat} (h : SyncDue s t q) (hf : s.filesOk = true) : Goes (.rtcAutoSync t ticks) s fun v => v.backup.sec = q ∧
    v.backup.sub = 0 ∧ v.backup.running = true ∧ v.flag Reg.RTC_STATUS.SET_SINCE_OSF = true ∧ v.flag Reg.RTC_IRQ.SYNC = true := by
  have hfiles : (s.atSync t ticks).filesOk = true := filesOk_calTicks ((moves_moveTo s t).files hf) ticks
  obtain ⟨hsec, hsub, hrun, hsince, hirq⟩ := synced_spec (q := q) hfiles
  have hkeep := syncLogged_keeps (s.atSync t ticks) q
  have hbackup : ((s.atSync t ticks).syncLogged q).backup = ((s.atSync t ticks).synced q).backup := hkeep.2.1 .backup (by decide) rfl
  refine ⟨_, h.exec, ?_⟩
  beta_reduce
  rw [hbackup, flag_eq_of_get_eq (hkeep.get (g := Reg.RTC_STATUS.SET_SINCE_OSF) (by decide)),
    flag_eq_of_get_eq (hkeep.get (g := Reg.RTC_IRQ.SYNC) (by decide))]
  exact ⟨hsec, hsub, hrun, hsince, hirq⟩

end

end Sys2Proof.Machine

namespace Sys2Proof.Machine

/-! ### Compensation and the curve (R483 to R485) -/

section
variable {s r w : State} {who : Requester} {ticks : Nat}

/-- The end of a compensation period: the new temperature and correction are shown, and the period's ticks start again. -/
theorem goes_tempCompPeriod {temp : Int} (h : s.filesOk = true) (hlo : -32768 ≤ temp) (hhi : temp < 32768) :
    Goes (.tempCompPeriod temp) s fun v => v.getInt Reg.BKP_TEMP.TEMP = temp ∧ v.backup.pos = 0 ∧
      (s.flag Reg.BKP_TCOMP_CTL.EN = false → v.backup.trim = 0) := by
  let counted := s.calTicks (1048576 - s.backup.pos)
  have hfiles : counted.filesOk = true := filesOk_calTicks h _
  have hen : counted.flag Reg.BKP_TCOMP_CTL.EN = s.flag Reg.BKP_TCOMP_CTL.EN := flag_eq_of_get_eq ((calTicks_keeps s _).get (by decide))
  have htemp : ((counted.setInt Reg.BKP_TEMP.TEMP temp).setInt Reg.BKP_TEMP.CORR (counted.correction temp)).getInt Reg.BKP_TEMP.TEMP = temp :=
    (getInt_eq_of_get_eq (State.get_set_ne (by decide))).trans (getInt_setInt hfiles (by decide) hlo hhi)
  refine ⟨_, rfl, ?_⟩
  dsimp only
  split
  · next hon => exact ⟨htemp, rfl, fun hoff => absurd (hen.symm.trans hon) (by simp [hoff])⟩
  · exact ⟨htemp, rfl, fun _ => rfl⟩

theorem goes_osfClear (h : Ready s who) (hset : s.flag Reg.RTC_STATUS.SET_SINCE_OSF = true) : Goes (.osfClear who) s fun v =>
    v.flag Reg.RTC_STATUS.OSF = false ∧ Keeps [Reg.RTC_STATUS.OSF] [] s v := by
  refine goes_guarded h rfl ?_
  rw [if_pos hset]
  exact ⟨flag_setFlag h.1 rfl, (Keeps.refl _ _ s).setFlag (by simp)⟩

theorem exec_osfClear_idle (h : Ready s who) (hset : s.flag Reg.RTC_STATUS.SET_SINCE_OSF = false) : exec (.osfClear who) s = .next s :=
  congrArg Host.Outcome.next ((h.guarded ..).trans (if_neg (by simp [hset])))

theorem goes_tcompSave (h : Ready s who) : Goes (.tcompSave who) s fun v =>
    v.flag Reg.BKP_TCOMP_CTL.SAVE = true ∧ Keeps [Reg.BKP_TCOMP_CTL.SAVE] [] s v :=
  goes_guarded h rfl ⟨flag_setFlag h.1 rfl, (Keeps.refl _ _ s).setFlag (by simp)⟩

theorem goes_tcompSaveDone (h : s.filesOk = true) (hsave : s.flag Reg.BKP_TCOMP_CTL.SAVE = true) : Goes .tcompSaveDone s fun v =>
    v.flag Reg.BKP_TCOMP_CTL.SAVE = false ∧ v.nvs.tcomp = (List.range 32).map (fun k => s.get (Reg.BKP_TCOMP.POINT.ix k)) ∧
    Keeps [Reg.BKP_TCOMP_CTL.SAVE] [.nvs] s v := by
  refine ⟨_, congrArg Host.Outcome.next (if_pos hsave), flag_setFlag (by exact h) rfl, ?_,
    Keeps.setFlag (by simp) ((Keeps.refl _ _ s).upd rfl rfl rfl rfl)⟩
  rw [show ∀ u : State, (u.setFlag Reg.BKP_TCOMP_CTL.SAVE false).nvs = u.nvs from fun u => (moves_setFlag ..).touches.2 .nvs rfl]

/-! ### Oscillator, supply and charger (R476 to R482) -/

theorem goes_oscillatorStop (h : s.filesOk = true) (hpower : s.mainPower = true) : Goes .oscillatorStop s fun v =>
    v.env.crystal = false ∧ v.flag Reg.RTC_STATUS.OSF = true ∧ v.flag Reg.RTC_STATUS.SET_SINCE_OSF = false ∧
    v.flag Reg.RTC_IRQ.OSF = true := by
  let stopped : State := { s with env := { s.env with crystal := false } }
  let told := stopped.setOsf.irq Reg.RTC_IRQ.OSF Reg.RTC_IRQ_MASK.MASK 112
  have hosf : stopped.setOsf.filesOk = true := (moves_setOsf _).files (by exact h)
  have hmain : stopped.setOsf.mainPower = true := (mainPower_of_boot ((moves_setOsf _).touches.2 .boot rfl)).trans hpower
  have htold : Keeps [Reg.RTC_IRQ.OSF] [.out] stopped.setOsf told := (Keeps.refl _ _ _).irq (by simp) rfl
  have hlog : Keeps (logFields (evCode 21 1)) [.evr, .out] told (told.log (evCode 21 1) 0 []) :=
    Keeps.log (fun _ m => m) rfl rfl (Keeps.refl _ _ _)
  obtain ⟨hset, hsince⟩ := setOsf_sets (s := stopped) (by exact h)
  refine ⟨_, congrArg Host.Outcome.next (if_pos (show s.mainPower = true from hpower)), ?_, ?_, ?_, ?_⟩
  · have henv : (told.log (evCode 21 1) 0 []).env = stopped.env :=
      (hlog.2.1 .env (by decide) rfl).trans ((htold.2.1 .env (by decide) rfl).trans ((moves_setOsf _).touches.2 .env rfl))
    exact congrArg Env.crystal henv
  · exact (flag_eq_of_get_eq ((hlog.get (by decide)).trans (htold.get (by decide)))).trans hset
  · exact (flag_eq_of_get_eq ((hlog.get (by decide)).trans (htold.get (by decide)))).trans hsince
  · exact (flag_eq_of_get_eq (hlog.get (by decide))).trans (flag_irq hosf rfl ..)

theorem goes_crystalEdgesResume (s : State) : Goes .crystalEdgesResume s fun v => v.env.crystal = true ∧ Keeps [] [.env] s v :=
  ⟨_, rfl, rfl, (Keeps.refl _ _ s).upd rfl rfl rfl rfl⟩

theorem initialBackup_osf : initialBackup.get Reg.RTC_STATUS.OSF.rst Reg.RTC_STATUS.OSF.key = 1 := by decide +kernel

theorem flag_osf_of_initial (h : s.bkp = initialBackup) : s.flag Reg.RTC_STATUS.OSF = true := by
  refine beq_iff_eq.mpr (Eq.trans ?_ initialBackup_osf)
  rw [← h]
  rfl

theorem goes_firstBackupPower (s : State) : Goes .firstBackupPower s fun v =>
    v.bkp = initialBackup ∧ v.flag Reg.RTC_STATUS.OSF = true ∧ v.pins.pwrOn = true ∧ v.regs = s.regs := by
  refine ⟨_, rfl, ?_⟩
  refine ⟨?_, flag_osf_of_initial ?_, ?_, ?_⟩ <;> dsimp only

theorem goes_vbatBrownOut (h : r.filesOk = true) (hoff : r.mainPower = false) : Goes .vbatBrownOut r fun v =>
    v.flag Reg.RTC_STATUS.OSF = true ∧ v.flag Reg.RTC_STATUS.SET_SINCE_OSF = false ∧
    Keeps [Reg.RTC_STATUS.OSF, Reg.RTC_STATUS.SET_SINCE_OSF] [] r v := by
  obtain ⟨hset, hsince⟩ := setOsf_sets h
  exact ⟨_, congrArg Host.Outcome.next (if_neg (by simp [hoff])), hset, hsince, setOsf_keeps r⟩

theorem goes_vbatAbsent (h : s.filesOk = true) (hpower : s.mainPower = true) (absent : Bool) : Goes (.vbatAbsent absent) s fun v =>
    v.env.vbatAbsent = absent ∧ v.flag Reg.BKP_STATUS.VBAT_OK = !absent ∧ Keeps [Reg.BKP_STATUS.VBAT_OK] [.env] s v := by
  refine ⟨_, congrArg Host.Outcome.next (if_pos hpower), ?_, flag_setFlag (by exact h) rfl,
    Keeps.setFlag (by simp) ((Keeps.refl _ _ s).upd rfl rfl rfl rfl)⟩
  rw [show ∀ u : State, (u.setFlag Reg.BKP_STATUS.VBAT_OK (!absent)).env = u.env from fun u => (moves_setFlag ..).touches.2 .env rfl]

/-- The fields that show the measured VBAT. -/
def State.vbatShown (s : State) (mv : Nat) : State :=
  ((s.set Reg.BKP_VBAT.MV mv).setFlag Reg.BKP_STATUS.VBAT_OK (decide (1650 ≤ mv))).setFlag Reg.BKP_STATUS.VBAT_LOW (decide (mv < 2000))

theorem vbatShown_spec {mv : Nat} (h : s.filesOk = true) (hmv : mv < 4096) : (s.vbatShown mv).get Reg.BKP_VBAT.MV = mv ∧
    (s.vbatShown mv).flag Reg.BKP_STATUS.VBAT_OK = decide (1650 ≤ mv) ∧ (s.vbatShown mv).flag Reg.BKP_STATUS.VBAT_LOW = decide (mv < 2000) := by
  have hset : (s.set Reg.BKP_VBAT.MV mv).filesOk = true := State.filesOk_set h
  refine ⟨?_, (flag_eq_of_get_eq (get_setFlag_ne (by decide))).trans (flag_setFlag hset rfl), flag_setFlag (filesOk_setFlag hset) rfl⟩
  exact ((get_setFlag_ne (by decide)).trans (get_setFlag_ne (by decide))).trans ((State.get_set h).trans (Nat.mod_eq_of_lt hmv))

theorem goes_vbatMeasure {mv : Nat} (h : s.filesOk = true) (hpower : s.mainPower = true) (hmv : mv < 4096) : Goes (.vbatMeasure mv) s fun v =>
    v.get Reg.BKP_VBAT.MV = mv ∧ v.flag Reg.BKP_STATUS.VBAT_OK = decide (1650 ≤ mv) ∧ v.flag Reg.BKP_STATUS.VBAT_LOW = decide (mv < 2000) ∧
    Keeps [Reg.BKP_VBAT.MV, Reg.BKP_STATUS.VBAT_OK, Reg.BKP_STATUS.VBAT_LOW, Reg.RTC_IRQ.VBAT_LOW] [.out] s v := by
  let told := if mv < 2000 then (s.vbatShown mv).irq Reg.RTC_IRQ.VBAT_LOW Reg.RTC_IRQ_MASK.MASK 112 else s.vbatShown mv
  have htold : Keeps [Reg.RTC_IRQ.VBAT_LOW] [.out] (s.vbatShown mv) told := Keeps.ite ((Keeps.refl _ _ _).irq (by simp) rfl) (Keeps.refl _ _ _)
  have hshown : Keeps [Reg.BKP_VBAT.MV, Reg.BKP_STATUS.VBAT_OK, Reg.BKP_STATUS.VBAT_LOW, Reg.RTC_IRQ.VBAT_LOW] [.out] s (s.vbatShown mv) :=
    (((Keeps.refl _ _ s).set (by simp)).setFlag (by simp)).setFlag (by simp)
  obtain ⟨hget, hok, hlow⟩ := vbatShown_spec h hmv
  refine ⟨told, congrArg Host.Outcome.next (if_pos hpower), (htold.get (by decide)).trans hget, ?_, ?_, hshown.trans (htold.mono (by simp) fun _ hp => hp)⟩
  · exact (flag_eq_of_get_eq (htold.get (by decide))).trans hok
  · exact (flag_eq_of_get_eq (htold.get (by decide))).trans hlow

/-! The charger -/

/-- The first of a pair of writes. -/
def State.chgPair (s : State) (x : Option (Nat × Requester × Tai)) : State := { s with backup := { s.backup with chgFirst := x } }

theorem chgPair_get (x : Option (Nat × Requester × Tai)) (g : Fld) : (s.chgPair x).get g = s.get g := State.get_upd ..

theorem bitsOf_lt (v i n : Nat) : bitsOf v i n < 2 ^ n := Nat.mod_lt _ (Nat.two_pow_pos n)

theorem chgStore_spec (h : s.filesOk = true) (v : Nat) (on : Bool) : (s.chgStore v on).flag Reg.BKP_CHG.EN = on ∧
    (s.chgStore v on).flag Reg.BKP_STATUS.CHG_ON = on ∧ (s.chgStore v on).get Reg.BKP_CHG.CELL = bitsOf v 5 3 ∧
    (s.chgStore v on).get Reg.BKP_CHG.TARGET = bitsOf v 0 2 := by
  let target := s.set Reg.BKP_CHG.TARGET (bitsOf v 0 2)
  let diode := (target.set Reg.BKP_CHG.RES (bitsOf v 2 2)).set Reg.BKP_CHG.DIODE (bitsOf v 4 1)
  let cell := diode.set Reg.BKP_CHG.CELL (bitsOf v 5 3)
  have hdiode : diode.filesOk = true := State.filesOk_set (State.filesOk_set (State.filesOk_set h))
  have hcell : cell.filesOk = true := State.filesOk_set hdiode
  have hswitch (P : Fld → Prop) (hen : ∀ g, P g → Reg.BKP_CHG.EN.key ≠ g.key ∨ Reg.BKP_CHG.EN.dom ≠ g.dom)
      (hon : ∀ g, P g → Reg.BKP_STATUS.CHG_ON.key ≠ g.key ∨ Reg.BKP_STATUS.CHG_ON.dom ≠ g.dom) : Spares P cell (s.chgStore v on) :=
    ((Spares.refl P cell).setFlag hen).setFlag hon
  have hrest : Spares (· = Reg.BKP_CHG.TARGET) target cell :=
    Spares.set (by rintro _ rfl; decide) (Spares.set (by rintro _ rfl; decide) (Spares.set (by rintro _ rfl; decide) (Spares.refl _ target)))
  refine ⟨(flag_eq_of_get_eq (get_setFlag_ne (by decide))).trans (flag_setFlag hcell rfl), flag_setFlag (filesOk_setFlag hcell) rfl, ?_, ?_⟩
  · refine ((hswitch (· = Reg.BKP_CHG.CELL) (by rintro _ rfl; decide) (by rintro _ rfl; decide)).get_eq _ rfl).trans ?_
    exact (State.get_set hdiode).trans (Nat.mod_eq_of_lt (bitsOf_lt v 5 3))
  · refine ((hswitch (· = Reg.BKP_CHG.TARGET) (by rintro _ rfl; decide) (by rintro _ rfl; decide)).get_eq _ rfl).trans ((hrest.get_eq _ rfl).trans ?_)
    exact (State.get_set h).trans (Nat.mod_eq_of_lt (bitsOf_lt v 0 2))

theorem chgRefuse_spec (h : s.filesOk = true) : s.chgRefuse.flag Reg.BKP_STATUS.CHG_REFUSED = true ∧
    s.chgRefuse.flag Reg.BKP_CHG.EN = s.flag Reg.BKP_CHG.EN := by
  have hlog : Keeps (logFields (evCode 21 0)) [.evr, .out] (s.setFlag Reg.BKP_STATUS.CHG_REFUSED true) s.chgRefuse :=
    Keeps.log (fun _ m => m) rfl rfl (Keeps.refl _ _ _)
  refine ⟨(flag_eq_of_get_eq (hlog.get (by decide))).trans (flag_setFlag h rfl), ?_⟩
  exact flag_eq_of_get_eq ((hlog.get (by decide)).trans (get_setFlag_ne (by decide)))

/-- A write with the key and a cell: the second of a pair, or the first. -/
def State.chgKeyed (s : State) (who : Requester) (v : Nat) : State :=
  match s.backup.chgFirst with
  | some (x, r, t) =>
    if x = v ∧ r = who ∧ s.time.elapsed - t ≤ 10 * msUnit then
      if chgPermitted (bitsOf v 5 3) (bitsOf v 0 2) then (s.chgStore v true).chgPair none else s.chgRefuse.chgPair none
    else s.chgPair (some (v, who, s.time.elapsed))
  | none => s.chgPair (some (v, who, s.time.elapsed))

theorem chgKeyed_first {v : Nat} (hother : ∀ x r t, s.backup.chgFirst = some (x, r, t) → x ≠ v ∨ r ≠ who ∨ 10 * msUnit < s.time.elapsed - t) :
    s.chgKeyed who v = s.chgPair (some (v, who, s.time.elapsed)) := by
  unfold State.chgKeyed
  split
  · next x r t hfirst =>
    refine if_neg ?_
    rintro ⟨hx, hr, ht⟩
    rcases hother x r t hfirst with hne | hne | hlate
    · exact hne hx
    · exact hne hr
    · exact absurd ht (Nat.not_le.mpr hlate)
  · rfl

theorem chgKeyed_second {v : Nat} {t : Tai} (hfirst : s.backup.chgFirst = some (v, who, t)) (hsoon : s.time.elapsed - t ≤ 10 * msUnit) :
    s.chgKeyed who v =
      if chgPermitted (bitsOf v 5 3) (bitsOf v 0 2) then (s.chgStore v true).chgPair none else s.chgRefuse.chgPair none := by
  simp only [State.chgKeyed, hfirst, hsoon, and_self, if_true]

section
variable {v : Nat} (h : Ready s who)
include h

theorem exec_bkpChgWrite : exec (.bkpChgWrite who v) s = .next
    (if !bitAt v 8 then (s.chgStore v false).chgPair none
    else if bitsOf v 24 8 ≠ 0xC5 then s.chgRefuse.chgPair none
    else if bitsOf v 5 3 = 0 then s.chgPair none
    else s.chgKeyed who v) := by
  refine congrArg Host.Outcome.next ((h.guarded ..).trans ?_)
  rfl

theorem goes_bkpChgWrite_off (hen : bitAt v 8 = false) : Goes (.bkpChgWrite who v) s fun t => t.flag Reg.BKP_CHG.EN = false ∧
    t.flag Reg.BKP_STATUS.CHG_ON = false ∧ t.get Reg.BKP_CHG.CELL = bitsOf v 5 3 ∧ t.backup.chgFirst = none := by
  obtain ⟨hoff, hshown, hcell, -⟩ := chgStore_spec h.1 v false
  exact ⟨_, (exec_bkpChgWrite h).trans (congrArg Host.Outcome.next (if_pos (by simp [hen]))), (flag_eq_of_get_eq (chgPair_get ..)).trans hoff,
    (flag_eq_of_get_eq (chgPair_get ..)).trans hshown, (chgPair_get ..).trans hcell, rfl⟩

theorem goes_bkpChgWrite_wrongKey (hen : bitAt v 8 = true) (hkey : bitsOf v 24 8 ≠ 0xC5) : Goes (.bkpChgWrite who v) s fun t =>
    t.flag Reg.BKP_STATUS.CHG_REFUSED = true ∧ t.flag Reg.BKP_CHG.EN = s.flag Reg.BKP_CHG.EN := by
  obtain ⟨hrefused, hkept⟩ := chgRefuse_spec h.1
  exact ⟨_, (exec_bkpChgWrite h).trans (by rw [if_neg (by simp [hen]), if_pos hkey]), (flag_eq_of_get_eq (chgPair_get ..)).trans hrefused,
    (flag_eq_of_get_eq (chgPair_get ..)).trans hkept⟩

theorem goes_bkpChgWrite_noCell (hen : bitAt v 8 = true) (hkey : bitsOf v 24 8 = 0xC5) (hcell : bitsOf v 5 3 = 0) :
    Goes (.bkpChgWrite who v) s fun t => t.backup.chgFirst = none ∧ Keeps [] [.backup] s t :=
  ⟨s.chgPair none, (exec_bkpChgWrite h).trans (by rw [if_neg (by simp [hen]), if_neg (by simp [hkey]), if_pos hcell]), rfl,
    (Keeps.refl _ _ s).upd rfl rfl rfl rfl⟩

theorem exec_bkpChgWrite_keyed (hen : bitAt v 8 = true) (hkey : bitsOf v 24 8 = 0xC5) (hcell : bitsOf v 5 3 ≠ 0) :
    exec (.bkpChgWrite who v) s = .next (s.chgKeyed who v) :=
  (exec_bkpChgWrite h).trans (by rw [if_neg (by simp [hen]), if_neg (by simp [hkey]), if_neg hcell])

theorem goes_bkpChgWrite_first (hen : bitAt v 8 = true) (hkey : bitsOf v 24 8 = 0xC5) (hcell : bitsOf v 5 3 ≠ 0)
    (hother : ∀ x r t, s.backup.chgFirst = some (x, r, t) → x ≠ v ∨ r ≠ who ∨ 10 * msUnit < s.time.elapsed - t) :
    Goes (.bkpChgWrite who v) s fun t => t.backup.chgFirst = some (v, who, s.time.elapsed) ∧ Keeps [] [.backup] s t :=
  ⟨s.chgPair (some (v, who, s.time.elapsed)), (exec_bkpChgWrite_keyed h hen hkey hcell).trans (congrArg Host.Outcome.next (chgKeyed_first hother)),
    rfl, (Keeps.refl _ _ s).upd rfl rfl rfl rfl⟩

theorem goes_bkpChgWrite_second {t : Tai} (hen : bitAt v 8 = true) (hkey : bitsOf v 24 8 = 0xC5) (hcell : bitsOf v 5 3 ≠ 0)
    (hfirst : s.backup.chgFirst = some (v, who, t)) (hsoon : s.time.elapsed - t ≤ 10 * msUnit) :
    (chgPermitted (bitsOf v 5 3) (bitsOf v 0 2) = true → Goes (.bkpChgWrite who v) s fun u => u.flag Reg.BKP_CHG.EN = true ∧
      u.flag Reg.BKP_STATUS.CHG_ON = true ∧ u.get Reg.BKP_CHG.TARGET = bitsOf v 0 2) ∧
    (chgPermitted (bitsOf v 5 3) (bitsOf v 0 2) = false → Goes (.bkpChgWrite who v) s fun u =>
      u.flag Reg.BKP_STATUS.CHG_REFUSED = true ∧ u.flag Reg.BKP_CHG.EN = s.flag Reg.BKP_CHG.EN) := by
  have hexec := (exec_bkpChgWrite_keyed h hen hkey hcell).trans (congrArg Host.Outcome.next (chgKeyed_second hfirst hsoon))
  refine ⟨fun hpermit => ?_, fun hpermit => ?_⟩
  · obtain ⟨hon, hshown, -, htarget⟩ := chgStore_spec h.1 v true
    exact ⟨_, hexec.trans (congrArg Host.Outcome.next (if_pos hpermit)), (flag_eq_of_get_eq (chgPair_get ..)).trans hon,
      (flag_eq_of_get_eq (chgPair_get ..)).trans hshown, (chgPair_get ..).trans htarget⟩
  · obtain ⟨hrefused, hkept⟩ := chgRefuse_spec h.1
    exact ⟨_, hexec.trans (congrArg Host.Outcome.next (if_neg (by simp [hpermit]))), (flag_eq_of_get_eq (chgPair_get ..)).trans hrefused,
      (flag_eq_of_get_eq (chgPair_get ..)).trans hkept⟩

end

end

/-- Settles O60: each command acts on the state that the ticks it names lead to; counting itself by what it keeps (`calTicks_keeps`) and, without
compensation, by the sum of the ticks (`PlainCount`). -/
theorem calendarCommands : Obligations.CalendarCommands := by
  unfold Obligations.CalendarCommands
  intro s w who ticks now h hnow hw
  have hpower := h.mainPower
  refine ⟨fun hidle => hw.trans (calTicks_idle hidle), fun hcount hcomp => ⟨held_counts h.1 hw hcount hcomp, fun hhold hsync hleap => ?_⟩,
    congrArg Host.Outcome.next hw.symm, congrArg Host.Outcome.next hw.symm, goes_rtcSecLatch h.1 hw, fun hrun => ⟨?_, goes_rtcHold h hw hrun⟩,
    fun hhold => ⟨?_, goes_rtcHoldClear h hw hhold, goes_rtcHoldClear_refused h hw hhold⟩,
    fun t => ⟨fun q hsync hhold hlocked hwhole hutc hin hmul => ?_, exec_rtcAutoSync_idle⟩, fun temp => goes_tempCompPeriod h.1,
    goes_osfClear h, exec_osfClear_idle h, goes_tcompSave h, goes_tcompSaveDone h.1, goes_oscillatorStop h.1 hpower,
    goes_crystalEdgesResume s, goes_firstBackupPower s, congrArg Host.Outcome.next (if_pos hpower),
    fun r hr hoff => ⟨goes_vbatBrownOut hr hoff, fun absent mv => ⟨?_, ?_⟩⟩, goes_vbatAbsent h.1 hpower, fun _ => goes_vbatMeasure h.1 hpower,
    fun v => ⟨goes_bkpChgWrite_off h, goes_bkpChgWrite_wrongKey h, goes_bkpChgWrite_noCell h,
      fun hen hkey hcell => ⟨goes_bkpChgWrite_first h hen hkey hcell, fun t => goes_bkpChgWrite_second h hen hkey hcell⟩⟩⟩
  · have hplain : PlainCount s := ⟨hcount, hcomp, hhold, hsync, hleap⟩
    exact ⟨hplain.adds hpower hnow hw, hplain.alarms h hnow, hplain.ends h.1 hnow⟩
  · rw [exec_rtcHoldClear h hw, if_pos (by simp [hrun])]
  · rw [exec_rtcHold h hw, if_pos hhold]
  · exact SyncDue.goes ⟨hsync, hhold, hlocked, hwhole, hutc, hin, hmul⟩ h.1
  · exact congrArg Host.Outcome.next (if_neg (by simpa using hoff))
  · exact congrArg Host.Outcome.next (if_neg (by simpa using hoff))

end Sys2Proof.Machine
